-- ==== Sys2Proof/Word.lean ====
section
/-! DEFINITION. The plain types that every other file uses: bytes, words, flag registers, and the
shape of a sparse table. -/

namespace Sys2Proof

/-- One byte (00_scope, R6). -/
abbrev Byte := BitVec 8

/-- A 16-bit flag register, read whole by software (R82, R110, R133, R189, R190, R208, ...). -/
abbrev Flags := BitVec 16

/-- A sparse table: keys strictly rising, and no entry whose value is the table's default. -/
abbrev Table (α : Type) := List (Nat × α)

/-- The value of a dictionary member: a number (BOOL, U, S, Q16, WARP, CAL) or a run of bytes
(STR, BLOB) (11_object_dictionary, R242). -/
inductive Val where
  | num (v : Int)
  | bytes (b : List Byte)
  deriving DecidableEq, Repr

end Sys2Proof
end

