-- ==== Sys2Proof/Syntax.lean ====
section
/-! DEFINITION. The commands of the block: one constructor of `Instr` for each row of
spec/opcode_table.json, with its operands. What only the environment knows (a current, a voltage, a
stamp, a frame from a bus, the error of a lane) is an operand of the event that brings it. -/

namespace Sys2Proof

/-- The sessions of R246. -/
inductive Sess where
  | host
  | can (x node : Nat)
  | rules
  | events
  | selvedge
  /-- The module itself, which writes level-4 members from a Wailuzan-signed image (R248). -/
  | image
  deriving DecidableEq, Repr

/-- How a host frame arrived (R270). A CAN request that reaches the services is always `ok`. -/
inductive FrameCond where
  | ok
  | badCrc
  | badForm
  deriving DecidableEq, Repr

/-- What carries a request: the session, the TAG, the condition of the frame, and for a CAN request its
PRIORITY and DEST (R269, R281). -/
structure Env where
  sess : Sess
  tag : Nat
  frame : FrameCond
  prio : Nat
  dest : Nat
  deriving DecidableEq, Repr

/-- One item of a SEGMENT transfer (R276). -/
structure SegItem where
  obj : Nat
  mem : Nat
  flags : Nat
  deriving DecidableEq, Repr

/-- Why the supervisor declares a clock and time-base failure (R38). -/
inductive ClockFail where
  | mainStopped
  | rtcStopped
  | disagree
  | warpStalled
  | cycleRange
  deriving DecidableEq, Repr

/-- Which calendar-domain event is due (R53, R69, R80). -/
inductive CalEvent where
  | circuit (c : Nat)
  | user (e : Nat)
  deriving DecidableEq, Repr

/-- What a lane adds to the true results of one evaluation: to the limited output u and to each section output. -/
structure LaneDev where
  u : Int := 0
  ys : List Int := []
  deriving DecidableEq, Repr

/-- The error each lane makes in a sample: first evaluation of the active pair (`p`, `q`), then the
re-evaluation on lanes A, B, S (R98, R99). All without deviation in a healthy engine. -/
structure LaneErr where
  p : LaneDev
  q : LaneDev
  ra : LaneDev
  rb : LaneDev
  rs : LaneDev
  deriving DecidableEq, Repr

/-- What a noise measurement finds on one converter: the sum of its 4096 codes and the sum of their squares (R154). -/
structure NoiseSum where
  sum : Nat
  squares : Nat
  deriving DecidableEq, Repr

/-- The converters (R134). -/
inductive Adc where
  | a
  | b
  | c
  deriving DecidableEq, Repr

/-- An abnormal AO load (R156). -/
inductive AoFault where
  | open_
  | short
  deriving DecidableEq, Repr

/-- The on-state conditions of R185. -/
inductive OnDiag where
  | openOn
  | shortGnd
  deriving DecidableEq, Repr

/-- The informing output diagnostics of R199. -/
inductive IoDiag where
  | openLoad
  | shortLplus
  deriving DecidableEq, Repr

/-- The two memories (R337). -/
inductive MemKind where
  | sram
  | mram
  deriving DecidableEq, Repr

/-- The frame on a CAN bus (R301). -/
structure CanFrame where
  id : Nat
  ide : Bool
  fdf : Bool
  brs : Bool
  rtr : Bool
  esi : Bool
  data : List Byte
  len : Nat
  deriving DecidableEq, Repr

/-- A frame as a controller hears it: the frame, and the engine clocks since its start of frame was sampled (R301). -/
structure RxFrame where
  frame : CanFrame
  age : Nat
  deriving DecidableEq, Repr

/-- The onset of the hold-up load (R411): the step in VHOLD in µV and the load current in µA. -/
structure HoldupOnset where
  step : Nat
  current : Nat
  deriving DecidableEq, Repr

/-- The hold-up load after its onset (R411): the charge drawn in nC and the fall in VHOLD in µV. -/
structure HoldupDrain where
  charge : Nat
  fall : Nat
  deriving DecidableEq, Repr

/-- The type of a CAN error (R307): LAST_ERROR codes 1 to 5. -/
inductive CanErrKind where
  | bit
  | stuff
  | crc
  | form
  | ack
  deriving DecidableEq, Repr

/-- The learned values of a lighting circuit (R64). `polarity`: `some true` is a positive-going zero. -/
structure CircLearn where
  latMean : Nat
  latSpread : Nat
  latCount : Nat
  relMean : Nat
  curLag : Nat
  polarity : Option Bool
  deriving DecidableEq, Repr

/-- A record of the event log as the rules describe it (R398). `payload` is at most 8 bytes. -/
structure LogRec where
  type : Nat
  flags : Nat
  seq : Nat
  warpAt : Nat
  calAt : Nat
  payload : List Byte
  deriving DecidableEq, Repr

/-- One item of a MIRROR frame (R321). -/
inductive MirrorItem where
  | loop (n : Nat) (u spRamp : Int) (mode : Nat) (manOut : Int) (modeActive : Nat) (rcTerm : Int)
  | channel (heddle : Nat) (cmd : Int) (vlvState band : Nat)
  | circuit (c state override : Nat) (learn : CircLearn)
  | zone (z mode : Nat) (sp : Int) (prestartAt : Nat) (heat cool : Int)
  | jacquard (v : Nat) (learned : List Nat) (at_ : Nat)
  | profile (n : Nat) (kind cycles bins : Nat) (values : List Int)
  | display (shown : List Byte) (ledger : List Int) (dispState : Nat) (running : List (Nat × Nat × Nat))
  | calendar (now calState : Nat)
  | log (r : LogRec)
  deriving DecidableEq, Repr

/-- What an ALIVE frame holds (R317). -/
structure AliveInfo where
  role : Nat
  pairState : Nat
  schema : Nat
  fw : Nat
  gen : Nat
  nodeId : Nat
  warpCycle : Nat
  deciding : Bool
  deriving DecidableEq, Repr

/-- The five parts a joining standby receives, in order (R334). -/
inductive JoinPart where
  | configuration (gen : Nat) (cfg : List (Nat × Val))
  | learned (items : List MirrorItem)
  | profiles (items : List MirrorItem)
  | ledgers (items : List MirrorItem)
  | mirror (items : List MirrorItem)
  deriving DecidableEq, Repr

/-- One configuration copy as the resolution finds it (R263, R265). -/
structure CfgCopy where
  gen : Nat
  schema : Nat
  intact : Bool
  blank : Bool
  content : List (Nat × Val)
  deriving DecidableEq, Repr

/-- The commands: operations and events of spec/opcode_table.json, in the table's order. -/
inductive Instr where
  -- dictionary services, host port, configuration, updates
  | read (env : Env) (obj mem flags : Nat)
  | write (env : Env) (obj mem : Nat) (data : List Byte)
  | commit (env : Env)
  | abort (env : Env)
  | segmentInitRead (env : Env) (count : Nat) (items : List SegItem)
  | segmentInitWrite (env : Env) (count total : Nat) (items : List SegItem)
  | segmentData (env : Env) (offset count : Nat) (data : List Byte)
  | segmentEnd (env : Env)
  | segmentCancel (env : Env)
  | segmentTimeout (sess : Sess)
  | bulkRead (env : Env) (count offset : Nat)
  | bulkWrite (env : Env) (count offset : Nat) (data : List Byte)
  | event (env : Env) (max : Nat)
  | fetch (frame : FrameCond) (clocked : Nat)
  | hostPortReset
  | pendingTimeout (sess : Sess)
  | accessRequest (env : Env) (data : List Byte)
  | accessCode (env : Env) (data : List Byte)
  | codeLockoutEnd (sess : Sess)
  | accessTimeout (sess : Sess)
  | copyWriteComplete (ok : Bool)
  | persistentRwGeneration
  | imageKind (env : Env) (data : List Byte)
  | imageChunk (env : Env) (data : List Byte)
  | imageVerify (env : Env) (data : List Byte)
  | verifyComplete
  | imageActivate (env : Env) (data : List Byte)
  | fwConfirm (env : Env) (data : List Byte)
  | confirmTimeout
  | heartbeat
  | hostTimeout
  -- Warp and calendar
  | warpCycleStart
  | mainsZero (period ampl : Nat) (err : Int)
  | zeroMissing
  | holdoverExpiry
  | alignResponse (warpNow : Nat)
  | alignRetry
  | clockFailure (cause : ClockFail)
  | calNow (env : Env) (data : List Byte)
  | calSlew (env : Env) (data : List Byte)
  | gridEvaluation
  | astroComputation
  | crystalCompensation
  -- Loom
  | armedSetSeal
  | armedCommand
  | calendarEventDue (ev : CalEvent)
  | transitionTimeout (c : Nat)
  | minOnOffExpiry (c : Nat)
  | learnedPersist
  | learnReset (env : Env) (c : Nat) (data : List Byte)
  | override (env : Env) (c : Nat) (data : List Byte)
  | ruleRound (overran : Bool)
  | arm (env : Env) (e : Nat) (data : List Byte)
  | userEventAct (e : Nat)
  -- control engine and loop modes
  | sampleTimer (n : Nat)
  | warpSample (n : Nat)
  | loopSample (n : Nat) (err : LaneErr)
  | laneTest (lane : Nat) (ok : Bool)
  | statsReset (env : Env) (n : Nat) (data : List Byte)
  | mode (env : Env) (n : Nat) (data : List Byte)
  | manOut (env : Env) (n : Nat) (data : List Byte)
  | rcClear (env : Env) (n : Nat) (data : List Byte)
  | profile (env : Env) (n : Nat) (data : List Byte)
  | profileSave
  | optimumStart
  | prestartTimeout (z : Nat)
  | osLearnReset (env : Env) (z : Nat) (data : List Byte)
  -- measurement and analogue outputs
  | mtExpiry (m : Nat)
  | conversionDue (t : Nat)
  | conversionStart (adc : Adc)
  | continuousSlot (pos : Nat)
  | conversionComplete (adc : Adc) (l lB raw rawB : Int)
  | housekeepingRound
  | aiScan
  | shuntTrip (k : Nat)
  | shuntReclose (k : Nat)
  | aiClampEvent (k : Nat) (driven : Bool)
  | recoveringEnd (k : Nat)
  | noiseMeasurement (noiseA noiseB : NoiseSum)
  | aoCmd (env : Env) (a : Nat) (data : List Byte)
  | aoFault (a : Nat) (kind : AoFault)
  | aoStatusClear (a : Nat)
  -- Jacquard
  | vlvCmd (env : Env) (v : Nat) (data : List Byte) (sense : Nat)
  | propCmd (env : Env) (v : Nat) (data : List Byte)
  | pulseExpiry (v : Nat)
  | cardStart (v : Nat)
  | cardNop (v : Nat)
  | cardRail (v : Nat)
  | cardDecay (v : Nat)
  | cardChop (v : Nat)
  | cardDrive (v : Nat)
  | cardOff (v : Nat)
  | cardGrant (v : Nat)
  | cardRelease (v : Nat)
  | cardWait (v : Nat)
  | cardWseat (v : Nat)
  | cardWcmd (v : Nat)
  | cardWdrop (v : Nat)
  | cardSeatcfg (v : Nat)
  | cardMarkh (v : Nat)
  | cardJmp (v : Nat)
  | cardJcmd (v : Nat)
  | cardJlt (v current : Nat)
  | cardJrlt (v : Nat)
  | cardLstep (v : Nat)
  | cardLsave (v : Nat)
  | cardFlag (v : Nat)
  | cardEnd (v : Nat)
  | budgetGranted (b : Nat)
  | waitExpiry (v : Nat)
  | seatDetected (v stamp eCoil eMag : Nat)
  | wseatTimeout (v : Nat)
  | dropoutDetected (v : Nat)
  | wdropTimeout (v : Nat)
  | decayComplete (v : Nat)
  | chopperPeriodStart (v : Nat)
  | chopperOffEdge (v : Nat)
  | learnWindowGrant (v : Nat)
  | wait5200Expiry (v : Nat)
  | coilResMeasured (v milliohm : Nat)
  | channelTrip (v : Nat)
  | bankTrip (b : Nat)
  | offStateTest (v : Nat) (openOff shortGnd shortSupply : Bool)
  | onStateDiag (v : Nat) (kind : OnDiag) (present : Bool)
  | vlvDiagClear (env : Env) (v : Nat) (data : List Byte)
  | cardImage (env : Env) (j : Nat) (data : List Byte)
  -- isolated field I/O
  | ioInputSample (i : Nat) (millivolt : Int) (microamp : Nat)
  | ioFilterExpiry (i : Nat)
  | tachEdge (i : Nat)
  | ioCmd (env : Env) (i : Nat) (data : List Byte)
  | ioCurrentLimit (i : Nat) (current : Int)
  | ioThermalShutdown (i : Nat)
  | ioThermalRestart (i : Nat)
  | groupShed (g : Nat) (currents : List Int)
  | groupReinstate (g : Nat)
  | ioOutputDiag (i : Nat) (kind : IoDiag) (present : Bool)
  | ioDiagClear (env : Env) (i : Nat) (data : List Byte)
  | barrierFrame (crcOk : Bool) (power : Nat)
  | barrierLinkDown
  | fwdRefresh
  | fwdTrip
  | barrierSupplyLoss
  | fwdRearm (env : Env) (data : List Byte)
  | supplyLost (g : Nat)
  | supplyReturn (g : Nat)
  | ioModeChangeEnd (i : Nat)
  -- fans
  | pwmPeriodStart (k : Nat)
  | pwmCentre (k : Nat)
  | fanCmd (env : Env) (f : Nat) (data : List Byte)
  | speedEvaluation (f : Nat) (measured : Int)
  | listenEnd (k : Nat) (locked forward : Bool) (speed : Int)
  | zeroVectorEnd (k : Nat)
  | alignEnd (k : Nat)
  | observerLock (k : Nat)
  | startAttemptFail (k : Nat)
  | pauseEnd (k : Nat)
  | blockedRestEnd (k : Nat)
  | phaseTrip (k : Nat)
  | lockLost (k : Nat)
  | fanRestart (k : Nat)
  | ecTachLoss (e : Nat) (mean : Int)
  | tableRead (f : Nat)
  | fanDiagClear (env : Env) (f : Nat) (data : List Byte)
  -- display
  | frameStart
  | rowSlot
  | displayBandEval
  | image (env : Env) (data : List Byte)
  | row (env : Env) (r : Nat) (data : List Byte)
  | updateRoundStart
  | updateRoundEnd
  | ledgerReset (env : Env) (data : List Byte)
  | vlcdFault (millivolt : Nat)
  | dispModeSwitchEnd
  -- memory and repair
  | scrubRead (errs : List Nat)
  | correctedWriteback (mem : MemKind) (offset : Nat)
  | heddleRewrite (entry : Nat)
  | spareMoveComplete
  | invalidate (env : Env) (data : List Byte)
  | invalidationComplete
  -- thermal
  | thermalEvaluation
  | dieRestart (die : Nat)
  | thermClear (env : Env) (data : List Byte)
  -- functional safety
  | readbackCheck (readings : List (Nat × Int))
  | checkpoint (core : Nat) (inOrder last : Bool)
  | watchdogExpiry
  | safeToggle
  | autoRestart
  | safetyClear (env : Env) (data : List Byte)
  | safetyReset (env : Env) (data : List Byte)
  | safetyTest (env : Env) (data : List Byte)
  | safetyLock (env : Env) (data : List Byte)
  | safetyPubkey (env : Env) (data : List Byte)
  | safetyChallenge (env : Env)
  | challengeExpiry (sess : Sess)
  | safetyResponse (env : Env) (data : List Byte)
  -- Selvedge
  | aliveTimer
  | alive (lane : Nat) (crcOk : Bool) (info : AliveInfo)
  | mirror (lane : Nat) (crcOk : Bool) (items : List MirrorItem)
  | mirrorSend (heddles : List Nat)
  | config (lane : Nat) (crcOk : Bool) (gen : Nat) (changes : List (Nat × Val))
  | join (lane : Nat) (crcOk : Bool) (part : JoinPart)
  | relinquish (lane : Nat) (crcOk : Bool)
  | taken (lane : Nat) (crcOk : Bool)
  | selvedgeLaneDown (lane : Nat)
  | selvedgeLinkDown
  | selRoleToggle
  | selPeerEdge
  | selPeerIdle
  | roleDecisionTimeout
  | dualActive
  | peerHeartbeat (node role : Nat)
  | takeover
  | switchover (env : Env) (data : List Byte)
  | takenTimeout
  | forceTakeover (env : Env) (data : List Byte)
  -- CAN FD
  | txFrame (env : Env) (x : Nat) (data : List Byte)
  | txCancel (env : Env) (x : Nat) (data : List Byte)
  | canTxComplete (x : Nat)
  | canFrameReceived (x : Nat) (frame : RxFrame)
  | rxAck (env : Env) (x o : Nat) (data : List Byte)
  | record (env : Env) (x o : Nat)
  | canError (x : Nat) (kind : CanErrKind) (transmitting : Bool) (amount : Nat)
  | busoffHoldoffEnd (x : Nat)
  | recover (env : Env) (x : Nat) (data : List Byte)
  | busOffRecovered (x : Nat)
  | loneRetry (x : Nat)
  | rateCandidateTimer (x : Nat)
  | reintegrationDone (x : Nat)
  | urgentDiscard (x : Nat)
  | txDomTimeout (x : Nat)
  | sleepReq (env : Env) (x : Nat) (data : List Byte)
  | sleepEntry (x : Nat)
  | dominantWake (x nanoseconds : Nat)
  | wakeFrame (x : Nat) (frame : CanFrame)
  | wakeErrorCount (x : Nat) (error : Bool)
  | trxOvertemp (x : Nat) (hot : Bool)
  | canTriggerFrame (x dest source : Nat) (data : List Byte)
  -- snapshots and log
  | snapTrigger (env : Env) (data : List Byte)
  | trigInEdge (rising : Bool)
  | armAt (env : Env) (slot : Nat) (data : List Byte)
  | armAtReached (slot : Nat)
  | captureCopyComplete
  | trigOutEnd
  | snapRelease (env : Env) (slot : Nat) (data : List Byte)
  | logWrite
  | logRecord (env : Env)
  -- power and start-up
  | resetRelease
  | resetN (level : Bool)
  | powerLoss
  | bootRomDone
  | signatureCheckDone (badBoot badOther : List Nat)
  | repairMapResolve
  | memorySelfTest (sramFails mramFails : List (Nat × Nat))
  | configResolution (vrtc rtcSec rtcFrac : Nat)
  | warpStepEnd
  | operational
  | outputRelease
  | holdupMeasurement
  | holdupMeasureEnd (onset : HoldupOnset) (drain : HoldupDrain)
  | vinSag
  | saveDone (bytes : Nat)
  | brownoutClear
  | slewEnd
  deriving DecidableEq, Repr

end Sys2Proof
end

