-- ==== Sys2Proof/Config.lean ====
section
/-! DEFINITION. What one unit fixes and the manual does not give, and the free values. Each is a constant
without a body, so that nothing proved can lean on its value (notes/assumptions/8). -/

namespace Sys2Proof.Config

/-- The module is an SHN6400-E (R2): it changes PRODUCT only. -/
opaque variantE : Bool

/-- SERIAL of the unit, at most 64 bytes (R267). -/
opaque serial : List Byte

/-- The Wailuzan public key in boot ROM, x then y (R285). -/
opaque wailuzanKey : List Byte

/-- The Twikar key, the default of CFG_PUBKEY (R291). -/
opaque twikarKey : List Byte

/-- Random bytes of SAFETY_CHALLENGE: the n-th byte ever drawn (R384). -/
opaque randomByte : Nat → Byte

/-- A number the manual leaves open, one for each count of `State.free`. -/
opaque freeValue : Nat → Nat

/-- The members that the body of a configuration image holds, each with the bytes of its value. The manual does not give
how the body sets them apart (R285); `none`: the body is malformed. -/
opaque decodeConfigImage : List Byte → Option (List (Nat × List Byte))

/-- By how many seconds the module's event k (0–7, R49) of a local date at a latitude and longitude (Q16 degrees) lies
beside the true one: used within ±60 up to 65° of latitude. The manual gives the accuracy, not the algorithm. -/
opaque astroDeviation : Nat → Int → Int → Nat → Int

/-- The flag of an event on a date on which only the opposite event occurs (R50 has none for it): used modulo 2. -/
opaque astroFlag : Nat → Int → Int → Nat → Nat

/-- The share of a phase error that the PLL takes up in one cycle at a PLL_BW, in 1/65536; used within 1 to 65536. The
manual gives the bandwidth, not the filter (R33). -/
opaque pllGain : Nat → Nat

/-- Which of the free pool sections a loop gets next: an index, taken modulo their number (R104, R108). -/
opaque poolPick : Nat → Nat → Nat

/-- Factory predictions of the die sensors, OFF_ij in Q16 K (R360). -/
opaque factoryOff : Nat → Nat → Int

/-- VREF_CORR in 0.01 ppm at a Q16 temperature: the factory curve of the reference (R368). -/
opaque vrefCorr : Int → Int

/-- L+ of field group A–D (0–3) in mV at an engine clock: what LPLUS reads (R207). -/
opaque fieldSupply : Nat → Nat → Nat

/-- One LSB of ADC A (0) and ADC B (1) at the sampling capacitor in pV, which the manual does not give (R154). -/
opaque adcLsb : Nat → Nat

/-- BLOCK_DATA of a heddle entry: entry, byte, generation (R352: a layout that is not published). -/
opaque blockData : Nat → Nat → Nat → Byte

/-- The lane that carries the n-th frame other than ALIVE and RELINQUISH while both are up, modulo 2: R317 spreads them. -/
opaque frameLane : Nat → Nat

/-- The rising threshold of an input in mV: channel and IN_TYPE; used within the limits of R192. -/
opaque inThreshold : Nat → Nat → Nat

/-- The hysteresis of an input in mV; used within the limits of R192. -/
opaque inHysteresis : Nat → Nat → Nat

/-- What a member reads whose value lies outside its type: the member's size in bytes, the value. The manual gives its
counters and results no behaviour there. -/
opaque outsideType : Nat → Int → Nat

/-- Whether a member is unknown to an older schema: SCHEMA_VERSION, member key (R332). -/
opaque memberUnknown : Nat → Nat → Bool

/-- Words of the card ROM outside the three built-in cards (R171). -/
opaque romWord : Nat → Nat

end Sys2Proof.Config
end

