-- ==== Sys2Proof/Machine/Flags.lean ====
section
/-! DEFINITION. Bits of a flag register, read and written by number (R82, R110, R133, R157, R189, R190,
R208, R223, R240, R315, R336, R357, R370, R390, R422). -/

namespace Sys2Proof.Machine

/-- Bit `i` of a flag register. -/
def Flag.get (f : Flags) (i : Nat) : Bool := f.getLsbD i

/-- A flag register with bit `i` set to `b`. -/
def Flag.set (f : Flags) (i : Nat) (b : Bool) : Flags :=
  if b then f ||| (1#16 <<< i) else f &&& ~~~(1#16 <<< i)

end Sys2Proof.Machine
end

