-- ==== Sys2Proof/Machine/Table.lean ====
section
/-! DEFINITION. Sparse tables in one canonical form, and plain list helpers. -/

namespace Sys2Proof.Machine

/-- The entry of key `k`, or the default `d k`. -/
def Table.getD {α : Type} (d : Nat → α) : Table α → Nat → α
  | [], k => d k
  | (j, v) :: t, k => if j = k then v else Table.getD d t k

/-- Insert without looking at the default: keeps keys strictly rising. -/
def Table.put {α : Type} : Table α → Nat → α → Table α
  | [], k, v => [(k, v)]
  | (j, w) :: t, k, v =>
    if k < j then (k, v) :: (j, w) :: t
    else if k = j then (k, v) :: t
    else (j, w) :: Table.put t k v

/-- Remove key `k`. -/
def Table.del {α : Type} : Table α → Nat → Table α
  | [], _ => []
  | (j, w) :: t, k => if j = k then Table.del t k else (j, w) :: Table.del t k

/-- Write `v` at `k`: writing the default removes the entry, so equal tables are equal lists. -/
def Table.set {α : Type} [DecidableEq α] (d : Nat → α) (t : Table α) (k : Nat) (v : α) : Table α :=
  if v = d k then Table.del t k else Table.put t k v

/-- Apply `f` to the entry of `k`. -/
def Table.modify {α : Type} [DecidableEq α] (d : Nat → α) (t : Table α) (k : Nat) (f : α → α) :
    Table α :=
  Table.set d t k (f (Table.getD d t k))

/-- Every listed key is above `k`. -/
def Table.above {α : Type} (k : Nat) : Table α → Bool
  | [] => true
  | (j, _) :: t => decide (k < j) && Table.above k t

/-- The canonical form: keys strictly rising and no entry equal to its default. -/
def Table.wf {α : Type} [DecidableEq α] (d : Nat → α) : Table α → Bool
  | [] => true
  | (j, v) :: t => Table.above j t && decide (v ≠ d j) && Table.wf d t

/-- Write a run of values at consecutive keys. -/
def Table.setRun {α : Type} [DecidableEq α] (d : Nat → α) (t : Table α) (k : Nat) :
    List α → Table α
  | [] => t
  | v :: vs => Table.setRun d (Table.set d t k v) (k + 1) vs

/-- Read a run of values at consecutive keys. -/
def Table.getRun {α : Type} (d : Nat → α) (t : Table α) (k n : Nat) : List α :=
  (List.range n).map fun i => Table.getD d t (k + i)

/-- The i-th element of a list, or `d`. -/
def nth {α : Type} (d : α) : List α → Nat → α
  | [], _ => d
  | x :: _, 0 => x
  | _ :: t, i + 1 => nth d t i

/-- Replace the i-th element of a list. -/
def setNth {α : Type} : List α → Nat → α → List α
  | [], _, _ => []
  | _ :: t, 0, v => v :: t
  | x :: t, i + 1, v => x :: setNth t i v

/-- The last `n` elements of a list. -/
def lastN {α : Type} (n : Nat) (l : List α) : List α :=
  l.drop (l.length - n)

/-- The first index from `i` up to (not including) `i + n` that satisfies `p`. -/
def findIdx (p : Nat → Bool) (i : Nat) : Nat → Option Nat
  | 0 => none
  | n + 1 => if p i then some i else findIdx p (i + 1) n

/-- Remove the first element that satisfies `p`. -/
def eraseFirst {α : Type} (p : α → Bool) : List α → List α
  | [] => []
  | x :: t => if p x then t else x :: eraseFirst p t

end Sys2Proof.Machine
end

