-- ==== Sys2Proof/Machine/Bits.lean ====
section
/-! DEFINITION. Bytes, rounding, saturation and the two checksums of the manual. -/

namespace Sys2Proof.Machine

/-- Engine clocks in one second: the 400 MHz engine clock of R9. -/
def clkPerSec : Nat := 400000000

/-- Engine clocks in one millisecond. -/
def clkPerMs : Nat := 400000

/-- Engine clocks in one microsecond. -/
def clkPerUs : Nat := 400

/-- Engine clocks in `n` seconds, milliseconds and microseconds. -/
def secs (n : Nat) : Nat := clkPerSec * n
def msecs (n : Nat) : Nat := clkPerMs * n
def usecs (n : Nat) : Nat := clkPerUs * n

/-- The instant `n` engine clocks after `t`. -/
def after (t n : Nat) : Nat := n + t

/-- `n` bytes of a number, least significant byte first (R6). -/
def leBytes : Nat → Nat → List Byte
  | 0, _ => []
  | n + 1, v => BitVec.ofNat 8 v :: leBytes n (v / 256)

/-- The number that bytes spell, least significant byte first (R6). -/
def leNat : List Byte → Nat
  | [] => 0
  | b :: t => b.toNat + 256 * leNat t

/-- The number that bytes spell, most significant byte first (R285, R384). -/
def beNat (l : List Byte) : Nat := leNat l.reverse

/-- The two's complement value of the low `w` bits of `v`. -/
def signed (w v : Nat) : Int :=
  let u := v % 2 ^ w
  if u < 2 ^ (w - 1) then (u : Int) else (u : Int) - 2 ^ w

/-- The unsigned image of an integer in `w` bits. -/
def unsigned (w : Nat) (v : Int) : Nat := (v % (2 ^ w : Int)).toNat

/-- Saturation to S32 (R85, R88). -/
def sat32 (v : Int) : Int :=
  if v > 2147483647 then 2147483647 else if v < -2147483648 then -2147483648 else v

/-- `v` kept within `lo` and `hi`: min(max(v, lo), hi) (R86). -/
def clampInt (lo hi v : Int) : Int := min (max v lo) hi

/-- The quotient rounded to nearest, half away from zero; 0 when the divisor is 0. -/
def roundDiv (a b : Int) : Int :=
  if b = 0 then 0
  else
    let n := a.natAbs
    let d := b.natAbs
    let q := ((2 * n + d) / (2 * d) : Nat)
    if (a < 0) = (b < 0) then (q : Int) else -(q : Int)

/-- Shift right by `n` bits, rounded half away from zero (R85, R88). -/
def roundShift (a : Int) (n : Nat) : Int := roundDiv a (2 ^ n)

/-- A value with binary point `p` taken over with binary point `q` (R85): fraction bits added exactly or
rounded half away from zero, then saturated. -/
def convPoint (p q : Nat) (v : Int) : Int :=
  if q ≥ p then sat32 (v * 2 ^ (q - p)) else sat32 (roundShift v (p - q))

/-- The largest r with r * r ≤ v, by `fuel` halvings of an interval. -/
def isqrtGo : Nat → Nat → Nat → Nat → Nat
  | 0, lo, _, _ => lo
  | fuel + 1, lo, hi, v =>
    if lo + 1 ≥ hi then lo
    else
      let m := (lo + hi) / 2
      if m * m ≤ v then isqrtGo fuel m hi v else isqrtGo fuel lo m v

/-- The integer square root. -/
def isqrt (v : Nat) : Nat := isqrtGo (Nat.log2 v + 2) 0 (v + 1) v

/-- The square root rounded to nearest, half up. -/
def sqrtRound (v : Nat) : Nat :=
  let r := isqrt v
  if v ≥ r * r + r + 1 then r + 1 else r

/-- One bit of a CRC that shifts left. -/
def crc16Bit (c : Nat) : Nat :=
  if c ≥ 0x8000 then ((c * 2) ^^^ 0x1021) % 0x10000 else c * 2

/-- The CRC-16/CCITT of a host frame (R269): polynomial 0x1021, initial 0xFFFF, no reflection. -/
def crc16 (l : List Byte) : Nat :=
  l.foldl (fun c b =>
    let c0 := c ^^^ (b.toNat * 256)
    crc16Bit (crc16Bit (crc16Bit (crc16Bit (crc16Bit (crc16Bit (crc16Bit (crc16Bit c0)))))))) 0xFFFF

/-- One bit of the reflected CRC-32. -/
def crc32Bit (c : Nat) : Nat :=
  if c % 2 = 1 then (c / 2) ^^^ 0xEDB88320 else c / 2

/-- One byte of the CRC-32 of R451, without the final XOR. -/
def crc32Byte (c : Nat) (b : Byte) : Nat :=
  let c0 := c ^^^ b.toNat
  crc32Bit (crc32Bit (crc32Bit (crc32Bit (crc32Bit (crc32Bit (crc32Bit (crc32Bit c0)))))))

/-- The CRC-32 of R451: polynomial 0x04C1_1DB7, reflected, initial and final XOR 0xFFFF_FFFF. -/
def crc32 (l : List Byte) : Nat := (l.foldl crc32Byte 0xFFFFFFFF) ^^^ 0xFFFFFFFF

/-- Q16 value of an integer. -/
def q16 (v : Int) : Int := v * 65536

/-- `l` filled with 0x00 to `n` bytes, or cut to `n` bytes. -/
def padTo (n : Nat) (l : List Byte) : List Byte := (l ++ List.replicate n 0#8).take n

/-- Well-formed UTF-8: scan with the number of continuation bytes still wanted and the least and
greatest value the next one may have. -/
def utf8Go : List Byte → Nat → Nat → Nat → Bool
  | [], n, _, _ => n == 0
  | b :: t, 0, _, _ =>
    let v := b.toNat
    if v < 0x80 then utf8Go t 0 0 0
    else if 0xC2 ≤ v && v ≤ 0xDF then utf8Go t 1 0x80 0xBF
    else if v == 0xE0 then utf8Go t 2 0xA0 0xBF
    else if v == 0xED then utf8Go t 2 0x80 0x9F
    else if 0xE1 ≤ v && v ≤ 0xEF then utf8Go t 2 0x80 0xBF
    else if v == 0xF0 then utf8Go t 3 0x90 0xBF
    else if 0xF1 ≤ v && v ≤ 0xF3 then utf8Go t 3 0x80 0xBF
    else if v == 0xF4 then utf8Go t 3 0x80 0x8F
    else false
  | b :: t, n + 1, lo, hi =>
    let v := b.toNat
    if lo ≤ v && v ≤ hi then utf8Go t n 0x80 0xBF else false

/-- Whether bytes are well-formed UTF-8 (R243). -/
def isUtf8 (l : List Byte) : Bool := utf8Go l 0 0 0

/-- The sign of a difference. -/
def sgn (v : Int) : Int := if 0 < v then 1 else if v < 0 then -1 else 0

end Sys2Proof.Machine
end

