-- ==== Sys2Proof/Machine/State.lean ====
section
/-! DEFINITION. The state of the block as plain data: every register, queue, buffer, counter, mode and
pin the spec gives it, the queue of waiting commands, and the state right after reset. The default of
a field is its value at reset (INVENTORY.md, State). Times named "clk" are engine clocks (R9). -/

namespace Sys2Proof.Machine

/-! ### Power, start-up, hold-up (19_power_and_holdup) -/

/-- Where the module stands between reset and release (R407–R409, R414, R365). -/
inductive Phase where
  | reset
  | boot
  | signature
  | repairMap
  | memTest
  | config
  | warp
  | recovery
  | operational
  | released
  | held
  | saving
  | done
  | dieHold
  deriving DecidableEq, Repr

/-- The restart record of tier 4 (R415): command members of dictionary-owned outputs, and for each
circuit OVERRIDE 3 or 4 with the engine clocks of MIN_ON or MIN_OFF left. -/
structure RestartRec where
  cmds : List (Nat × Val) := []
  circuits : List (Nat × Nat × Nat) := []
  deriving DecidableEq, Repr

/-- The display records of R236. -/
structure DispRec where
  /-- The half frame that the last power loss or suspension in TN mode interrupted was negative. -/
  half : Option Bool := none
  /-- What the last power loss did to a round: 0 nothing, 1 completed it, 2 interrupted it. -/
  outcome : Nat := 0
  ledger : List (Nat × Int) := []
  shown : List Byte := []
  /-- (segment, a, b) of each interrupted segment. -/
  interrupted : List (Nat × Nat × Nat) := []
  readable : Bool := true
  deriving DecidableEq, Repr

/-- The Bobbin save area (R415, R418). -/
structure SaveArea where
  present : Bool := false
  complete : Bool := false
  consumed : Bool := true
  lost : Bool := false
  seq : Nat := 0
  warpAt : Nat := 0
  calAt : Nat := 0
  holdupState : Nat := 0
  /-- The tiers written so far and whose CRC-32 matches. -/
  tiers : List Nat := []
  calNow : Nat := 0
  calState : Nat := 0
  warpCycle : Nat := 0
  /-- clk of the saves within the last 60 s (R419) and of the automatic restarts (R380, R366). -/
  saveTimes : List Nat := []
  autoTimes : List Nat := []
  dTimes : List Nat := []
  lTimes : List Nat := []
  disp : DispRec := {}
  circ : List (Nat × CircLearn) := []
  /-- Rates of zones; `none`: the initial ones. -/
  zones : List (Nat × Option (Int × Int)) := []
  vlv : List (Nat × List Nat × Nat) := []
  rw : List (Nat × Val) := []
  restart : RestartRec := {}
  /-- The save cut an image load short (R286). -/
  imageCut : Bool := false
  deriving DecidableEq, Repr

/-- Power and start-up registers (R406–R422). -/
structure Power where
  phase : Phase := .reset
  resetCause : Nat := 0
  startTime : Nat := 0
  holdReason : Nat := 0
  flags : Flags := 0
  holdupC : Nat := 0
  holdupEsr : Nat := 0
  holdupEnergy : Nat := 0
  holdupState : Nat := 2
  measuring : Option Nat := none
  outage : Nat := 0
  /-- clk of reset release. -/
  releaseClk : Nat := 0
  /-- Cause that the next RESET_RELEASE records (R406). -/
  nextCause : Nat := 0
  resetN : Bool := true
  resetLowAt : Option Nat := none
  /-- Consecutive continuous VIN conversions below 16.0 V (R413). -/
  vinRun : Nat := 0
  /-- clk since which VIN has stayed at 18 V or more (R419). -/
  vin18Since : Option Nat := none
  sagClk : Nat := 0
  sagCal : Nat := 0
  /-- A start-up step other than 2 has failed (R407). -/
  stepFailed : Bool := false
  /-- The other slot was tried: later bounds move by 32 ms (R407). -/
  fallback : Bool := false
  /-- Step 6 has ended. -/
  stepDone : Bool := false
  deriving DecidableEq, Repr

/-! ### Warp and calendar (02_warp_timebase) -/

/-- The lock states of R31. -/
inductive WarpState where
  | synthetic
  | acquiring
  | locked
  | holdover
  deriving DecidableEq, Repr

/-- The mains cycle that ended last: what a stamp within it needs (R17, R147). -/
structure PastCycle where
  startClk : Nat := 0
  inc : Nat := 35184373
  cycle : Nat := 0
  ws : WarpState := .synthetic
  deriving DecidableEq, Repr

/-- Warp: counter, lock machine, realignment and alignment (R26–R37). -/
structure Warp where
  /-- Cycle count, bits [63:16] of Warp time. -/
  cycle : Nat := 0
  /-- Phase and fraction: 16 bits of wt and 32 bits below it. -/
  frac : Nat := 0
  /-- Advance per engine clock, in 2^-32 wt. -/
  inc : Nat := 35184373
  /-- The increments last sent to the D-die and the F-die (R30). -/
  incD : Nat := 35184373
  incF : Nat := 35184373
  /-- The F-die's replica of Warp, in 2^-32 wt, and the clk of its last correction over the barrier link (R16). -/
  replica : Nat := 0
  replicaAt : Nat := 0
  /-- The cycle before the running one. -/
  past : PastCycle := {}
  ws : WarpState := .synthetic
  /-- A state change that takes effect at the next cycle start (R31). -/
  target : Option WarpState := none
  freq : Int := 0
  ampl : Nat := 0
  phaseErr : Int := 0
  cycleClocks : Nat := 0
  startClk : Nat := 0
  /-- Last measured period, engine clocks. -/
  period : Nat := 8000000
  phaseSteps : Nat := 0
  lastStep : Int := 0
  /-- 0 UNALIGNED, 1 ALIGNED, 2 BEHIND (R35). -/
  align : Nat := 0
  /-- An alignment READ is outstanding, sent at this clk. -/
  alignSent : Option Nat := none
  /-- A count to adopt at the next cycle start (R35, R37). -/
  alignCount : Option Nat := none
  /-- Qualifying cycles in ACQUIRING. -/
  qual : Nat := 0
  lastPeriod : Nat := 0
  /-- Cycles without a qualifying zero in HOLDOVER. -/
  holdCycles : Nat := 0
  /-- Zeros seen since they returned in HOLDOVER. -/
  goodZeros : Nat := 0
  /-- Consecutive zeros beyond STEP_THRESHOLD (R33). -/
  stepRun : Nat := 0
  /-- clk of the last positive-going zero. -/
  zeroClk : Nat := 0
  /-- A realignment is to end the coming cycle (R32, R33). -/
  realignNext : Bool := false
  /-- The running cycle is a realigned one. -/
  realigned : Bool := false
  /-- The cycle that CYCLE_CLOCKS measures was a realigned one (R38). -/
  wasRealigned : Bool := false
  deriving DecidableEq, Repr

/-- One day of the grid-discipline window (R44): cycles counted in LOCKED, and RTC time in LOCKED in
1/65536 s. -/
structure GridDay where
  cycles : Nat := 0
  locked : Nat := 0
  deriving DecidableEq, Repr

/-- The eight events of a local date (R49–R51). -/
structure Astro where
  events : List Nat := [0, 0, 0, 0, 0, 0, 0, 0]
  flags : Nat := 0xFFFF
  date : Nat := 0
  deriving DecidableEq, Repr

/-- Calendar and RTC (R39–R44, R50). -/
structure Cal where
  /-- UTC calendar time: seconds since 2000-01-01 in bits [63:16], 1/65536 s below. -/
  now : Nat := 0
  /-- Progress toward the next 1/65536 s, in units of which 610351562500 make one. -/
  acc : Nat := 0
  slewAcc : Nat := 0
  /-- 0 UNSET, 1 HELD, 2 VALID (R40). -/
  st : Nat := 0
  slewLeft : Int := 0
  steps : Nat := 0
  tempCorr : Int := 0
  gridCorr : Int := 0
  gridTarget : Int := 0
  coverage : Nat := 0
  days : List GridDay := []
  today_ : GridDay := {}
  /-- Progress of the locked time toward the next 1/65536 s. -/
  gridAcc : Nat := 0
  vrtc : Nat := 0
  today : Astro := {}
  tomorrow : Astro := {}
  /-- UTC day of the last grid evaluation and local day of the last astronomical computation. -/
  gridDay : Nat := 0
  astroDay : Option Nat := none
  /-- A step or COMMIT asks for a computation (R50). -/
  astroAsked : Bool := false
  deriving DecidableEq, Repr

/-! ### Loom (03_loom_scheduler) -/

/-- What an armed command does (R54, R80). -/
inductive ArmKind where
  | close (c : Nat)
  | open_ (c : Nat)
  | user (e : Nat)
  deriving DecidableEq, Repr

/-- A command of an armed set: its Warp time and heddle entry (R55). -/
structure ArmedCmd where
  warp : Nat
  heddle : Nat
  kind : ArmKind
  /-- The zero it aims at; 0 without zero targeting (R65). -/
  zero : Nat
  targeted : Bool
  /-- The zero aimed at is a positive-going one (R57). -/
  positive : Bool
  deriving DecidableEq, Repr

/-- A transition in flight (R59). -/
structure Trans where
  close : Bool
  cmdWarp : Nat
  deadline : Nat
  zero : Nat
  targeted : Bool
  delayed : Bool
  /-- Warp was not LOCKED, or the cycle was realigned (R62). -/
  tainted : Bool
  seat : Option Nat
  /-- The load-current start, while a seat may still come (R60). -/
  load : Option Nat
  deriving DecidableEq, Repr

/-- A lighting circuit at run time (R57–R73, R82). -/
structure Circuit where
  /-- 0 off, 1 closing, 2 on, 3 opening. -/
  st : Nat := 0
  due : Option Bool := none
  placed : Bool := false
  trans : Option Trans := none
  minUntil : Nat := 0
  /-- `none`: the circuit has learned nothing (R64). -/
  lrn : Option CircLearn := none
  dirtyAt : Option Nat := none
  outliers : Nat := 0
  consec : Nat := 0
  flags : Flags := 0
  seatToLoad : Int := 0
  errs : List Int := []
  lags : List Nat := []
  sched : Option Bool := none
  /-- The switch instant (UTC seconds) that the scheduled state comes from (R69). -/
  schedAt : Option Int := none
  /-- The Warp stamp of the last seat, for SEAT_TO_LOAD (R60). -/
  seatWarp : Option Nat := none
  /-- Load-current tracking of R60: peak, peak of the half cycle before, sign, and the zero crossing since which the
  current has stayed low. -/
  peak : Int := 0
  prevPeak : Int := 0
  sign : Bool := false
  lowSince : Option Nat := none
  deriving DecidableEq, Repr

/-- A prestart in progress (R131). -/
structure Prestart where
  at_ : Nat
  tOcc : Nat
  heat : Bool
  startPv : Option Int
  bad : Bool
  deriving DecidableEq, Repr

/-- A zone at run time (R74, R130, R131). -/
structure Zone where
  mode : Nat := 0
  sp : Int := 0
  prestartAt : Nat := 0
  tOcc : Nat := 0
  /-- PRESTART_AT was computed with HEAT_RATE (R130, R131). -/
  preHeat : Bool := true
  pre : Option Prestart := none
  rates : Option (Int × Int) := none
  dirtyAt : Option Nat := none
  lastErr : Int := 0
  count : Nat := 0
  deriving DecidableEq, Repr

/-- A user event (R80). The settings latched at ARM stand beside its state. -/
structure UEvent where
  /-- 0 idle, 1 armed, 2 done, 3 LATE, 4 cancelled. -/
  st : Nat := 0
  sealed : Bool := false
  domain : Nat := 0
  whenWarp : Nat := 0
  whenCal : Nat := 0
  loop : Nat := 0
  sample : Nat := 0
  action : Nat := 0
  target : Nat := 0
  value : Int := 0
  late : Bool := false
  deriving DecidableEq, Repr

/-- A rule at run time (R77, R79). -/
structure RuleRt where
  /-- The comparison with its hysteresis. -/
  cond : Bool := false
  since : Nat := 0
  /-- The condition counts (true for DELAY). -/
  counted : Bool := false
  fires : Nat := 0
  deriving DecidableEq, Repr

/-- Loom's registers, sets and tables. -/
structure Loom where
  armLoad : Nat := 0
  armOverflows : Nat := 0
  ruleOverruns : Nat := 0
  /-- Commands placed in a set that is not sealed yet. -/
  building : List ArmedCmd := []
  /-- Commands of sealed sets that have not acted. -/
  sealed_ : List ArmedCmd := []
  /-- The cycle of the latest sealed set. -/
  sealedCycle : Nat := 0
  circuits : Table Circuit := []
  zones : Table Zone := []
  events : Table UEvent := []
  rules : Table RuleRt := []
  /-- clk of the next rule round. -/
  nextRound : Nat := 0
  /-- A new rule table: the previous states count as false (R79). -/
  freshRules : Bool := true
  deriving DecidableEq, Repr

/-! ### Control engine and loop modes (04, 05) -/

/-- The history of one section: x[n-1], x[n-2], y[n-1], y[n-2] (R86, R87). -/
structure Hist where
  x1 : Int := 0
  x2 : Int := 0
  y1 : Int := 0
  y2 : Int := 0
  deriving DecidableEq, Repr

/-- A sample that is due: its class order key, the sample end (R91, R94). -/
structure DueSample where
  endClk : Nat
  result : Bool
  deriving DecidableEq, Repr

/-- The repetitive controller of a loop (R124–R129). -/
structure RcRt where
  profile : List Int := []
  kind : Nat := 0
  cycles : Nat := 0
  bins : Nat := 0
  term : Int := 0
  bin : Nat := 0
  st : Nat := 0
  saved : Nat := 0
  updates : Nat := 0
  sum : Int := 0
  count : Nat := 0
  /-- Samples of the fade of R126: 64 is the whole term. -/
  fade : Nat := 64
  clear : Bool := false
  newProfile : Option (List Int) := none
  deriving DecidableEq, Repr

/-- A loop slot at run time. -/
structure LoopRt where
  enabled : Bool := false
  pool : List Nat := []
  hist : List Hist := []
  due : Option DueSample := none
  pv : Int := 0
  sp : Int := 0
  err : Int := 0
  out : Int := 0
  /-- Stamps of the latest applied output, for loops that read it. -/
  outAtWarp : Nat := 0
  outAtClk : Option Nat := none
  outStamp : Nat := 0
  lastDelay : Nat := 0
  minDelay : Nat := 0xFFFFFFFF
  maxDelay : Nat := 0
  samples : Nat := 0
  overruns : Nat := 0
  delayExcess : Nat := 0
  retries : Nat := 0
  flags : Flags := 0
  overPending : Bool := false
  fault : Bool := false
  /-- The mode of the last sample (R112); 1 AUTO at reset, the default of MODE. -/
  modeActive : Nat := 1
  /-- The next sample is a hand-over with this target (R117). -/
  handover : Option Int := none
  /-- The Q16 command the channel had when a COMMIT made the loop its owner (R104). -/
  takeOver : Option Int := none
  /-- SP_RAMP starts at PV in that sample (R123). -/
  rampFromPv : Bool := true
  spRamp : Int := 0
  /-- The remainder the ramp carries, in 1/(400 000 000 × 3600) LSB (R123). -/
  rampRem : Int := 0
  target : Int := 0
  presetResidual : Int := 0
  handovers : Nat := 0
  modeFlags : Flags := 0
  enableClk : Nat := 0
  /-- clk from which TIMER samples are counted (R91). -/
  timerBase : Nat := 0
  nextTimer : Nat := 0
  /-- The cycle of the last WARP sample. -/
  warpDone : Option Nat := none
  lastSampleClk : Nat := 0
  /-- Stamp (clk) of the PV result of the previous sample. -/
  lastPv : Option Nat := none
  /-- Output of the last sample before a replacement of the channel's command (R122). -/
  heldOut : Int := 0
  /-- A set-point handed over by Loom (R75). -/
  loomSp : Option Int := none
  rc : RcRt := {}
  /-- Loop stopped by a cross-checked input (R376). -/
  stopped : Bool := false
  deriving DecidableEq, Repr

/-- One evaluation lane (R98–R102). -/
structure Lane where
  retired : Bool := false
  faults : Nat := 0
  firstFault : Option Nat := none
  lastTest : Nat := 0
  deriving DecidableEq, Repr

/-- The control engine. Lanes: 0 A, 1 B, 2 S (R111). -/
structure Engine where
  first : Nat := 0
  second : Nat := 1
  laneA : Lane := {}
  laneB : Lane := {}
  laneS : Lane := {}
  degraded : Bool := false
  loops : Table LoopRt := []
  /-- Loops stopped by a whole-engine failure (R102). -/
  stopped : Bool := false
  deriving DecidableEq, Repr

/-! ### Measurement and analogue outputs (06) -/

/-- A result record (R147, R148). `stampClk` is the engine clock of the stamp. -/
structure ResRec where
  present : Bool := false
  value : Int := 0
  raw : Nat := 0
  flags : Nat := 0
  seq : Nat := 0
  stamp : Nat := 0
  stampClk : Nat := 0
  /-- Engine clock of the delivery. -/
  atClk : Nat := 0
  deriving DecidableEq, Repr

/-- A triggered conversion that waits (R142, R143). 0xFFFF: no channel. -/
structure QConv where
  entry : Nat
  due : Nat
  chanA : Nat
  chanB : Nat
  /-- ADC B converts CHAN_A into its check record (R152). -/
  check : Bool
  deriving DecidableEq, Repr

/-- The set of an AI input that a conversion runs on: the one in force at its start (R157). -/
structure ConvSet where
  mode : Nat := 0
  sensor : Nat := 0
  gain : Int := 0
  offset : Int := 0
  nominal : Nat := 0
  beta : Nat := 0
  deriving DecidableEq, Repr

/-- A continuous conversion displaced from its slot (R145): its slot position, the clk of that, and whether it yielded to a
triggered conversion that was known then. -/
structure ContWait where
  pos : Nat
  at_ : Nat
  yields : Bool
  deriving DecidableEq, Repr

/-- A conversion that runs on a converter. -/
structure ConvRun where
  /-- The trigger entry; 0xFFFF for a continuous conversion or one of ADC C. -/
  entry : Nat
  chan : Nat
  start : Nat
  delayed : Bool
  cont : Bool
  check : Bool
  paired : Bool
  set : ConvSet
  deriving DecidableEq, Repr

/-- An AI input at run time (R136, R151, R152). -/
structure AiRt where
  shuntOpen : Bool := false
  shuntAt : Nat := 0
  clamped : Bool := false
  recovering : Option Nat := none
  xSince : Option Nat := none
  okSince : Nat := 0
  deriving DecidableEq, Repr

/-- An AO channel at run time (R155, R156). -/
structure AoRt where
  applied : Int := 0
  dac : Nat := 0
  hiZ : Bool := true
  status : Nat := 0
  deriving DecidableEq, Repr

/-- A trigger entry's counters (R143, R157). -/
structure TrigRt where
  count : Nat := 0
  delayed : Nat := 0
  deriving DecidableEq, Repr

/-- The measurement block. -/
structure Meas where
  /-- 0 OFF, 1 SETTLING, 2 READY, 3 FAULT. -/
  refState : Nat := 0
  refClk : Nat := 0
  refGood : Nat := 0
  noiseA : Int := 0
  noiseB : Int := 0
  noiseExcess : Bool := false
  /-- The UTC hour of the last noise measurement (R154). -/
  noiseHour : Option Nat := none
  trigLost : Nat := 0
  /-- VBOOST as ADC B last read it (R160). -/
  vboost : Int := 0
  recs : Table ResRec := []
  trig : Table TrigRt := []
  /-- (entry, due clk) of trigger events whose DELAY still runs. -/
  coming : List (Nat × Nat) := []
  queue : List QConv := []
  runA : Option ConvRun := none
  runB : Option ConvRun := none
  preA : Bool := false
  preB : Bool := false
  /-- Continuous conversions displaced from their slots (R145). -/
  contWait : List ContWait := []
  runC : Option ConvRun := none
  cQueue : List Nat := []
  nextRound : Nat := 0
  scanDue : Nat := 0
  scanAsked : Bool := false
  timers : Table Nat := []
  ai : Table AiRt := []
  ao : Table AoRt := []
  deriving DecidableEq, Repr

/-! ### Jacquard (07) -/

/-- The states of a valve channel (R178); their codes are 0 to 7 in this order. -/
inductive VlvState where
  | off
  | waitGrant
  | pullin
  | hold
  | decay
  | wait5200
  | learn
  | fault
  deriving DecidableEq, Repr

/-- What a card waits for (R169). -/
inductive VlvWait where
  | none
  | cmdOff
  | time (until_ : Nat)
  | seat (until_ tgt : Nat)
  | drop (until_ tgt : Nat)
  | decayed
  | grant (level : Nat)
  | drive (level : Nat)
  deriving DecidableEq, Repr

/-- The detector of R173 and R174. -/
structure Detector where
  armed : Bool := false
  drop : Bool := false
  blankUntil : Nat := 0
  blanking : Nat := 0
  threshold : Nat := 0
  deriving DecidableEq, Repr

/-- A valve channel at run time. References, levels and currents are in mA. -/
structure VlvRt where
  st : VlvState := .off
  pc : Option Nat := none
  wait : VlvWait := .none
  /-- The set latched at the card start (R184): P0–P11, HL_ENABLE, CHAN_LIMIT as Q16 A, VBOOST_FITTED, BANK_CUTOFF. -/
  params : List Nat := []
  band : Nat := 0
  /-- The rail of the phase in force, and the one the next DRIVE takes (R169). -/
  rail : Nat := 0
  railNext : Nat := 0
  /-- The decay of the following off-intervals (R161). -/
  decayMode : Nat := 0
  clamp : Nat := 0
  /-- The phase's RETURN runs as CLAMP until the phase ends (R162). -/
  demoted : Bool := false
  /-- The path and clamp of the last off-interval begun: 0 FREEWHEEL, 1 CLAMP, 2 RETURN (R161). -/
  path : Nat := 0
  pathClamp : Nat := 0
  /-- clk of the last instruction slot used (R166). -/
  issued : Option Nat := none
  chop : Nat := 0
  /-- Chopper periods (R454): the clk they are counted from, periods begun, the clk of the next one and of the
  last one. -/
  chopBase : Nat := 0
  chopN : Nat := 0
  chopNext : Nat := 0
  chopAt : Nat := 0
  chopPending : Option Nat := none
  ref : Nat := 0
  share : Nat := 0
  conducting : Bool := false
  lowSide : Bool := false
  returning : Bool := false
  cmdOn : Bool := false
  /-- End of a timed pulse (clk). -/
  pulseEnd : Option Nat := none
  pulseMs : Option Nat := none
  holdEntry : Nat := 0
  startDue : Option Nat := none
  startWarp : Nat := 0
  startClk : Nat := 0
  /-- The card start address of the running profile. -/
  card : Nat := 0
  seatStamp : Nat := 0
  pullinDelay : Nat := 0
  pullinTime : Nat := 0
  eCoil : Nat := 0
  eMag : Nat := 0
  energyFactor : Int := 0
  learned : List Nat := [0, 0, 0, 0]
  learnedAt : Nat := 0
  learnDirty : Option Nat := none
  coilRes : Nat := 0
  actuations : Nat := 0
  diag : Flags := 0
  flags : Flags := 0
  det : Detector := {}
  dropRef : Nat := 0
  offAt : Option Nat := none
  trips : List Nat := []
  /-- clk since which the start has waited in WAIT_5200 (R179). -/
  waited5200 : Option Nat := none
  /-- clk of the last off-state test (R185). -/
  testedAt : Nat := 0
  tripAt : Nat := 0
  /-- From FAULT an off command has been seen (R186). -/
  offSeen : Bool := false
  offSince : Nat := 0
  wcmdSince : Nat := 0
  holdSince : Nat := 0
  learning : Bool := false
  /-- The card has gone past WCMD on an off command (R178). -/
  leaving : Bool := false
  /-- An off command in 5200 mode lets the pull-in complete (R178). -/
  offKept : Bool := false
  /-- The applied PROPORTIONAL reference that waits for the budget. -/
  propWant : Option Nat := none
  mode : Nat := 0
  deriving DecidableEq, Repr

/-- A request in a bank queue (R181). -/
structure GrantReq where
  v : Nat
  level : Nat
  at_ : Nat
  deriving DecidableEq, Repr

/-- A bank at run time. -/
structure Bank where
  /-- 0 VDRV, 1 VBOOST, 2 switch open (R160), as it is until release (R410). -/
  rail : Nat := 2
  queue : List GrantReq := []
  waits : Nat := 0
  trips : Nat := 0
  band : Nat := 0
  /-- Channels whose SHORT_GND holds the switch open (R186). -/
  cutBy : List Nat := []
  testing : List Nat := []
  tripped : Bool := false
  deriving DecidableEq, Repr

/-- A card image in the card memory of an engine: its start address and word count (R170). -/
structure CardLoad where
  engine : Nat
  start : Nat
  count : Nat
  deriving DecidableEq, Repr

/-- The valve block: 16 channels, 4 banks, card memory of 4 engines (256 words each). -/
structure Valve where
  ch : Table VlvRt := []
  banks : Table Bank := []
  cards : Table (BitVec 32) := []
  /-- The images that stand whole in card memory. -/
  loads : List CardLoad := []
  deriving DecidableEq, Repr

/-! ### Field I/O (08) -/

/-- What the F-die has of an input, and sends over the barrier link (R15, R193): its state, the stamp and clk of the last
change, the count of changes or edges, TACH_FREQ and the input current in µA. -/
structure FarInput where
  state : Nat := 0
  stamp : Nat := 0
  clk : Nat := 0
  edges : Nat := 0
  freq : Int := 0
  current : Nat := 0
  deriving DecidableEq, Repr

/-- An IO channel at run time. -/
structure IoRt where
  mode : Nat := 0
  far : FarInput := {}
  /-- The state the L-die has: 0 OPEN, 1 CLOSED, 2 BREAK. -/
  inState : Nat := 0
  raw : Nat := 0
  differSince : Option Nat := none
  differWarp : Nat := 0
  level : Bool := false
  edgeStamp : Nat := 0
  edgeClk : Nat := 0
  /-- clk at which the change was delivered (R92, R192). -/
  edgeAt : Nat := 0
  changed : Bool := false
  breakSince : Option Nat := none
  /-- clk at which the input last ceased to read CLOSED or BREAK (R74). -/
  presentAt : Option Nat := none
  okSince : Nat := 0
  inCurrent : Nat := 0
  outCurrent : Int := 0
  status : Flags := 0
  tachFreq : Int := 0
  tachTimes : List Nat := []
  /-- clk of the last tach edge that the L-die has learned of. -/
  lastEdge : Nat := 0
  edges : Nat := 0
  /-- The last command that crossed the barrier link (R15), and the one in force at the pin. -/
  sent : Int := 0
  applied : Int := 0
  on : Bool := false
  hiZ : Bool := true
  hizUntil : Option Nat := none
  thermTimes : List Nat := []
  shedTimes : List Nat := []
  lastCmdOff : Bool := true
  deriving DecidableEq, Repr

/-- A supply group of eight channels. -/
structure IoGroup where
  lost : Bool := false
  sheds : Nat := 0
  /-- clk of the last shed, and since which the group has stayed below 2.7 A. -/
  shedAt : Option Nat := none
  lowSince : Option Nat := none
  nextReinstate : Nat := 0
  deriving DecidableEq, Repr

/-- Field I/O, barrier link and field watchdog (R200–R206). -/
structure FieldIo where
  ch : Table IoRt := []
  groups : Table IoGroup := []
  linkUp : Bool := false
  linkErrors : Nat := 0
  validRun : Nat := 0
  lastValid : Nat := 0
  /-- 0 DISARMED, 1 ARMED, 2 TRIPPED. -/
  fwd : Nat := 0
  fwdTrips : Nat := 0
  lastRefresh : Nat := 0
  refreshSince : Option Nat := none
  power : Nat := 0
  deriving DecidableEq, Repr

/-! ### Fans (09) -/

/-- An output of a d- or q-axis loop that waits for that of the other axis (R95, R210): its loop, its value in Q16 V,
the clk of its PV result's stamp and of the sample's start, RESULT-triggered, its delay counts (R97). -/
structure AxisOut where
  loop : Nat
  value : Int
  stampClk : Nat
  startClk : Nat
  result : Bool
  counted : Bool
  deriving DecidableEq, Repr

/-- What a set of compare values stands for: d- and q-axis voltage in Q16 V and the rotor angle they are formed for
(R210). -/
structure Compare where
  d : Int := 0
  q : Int := 0
  angle : Nat := 0
  deriving DecidableEq, Repr

/-- A fan at run time: 0–3 direct, 4–11 EC. Speeds are Q16 %. -/
structure FanRt where
  /-- 0 STOPPED … 7 OFF_LATCHED. -/
  st : Nat := 0
  /-- Measured speed, Q16 %. -/
  speed : Int := 0
  /-- Speed after R217 in Q16 % times 400 000 000, so that a slew over engine clocks is exact. -/
  fine : Int := 0
  flags : Flags := 0
  attempts : Nat := 0
  retry : Nat := 0
  stepClk : Nat := 0
  iStart : Int := 0
  bridgeOn : Bool := false
  zeroVec : Bool := false
  /-- The observer has locked in RAMP. -/
  locked : Bool := false
  trips : List Nat := []
  restartAt : Option Nat := none
  table : Bool := false
  tableSpeed : Int := 0
  tableAt : Nat := 0
  /-- Squared phase currents of the last second with their engine clocks (R211). -/
  rmsU : List (Nat × Int) := []
  rmsV : List (Nat × Int) := []
  rmsW : List (Nat × Int) := []
  /-- The phase currents U and V converted last, Q16 A. -/
  iU : Int := 0
  iV : Int := 0
  /-- I_START is capped at APPLIED_LIMIT (R211, R212). -/
  capped : Bool := false
  /-- Speed of the open-loop field in RAMP, in the unit of `fine` (R212). -/
  openLoop : Int := 0
  /-- Readings of SUPPLY_SRC of the last second with their engine clocks (R216). -/
  supply : List (Nat × Int) := []
  /-- Trim in the unit of `fine` (R215). -/
  trim : Int := 0
  duty : Int := 0
  roseAt : Nat := 0
  /-- First of the tach edges that have come back (R216). -/
  okFrom : Option Nat := none
  lastEval : Nat := 0
  /-- Outputs of the axis loops that wait for each other; Vd and Vq last applied; the shadow register and its clk; the
  bridge (R210). -/
  axisD : Option AxisOut := none
  axisQ : Option AxisOut := none
  vd : Int := 0
  vq : Int := 0
  shadow : Compare := {}
  /-- The shadow before the clock of its last write: what a transfer on that clock passes. -/
  shadowOld : Compare := {}
  shadowAt : Nat := 0
  bridge : Compare := {}
  deriving DecidableEq, Repr

/-! ### Display (10) -/

/-- An overdrive sequence of a pixel (R229): target, level shown, frames left. -/
structure OdSeq where
  target : Nat
  level : Nat
  left : Nat
  deriving DecidableEq, Repr

/-- A segment's waveform in an update round (R231–R233): from, to, and its pulses as volt-seconds in
0.1 mV·s (positive toward level 3); at 15 V one of these units lasts 8000/3 engine clocks. -/
structure SegWave where
  seg : Nat
  a : Nat
  b : Nat
  pulses : List Int
  /-- The ledger already holds it. -/
  settled : Bool := false
  deriving DecidableEq, Repr

/-- A round in progress. -/
structure Round where
  start : Nat
  length : Nat
  waves : List SegWave
  replay : Bool
  deriving DecidableEq, Repr

/-- The display driver. -/
structure Disp where
  pending : List Byte := List.replicate 72 0
  shown : List Byte := List.replicate 72 0
  /-- The row latches: on/off of 48 segments for each row. -/
  latched : List (List Bool) := []
  /-- Rows moved at the last frame start (R230). -/
  moved : List Nat := []
  st : Nat := 0
  flags : Flags := 0
  band : Nat := 0
  bandInUse : Nat := 0
  frame : Nat := 0
  slot : Nat := 0
  negativeFirst : Bool := false
  frameClk : Nat := 0
  od : Table OdSeq := []
  vlcd : Nat := 0
  rounds : Nat := 0
  ledger : Table Int := []
  round : Option Round := none
  dirtySince : Option Nat := none
  switchUntil : Option Nat := none
  mode : Nat := 0
  nextBand : Nat := 0
  /-- Interrupted segments (segment, a, b) that the replay round drives before any other (R235). -/
  replay : List (Nat × Nat × Nat) := []
  hiZ : Bool := true
  /-- clk from which the pins of a paired module are high impedance after the trigger of a save (R416). -/
  hizAt : Option Nat := none
  deriving DecidableEq, Repr

/-- The level of a display pin: high impedance, twelfths of VLCD, or volts of the pump. -/
inductive PinLevel where
  | hiZ
  | ofVlcd (twelfths : Nat)
  | volt (v : Int)
  deriving DecidableEq, Repr

/-! ### Dictionary, host port, images (11, 12) -/

/-- A pending write of a session: value and the session's level then (R245, R249). -/
structure PendVal where
  val : Val
  level : Nat
  deriving DecidableEq, Repr

/-- An open SEGMENT transfer (R276). -/
structure Segment where
  write : Bool
  items : List SegItem
  total : Nat
  data : List Byte
  last : Nat
  deriving DecidableEq, Repr

/-- The previous request of a session, for duplicate tags (R272). -/
structure PrevReq where
  tag : Nat
  bytes : List Byte
  resp : List Byte
  deriving DecidableEq, Repr

/-- A session (R245–R247, R253, R276, R384, R401). -/
structure SessRec where
  level : Nat := 0
  lastReq : Nat := 0
  seen : Bool := false
  asked : Option (Nat × Nat) := none
  wrongAt : List Nat := []
  lockUntil : Option Nat := none
  pending : Table PendVal := []
  seg : Option Segment := none
  chal : Option (List Byte × Nat) := none
  cursor : Nat := 1
  handles : List (Nat × Nat) := []
  cancels : List (Nat × Nat) := []
  prev : Option PrevReq := none
  deriving DecidableEq, Repr

/-- What waits to reach its sync point (R252). -/
inductive SyncUnit where
  | warp
  | loop (n : Nat)
  | valve (v : Nat)
  | fan (k : Nat)
  | display
  | thermal
  | rules
  | event (e : Nat)
  | can (x : Nat)
  deriving DecidableEq, Repr

/-- Whom the end of copy 1 answers (R263). -/
inductive CommitFor where
  | session (env : Env)
  | image (env : Env)
  | rw
  | partner
  deriving DecidableEq, Repr

/-- A generation whose copies are being written (R263). -/
structure CopyJob where
  gen : Nat
  content : List (Nat × Val)
  changed : List Nat
  level : Nat
  for_ : CommitFor
  /-- The copy that is being written: 0, 1 or 2. -/
  copy : Nat
  deriving DecidableEq, Repr

/-- The dictionary engine. `committed` holds the members that differ from their defaults, RW members
included; `force` the members the blocks run on where they differ from the schema's default. -/
structure Dict where
  committed : Table Val := []
  force : Table Val := []
  waiting : List SyncUnit := []
  gen : Nat := 0
  /-- 0 UNCONFIGURED, 1 RESOLVED, 2 DIVERGENT, 3 LOST. -/
  st : Nat := 0
  copyGen : List Nat := [0, 0, 0]
  dropped : Nat := 0
  rwDirty : Option Nat := none
  job : Option CopyJob := none
  jobs : List CopyJob := []
  sessions : Table SessRec := []
  deriving DecidableEq, Repr

/-- The host port, the event queues and the manager watch (R268–R284). -/
structure HostPort where
  crcErrors : Nat := 0
  frameErrors : Nat := 0
  overruns : Nat := 0
  resp : List (List Byte) := []
  /-- What HOST_MISO carried in the last transaction from byte 6 on; any other byte reads 0xFF. -/
  miso : List Byte := []
  events : List LogRec := []
  lost : Nat := 0
  nodeEvents : List LogRec := []
  nodeLost : Nat := 0
  /-- Shadow words: port (0 host, 1 CAN0, 2 CAN1), offset of the high word, its value (R279). -/
  shadows : List (Nat × Nat × Nat) := []
  silent : Bool := false
  managerAt : Nat := 0
  hbAt : Option Nat := none
  deriving DecidableEq, Repr

/-- Image staging (R286) and the mixed-firmware record (R290). -/
structure Images where
  kind : Nat := 0
  staged : List Byte := []
  st : Nat := 0
  err : Nat := 0
  confirmUntil : Option Nat := none
  mixed : Bool := false
  mixedSince : Nat := 0
  peerFw : Nat := 0
  peerSchema : Nat := 0
  deriving DecidableEq, Repr

/-! ### CAN FD (13) -/

/-- What queued a frame (R303, R306). -/
inductive TxKind where
  | user
  | response
  | event
  | heartbeat
  | trigger
  deriving DecidableEq, Repr

/-- A frame that waits to be sent. -/
structure TxItem where
  handle : Nat
  kind : TxKind
  frame : CanFrame
  deriving DecidableEq, Repr

/-- An urgent frame with its discard time (R306). -/
structure Urgent where
  item : TxItem
  discardAt : Nat
  deriving DecidableEq, Repr

/-- A stored receive record (R301). -/
structure RxRec where
  frame : CanFrame
  newdat : Bool
  lost : Bool
  overflow : Bool
  seq : Nat
  stamp : Nat
  deriving DecidableEq, Repr

/-- A receive object: its records, oldest first, and the next SEQ. -/
structure RxObj where
  recs : List RxRec := []
  seq : Nat := 0
  deriving DecidableEq, Repr

/-- A CAN controller with its transceiver. -/
structure CanRt where
  /-- CTRL_STATE, 0 OFF … 8 SLEEP (R313). -/
  st : Nat := 0
  tec : Nat := 0
  rec_ : Nat := 0
  flags : Flags := 0
  busoffs : Nat := 0
  abdResult : Nat := 0xFF
  abdIndex : Nat := 0
  abdGood : Nat := 0
  abdSince : Nat := 0
  wakeCause : Nat := 0
  fifo : List TxItem := []
  urgent : List Urgent := []
  nextHandle : Nat := 1
  sent : Nat := 0
  rxFrames : Nat := 0
  rxDiscarded : Nat := 0
  rtr : Nat := 0
  lastError : Nat := 0
  urgentExpired : Nat := 0
  ackRun : Nat := 0
  /-- The frame whose start has been sent: 0 none, 1 the oldest urgent one, 2 the head of the FIFO. -/
  onBus : Nat := 0
  /-- The frame sent last. -/
  lastSent : Option CanFrame := none
  /-- The frame in progress is removed if it fails (R305). -/
  cancelled : Bool := false
  holdUntil : Nat := 0
  sleepFrom : Option Nat := none
  sleepUpTo : Nat := 0
  wakeErrors : Nat := 0
  nextRetry : Nat := 0
  lowPower : Bool := true
  objs : Table RxObj := []
  deriving DecidableEq, Repr

/-! ### Selvedge (14) -/

/-- One lane of the link (R317). -/
structure SelLane where
  up : Bool := false
  run : Nat := 0
  lastValid : Nat := 0
  txSeq : Nat := 0
  deriving DecidableEq, Repr

/-- An item sent in a MIRROR frame: the Warp time of the state it describes (R321), and the members that an older partner
does not know and that it does not carry (R332). -/
structure SentItem where
  stamp : Nat
  omitted : List Nat
  item : MirrorItem
  deriving DecidableEq, Repr

/-- Frames the module has sent to its partner; the latest of each kind is kept. -/
structure SelSent where
  alive : Nat := 0
  /-- What the last ALIVE frame held. -/
  info : Option AliveInfo := none
  /-- Frames other than ALIVE and RELINQUISH. -/
  spread : Nat := 0
  mirrors : List SentItem := []
  relinquish : Nat := 0
  taken : Nat := 0
  /-- The last CONFIG frame: generation and changed members. -/
  configs : Nat := 0
  config : Nat × List (Nat × Val) := (0, [])
  /-- Acknowledgments of CONFIG frames (R324). -/
  acks : Nat := 0
  /-- What the partner received when it last joined. -/
  joins : List JoinPart := []
  deriving DecidableEq, Repr

/-- The mirrored state of a loop (R321). -/
structure MirLoop where
  u : Int := 0
  spRamp : Int := 0
  mode : Nat := 1
  manOut : Int := 0
  modeActive : Nat := 1
  rcTerm : Int := 0
  deriving DecidableEq, Repr

/-- The mirrored state of an output channel (R321): the owner's latest command, VLV STATE, band. -/
structure MirChan where
  cmd : Int := 0
  vlvState : Nat := 0
  band : Nat := 0
  deriving DecidableEq, Repr

/-- The mirrored state a standby holds (R321). -/
structure MirrorStore where
  loops : Table MirLoop := []
  channels : Table MirChan := []
  deriving DecidableEq, Repr

/-- Pair operation. -/
structure Pair where
  role : Nat := 0
  st : Nat := 0
  flags : Flags := 0
  errors : Nat := 0
  lastTime : Nat := 0
  lastCause : Nat := 0
  mirrorAt : Option Nat := none
  transLoss : Nat := 0
  lane0 : SelLane := {}
  lane1 : SelLane := {}
  linkUp : Bool := false
  peer : Option AliveInfo := none
  peerActive : Bool := false
  edgeRun : Nat := 0
  lastEdge : Nat := 0
  /-- clk since which SEL_PEER has read PEER_ACTIVE. -/
  peerActiveSince : Nat := 0
  toggling : Bool := false
  selRole : Bool := false
  nextToggle : Nat := 0
  nextAlive : Nat := 0
  relinquished : Bool := false
  joinStep : Nat := 0
  deciding : Option Nat := none
  /-- Planned switchover: waiting for the next cycle start. -/
  switchAsked : Bool := false
  /-- RELINQUISH of a planned switchover sent at this clk, outputs still driven. -/
  handing : Option Nat := none
  /-- A RELINQUISH has arrived from the active module. -/
  peerGone : Bool := false
  /-- clk of the next calendar item, and of the last item of each loop. -/
  nextCal : Nat := 0
  loopSent : Table Nat := []
  sent : SelSent := {}
  mirror : MirrorStore := {}
  /-- Settings that take effect at start-up (R335). -/
  en : Bool := false
  pairId : Nat := 240
  peerNode : Nat := 0
  deriving DecidableEq, Repr

/-! ### Memory and repair (15) -/

/-- A ledger entry (R351). -/
structure LedgerEntry where
  when_ : Nat
  memory : Nat
  kind : Nat
  origin : Nat
  bank : Nat
  index : Nat
  spare : Nat
  deriving DecidableEq, Repr

/-- The repair map (R348): spared columns and rows as (memory, bank, index, spare), erased columns as
(memory, bank, column), the lanes retired, moves that have not ended. -/
structure RepairMap where
  cols : List (Nat × Nat × Nat × Nat) := []
  rows : List (Nat × Nat × Nat × Nat) := []
  erased : List (Nat × Nat × Nat) := []
  lanes : List Nat := []
  moving : List (Nat × Nat × Nat × Bool) := []
  deriving DecidableEq, Repr

/-- One copy of the repair map with its ledger. -/
structure MapCopy where
  gen : Nat
  intact : Bool
  map : RepairMap
  ledger : List LedgerEntry
  deriving DecidableEq, Repr

/-- A corrected symbol seen by the scrubber or the read path: memory, line offset, symbol column. -/
structure Hit where
  mem : MemKind
  line : Nat
  col : Nat
  deriving DecidableEq, Repr

/-- Memories, repair, caches (R337–R357). -/
structure Mem where
  /-- SRAM bytes that are not 0. -/
  sram : Table Byte := []
  poisonS : List Nat := []
  poisonM : List Nat := []
  sramCorrected : Nat := 0
  sramUncorrectable : Nat := 0
  mramCorrected : Nat := 0
  mramUncorrectable : Nat := 0
  passes : Nat := 0
  lastPass : Nat := 0
  passStart : Nat := 0
  scrubbing : Bool := false
  /-- Next line offset; SRAM at 0–0x7FFFFF, MRAM above. -/
  scrubPos : Nat := 0
  /-- The moves that began before the present pass, and those that the last pass has filled (R347). -/
  passMoves : List (Nat × Nat × Nat × Bool) := []
  filled : List (Nat × Nat × Nat × Bool) := []
  hits : List Hit := []
  prevHits : List Hit := []
  hardCells : List Hit := []
  writebacks : List Hit := []
  flags : Flags := 0
  map : RepairMap := {}
  repairGen : Nat := 0
  repairState : Nat := 0
  invState : Nat := 0
  invFirst : Nat := 0
  invCount : Nat := 0
  misses : Nat := 0
  /-- The caches of the eight engines: most recently used first (entry, its 64 bytes). -/
  caches : List (List (Nat × List Byte)) := [[], [], [], [], [], [], [], []]
  /-- Poisoned heddle entries that wait to be rewritten (R342). -/
  heddleBad : List Nat := []
  deriving DecidableEq, Repr

/-! ### Thermal (16) -/

/-- A die sensor at run time. Temperatures are Q16 °C. -/
structure Sensor where
  value : Int := 0
  raw : Int := 0
  pred : Int := 0
  rise : Int := 0
  /-- 0 OK, 1 SUSPECT, 2 BROKEN, 3 NO_CHECK. -/
  st : Nat := 0
  badRun : Nat := 0
  goodRun : Nat := 0
  /-- Values in use of the last 100 rounds, newest first. -/
  hist : List Int := []
  /-- What shutdown compares (R362). -/
  cmp : Int := 0
  coolSince : Option Nat := none
  deriving DecidableEq, Repr

/-- Thermal management. -/
structure Therm where
  sensors : Table Sensor := []
  /-- OFF_ij in 1/1024 of a Q16 unit, keyed 12 i + j. -/
  off : Table Int := []
  riseActive : List Nat := []
  riseCalm : List Nat := [0, 0, 0, 0]
  /-- The step of each domain by temperature alone, and the step in force (R363, R364). -/
  tempSteps : List Nat := [0, 0, 0, 0, 0, 0, 0, 0]
  steps : List Nat := [0, 0, 0, 0, 0, 0, 0, 0]
  causes : List Nat := [0, 0, 0, 0, 0, 0, 0, 0]
  dState : Nat := 0
  lState : Nat := 0
  dRestarts : List Nat := []
  lRestarts : List Nat := []
  vrefCorr : Int := 0
  flags : Flags := 0
  disagreeRun : Nat := 0
  roundDone : Bool := false
  /-- clk of the next crystal compensation (R367). -/
  nextTemp : Nat := 0
  deriving DecidableEq, Repr

/-! ### Functional safety (17) -/

/-- A safety channel at run time (R373–R380). -/
structure SafeRt where
  active : Bool := false
  deviated : Bool := false
  badRun : Nat := 0
  okRun : Nat := 0
  /-- The failures that hold the channel, as FAILURE_FLAGS bits. -/
  causes : Flags := 0
  held : Int := 0
  /-- A valve is held on; a direct fan is held at a command of its current loops (R373). -/
  heldOn : Bool := false
  deriving DecidableEq, Repr

/-- The safety supervisor. -/
structure Safety where
  /-- 0 NOT_RUNNING, 1 HEALTHY, 2 CHANNEL_FAULT, 3 SAFE_STOP. -/
  st : Nat := 0
  failures : Flags := 0
  lastAt : Nat := 0
  ch : Table SafeRt := []
  /-- SAFE_STATE and SAFE_VALUE latched at each COMMIT (R377). -/
  latched : List (Nat × Nat × Int) := []
  stopAt : Nat := 0
  autoTimes : List Nat := []
  windowAt : Nat := 0
  coresDone : List Nat := []
  watchdogBad : Bool := false
  safeA : Bool := false
  safeB : Bool := false
  nextToggle : Nat := 0
  faultN : Bool := false
  nextCheck : Nat := 0
  /-- Inputs whose failure holds loops (AI or IO heddle entries). -/
  inputs : List Nat := []
  deriving DecidableEq, Repr

/-! ### Snapshots and log (18) -/

/-- A trigger that waits for the copy to end (R392). -/
structure SnapTrig where
  slot : Nat
  source : Nat
  /-- Warp time and engine clock of the trigger instant. -/
  at_ : Nat
  atClk : Nat
  detail : Nat
  late : Bool
  merged : Bool
  deriving DecidableEq, Repr

/-- A snapshot slot. -/
structure SnapSlot where
  /-- 0 EMPTY, 1 ARMED, 2 CAPTURING, 3 FULL. -/
  st : Nat := 0
  armAt : Nat := 0
  data : List Byte := []
  /-- A write of ARM_AT waits for its instant. -/
  armed : Bool := false
  /-- Source and clk of the capture, for merging. -/
  source : Nat := 0
  atClk : Nat := 0
  deriving DecidableEq, Repr

/-- Snapshots and the log queue. -/
structure Snap where
  slots : Table SnapSlot := []
  dropped : Nat := 0
  delayed : List SnapTrig := []
  trigOut : Bool := false
  trigOutUntil : Nat := 0
  queue : List LogRec := []
  lost : Nat := 0
  deriving DecidableEq, Repr

/-! ### What survives a reset -/

/-- A profile stored in MRAM with its tag (R129). -/
structure StoredProfile where
  loop : Nat
  kind : Nat
  cycles : Nat
  bins : Nat
  values : List Int
  savedAt : Nat
  deriving DecidableEq, Repr

/-- What a firmware slot of MRAM holds (R344): the image the unit was shipped with, or the bytes staged since (R286), and
the offsets in the slot of its poisoned lines (R342). -/
structure FwSlot where
  shipped : Bool := false
  bytes : List Byte := []
  bad : List Nat := []
  deriving DecidableEq, Repr

/-- MRAM (R344) and the counts kept since manufacture, as structured records. -/
structure Mram where
  copies : List CfgCopy := [⟨0, 0, false, true, []⟩, ⟨0, 0, false, true, []⟩, ⟨0, 0, false, true, []⟩]
  cfgRepairs : Nat := 0
  /-- The log ring, oldest first. -/
  log : List LogRec := []
  nextSeq : Nat := 1
  poisonedLog : List Nat := []
  circ : List (Nat × CircLearn) := []
  vlv : List (Nat × List Nat × Nat) := []
  zones : List (Nat × Int × Int) := []
  profiles : List StoredProfile := []
  disp : DispRec := {}
  /-- Boot slot: 0 A, 1 B; slot states and versions (R288, R291). -/
  bootSlot : Nat := 0
  slotState : List Nat := [1, 0]
  slotVersion : List Nat := [0x00010000, 0]
  slots : List FwSlot := [{ shipped := true }, {}]
  rollbacks : Nat := 0
  /-- A TRIAL slot has begun to start and has not reached operational yet (R288). -/
  trialTried : Bool := false
  switchovers : Nat := 0
  shutdowns : Nat := 0
  saves : Nat := 0
  lastSaveAt : Nat := 0
  lastSaveTime : Nat := 0
  lastSaveBytes : Nat := 0
  lastSaveResult : Nat := 0
  save : SaveArea := {}
  maps : List MapCopy := [⟨0, true, {}, []⟩, ⟨0, true, {}, []⟩, ⟨0, true, {}, []⟩]
  ledger : List LedgerEntry := []
  deriving DecidableEq, Repr

/-- The alarms the rules raise (R76, R140, R216, R266, R361, R412). -/
inductive Alarm where
  | zoneInputFault (z : Nat)
  | vrefFault
  | tachWire (f : Nat)
  | configDivergent
  | configLost
  | tsBroken (s : Nat)
  | holdupInsufficient
  deriving DecidableEq, Repr

/-! ### The whole machine -/

/-- The state of the block. -/
structure State where
  /-- Engine clocks, never set back (R9). -/
  clk : Nat := 0
  /-- The model's own counter: one free value is taken for each count (log entry 8). -/
  free : Nat := 0
  power : Power := {}
  warp : Warp := {}
  cal : Cal := {}
  loom : Loom := {}
  engine : Engine := {}
  meas : Meas := {}
  valve : Valve := {}
  io : FieldIo := {}
  fans : Table FanRt := []
  disp : Disp := {}
  dict : Dict := {}
  host : HostPort := {}
  images : Images := {}
  can : Table CanRt := []
  pair : Pair := {}
  mem : Mem := {}
  therm : Therm := {}
  safety : Safety := {}
  snap : Snap := {}
  mram : Mram := {}
  alarms : List Alarm := []
  /-- The commands that wait, first in, first out. -/
  pending : List Instr := []
  deriving DecidableEq, Repr

/-- The reasons a run stops with a fault. No rule of the spec stops the block (INVENTORY.md, Faults);
nothing raises this one: safe. -/
inductive Fault where
  /-- Raised by no meaning: the module answers refused requests with abort codes. Safe. -/
  | none
  deriving DecidableEq, Repr

/-- The reasons a command is refused by the model. -/
inductive Refusal where
  /-- Raised by an arm of `exec` whose command has no meaning yet. Safe: the machine stops. -/
  | notModelled (mnemonic : String)
  deriving DecidableEq, Repr

/-- The machine right after reset: held in reset, MRAM as the factory leaves it (log entries 2, 7). -/
def State.reset : State := {}

end Sys2Proof.Machine
end

