-- ==== Sys2Proof/Machine/Schema.lean ====
section
/-! DEFINITION. The schema of the dictionary: every object and member of the manual's object tables, with
type, access, level, default and the values its Meaning column admits (R241–R244, R13). -/

namespace Sys2Proof.Machine

/-- The types of R242. -/
inductive MType where
  | bool
  | u8
  | u16
  | u32
  | s8
  | s16
  | s32
  | q16
  | warp
  | cal
  | str
  | blob
  deriving DecidableEq, Repr

/-- The access modes of R244. -/
inductive Acc where
  | ro
  | wo
  | rw
  | rwg
  deriving DecidableEq, Repr

/-- Members `first + i * stride`, `i < reps`, of an object: type, access, level, default, the intervals of
values the Meaning column admits (none: the whole type), the multiple a value must be of, and whether it
belongs to the configuration (R262). -/
structure MemDef where
  first : Nat
  reps : Nat
  stride : Nat
  ty : MType
  acc : Acc
  level : Nat
  dflt : Int
  ranges : List (Int × Int)
  step : Nat
  persist : Bool
  deriving DecidableEq, Repr

/-- Objects `base` to `base + count - 1`, all with the same members; `top` is what member 0 reads (R241). -/
structure ObjDef where
  base : Nat
  count : Nat
  top : Nat
  mems : List MemDef
  deriving DecidableEq, Repr

/-- Objects 0x1000. -/
def obj1000 : ObjDef := ⟨0x1000, 1, 4,
  [
    ⟨1, 1, 1, .str, .ro, 0, 0, [], 1, false⟩, -- VENDOR_NAME
    ⟨2, 1, 1, .str, .ro, 0, 0, [], 1, false⟩, -- PRODUCT
    ⟨3, 1, 1, .str, .ro, 0, 0, [], 1, false⟩, -- SERIAL
    ⟨4, 1, 1, .u32, .ro, 0, 0, [], 1, false⟩ -- FW_VERSION
  ]⟩

/-- Objects 0x1001. -/
def obj1001 : ObjDef := ⟨0x1001, 1, 1,
  [
    ⟨1, 1, 1, .u32, .ro, 0, 0, [], 1, false⟩ -- SCHEMA_VERSION
  ]⟩

/-- Objects 0x1010. -/
def obj1010 : ObjDef := ⟨0x1010, 1, 3,
  [
    ⟨1, 1, 1, .u8, .rw, 0, 0, [(0, 2)], 1, false⟩, -- ACCESS_REQUEST
    ⟨2, 1, 1, .u32, .wo, 0, 0, [], 1, false⟩, -- ACCESS_CODE
    ⟨3, 1, 1, .u16, .ro, 0, 0, [], 1, false⟩ -- PENDING_COUNT
  ]⟩

/-- Objects 0x1011. -/
def obj1011 : ObjDef := ⟨0x1011, 1, 4,
  [
    ⟨1, 1, 1, .u32, .wo, 2, 0, [], 1, true⟩, -- OPERATOR_CODE
    ⟨2, 1, 1, .u32, .wo, 2, 0, [], 1, true⟩, -- INSTALLER_CODE
    ⟨3, 1, 1, .u32, .rw, 2, 900, [(60, 86400)], 1, true⟩, -- ACCESS_TIMEOUT
    ⟨4, 1, 1, .u16, .rw, 2, 60, [(10, 3600)], 1, false⟩ -- PENDING_TIMEOUT
  ]⟩

/-- Objects 0x1020. -/
def obj1020 : ObjDef := ⟨0x1020, 1, 9,
  [
    ⟨1, 1, 1, .u32, .ro, 0, 0, [], 1, false⟩, -- CONFIG_GEN
    ⟨2, 1, 1, .u8, .ro, 0, 0, [], 1, false⟩, -- CONFIG_STATE
    ⟨3, 1, 1, .u32, .ro, 0, 0, [], 1, false⟩, -- CONFIG_REPAIRS
    ⟨4, 1, 1, .u32, .ro, 0, 0, [], 1, false⟩, -- COPY_GEN0
    ⟨5, 1, 1, .u32, .ro, 0, 0, [], 1, false⟩, -- COPY_GEN1
    ⟨6, 1, 1, .u32, .ro, 0, 0, [], 1, false⟩, -- COPY_GEN2
    ⟨7, 1, 1, .u16, .ro, 0, 0, [], 1, false⟩, -- SYNC_WAITING
    ⟨8, 1, 1, .u32, .ro, 0, 0, [], 1, false⟩, -- PENDING_DROPPED
    ⟨9, 1, 1, .u32, .ro, 0, 0, [], 1, false⟩ -- CONFIG_CRC
  ]⟩

/-- Objects 0x1030. -/
def obj1030 : ObjDef := ⟨0x1030, 1, 4,
  [
    ⟨1, 1, 1, .u32, .ro, 0, 0, [], 1, false⟩, -- HOST_CRC_ERRORS
    ⟨2, 1, 1, .u32, .ro, 0, 0, [], 1, false⟩, -- HOST_FRAME_ERRORS
    ⟨3, 1, 1, .u32, .ro, 0, 0, [], 1, false⟩, -- HOST_OVERRUNS
    ⟨4, 1, 1, .bool, .rwg, 2, 0, [], 1, true⟩ -- EVENT_EN
  ]⟩

/-- Objects 0x1031. -/
def obj1031 : ObjDef := ⟨0x1031, 1, 7,
  [
    ⟨1, 1, 1, .u8, .rwg, 2, 127, [(1, 239)], 1, true⟩, -- NODE_ID
    ⟨2, 1, 1, .u8, .rwg, 2, 3, [(0, 3)], 1, true⟩, -- DICT_CAN_EN
    ⟨3, 1, 1, .u8, .rwg, 2, 3, [(0, 3)], 1, true⟩, -- HB_EN
    ⟨4, 1, 1, .u16, .rwg, 2, 65535, [(0, 239), (65535, 65535)], 1, true⟩, -- MANAGER_SRC
    ⟨5, 1, 1, .u16, .rwg, 2, 30, [(5, 3600)], 1, true⟩, -- HOST_TIMEOUT
    ⟨6, 1, 1, .bool, .ro, 0, 0, [], 1, false⟩, -- HOST_SILENT
    ⟨7, 1, 1, .u8, .rwg, 2, 0, [(0, 239)], 1, true⟩ -- EVENT_NODE
  ]⟩

/-- Objects 0x1040. -/
def obj1040 : ObjDef := ⟨0x1040, 1, 7,
  [
    ⟨1, 1, 1, .u8, .rw, 2, 0, [(1, 2)], 1, false⟩, -- IMAGE_KIND
    ⟨2, 1, 1, .u32, .ro, 0, 0, [], 1, false⟩, -- IMAGE_OFFSET
    ⟨3, 1, 1, .blob, .wo, 2, 0, [], 1, false⟩, -- IMAGE_CHUNK
    ⟨4, 1, 1, .bool, .wo, 2, 0, [], 1, false⟩, -- IMAGE_VERIFY
    ⟨5, 1, 1, .u8, .ro, 0, 0, [], 1, false⟩, -- IMAGE_STATE
    ⟨6, 1, 1, .bool, .wo, 2, 0, [], 1, false⟩, -- IMAGE_ACTIVATE
    ⟨7, 1, 1, .u8, .ro, 0, 0, [], 1, false⟩ -- IMAGE_ERROR
  ]⟩

/-- Objects 0x1041. -/
def obj1041 : ObjDef := ⟨0x1041, 1, 14,
  [
    ⟨1, 1, 1, .u8, .ro, 0, 0, [], 1, false⟩, -- SLOT_RUNNING
    ⟨2, 1, 1, .u32, .ro, 0, 0, [], 1, false⟩, -- SLOT_A_VERSION
    ⟨3, 1, 1, .u32, .ro, 0, 0, [], 1, false⟩, -- SLOT_B_VERSION
    ⟨4, 1, 1, .u8, .ro, 0, 0, [], 1, false⟩, -- SLOT_A_STATE
    ⟨5, 1, 1, .u8, .ro, 0, 0, [], 1, false⟩, -- SLOT_B_STATE
    ⟨6, 1, 1, .bool, .wo, 2, 0, [], 1, false⟩, -- FW_CONFIRM
    ⟨7, 1, 1, .u16, .rwg, 2, 600, [(0, 3600)], 1, true⟩, -- CONFIRM_TIME
    ⟨8, 1, 1, .u16, .ro, 0, 0, [], 1, false⟩, -- CONFIRM_LEFT
    ⟨9, 1, 1, .u32, .ro, 0, 0, [], 1, false⟩, -- FW_ROLLBACKS
    ⟨10, 1, 1, .blob, .rwg, 3, 0, [], 1, true⟩, -- CFG_PUBKEY
    ⟨11, 1, 1, .bool, .ro, 0, 0, [], 1, false⟩, -- MIXED
    ⟨12, 1, 1, .cal, .ro, 0, 0, [], 1, false⟩, -- MIXED_SINCE
    ⟨13, 1, 1, .u32, .ro, 0, 0, [], 1, false⟩, -- PEER_FW_VERSION
    ⟨14, 1, 1, .u32, .ro, 0, 0, [], 1, false⟩ -- PEER_SCHEMA
  ]⟩

/-- Objects 0x1060. -/
def obj1060 : ObjDef := ⟨0x1060, 1, 5,
  [
    ⟨1, 1, 1, .u8, .ro, 0, 0, [], 1, false⟩, -- RESET_CAUSE
    ⟨2, 1, 1, .u8, .ro, 0, 0, [], 1, false⟩, -- START_STATE
    ⟨3, 1, 1, .u32, .ro, 0, 0, [], 1, false⟩, -- START_TIME
    ⟨4, 1, 1, .u8, .ro, 0, 0, [], 1, false⟩, -- HOLD_REASON
    ⟨5, 1, 1, .u16, .ro, 0, 0, [], 1, false⟩ -- POWER_FLAGS
  ]⟩

/-- Objects 0x1061. -/
def obj1061 : ObjDef := ⟨0x1061, 1, 4,
  [
    ⟨1, 1, 1, .u16, .ro, 0, 0, [], 1, false⟩, -- HOLDUP_C
    ⟨2, 1, 1, .u16, .ro, 0, 0, [], 1, false⟩, -- HOLDUP_ESR
    ⟨3, 1, 1, .u16, .ro, 0, 0, [], 1, false⟩, -- HOLDUP_ENERGY
    ⟨4, 1, 1, .u8, .ro, 0, 0, [], 1, false⟩ -- HOLDUP_STATE
  ]⟩

/-- Objects 0x1062. -/
def obj1062 : ObjDef := ⟨0x1062, 1, 6,
  [
    ⟨1, 1, 1, .u32, .ro, 0, 0, [], 1, false⟩, -- SAVE_COUNT
    ⟨2, 1, 1, .cal, .ro, 0, 0, [], 1, false⟩, -- LAST_SAVE_AT
    ⟨3, 1, 1, .u16, .ro, 0, 0, [], 1, false⟩, -- LAST_SAVE_TIME
    ⟨4, 1, 1, .u32, .ro, 0, 0, [], 1, false⟩, -- LAST_SAVE_BYTES
    ⟨5, 1, 1, .u8, .ro, 0, 0, [], 1, false⟩, -- LAST_SAVE_RESULT
    ⟨6, 1, 1, .u32, .ro, 0, 0, [], 1, false⟩ -- OUTAGE
  ]⟩

/-- Objects 0x1063. -/
def obj1063 : ObjDef := ⟨0x1063, 1, 1,
  [
    ⟨1, 1, 1, .u16, .rwg, 2, 60, [(0, 3600)], 1, true⟩ -- RESUME_WINDOW
  ]⟩

/-- Objects 0x1100 + 0..1. -/
def obj1100 : ObjDef := ⟨0x1100, 2, 33,
  [
    ⟨1, 1, 1, .u8, .rwg, 2, 1, [(0, 3)], 1, true⟩, -- OP_MODE
    ⟨2, 1, 1, .u32, .rwg, 2, 32763840, [], 1, true⟩, -- NBT
    ⟨3, 1, 1, .u32, .rwg, 2, 16148352, [], 1, true⟩, -- DBT
    ⟨4, 1, 1, .bool, .rwg, 2, 1, [], 1, true⟩, -- FD_EN
    ⟨5, 1, 1, .u16, .rwg, 2, 100, [(0, 60000)], 1, true⟩, -- BUSOFF_HOLDOFF
    ⟨6, 1, 1, .bool, .rwg, 2, 0, [], 1, true⟩, -- BUSOFF_MANUAL
    ⟨7, 1, 1, .u8, .rwg, 2, 0, [(0, 1)], 1, true⟩, -- LONE_MODE
    ⟨8, 1, 1, .bool, .rwg, 2, 0, [], 1, true⟩, -- ABD_AUTO_JOIN
    ⟨9, 1, 1, .u8, .rwg, 2, 1, [(1, 8)], 1, true⟩, -- ABD_COUNT
    ⟨10, 8, 2, .u32, .rwg, 2, 32763840, [], 1, true⟩, -- ABD_NBTi
    ⟨11, 8, 2, .u32, .rwg, 2, 16148352, [], 1, true⟩, -- ABD_DBTi
    ⟨26, 1, 1, .u8, .rwg, 2, 0, [(0, 1)], 1, true⟩, -- WAKE_MODE
    ⟨27, 1, 1, .u32, .rwg, 2, 0, [(0, 1073741823)], 1, true⟩, -- WUF_ID
    ⟨28, 1, 1, .u32, .rwg, 2, 536870911, [], 1, true⟩, -- WUF_MASK
    ⟨29, 1, 1, .u8, .rwg, 2, 0, [(0, 8)], 1, true⟩, -- WUF_DLC
    ⟨30, 1, 1, .u32, .rwg, 2, 0, [], 1, true⟩, -- WUF_DATA_LO
    ⟨31, 1, 1, .u32, .rwg, 2, 0, [], 1, true⟩, -- WUF_DATA_HI
    ⟨32, 1, 1, .bool, .rwg, 2, 1, [], 1, true⟩, -- LOCAL_WAKE
    ⟨33, 1, 1, .bool, .rw, 2, 0, [], 1, false⟩ -- SLEEP_REQ
  ]⟩

/-- Objects 0x1110 + 0..1. -/
def obj1110 : ObjDef := ⟨0x1110, 2, 15,
  [
    ⟨1, 1, 1, .u8, .ro, 0, 0, [], 1, false⟩, -- CTRL_STATE
    ⟨2, 1, 1, .u8, .ro, 0, 0, [], 1, false⟩, -- TEC
    ⟨3, 1, 1, .u8, .ro, 0, 0, [], 1, false⟩, -- REC
    ⟨4, 1, 1, .u16, .ro, 0, 0, [], 1, false⟩, -- CAN_FLAGS
    ⟨5, 1, 1, .u32, .ro, 0, 0, [], 1, false⟩, -- BUSOFF_COUNT
    ⟨6, 1, 1, .bool, .wo, 2, 0, [], 1, false⟩, -- RECOVER
    ⟨7, 1, 1, .u8, .ro, 0, 0, [], 1, false⟩, -- ABD_RESULT
    ⟨8, 1, 1, .u8, .ro, 0, 0, [], 1, false⟩, -- WAKE_CAUSE
    ⟨9, 1, 1, .u8, .ro, 0, 0, [], 1, false⟩, -- TX_QUEUED
    ⟨10, 1, 1, .u32, .ro, 0, 0, [], 1, false⟩, -- TX_SENT
    ⟨11, 1, 1, .u32, .ro, 0, 0, [], 1, false⟩, -- RX_FRAMES
    ⟨12, 1, 1, .u32, .ro, 0, 0, [], 1, false⟩, -- RX_DISCARDED
    ⟨13, 1, 1, .u32, .ro, 0, 0, [], 1, false⟩, -- RTR_RECEIVED
    ⟨14, 1, 1, .u8, .ro, 0, 0, [], 1, false⟩, -- LAST_ERROR
    ⟨15, 1, 1, .u32, .ro, 0, 0, [], 1, false⟩ -- URGENT_EXPIRED
  ]⟩

/-- Objects 0x1120 + 0..1. -/
def obj1120 : ObjDef := ⟨0x1120, 2, 4,
  [
    ⟨1, 1, 1, .blob, .wo, 2, 0, [], 1, false⟩, -- TX_FRAME
    ⟨2, 1, 1, .u16, .ro, 0, 0, [], 1, false⟩, -- TX_LAST_HANDLE
    ⟨3, 1, 1, .u16, .wo, 2, 0, [], 1, false⟩, -- TX_CANCEL
    ⟨4, 1, 1, .u8, .ro, 0, 0, [], 1, false⟩ -- TX_CANCEL_RESULT
  ]⟩

/-- Objects 0x1200 + 0..127. -/
def obj1200 : ObjDef := ⟨0x1200, 128, 7,
  [
    ⟨1, 1, 1, .u8, .rwg, 2, 0, [(0, 2)], 1, true⟩, -- RX_MODE
    ⟨2, 1, 1, .u32, .rwg, 2, 0, [(0, 1073741823)], 1, true⟩, -- FILTER_ID
    ⟨3, 1, 1, .u32, .rwg, 2, 0, [(0, 1073741823)], 1, true⟩, -- FILTER_MASK
    ⟨4, 1, 1, .u8, .rwg, 2, 3, [(0, 7)], 1, true⟩, -- ACCEPT
    ⟨5, 1, 1, .bool, .rwg, 2, 0, [], 1, true⟩, -- IRQ_EN
    ⟨6, 1, 1, .blob, .ro, 0, 0, [], 1, false⟩, -- RECORD
    ⟨7, 1, 1, .bool, .wo, 0, 0, [], 1, false⟩ -- RX_ACK
  ]⟩

/-- Objects 0x2000. -/
def obj2000 : ObjDef := ⟨0x2000, 1, 10,
  [
    ⟨1, 1, 1, .warp, .ro, 0, 0, [], 1, false⟩, -- WARP_NOW
    ⟨2, 1, 1, .u8, .ro, 0, 0, [], 1, false⟩, -- WARP_STATE
    ⟨3, 1, 1, .bool, .ro, 0, 0, [], 1, false⟩, -- SYNTHETIC
    ⟨4, 1, 1, .q16, .ro, 0, 0, [], 1, false⟩, -- MAINS_FREQ
    ⟨5, 1, 1, .u16, .ro, 0, 0, [], 1, false⟩, -- MAINS_AMPL
    ⟨6, 1, 1, .s16, .ro, 0, 0, [], 1, false⟩, -- PHASE_ERROR
    ⟨7, 1, 1, .u32, .ro, 0, 0, [], 1, false⟩, -- CYCLE_CLOCKS
    ⟨8, 1, 1, .u32, .ro, 0, 0, [], 1, false⟩, -- PHASE_STEPS
    ⟨9, 1, 1, .s32, .ro, 0, 0, [], 1, false⟩, -- LAST_STEP
    ⟨10, 1, 1, .u8, .ro, 0, 0, [], 1, false⟩ -- ALIGN_STATE
  ]⟩

/-- Objects 0x2001. -/
def obj2001 : ObjDef := ⟨0x2001, 1, 7,
  [
    ⟨1, 1, 1, .u8, .rwg, 2, 50, [(50, 50), (60, 60)], 1, true⟩, -- NOMINAL_FREQ
    ⟨2, 1, 1, .s16, .rwg, 2, 0, [((-32768), 32767)], 1, true⟩, -- PHASE_OFFSET
    ⟨3, 1, 1, .u16, .rwg, 2, 300, [(100, 1000)], 1, true⟩, -- MIN_AMPL
    ⟨4, 1, 1, .u8, .rwg, 2, 10, [(1, 50)], 1, true⟩, -- HOLDOVER_CYCLES
    ⟨5, 1, 1, .u16, .rwg, 2, 1024, [(64, 16384)], 1, true⟩, -- STEP_THRESHOLD
    ⟨6, 1, 1, .u8, .rwg, 2, 1, [(0, 2)], 1, true⟩, -- PLL_BW
    ⟨7, 1, 1, .u8, .rwg, 2, 0, [(0, 239)], 1, true⟩ -- ALIGN_SOURCE
  ]⟩

/-- Objects 0x2010. -/
def obj2010 : ObjDef := ⟨0x2010, 1, 7,
  [
    ⟨1, 1, 1, .cal, .rw, 2, 0, [], 1, false⟩, -- CAL_NOW
    ⟨2, 1, 1, .s32, .wo, 2, 0, [], 1, false⟩, -- CAL_SLEW
    ⟨3, 1, 1, .u8, .ro, 0, 0, [], 1, false⟩, -- CAL_STATE
    ⟨4, 1, 1, .s32, .ro, 0, 0, [], 1, false⟩, -- SLEW_LEFT
    ⟨5, 1, 1, .cal, .ro, 0, 0, [], 1, false⟩, -- LOCAL_NOW
    ⟨6, 1, 1, .s16, .ro, 0, 0, [], 1, false⟩, -- UTC_OFFSET_NOW
    ⟨7, 1, 1, .u32, .ro, 0, 0, [], 1, false⟩ -- CAL_STEPS
  ]⟩

/-- Objects 0x2011. -/
def obj2011 : ObjDef := ⟨0x2011, 1, 7,
  [
    ⟨1, 1, 1, .s16, .ro, 0, 0, [], 1, false⟩, -- TEMP_CORR
    ⟨2, 1, 1, .s16, .ro, 0, 0, [], 1, false⟩, -- GRID_CORR
    ⟨3, 1, 1, .s16, .ro, 0, 0, [], 1, false⟩, -- GRID_TARGET
    ⟨4, 1, 1, .bool, .rw, 2, 0, [], 1, true⟩, -- GRID_DISC_EN
    ⟨5, 1, 1, .u8, .rw, 2, 7, [(1, 28)], 1, true⟩, -- GRID_WINDOW
    ⟨6, 1, 1, .u8, .ro, 0, 0, [], 1, false⟩, -- GRID_COVERAGE
    ⟨7, 1, 1, .u8, .ro, 0, 0, [], 1, false⟩ -- VRTC_STATE
  ]⟩

/-- Objects 0x2020. -/
def obj2020 : ObjDef := ⟨0x2020, 1, 2,
  [
    ⟨1, 1, 1, .s16, .rwg, 2, 0, [((-720), 840)], 15, true⟩, -- TZ_OFFSET
    ⟨2, 1, 1, .u8, .rwg, 2, 0, [(0, 8)], 1, true⟩ -- DST_COUNT
  ]⟩

/-- Objects 0x2021 + 0..7. -/
def obj2021 : ObjDef := ⟨0x2021, 8, 5,
  [
    ⟨1, 1, 1, .u16, .rwg, 2, 2000, [(2000, 2099)], 1, true⟩, -- FIRST_YEAR
    ⟨2, 1, 1, .u16, .rwg, 2, 2099, [(2000, 2099)], 1, true⟩, -- LAST_YEAR
    ⟨3, 1, 1, .u32, .rwg, 2, 0, [], 1, true⟩, -- DST_START
    ⟨4, 1, 1, .u32, .rwg, 2, 0, [], 1, true⟩, -- DST_END
    ⟨5, 1, 1, .s16, .rwg, 2, 60, [], 1, true⟩ -- DST_SHIFT
  ]⟩

/-- Objects 0x2030. -/
def obj2030 : ObjDef := ⟨0x2030, 1, 2,
  [
    ⟨1, 1, 1, .q16, .rwg, 2, 0, [((-5898240), 5898240)], 1, true⟩, -- LATITUDE
    ⟨2, 1, 1, .q16, .rwg, 2, 0, [((-11796480), 11796480)], 1, true⟩ -- LONGITUDE
  ]⟩

/-- Objects 0x2031. -/
def obj2031 : ObjDef := ⟨0x2031, 1, 10,
  [
    ⟨1, 8, 1, .cal, .ro, 0, 0, [], 1, false⟩, -- EVENTS_TODAY
    ⟨9, 1, 1, .u16, .ro, 0, 0, [], 1, false⟩, -- EVENT_FLAGS
    ⟨10, 1, 1, .u32, .ro, 0, 0, [], 1, false⟩ -- LOCAL_DATE
  ]⟩

/-- Objects 0x2032. -/
def obj2032 : ObjDef := ⟨0x2032, 1, 10,
  [
    ⟨1, 8, 1, .cal, .ro, 0, 0, [], 1, false⟩, -- EVENTS_TOMORROW
    ⟨9, 1, 1, .u16, .ro, 0, 0, [], 1, false⟩, -- EVENT_FLAGS
    ⟨10, 1, 1, .u32, .ro, 0, 0, [], 1, false⟩ -- LOCAL_DATE
  ]⟩

/-- Objects 0x3000. -/
def obj3000 : ObjDef := ⟨0x3000, 1, 4,
  [
    ⟨1, 1, 1, .u16, .ro, 0, 0, [], 1, false⟩, -- ARM_LOAD
    ⟨2, 1, 1, .u32, .ro, 0, 0, [], 1, false⟩, -- ARM_OVERFLOWS
    ⟨3, 1, 1, .bool, .ro, 0, 0, [], 1, false⟩, -- PHASE_TRUE
    ⟨4, 1, 1, .u32, .ro, 0, 0, [], 1, false⟩ -- RULE_OVERRUNS
  ]⟩

/-- Objects 0x3001. -/
def obj3001 : ObjDef := ⟨0x3001, 1, 2,
  [
    ⟨1, 1, 1, .u16, .rwg, 2, 49152, [(16384, 57344)], 1, true⟩, -- ARM_CLOSE
    ⟨2, 1, 1, .u8, .rwg, 2, 16, [(4, 64)], 1, true⟩ -- LEARN_DIV
  ]⟩

/-- Objects 0x3200 + 0..31. -/
def obj3200 : ObjDef := ⟨0x3200, 32, 31,
  [
    ⟨1, 1, 1, .bool, .rwg, 2, 0, [], 1, true⟩, -- ENABLE
    ⟨2, 1, 1, .u16, .rwg, 2, 65535, [(256, 303), (65535, 65535)], 1, true⟩, -- OUTPUT
    ⟨3, 1, 1, .u16, .rwg, 2, 0, [], 1, true⟩, -- ZERO_OFFSET
    ⟨4, 1, 1, .u8, .rwg, 2, 0, [(0, 3)], 1, true⟩, -- CLOSE_POLARITY
    ⟨5, 1, 1, .u16, .rwg, 2, 65535, [(308, 331), (65535, 65535)], 1, true⟩, -- LOAD_INPUT
    ⟨6, 1, 1, .u16, .rwg, 2, 0, [(0, 5000)], 1, true⟩, -- LOAD_DELAY
    ⟨7, 1, 1, .u16, .rwg, 2, 1000, [(0, 5000)], 1, true⟩, -- OPEN_LEAD
    ⟨8, 1, 1, .u32, .rwg, 2, 15000, [(1000, 200000)], 1, true⟩, -- LAT_INIT
    ⟨9, 1, 1, .u32, .rwg, 2, 10000, [(1000, 200000)], 1, true⟩, -- REL_INIT
    ⟨10, 1, 1, .u16, .rwg, 2, 0, [(0, 3600)], 1, true⟩, -- MIN_ON
    ⟨11, 1, 1, .u16, .rwg, 2, 0, [(0, 3600)], 1, true⟩, -- MIN_OFF
    ⟨12, 1, 1, .u8, .rw, 1, 0, [(0, 4)], 1, true⟩, -- OVERRIDE
    ⟨13, 1, 1, .u8, .ro, 0, 0, [], 1, false⟩, -- STATE
    ⟨14, 1, 1, .u8, .rwg, 2, 0, [(0, 16)], 1, true⟩, -- ENTRY_COUNT
    ⟨15, 16, 1, .u32, .rwg, 2, 0, [], 1, true⟩, -- ENTRY0–ENTRY15
    ⟨31, 1, 1, .u8, .rwg, 2, 2, [(0, 2)], 1, true⟩ -- CAL_FALLBACK
  ]⟩

/-- Objects 0x3240 + 0..31. -/
def obj3240 : ObjDef := ⟨0x3240, 32, 10,
  [
    ⟨1, 1, 1, .u32, .ro, 0, 0, [], 1, false⟩, -- LAT_MEAN
    ⟨2, 1, 1, .u32, .ro, 0, 0, [], 1, false⟩, -- LAT_SPREAD
    ⟨3, 1, 1, .u32, .ro, 0, 0, [], 1, false⟩, -- LAT_COUNT
    ⟨4, 1, 1, .u32, .ro, 0, 0, [], 1, false⟩, -- REL_MEAN
    ⟨5, 1, 1, .u16, .ro, 0, 0, [], 1, false⟩, -- CURRENT_LAG
    ⟨6, 1, 1, .u32, .ro, 0, 0, [], 1, false⟩, -- CLOSE_ERR_RMS
    ⟨7, 1, 1, .s32, .ro, 0, 0, [], 1, false⟩, -- SEAT_TO_LOAD
    ⟨8, 1, 1, .u32, .ro, 0, 0, [], 1, false⟩, -- OUTLIERS
    ⟨9, 1, 1, .u16, .ro, 0, 0, [], 1, false⟩, -- FLAGS
    ⟨10, 1, 1, .bool, .wo, 2, 0, [], 1, false⟩ -- LEARN_RESET
  ]⟩

/-- Objects 0x3400 + 0..63. -/
def obj3400 : ObjDef := ⟨0x3400, 64, 26,
  [
    ⟨1, 1, 1, .bool, .rwg, 2, 0, [], 1, true⟩, -- ENABLE
    ⟨2, 1, 1, .u16, .rwg, 2, 65535, [(0, 255), (65535, 65535)], 1, true⟩, -- LOOP
    ⟨3, 1, 1, .u16, .rwg, 2, 65535, [(256, 287), (65535, 65535)], 1, true⟩, -- OCC_INPUT
    ⟨4, 1, 1, .u8, .rwg, 2, 255, [(0, 15), (255, 255)], 1, true⟩, -- OCC_PROGRAM
    ⟨5, 1, 1, .u16, .rwg, 2, 15, [(0, 1440)], 1, true⟩, -- OCC_HOLD
    ⟨6, 1, 1, .u16, .rwg, 2, 65535, [(256, 287), (65535, 65535)], 1, true⟩, -- OPEN_INPUT
    ⟨7, 1, 1, .q16, .rwg, 2, 1376256, [(0, 2621440)], 1, true⟩, -- SP_OCCUPIED
    ⟨8, 1, 1, .q16, .rwg, 2, 1245184, [(0, 2621440)], 1, true⟩, -- SP_STANDBY
    ⟨9, 1, 1, .q16, .rwg, 2, 1048576, [(0, 2621440)], 1, true⟩, -- SP_SETBACK
    ⟨10, 1, 1, .q16, .rwg, 2, 458752, [(0, 2621440)], 1, true⟩, -- SP_PROTECT
    ⟨11, 1, 1, .u8, .rw, 1, 0, [(0, 4)], 1, true⟩, -- MODE_REQUEST
    ⟨12, 1, 1, .u8, .ro, 0, 0, [], 1, false⟩, -- MODE
    ⟨13, 1, 1, .q16, .ro, 0, 0, [], 1, false⟩, -- SP_ACTIVE
    ⟨14, 1, 1, .cal, .ro, 0, 0, [], 1, false⟩, -- PRESTART_AT
    ⟨15, 1, 1, .bool, .rwg, 2, 0, [], 1, true⟩, -- OS_ENABLE
    ⟨16, 1, 1, .q16, .rwg, 2, 196608, [(6554, 1310720)], 1, true⟩, -- HEAT_RATE_INIT
    ⟨17, 1, 1, .q16, .rwg, 2, 131072, [(6554, 1310720)], 1, true⟩, -- COOL_RATE_INIT
    ⟨18, 1, 1, .u16, .rwg, 2, 15, [(0, 120)], 1, true⟩, -- DEAD_TIME
    ⟨19, 1, 1, .u16, .rwg, 2, 180, [(0, 720)], 1, true⟩, -- MAX_PRESTART
    ⟨20, 1, 1, .q16, .rwg, 2, 16384, [(3277, 131072)], 1, true⟩, -- OS_REACH
    ⟨21, 1, 1, .u8, .rwg, 2, 4, [(1, 32)], 1, true⟩, -- OS_LEARN_DIV
    ⟨22, 1, 1, .q16, .ro, 0, 0, [], 1, false⟩, -- HEAT_RATE
    ⟨23, 1, 1, .q16, .ro, 0, 0, [], 1, false⟩, -- COOL_RATE
    ⟨24, 1, 1, .s16, .ro, 0, 0, [], 1, false⟩, -- OS_LAST_ERROR
    ⟨25, 1, 1, .bool, .wo, 2, 0, [], 1, false⟩, -- OS_LEARN_RESET
    ⟨26, 1, 1, .u32, .ro, 0, 0, [], 1, false⟩ -- OS_COUNT
  ]⟩

/-- Objects 0x3500 + 0..15. -/
def obj3500 : ObjDef := ⟨0x3500, 16, 17,
  [
    ⟨1, 1, 1, .u8, .rwg, 2, 0, [(0, 16)], 1, true⟩, -- ENTRY_COUNT
    ⟨2, 16, 1, .u32, .rwg, 2, 0, [], 1, true⟩ -- ENTRY0–ENTRY15
  ]⟩

/-- Objects 0x3600 + 0..63. -/
def obj3600 : ObjDef := ⟨0x3600, 64, 10,
  [
    ⟨1, 1, 1, .u8, .rwg, 2, 0, [], 1, true⟩, -- DOMAIN
    ⟨2, 1, 1, .warp, .rwg, 2, 0, [], 1, true⟩, -- WHEN_WARP
    ⟨3, 1, 1, .cal, .rwg, 2, 0, [], 1, true⟩, -- WHEN_CAL
    ⟨4, 1, 1, .u8, .rwg, 2, 0, [], 1, true⟩, -- LOOP
    ⟨5, 1, 1, .u32, .rwg, 2, 0, [], 1, true⟩, -- SAMPLE
    ⟨6, 1, 1, .u8, .rwg, 2, 0, [], 1, true⟩, -- ACTION
    ⟨7, 1, 1, .u32, .rwg, 2, 0, [], 1, true⟩, -- TARGET
    ⟨8, 1, 1, .s32, .rwg, 2, 0, [], 1, true⟩, -- VALUE
    ⟨9, 1, 1, .u8, .rw, 2, 0, [(0, 1)], 1, false⟩, -- ARM
    ⟨10, 1, 1, .u8, .ro, 0, 0, [], 1, false⟩ -- EV_STATE
  ]⟩

/-- Objects 0x3800 + 0..511. -/
def obj3800 : ObjDef := ⟨0x3800, 512, 12,
  [
    ⟨1, 1, 1, .bool, .rwg, 2, 0, [], 1, true⟩, -- ENABLE
    ⟨2, 1, 1, .u32, .rwg, 2, 0, [], 1, true⟩, -- SUBJECT
    ⟨3, 1, 1, .u8, .rwg, 2, 0, [], 1, true⟩, -- OPERATOR
    ⟨4, 1, 1, .u8, .rwg, 2, 0, [], 1, true⟩, -- OPERAND_KIND
    ⟨5, 1, 1, .s32, .rwg, 2, 0, [], 1, true⟩, -- VALUE_B
    ⟨6, 1, 1, .s32, .rwg, 2, 0, [], 1, true⟩, -- HYST
    ⟨7, 1, 1, .u16, .rwg, 2, 0, [(0, 65535)], 10, true⟩, -- DELAY
    ⟨8, 1, 1, .u8, .rwg, 2, 0, [], 1, true⟩, -- TRIGGER
    ⟨9, 1, 1, .u8, .rwg, 2, 0, [], 1, true⟩, -- ACTION
    ⟨10, 1, 1, .u32, .rwg, 2, 0, [], 1, true⟩, -- TARGET
    ⟨11, 1, 1, .s32, .rwg, 2, 0, [], 1, true⟩, -- VALUE
    ⟨12, 1, 1, .u32, .ro, 0, 0, [], 1, false⟩ -- FIRES
  ]⟩

/-- Objects 0x4000 + 0..255. -/
def obj4000 : ObjDef := ⟨0x4000, 256, 15,
  [
    ⟨1, 1, 1, .bool, .rwg, 2, 0, [], 1, true⟩, -- ENABLE
    ⟨2, 1, 1, .u8, .rwg, 2, 2, [(0, 2)], 1, true⟩, -- CLASS
    ⟨3, 1, 1, .u8, .rwg, 2, 1, [(0, 2)], 1, true⟩, -- TRIGGER
    ⟨4, 1, 1, .u32, .rwg, 2, 1000000, [(20, 100000000)], 1, true⟩, -- SAMPLE_PERIOD
    ⟨5, 1, 1, .u16, .rwg, 2, 1, [(1, 4096)], 1, true⟩, -- WARP_DIV
    ⟨6, 1, 1, .u16, .rwg, 2, 0, [], 1, true⟩, -- WARP_PHASE
    ⟨7, 1, 1, .u16, .rwg, 2, 65535, [], 1, true⟩, -- PV_SOURCE
    ⟨8, 1, 1, .u16, .rwg, 2, 65535, [], 1, true⟩, -- SP_SOURCE
    ⟨9, 1, 1, .u8, .rwg, 2, 16, [(0, 31)], 1, true⟩, -- POINT
    ⟨10, 1, 1, .u8, .rwg, 2, 0, [(0, 1)], 1, true⟩, -- ERR_SIGN
    ⟨11, 1, 1, .s32, .rwg, 2, (-2147483648), [], 1, true⟩, -- OUT_MIN
    ⟨12, 1, 1, .s32, .rwg, 2, 2147483647, [], 1, true⟩, -- OUT_MAX
    ⟨13, 1, 1, .u16, .rwg, 2, 65535, [(256, 307), (332, 339), (65535, 65535)], 1, true⟩, -- OUTPUT
    ⟨14, 1, 1, .u8, .rwg, 2, 255, [(0, 15), (255, 255)], 1, true⟩, -- INTEG_SECTION
    ⟨15, 1, 1, .s32, .rw, 1, 0, [], 1, true⟩ -- SETPOINT
  ]⟩

/-- Objects 0x4300. -/
def obj4300 : ObjDef := ⟨0x4300, 1, 8,
  [
    ⟨1, 1, 1, .u16, .ro, 0, 0, [], 1, false⟩, -- POOL_FREE
    ⟨2, 1, 1, .u8, .ro, 0, 0, [], 1, false⟩, -- ENGINE_LOAD
    ⟨3, 1, 1, .u16, .ro, 0, 0, [], 1, false⟩, -- LANE_STATUS
    ⟨4, 1, 1, .u32, .ro, 0, 0, [], 1, false⟩, -- LANE_A_FAULTS
    ⟨5, 1, 1, .u32, .ro, 0, 0, [], 1, false⟩, -- LANE_B_FAULTS
    ⟨6, 1, 1, .u32, .ro, 0, 0, [], 1, false⟩, -- LANE_S_FAULTS
    ⟨7, 1, 1, .u32, .rw, 3, 3600, [(60, 86400)], 1, true⟩, -- LANE_WINDOW
    ⟨8, 1, 1, .u8, .ro, 0, 0, [], 1, false⟩ -- CLASS_A_SECTIONS
  ]⟩

/-- Objects 0x4400 + 0..255. -/
def obj4400 : ObjDef := ⟨0x4400, 256, 97,
  [
    ⟨1, 16, 6, .s32, .rwg, 2, 0, [], 1, true⟩, -- B0_k
    ⟨2, 16, 6, .s32, .rwg, 2, 0, [], 1, true⟩, -- B1_k
    ⟨3, 16, 6, .s32, .rwg, 2, 0, [], 1, true⟩, -- B2_k
    ⟨4, 16, 6, .s32, .rwg, 2, 0, [], 1, true⟩, -- A1_k
    ⟨5, 16, 6, .s32, .rwg, 2, 0, [], 1, true⟩, -- A2_k
    ⟨6, 16, 6, .u32, .rwg, 2, 0, [], 1, true⟩, -- SHIFTS_k
    ⟨97, 1, 1, .u8, .rwg, 2, 0, [(0, 16)], 1, true⟩ -- SECTION_COUNT
  ]⟩

/-- Objects 0x4800 + 0..255. -/
def obj4800 : ObjDef := ⟨0x4800, 256, 28,
  [
    ⟨1, 1, 1, .s32, .ro, 0, 0, [], 1, false⟩, -- PV
    ⟨2, 1, 1, .s32, .ro, 0, 0, [], 1, false⟩, -- SP
    ⟨3, 1, 1, .s32, .ro, 0, 0, [], 1, false⟩, -- ERROR
    ⟨4, 1, 1, .s32, .ro, 0, 0, [], 1, false⟩, -- OUT
    ⟨5, 1, 1, .warp, .ro, 0, 0, [], 1, false⟩, -- OUT_STAMP
    ⟨6, 1, 1, .u32, .ro, 0, 0, [], 1, false⟩, -- LAST_DELAY
    ⟨7, 1, 1, .u32, .ro, 0, 0, [], 1, false⟩, -- MIN_DELAY
    ⟨8, 1, 1, .u32, .ro, 0, 0, [], 1, false⟩, -- MAX_DELAY
    ⟨9, 1, 1, .u32, .ro, 0, 0, [], 1, false⟩, -- SAMPLES
    ⟨10, 1, 1, .u32, .ro, 0, 0, [], 1, false⟩, -- OVERRUNS
    ⟨11, 1, 1, .u32, .ro, 0, 0, [], 1, false⟩, -- DELAY_EXCESS
    ⟨12, 1, 1, .u32, .ro, 0, 0, [], 1, false⟩, -- RETRIES
    ⟨13, 1, 1, .u16, .ro, 0, 0, [], 1, false⟩, -- LOOP_FLAGS
    ⟨14, 1, 1, .bool, .wo, 2, 0, [], 1, false⟩, -- STATS_RESET
    ⟨15, 1, 1, .u16, .ro, 0, 0, [], 1, false⟩, -- SECTION_BASE
    ⟨16, 1, 1, .u8, .rw, 1, 1, [(0, 2)], 1, true⟩, -- MODE
    ⟨17, 1, 1, .s32, .rw, 1, 0, [], 1, true⟩, -- MAN_OUT
    ⟨18, 1, 1, .u8, .ro, 0, 0, [], 1, false⟩, -- MODE_ACTIVE
    ⟨19, 1, 1, .u32, .rwg, 2, 0, [], 1, true⟩, -- HANDOVER_TOL
    ⟨20, 1, 1, .u8, .rwg, 2, 1, [(0, 1)], 1, true⟩, -- COND_INT
    ⟨21, 1, 1, .bool, .rwg, 2, 0, [], 1, true⟩, -- PRESET_ON_COMMIT
    ⟨22, 1, 1, .u32, .rwg, 2, 0, [], 1, true⟩, -- RAMP_UP
    ⟨23, 1, 1, .u32, .rwg, 2, 0, [], 1, true⟩, -- RAMP_DOWN
    ⟨24, 1, 1, .u8, .rwg, 2, 0, [(0, 2)], 1, true⟩, -- RAMP_SCALE
    ⟨25, 1, 1, .s32, .ro, 0, 0, [], 1, false⟩, -- SP_RAMP
    ⟨26, 1, 1, .s32, .ro, 0, 0, [], 1, false⟩, -- PRESET_RESIDUAL
    ⟨27, 1, 1, .u32, .ro, 0, 0, [], 1, false⟩, -- HANDOVERS
    ⟨28, 1, 1, .u16, .ro, 0, 0, [], 1, false⟩ -- MODE_FLAGS
  ]⟩

/-- Objects 0x4C00 + 0..255. -/
def obj4C00 : ObjDef := ⟨0x4C00, 256, 15,
  [
    ⟨1, 1, 1, .bool, .rwg, 2, 0, [], 1, true⟩, -- RC_ENABLE
    ⟨2, 1, 1, .u8, .rwg, 2, 0, [(0, 2)], 1, true⟩, -- PERIOD_KIND
    ⟨3, 1, 1, .u16, .rwg, 2, 1, [(0, 4096)], 1, true⟩, -- PERIOD_CYCLES
    ⟨4, 1, 1, .u16, .rwg, 2, 0, [(0, 4096)], 1, true⟩, -- BINS
    ⟨5, 1, 1, .u16, .rwg, 2, 0, [], 1, true⟩, -- LEAD_BINS
    ⟨6, 1, 1, .q16, .rwg, 2, 16384, [(0, 65536)], 1, true⟩, -- RC_GAIN
    ⟨7, 1, 1, .u16, .rwg, 2, 0, [(0, 4096)], 1, true⟩, -- RC_FORGET
    ⟨8, 1, 1, .s32, .rwg, 2, 2147483647, [(0, 2147483647)], 1, true⟩, -- RC_LIMIT
    ⟨9, 1, 1, .bool, .wo, 2, 0, [], 1, false⟩, -- RC_CLEAR
    ⟨10, 1, 1, .s32, .ro, 0, 0, [], 1, false⟩, -- RC_TERM
    ⟨11, 1, 1, .u16, .ro, 0, 0, [], 1, false⟩, -- RC_BIN
    ⟨12, 1, 1, .u8, .ro, 0, 0, [], 1, false⟩, -- RC_STATE
    ⟨13, 1, 1, .cal, .ro, 0, 0, [], 1, false⟩, -- RC_SAVED
    ⟨14, 1, 1, .u32, .ro, 0, 0, [], 1, false⟩, -- RC_UPDATES
    ⟨15, 1, 1, .blob, .rw, 2, 0, [], 1, false⟩ -- PROFILE
  ]⟩

/-- Objects 0x5000. -/
def obj5000 : ObjDef := ⟨0x5000, 1, 8,
  [
    ⟨1, 1, 1, .u8, .ro, 0, 0, [], 1, false⟩, -- REF_STATE
    ⟨2, 1, 1, .q16, .ro, 0, 0, [], 1, false⟩, -- NOISE_FACTOR_A
    ⟨3, 1, 1, .q16, .ro, 0, 0, [], 1, false⟩, -- NOISE_FACTOR_B
    ⟨4, 1, 1, .bool, .ro, 0, 0, [], 1, false⟩, -- NOISE_EXCESS
    ⟨5, 1, 1, .u32, .ro, 0, 0, [], 1, false⟩, -- TRIG_LOST
    ⟨6, 1, 1, .u16, .rwg, 2, 65535, [], 1, true⟩, -- CONT_USER0
    ⟨7, 1, 1, .u16, .rwg, 2, 65535, [], 1, true⟩, -- CONT_USER1
    ⟨8, 1, 1, .u16, .rwg, 2, 100, [(10, 10000)], 1, true⟩ -- C_SCAN_PERIOD
  ]⟩

/-- Objects 0x5010 + 0..7. -/
def obj5010 : ObjDef := ⟨0x5010, 8, 2,
  [
    ⟨1, 1, 1, .u32, .rwg, 2, 400000, [(400, 4294967295)], 1, true⟩, -- PERIOD
    ⟨2, 1, 1, .bool, .rwg, 2, 0, [], 1, true⟩ -- WARP_SYNC
  ]⟩

/-- Objects 0x5040 + 0..31. -/
def obj5040 : ObjDef := ⟨0x5040, 32, 6,
  [
    ⟨1, 1, 1, .u16, .rwg, 2, 65535, [(0, 7), (16, 23), (32, 63), (65535, 65535)], 1, true⟩, -- SOURCE
    ⟨2, 1, 1, .u16, .rwg, 2, 0, [], 1, true⟩, -- DELAY
    ⟨3, 1, 1, .u16, .rwg, 2, 65535, [], 1, true⟩, -- CHAN_A
    ⟨4, 1, 1, .u16, .rwg, 2, 65535, [], 1, true⟩, -- CHAN_B
    ⟨5, 1, 1, .u32, .ro, 0, 0, [], 1, false⟩, -- TRIG_COUNT
    ⟨6, 1, 1, .u32, .ro, 0, 0, [], 1, false⟩ -- DELAYED_COUNT
  ]⟩

/-- Objects 0x5100 + 0..23. -/
def obj5100 : ObjDef := ⟨0x5100, 24, 12,
  [
    ⟨1, 1, 1, .u8, .rwg, 2, 0, [(0, 5)], 1, true⟩, -- AI_MODE
    ⟨2, 1, 1, .u8, .rwg, 2, 0, [(0, 2)], 1, true⟩, -- SENSOR
    ⟨3, 1, 1, .q16, .rwg, 2, 65536, [(-2147483648, 2147418112)], 1, true⟩, -- GAIN
    ⟨4, 1, 1, .q16, .rwg, 2, 0, [], 1, true⟩, -- OFFSET
    ⟨5, 1, 1, .u32, .rwg, 2, 10000, [(100, 1000000)], 1, true⟩, -- NTC_NOMINAL
    ⟨6, 1, 1, .u16, .rwg, 2, 3977, [(1000, 6000)], 1, true⟩, -- NTC_BETA
    ⟨7, 1, 1, .bool, .rwg, 2, 0, [], 1, true⟩, -- C_SCAN
    ⟨8, 1, 1, .bool, .rwg, 3, 0, [], 1, true⟩, -- XCHECK_EN
    ⟨9, 1, 1, .q16, .rwg, 3, 32768, [(1, 2147483647)], 1, true⟩, -- XCHECK_TOL
    ⟨10, 1, 1, .u16, .rwg, 3, 20, [(10, 40)], 1, true⟩, -- XCHECK_TIME
    ⟨11, 1, 1, .blob, .ro, 0, 0, [], 1, false⟩, -- RESULT
    ⟨12, 1, 1, .blob, .ro, 0, 0, [], 1, false⟩ -- CHECK_RESULT
  ]⟩

/-- Objects 0x5180 + 0..45. -/
def obj5180 : ObjDef := ⟨0x5180, 46, 1,
  [
    ⟨1, 1, 1, .blob, .ro, 0, 0, [], 1, false⟩ -- RESULT
  ]⟩

/-- Objects 0x5300 + 0..7. -/
def obj5300 : ObjDef := ⟨0x5300, 8, 6,
  [
    ⟨1, 1, 1, .u8, .rwg, 2, 0, [(0, 2)], 1, true⟩, -- AO_MODE
    ⟨2, 1, 1, .q16, .rw, 1, 0, [], 1, false⟩, -- CMD
    ⟨3, 1, 1, .q16, .rwg, 2, 0, [], 1, true⟩, -- AO_MIN
    ⟨4, 1, 1, .q16, .rwg, 2, 655360, [], 1, true⟩, -- AO_MAX
    ⟨5, 1, 1, .u8, .ro, 0, 0, [], 1, false⟩, -- AO_STATUS
    ⟨6, 1, 1, .q16, .ro, 0, 0, [], 1, false⟩ -- CMD_APPLIED
  ]⟩

/-- Objects 0x6000. -/
def obj6000 : ObjDef := ⟨0x6000, 1, 7,
  [
    ⟨1, 1, 1, .u8, .rwg, 3, 8, [(2, 64)], 1, true⟩, -- FWD_TIME
    ⟨2, 1, 1, .bool, .wo, 2, 0, [], 1, false⟩, -- FWD_REARM
    ⟨3, 1, 1, .u8, .ro, 0, 0, [], 1, false⟩, -- FWD_STATE
    ⟨4, 1, 1, .u32, .ro, 0, 0, [], 1, false⟩, -- FWD_TRIPS
    ⟨5, 1, 1, .u8, .ro, 0, 0, [], 1, false⟩, -- LINK_STATE
    ⟨6, 1, 1, .u32, .ro, 0, 0, [], 1, false⟩, -- LINK_ERRORS
    ⟨7, 1, 1, .u16, .ro, 0, 0, [], 1, false⟩ -- BARRIER_POWER
  ]⟩

/-- Objects 0x6010 + 0..3. -/
def obj6010 : ObjDef := ⟨0x6010, 4, 4,
  [
    ⟨1, 1, 1, .u16, .ro, 0, 0, [], 1, false⟩, -- LPLUS
    ⟨2, 1, 1, .q16, .ro, 0, 0, [], 1, false⟩, -- GROUP_CURRENT
    ⟨3, 1, 1, .u8, .ro, 0, 0, [], 1, false⟩, -- GROUP_STATE
    ⟨4, 1, 1, .u32, .ro, 0, 0, [], 1, false⟩ -- SHED_COUNT
  ]⟩

/-- Objects 0x6100 + 0..31. -/
def obj6100 : ObjDef := ⟨0x6100, 32, 6,
  [
    ⟨1, 1, 1, .u8, .rwg, 2, 0, [(0, 4)], 1, true⟩, -- IO_MODE
    ⟨2, 1, 1, .u8, .rwg, 2, 1, [(1, 1), (3, 3)], 1, true⟩, -- IN_TYPE
    ⟨3, 1, 1, .u8, .rwg, 2, 30, [(1, 200)], 1, true⟩, -- FILTER
    ⟨4, 1, 1, .bool, .rwg, 2, 0, [], 1, true⟩, -- WB_EN
    ⟨5, 1, 1, .u8, .rwg, 2, 5, [(1, 10)], 1, true⟩, -- CURRENT_LIMIT
    ⟨6, 1, 1, .u16, .rwg, 2, 1000, [(20, 25000)], 1, true⟩ -- PWM_FREQ
  ]⟩

/-- Objects 0x6200 + 0..31. -/
def obj6200 : ObjDef := ⟨0x6200, 32, 9,
  [
    ⟨1, 1, 1, .q16, .rw, 1, 0, [], 1, false⟩, -- CMD
    ⟨2, 1, 1, .u8, .ro, 0, 0, [], 1, false⟩, -- IN_STATE
    ⟨3, 1, 1, .warp, .ro, 0, 0, [], 1, false⟩, -- EDGE_STAMP
    ⟨4, 1, 1, .u16, .ro, 0, 0, [], 1, false⟩, -- IN_CURRENT
    ⟨5, 1, 1, .q16, .ro, 0, 0, [], 1, false⟩, -- OUT_CURRENT
    ⟨6, 1, 1, .u16, .ro, 0, 0, [], 1, false⟩, -- IO_STATUS
    ⟨7, 1, 1, .q16, .ro, 0, 0, [], 1, false⟩, -- TACH_FREQ
    ⟨8, 1, 1, .u32, .ro, 0, 0, [], 1, false⟩, -- EDGE_COUNT
    ⟨9, 1, 1, .bool, .wo, 2, 0, [], 1, false⟩ -- DIAG_CLEAR
  ]⟩

/-- Objects 0x7000. -/
def obj7000 : ObjDef := ⟨0x7000, 1, 5,
  [
    ⟨1, 1, 1, .bool, .rwg, 2, 0, [], 1, true⟩, -- VBOOST_FITTED
    ⟨2, 1, 1, .s16, .rwg, 2, 40, [((-40), 150)], 1, true⟩, -- BAND_EDGE1
    ⟨3, 1, 1, .s16, .rwg, 2, 80, [], 1, true⟩, -- BAND_EDGE2
    ⟨4, 1, 1, .s16, .rwg, 2, 115, [], 1, true⟩, -- BAND_EDGE3
    ⟨5, 1, 1, .bool, .rwg, 3, 1, [], 1, true⟩ -- BANK_CUTOFF
  ]⟩

/-- Objects 0x7010 + 0..3. -/
def obj7010 : ObjDef := ⟨0x7010, 4, 6,
  [
    ⟨1, 1, 1, .q16, .rwg, 2, 524288, [(65536, 524288)], 1, true⟩, -- PEAK_LIMIT
    ⟨2, 1, 1, .u8, .ro, 0, 0, [], 1, false⟩, -- RAIL_NOW
    ⟨3, 1, 1, .q16, .ro, 0, 0, [], 1, false⟩, -- BUDGET_USED
    ⟨4, 1, 1, .u8, .ro, 0, 0, [], 1, false⟩, -- BAND
    ⟨5, 1, 1, .u32, .ro, 0, 0, [], 1, false⟩, -- GRANT_WAITS
    ⟨6, 1, 1, .u32, .ro, 0, 0, [], 1, false⟩ -- BANK_TRIPS
  ]⟩

/-- Objects 0x7100 + 0..15. -/
def obj7100 : ObjDef := ⟨0x7100, 16, 22,
  [
    ⟨1, 1, 1, .u8, .rwg, 2, 0, [(0, 2)], 1, true⟩, -- CHAN_MODE
    ⟨2, 1, 1, .u16, .rwg, 2, 272, [], 1, true⟩, -- CARD
    ⟨3, 1, 1, .bool, .rwg, 2, 0, [], 1, true⟩, -- MODE_5200
    ⟨4, 1, 1, .u16, .rwg, 2, 10, [(1, 1000)], 1, true⟩, -- MIN_OFF_5200
    ⟨5, 1, 1, .q16, .rwg, 2, 196608, [(6554, 196608)], 1, true⟩, -- CHAN_LIMIT
    ⟨6, 1, 1, .bool, .rwg, 2, 0, [], 1, true⟩, -- HL_ENABLE
    ⟨7, 1, 1, .u8, .rwg, 2, 7, [(1, 90)], 1, true⟩, -- HL_INTERVAL
    ⟨8, 1, 1, .u16, .rwg, 2, 180, [(0, 1439)], 1, true⟩, -- HL_FROM
    ⟨9, 1, 1, .u16, .rwg, 2, 240, [(0, 1439)], 1, true⟩, -- HL_TO
    ⟨10, 1, 1, .bool, .rwg, 2, 1, [], 1, true⟩, -- DIAG_OFF_EN
    ⟨11, 1, 1, .u32, .rwg, 2, 1500, [(100, 3000)], 1, true⟩, -- P0
    ⟨12, 1, 1, .u32, .rwg, 2, 50000, [(1000, 200000)], 1, true⟩, -- P1
    ⟨13, 1, 1, .u32, .rwg, 2, 400, [(50, 1500)], 1, true⟩, -- P2
    ⟨14, 1, 1, .u32, .rwg, 2, 200, [(50, 400)], 1, true⟩, -- P3
    ⟨15, 1, 1, .u32, .rwg, 2, 0, [(0, 1)], 1, true⟩, -- P4
    ⟨16, 1, 1, .u32, .rwg, 2, 0, [], 1, true⟩, -- P5
    ⟨17, 1, 1, .u32, .rwg, 2, 9, [], 1, true⟩, -- P6
    ⟨18, 1, 1, .u32, .rwg, 2, 2590, [], 1, true⟩, -- P7
    ⟨19, 1, 1, .u32, .rwg, 2, 20, [(5, 100)], 1, true⟩, -- P8
    ⟨20, 1, 1, .u32, .rwg, 2, 100, [(20, 1500)], 1, true⟩, -- P9
    ⟨21, 1, 1, .u32, .rwg, 2, 50000, [(10000, 1000000)], 1, true⟩, -- P10
    ⟨22, 1, 1, .u32, .rwg, 2, 37903, [], 1, true⟩ -- P11
  ]⟩

/-- Objects 0x7200 + 0..15. -/
def obj7200 : ObjDef := ⟨0x7200, 16, 21,
  [
    ⟨1, 1, 1, .u32, .rw, 1, 0, [], 1, false⟩, -- CMD
    ⟨2, 1, 1, .q16, .rw, 1, 0, [], 1, false⟩, -- PROP_CMD
    ⟨3, 1, 1, .u8, .ro, 0, 0, [], 1, false⟩, -- STATE
    ⟨4, 1, 1, .u16, .ro, 0, 0, [], 1, false⟩, -- DIAG
    ⟨5, 1, 1, .u16, .ro, 0, 0, [], 1, false⟩, -- FLAGS
    ⟨6, 1, 1, .warp, .ro, 0, 0, [], 1, false⟩, -- SEAT_STAMP
    ⟨7, 1, 1, .u32, .ro, 0, 0, [], 1, false⟩, -- PULLIN_DELAY
    ⟨8, 1, 1, .u32, .ro, 0, 0, [], 1, false⟩, -- PULLIN_TIME
    ⟨9, 1, 1, .u32, .ro, 0, 0, [], 1, false⟩, -- E_COIL
    ⟨10, 1, 1, .u32, .ro, 0, 0, [], 1, false⟩, -- E_MAG
    ⟨11, 1, 1, .q16, .ro, 0, 0, [], 1, false⟩, -- ENERGY_FACTOR
    ⟨12, 4, 1, .u16, .ro, 0, 0, [], 1, false⟩, -- HOLD_LEARNED0–3
    ⟨16, 1, 1, .cal, .ro, 0, 0, [], 1, false⟩, -- LEARNED_AT
    ⟨17, 1, 1, .u8, .ro, 0, 0, [], 1, false⟩, -- LATCHED_BAND
    ⟨18, 1, 1, .u16, .ro, 0, 0, [], 1, false⟩, -- REF_NOW
    ⟨19, 1, 1, .u32, .ro, 0, 0, [], 1, false⟩, -- COIL_RES
    ⟨20, 1, 1, .u32, .ro, 0, 0, [], 1, false⟩, -- ACTUATIONS
    ⟨21, 1, 1, .bool, .wo, 2, 0, [], 1, false⟩ -- DIAG_CLEAR
  ]⟩

/-- Objects 0x7300 + 0..3. -/
def obj7300 : ObjDef := ⟨0x7300, 4, 3,
  [
    ⟨1, 1, 1, .blob, .wo, 4, 0, [], 1, false⟩, -- CARD_IMAGE
    ⟨2, 1, 1, .u16, .ro, 0, 0, [], 1, false⟩, -- CARD_WORDS
    ⟨3, 1, 1, .u32, .ro, 0, 0, [], 1, false⟩ -- CARD_CRC
  ]⟩

/-- Objects 0x8000. -/
def obj8000 : ObjDef := ⟨0x8000, 1, 1,
  [
    ⟨1, 1, 1, .u16, .ro, 0, 0, [], 1, false⟩ -- BOOST_ACTIVE
  ]⟩

/-- Objects 0x8010 + 0..11. -/
def obj8010 : ObjDef := ⟨0x8010, 12, 19,
  [
    ⟨1, 1, 1, .u8, .rwg, 2, 0, [(0, 3), (255, 255)], 1, true⟩, -- BOOST_GROUP
    ⟨2, 1, 1, .q16, .rwg, 2, 655360, [(6554, 6553600)], 1, true⟩, -- SLEW_UP
    ⟨3, 1, 1, .q16, .rwg, 2, 655360, [(6554, 6553600)], 1, true⟩, -- SLEW_DOWN
    ⟨4, 1, 1, .q16, .rwg, 2, 3276800, [(65536, 6553600)], 1, true⟩, -- SLEW_MAX
    ⟨5, 1, 1, .u8, .rwg, 2, 0, [(0, 4)], 1, true⟩, -- BAND_COUNT
    ⟨6, 4, 1, .u32, .rwg, 2, 0, [], 1, true⟩, -- BAND0–BAND3
    ⟨10, 1, 1, .bool, .rwg, 2, 0, [], 1, true⟩, -- TABLE_EN
    ⟨11, 1, 1, .u16, .rwg, 2, 65535, [(308, 331), (65535, 65535)], 1, true⟩, -- TEMP_SRC
    ⟨12, 8, 1, .u32, .rwg, 2, 0, [], 1, true⟩ -- TABLE_PT0–TABLE_PT7
  ]⟩

/-- Objects 0x8030 + 0..3. -/
def obj8030 : ObjDef := ⟨0x8030, 4, 12,
  [
    ⟨1, 1, 1, .u8, .rwg, 2, 0, [(0, 1)], 1, true⟩, -- FAN_CTRL
    ⟨2, 1, 1, .u16, .rwg, 2, 65535, [(0, 255), (65535, 65535)], 1, true⟩, -- D_LOOP
    ⟨3, 1, 1, .u16, .rwg, 2, 65535, [(0, 255), (65535, 65535)], 1, true⟩, -- Q_LOOP
    ⟨4, 1, 1, .u16, .rwg, 2, 20000, [(8000, 40000)], 1, true⟩, -- PWM_FREQ
    ⟨5, 1, 1, .u8, .rwg, 2, 255, [(0, 31), (255, 255)], 1, true⟩, -- CURR_TRIG
    ⟨6, 1, 1, .u16, .rwg, 2, 3000, [(100, 20000)], 1, true⟩, -- MAX_RPM
    ⟨7, 1, 1, .u8, .rwg, 2, 4, [(1, 16)], 1, true⟩, -- POLE_PAIRS
    ⟨8, 1, 1, .u32, .rwg, 2, 1000, [(10, 100000)], 1, true⟩, -- MOTOR_RES
    ⟨9, 1, 1, .u32, .rwg, 2, 1000, [(10, 100000)], 1, true⟩, -- MOTOR_IND
    ⟨10, 1, 1, .q16, .rwg, 2, 65536, [(6554, 163840)], 1, true⟩, -- START_CURRENT
    ⟨11, 1, 1, .u16, .rwg, 2, 1000, [(100, 10000)], 1, true⟩, -- OL_RAMP_TIME
    ⟨12, 1, 1, .q16, .rwg, 2, 163840, [(32768, 163840)], 1, true⟩ -- CURRENT_LIMIT
  ]⟩

/-- Objects 0x8040 + 0..7. -/
def obj8040 : ObjDef := ⟨0x8040, 8, 12,
  [
    ⟨1, 1, 1, .u16, .rwg, 2, 65535, [(256, 287)], 1, true⟩, -- PWM_IO
    ⟨2, 1, 1, .u16, .rwg, 2, 65535, [(256, 287)], 1, true⟩, -- TACH_IO
    ⟨3, 1, 1, .u8, .rwg, 2, 2, [(1, 8)], 1, true⟩, -- PULSES_PER_REV
    ⟨4, 1, 1, .u16, .rwg, 2, 3000, [(100, 20000)], 1, true⟩, -- MAX_RPM
    ⟨5, 1, 1, .q16, .rwg, 2, 655360, [(0, 6553600)], 1, true⟩, -- DUTY_MIN
    ⟨6, 1, 1, .q16, .rwg, 2, 6553600, [(0, 6553600)], 1, true⟩, -- DUTY_MAX
    ⟨7, 1, 1, .bool, .rwg, 2, 1, [], 1, true⟩, -- TRIM_EN
    ⟨8, 1, 1, .q16, .rwg, 2, 655360, [(0, 3276800)], 1, true⟩, -- TRIM_RANGE
    ⟨9, 1, 1, .u16, .rwg, 2, 65535, [(256, 287), (308, 331), (65535, 65535)], 1, true⟩, -- SUPPLY_SRC
    ⟨10, 1, 1, .q16, .rwg, 2, 3277, [(0, 6553600)], 1, true⟩, -- SUP_MIN
    ⟨11, 1, 1, .q16, .rwg, 2, 131072, [(0, 6553600)], 1, true⟩, -- SUP_MAX
    ⟨12, 1, 1, .u16, .rwg, 2, 10, [(1, 120)], 1, true⟩ -- SPINUP_TIME
  ]⟩

/-- Objects 0x8100 + 0..11. -/
def obj8100 : ObjDef := ⟨0x8100, 12, 8,
  [
    ⟨1, 1, 1, .q16, .rw, 1, 0, [], 1, false⟩, -- CMD
    ⟨2, 1, 1, .q16, .ro, 0, 0, [], 1, false⟩, -- SPEED
    ⟨3, 1, 1, .q16, .ro, 0, 0, [], 1, false⟩, -- SPEED_SET
    ⟨4, 1, 1, .u8, .ro, 0, 0, [], 1, false⟩, -- FAN_STATE
    ⟨5, 1, 1, .u16, .ro, 0, 0, [], 1, false⟩, -- FAN_FLAGS
    ⟨6, 1, 1, .u32, .ro, 0, 0, [], 1, false⟩, -- START_ATTEMPTS
    ⟨7, 1, 1, .q16, .ro, 0, 0, [], 1, false⟩, -- APPLIED_LIMIT
    ⟨8, 1, 1, .bool, .wo, 2, 0, [], 1, false⟩ -- DIAG_CLEAR
  ]⟩

/-- Objects 0x9000. -/
def obj9000 : ObjDef := ⟨0x9000, 1, 22,
  [
    ⟨1, 1, 1, .u8, .rwg, 2, 0, [(0, 2)], 1, true⟩, -- DISP_MODE
    ⟨2, 1, 1, .u8, .rwg, 2, 6, [(1, 6)], 1, true⟩, -- COM_COUNT
    ⟨3, 1, 1, .u8, .rwg, 2, 0, [(0, 1)], 1, true⟩, -- BIAS
    ⟨4, 1, 1, .u8, .rwg, 2, 70, [(30, 200)], 1, true⟩, -- FRAME_RATE
    ⟨5, 1, 1, .u8, .rwg, 2, 48, [(1, 48)], 1, true⟩, -- SEG_COUNT
    ⟨6, 1, 1, .u16, .rwg, 2, 65535, [(308, 331), (65535, 65535)], 1, true⟩, -- TEMP_SRC
    ⟨7, 1, 1, .s16, .rwg, 2, 0, [((-40), 85)], 1, true⟩, -- DBAND_EDGE1
    ⟨8, 1, 1, .s16, .rwg, 2, 20, [((-40), 85)], 1, true⟩, -- DBAND_EDGE2
    ⟨9, 1, 1, .s16, .rwg, 2, 40, [((-40), 85)], 1, true⟩, -- DBAND_EDGE3
    ⟨10, 1, 1, .u16, .rwg, 2, 5200, [(2500, 5500)], 1, true⟩, -- VLCD_BAND0
    ⟨11, 1, 1, .u16, .rwg, 2, 4800, [(2500, 5500)], 1, true⟩, -- VLCD_BAND1
    ⟨12, 1, 1, .u16, .rwg, 2, 4500, [(2500, 5500)], 1, true⟩, -- VLCD_BAND2
    ⟨13, 1, 1, .u16, .rwg, 2, 4200, [(2500, 5500)], 1, true⟩, -- VLCD_BAND3
    ⟨14, 1, 1, .u16, .rwg, 2, 10000, [(1000, 30000)], 1, true⟩, -- LEDGER_LIMIT
    ⟨15, 1, 1, .u16, .rwg, 2, 50, [(0, 200)], 1, true⟩, -- BAL_MAX
    ⟨16, 1, 1, .u8, .rwg, 2, 20, [(0, 30)], 1, true⟩, -- FINISH_LIMIT
    ⟨17, 1, 1, .u8, .ro, 0, 0, [], 1, false⟩, -- DISP_STATE
    ⟨18, 1, 1, .u16, .ro, 0, 0, [], 1, false⟩, -- DISP_FLAGS
    ⟨19, 1, 1, .u8, .ro, 0, 0, [], 1, false⟩, -- BAND
    ⟨20, 1, 1, .u16, .ro, 0, 0, [], 1, false⟩, -- VLCD_NOW
    ⟨21, 1, 1, .u32, .ro, 0, 0, [], 1, false⟩, -- ROUNDS
    ⟨22, 1, 1, .bool, .wo, 2, 0, [], 1, false⟩ -- LEDGER_RESET
  ]⟩

/-- Objects 0x9010. -/
def obj9010 : ObjDef := ⟨0x9010, 1, 8,
  [
    ⟨1, 1, 1, .blob, .rw, 1, 0, [], 1, false⟩, -- IMAGE
    ⟨2, 6, 1, .blob, .rw, 1, 0, [], 1, false⟩, -- ROW0–ROW5
    ⟨8, 1, 1, .blob, .ro, 0, 0, [], 1, false⟩ -- SHOWN
  ]⟩

/-- Objects 0x9020. -/
def obj9020 : ObjDef := ⟨0x9020, 1, 48,
  [
    ⟨1, 48, 1, .s16, .ro, 0, 0, [], 1, false⟩ -- LEDGER
  ]⟩

/-- Objects 0x9200 + 0..3. -/
def obj9200 : ObjDef := ⟨0x9200, 4, 16,
  [
    ⟨1, 16, 1, .u16, .rwg, 2, 0, [], 1, true⟩ -- OD_ENTRY
  ]⟩

/-- Objects 0xA000 + 0..11. -/
def objA000 : ObjDef := ⟨0xA000, 12, 5,
  [
    ⟨1, 1, 1, .q16, .ro, 0, 0, [], 1, false⟩, -- VALUE
    ⟨2, 1, 1, .q16, .ro, 0, 0, [], 1, false⟩, -- RAW
    ⟨3, 1, 1, .q16, .ro, 0, 0, [], 1, false⟩, -- PREDICTED
    ⟨4, 1, 1, .q16, .ro, 0, 0, [], 1, false⟩, -- RISE
    ⟨5, 1, 1, .u8, .ro, 0, 0, [], 1, false⟩ -- STATE
  ]⟩

/-- Objects 0xA010 + 0..3. -/
def objA010 : ObjDef := ⟨0xA010, 4, 2,
  [
    ⟨1, 1, 1, .q16, .rwg, 2, 262144, [(32768, 3276800)], 1, true⟩, -- RISE_LIMIT
    ⟨2, 1, 1, .bool, .ro, 0, 0, [], 1, false⟩ -- RISE_ACTIVE
  ]⟩

/-- Objects 0xA020 + 0..7. -/
def objA020 : ObjDef := ⟨0xA020, 8, 2,
  [
    ⟨1, 1, 1, .u8, .ro, 0, 0, [], 1, false⟩, -- STEP_PCT
    ⟨2, 1, 1, .u8, .ro, 0, 0, [], 1, false⟩ -- STEP_CAUSE
  ]⟩

/-- Objects 0xA030. -/
def objA030 : ObjDef := ⟨0xA030, 1, 5,
  [
    ⟨1, 1, 1, .s16, .rwg, 2, 125, [(85, 125)], 1, true⟩, -- THROTTLE_START
    ⟨2, 1, 1, .s16, .rwg, 2, 100, [(60, 125)], 1, true⟩, -- RISE_FLOOR
    ⟨3, 1, 1, .q16, .rwg, 2, 2228, [(0, 6554)], 1, true⟩, -- XTAL_K
    ⟨4, 1, 1, .q16, .rwg, 2, 1638400, [(0, 3276800)], 1, true⟩, -- XTAL_T0
    ⟨5, 1, 1, .q16, .rwg, 2, 0, [((-1310720), 1310720)], 1, true⟩ -- XTAL_DT
  ]⟩

/-- Objects 0xA040. -/
def objA040 : ObjDef := ⟨0xA040, 1, 7,
  [
    ⟨1, 1, 1, .u8, .ro, 0, 0, [], 1, false⟩, -- D_SHUT_STATE
    ⟨2, 1, 1, .u8, .ro, 0, 0, [], 1, false⟩, -- L_SHUT_STATE
    ⟨3, 1, 1, .u8, .ro, 0, 0, [], 1, false⟩, -- RESTARTS_HOUR
    ⟨4, 1, 1, .bool, .wo, 2, 0, [], 1, false⟩, -- THERM_CLEAR
    ⟨5, 1, 1, .u32, .ro, 0, 0, [], 1, false⟩, -- SHUTDOWNS
    ⟨6, 1, 1, .s32, .ro, 0, 0, [], 1, false⟩, -- VREF_CORR
    ⟨7, 1, 1, .u16, .ro, 0, 0, [], 1, false⟩ -- THERM_FLAGS
  ]⟩

/-- Objects 0xB000. -/
def objB000 : ObjDef := ⟨0xB000, 1, 9,
  [
    ⟨1, 1, 1, .u8, .ro, 0, 0, [], 1, false⟩, -- SAFETY_STATE
    ⟨2, 1, 1, .u16, .ro, 0, 0, [], 1, false⟩, -- FAILURE_FLAGS
    ⟨3, 1, 1, .warp, .ro, 0, 0, [], 1, false⟩, -- LAST_FAILURE_AT
    ⟨4, 1, 1, .bool, .wo, 2, 0, [], 1, false⟩, -- SAFETY_CLEAR
    ⟨5, 1, 1, .bool, .wo, 2, 0, [], 1, false⟩, -- SAFETY_RESET
    ⟨6, 1, 1, .bool, .rwg, 3, 0, [], 1, true⟩, -- AUTO_RESTART
    ⟨7, 1, 1, .u8, .ro, 0, 0, [], 1, false⟩, -- AUTO_RESTARTS
    ⟨8, 1, 1, .u32, .ro, 0, 0, [], 1, false⟩, -- SAFETY_CRC
    ⟨9, 1, 1, .bool, .wo, 3, 0, [], 1, false⟩ -- SAFETY_TEST
  ]⟩

/-- Objects 0xB010. -/
def objB010 : ObjDef := ⟨0xB010, 1, 4,
  [
    ⟨1, 1, 1, .bool, .rw, 3, 0, [], 1, true⟩, -- SAFETY_LOCK
    ⟨2, 1, 1, .blob, .rw, 3, 0, [], 1, true⟩, -- SAFETY_PUBKEY
    ⟨3, 1, 1, .blob, .ro, 0, 0, [], 1, false⟩, -- SAFETY_CHALLENGE
    ⟨4, 1, 1, .blob, .wo, 0, 0, [], 1, false⟩ -- SAFETY_RESPONSE
  ]⟩

/-- Objects 0xB100 + 0..83. -/
def objB100 : ObjDef := ⟨0xB100, 84, 5,
  [
    ⟨1, 1, 1, .bool, .rwg, 3, 0, [], 1, true⟩, -- SAFETY_RELEVANT
    ⟨2, 1, 1, .u8, .rwg, 3, 0, [(0, 2)], 1, true⟩, -- SAFE_STATE
    ⟨3, 1, 1, .q16, .rwg, 3, 0, [], 1, true⟩, -- SAFE_VALUE
    ⟨4, 1, 1, .bool, .ro, 0, 0, [], 1, false⟩, -- SAFE_ACTIVE
    ⟨5, 1, 1, .bool, .ro, 0, 0, [], 1, false⟩ -- SAFE_DEVIATED
  ]⟩

/-- Objects 0xC000. -/
def objC000 : ObjDef := ⟨0xC000, 1, 4,
  [
    ⟨1, 1, 1, .bool, .rwg, 2, 0, [], 1, true⟩, -- PAIR_EN
    ⟨2, 1, 1, .u8, .rwg, 2, 240, [(240, 254)], 1, true⟩, -- PAIR_ID
    ⟨3, 1, 1, .u8, .rwg, 2, 0, [(1, 239)], 1, true⟩, -- PEER_NODE
    ⟨4, 1, 1, .bool, .rwg, 3, 1, [], 1, true⟩ -- TAKEOVER_EN
  ]⟩

/-- Objects 0xC001. -/
def objC001 : ObjDef := ⟨0xC001, 1, 9,
  [
    ⟨1, 1, 1, .u8, .ro, 0, 0, [], 1, false⟩, -- ROLE
    ⟨2, 1, 1, .u8, .ro, 0, 0, [], 1, false⟩, -- PAIR_STATE
    ⟨3, 1, 1, .u16, .ro, 0, 0, [], 1, false⟩, -- PAIR_FLAGS
    ⟨4, 1, 1, .u32, .ro, 0, 0, [], 1, false⟩, -- SEL_ERRORS
    ⟨5, 1, 1, .u32, .ro, 0, 0, [], 1, false⟩, -- SWITCHOVERS
    ⟨6, 1, 1, .u32, .ro, 0, 0, [], 1, false⟩, -- LAST_SWITCH_TIME
    ⟨7, 1, 1, .u8, .ro, 0, 0, [], 1, false⟩, -- LAST_SWITCH_CAUSE
    ⟨8, 1, 1, .u32, .ro, 0, 0, [], 1, false⟩, -- MIRROR_AGE
    ⟨9, 1, 1, .u16, .ro, 0, 0, [], 1, false⟩ -- TRANSLATION_LOSS
  ]⟩

/-- Objects 0xC002. -/
def objC002 : ObjDef := ⟨0xC002, 1, 2,
  [
    ⟨1, 1, 1, .bool, .wo, 2, 0, [], 1, false⟩, -- SWITCHOVER
    ⟨2, 1, 1, .bool, .wo, 3, 0, [], 1, false⟩ -- FORCE_TAKEOVER
  ]⟩

/-- Objects 0xC100 + 0..255. -/
def objC100 : ObjDef := ⟨0xC100, 256, 1,
  [
    ⟨1, 1, 1, .u16, .rwg, 2, 0, [(0, 1000)], 1, true⟩ -- MIRROR_RATE
  ]⟩

/-- Objects 0xC200 + 0..15. -/
def objC200 : ObjDef := ⟨0xC200, 16, 1,
  [
    ⟨1, 1, 1, .bool, .rwg, 2, 1, [], 1, true⟩ -- TAKEOVER_HOLD
  ]⟩

/-- Objects 0xD000. -/
def objD000 : ObjDef := ⟨0xD000, 1, 8,
  [
    ⟨1, 1, 1, .u8, .wo, 1, 0, [(0, 15)], 1, false⟩, -- SNAP_TRIGGER
    ⟨2, 1, 1, .u8, .rwg, 2, 0, [(0, 3)], 1, true⟩, -- TRIG_IN_MODE
    ⟨3, 1, 1, .u8, .rwg, 2, 255, [(0, 15), (255, 255)], 1, true⟩, -- TRIG_IN_SLOT
    ⟨4, 1, 1, .u8, .rwg, 2, 15, [(0, 15), (255, 255)], 1, true⟩, -- FAULT_SLOT
    ⟨5, 1, 1, .bool, .rwg, 2, 1, [], 1, true⟩, -- TRIG_OUT_EN
    ⟨6, 1, 1, .u8, .rwg, 2, 0, [(0, 3)], 1, true⟩, -- CAN_TRIG_EN
    ⟨7, 1, 1, .u8, .rwg, 2, 0, [(0, 3)], 1, true⟩, -- CAN_TRIG_OUT
    ⟨8, 1, 1, .u32, .ro, 0, 0, [], 1, false⟩ -- SNAP_DROPPED
  ]⟩

/-- Objects 0xD010 + 0..15. -/
def objD010 : ObjDef := ⟨0xD010, 16, 5,
  [
    ⟨1, 1, 1, .u8, .ro, 0, 0, [], 1, false⟩, -- SLOT_STATE
    ⟨2, 1, 1, .bool, .rwg, 2, 0, [], 1, true⟩, -- OVERWRITE
    ⟨3, 1, 1, .warp, .rw, 1, 0, [], 1, false⟩, -- ARM_AT
    ⟨4, 1, 1, .bool, .wo, 1, 0, [], 1, false⟩, -- RELEASE
    ⟨5, 1, 1, .blob, .ro, 0, 0, [], 1, false⟩ -- DATA
  ]⟩

/-- Objects 0xD100. -/
def objD100 : ObjDef := ⟨0xD100, 1, 5,
  [
    ⟨1, 1, 1, .u32, .rw, 0, 0, [], 1, false⟩, -- LOG_CURSOR
    ⟨2, 1, 1, .blob, .ro, 0, 0, [], 1, false⟩, -- LOG_RECORD
    ⟨3, 1, 1, .u32, .ro, 0, 0, [], 1, false⟩, -- LOG_NEWEST
    ⟨4, 1, 1, .u32, .ro, 0, 0, [], 1, false⟩, -- LOG_OLDEST
    ⟨5, 1, 1, .u32, .ro, 0, 0, [], 1, false⟩ -- LOG_LOST
  ]⟩

/-- Objects 0xE000. -/
def objE000 : ObjDef := ⟨0xE000, 1, 7,
  [
    ⟨1, 1, 1, .u32, .ro, 0, 0, [], 1, false⟩, -- SRAM_CORRECTED
    ⟨2, 1, 1, .u32, .ro, 0, 0, [], 1, false⟩, -- SRAM_UNCORRECTABLE
    ⟨3, 1, 1, .u32, .ro, 0, 0, [], 1, false⟩, -- MRAM_CORRECTED
    ⟨4, 1, 1, .u32, .ro, 0, 0, [], 1, false⟩, -- MRAM_UNCORRECTABLE
    ⟨5, 1, 1, .u32, .ro, 0, 0, [], 1, false⟩, -- SCRUB_PASSES
    ⟨6, 1, 1, .u32, .ro, 0, 0, [], 1, false⟩, -- SCRUB_LAST_PASS
    ⟨7, 1, 1, .u16, .ro, 0, 0, [], 1, false⟩ -- MEM_FLAGS
  ]⟩

/-- Objects 0xE001. -/
def objE001 : ObjDef := ⟨0xE001, 1, 9,
  [
    ⟨1, 1, 1, .u32, .ro, 0, 0, [], 1, false⟩, -- REPAIR_GEN
    ⟨2, 1, 1, .u8, .ro, 0, 0, [], 1, false⟩, -- REPAIR_STATE
    ⟨3, 1, 1, .u16, .ro, 0, 0, [], 1, false⟩, -- SRAM_SPARE_ROWS
    ⟨4, 1, 1, .u8, .ro, 0, 0, [], 1, false⟩, -- SRAM_SPARE_COLS
    ⟨5, 1, 1, .u16, .ro, 0, 0, [], 1, false⟩, -- MRAM_SPARE_ROWS
    ⟨6, 1, 1, .u8, .ro, 0, 0, [], 1, false⟩, -- MRAM_SPARE_COLS
    ⟨7, 1, 1, .u8, .ro, 0, 0, [], 1, false⟩, -- ERASED_COLUMNS
    ⟨8, 1, 1, .u16, .ro, 0, 0, [], 1, false⟩, -- LEDGER_COUNT
    ⟨9, 1, 1, .blob, .ro, 0, 0, [], 1, false⟩ -- LEDGER
  ]⟩

/-- Objects 0xE010. -/
def objE010 : ObjDef := ⟨0xE010, 1, 3,
  [
    ⟨1, 1, 1, .u32, .wo, 2, 0, [], 1, false⟩, -- INVALIDATE
    ⟨2, 1, 1, .u8, .ro, 0, 0, [], 1, false⟩, -- INV_STATE
    ⟨3, 1, 1, .u32, .ro, 0, 0, [], 1, false⟩ -- HEDDLE_MISSES
  ]⟩

/-- Every object of the schema, by ascending number. -/
def schema : List ObjDef :=
  [obj1000, obj1001, obj1010, obj1011, obj1020, obj1030, obj1031, obj1040] ++
  [obj1041, obj1060, obj1061, obj1062, obj1063, obj1100, obj1110, obj1120] ++
  [obj1200, obj2000, obj2001, obj2010, obj2011, obj2020, obj2021, obj2030] ++
  [obj2031, obj2032, obj3000, obj3001, obj3200, obj3240, obj3400, obj3500] ++
  [obj3600, obj3800, obj4000, obj4300, obj4400, obj4800, obj4C00, obj5000] ++
  [obj5010, obj5040, obj5100, obj5180, obj5300, obj6000, obj6010, obj6100] ++
  [obj6200, obj7000, obj7010, obj7100, obj7200, obj7300, obj8000, obj8010] ++
  [obj8030, obj8040, obj8100, obj9000, obj9010, obj9020, obj9200, objA000] ++
  [objA010, objA020, objA030, objA040, objB000, objB010, objB100, objC000] ++
  [objC001, objC002, objC100, objC200, objD000, objD010, objD100, objE000] ++
  [objE001, objE010]

/-- The bytes a value of a type takes; 0 for STR and BLOB (R242). -/
def MType.size : MType → Nat
  | .bool | .u8 | .s8 => 1
  | .u16 | .s16 => 2
  | .u32 | .s32 | .q16 => 4
  | .warp | .cal => 8
  | .str | .blob => 0

/-- Whether a type is signed (R242, R77). -/
def MType.isSigned : MType → Bool
  | .s8 | .s16 | .s32 | .q16 => true
  | _ => false

/-- Whether the member definition covers member `m`. -/
def MemDef.covers (d : MemDef) (m : Nat) : Bool :=
  decide (d.first ≤ m) && (m - d.first) % d.stride == 0 && decide ((m - d.first) / d.stride < d.reps)

/-- The definition of object number `o` (R241). -/
def findObj (o : Nat) : Option ObjDef :=
  schema.find? fun d => decide (d.base ≤ o) && decide (o < d.base + d.count)

/-- The definition of member `m` of object `o`. -/
def findMem (o m : Nat) : Option MemDef :=
  match findObj o with
  | none => none
  | some d => d.mems.find? fun x => x.covers m

/-- The key under which the dictionary keeps a member. -/
def memKey (o m : Nat) : Nat := o * 256 + m

/-- The bytes of a BLOB member that nothing has written: the images are all 0 (R225), the safety key is
blank (R383), CFG_PUBKEY is the Twikar key (R291). -/
def blobDefault (key : Nat) : List Byte :=
  if key = 0x901001 then List.replicate 72 0
  else if key / 256 = 0x9010 then List.replicate 12 0
  else if key = 0x10410A then Config.twikarKey
  else if key = 0xB01002 then List.replicate 64 0
  else []

/-- The default of a member (R13). -/
def dfltOf (key : Nat) : Val :=
  match findMem (key / 256) (key % 256) with
  | none => .num 0
  | some d => if d.ty = .str ∨ d.ty = .blob then .bytes (blobDefault key) else .num d.dflt

/-- Whether a number lies in the values a member's Meaning column admits (R242). -/
def MemDef.inRange (d : MemDef) (v : Int) : Bool :=
  (d.ranges.isEmpty || d.ranges.any fun r => decide (r.1 ≤ v) && decide (v ≤ r.2)) &&
    v % d.step == 0

end Sys2Proof.Machine
end

