-- ==== Sys2Proof/Machine/Cfg.lean ====
section
/-! DEFINITION. The configuration the blocks run on: one reader for each member that can be written, named
after the member and its object (the spec's object tables). -/

namespace Sys2Proof.Machine

/-- The value in force of a member (R252). -/
def cfgVal (s : State) (o m : Nat) : Val := Table.getD dfltOf s.dict.force (memKey o m)

/-- The value in force of a numeric member. -/
def cfgI (s : State) (o m : Nat) : Int :=
  match cfgVal s o m with
  | .num v => v
  | .bytes _ => 0

/-- The value in force of an unsigned member. -/
def cfgN (s : State) (o m : Nat) : Nat := (cfgI s o m).toNat

/-- The value in force of a BOOL member. -/
def cfgB (s : State) (o m : Nat) : Bool := decide (cfgI s o m ≠ 0)

/-- The value in force of a BLOB member. -/
def cfgBytes (s : State) (o m : Nat) : List Byte :=
  match cfgVal s o m with
  | .num _ => []
  | .bytes b => b

namespace Cfg

def accAccessTimeout (s : State) := cfgN s 0x1011 3
def accPendingTimeout (s : State) := cfgN s 0x1011 4
def hostEventEn (s : State) := cfgB s 0x1030 4
def netNodeId (s : State) := cfgN s 0x1031 1
def netDictCanEn (s : State) := cfgN s 0x1031 2
def netHbEn (s : State) := cfgN s 0x1031 3
def netManagerSrc (s : State) := cfgN s 0x1031 4
def netHostTimeout (s : State) := cfgN s 0x1031 5
def netEventNode (s : State) := cfgN s 0x1031 7
def fwConfirmTime (s : State) := cfgN s 0x1041 7
def fwCfgPubkey (s : State) := cfgBytes s 0x1041 10
def powerResumeWindow (s : State) := cfgN s 0x1063 1
def canOpMode (s : State) (n : Nat) := cfgN s (0x1100 + n) 1
def canNbt (s : State) (n : Nat) := cfgN s (0x1100 + n) 2
def canDbt (s : State) (n : Nat) := cfgN s (0x1100 + n) 3
def canFdEn (s : State) (n : Nat) := cfgB s (0x1100 + n) 4
def canBusoffHoldoff (s : State) (n : Nat) := cfgN s (0x1100 + n) 5
def canBusoffManual (s : State) (n : Nat) := cfgB s (0x1100 + n) 6
def canLoneMode (s : State) (n : Nat) := cfgN s (0x1100 + n) 7
def canAbdAutoJoin (s : State) (n : Nat) := cfgB s (0x1100 + n) 8
def canAbdCount (s : State) (n : Nat) := cfgN s (0x1100 + n) 9
def canAbdNbt (s : State) (n : Nat) (i : Nat) := cfgN s (0x1100 + n) (10 + 2 * i)
def canAbdDbt (s : State) (n : Nat) (i : Nat) := cfgN s (0x1100 + n) (11 + 2 * i)
def canWakeMode (s : State) (n : Nat) := cfgN s (0x1100 + n) 26
def canWufId (s : State) (n : Nat) := cfgN s (0x1100 + n) 27
def canWufMask (s : State) (n : Nat) := cfgN s (0x1100 + n) 28
def canWufDlc (s : State) (n : Nat) := cfgN s (0x1100 + n) 29
def canWufDataLo (s : State) (n : Nat) := cfgN s (0x1100 + n) 30
def canWufDataHi (s : State) (n : Nat) := cfgN s (0x1100 + n) 31
def canLocalWake (s : State) (n : Nat) := cfgB s (0x1100 + n) 32
def canSleepReq (s : State) (n : Nat) := cfgB s (0x1100 + n) 33
def rxRxMode (s : State) (n : Nat) := cfgN s (0x1200 + n) 1
def rxFilterId (s : State) (n : Nat) := cfgN s (0x1200 + n) 2
def rxFilterMask (s : State) (n : Nat) := cfgN s (0x1200 + n) 3
def rxAccept (s : State) (n : Nat) := cfgN s (0x1200 + n) 4
def rxIrqEn (s : State) (n : Nat) := cfgB s (0x1200 + n) 5
def warpNominalFreq (s : State) := cfgN s 0x2001 1
def warpPhaseOffset (s : State) := cfgI s 0x2001 2
def warpMinAmpl (s : State) := cfgN s 0x2001 3
def warpHoldoverCycles (s : State) := cfgN s 0x2001 4
def warpStepThreshold (s : State) := cfgN s 0x2001 5
def warpPllBw (s : State) := cfgN s 0x2001 6
def warpAlignSource (s : State) := cfgN s 0x2001 7
def gridGridDiscEn (s : State) := cfgB s 0x2011 4
def gridGridWindow (s : State) := cfgN s 0x2011 5
def tzTzOffset (s : State) := cfgI s 0x2020 1
def tzDstCount (s : State) := cfgN s 0x2020 2
def dstFirstYear (s : State) (n : Nat) := cfgN s (0x2021 + n) 1
def dstLastYear (s : State) (n : Nat) := cfgN s (0x2021 + n) 2
def dstDstStart (s : State) (n : Nat) := cfgN s (0x2021 + n) 3
def dstDstEnd (s : State) (n : Nat) := cfgN s (0x2021 + n) 4
def dstDstShift (s : State) (n : Nat) := cfgI s (0x2021 + n) 5
def siteLatitude (s : State) := cfgI s 0x2030 1
def siteLongitude (s : State) := cfgI s 0x2030 2
def loomArmClose (s : State) := cfgN s 0x3001 1
def loomLearnDiv (s : State) := cfgN s 0x3001 2
def circEnable (s : State) (n : Nat) := cfgB s (0x3200 + n) 1
def circOutput (s : State) (n : Nat) := cfgN s (0x3200 + n) 2
def circZeroOffset (s : State) (n : Nat) := cfgN s (0x3200 + n) 3
def circClosePolarity (s : State) (n : Nat) := cfgN s (0x3200 + n) 4
def circLoadInput (s : State) (n : Nat) := cfgN s (0x3200 + n) 5
def circLoadDelay (s : State) (n : Nat) := cfgN s (0x3200 + n) 6
def circOpenLead (s : State) (n : Nat) := cfgN s (0x3200 + n) 7
def circLatInit (s : State) (n : Nat) := cfgN s (0x3200 + n) 8
def circRelInit (s : State) (n : Nat) := cfgN s (0x3200 + n) 9
def circMinOn (s : State) (n : Nat) := cfgN s (0x3200 + n) 10
def circMinOff (s : State) (n : Nat) := cfgN s (0x3200 + n) 11
def circOverride (s : State) (n : Nat) := cfgN s (0x3200 + n) 12
def circEntryCount (s : State) (n : Nat) := cfgN s (0x3200 + n) 14
def circEntry (s : State) (n : Nat) (i : Nat) := cfgN s (0x3200 + n) (15 + i)
def circCalFallback (s : State) (n : Nat) := cfgN s (0x3200 + n) 31
def zoneEnable (s : State) (n : Nat) := cfgB s (0x3400 + n) 1
def zoneLoop (s : State) (n : Nat) := cfgN s (0x3400 + n) 2
def zoneOccInput (s : State) (n : Nat) := cfgN s (0x3400 + n) 3
def zoneOccProgram (s : State) (n : Nat) := cfgN s (0x3400 + n) 4
def zoneOccHold (s : State) (n : Nat) := cfgN s (0x3400 + n) 5
def zoneOpenInput (s : State) (n : Nat) := cfgN s (0x3400 + n) 6
def zoneSpOccupied (s : State) (n : Nat) := cfgI s (0x3400 + n) 7
def zoneSpStandby (s : State) (n : Nat) := cfgI s (0x3400 + n) 8
def zoneSpSetback (s : State) (n : Nat) := cfgI s (0x3400 + n) 9
def zoneSpProtect (s : State) (n : Nat) := cfgI s (0x3400 + n) 10
def zoneModeRequest (s : State) (n : Nat) := cfgN s (0x3400 + n) 11
def zoneOsEnable (s : State) (n : Nat) := cfgB s (0x3400 + n) 15
def zoneHeatRateInit (s : State) (n : Nat) := cfgI s (0x3400 + n) 16
def zoneCoolRateInit (s : State) (n : Nat) := cfgI s (0x3400 + n) 17
def zoneDeadTime (s : State) (n : Nat) := cfgN s (0x3400 + n) 18
def zoneMaxPrestart (s : State) (n : Nat) := cfgN s (0x3400 + n) 19
def zoneOsReach (s : State) (n : Nat) := cfgI s (0x3400 + n) 20
def zoneOsLearnDiv (s : State) (n : Nat) := cfgN s (0x3400 + n) 21
def progEntryCount (s : State) (n : Nat) := cfgN s (0x3500 + n) 1
def progEntry (s : State) (n : Nat) (i : Nat) := cfgN s (0x3500 + n) (2 + i)
def evDomain (s : State) (n : Nat) := cfgN s (0x3600 + n) 1
def evWhenWarp (s : State) (n : Nat) := cfgN s (0x3600 + n) 2
def evWhenCal (s : State) (n : Nat) := cfgN s (0x3600 + n) 3
def evLoop (s : State) (n : Nat) := cfgN s (0x3600 + n) 4
def evSample (s : State) (n : Nat) := cfgN s (0x3600 + n) 5
def evAction (s : State) (n : Nat) := cfgN s (0x3600 + n) 6
def evTarget (s : State) (n : Nat) := cfgN s (0x3600 + n) 7
def evValue (s : State) (n : Nat) := cfgI s (0x3600 + n) 8
def evArm (s : State) (n : Nat) := cfgN s (0x3600 + n) 9
def ruleEnable (s : State) (n : Nat) := cfgB s (0x3800 + n) 1
def ruleSubject (s : State) (n : Nat) := cfgN s (0x3800 + n) 2
def ruleOperator (s : State) (n : Nat) := cfgN s (0x3800 + n) 3
def ruleOperandKind (s : State) (n : Nat) := cfgN s (0x3800 + n) 4
def ruleValueB (s : State) (n : Nat) := cfgI s (0x3800 + n) 5
def ruleHyst (s : State) (n : Nat) := cfgI s (0x3800 + n) 6
def ruleDelay (s : State) (n : Nat) := cfgN s (0x3800 + n) 7
def ruleTrigger (s : State) (n : Nat) := cfgN s (0x3800 + n) 8
def ruleAction (s : State) (n : Nat) := cfgN s (0x3800 + n) 9
def ruleTarget (s : State) (n : Nat) := cfgN s (0x3800 + n) 10
def ruleValue (s : State) (n : Nat) := cfgI s (0x3800 + n) 11
def loopEnable (s : State) (n : Nat) := cfgB s (0x4000 + n) 1
def loopClass (s : State) (n : Nat) := cfgN s (0x4000 + n) 2
def loopTrigger (s : State) (n : Nat) := cfgN s (0x4000 + n) 3
def loopSamplePeriod (s : State) (n : Nat) := cfgN s (0x4000 + n) 4
def loopWarpDiv (s : State) (n : Nat) := cfgN s (0x4000 + n) 5
def loopWarpPhase (s : State) (n : Nat) := cfgN s (0x4000 + n) 6
def loopPvSource (s : State) (n : Nat) := cfgN s (0x4000 + n) 7
def loopSpSource (s : State) (n : Nat) := cfgN s (0x4000 + n) 8
def loopPoint (s : State) (n : Nat) := cfgN s (0x4000 + n) 9
def loopErrSign (s : State) (n : Nat) := cfgN s (0x4000 + n) 10
def loopOutMin (s : State) (n : Nat) := cfgI s (0x4000 + n) 11
def loopOutMax (s : State) (n : Nat) := cfgI s (0x4000 + n) 12
def loopOutput (s : State) (n : Nat) := cfgN s (0x4000 + n) 13
def loopIntegSection (s : State) (n : Nat) := cfgN s (0x4000 + n) 14
def loopSetpoint (s : State) (n : Nat) := cfgI s (0x4000 + n) 15
def engineLaneWindow (s : State) := cfgN s 0x4300 7
def coefB0 (s : State) (n : Nat) (i : Nat) := cfgI s (0x4400 + n) (1 + 6 * i)
def coefB1 (s : State) (n : Nat) (i : Nat) := cfgI s (0x4400 + n) (2 + 6 * i)
def coefB2 (s : State) (n : Nat) (i : Nat) := cfgI s (0x4400 + n) (3 + 6 * i)
def coefA1 (s : State) (n : Nat) (i : Nat) := cfgI s (0x4400 + n) (4 + 6 * i)
def coefA2 (s : State) (n : Nat) (i : Nat) := cfgI s (0x4400 + n) (5 + 6 * i)
def coefShifts (s : State) (n : Nat) (i : Nat) := cfgN s (0x4400 + n) (6 + 6 * i)
def coefSectionCount (s : State) (n : Nat) := cfgN s (0x4400 + n) 97
def lmMode (s : State) (n : Nat) := cfgN s (0x4800 + n) 16
def lmManOut (s : State) (n : Nat) := cfgI s (0x4800 + n) 17
def lmHandoverTol (s : State) (n : Nat) := cfgN s (0x4800 + n) 19
def lmCondInt (s : State) (n : Nat) := cfgN s (0x4800 + n) 20
def lmPresetOnCommit (s : State) (n : Nat) := cfgB s (0x4800 + n) 21
def lmRampUp (s : State) (n : Nat) := cfgN s (0x4800 + n) 22
def lmRampDown (s : State) (n : Nat) := cfgN s (0x4800 + n) 23
def lmRampScale (s : State) (n : Nat) := cfgN s (0x4800 + n) 24
def rcRcEnable (s : State) (n : Nat) := cfgB s (0x4C00 + n) 1
def rcPeriodKind (s : State) (n : Nat) := cfgN s (0x4C00 + n) 2
def rcPeriodCycles (s : State) (n : Nat) := cfgN s (0x4C00 + n) 3
def rcBins (s : State) (n : Nat) := cfgN s (0x4C00 + n) 4
def rcLeadBins (s : State) (n : Nat) := cfgN s (0x4C00 + n) 5
def rcRcGain (s : State) (n : Nat) := cfgI s (0x4C00 + n) 6
def rcRcForget (s : State) (n : Nat) := cfgN s (0x4C00 + n) 7
def rcRcLimit (s : State) (n : Nat) := cfgI s (0x4C00 + n) 8
def rcProfile (s : State) (n : Nat) := cfgBytes s (0x4C00 + n) 15
def measContUser0 (s : State) := cfgN s 0x5000 6
def measContUser1 (s : State) := cfgN s 0x5000 7
def measCScanPeriod (s : State) := cfgN s 0x5000 8
def mtPeriod (s : State) (n : Nat) := cfgN s (0x5010 + n) 1
def mtWarpSync (s : State) (n : Nat) := cfgB s (0x5010 + n) 2
def trigSource (s : State) (n : Nat) := cfgN s (0x5040 + n) 1
def trigDelay (s : State) (n : Nat) := cfgN s (0x5040 + n) 2
def trigChanA (s : State) (n : Nat) := cfgN s (0x5040 + n) 3
def trigChanB (s : State) (n : Nat) := cfgN s (0x5040 + n) 4
def aiAiMode (s : State) (n : Nat) := cfgN s (0x5100 + n) 1
def aiSensor (s : State) (n : Nat) := cfgN s (0x5100 + n) 2
def aiGain (s : State) (n : Nat) := cfgI s (0x5100 + n) 3
def aiOffset (s : State) (n : Nat) := cfgI s (0x5100 + n) 4
def aiNtcNominal (s : State) (n : Nat) := cfgN s (0x5100 + n) 5
def aiNtcBeta (s : State) (n : Nat) := cfgN s (0x5100 + n) 6
def aiCScan (s : State) (n : Nat) := cfgB s (0x5100 + n) 7
def aiXcheckEn (s : State) (n : Nat) := cfgB s (0x5100 + n) 8
def aiXcheckTol (s : State) (n : Nat) := cfgI s (0x5100 + n) 9
def aiXcheckTime (s : State) (n : Nat) := cfgN s (0x5100 + n) 10
def aoAoMode (s : State) (n : Nat) := cfgN s (0x5300 + n) 1
def aoCmd (s : State) (n : Nat) := cfgI s (0x5300 + n) 2
def aoAoMin (s : State) (n : Nat) := cfgI s (0x5300 + n) 3
def aoAoMax (s : State) (n : Nat) := cfgI s (0x5300 + n) 4
def fwdFwdTime (s : State) := cfgN s 0x6000 1
def ioIoMode (s : State) (n : Nat) := cfgN s (0x6100 + n) 1
def ioInType (s : State) (n : Nat) := cfgN s (0x6100 + n) 2
def ioFilter (s : State) (n : Nat) := cfgN s (0x6100 + n) 3
def ioWbEn (s : State) (n : Nat) := cfgB s (0x6100 + n) 4
def ioCurrentLimit (s : State) (n : Nat) := cfgN s (0x6100 + n) 5
def ioPwmFreq (s : State) (n : Nat) := cfgN s (0x6100 + n) 6
def ioCmdCmd (s : State) (n : Nat) := cfgI s (0x6200 + n) 1
def jqVboostFitted (s : State) := cfgB s 0x7000 1
def jqBandEdge1 (s : State) := cfgI s 0x7000 2
def jqBandEdge2 (s : State) := cfgI s 0x7000 3
def jqBandEdge3 (s : State) := cfgI s 0x7000 4
def jqBankCutoff (s : State) := cfgB s 0x7000 5
def bankPeakLimit (s : State) (n : Nat) := cfgI s (0x7010 + n) 1
def vlvChanMode (s : State) (n : Nat) := cfgN s (0x7100 + n) 1
def vlvCard (s : State) (n : Nat) := cfgN s (0x7100 + n) 2
def vlvMode5200 (s : State) (n : Nat) := cfgB s (0x7100 + n) 3
def vlvMinOff5200 (s : State) (n : Nat) := cfgN s (0x7100 + n) 4
def vlvChanLimit (s : State) (n : Nat) := cfgI s (0x7100 + n) 5
def vlvHlEnable (s : State) (n : Nat) := cfgB s (0x7100 + n) 6
def vlvHlInterval (s : State) (n : Nat) := cfgN s (0x7100 + n) 7
def vlvHlFrom (s : State) (n : Nat) := cfgN s (0x7100 + n) 8
def vlvHlTo (s : State) (n : Nat) := cfgN s (0x7100 + n) 9
def vlvDiagOffEn (s : State) (n : Nat) := cfgB s (0x7100 + n) 10
def vlvP0 (s : State) (n : Nat) := cfgN s (0x7100 + n) 11
def vlvP1 (s : State) (n : Nat) := cfgN s (0x7100 + n) 12
def vlvP2 (s : State) (n : Nat) := cfgN s (0x7100 + n) 13
def vlvP3 (s : State) (n : Nat) := cfgN s (0x7100 + n) 14
def vlvP4 (s : State) (n : Nat) := cfgN s (0x7100 + n) 15
def vlvP5 (s : State) (n : Nat) := cfgN s (0x7100 + n) 16
def vlvP6 (s : State) (n : Nat) := cfgN s (0x7100 + n) 17
def vlvP7 (s : State) (n : Nat) := cfgN s (0x7100 + n) 18
def vlvP8 (s : State) (n : Nat) := cfgN s (0x7100 + n) 19
def vlvP9 (s : State) (n : Nat) := cfgN s (0x7100 + n) 20
def vlvP10 (s : State) (n : Nat) := cfgN s (0x7100 + n) 21
def vlvP11 (s : State) (n : Nat) := cfgN s (0x7100 + n) 22
def vlvCmdCmd (s : State) (n : Nat) := cfgN s (0x7200 + n) 1
def vlvCmdPropCmd (s : State) (n : Nat) := cfgI s (0x7200 + n) 2
def fanBoostGroup (s : State) (n : Nat) := cfgN s (0x8010 + n) 1
def fanSlewUp (s : State) (n : Nat) := cfgI s (0x8010 + n) 2
def fanSlewDown (s : State) (n : Nat) := cfgI s (0x8010 + n) 3
def fanSlewMax (s : State) (n : Nat) := cfgI s (0x8010 + n) 4
def fanBandCount (s : State) (n : Nat) := cfgN s (0x8010 + n) 5
def fanBand (s : State) (n : Nat) (i : Nat) := cfgN s (0x8010 + n) (6 + i)
def fanTableEn (s : State) (n : Nat) := cfgB s (0x8010 + n) 10
def fanTempSrc (s : State) (n : Nat) := cfgN s (0x8010 + n) 11
def fanTablePt (s : State) (n : Nat) (i : Nat) := cfgN s (0x8010 + n) (12 + i)
def dfanFanCtrl (s : State) (n : Nat) := cfgN s (0x8030 + n) 1
def dfanDLoop (s : State) (n : Nat) := cfgN s (0x8030 + n) 2
def dfanQLoop (s : State) (n : Nat) := cfgN s (0x8030 + n) 3
def dfanPwmFreq (s : State) (n : Nat) := cfgN s (0x8030 + n) 4
def dfanCurrTrig (s : State) (n : Nat) := cfgN s (0x8030 + n) 5
def dfanMaxRpm (s : State) (n : Nat) := cfgN s (0x8030 + n) 6
def dfanPolePairs (s : State) (n : Nat) := cfgN s (0x8030 + n) 7
def dfanMotorRes (s : State) (n : Nat) := cfgN s (0x8030 + n) 8
def dfanMotorInd (s : State) (n : Nat) := cfgN s (0x8030 + n) 9
def dfanStartCurrent (s : State) (n : Nat) := cfgI s (0x8030 + n) 10
def dfanOlRampTime (s : State) (n : Nat) := cfgN s (0x8030 + n) 11
def dfanCurrentLimit (s : State) (n : Nat) := cfgI s (0x8030 + n) 12
def ecPwmIo (s : State) (n : Nat) := cfgN s (0x8040 + n) 1
def ecTachIo (s : State) (n : Nat) := cfgN s (0x8040 + n) 2
def ecPulsesPerRev (s : State) (n : Nat) := cfgN s (0x8040 + n) 3
def ecMaxRpm (s : State) (n : Nat) := cfgN s (0x8040 + n) 4
def ecDutyMin (s : State) (n : Nat) := cfgI s (0x8040 + n) 5
def ecDutyMax (s : State) (n : Nat) := cfgI s (0x8040 + n) 6
def ecTrimEn (s : State) (n : Nat) := cfgB s (0x8040 + n) 7
def ecTrimRange (s : State) (n : Nat) := cfgI s (0x8040 + n) 8
def ecSupplySrc (s : State) (n : Nat) := cfgN s (0x8040 + n) 9
def ecSupMin (s : State) (n : Nat) := cfgI s (0x8040 + n) 10
def ecSupMax (s : State) (n : Nat) := cfgI s (0x8040 + n) 11
def ecSpinupTime (s : State) (n : Nat) := cfgN s (0x8040 + n) 12
def fanCmdCmd (s : State) (n : Nat) := cfgI s (0x8100 + n) 1
def dispDispMode (s : State) := cfgN s 0x9000 1
def dispComCount (s : State) := cfgN s 0x9000 2
def dispBias (s : State) := cfgN s 0x9000 3
def dispFrameRate (s : State) := cfgN s 0x9000 4
def dispSegCount (s : State) := cfgN s 0x9000 5
def dispTempSrc (s : State) := cfgN s 0x9000 6
def dispDbandEdge1 (s : State) := cfgI s 0x9000 7
def dispDbandEdge2 (s : State) := cfgI s 0x9000 8
def dispDbandEdge3 (s : State) := cfgI s 0x9000 9
def dispVlcdBand0 (s : State) := cfgN s 0x9000 10
def dispVlcdBand1 (s : State) := cfgN s 0x9000 11
def dispVlcdBand2 (s : State) := cfgN s 0x9000 12
def dispVlcdBand3 (s : State) := cfgN s 0x9000 13
def dispLedgerLimit (s : State) := cfgN s 0x9000 14
def dispBalMax (s : State) := cfgN s 0x9000 15
def dispFinishLimit (s : State) := cfgN s 0x9000 16
def odOdEntry (s : State) (n : Nat) (i : Nat) := cfgN s (0x9200 + n) (1 + i)
def riseRiseLimit (s : State) (n : Nat) := cfgI s (0xA010 + n) 1
def thermThrottleStart (s : State) := cfgI s 0xA030 1
def thermRiseFloor (s : State) := cfgI s 0xA030 2
def thermXtalK (s : State) := cfgI s 0xA030 3
def thermXtalT0 (s : State) := cfgI s 0xA030 4
def thermXtalDt (s : State) := cfgI s 0xA030 5
def safetyAutoRestart (s : State) := cfgB s 0xB000 6
def safeSafetyRelevant (s : State) (n : Nat) := cfgB s (0xB100 + n) 1
def safeSafeState (s : State) (n : Nat) := cfgN s (0xB100 + n) 2
def safeSafeValue (s : State) (n : Nat) := cfgI s (0xB100 + n) 3
def pairPairEn (s : State) := cfgB s 0xC000 1
def pairPairId (s : State) := cfgN s 0xC000 2
def pairPeerNode (s : State) := cfgN s 0xC000 3
def pairTakeoverEn (s : State) := cfgB s 0xC000 4
def mirrorMirrorRate (s : State) (n : Nat) := cfgN s (0xC100 + n) 1
def holdTakeoverHold (s : State) (n : Nat) := cfgB s (0xC200 + n) 1
def snapTrigInMode (s : State) := cfgN s 0xD000 2
def snapTrigInSlot (s : State) := cfgN s 0xD000 3
def snapFaultSlot (s : State) := cfgN s 0xD000 4
def snapTrigOutEn (s : State) := cfgB s 0xD000 5
def snapCanTrigEn (s : State) := cfgN s 0xD000 6
def snapCanTrigOut (s : State) := cfgN s 0xD000 7
def slotOverwrite (s : State) (n : Nat) := cfgB s (0xD010 + n) 2
def slotArmAt (s : State) (n : Nat) := cfgN s (0xD010 + n) 3

end Cfg

end Sys2Proof.Machine
end

