-- ==== Sys2Proof/Machine/Ops.lean ====
section
/-! DEFINITION. The named operations every family uses: indexed parts of the state, time, the event log,
alarms, sessions, free values. A block takes no processor exceptions, so none is defined here. -/

namespace Sys2Proof.Machine

/-- What a meaning answers. -/
abbrev Out := Host.Outcome State Fault Refusal

/-! ### Indexed parts -/

/-- The default entry of a table of records. -/
def blank {α : Type} (a : α) : Nat → α := fun _ => a

def getCirc (s : State) (c : Nat) : Circuit := Table.getD (blank {}) s.loom.circuits c

def modCirc (s : State) (c : Nat) (f : Circuit → Circuit) : State :=
  { s with loom := { s.loom with circuits := Table.modify (blank {}) s.loom.circuits c f } }

def getZone (s : State) (z : Nat) : Zone := Table.getD (blank {}) s.loom.zones z

def modZone (s : State) (z : Nat) (f : Zone → Zone) : State :=
  { s with loom := { s.loom with zones := Table.modify (blank {}) s.loom.zones z f } }

def getEvent (s : State) (e : Nat) : UEvent := Table.getD (blank {}) s.loom.events e

def modEvent (s : State) (e : Nat) (f : UEvent → UEvent) : State :=
  { s with loom := { s.loom with events := Table.modify (blank {}) s.loom.events e f } }

def getRule (s : State) (r : Nat) : RuleRt := Table.getD (blank {}) s.loom.rules r

def modRule (s : State) (r : Nat) (f : RuleRt → RuleRt) : State :=
  { s with loom := { s.loom with rules := Table.modify (blank {}) s.loom.rules r f } }

def getLoop (s : State) (n : Nat) : LoopRt := Table.getD (blank {}) s.engine.loops n

def modLoop (s : State) (n : Nat) (f : LoopRt → LoopRt) : State :=
  { s with engine := { s.engine with loops := Table.modify (blank {}) s.engine.loops n f } }

def getRec (s : State) (k : Nat) : ResRec := Table.getD (blank {}) s.meas.recs k

def setRec (s : State) (k : Nat) (r : ResRec) : State :=
  { s with meas := { s.meas with recs := Table.set (blank {}) s.meas.recs k r } }

def getTrig (s : State) (t : Nat) : TrigRt := Table.getD (blank {}) s.meas.trig t

def modTrig (s : State) (t : Nat) (f : TrigRt → TrigRt) : State :=
  { s with meas := { s.meas with trig := Table.modify (blank {}) s.meas.trig t f } }

def getAi (s : State) (k : Nat) : AiRt := Table.getD (blank {}) s.meas.ai k

def modAi (s : State) (k : Nat) (f : AiRt → AiRt) : State :=
  { s with meas := { s.meas with ai := Table.modify (blank {}) s.meas.ai k f } }

def getAo (s : State) (a : Nat) : AoRt := Table.getD (blank {}) s.meas.ao a

def modAo (s : State) (a : Nat) (f : AoRt → AoRt) : State :=
  { s with meas := { s.meas with ao := Table.modify (blank {}) s.meas.ao a f } }

def getVlv (s : State) (v : Nat) : VlvRt := Table.getD (blank {}) s.valve.ch v

def modVlv (s : State) (v : Nat) (f : VlvRt → VlvRt) : State :=
  { s with valve := { s.valve with ch := Table.modify (blank {}) s.valve.ch v f } }

def getBank (s : State) (b : Nat) : Bank := Table.getD (blank {}) s.valve.banks b

def modBank (s : State) (b : Nat) (f : Bank → Bank) : State :=
  { s with valve := { s.valve with banks := Table.modify (blank {}) s.valve.banks b f } }

def getIo (s : State) (i : Nat) : IoRt := Table.getD (blank {}) s.io.ch i

def modIo (s : State) (i : Nat) (f : IoRt → IoRt) : State :=
  { s with io := { s.io with ch := Table.modify (blank {}) s.io.ch i f } }

def getGroup (s : State) (g : Nat) : IoGroup := Table.getD (blank {}) s.io.groups g

def modGroup (s : State) (g : Nat) (f : IoGroup → IoGroup) : State :=
  { s with io := { s.io with groups := Table.modify (blank {}) s.io.groups g f } }

def getFan (s : State) (f : Nat) : FanRt := Table.getD (blank {}) s.fans f

def modFan (s : State) (f : Nat) (g : FanRt → FanRt) : State :=
  { s with fans := Table.modify (blank {}) s.fans f g }

def getCan (s : State) (x : Nat) : CanRt := Table.getD (blank {}) s.can x

def modCan (s : State) (x : Nat) (f : CanRt → CanRt) : State :=
  { s with can := Table.modify (blank {}) s.can x f }

def getSensor (s : State) (i : Nat) : Sensor := Table.getD (blank {}) s.therm.sensors i

def modSensor (s : State) (i : Nat) (f : Sensor → Sensor) : State :=
  { s with therm := { s.therm with sensors := Table.modify (blank {}) s.therm.sensors i f } }

def getSafe (s : State) (c : Nat) : SafeRt := Table.getD (blank {}) s.safety.ch c

def modSafe (s : State) (c : Nat) (f : SafeRt → SafeRt) : State :=
  { s with safety := { s.safety with ch := Table.modify (blank {}) s.safety.ch c f } }

def getSlot (s : State) (k : Nat) : SnapSlot := Table.getD (blank {}) s.snap.slots k

def modSlot (s : State) (k : Nat) (f : SnapSlot → SnapSlot) : State :=
  { s with snap := { s.snap with slots := Table.modify (blank {}) s.snap.slots k f } }

/-- The key of a session (R246): the host port, each source node on each controller, the rule table, the
user events, Selvedge. -/
def sessKey : Sess → Nat
  | .host => 0
  | .can x node => 1 + x * 256 + node
  | .rules => 1000
  | .events => 1001
  | .selvedge => 1002
  | .image => 1003

def getSess (s : State) (x : Sess) : SessRec := Table.getD (blank {}) s.dict.sessions (sessKey x)

def modSess (s : State) (x : Sess) (f : SessRec → SessRec) : State :=
  { s with dict := { s.dict with
      sessions := Table.modify (blank {}) s.dict.sessions (sessKey x) f } }

/-- Apply `f` to each index of a list in turn. -/
def forAll {α : Type} (l : List α) (f : State → α → State) (s : State) : State := l.foldl f s

/-- The indices 0 to n − 1. -/
def upTo (n : Nat) : List Nat := List.range n

/-! ### Values of members -/

/-- Keep a member's value in force. -/
def setForce (s : State) (key : Nat) (v : Val) : State :=
  { s with dict := { s.dict with force := Table.set dfltOf s.dict.force key v } }

/-- Commit a member's value. -/
def setCommitted (s : State) (key : Nat) (v : Val) : State :=
  { s with dict := { s.dict with committed := Table.set dfltOf s.dict.committed key v } }

/-- Store an RW member: committed and in force at once (R244). -/
def setRw (s : State) (key : Nat) (v : Val) : State := setForce (setCommitted s key v) key v

/-- The committed value of a member (R250). -/
def committedVal (s : State) (key : Nat) : Val := Table.getD dfltOf s.dict.committed key

/-- The committed number of a member. -/
def comI (s : State) (o m : Nat) : Int :=
  match committedVal s (memKey o m) with
  | .num v => v
  | .bytes _ => 0

/-- The committed unsigned value of a member. -/
def comN (s : State) (o m : Nat) : Nat := (comI s o m).toNat

/-! ### Time -/

/-- Warp time: cycle count and phase (R28, "Warp time decoded"). -/
def warpNow (s : State) : Nat := 65536 * s.warp.cycle + s.warp.frac / 2 ^ 32

/-- Warp time with the 32-bit fraction below the wt (R28). -/
def warpFine (s : State) : Nat := 2 ^ 48 * s.warp.cycle + s.warp.frac

/-- Warp time on the F-die: its replica (R16). -/
def warpField (s : State) : Nat := s.warp.replica / 2 ^ 32

/-- Warp time of an engine clock in the running cycle or in the one before it (R17). -/
def warpAt (s : State) (t : Nat) : Nat :=
  let w := s.warp
  if w.startClk ≤ t then
    65536 * w.cycle + min 65535 ((w.frac - min w.frac ((s.clk - t) * w.inc)) / 2 ^ 32)
  else 65536 * w.past.cycle + min 65535 ((t - w.past.startClk) * w.past.inc / 2 ^ 32)

/-- The lock state that held at an engine clock of the running cycle or of the one before it. -/
def lockAt (s : State) (t : Nat) : WarpState := if s.warp.startClk ≤ t then s.warp.ws else s.warp.past.ws

/-- Nominal cycle in engine clocks (R28). -/
def nominalPeriod (s : State) : Nat := if Cfg.warpNominalFreq s = 60 then 6666667 else 8000000

/-- The length of the present cycle in engine clocks by the increment in force. -/
def cycleLen (s : State) : Nat := (2 ^ 48 + s.warp.inc - 1) / s.warp.inc

/-- Warp runs synthetic (R31). -/
def synthetic (s : State) : Bool :=
  s.warp.ws = .synthetic ∨ s.warp.ws = .acquiring

/-- Microseconds of a number of engine clocks, rounded down. -/
def clkToUs (n : Nat) : Nat := n / clkPerUs

/-- Whether a deadline in engine clocks has come. -/
def due (s : State) (t : Nat) : Bool := decide (t ≤ s.clk)

/-- Whether `n` engine clocks have passed since `t`. -/
def passed (s : State) (t n : Nat) : Bool := decide (after t n ≤ s.clk)

/-- Keep the instants of a list that lie within the last `n` engine clocks. -/
def recent (s : State) (n : Nat) (l : List Nat) : List Nat :=
  l.filter fun t => decide (s.clk < after t n)

/-- Outputs are released (R408): from here on the blocks drive their outputs. -/
def released (s : State) : Bool := s.power.phase = .released

/-- The module has reached operational (R273, R407). -/
def isUp (s : State) : Bool :=
  s.power.phase = .operational ∨ s.power.phase = .released ∨ s.power.phase = .held

/-! ### Free values -/

/-- Take one free value. -/
def takeFree (s : State) : Nat × State := (Config.freeValue s.free, { s with free := s.free + 1 })

/-! ### Alarms -/

/-- Raise an alarm. -/
def raiseAlarm (a : Alarm) (s : State) : State :=
  if s.alarms.contains a then s else { s with alarms := s.alarms ++ [a] }

/-- Lower an alarm. -/
def dropAlarm (a : Alarm) (s : State) : State :=
  { s with alarms := s.alarms.filter fun b => b ≠ a }

/-! ### The event log (R398–R400) -/

/-- LOG_FLAGS of a record that describes the present: SYNTH and CAL_NOT_VALID (R398). -/
def logFlagsNow (s : State) : Nat :=
  (if s.warp.ws = .locked ∨ s.warp.ws = .holdover then 0 else 2) + (if s.cal.st = 2 then 0 else 4)

/-- Put a record in the queue of 64 (R400). Its SEQ follows those that wait before it. -/
def queueRec (s : State) (type flags warpAt calAt : Nat) (payload : List Byte) : State :=
  if s.snap.queue.length ≥ 64 then { s with snap := { s.snap with lost := s.snap.lost + 1 } }
  else
    { s with snap := { s.snap with
        queue := s.snap.queue ++
          [⟨type, flags, s.mram.nextSeq + s.snap.queue.length, warpAt, calAt, payload⟩] } }

/-- Write an event-log record of the present instant. -/
def logEvent (s : State) (type : Nat) (payload : List Byte) : State :=
  queueRec s type (logFlagsNow s) (warpNow s) s.cal.now payload

/-- The 32 bytes of a record (R398). -/
def recBytes (r : LogRec) (gap : Bool) : List Byte :=
  leBytes 2 r.type ++ [BitVec.ofNat 8 (r.type / 256),
    BitVec.ofNat 8 (if gap then r.flags ||| 128 else r.flags)] ++
  leBytes 4 r.seq ++ leBytes 8 r.warpAt ++ leBytes 8 r.calAt ++ padTo 8 r.payload

/-- Bytes of one-byte numbers. -/
def bytes1 (l : List Nat) : List Byte := l.map (BitVec.ofNat 8)

/-- LOG_OLDEST (R400, R402): 1 while the log is empty. -/
def logOldest (s : State) : Nat :=
  match s.mram.log with
  | [] => 1
  | r :: _ => r.seq

/-- LOG_NEWEST (R402): 0 while the log is empty. -/
def logNewest (s : State) : Nat :=
  match s.mram.log.getLast? with
  | none => 0
  | some r => r.seq

/-- Add a record to a queue of 64, dropping the oldest when it is full: the queue, and 1 when one was
dropped (R280). -/
def pushCapped (q : List LogRec) (r : LogRec) : List LogRec × Nat :=
  if q.length ≥ 64 then (q.drop 1 ++ [r], 1) else (q ++ [r], 0)

/-- Queue a record to the host port (R280). -/
def pushHostEvent (s : State) (r : LogRec) : State :=
  let q := pushCapped s.host.events r
  { s with host := { s.host with events := q.1, lost := s.host.lost + q.2 } }

/-- Queue a record to the CAN session of EVENT_NODE (R280). -/
def pushNodeEvent (s : State) (r : LogRec) : State :=
  let q := pushCapped s.host.nodeEvents r
  { s with host := { s.host with nodeEvents := q.1, nodeLost := s.host.nodeLost + q.2 } }

/-- MRAM from `lo` up to `hi` is written: its lines are no longer poisoned, and MRAM_POISON follows (R342, R357). -/
def mramWritten (s : State) (lo hi : Nat) : State :=
  let l := s.mem.poisonM.filter fun p => decide (p + 32 ≤ lo) || decide (hi ≤ p)
  { s with mem := { s.mem with poisonM := l, flags := Flag.set s.mem.flags 1 (!l.isEmpty) } }

/-- Write one record to the ring of 4096 (R400) and queue it as an event (R280). -/
def writeRec (s : State) (r : LogRec) : State :=
  let r := { r with seq := s.mram.nextSeq }
  let s := { s with mram := { s.mram with
    log := lastN 4096 (s.mram.log ++ [r])
    nextSeq := s.mram.nextSeq + 1
    poisonedLog := s.mram.poisonedLog.filter fun p => p % 4096 ≠ r.seq % 4096 } }
  let s := mramWritten s (0x720000 + 32 * (r.seq % 4096)) (0x720000 + 32 * (r.seq % 4096) + 32)
  let s := if Cfg.hostEventEn s then pushHostEvent s r else s
  if Cfg.netEventNode s ≠ 0 then pushNodeEvent s r else s

/-- Write out the whole queue (R400): the Bobbin save does so first. -/
def flushLog (s : State) : State :=
  let q := s.snap.queue
  forAll q writeRec { s with snap := { s.snap with queue := [] } }

/-! ### Owners of the outputs (R18, R24) -/

/-- The heddle entries of output channels (R24). -/
def isOutEntry (h : Nat) : Bool := (decide (256 ≤ h) && decide (h ≤ 307)) || (decide (332 ≤ h) && decide (h ≤ 339))

/-- What may command an output channel (R18). -/
inductive Owner where
  | loop (n : Nat)
  | loom (c : Nat)
  | dict
  deriving DecidableEq, Repr

/-- The enabled loop whose OUTPUT names an entry, by the values of `rd`. -/
def ownerLoop (rd : Nat → Nat → Int) (h : Nat) : Option Nat :=
  findIdx (fun n => rd (0x4000 + n) 1 == 1 && rd (0x4000 + n) 13 == (h : Int)) 0 256

/-- The enabled lighting circuit that names an entry as OUTPUT. -/
def ownerCirc (rd : Nat → Nat → Int) (h : Nat) : Option Nat :=
  findIdx (fun c => rd (0x3200 + c) 1 == 1 && rd (0x3200 + c) 2 == (h : Int)) 0 32

/-- The owner of an output channel in the committed configuration (R18). -/
def ownerOf (s : State) (h : Nat) : Owner :=
  match ownerLoop (comI s) h with
  | some n => .loop n
  | none =>
    match ownerCirc (comI s) h with
    | some c => .loom c
    | none => .dict

end Sys2Proof.Machine
end

