-- ==== Sys2Proof/Machine/Heddle.lean ====
section
/-! DEFINITION. SRAM as bytes, the heddle table in it, the caches of the eight engines, and the roles that
decide which channels a module drives (15_memory_and_repair, 01_architecture, 14_selvedge_pair). -/

namespace Sys2Proof.Machine

/-! ### Roles (R283, R322) -/

/-- The module is a standby (ROLE 2 or 3). -/
def isStandby (s : State) : Bool := s.pair.role = 2 ∨ s.pair.role = 3

/-- The IO entry is named by an EC fan (R322). -/
def ecNames (s : State) (h : Nat) : Bool :=
  (upTo 8).any fun e => comN s (0x8040 + e) 1 == h || comN s (0x8040 + e) 2 == h

/-- A channel is LOCAL: a fan bridge, or an IO channel that an EC fan names (R322). -/
def isLocal (s : State) (h : Nat) : Bool :=
  (decide (304 ≤ h) && decide (h ≤ 307)) || (decide (256 ≤ h) && decide (h ≤ 287) && ecNames s h)

/-- A loop is LOCAL when its OUTPUT is (R322). -/
def isLocalLoop (s : State) (n : Nat) : Bool := isLocal s (comN s (0x4000 + n) 13)

/-- The module drives this output: outputs are released, and a standby drives LOCAL channels only
(R322, R323). -/
def drives (s : State) (h : Nat) : Bool := released s && (!isStandby s || isLocal s h)

/-! ### SRAM (R337) -/

/-- What a byte of SRAM that nothing has written reads as (log entry 4). -/
def sramDefault : Nat → Byte := fun _ => 0#8

/-- One byte of SRAM. -/
def sramByte (s : State) (a : Nat) : Byte := Table.getD sramDefault s.mem.sram a

/-- `n` bytes of SRAM. -/
def sramRead (s : State) (a n : Nat) : List Byte := Table.getRun sramDefault s.mem.sram a n

/-- The byte offset of the line that holds a byte. -/
def lineOf (a : Nat) : Nat := a / 32 * 32

/-- Store bytes in SRAM. -/
def sramWrite (s : State) (a : Nat) (l : List Byte) : State :=
  { s with mem := { s.mem with sram := Table.setRun sramDefault s.mem.sram a l } }

/-- SRAM_POISON follows the poisoned lines (R357). -/
def refreshPoison (s : State) : State :=
  { s with mem := { s.mem with
      flags := Flag.set (Flag.set s.mem.flags 0 (!s.mem.poisonS.isEmpty)) 1
        (!s.mem.poisonM.isEmpty) } }

/-- A write of the full line at `a` clears its poison (R342). -/
def clearPoison (s : State) (a : Nat) : State :=
  refreshPoison { s with mem := { s.mem with poisonS := s.mem.poisonS.filter fun p => p ≠ a } }

/-! ### Heddle entries (R352) -/

/-- The range of S32. -/
def s32Min : Int := -2147483648

def s32Max : Int := 2147483647

/-- Q16 100 %. -/
def pct100 : Int := 6553600

/-- The lowest and highest command a channel's committed configuration accepts from its owner. -/
def chanLimits (s : State) (h : Nat) : Int × Int :=
  if h < 288 then
    if comN s (0x6100 + (h - 256)) 1 = 3 then (0, pct100) else (s32Min, s32Max)
  else if h < 304 then
    if comN s (0x7100 + (h - 288)) 1 = 2 then (0, min (comI s (0x7100 + (h - 288)) 5) 98304)
    else (s32Min, s32Max)
  else if h < 308 then (s32Min, pct100)
  else if h < 332 then (0, 0)
  else (comI s (0x5300 + (h - 332)) 3, comI s (0x5300 + (h - 332)) 4)

/-- The channel is in use: its mode is not off. A fan bridge has no mode and is always in use. -/
def chanInUse (s : State) (h : Nat) : Bool :=
  if h < 288 then comN s (0x6100 + (h - 256)) 1 != 0
  else if h < 304 then comN s (0x7100 + (h - 288)) 1 != 0
  else if h < 308 then true
  else if h < 332 then comN s (0x5100 + (h - 308)) 1 != 0
  else comN s (0x5300 + (h - 332)) 1 != 0

/-- KIND of an entry. -/
def heddleKind (e : Nat) : Nat :=
  if e < 256 then 0 else if e < 288 then 1 else if e < 304 then 2 else if e < 308 then 3
  else if e < 332 then 4 else 5

/-- OWNER of a channel entry (R18): loop slot, 0x0100 Loom, 0x0200 dictionary, 0xFFFF none. -/
def heddleOwner (s : State) (h : Nat) : Nat :=
  if !isOutEntry h then 0xFFFF
  else if h < 288 ∧ comN s (0x6100 + (h - 256)) 1 ≠ 2 ∧ comN s (0x6100 + (h - 256)) 1 ≠ 3 then 0xFFFF
  else
    match ownerOf s h with
    | .loop n => n
    | .loom _ => 0x0100
    | .dict => 0x0200

/-- SAFETY_RELEVANT, LOCAL, SAFE_STATE, LIMIT_LO, LIMIT_HI and SAFE_VALUE of a channel. -/
def chanFields (s : State) (h : Nat) : Bool × Bool × Nat × Int × Int × Int :=
  let o := 0xB100 + (h - 256)
  let l := chanLimits s h
  (comI s o 1 == 1, isLocal s h, if isOutEntry h then comN s o 2 else 0, l.1, l.2, comI s o 3)

/-- The 64 bytes of an entry as the committed configuration gives them. BLOCK_DATA is kept as zeros and
read through `Config.blockData`. -/
def heddleBytes (s : State) (e : Nat) : List Byte :=
  let h := if e < 256 then comN s (0x4000 + e) 13 else e
  let f := if e < 256 ∧ ¬ isOutEntry h then (false, false, 0, 0, 0, 0) else chanFields s h
  let en := if e < 256 then comI s (0x4000 + e) 1 == 1 else chanInUse s e
  let ow := if e < 256 then 0xFFFF else heddleOwner s e
  let cl := if e < 256 then comN s (0x4000 + e) 2 else 0xFF
  bytes1 [heddleKind e, (if en then 1 else 0) + (if f.1 then 2 else 0) + (if f.2.1 then 4 else 0)] ++
  leBytes 2 ow ++ bytes1 [cl, f.2.2.1, 0, 0] ++ leBytes 4 (unsigned 32 f.2.2.2.1) ++
  leBytes 4 (unsigned 32 f.2.2.2.2.1) ++ leBytes 4 (unsigned 32 f.2.2.2.2.2) ++ List.replicate 44 0#8

/-- Store an entry in SRAM as the committed configuration gives it; cached copies keep what they hold (R342, R354). -/
def heddleStore (s : State) (e : Nat) : State :=
  clearPoison (clearPoison (sramWrite s (e * 64) (heddleBytes s e)) (e * 64)) (e * 64 + 32)

/-- Rewrite an entry in SRAM and in every cached copy (R25, R352). -/
def heddleRewriteEntry (s : State) (e : Nat) : State :=
  let b := heddleBytes s e
  let s := heddleStore s e
  { s with mem := { s.mem with
      caches := s.mem.caches.map fun c => c.map fun p => if p.1 = e then (e, b) else p } }

/-- The engines that hold a cache (R25). -/
def engControl : Nat := 0

def engJacquard (v : Nat) : Nat := 1 + v / 4

def engFan : Nat := 5

def engBarrier : Nat := 6

def engMeas : Nat := 7

/-- An engine fetches an entry: from its cache, or on a miss from SRAM, replacing the least recently used
of 128 entries (R354). -/
def heddleFetch (s : State) (eng e : Nat) : List Byte × State :=
  let c := nth [] s.mem.caches eng
  match c.find? fun p => p.1 == e with
  | some p =>
    (p.2, { s with mem := { s.mem with
        caches := setNth s.mem.caches eng (p :: eraseFirst (fun q => q.1 == e) c) } })
  | none =>
    let b := sramRead s (e * 64) 64
    (b, { s with mem := { s.mem with
        misses := s.mem.misses + 1
        caches := setNth s.mem.caches eng (((e, b) :: c).take 128) } })

/-- A signed 32-bit field of an entry. -/
def heddleS32 (b : List Byte) (off : Nat) : Int := signed 32 (leNat ((b.drop off).take 4))

/-- LIMIT_LO, LIMIT_HI and SAFE_VALUE of an entry (R352). -/
def heddleLo (b : List Byte) : Int := heddleS32 b 8

def heddleHi (b : List Byte) : Int := heddleS32 b 12

def heddleSafe (b : List Byte) : Int := heddleS32 b 16

/-- The engine that applies commands to a channel. -/
def engOf (h : Nat) : Nat :=
  if h < 288 then engBarrier else if h < 304 then engJacquard (h - 288)
  else if h < 308 then engFan else engMeas

/-- An owner's command clamped to the entry's limits: to LIMIT_HI where LIMIT_LO lies above it (R353). -/
def clampEntry (b : List Byte) (v : Int) : Int := min (max v (heddleLo b)) (heddleHi b)

/-! ### The owner's latest command (R18, R19) -/

/-- The member that holds the dictionary's command of a channel: object and member. -/
def cmdMember (s : State) (h : Nat) : Nat × Nat :=
  if h < 288 then (0x6200 + (h - 256), 1)
  else if h < 304 then (0x7200 + (h - 288), if Cfg.vlvChanMode s (h - 288) = 2 then 2 else 1)
  else if h < 308 then (0x8100 + (h - 304), 1)
  else (0x5300 + (h - 332), 2)

/-- The latest command of a channel's owner as a Q16 value (R85, R191): the loop's applied output, 1.0 for
a circuit that Loom has on or closing, or the command member. -/
def ownerCmd (s : State) (h : Nat) : Int :=
  match ownerOf s h with
  | .loop n => convPoint (Cfg.loopPoint s n) 16 (getLoop s n).out
  | .loom c => if (getCirc s c).st = 1 ∨ (getCirc s c).st = 2 then 65536 else 0
  | .dict =>
    let m := cmdMember s h
    cfgI s m.1 m.2

/-! ### The top level of R19 -/

/-- The channel of the safety objects of a heddle entry (R372). -/
def safeChan (h : Nat) : Nat := h - 256

/-- The channel is held at its safe state: by the supervisor, or as every output while CONFIG_STATE is
DIVERGENT or LOST (R266). -/
def isSafe (s : State) (h : Nat) : Bool :=
  (getSafe s (safeChan h)).active || s.dict.st = 2 || s.dict.st = 3

/-- SAFE_STATE and SAFE_VALUE in use: those of the entry, or after a firmware watchdog expiry those the
supervisor latched at the last COMMIT (R377). -/
def safeSetting (s : State) (h : Nat) (entry : List Byte) : Nat × Int :=
  if s.safety.watchdogBad then
    match s.safety.latched.find? fun p => p.1 == safeChan h with
    | some p => (p.2.1, p.2.2)
    | none => (0, 0)
  else (Cfg.safeSafeState s (safeChan h), heddleSafe entry)

/-- The command a safe channel takes: off, the command held since the detection, or SAFE_VALUE (R373). -/
def safeCmd (s : State) (h : Nat) (entry : List Byte) : Int :=
  let p := safeSetting s h entry
  if p.1 = 1 then (getSafe s (safeChan h)).held else if p.1 = 2 then p.2 else 0

end Sys2Proof.Machine
end

