-- ==== Sys2Proof/Machine/IoOps.lean ====
section
/-! DEFINITION. How the F-die and the AO block apply commands: the levels of R19 for IO and AO channels. -/

namespace Sys2Proof.Machine

/-! ### Throttle steps (R364) -/

/-- The percentage of a step. -/
def stepPct (n : Nat) : Nat := nth 40 [100, 80, 60, 40] n

/-- The step of a drive domain. -/
def domainStep (s : State) (d : Nat) : Nat := nth 0 s.therm.steps d

/-- Whether a channel is safety-relevant (R372). -/
def isRelevant (s : State) (h : Nat) : Bool := Cfg.safeSafetyRelevant s (safeChan h)

/-- The percentage that limits a channel of domain `d`; safety-relevant channels are not stepped. -/
def chanPct (s : State) (h d : Nat) : Nat := if isRelevant s h then 100 else stepPct (domainStep s d)

/-! ### IO channels -/

/-- Bits of IO_STATUS (R208). -/
def ioInLimit : Nat := 0
def ioThermalOff : Nat := 1
def ioOverloadLatched : Nat := 2
def ioShed : Nat := 3
def ioShedLatched : Nat := 4
def ioOpenLoad : Nat := 5
def ioShortLplus : Nat := 6
def ioSupplyLost : Nat := 7
def ioWdOff : Nat := 8
def ioStepped : Nat := 9
def ioStale : Nat := 10

/-- IN_STATE: BREAK while the input is STALE (R201). -/
def ioInState (c : IoRt) : Nat := if Flag.get c.status ioStale then 2 else c.inState

/-- The group of a channel. -/
def ioGroupOf (i : Nat) : Nat := i / 8

/-- The domain of a channel (R358). -/
def ioDomain (i : Nat) : Nat := if i < 16 then 6 else 7

/-- The applied limit in 0.1 A (R196). -/
def ioLimit (s : State) (i : Nat) : Nat :=
  let n := Cfg.ioCurrentLimit s i
  let p := chanPct s (256 + i) (ioDomain i)
  if p = 100 then n else max 1 (p * n / 100)

/-- A mode that drives the pin (R191). -/
def isOutMode (m : Nat) : Bool := m = 2 ∨ m = 3

/-- A duty clamped to 0–100 % with a resolution of 0.1 %, as Q16 % (R191). -/
def dutyOf (v : Int) : Int := roundDiv (roundDiv (clampInt 0 pct100 v * 10) 65536 * 65536) 10

/-- The stage is off by a level between the safe state and the owner (R197, R198, R202). -/
def ioStageOff (c : IoRt) : Bool :=
  Flag.get c.status ioThermalOff || Flag.get c.status ioOverloadLatched ||
  Flag.get c.status ioShed || Flag.get c.status ioShedLatched

/-- The EC fan whose PWM_IO names the channel (R215). -/
def ecOfPwm (s : State) (i : Nat) : Option Nat := findIdx (fun e => Cfg.ecPwmIo s e == 256 + i) 0 8

/-- The EC fan whose TACH_IO names the channel. -/
def ecOfTach (s : State) (i : Nat) : Option Nat := findIdx (fun e => Cfg.ecTachIo s e == 256 + i) 0 8

/-- What drives the channel below the levels of R19: its owner's command within the limits of the heddle entry, or the duty
the fan drive sets on the PWM_IO of an EC fan (R215, R353). -/
def ioOwnerCmd (s : State) (i : Nat) (entry : List Byte) : Int :=
  match ecOfPwm s i with
  | some e => (getFan s (4 + e)).duty
  | none => clampEntry entry (ownerCmd s (256 + i))

/-- The command of an IO output that crosses the barrier link: its safe state, else what its owner gives it (R19, R191). -/
def ioCommand (s : State) (i : Nat) (entry : List Byte) : Int :=
  let h := 256 + i
  let v := if isSafe s h then safeCmd s h entry else ioOwnerCmd s i entry
  if (getIo s i).mode = 3 then dutyOf v else if 0 < v then 65536 else 0

/-- The command in force at the pin: off while the field watchdog has tripped or is not armed, and while the stage is off below
a safe state; else the last one that crossed (R19, R202). -/
def ioInForce (s : State) (i : Nat) : Int :=
  let c := getIo s i
  if s.io.fwd ≠ 1 then 0
  else if ioStageOff c ∧ ¬ isSafe s (256 + i) then 0
  else c.sent

/-- The latches of R197 and R198 end when the command has gone off and then on. -/
def ioNoteCommand (s : State) (i : Nat) (entry : List Byte) : State :=
  let on := decide (0 < ioOwnerCmd s i entry)
  modIo s i fun c =>
    if on ∧ c.lastCmdOff then
      { c with lastCmdOff := false
               status := Flag.set (Flag.set c.status ioOverloadLatched false) ioShedLatched false }
    else if on then c else { c with lastCmdOff := true }

/-- The sum of the output currents of a group (GROUP_CURRENT). -/
def groupSum (s : State) (g : Nat) : Int :=
  ((upTo 8).map fun j => (getIo s (8 * g + j)).outCurrent).foldl (· + ·) 0

/-- Output release has taken place: the save, DONE and the die hold leave the pins driven off, not high
impedance (R206, R414). -/
def pinsLive (s : State) : Bool :=
  match s.power.phase with
  | .released | .saving | .done | .dieHold => true
  | _ => false

/-- The group total against 2.7 A (R198). -/
def groupFollow (s : State) (g : Nat) : State :=
  let low := decide (groupSum s g * 10 < 27 * 65536)
  modGroup s g fun r => { r with lowSince := if low then some (r.lowSince.getD s.clk) else none }

/-- The pin takes a command: its current stays within the applied limit, IN_LIMIT holds while it is at that limit, and STEPPED
while the step lowers the limit of an output (R196). -/
def ioPin (s : State) (i : Nat) (v : Int) (hiZ : Bool) : State :=
  let lim := roundDiv (ioLimit s i * 65536) 10
  let step := isOutMode (getIo s i).mode && decide (ioLimit s i < Cfg.ioCurrentLimit s i)
  let s := modIo s i fun c =>
    let cur := if 0 < v then min c.outCurrent lim else 0
    { c with applied := v, on := decide (0 < v), hiZ := hiZ, outCurrent := cur
             status := Flag.set (Flag.set c.status ioInLimit (decide (0 < v) && decide (lim ≤ cur))) ioStepped step }
  groupFollow s (ioGroupOf i)

/-- Apply an IO channel: while the barrier link is up its command crosses, and the pin takes the command in force (R15,
R200). -/
def ioApply (s : State) (i : Nat) : State :=
  let c := getIo s i
  if !isOutMode c.mode || c.hizUntil.isSome || !pinsLive s then ioPin s i 0 true
  else if !drives s (256 + i) then ioPin (modIo s i fun c => { c with sent := 0 }) i 0 false
  else
    let p := heddleFetch s engBarrier (256 + i)
    let s := ioNoteCommand p.2 i p.1
    let v := ioCommand s i p.1
    let s := if s.io.linkUp then modIo s i fun c => { c with sent := v } else s
    ioPin s i (ioInForce s i) false

/-- Apply every IO channel. -/
def ioApplyAll (s : State) : State := forAll (upTo 32) ioApply s

/-! ### AO channels (R155, R156) -/

/-- The command of an AO after R19 and its clamps. -/
def aoCommand (s : State) (a : Nat) (entry : List Byte) : Int :=
  let h := 332 + a
  if s.therm.lState ≠ 0 then 0
  else if isSafe s h then
    (if (safeSetting s h entry).1 = 0 then 0 else safeCmd s h entry)
  else clampEntry entry (clampInt (Cfg.aoAoMin s a) (Cfg.aoAoMax s a) (ownerCmd s h))

/-- The DAC code of a command (R155). -/
def aoDac (mode : Nat) (v : Int) : Nat :=
  if mode = 1 then (clampInt 0 65535 (roundDiv (v * 65535) (65536 * 10))).toNat
  else if mode = 2 then (clampInt 0 65535 (roundDiv (v * 65535) (65536 * 24))).toNat
  else 0

/-- The AO pins are high impedance until the end of step 5 of start-up (R156, R410). -/
def aoReady (s : State) : Bool :=
  match s.power.phase with
  | .warp | .operational | .released | .held | .saving | .done => true
  | _ => false

/-- Apply an AO channel. -/
def aoApply (s : State) (a : Nat) : State :=
  let m := Cfg.aoAoMode s a
  if m = 0 ∨ ¬ aoReady s ∨ s.therm.lState ≠ 0 then
    modAo s a fun c => { c with applied := 0, dac := 0, hiZ := true }
  else if ¬ released s then
    modAo s a fun c => { c with applied := 0, dac := 0, hiZ := false }
  else if !drives s (332 + a) then
    modAo s a fun c => { c with applied := 0, dac := 0, hiZ := true }
  else
    let p := heddleFetch s engMeas (332 + a)
    let v := aoCommand p.2 a p.1
    modAo p.2 a fun c => { c with applied := v, dac := aoDac m v, hiZ := false }

/-- Apply every AO channel. -/
def aoApplyAll (s : State) : State := forAll (upTo 8) aoApply s

/-- AO_STATUS: OPEN or SHORT while present, 3 while a level above the owner holds the channel (R157). -/
def aoStatus (s : State) (a : Nat) : Nat :=
  let c := getAo s a
  if c.status ≠ 0 then c.status
  else if isSafe s (332 + a) ∨ s.therm.lState ≠ 0 then 3 else 0

end Sys2Proof.Machine
end

