-- ==== Sys2Proof/Machine/ValveOps.lean ====
section
/-! DEFINITION. The operations of the valve block: card words, parameters, the bank budget, the bank switch,
commands against the channel state (07_valve_drive). -/

namespace Sys2Proof.Machine

/-! ### Card words (R168, R171) -/

/-- The card ROM: PEAK_HOLD, SEAT_PH and HOLD_LEARN; other addresses are not given. -/
def romCards : List (Nat × Nat) :=
  [(0x100, 0x35080000), (0x101, 0x0E000003), (0x102, 0x06000004), (0x103, 0x0A000005),
   (0x104, 0x1A000000), (0x105, 0x12000000), (0x106, 0x22000001), (0x107, 0x1C000000),
   (0x108, 0x0A000005), (0x109, 0x04000000), (0x10A, 0x1200001C), (0x10B, 0x28000000),
   (0x10C, 0x0A000006), (0x10D, 0x14000000), (0x10E, 0xFC000000)] ++
  [(0x110, 0x35190000), (0x111, 0x0E000003), (0x112, 0x06000004), (0x113, 0x0A000005),
   (0x114, 0x32000007), (0x115, 0x1A000000), (0x116, 0x12000000), (0x117, 0x27200001),
   (0x118, 0x1C000000), (0x119, 0x0A000005), (0x11A, 0x04000000), (0x11B, 0x1200001C),
   (0x11C, 0x28000000), (0x11D, 0x0A000006), (0x11E, 0x14000000), (0x11F, 0xFC000000),
   (0x120, 0x58000000), (0x121, 0x41180000)] ++
  [(0x130, 0x3200000B), (0x131, 0x2F36000A), (0x132, 0x12000000), (0x133, 0x273B0001),
   (0x134, 0x54000000), (0x135, 0x41390000), (0x136, 0x52000008), (0x137, 0x4F3D0009),
   (0x138, 0x41310000), (0x139, 0x1200001C), (0x13A, 0xFC000000), (0x13B, 0x58000000),
   (0x13C, 0x41390000), (0x13D, 0x58000001), (0x13E, 0x41390000)]

/-- The word at a card address of engine `j`: card memory below 0x100, ROM above. -/
def cardWord (s : State) (j a : Nat) : Nat :=
  if a < 0x100 then (Table.getD (blank 0#32) s.valve.cards (256 * j + a)).toNat
  else Table.getD Config.romWord romCards a

def wOp (w : Nat) : Nat := w / 2 ^ 26 % 64
def wPs (w : Nat) : Bool := w / 2 ^ 25 % 2 = 1
def wTgt (w : Nat) : Nat := w / 2 ^ 16 % 512
def wArg (w : Nat) : Nat := w % 65536

/-- The engine of a channel, which is its bank (R159). -/
def vlvBank (v : Nat) : Nat := v / 4

/-- The word at the channel's card address; `none` while it runs no card or waits. -/
def vlvWord (s : State) (v : Nat) : Option Nat :=
  let c := getVlv s v
  match c.pc, c.wait with
  | some a, .none => some (cardWord s (vlvBank v) a)
  | _, _ => none

/-! ### Parameters (R167) -/

/-- Parameter register n of a channel: P0–P11 of the latched set; P12–P15 the learned hold of each band,
or P2 when it is 0 or HL_ENABLE is 0. -/
def vlvParam (c : VlvRt) (n : Nat) : Nat :=
  if n < 12 then nth 0 c.params n
  else
    let l := nth 0 c.learned (n - 12)
    if l = 0 ∨ nth 0 c.params 12 = 0 then nth 0 c.params 2 else l

/-- P12 banded: the effective hold. -/
def vlvHold (c : VlvRt) : Nat := vlvParam c (12 + c.band)

/-- The operand of an instruction: immediate, or a parameter register, banded with ARG[4] (R168). -/
def vlvOperand (c : VlvRt) (w : Nat) : Nat :=
  if wPs w then
    vlvParam c (wArg w % 16 + if wArg w / 16 % 2 = 1 then c.band else 0)
  else wArg w

/-- A time operand in engine clocks: an immediate has its unit in ARG[15:14], a parameter is in µs. -/
def vlvTime (c : VlvRt) (w : Nat) : Nat :=
  if wPs w then usecs (vlvOperand c w)
  else
    let n := wArg w % 16384
    match wArg w / 16384 with
    | 0 => usecs n
    | 1 => usecs (10 * n)
    | 2 => msecs n
    | _ => msecs (100 * n)

/-- mA of a Q16 current in A. -/
def milliAmp (v : Int) : Nat := (roundDiv (v * 1000) 65536).toNat

/-- The address after the card's WCMD: a card has exactly one. -/
def afterWcmd (s : State) (v : Nat) : Nat :=
  let c := getVlv s v
  match findIdx (fun a => wOp (cardWord s (vlvBank v) a) == 0x0A) c.card 256 with
  | some a => a + 1
  | none => c.card

/-- The hold entry the card's MARKH declares. -/
def markhOf (s : State) (v : Nat) : Nat :=
  let c := getVlv s v
  match findIdx (fun a => wOp (cardWord s (vlvBank v) a) == 0x0D) c.card 256 with
  | some a => wTgt (cardWord s (vlvBank v) a)
  | none => c.card

/-! ### Flags and diagnostics (R189, R190) -/

def fDecayDemoted : Nat := 0
def fPullinDelayed : Nat := 1
def fNoSeat : Nat := 2
def fBoostAbsent : Nat := 3
def fLimited : Nat := 4
def fEnergyExcess : Nat := 5
def fLearnFloor : Nat := 6
def fLearnDone : Nat := 7
def fWaited5200 : Nat := 8
def fRetriggered : Nat := 9

def dOpenOn : Nat := 0
def dShortGndOn : Nat := 1
def dShortSupplyOn : Nat := 2
def dOpenOff : Nat := 3
def dShortGndOff : Nat := 4
def dShortSupplyOff : Nat := 5
def dLatched : Nat := 6
def dBankOc : Nat := 7

/-- Set a flag of FLAGS. -/
def vlvFlag (i : Nat) (c : VlvRt) : VlvRt := { c with flags := Flag.set c.flags i true }

/-- Set a bit of DIAG. -/
def vlvDiag (i : Nat) (c : VlvRt) : VlvRt := { c with diag := Flag.set c.diag i true }

/-! ### Who holds a channel above its owner (R19, R180) -/

/-- The channel is kept off by a level that lets nothing else act: outputs not driven (before release, the
save, the standby role), or a die shutdown (R365, R379). -/
def vlvBlocked (s : State) (v : Nat) : Bool :=
  !drives s (288 + v) || s.therm.dState ≠ 0 || s.therm.lState ≠ 0

/-- SAFE_STATE and SAFE_VALUE in use of a channel, from the heddle entry as its engine has it (R25). -/
def vlvSafe (s : State) (v : Nat) : Nat × Int :=
  safeSetting s (288 + v) (heddleFetch s (engJacquard v) (288 + v)).1

/-- A level of R19 above the owner's command acts on the channel (R177). -/
def vlvHeld (s : State) (v : Nat) : Bool :=
  vlvBlocked s v || isSafe s (288 + v) || domainStep s (vlvBank v) ≠ 0 && !isRelevant s (288 + v)

/-- The command the card sees is on (WCMD, JCMD): the safe state's, else the owner's. -/
def vlvCmdOn (s : State) (v : Nat) : Bool :=
  if vlvBlocked s v then false
  else if isSafe s (288 + v) then
    let p := vlvSafe s v
    if p.1 = 1 then (getSafe s (safeChan (288 + v))).heldOn
    else if p.1 = 2 then decide (0 < p.2) else false
  else (getVlv s v).cmdOn

/-! ### The bank switch, rails and the chopper reference (R160, R162, R183) -/

/-- The channels of a bank. -/
def bankChans (b : Nat) : List Nat := [4 * b, 4 * b + 1, 4 * b + 2, 4 * b + 3]

/-- VDRV_LOW: cards are accepted, but the stages do not conduct (R404). -/
def vdrvLow (s : State) : Bool := Flag.get s.power.flags 2

/-- The switch is kept open by SHORT_GND, the tests that follow DIAG_CLEAR, or a bank trip (R186). -/
def bankCut (k : Bank) : Bool := !k.cutBy.isEmpty || !k.testing.isEmpty || k.tripped

/-- A VBOOST request of a channel is met: VBOOST is fitted in the channel's set and reads 30 V or more on ADC B
(R160, R184). -/
def boostReady (s : State) (c : VlvRt) : Bool :=
  nth 0 c.params 14 == 1 && decide (30 * 65536 ≤ s.meas.vboost)

/-- The chopper reference applied: the card's; while a step is asserted the card's cut to the step of CHAN_LIMIT
(R183). -/
def vlvRefNow (s : State) (v : Nat) : Nat :=
  let c := getVlv s v
  let p := chanPct s (288 + v) (vlvBank v)
  if !c.conducting then 0
  else if p = 100 then c.ref
  else min c.ref (roundDiv ((p * nth 0 c.params 13 * 1000 : Nat) : Int) 6553600).toNat

/-- Whether the channel would conduct: a reference above 0 and a closed switch. -/
def vlvWants (s : State) (v : Nat) : Bool :=
  let c := getVlv s v
  decide (0 < c.ref) && !bankCut (getBank s (vlvBank v)) && !vdrvLow s && !vlvBlocked s v &&
    c.st != .fault

/-- Update conduction, LIMITED and BOOST_ABSENT of one channel. A channel that starts to conduct begins its chopper
periods (R454) and ends a RETURN interval of its own; the end of conduction clears the low side. -/
def vlvConduct (s : State) (v : Nat) : State :=
  let w := vlvWants s v
  let s := modVlv s v fun c =>
    if w && !c.conducting then
      { c with conducting := true, lowSide := true, returning := false
               chopBase := s.clk, chopN := 0, chopNext := s.clk }
    else { c with conducting := w, lowSide := c.lowSide && w }
  let cut := decide (vlvRefNow s v < (getVlv s v).ref) && w
  modVlv s v fun c =>
    let c := { c with flags := Flag.set c.flags fLimited cut }
    if w && c.rail == 1 && !boostReady s c then vlvFlag fBoostAbsent c else c

/-- Another channel of the bank conducts. -/
def othersConduct (s : State) (v : Nat) : Bool :=
  ((bankChans (vlvBank v)).filter fun u => u != v).any fun u => (getVlv s u).conducting

/-- An interval runs as CLAMP in place of RETURN, until the phase ends (R162). -/
def demote (c : VlvRt) : VlvRt :=
  vlvFlag fDecayDemoted { c with returning := false, demoted := true, path := 1, pathClamp := c.clamp }

/-- End a RETURN interval as CLAMP because another channel conducts (R162). -/
def vlvDemote (s : State) (v : Nat) : State :=
  if (getVlv s v).returning && othersConduct s v then modVlv s v demote else s

/-- An interval of decay begins in the mode of the phase: RETURN only when no other channel of the bank conducts
(R161, R162). -/
def vlvDecay (s : State) (v : Nat) : State :=
  let c := getVlv s v
  if c.decayMode = 2 ∧ (c.demoted ∨ othersConduct s v) then modVlv s v demote
  else modVlv s v fun c => { c with
    returning := decide (c.decayMode = 2), path := c.decayMode, pathClamp := c.clamp }

/-- A level above the owner opens the bank switch once no channel of the bank conducts: outputs not released, the standby role,
the save, a die shutdown, or a safe state off (R160, R323, R365, R373, R410, R414). -/
def vlvOpens (s : State) (v : Nat) : Bool :=
  !released s || (isStandby s && !isLocal s (288 + v)) || s.therm.dState ≠ 0 || s.therm.lState ≠ 0 ||
    (isSafe s (288 + v) && (vlvSafe s v).1 == 0)

/-- RAIL_NOW of a bank (R160). -/
def bankRail (s : State) (b : Nat) : Nat :=
  let on := (bankChans b).filter fun v => (getVlv s v).conducting
  if bankCut (getBank s b) || (bankChans b).any (fun v => (getVlv s v).returning) then 2
  else if on.isEmpty then (if (bankChans b).any (vlvOpens s) then 2 else 0)
  else if on.any fun v => (getVlv s v).rail == 1 && boostReady s (getVlv s v) then 1 else 0

/-- Bring a bank up to date after any change to its channels. -/
def bankRefresh (s : State) (b : Nat) : State :=
  let s := forAll (bankChans b) vlvConduct s
  let s := forAll (bankChans b) vlvDemote s
  modBank s b fun k => { k with rail := bankRail s b }

/-! ### The bank budget (R181) -/

/-- Sum of the shares of the other channels of the bank, mA. -/
def sharesBut (s : State) (v : Nat) : Nat :=
  (((bankChans (vlvBank v)).filter fun u => u != v).map fun u => (getVlv s u).share).foldl (· + ·) 0

/-- Whether a share fits PEAK_LIMIT beside the other channels. -/
def fitsBudget (s : State) (v level : Nat) : Bool :=
  decide (((sharesBut s v + level) * 65536 : Int) ≤ Cfg.bankPeakLimit s (vlvBank v) * 1000)

/-- A request stands behind the older ones; those of one engine clock stand by ascending channel. -/
def queueRequest (q : List GrantReq) (r : GrantReq) : List GrantReq :=
  let before := fun (x : GrantReq) => decide (x.at_ < r.at_) || decide (x.v < r.v)
  q.filter before ++ [r] ++ q.filter fun x => !before x

/-- Ask for a share: at once when the queue is empty and it fits, else in the queue. -/
def askBudget (s : State) (v level : Nat) : Bool × State :=
  let b := vlvBank v
  if (getBank s b).queue.isEmpty && fitsBudget s v level then (true, s)
  else (false, modBank s b fun k => { k with queue := queueRequest k.queue ⟨v, level, s.clk⟩ })

/-- Withdraw a channel's request. -/
def dropRequest (s : State) (v : Nat) : State :=
  modBank s (vlvBank v) fun k => { k with queue := k.queue.filter fun r => r.v ≠ v }

/-! ### Sync of the valve group (R184) -/

/-- Take over every committed member of an object. -/
def takeObj (s : State) (o : Nat) : State :=
  match findObj o with
  | none => s
  | some d =>
    forAll (upTo (d.top + 1)) (fun s m =>
      match findMem o m with
      | some x => if x.acc = .rwg then setForce s (memKey o m) (committedVal s (memKey o m)) else s
      | none => s) s

/-- A group unit has reached its sync point (R252). -/
def syncDone (u : SyncUnit) (s : State) : State :=
  { s with dict := { s.dict with waiting := s.dict.waiting.filter fun w => w ≠ u } }

/-- A channel moves to the committed set and latches what its profile uses: P0–P11, HL_ENABLE, CHAN_LIMIT,
VBOOST_FITTED and BANK_CUTOFF. -/
def vlvTakeSet (s : State) (v : Nat) : State :=
  let s := syncDone (.valve v) (takeObj s (0x7100 + v))
  let p := (upTo 12).map fun i => cfgN s (0x7100 + v) (11 + i)
  let p := p ++ [if Cfg.vlvHlEnable s v then 1 else 0, (Cfg.vlvChanLimit s v).toNat, comN s 0x7000 1, comN s 0x7000 5]
  modVlv s v fun c => { c with params := p }

/-- BANK_CUTOFF as the channel has it: the committed one, or that of the profile it runs (R184, R186). -/
def vlvCutOn (s : State) (v : Nat) : Bool :=
  let c := getVlv s v
  if c.pc.isSome || decide (0 < c.ref) then nth 0 c.params 15 == 1 else comI s 0x7000 5 == 1

/-! ### Turn-off by a higher level (R180) -/

/-- A channel that runs no profile and draws no current. -/
def vlvQuiet (c : VlvRt) : VlvRt :=
  { c with pc := none, wait := .none, ref := 0, share := 0, conducting := false, lowSide := false
           learning := false, leaving := false, offKept := false, demoted := false
           startDue := none, propWant := none }

/-- Abandon the card: low side off with CLAMP at 48 V, demoted where RETURN would apply; share 0. -/
def vlvForceOff (s : State) (v : Nat) : State :=
  let s := modVlv (dropRequest s v) v fun c =>
    let on := decide (0 < c.ref)
    let q := { vlvQuiet c with
      st := if c.st = .fault then .fault else .off
      returning := false, path := if on ∨ c.returning then 1 else c.path
      pathClamp := if on ∨ c.returning then 2 else c.pathClamp
      offAt := if on then some s.clk else c.offAt, offSince := s.clk }
    if c.returning || (on && c.decayMode == 2) then vlvFlag fDecayDemoted q else q
  bankRefresh s (vlvBank v)

/-! ### Starts -/

/-- Ask for a card start at the channel's first issue slot at or after `t` (R166). -/
def vlvStartAt (s : State) (v t : Nat) : State :=
  modVlv s v fun c =>
    { c with st := .off, pc := none, wait := .none, startDue := some t, waited5200 := none }

/-- MODE_5200 and MIN_OFF_5200 of the committed set (R178), the latter in engine clocks. -/
def mode5200 (s : State) (v : Nat) : Bool := comI s (0x7100 + v) 3 = 1

def minOff5200 (s : State) (v : Nat) : Nat := comN s (0x7100 + v) 4 * 40000

/-- Rows 1 and 2 of R178: start, or wait for MIN_OFF_5200 after the turn-off. -/
def vlvStartRows (s : State) (v : Nat) : State :=
  let t := match (getVlv s v).offAt with
    | some t => t + minOff5200 s v
    | none => 0
  if mode5200 s v && decide (s.clk < t) then
    modVlv s v fun c =>
      { c with st := .wait5200, pc := none, wait := .none, startDue := some t, waited5200 := some s.clk }
  else vlvStartAt s v s.clk

/-- A profile begins in the committed set, in band `band`: the flags of the last one end but LIMITED, which is live (R184,
R190). A card that sets no rail, decay or frequency has VDRV, FREEWHEEL and P3 (log entry 57). -/
def vlvBegin (s : State) (v band : Nat) : State :=
  let s := vlvTakeSet (heddleFetch s (engJacquard v) (288 + v)).2 v
  modVlv s v fun c => { vlvQuiet c with
    card := Cfg.vlvCard s v, band := band, waited5200 := none
    rail := 0, railNext := 0, decayMode := 0, clamp := 0, returning := false
    chop := nth 0 c.params 3, chopPending := none
    startWarp := warpNow s, startClk := s.clk, pullinDelay := 0, actuations := c.actuations + 1
    flags := Flag.set 0 fLimited (Flag.get c.flags fLimited) }

/-- Resume the card at an address. -/
def vlvResume (s : State) (v a : Nat) : State :=
  modVlv s v fun c => { c with pc := some a, wait := .none, learning := false }

/-- Resume the card after WCMD. -/
def vlvLeave (s : State) (v : Nat) : State :=
  if (getVlv s v).leaving then s
  else modVlv (vlvResume (dropRequest s v) v (afterWcmd s v)) v fun c => { c with leaving := true }

/-- The card goes to its MARKH entry: no GRANT, no peak. -/
def vlvReenter (s : State) (v : Nat) : State :=
  modVlv s v fun c => { c with
    st := .hold, pc := some c.holdEntry, wait := .none, returning := false, leaving := false, holdSince := s.clk }

/-- A learning window is abandoned and saves nothing: the hold goes on at P12 banded, the card at its WCMD (R177, R373). -/
def learnAbandon (s : State) (v : Nat) : State :=
  if (getVlv s v).st = .learn then
    let s := vlvResume s v (afterWcmd s v - 1)
    bankRefresh (modVlv s v fun c => { c with
      st := .hold, ref := vlvHold c, share := vlvHold c, wait := .cmdOff, demoted := false
      wcmdSince := s.clk }) (vlvBank v)
  else s

/-- Take a new end: the later of the running end and the new one; an untimed on makes it untimed (R178). -/
def vlvExtend (s : State) (v : Nat) (pulse : Option Nat) : State :=
  modVlv s v fun c =>
    match pulse with
    | none => { c with cmdOn := true, pulseEnd := none, pulseMs := none }
    | some ms =>
      let e := after s.clk (msecs ms)
      if c.cmdOn then
        match c.pulseEnd with
        | none => c
        | some e0 => { c with pulseEnd := some (max e0 e) }
      else { c with cmdOn := true, pulseEnd := some e, pulseMs := none }

/-- An off command against the state (R178, R177, R186). -/
def vlvOff (s : State) (v : Nat) : State :=
  let c := getVlv s v
  let s := modVlv s v fun c => { c with cmdOn := false, pulseEnd := none, pulseMs := none }
  match c.st with
  | .off => modVlv s v fun c => { c with startDue := none }
  | .waitGrant => vlvLeave s v
  | .pullin =>
    if mode5200 s v ∧ c.wait ≠ .cmdOff then modVlv s v fun c => { c with offKept := true }
    else vlvLeave s v
  | .hold =>
    match c.wait with
    | .cmdOff => vlvLeave s v
    | _ => s
  | .learn => modVlv (vlvLeave s v) v fun c => { c with st := .hold, share := c.ref }
  | .decay => s
  | .wait5200 => modVlv s v fun c => { c with st := .off, startDue := none }
  | .fault => modVlv s v fun c => { c with offSeen := true }

/-- A channel in FAULT restarts on this command: an off command has come since the trip, which is 100 ms past, and
nothing is latched (R186). -/
def faultOver (s : State) (c : VlvRt) : Bool := c.offSeen && !Flag.get c.diag dLatched && passed s c.tripAt (msecs 100)

/-- An on command against the state (R178, R186). `sense` is the coil current in mA. A card that has left its WCMD but not
yet issued OFF starts anew in WAIT_GRANT, else goes back to its hold entry (log entry 58). -/
def vlvOn (s : State) (v : Nat) (pulse : Option Nat) (sense : Nat) : State :=
  let c := getVlv s v
  let fresh := fun s => modVlv s v fun c =>
    { c with cmdOn := true, pulseEnd := none, pulseMs := pulse }
  let more := fun s => modVlv (vlvExtend s v pulse) v fun c => { c with offKept := false }
  match c.st with
  | .off => vlvStartRows (fresh s) v
  | .waitGrant => if c.leaving then vlvStartAt (fresh s) v s.clk else more s
  | .pullin | .hold | .learn => if c.leaving then vlvReenter (more s) v else more s
  | .decay =>
    if mode5200 s v then vlvStartRows (fresh s) v
    else if vlvHold c < sense then
      modVlv (vlvReenter (more s) v) v (vlvFlag fRetriggered)
    else vlvStartAt (fresh s) v s.clk
  | .wait5200 => fresh s
  | .fault => if faultOver s c then vlvStartAt (fresh s) v s.clk else fresh s

/-- Keep the owner's latest command without acting on it: a level above the owner holds the channel. -/
def vlvNote (s : State) (v : Nat) (cmd : Nat) : State :=
  modVlv s v fun c =>
    if cmd = 0 then { c with cmdOn := false, pulseEnd := none, pulseMs := none }
    else { c with cmdOn := true, pulseEnd := none
                  pulseMs := if cmd = 0xFFFFFFFF then none else some cmd }

/-- A SWITCHED command acts (R164): 0 off, 0xFFFF_FFFF on without end, else a pulse in ms. -/
def vlvAct (s : State) (v cmd sense : Nat) : State :=
  if (getVlv s v).mode ≠ 1 then s
  else if vlvBlocked s v || isSafe s (288 + v) then vlvNote s v cmd
  else
    let s := if cmd = 0 then vlvOff s v
      else vlvOn s v (if cmd = 0xFFFFFFFF then none else some cmd) sense
    bankRefresh s (vlvBank v)

/-- A SWITCHED command whose sense sample no one gives: the current is a free value (R178). -/
def vlvActFree (s : State) (v cmd : Nat) : State :=
  let p := takeFree s
  vlvAct p.2 v cmd p.1

/-! ### PROPORTIONAL channels (R163) -/

/-- The reference a Q16 command asks for: clamped to 0 and the smaller of CHAN_LIMIT and 1.5 A, in mA. The reference update
takes the committed CHAN_LIMIT (R184). -/
def propRef (s : State) (v : Nat) (q : Int) : Nat :=
  milliAmp (clampInt 0 (min (comI s (0x7100 + v) 5) 98304) q)

/-- The reference that the owner's command asks for, within the limits of the heddle entry. -/
def propAsked (s : State) (v : Nat) (q : Int) : Nat :=
  propRef s v (clampEntry (heddleFetch s (engJacquard v) (288 + v)).1 q)

/-- Apply a reference to a PROPORTIONAL channel: the update moves the channel to the committed set; its chopping and decay
come from P3 and P5, its rail is VDRV. A new frequency takes effect at the next period of a running chopper. At 0 the
coil decays and the channel is OFF (R161, R163, R184, R454). -/
def propApply (s : State) (v ref : Nat) : State :=
  let s := vlvTakeSet s v
  let s := if 0 < ref then modBank s (vlvBank v) fun k => { k with tripped := false } else s
  let off := decide (ref = 0 ∧ 0 < (getVlv s v).ref)
  let s := modVlv s v fun c =>
    let f := nth 0 c.params 3
    { c with ref := ref, share := ref, rail := 0, railNext := 0, propWant := none, demoted := false
             chop := if c.conducting then c.chop else f
             chopPending := if c.conducting ∧ c.chop ≠ f then some f else none
             decayMode := nth 0 c.params 5 % 4, clamp := nth 0 c.params 5 / 4 % 4
             st := if ref = 0 then .off else .hold
             lowSide := c.lowSide && decide (0 < ref)
             offAt := if off then some s.clk else c.offAt
             offSince := if off then s.clk else c.offSince }
  bankRefresh (if off then vlvDecay s v else s) (vlvBank v)

/-- Set the reference of a PROPORTIONAL channel: a decrease acts at once, an increase waits for the budget (R163, R181). A
newer increase takes the place of one that waits (log entry 59). In FAULT the reference 0 is the off command, and any
other the on command (R186). -/
def propSet (s : State) (v ref : Nat) : State :=
  let c := getVlv s v
  if c.st = .fault ∧ ref = 0 then modVlv s v fun c => { c with offSeen := true }
  else if c.st = .fault ∧ ¬ faultOver s c then s
  else if ref ≤ c.share then propApply (dropRequest s v) v ref
  else if c.propWant.isSome then
    modBank (modVlv s v fun c => { c with propWant := some ref }) (vlvBank v) fun k =>
      { k with queue := k.queue.map fun r => if r.v = v then { r with level := ref } else r }
  else
    let p := askBudget s v ref
    if p.1 then propApply p.2 v ref
    else modVlv p.2 v fun c => { c with st := .waitGrant, propWant := some ref }

/-- A PROPORTIONAL command of the owner; below a level that holds the channel it does not act (R19). -/
def propCommand (s : State) (v : Nat) (q : Int) : State :=
  if (getVlv s v).mode ≠ 2 || vlvBlocked s v || isSafe s (288 + v) then s
  else propSet (heddleFetch s (engJacquard v) (288 + v)).2 v (propAsked s v q)

/-! ### The owner's command and the levels above it -/

/-- The owner's latest command for a SWITCHED channel as a CMD word: a loop output above 0, a circuit that
Loom has on, or the CMD member. -/
def vlvOwnerWord (s : State) (v : Nat) : Nat :=
  match ownerOf s (288 + v) with
  | .dict => cfgN s (0x7200 + v) 1
  | _ => if 0 < ownerCmd s (288 + v) then 0xFFFFFFFF else 0

/-- CHAN_MODE takes effect once the channel is OFF; the stored command of the new mode then applies
(R163, R184). -/
def vlvSyncMode (s : State) (v : Nat) : State :=
  let c := getVlv s v
  let m := Cfg.vlvChanMode s v
  if c.mode = m ∨ ¬ (c.st = .off ∧ c.ref = 0 ∧ c.startDue = none) then s
  else
    let s := modVlv s v fun c => { c with mode := m, cmdOn := false, pulseEnd := none, pulseMs := none }
    if m = 1 then
      let w := vlvOwnerWord s v
      if w = 0 then s else vlvActFree s v w
    else if m = 2 then propCommand s v (ownerCmd s (288 + v))
    else s

/-- A channel that an off command leaves OFF runs no profile on an earlier set: it takes the committed one, with a change of
CHAN_MODE (R184). -/
def vlvSettle (s : State) (v : Nat) : State :=
  let c := getVlv s v
  if c.st = .off ∧ c.ref = 0 ∧ c.startDue = none then vlvSyncMode (vlvTakeSet s v) v else s

/-- A SWITCHED command is accepted (R164, R178). -/
def vlvCommand (s : State) (v cmd sense : Nat) : State := vlvSettle (vlvAct s v cmd sense) v

/-- A SWITCHED command with a free sense current. -/
def vlvCommandFree (s : State) (v cmd : Nat) : State := vlvSettle (vlvActFree s v cmd) v

/-- Turn a channel off from a level above the owner: OFF, it takes the committed set, with a change of CHAN_MODE
(R180, R184). -/
def vlvForceRest (s : State) (v : Nat) : State := vlvSyncMode (vlvTakeSet (vlvForceOff s v) v) v

/-- A PROPORTIONAL command; with its reference at 0 the channel is OFF, and a change of CHAN_MODE takes effect
(R184). -/
def propDrive (s : State) (v : Nat) (q : Int) : State := vlvSyncMode (propCommand s v q) v

/-- SAFE_STATE hold (R373): a PROPORTIONAL channel keeps the reference in force; a SWITCHED one that was on at the detection
goes on, with a learning window abandoned; any other stays off. -/
def vlvSafeHold (s : State) (v : Nat) : State :=
  let c := getVlv s v
  if c.mode = 2 then
    if c.propWant.isSome then
      modVlv (dropRequest s v) v fun c => { c with propWant := none, st := if c.ref = 0 then .off else .hold }
    else s
  else if (getSafe s (safeChan (288 + v))).heldOn then learnAbandon s v
  else
    match c.st with
    | .wait5200 | .off => modVlv s v fun c => { c with st := .off, startDue := none }
    | _ => s

/-- SAFE_STATE on with a SAFE_VALUE above 0 is an on command without end (R373); the owner's own command stays stored. -/
def vlvSafeOn (s : State) (v : Nat) : State :=
  let s := learnAbandon s v
  let c := getVlv s v
  if c.st = .off ∧ c.startDue.isSome then s
  else
    let p := takeFree s
    let s := vlvOn p.2 v none p.1
    bankRefresh (modVlv s v fun r => { r with
      cmdOn := c.cmdOn, pulseEnd := c.pulseEnd, pulseMs := c.pulseMs }) (vlvBank v)

/-- The channel takes its safe state (R373). -/
def vlvTakeSafe (s : State) (v : Nat) : State :=
  let p := vlvSafe s v
  let m := (getVlv s v).mode
  if p.1 = 1 then vlvSafeHold s v
  else if p.1 = 2 ∧ 0 < p.2 then
    (if m = 2 then propSet s v (propRef s v p.2) else if m = 1 then vlvSafeOn s v else s)
  else vlvForceRest s v

/-- The channel takes the owner's latest command (R180). A command it already follows changes nothing. -/
def vlvTakeOwner (s : State) (v : Nat) : State :=
  let c := getVlv s v
  if c.mode = 2 then
    let q := ownerCmd s (288 + v)
    if c.propWant = none ∧ propAsked s v q = c.ref then s else propDrive s v q
  else if c.mode = 1 then
    if c.cmdOn then
      (if c.st = .off ∧ c.startDue = none then bankRefresh (vlvStartRows s v) (vlvBank v) else s)
    else if c.st = .decay ∨ c.st = .fault ∨ c.offKept then s
    else vlvSettle (bankRefresh (vlvOff s v) (vlvBank v)) v
  else s

/-- The channel takes what R19 now gives it: off while blocked, the safe state, or the owner's latest
command (R180, R373). -/
def vlvTakeUp (s : State) (v : Nat) : State :=
  let s := vlvSyncMode s v
  if vlvBlocked s v then vlvForceRest s v
  else
    let s := (heddleFetch s (engJacquard v) (288 + v)).2
    if isSafe s (288 + v) then vlvTakeSafe s v else vlvTakeOwner s v

/-- Every channel takes what R19 gives it. -/
def vlvTakeUpAll (s : State) : State := forAll (upTo 16) vlvTakeUp s

/-- What SAFE_STATE hold keeps: the channel is held on when the detection finds it in WAIT_GRANT, PULLIN,
HOLD or LEARN (R373). -/
def vlvHeldOnAt (s : State) (v : Nat) : Bool :=
  match (getVlv s v).st with
  | .waitGrant | .pullin | .hold | .learn => true
  | _ => false

/-- STATE of a channel (R163, R178). -/
def vlvStateCode (c : VlvRt) : Nat :=
  match c.st with
  | .off => 0
  | .waitGrant => 1
  | .pullin => 2
  | .hold => 3
  | .decay => 4
  | .wait5200 => 5
  | .learn => 6
  | .fault => 7

/-- BUDGET_USED of a bank in Q16 A: the sum of its shares. -/
def budgetUsed (s : State) (b : Nat) : Int :=
  roundDiv ((((bankChans b).map fun v => (getVlv s v).share).foldl (· + ·) 0 : Nat) * 65536) 1000

/-- CARD_WORDS of an engine: the words that its images hold. -/
def cardWords (s : State) (j : Nat) : Nat :=
  ((s.valve.loads.filter fun l => l.engine == j).map fun l => l.count).foldl (· + ·) 0

/-- Put a channel in FAULT after a trip: low side off with CLAMP at 48 V; the third trip within 10 s
latches (R186). -/
def vlvTrip (s : State) (v diag : Nat) : State :=
  let s := vlvForceOff s v
  modVlv s v fun c =>
    let tr := recent s (secs 10) c.trips ++ [s.clk]
    let c := vlvDiag diag { c with st := .fault, tripAt := s.clk, trips := tr, offSeen := false }
    if tr.length ≥ 3 then vlvDiag dLatched c else c

/-- A SHORT_GND opens the bank switch when BANK_CUTOFF is 1 (R186). -/
def vlvCutoff (s : State) (v : Nat) : State :=
  if vlvCutOn s v then
    let s := modBank s (vlvBank v) fun k =>
      if k.cutBy.contains v then k else { k with cutBy := k.cutBy ++ [v] }
    bankRefresh s (vlvBank v)
  else s

end Sys2Proof.Machine
end

