-- ==== Sys2Proof/Machine/FanOps.lean ====
section
/-! DEFINITION. The operations of the fan drive: from command to speed, the start sequence, EC duty
(09_fan_drive). Fans 0–3 are the bridges FAN0–FAN3, fans 4–11 the EC fans ECF0–ECF7. -/

namespace Sys2Proof.Machine

/-- Bits of FAN_FLAGS (R223). -/
def fanBlocked : Nat := 0
def fanFailed : Nat := 1
def fanTachWire : Nat := 2
def fanOcLatched : Nat := 3
def fanLimited : Nat := 4
def fanBoostedBit : Nat := 5
def fanTableActive : Nat := 6
def fanCrossing : Nat := 7
def fanLockLost : Nat := 8
def fanTempSrcFault : Nat := 9

/-- Set or clear a bit of FAN_FLAGS. -/
def fanFlag (i : Nat) (b : Bool) (c : FanRt) : FanRt := { c with flags := Flag.set c.flags i b }

/-- A direct fan runs in ENGINE mode (R209). -/
def isEngineFan (s : State) (f : Nat) : Bool := f < 4 && Cfg.dfanFanCtrl s f == 1

/-- The heddle entry that owns a fan's command: its bridge, or the PWM_IO channel of an EC fan. -/
def fanEntry (s : State) (f : Nat) : Nat := if f < 4 then 304 + f else Cfg.ecPwmIo s (f - 4)

/-- The owner's latest command as a speed, within the limits of its heddle entry (R353); an EC fan without PWM_IO has no
owner. In ENGINE mode the Q_LOOP output counts as a speed when it is above 0 (R212, R215). -/
def fanOwnerSpeed (s : State) (f : Nat) (entry : List Byte) : Int :=
  if fanEntry s f = 0xFFFF then 0 else clampEntry entry (ownerCmd s (fanEntry s f))

/-- The step a fan's domain is at (R358). -/
def fanPct (s : State) (k : Nat) : Nat := chanPct s (304 + k) (4 + k / 2)

/-- What a list of readings holds of the last second. -/
def lastSecond (s : State) (l : List (Nat × Int)) : List (Nat × Int) := l.filter fun p => decide (s.clk < after p.1 (secs 1))

/-- The mean of the squared currents of the last second exceeds 1.5 A rms (R211): Q32 A² against 2.25. -/
def rmsOver (s : State) (l : List (Nat × Int)) : Bool :=
  let l := lastSecond s l
  !l.isEmpty && decide (((l.map fun p => p.2).foldl (· + ·) 0 : Int) > 9663676416 * (l.length : Int))

/-- APPLIED_LIMIT (R211). -/
def fanLimit (s : State) (k : Nat) : Int :=
  let c := getFan s k
  let l := Cfg.dfanCurrentLimit s k
  let l := min l (roundDiv ((fanPct s k : Int) * Cfg.dfanCurrentLimit s k) 100)
  if rmsOver s c.rmsU || rmsOver s c.rmsV || rmsOver s c.rmsW then min l 138936 else l

/-- A phase current is at the limit: the bridge terminates pulses there (R211). The third phase carries what the two
converted ones leave. -/
def atLimit (s : State) (k : Nat) : Bool :=
  let c := getFan s k
  let l := fanLimit s k
  c.bridgeOn && (decide (l ≤ (c.iU.natAbs : Int)) || decide (l ≤ (c.iV.natAbs : Int)) ||
    decide (l ≤ ((c.iU + c.iV).natAbs : Int)))

/-- LIMITED follows (R211): pulses are terminated, or I_START is held below the demand. -/
def limitFollow (s : State) (k : Nat) : State :=
  modFan s k fun c => fanFlag fanLimited (atLimit s k || c.capped) c

/-- The fan is blocked or failed (R218). -/
def fanDown (s : State) (f : Nat) : Bool :=
  Flag.get (getFan s f).flags fanBlocked || Flag.get (getFan s f).flags fanFailed

/-- The fan is boosted by a sibling of its group (R218). -/
def isBoosted (s : State) (f : Nat) : Bool :=
  let g := Cfg.fanBoostGroup s f
  g != 255 && !fanDown s f &&
    (upTo 12).any fun j => j != f && Cfg.fanBoostGroup s j == g && fanDown s j

/-- The unit of `fine` over Q16 %. -/
def fineUnit : Int := 400000000

/-- A tenth of a percent in the unit of `fine`. -/
def finePt (n : Nat) : Int := (n : Int) * 65536 * 40000000

/-- The bands of a fan in the unit of `fine`: LO and HI (R219, R222). -/
def fanBands (s : State) (f : Nat) : List (Int × Int) :=
  (upTo (Cfg.fanBandCount s f)).map fun i =>
    let w := Cfg.fanBand s f i
    (finePt (w % 65536), finePt (w / 65536))

/-- A speed mapped past the bands: inside one, to LO when nearer LO, else to HI (R219). -/
def bandMap (bands : List (Int × Int)) (v : Int) : Int :=
  match bands.find? fun b => decide (b.1 < v) && decide (v < b.2) with
  | some b => if v - b.1 < b.2 - v then b.1 else b.2
  | none => v

/-- The next stretch of a slew from `p` toward `t`: where it ends, and whether it crosses a band. -/
def slewStretch (bands : List (Int × Int)) (p t : Int) : Int × Bool :=
  if p < t then
    match bands.find? fun b => decide (b.1 ≤ p) && decide (p < b.2) && decide (b.2 ≤ t) with
    | some b => (b.2, true)
    | none =>
      ((bands.filter fun b => decide (p < b.1) && decide (b.2 ≤ t)).foldl (fun m b => min m b.1) t, false)
  else
    match bands.find? fun b => decide (b.1 < p) && decide (p ≤ b.2) && decide (t ≤ b.1) with
    | some b => (b.1, true)
    | none =>
      ((bands.filter fun b => decide (b.2 < p) && decide (t ≤ b.1)).foldl (fun m b => max m b.2) t, false)

/-- Slew from `p` toward `t` for `dt` engine clocks, stretch by stretch: the new speed and CROSSING. -/
def slewGo (bands : List (Int × Int)) (up down top : Int) : Nat → Int → Int → Nat → Int × Bool
  | 0, p, _, _ => (p, false)
  | fuel + 1, p, t, dt =>
    if p = t then (p, false)
    else
      let st := slewStretch bands p t
      let rate := if st.2 then top else if p < t then up else down
      let room := if p < t then st.1 - p else p - st.1
      if rate * dt < room then (if p < t then p + rate * dt else p - rate * dt, st.2)
      else slewGo bands up down top fuel st.1 t (dt - ((room + rate - 1) / rate).toNat)

/-- A direct fan is held at a command of its current loops: SAFE_STATE hold, detected under their control (R373). -/
def fanLoopsHeld (s : State) (k : Nat) : Bool :=
  decide ((safeSetting s (304 + k) []).1 = 1) && (getSafe s (safeChan (304 + k))).heldOn

/-- The fan runs under built-in speed control: BUILTIN, or an ENGINE fan in table mode, boosted, or in a safe state that
gives it a speed. -/
def fanBuiltin (s : State) (f : Nat) : Bool :=
  !isEngineFan s f || (if isSafe s (304 + f) then !fanLoopsHeld s f else (getFan s f).table || isBoosted s f)

/-- The speed a fan is asked for before the slew (R217 steps 1–4), in the unit of `fine`; the bands bear on built-in
control only. -/
def fanAsked (s : State) (f : Nat) (entry : List Byte) : Int :=
  let c := getFan s f
  let v := fanOwnerSpeed s f entry
  let v := if c.table then c.tableSpeed else v
  let v := if isBoosted s f then pct100 else v
  let v := clampInt 0 pct100 v * fineUnit
  if fanBuiltin s f then bandMap (fanBands s f) v else v

/-- The levels of R19 on a fan's speed: safe state and die shutdown (R373, R379). -/
def fanWanted (s : State) (f : Nat) (entry : List Byte) : Int :=
  let h := fanEntry s f
  if f < 4 ∧ (!drives s h || s.therm.dState ≠ 0 || s.therm.lState ≠ 0) then 0
  else if f < 4 ∧ isSafe s h then clampInt 0 pct100 (safeCmd s h entry) * fineUnit
  else fanAsked s f entry

/-! ### The shadow register (R210) -/

/-- New compare values reach the shadow. The angle is what the observer predicts for the middle of the period in which
they take effect: a free value (log entry 8). -/
def shadowSet (s : State) (k : Nat) (d q : Int) : State :=
  let p := takeFree s
  modFan p.2 k fun c =>
    { c with shadow := ⟨d, q, p.1⟩, shadowOld := if c.shadowAt = s.clk then c.shadowOld else c.shadow, shadowAt := s.clk }

/-- The fan drive regulates the phase currents itself (R209): the voltages it comes to are free values (log entry 8). -/
def shadowRegulate (s : State) (k : Nat) : State :=
  let d := takeFree s
  let q := takeFree d.2
  shadowSet q.2 k (signed 32 d.1) (signed 32 q.1)

/-! ### Direct fans: the start sequence (R212–R214) -/

/-- I_START of an attempt, capped at APPLIED_LIMIT, and whether the cap acts. -/
def startCurrent (s : State) (k retry : Nat) : Int × Bool :=
  let want := roundDiv (Cfg.dfanStartCurrent s k * nth 100 [100, 125, 150, 175] retry) 100
  (min want (fanLimit s k), decide (fanLimit s k < want))

/-- The bridge is off: nothing is limited. -/
def fanOff (c : FanRt) : FanRt :=
  fanFlag fanLimited false { c with bridgeOn := false, zeroVec := false, capped := false, openLoop := 0 }

/-- Begin an attempt with LISTEN. -/
def fanListen (s : State) (k : Nat) : State :=
  modFan s k fun c =>
    fanOff { c with st := 1, stepClk := s.clk, attempts := c.attempts + 1, retry := 0, locked := false, restartAt := none }

/-- Enter ALIGN. -/
def fanAlign (s : State) (k : Nat) : State :=
  let p := startCurrent s k (getFan s k).retry
  limitFollow (modFan s k fun c =>
    { c with st := 2, stepClk := s.clk, iStart := p.1, capped := p.2, locked := false, zeroVec := false
             openLoop := 0, bridgeOn := !vdrvLow s }) k

/-- Hand over to RUN at a speed. -/
def fanRun (s : State) (k : Nat) (fine : Int) : State :=
  limitFollow (modFan s k fun c =>
    fanFlag fanBlocked false (fanFlag fanLockLost false
      { c with st := 4, fine := fine, bridgeOn := !vdrvLow s, zeroVec := false, retry := 0, capped := false
               openLoop := 0 })) k

/-- Bridge off, STOPPED. -/
def fanStop (s : State) (k : Nat) : State :=
  modFan s k fun c =>
    fanFlag fanCrossing false (fanOff { c with st := 0, fine := 0, locked := false, retry := 0 })

/-- Ten percent in the unit of `fine`. -/
def fine10 : Int := finePt 100

/-- A fan slews from its present speed toward `w` over `dt` engine clocks: the new speed and CROSSING (R217, R219). -/
def fanSlew (s : State) (f : Nat) (w : Int) (dt : Nat) : Int × Bool :=
  slewGo (fanBands s f) (Cfg.fanSlewUp s f) (Cfg.fanSlewDown s f) (Cfg.fanSlewMax s f) 20 (getFan s f).fine w dt

/-- The speed of the open-loop field, rising linearly from 0 to 10 % over OL_RAMP_TIME (R212). -/
def rampField (s : State) (k : Nat) : Int :=
  min fine10 (fine10 * ((s.clk - (getFan s k).stepClk : Nat) : Int) / (msecs (Cfg.dfanOlRampTime s k) : Nat))

/-- One evaluation of a direct fan at the speed R19 leaves it, `entry` being its heddle entry. -/
def directStep (s : State) (k dt : Nat) (entry : List Byte) : State :=
  let c := getFan s k
  let w := fanWanted s k entry
  if c.st = 7 then s
  else if w = 0 then
    if c.st = 4 ∧ ¬ (isSafe s (304 + k) ∨ ¬ drives s (304 + k) ∨ s.therm.dState ≠ 0 ∨ s.therm.lState ≠ 0) then
      -- decelerate to 10 %, past the bands, then bridge off (R214, R219)
      let p := fanSlew s k 0 dt
      if p.1 ≤ fine10 then fanStop s k
      else shadowRegulate (modFan s k fun c => fanFlag fanCrossing p.2 { c with fine := p.1 }) k
    else if c.st = 0 then s
    else fanStop s k
  else if c.st = 0 then (if c.restartAt.isSome then s else fanListen s k)
  else if c.st = 3 ∧ c.locked ∧ after c.stepClk (msecs (Cfg.dfanOlRampTime s k)) ≤ s.clk then
    fanRun s k fine10
  else if c.st = 3 then shadowRegulate (modFan s k fun c => { c with openLoop := rampField s k }) k
  else if c.st = 4 then
    if fanBuiltin s k then
      let p := fanSlew s k w dt
      shadowRegulate (modFan s k fun c => fanFlag fanCrossing p.2 { c with fine := p.1 }) k
    else modFan s k fun c => { c with fine := c.speed * fineUnit }
  else if c.st = 2 then shadowRegulate s k
  else s

/-! ### EC fans (R215, R216) -/

/-- f_exp in Hz times 2^16 × 6000: speed Q16 % × MAX_RPM × PULSES_PER_REV. -/
def ecExpNum (s : State) (e : Nat) : Int :=
  roundDiv (getFan s (4 + e)).fine fineUnit * Cfg.ecMaxRpm s e * Cfg.ecPulsesPerRev s e

/-- TACH_FREQ of an EC fan in the same unit. -/
def ecTachNum (s : State) (e : Nat) : Int := (getIo s (Cfg.ecTachIo s e - 256)).tachFreq * 6000

/-- The measured speed of an EC fan in Q16 %. -/
def ecSpeed (s : State) (e : Nat) : Int :=
  roundDiv (ecTachNum s e) ((Cfg.ecMaxRpm s e : Int) * Cfg.ecPulsesPerRev s e)

/-- Engine clocks of `n` expected tach periods: n / f_exp. -/
def ecPeriods (s : State) (e n : Nat) : Nat :=
  if ecExpNum s e ≤ 0 then 0 else ((n : Int) * clkPerSec * 65536 * 6000 / ecExpNum s e).toNat

/-- The trim after `dt` engine clocks at 1 %/s toward the expected frequency, held while the tach is lost. -/
def ecTrim (s : State) (e dt : Nat) : Int :=
  let c := getFan s (4 + e)
  let r := Cfg.ecTrimRange s e * fineUnit
  if !Cfg.ecTrimEn s e then 0
  else if Flag.get c.flags fanTachWire || Flag.get c.flags fanFailed then c.trim
  else if ecTachNum s e < ecExpNum s e then clampInt (-r) r (c.trim + 65536 * dt)
  else if ecExpNum s e < ecTachNum s e then clampInt (-r) r (c.trim - 65536 * dt)
  else clampInt (-r) r c.trim

/-- One evaluation of an EC fan: slew, trim, duty. -/
def ecStep (s : State) (e dt : Nat) (entry : List Byte) : State :=
  let f := 4 + e
  let p := fanSlew s f (fanWanted s f entry) dt
  let s := modFan s f fun c =>
    fanFlag fanCrossing p.2
      { c with fine := p.1, st := if 0 < p.1 then 4 else 0, speed := ecSpeed s e
               roseAt := if 0 < p.1 ∧ c.fine ≤ 0 then s.clk else c.roseAt }
  let t := ecTrim s e dt
  let d := if 0 < p.1 then
      Cfg.ecDutyMin s e +
        roundDiv (roundDiv p.1 fineUnit * (Cfg.ecDutyMax s e - Cfg.ecDutyMin s e)) pct100 +
        roundDiv t fineUnit
    else 0
  let s := modFan s f fun c => { c with trim := t, duty := d }
  let i := Cfg.ecPwmIo s e - 256
  if 256 ≤ Cfg.ecPwmIo s e ∧ Cfg.ecPwmIo s e < 288 then ioApply s i else s

/-! ### One evaluation (R217) -/

/-- BOOSTED follows the siblings. -/
def refreshBoost (s : State) : State :=
  forAll (upTo 12) (fun s f => modFan s f (fanFlag fanBoostedBit (isBoosted s f))) s

/-- The heddle entry of a fan, fetched by the engine that applies its commands (R25): the fan drive's, or for an EC fan
the barrier engine's. -/
def fanFetch (s : State) (f : Nat) : List Byte × State :=
  let h := fanEntry s f
  if h = 0xFFFF then ([], s) else heddleFetch s (engOf h) h

/-- Evaluate a fan: on every 1 ms and at each owner command. -/
def fanUpdate (s : State) (f : Nat) : State :=
  let dt := s.clk - (getFan s f).lastEval
  let p := fanFetch s f
  let s := modFan p.2 f fun c => { c with lastEval := s.clk }
  let s := if f < 4 then limitFollow (directStep s f dt p.1) f else ecStep s (f - 4) dt p.1
  refreshBoost s

/-- Evaluate every fan. -/
def fanUpdateAll (s : State) : State := forAll (upTo 12) fanUpdate s

/-- The members that wait until a fan is STOPPED (R221). -/
def fanLateMems : List Nat := [1, 2, 3, 4, 5, 7, 8, 9]

/-- A fan takes the committed set: all of it when STOPPED, else the members of the 1 ms evaluation. -/
def fanTakeSet (s : State) (f : Nat) : State :=
  let s := takeObj s (0x8010 + f)
  if f < 4 then
    let late := if (getFan s f).st = 0 then fanLateMems else []
    let s := forAll (late ++ [6, 10, 11, 12]) (fun s m =>
      let k := memKey (0x8030 + f) m
      setForce s k (committedVal s k)) s
    if (getFan s f).st = 0 then syncDone (.fan f) s else s
  else syncDone (.fan f) (takeObj s (0x8040 + (f - 4)))

/-! ### Table mode (R220) -/

/-- TEMP in 0.1 °C and SPEED in 0.1 % of a table point. -/
def tablePt (s : State) (f i : Nat) : Int × Int :=
  let w := Cfg.fanTablePt s f i
  (signed 16 (w / 65536), (w % 65536 : Nat))

/-- Interpolate a Q16 °C value between the points: Q16 %. -/
def tableGo (v : Int) : List (Int × Int) → Int
  | [] => 0
  | [p] => roundDiv (p.2 * 65536) 10
  | p :: q :: t =>
    if v * 10 ≤ p.1 * 65536 then roundDiv (p.2 * 65536) 10
    else if v * 10 < q.1 * 65536 then
      roundDiv (p.2 * 65536 * (q.1 - p.1) + (q.2 - p.2) * (v * 10 - p.1 * 65536)) (10 * (q.1 - p.1))
    else tableGo v (q :: t)

/-- A result is valid (R149). -/
def recValid (r : ResRec) : Bool :=
  r.present && r.flags % 4 == 0 && r.flags / 4 % 2 == 0 && r.flags / 8 % 2 == 0 && r.flags / 32 % 2 == 0

/-- Read TEMP_SRC and set the table speed. -/
def fanReadTable (s : State) (f : Nat) : State :=
  let r := getRec s (Cfg.fanTempSrc s f - 308)
  let ok := 308 ≤ Cfg.fanTempSrc s f ∧ Cfg.fanTempSrc s f ≤ 331 ∧ recValid r
  let v := if ok then tableGo r.value ((upTo 8).map (tablePt s f))
    else roundDiv ((tablePt s f 7).2 * 65536) 10
  modFan s f fun c => fanFlag fanTempSrcFault (!decide ok) { c with tableSpeed := v, tableAt := s.clk }

/-- The host-timeout condition is declared: fans with TABLE_EN enter table mode (R220). -/
def fansEnterTable (s : State) : State :=
  forAll (upTo 12) (fun s f =>
    if Cfg.fanTableEn s f then
      let s := fanReadTable (modFan s f fun c => fanFlag fanTableActive true { c with table := true }) f
      fanUpdate s f
    else s) s

/-- A fan leaves table mode. -/
def fanLeaveTable (s : State) (f : Nat) : State :=
  modFan s f fun c => fanFlag fanTempSrcFault false (fanFlag fanTableActive false { c with table := false })

/-- The condition ends: ENGINE fans leave table mode; the others at the next write of their command. -/
def fansEndSilence (s : State) : State :=
  forAll (upTo 4) (fun s k => if isEngineFan s k && (getFan s k).table then fanUpdate (fanLeaveTable s k) k else s) s

/-- The fan drive holds a loop in the sense of R122: the start sequence, table mode or boost runs the fan in place of its
D_LOOP and Q_LOOP (R212, R217). A fan that is STOPPED or OFF_LATCHED replaces nothing. -/
def fanHolds (s : State) (n : Nat) : Bool :=
  (upTo 4).any fun k =>
    let c := getFan s k
    isEngineFan s k && (Cfg.dfanDLoop s k == n || Cfg.dfanQLoop s k == n) &&
      ((decide (1 ≤ c.st) && decide (c.st ≤ 6) && c.st != 4) || c.table || isBoosted s k)

/-- The direct fans in ENGINE mode that name a loop as D_LOOP or Q_LOOP, ascending. -/
def axisFans (s : State) (n : Nat) : List Nat :=
  (upTo 4).filter fun k => isEngineFan s k && (Cfg.dfanDLoop s k == n || Cfg.dfanQLoop s k == n)

end Sys2Proof.Machine
end

