-- ==== Sys2Proof/Machine/DictOps.lean ====
section
/-! DEFINITION. Pending sets, generations and the copies of the configuration (11_object_dictionary). -/

namespace Sys2Proof.Machine

/-! ### Pending sets (R249, R253) -/

/-- Discard a session's pending set without counting it (ABORT, R253). -/
def clearPending (s : State) (x : Sess) : State := modSess s x fun r => { r with pending := [] }

/-- Discard a session's pending set and count it in PENDING_DROPPED, when it holds anything (R253). -/
def dropPending (s : State) (x : Sess) : State :=
  if (getSess s x).pending.isEmpty then s
  else
    let s := clearPending s x
    { s with dict := { s.dict with dropped := s.dict.dropped + 1 } }

/-- The CAN sessions of controller `x` that have spoken: their source nodes. -/
def canNodes (s : State) (x : Nat) : List Nat :=
  (s.dict.sessions.filter fun p =>
    decide (1 + x * 256 ≤ p.1) && decide (p.1 < 1 + x * 256 + 256)).map fun p => p.1 - (1 + x * 256)

/-- The pending sets of a controller's sessions are discarded (R253, R308). -/
def dropCanPending (s : State) (x : Nat) : State :=
  forAll (canNodes s x) (fun s n => dropPending s (.can x n)) s

/-! ### The configuration (R262) -/

/-- OVERRIDE of a circuit: object 0x3200 + c, member 12. -/
def isOverrideKey (key : Nat) : Bool := decide (0x3200 ≤ key / 256) && decide (key / 256 < 0x3220) && key % 256 == 12

/-- A member with this value belongs to the configuration (R262): OVERRIDE only at 1 or 2. -/
def inConfig (key : Nat) (v : Val) : Bool :=
  match findMem (key / 256) (key % 256) with
  | none => false
  | some d => d.persist && (!isOverrideKey key || v == .num 1 || v == .num 2)

/-- The configuration part of a table of members. -/
def configOf (t : Table Val) : Table Val := t.filter fun p => inConfig p.1 p.2

/-- The content that the next generation starts from: that of the last one in the making, else the
committed configuration. -/
def baseContent (s : State) : Table Val :=
  match s.dict.jobs.getLast? with
  | some j => j.content
  | none =>
    match s.dict.job with
    | some j => j.content
    | none => configOf s.dict.committed

/-- Members written over a table, the later ones last. -/
def overlay (t : Table Val) (l : List (Nat × Val)) : Table Val :=
  l.foldl (fun t p => Table.set dfltOf t p.1 p.2) t

/-- The generation that the next set takes (R263). -/
def nextGen (s : State) : Nat :=
  s.dict.gen + 1 + (if s.dict.job.isSome then 1 else 0) + s.dict.jobs.length

/-- Queue the copy writes of a set; they begin when the earlier ones end (R263). -/
def startJob (s : State) (j : CopyJob) : State :=
  match s.dict.job with
  | none => { s with dict := { s.dict with job := some j } }
  | some _ => { s with dict := { s.dict with jobs := s.dict.jobs ++ [j] } }

/-- CONFIG_STATE DIVERGENT or LOST (R266). -/
def configBad (s : State) : Bool := s.dict.st = 2 ∨ s.dict.st = 3

/-- A persistent RW member has changed: a new generation within 1 s, unless R266 forbids it. -/
def markRw (s : State) : State :=
  if configBad s then s
  else
    match s.dict.rwDirty with
    | none => { s with dict := { s.dict with rwDirty := some s.clk } }
    | some _ => s

/-- Write an RW member; a change of a persistent one is to become a generation (R263). -/
def writeRw (s : State) (key : Nat) (v : Val) : State :=
  let old := committedVal s key
  let s := setRw s key v
  if (inConfig key v || inConfig key old) && decide (old ≠ v) then markRw s else s

end Sys2Proof.Machine
end

