-- ==== Sys2Proof/Machine/CanOps.lean ====
section
/-! DEFINITION. The operations of the CAN controllers: states, the transmit queue, receive objects
(13_can_fd). -/

namespace Sys2Proof.Machine

/-! ### Settings in force -/

def canOpMode (s : State) (x : Nat) : Nat := cfgN s (0x1100 + x) 1
def canFdEn (s : State) (x : Nat) : Bool := cfgB s (0x1100 + x) 4
def canBusoffHoldoff (s : State) (x : Nat) : Nat := cfgN s (0x1100 + x) 5
def canBusoffManual (s : State) (x : Nat) : Bool := cfgB s (0x1100 + x) 6
def canLoneMode (s : State) (x : Nat) : Nat := cfgN s (0x1100 + x) 7
def canAutoJoin (s : State) (x : Nat) : Bool := cfgB s (0x1100 + x) 8
def canAbdCount (s : State) (x : Nat) : Nat := cfgN s (0x1100 + x) 9
def canLocalWake (s : State) (x : Nat) : Bool := cfgB s (0x1100 + x) 32

/-- Bits of CAN_FLAGS (R315). -/
def canNoPeer : Nat := 0
def canBusOffSeen : Nat := 1
def canAbdFound : Nat := 2
def canTrxHot : Nat := 3
def canTxDom : Nat := 4
def canRxOver : Nat := 5

def canFlag (i : Nat) (b : Bool) (c : CanRt) : CanRt := { c with flags := Flag.set c.flags i b }

/-! ### States (R307) -/

/-- TEC as it reads: 255 in bus-off (R313). -/
def tecRead (c : CanRt) : Nat := min c.tec 255

/-- Move to a CTRL_STATE; each change writes one CAN_STATE record (R307, R399). -/
def canSetState (s : State) (x st : Nat) : State :=
  let c := getCan s x
  if c.st = st then s
  else
    let s := modCan s x fun c => { c with st := st }
    logEvent s 0x0B01
      (bytes1 [x, c.st, st, tecRead c, c.rec_, if Flag.get c.flags canNoPeer then 1 else 0])

/-- The controller takes part in the bus: ERROR_ACTIVE or ERROR_PASSIVE with its transceiver in normal
mode. -/
def canActive (c : CanRt) : Bool := (c.st = 2 ∨ c.st = 3) && !c.lowPower

/-- The controller hears frames: on the bus, listening or detecting the rate. -/
def canHears (c : CanRt) : Bool := (c.st = 2 ∨ c.st = 3 ∨ c.st = 6 ∨ c.st = 7) && !c.lowPower

/-- ERROR_ACTIVE while both counters are 127 or below, else ERROR_PASSIVE (R307). -/
def errState (c : CanRt) : Nat := if c.tec ≤ 127 ∧ c.rec_ ≤ 127 then 2 else 3

/-- Follow the counters between ERROR_ACTIVE and ERROR_PASSIVE. -/
def canFollow (s : State) (x : Nat) : State :=
  let c := getCan s x
  if c.st = 2 ∨ c.st = 3 then canSetState s x (errState c) else s

/-! ### Transmission (R303) -/

/-- The frame that arbitrates next: the oldest urgent one, else the head of the FIFO. With LONE_MODE 1 and
NO_PEER set a frame waits for its retry (R309). The bus is taken as idle (log entry 20). -/
def canOffer (s : State) (x : Nat) : State :=
  let c := getCan s x
  let lone := decide (canLoneMode s x = 1) && Flag.get c.flags canNoPeer
  if c.onBus ≠ 0 ∨ ¬ canActive c ∨ lone = true then s
  else modCan s x fun c =>
    { c with onBus := if !c.urgent.isEmpty then 1 else if !c.fifo.isEmpty then 2 else 0
             cancelled := false }

/-- Queue a frame in the FIFO of 32; a frame of the module's own services that finds it full is lost
(log entry 20). -/
def canQueue (s : State) (x : Nat) (it : TxItem) : State :=
  let c := getCan s x
  if c.fifo.length ≥ 32 then s
  else canOffer (modCan s x fun c => { c with fifo := c.fifo ++ [it] }) x

/-- Queue a heartbeat: one that still waits has its payload replaced and keeps its place (R306). -/
def canQueueHeartbeat (s : State) (x : Nat) (f : CanFrame) : State :=
  let c := getCan s x
  if c.fifo.any fun i => i.kind == .heartbeat then
    modCan s x fun c => { c with
      fifo := c.fifo.map fun i => if i.kind = .heartbeat then { i with frame := f } else i }
  else canQueue s x ⟨0, .heartbeat, f⟩

/-- Put a frame in the urgent slot of 2 with its discard time (R306). -/
def canQueueUrgent (s : State) (x : Nat) (f : CanFrame) (discardAt : Nat) : State :=
  let c := getCan s x
  if c.urgent.length ≥ 2 then s
  else canOffer (modCan s x fun c => { c with urgent := c.urgent ++ [⟨⟨0, .trigger, f⟩, discardAt⟩] }) x

/-- Drop the frame on the bus from its queue. -/
def canDropSent (c : CanRt) : CanRt :=
  if c.onBus = 1 then { c with urgent := c.urgent.drop 1, onBus := 0, cancelled := false }
  else if c.onBus = 2 then
    { c with fifo := c.fifo.drop 1, onBus := 0, cancelled := false, sleepUpTo := c.sleepUpTo - 1 }
  else c

/-- The frame on the bus. -/
def canOnBus (c : CanRt) : Option TxItem :=
  if c.onBus = 1 then (c.urgent.head?).map fun u => u.item
  else if c.onBus = 2 then c.fifo.head? else none

/-- Remove the urgent frames whose discard time has passed and that are not on the bus (R306). -/
def canExpire (s : State) (x : Nat) : State :=
  modCan s x fun c =>
    let keepFirst := decide (c.onBus = 1)
    let hd := if keepFirst then c.urgent.take 1 else []
    let tl := if keepFirst then c.urgent.drop 1 else c.urgent
    let live := tl.filter fun u => decide (s.clk < u.discardAt)
    { c with urgent := hd ++ live, urgentExpired := c.urgentExpired + (tl.length - live.length) }

/-! ### The controller group (R296, R314) -/

/-- A member outside the receive-object configuration differs between the committed set and the set in
force. -/
def canCtrlChanged (s : State) (x : Nat) : Bool :=
  (upTo 33).any fun m =>
    committedVal s (memKey (0x1100 + x) m) != cfgVal s (0x1100 + x) m

/-- SPLITx is high impedance while the transceiver is in low-power mode (R310, R312). -/
def canSplitHiZ (s : State) (x : Nat) : Bool := (getCan s x).lowPower

/-- The mode of the set in force, where the bus is integrated: rate detection begins with the first candidate (R297). -/
def canEnterMode (s : State) (x : Nat) : State :=
  match canOpMode s x with
  | 0 => canSetState s x 0
  | 2 => canSetState s x 6
  | 3 =>
    canSetState (modCan s x fun c =>
      canFlag canAbdFound false { c with abdResult := 0xFF, abdIndex := 0, abdSince := s.clk, abdGood := 0 }) x 7
  | _ => canSetState s x (errState (getCan s x))

/-- Join the bus with the set in force: OFF, or wait for 11 recessive bits. Bus-off and SLEEP go on. -/
def canEnter (s : State) (x : Nat) : State :=
  let c := getCan s x
  if c.st = 4 ∨ c.st = 5 ∨ c.st = 8 then s
  else
    let s := modCan s x fun c => { c with onBus := 0, cancelled := false }
    if canOpMode s x = 0 then canSetState s x 0 else canSetState s x 1

/-- The controller takes the committed set (R296): a change of the receive objects alone needs no
re-integration. -/
def canTakeSet (s : State) (x : Nat) : State :=
  let ch := canCtrlChanged s x
  let s := takeObj s (0x1100 + x)
  let s := forAll (upTo 64) (fun s o => takeObj s (0x1200 + 64 * x + o)) s
  let s := syncDone (.can x) s
  if ch && s.power.phase ≠ .reset then canEnter s x else s

/-- A COMMIT of the controller group: a frame in progress completes on the old set; a change of the receive
objects alone waits for the next end of frame (R296). -/
def canSync (s : State) (x : Nat) : State :=
  if canCtrlChanged s x ∧ (getCan s x).onBus = 0 then canTakeSet s x else s

/-- The end of a frame on controller `x`: a waiting set is taken (R296). -/
def canFrameEnd (s : State) (x : Nat) : State :=
  let s := if s.dict.waiting.contains (.can x) then canTakeSet s x else s
  canOffer (canExpire s x) x

/-! ### Bus-off (R308) and waking (R310, R311) -/

/-- TEC has exceeded 255. -/
def canBusOff (s : State) (x : Nat) : State :=
  let s := modCan s x fun c =>
    canFlag canBusOffSeen true
      { c with busoffs := c.busoffs + 1, onBus := 0, cancelled := false
               holdUntil := after s.clk (msecs (canBusoffHoldoff s x)) }
  let s := dropCanPending s x
  if canBusoffHoldoff s x = 0 ∧ ¬ canBusoffManual s x then canSetState s x 5 else canSetState s x 4

/-- Wake from SLEEP: normal mode, re-integration, and the held frames are sent (R311). -/
def canWake (s : State) (x cause : Nat) : State :=
  let s := modCan s x fun c =>
    { c with wakeCause := cause, lowPower := false, wakeErrors := 0 }
  canSetState s x 1

/-! ### Receive objects (R298–R302) -/

def rxMode (s : State) (x o : Nat) : Nat := cfgN s (0x1200 + 64 * x + o) 1
def rxFilterId (s : State) (x o : Nat) : Nat := cfgN s (0x1200 + 64 * x + o) 2
def rxFilterMask (s : State) (x o : Nat) : Nat := cfgN s (0x1200 + 64 * x + o) 3
def rxAccept (s : State) (x o : Nat) : Nat := cfgN s (0x1200 + 64 * x + o) 4
def rxIrqEn (s : State) (x o : Nat) : Bool := cfgB s (0x1200 + 64 * x + o) 5

def getObj (c : CanRt) (o : Nat) : RxObj := Table.getD (blank {}) c.objs o

/-- The identifier with IDE at bit 29. -/
def idWord (f : CanFrame) : Nat := f.id + if f.ide then 2 ^ 29 else 0

/-- Agreement in every bit of a mask. -/
def agrees (mask a b : Nat) : Bool := (a ^^^ b) &&& mask == 0

/-- Whether a frame matches a receive object (R298). -/
def rxMatches (s : State) (x o : Nat) (f : CanFrame) : Bool :=
  let kind := if f.rtr then 2 else if f.fdf then 1 else 0
  rxMode s x o != 0 && agrees (rxFilterMask s x o % 2 ^ 30) (idWord f) (rxFilterId s x o) &&
    (rxAccept s x o).testBit kind

/-- A CAN data length (R301). -/
def isCanLen (n : Nat) : Bool := decide (n ≤ 8) || [12, 16, 20, 24, 32, 48, 64].contains n

/-- The 128 bytes of the visible record of an object; zeros while it holds none (R301). -/
def rxBytes (ob : RxObj) : List Byte :=
  match ob.recs with
  | [] => List.replicate 128 0#8
  | r :: _ =>
    let f := r.frame
    let idw := idWord f + (if f.fdf then 2 ^ 30 else 0) + (if f.brs then 2 ^ 31 else 0)
    let fl := (if r.newdat then 1 else 0) + (if r.lost then 2 else 0) + (if f.esi then 4 else 0) +
      (if f.rtr then 8 else 0) + (if r.overflow then 16 else 0)
    padTo 128 (leBytes 4 idw ++ bytes1 [f.len, fl, r.seq, ob.recs.length] ++ leBytes 8 r.stamp ++
      padTo 64 (if f.rtr then [] else f.data.take f.len))

/-- SRAM offset of a receive object (R301). -/
def rxAddr (x o : Nat) : Nat := 0x7000 + 0x2000 * x + 128 * o

/-- Put a receive object back, and its record in SRAM. -/
def rxPut (s : State) (x o : Nat) (ob : RxObj) : State :=
  let s := modCan s x fun c => { c with objs := Table.set (blank {}) c.objs o ob }
  let a := rxAddr x o
  forAll (upTo 4) (fun s i => clearPoison s (a + 32 * i)) (sramWrite s a (rxBytes ob))

/-- Store a frame in a matching object (R299, R300); its start of frame was sampled `age` clocks ago (R301). -/
def rxStore (s : State) (x o : Nat) (f : CanFrame) (age : Nat) : State :=
  let ob := getObj (getCan s x) o
  let r : RxRec := ⟨f, true, false, false, (ob.seq + 1) % 256, warpAt s (s.clk - age)⟩
  if rxMode s x o = 1 then
    let lost := match ob.recs with
      | p :: _ => p.newdat
      | [] => false
    rxPut s x o { recs := [{ r with lost := lost }], seq := r.seq }
  else if ob.recs.length < 4 then
    let s := rxPut s x o { recs := ob.recs ++ [r], seq := r.seq }
    if rxIrqEn s x o ∧ ob.recs = [] then
      pushHostEvent s
        ⟨0x0B10, logFlagsNow s, 0, warpNow s, s.cal.now, bytes1 [x, o, 1, r.seq]⟩
    else s
  else
    let s := rxPut s x o { ob with recs := match ob.recs with
      | p :: t => { p with overflow := true } :: t
      | [] => [] }
    modCan s x fun c => canFlag canRxOver true { c with rxDiscarded := c.rxDiscarded + 1 }

/-- RX_ACK: clear NEWDAT of a LAST_VALUE object, release the oldest record of a PRIORITY_BUFFER (R302). -/
def rxAckOp (s : State) (x o : Nat) : State :=
  let ob := getObj (getCan s x) o
  if rxMode s x o = 1 then
    rxPut s x o { ob with recs := ob.recs.map fun r => { r with newdat := false } }
  else rxPut s x o { ob with recs := ob.recs.drop 1 }

/-- Offer a frame to the receive objects: the lowest-numbered match stores it (R298). -/
def rxOffer (s : State) (x : Nat) (f : CanFrame) (age : Nat) : State :=
  match findIdx (fun o => rxMatches s x o f) 0 64 with
  | some o => rxStore s x o f age
  | none => modCan s x fun c => { c with rxDiscarded := c.rxDiscarded + 1 }

/-! ### Frames of the services (R281) -/

/-- Pad a payload to the next CAN FD data length. -/
def canPad (l : List Byte) : List Byte :=
  match [0, 1, 2, 3, 4, 5, 6, 7, 8, 12, 16, 20, 24, 32, 48].find? fun n => decide (l.length ≤ n) with
  | some n => padTo n l
  | none => padTo 64 l

/-- An FD frame of the services: PRIORITY, SERVICE, DEST, SOURCE, payload. -/
def svcFrame (prio svc dest src : Nat) (l : List Byte) : CanFrame :=
  let d := canPad l
  ⟨prio * 2 ^ 24 + svc * 2 ^ 16 + dest * 256 + src, true, true, true, false, false, d, d.length⟩

end Sys2Proof.Machine
end

