-- ==== Sys2Proof/Machine/CanEvents.lean ====
section
/-! DEFINITION. The events of the CAN controllers and transceivers (13_can_fd). The commands that are
dictionary writes stand in `CanCmds`. -/

namespace Sys2Proof.Machine

/-- CAN_TX_COMPLETE (R303, R305, R307, R309): the frame on the bus is acknowledged and counts as sent. -/
def execCanTxComplete (x : Nat) (s : State) : Out :=
  let c := getCan s x
  if x ≥ 2 ∨ c.onBus = 0 ∨ ¬ canActive c then .next s
  else
    let s := modCan s x fun c =>
      canFlag canNoPeer false
        { canDropSent c with
          sent := c.sent + 1, tec := c.tec - 1, ackRun := 0
          lastSent := (canOnBus c).map fun i => i.frame }
    .next (canFrameEnd (canFollow s x) x)

/-- The frame on the bus has lost its attempt: a cancelled one is removed, any other is retried (R303,
R305). -/
def canAttemptFailed (c : CanRt) : CanRt :=
  if c.cancelled then canDropSent c else { c with onBus := 0 }

/-- LAST_ERROR code of an error (R307). -/
def canErrCode : CanErrKind → Nat
  | .bit => 1
  | .stuff => 2
  | .crc => 3
  | .form => 4
  | .ack => 5

/-- CAN_ERROR (R307–R309): TEC and REC by ISO 11898-1; an ACK error adds 8 to TEC, and nothing while
ERROR_PASSIVE; `amount` is what the standard adds for any other error. -/
def execCanError (x : Nat) (kind : CanErrKind) (transmitting : Bool) (amount : Nat) (s : State) : Out :=
  let c := getCan s x
  if x ≥ 2 ∨ ¬ canHears c then .next s
  else
    let s := modCan s x fun c => { c with lastError := canErrCode kind }
    if c.st = 6 then .next s
    else if c.st = 7 then .next (if kind = .ack then s else modCan s x fun c => { c with abdGood := 0 })
    else if transmitting then
      let add := if kind = .ack then (if c.st = 3 then 0 else 8) else amount
      let s := modCan s x fun c =>
        let c : CanRt := { canAttemptFailed c with
          tec := c.tec + add, ackRun := if kind = .ack then c.ackRun + 1 else 0 }
        if c.ackRun ≥ 16 then canFlag canNoPeer true { c with nextRetry := after s.clk (secs 1) } else c
      if (getCan s x).tec > 255 then .next (canBusOff s x)
      else .next (canFrameEnd (canFollow s x) x)
    else
      let s := modCan s x fun c => { c with rec_ := min 255 (c.rec_ + amount) }
      .next (canFrameEnd (canFollow s x) x)

/-- BUSOFF_HOLDOFF_END (R308): the hold-off has elapsed; with BUSOFF_MANUAL only RECOVER ends it. -/
def execBusoffHoldoffEnd (x : Nat) (s : State) : Out :=
  let c := getCan s x
  if c.st = 4 ∧ ¬ canBusoffManual s x ∧ c.holdUntil ≤ s.clk then .next (canSetState s x 5) else .next s

/-- BUS_OFF_RECOVERED (R308): TEC and REC are 0 and the controller is ERROR_ACTIVE, or in the mode that a set committed
during bus-off gives it (log entry 75); urgent frames go first. -/
def execBusOffRecovered (x : Nat) (s : State) : Out :=
  if (getCan s x).st = 5 then
    let s := modCan s x fun c => { c with tec := 0, rec_ := 0, ackRun := 0 }
    .next (canFrameEnd (canEnterMode s x) x)
  else .next s

/-- LONE_RETRY (R309): with LONE_MODE 1 and NO_PEER set the head frame is tried once every second. -/
def execLoneRetry (x : Nat) (s : State) : Out :=
  let c := getCan s x
  if canActive c ∧ canLoneMode s x = 1 ∧ Flag.get c.flags canNoPeer ∧ c.onBus = 0 ∧ c.nextRetry ≤ s.clk then
    .next (modCan s x fun c => { c with
      onBus := if !c.urgent.isEmpty then 1 else if !c.fifo.isEmpty then 2 else 0
      nextRetry := after s.clk (secs 1) })
  else .next s

/-- RATE_CANDIDATE_TIMER (R297): after 1 s without a match the next candidate is tried, in ascending order
and then from the first. -/
def execRateCandidateTimer (x : Nat) (s : State) : Out :=
  let c := getCan s x
  if c.st = 7 ∧ ¬ Flag.get c.flags canAbdFound ∧ passed s c.abdSince (secs 1) then
    .next (modCan s x fun c => { c with
      abdIndex := if c.abdIndex + 1 < canAbdCount s x then c.abdIndex + 1 else 0
      abdSince := s.clk, abdGood := 0 })
  else .next s

/-- REINTEGRATION_DONE (R296, R297): 11 recessive bits are seen and the controller enters its mode. -/
def execReintegrationDone (x : Nat) (s : State) : Out :=
  let c := getCan s x
  if c.st = 1 ∧ ¬ c.lowPower then .next (canFrameEnd (canEnterMode s x) x) else .next s

/-- URGENT_DISCARD (R306): urgent frames past their discard time are removed and counted. -/
def execUrgentDiscard (x : Nat) (s : State) : Out := .next (canExpire s x)

/-- TX_DOM_TIMEOUT (R292): the transceiver releases a bus that it held dominant too long. -/
def execTxDomTimeout (x : Nat) (s : State) : Out :=
  if x ≥ 2 ∨ (getCan s x).lowPower then .next s
  else .next (modCan s x (canFlag canTxDom true))

/-- SLEEP_ENTRY (R310): the frames queued up to the request are sent, or 100 ms have passed; queued frames
are kept. -/
def execSleepEntry (x : Nat) (s : State) : Out :=
  let c := getCan s x
  match c.sleepFrom with
  | none => .next s
  | some t =>
    let sent := c.sleepUpTo = 0 ∧ ¬ c.urgent.any fun u => u.discardAt ≤ after t (msecs 10)
    if sent ∨ passed s t (msecs 100) then
      let s := modCan s x fun c =>
        { c with sleepFrom := none, sleepUpTo := 0, lowPower := true, onBus := 0, cancelled := false
                 wakeErrors := 0 }
      .next (canSetState s x 8)
    else .next s

/-- DOMINANT_WAKE (R311): with WAKE_MODE 0 a dominant state of 5 µs wakes, one shorter than 0.5 µs never
does; between the two the manual leaves it open, and a free value decides. -/
def execDominantWake (x nanoseconds : Nat) (s : State) : Out :=
  if (getCan s x).st = 8 ∧ cfgN s (0x1100 + x) 26 = 0 then
    if 5000 ≤ nanoseconds then .next (canWake s x 1)
    else if nanoseconds < 500 then .next s
    else
      let p := takeFree s
      if p.1 % 2 = 1 then .next (canWake p.2 x 1) else .next p.2
  else .next s

/-- A classical frame that is a wake frame of the controller (R311). -/
def isWakeFrame (s : State) (x : Nat) (f : CanFrame) : Bool :=
  let dlc := cfgN s (0x1100 + x) 29
  let mask := cfgN s (0x1100 + x) 30 + cfgN s (0x1100 + x) 31 * 2 ^ 32
  agrees (cfgN s (0x1100 + x) 28) (idWord f) (cfgN s (0x1100 + x) 27) && f.len == dlc &&
    (dlc == 0 || (!f.rtr && leNat (f.data.take dlc) &&& mask != 0))

/-- WAKE_FRAME (R311): with WAKE_MODE 1 a matching classical frame wakes; any other correct one takes 1 from
the frame error counter. FD frames are ignored. -/
def execWakeFrame (x : Nat) (frame : CanFrame) (s : State) : Out :=
  if (getCan s x).st = 8 ∧ cfgN s (0x1100 + x) 26 = 1 ∧ ¬ frame.fdf then
    if isWakeFrame s x frame then .next (canWake s x 2)
    else .next (modCan s x fun c => { c with wakeErrors := c.wakeErrors - 1 })
  else .next s

/-- WAKE_ERROR_COUNT (R311): each decoding error adds 1, each correct frame takes 1 away; 32 wakes. -/
def execWakeErrorCount (x : Nat) (error : Bool) (s : State) : Out :=
  let c := getCan s x
  if c.st = 8 ∧ cfgN s (0x1100 + x) 26 = 1 then
    let n := if error then c.wakeErrors + 1 else c.wakeErrors - 1
    let s := modCan s x fun c => { c with wakeErrors := n }
    if n ≥ 32 then .next (canWake s x 3) else .next s
  else .next s

/-- TRX_OVERTEMP (R312): the transceiver goes to low power at 175 °C; once 20 K cooler it returns and the
controller re-integrates. -/
def execTrxOvertemp (x : Nat) (hot : Bool) (s : State) : Out :=
  let c := getCan s x
  if x ≥ 2 then .next s
  else if hot then
    .next (modCan s x fun c => canFlag canTrxHot true { c with lowPower := true, onBus := 0, cancelled := false })
  else if Flag.get c.flags canTrxHot then
    let s := modCan s x fun c =>
      canFlag canTrxHot false { c with lowPower := !(isUp s && decide (c.st ≠ 8)) }
    .next (if isUp s then canEnter s x else s)
  else .next s

end Sys2Proof.Machine
end

