-- ==== Sys2Proof/Machine/CalOps.lean ====
section
/-! DEFINITION. Civil dates, daylight saving and local time (02_warp_timebase, R41–R50). Instants are whole
seconds since 2000-01-01 00:00 UTC; a CAL value holds 1/65536 s. -/

namespace Sys2Proof.Machine

/-! ### Civil dates -/

/-- Days from 2000-01-01 to a civil date of the Gregorian calendar. -/
def daysOf (y m d : Int) : Int :=
  let y' := if m ≤ 2 then y - 1 else y
  let era := y' / 400
  let yoe := y' - era * 400
  let doy := (153 * (if m > 2 then m - 3 else m + 9) + 2) / 5 + d - 1
  era * 146097 + (yoe * 365 + yoe / 4 - yoe / 100 + doy) - 730425

/-- The civil date (year, month, day) of a day number. -/
def civilOf (day : Int) : Int × Int × Int :=
  let z := day + 730425
  let era := z / 146097
  let doe := z - era * 146097
  let yoe := (doe - doe / 1460 + doe / 36524 - doe / 146096) / 365
  let doy := doe - (365 * yoe + yoe / 4 - yoe / 100)
  let mp := (5 * doy + 2) / 153
  let m := if mp < 10 then mp + 3 else mp - 9
  (yoe + era * 400 + if m ≤ 2 then 1 else 0, m, doy - (153 * mp + 2) / 5 + 1)

/-- Weekday of a day number: 0 Sunday to 6 Saturday; 2000-01-01 was a Saturday. -/
def weekdayOf (day : Int) : Int := (day + 6) % 7

/-- The year of an instant. -/
def yearOf (sec : Int) : Int := (civilOf (sec / 86400)).1

/-! ### Daylight saving (R45–R47) -/

def dstMonth (w : Nat) : Nat := w / 2 ^ 28
def dstWeek (w : Nat) : Nat := w / 2 ^ 25 % 8
def dstWeekday (w : Nat) : Nat := w / 2 ^ 22 % 8
def dstBasis (w : Nat) : Nat := w / 2 ^ 20 % 4
def dstMinute (w : Nat) : Nat := w / 2 ^ 9 % 2048

/-- A word whose fields all lie within R46 and whose reserved bits are 0, or 0 (R47). -/
def dstWordOk (w : Nat) : Bool :=
  w == 0 ||
    (decide (1 ≤ dstMonth w) && decide (dstMonth w ≤ 12) && decide (1 ≤ dstWeek w) && decide (dstWeek w ≤ 5) &&
      decide (dstWeekday w ≤ 6) && decide (dstBasis w ≤ 2) && decide (dstMinute w ≤ 1439) && w % 512 == 0)

/-- A write to a DST rule that R47 refuses: a bad word, or a DST_SHIFT that is 0, no multiple of 15 min or beyond
±120 min. -/
def dstMemberBad (m : Nat) (v : Int) : Bool :=
  if m = 3 ∨ m = 4 then !dstWordOk v.toNat
  else if m = 5 then decide (v = 0) || decide (v % 15 ≠ 0) || decide (v < -120) || decide (120 < v)
  else false

/-- The day of a year that a word names. -/
def dstDay (year : Int) (w : Nat) : Int :=
  let m : Int := dstMonth w
  let first := daysOf year m 1
  let next := if m = 12 then daysOf (year + 1) 1 1 else daysOf year (m + 1) 1
  let d := first + ((dstWeekday w : Int) - weekdayOf first) % 7
  let k : Int := dstWeek w
  if k ≤ 4 then d + 7 * (k - 1) else if d + 28 < next then d + 28 else d + 21

/-- The instant of a transition in a year; `before` is the wall offset from standard time before it, in
minutes. -/
def dstInstant (s : State) (year : Int) (w : Nat) (before : Int) : Int :=
  let t := dstDay year w * 86400 + dstMinute w * 60
  match dstBasis w with
  | 0 => t
  | 1 => t - Cfg.tzTzOffset s * 60
  | _ => t - (Cfg.tzTzOffset s + before) * 60

/-- The rule of a year: the lowest-numbered one in use that covers it (R45). -/
def dstRule (s : State) (year : Int) : Option Nat :=
  findIdx (fun n =>
    decide ((Cfg.dstFirstYear s n : Int) ≤ year) && decide (year ≤ Cfg.dstLastYear s n)) 0 (Cfg.tzDstCount s)

/-- START and END of a year under its rule, with the rule's shift in minutes. -/
def dstSpan (s : State) (year : Int) : Option (Int × Int × Int × Bool) :=
  match dstRule s year with
  | none => none
  | some n =>
    let sh := Cfg.dstDstShift s n
    let a := Cfg.dstDstStart s n
    let b := Cfg.dstDstEnd s n
    some (dstInstant s year a 0, dstInstant s year b sh, sh, decide (dstMonth a ≤ dstMonth b))

/-- The DST shift in force at an instant, in minutes (R45). -/
def dstShiftAt (s : State) (t : Int) : Int :=
  match dstSpan s (yearOf (t + Cfg.tzTzOffset s * 60)) with
  | none => 0
  | some (a, b, sh, inYear) =>
    if inYear then (if a ≤ t ∧ t < b then sh else 0) else (if t < b ∨ a ≤ t then sh else 0)

/-- UTC offset at an instant, in seconds. -/
def offsetAt (s : State) (t : Int) : Int := (Cfg.tzTzOffset s + dstShiftAt s t) * 60

/-- Local wall time of an instant. -/
def localOf (s : State) (t : Int) : Int := t + offsetAt s t

/-- The instants at which the offset may change around a local time: the transitions and the first instants
of three years. -/
def transitionsNear (s : State) (l : Int) : List Int :=
  let y := yearOf l
  [y - 1, y, y + 1].flatMap fun k =>
    let first := daysOf k 1 1 * 86400 - Cfg.tzTzOffset s * 60
    match dstSpan s k with
    | none => [first]
    | some (a, b, _, _) => [first, a, b]

/-- How a local time maps to UTC (R48): the instant, SKIPPED, REPEATED. -/
structure LocalMap where
  utc : Int
  skipped : Bool
  repeated : Bool
  deriving DecidableEq, Repr

/-- Local wall time to UTC: a skipped time maps to the transition, a repeated one to its first occurrence. -/
def localToUtc (s : State) (l : Int) : LocalMap :=
  let ts := transitionsNear s l
  let offs := (ts.flatMap fun t => [offsetAt s (t - 1), offsetAt s t])
  let hits := ((offs.map fun o => l - o).filter fun u => decide (localOf s u = l))
  match hits with
  | h :: t =>
    let u := t.foldl min h
    ⟨u, false, t.any fun v => decide (v ≠ h)⟩
  | [] =>
    match ts.find? fun t => decide (t + offsetAt s (t - 1) ≤ l) && decide (l < t + offsetAt s t) with
    | some t => ⟨t, true, false⟩
    | none => ⟨l - Cfg.tzTzOffset s * 60, false, false⟩

/-! ### The present (R43, R51) -/

/-- Whole seconds of the calendar. -/
def utcSec (s : State) : Int := (s.cal.now / 65536 : Nat)

/-- LOCAL_NOW as a CAL value. -/
def localNow (s : State) : Nat := unsigned 64 ((s.cal.now : Int) + offsetAt s (utcSec s) * 65536)

/-- Local wall time of the present, whole seconds. -/
def localSec (s : State) : Int := localOf s (utcSec s)

/-- UTC_OFFSET_NOW in minutes. -/
def utcOffsetNow (s : State) : Int := offsetAt s (utcSec s) / 60

/-- The units of `cal.acc` in 1/65536 s. -/
def calUnit : Nat := 610351562500

/-- Days of the greatest CAL_NOW value that R41 accepts: 2099-12-31 23:59:59 UTC. -/
def calMaxSec : Nat := 3155759999

end Sys2Proof.Machine
end

