-- ==== Sys2Proof/Machine/Astro.lean ====
section
/-! DEFINITION. The Sun's altitude and the eight events of a local date (02_warp_timebase, R49, R50). R49 gives the altitudes
and the accuracy; the Sun's place follows the low-precision formulas of the Astronomical Almanac (PRESUMED, log entry 18).
Angles are in 10^-8 degrees, sines in 2^-40. -/

namespace Sys2Proof.Machine

/-- One in the unit of the sines, and π in it. -/
def trigOne : Int := 1099511627776
def trigPi : Int := 3454217652358

/-- The Taylor series of the sine at `x` from the term `t` of odd power 2 k − 1 on, `fuel` terms. -/
def sinSeries : Nat → Int → Int → Int → Int
  | 0, _, _, _ => 0
  | fuel + 1, k, x2, t => t + sinSeries fuel (k + 1) x2 (-(t * x2 / trigOne) / (2 * k * (2 * k + 1)))

/-- The sine of an angle. -/
def sinDeg (a : Int) : Int :=
  let r := a % 36000000000
  let r := if 18000000000 ≤ r then r - 36000000000 else r
  let r := if 9000000000 < r then 18000000000 - r else if r < -9000000000 then -18000000000 - r else r
  let x := r * trigPi / 18000000000
  sinSeries 10 1 (x * x / trigOne) x

/-- The cosine of an angle. -/
def cosDeg (a : Int) : Int := sinDeg (a + 9000000000)

/-- The product of two sines. -/
def trigMul (a b : Int) : Int := a * b / trigOne

/-- An angle that is `a` at 2000-01-01 12:00 UTC and grows by `rate` a day, at an instant in seconds. -/
def angleAt (a rate t : Int) : Int := a + rate * (t - 43200) / 86400

/-- The sine of the Sun's altitude at an instant (seconds since 2000-01-01 00:00 UTC) and a place. -/
def sunSine (lat lon t : Int) : Int :=
  let g := angleAt 35752800000 98560030 t
  let lam := angleAt 28046000000 98564740 t + (191500000 * sinDeg g + 2000000 * sinDeg (2 * g)) / trigOne
  let eps := angleAt 2343900000 (-40) t
  let th := angleAt 28046062000 36098564737 t + lon
  let slam := sinDeg lam
  trigMul (sinDeg lat) (trigMul (sinDeg eps) slam) +
    trigMul (cosDeg lat) (trigMul (cosDeg th) (cosDeg lam) + trigMul (sinDeg th) (trigMul (cosDeg eps) slam))

/-- The altitude of event k (R49): sunrise and sunset, civil, nautical and astronomical dawn and dusk. -/
def eventAltitude (k : Nat) : Int :=
  match k / 2 with
  | 0 => -83300000
  | 1 => -600000000
  | 2 => -1200000000
  | _ => -1800000000

/-- The Sun stands at or above the altitude of event k. -/
def sunUp (lat lon : Int) (k : Nat) (t : Int) : Bool := decide (sinDeg (eventAltitude k) ≤ sunSine lat lon t)

/-- The first second of (lo, hi] at which the Sun has passed the altitude, given that it does so once in between. -/
def crossingIn (lat lon : Int) (k : Nat) (up : Bool) : Nat → Int → Int → Int
  | 0, _, hi => hi
  | fuel + 1, lo, hi =>
    if hi ≤ lo + 1 then hi
    else
      let m := (lo + hi) / 2
      if sunUp lat lon k m == up then crossingIn lat lon k up fuel lo m else crossingIn lat lon k up fuel m hi

/-- What event k does on a date. -/
inductive SunDay where
  | occurs (t : Int)
  | above
  | below
  /-- Only the opposite event occurs. -/
  | other
  deriving DecidableEq, Repr

/-- The first rise (even k) or fall (odd k) of the Sun through the altitude of event k between two instants, looked for in
steps of 10 minutes. -/
def sunDay (lat lon : Int) (k : Nat) (from_ to_ : Int) : SunDay :=
  let up := k % 2 == 0
  let n := ((to_ - from_ + 599) / 600).toNat
  let marks := (upTo (n + 1)).map fun i =>
    let t := min to_ (from_ + 600 * i)
    (t, sunUp lat lon k t)
  match (marks.zip (marks.drop 1)).find? fun p => p.1.2 != up && p.2.2 == up with
  | some p => .occurs (crossingIn lat lon k up 10 p.1.1 p.2.1)
  | none => if marks.all fun p => p.2 then .above else if marks.all fun p => !p.2 then .below else .other

/-- Degrees of a Q16 value in 10^-8 degrees. -/
def degOf (q : Int) : Int := q * 100000000 / 65536

/-- Event k of a local date: its flag (0 occurs, 1 Sun above all date, 2 below all date) and its instant in whole seconds.
Up to 65° of latitude the module's instant lies within one minute of the true one; beyond, its accuracy is open. Where only
the opposite event occurs, R50 has no flag: a free value. -/
def astroEvent (s : State) (k date : Nat) : Nat × Int :=
  let lat := Cfg.siteLatitude s
  let lon := Cfg.siteLongitude s
  let from_ := (localToUtc s (86400 * date)).utc
  let to_ := (localToUtc s (86400 * (date + 1))).utc
  let dev := Config.astroDeviation k lat lon date
  match sunDay (degOf lat) (degOf lon) k from_ to_ with
  | .occurs t => (0, t + if lat.natAbs ≤ 65 * 65536 then clampInt (-60) 60 dev else dev)
  | .above => (1, 0)
  | .below => (2, 0)
  | .other => (1 + Config.astroFlag k lat lon date % 2, 0)

end Sys2Proof.Machine
end

