-- ==== Sys2Proof/Machine/DispOps.lean ====
section
/-! DEFINITION. The flags and the ledgers of the segment display (10_segment_display, R233, R240). -/

namespace Sys2Proof.Machine

/-! ### Flags (R240) -/

def dfOverdrive : Nat := 0
def dfLedgerHigh : Nat := 1
def dfRouted : Nat := 2
def dfInterrupted : Nat := 3
def dfCompleted : Nat := 4
def dfReplayed : Nat := 5
def dfLedgerSat : Nat := 6
def dfLedgerLost : Nat := 7
def dfVlcdFault : Nat := 8
def dfTempSrcFault : Nat := 9

def modDisp (s : State) (f : Disp → Disp) : State := { s with disp := f s.disp }

def dispFlag (i : Nat) (b : Bool) (d : Disp) : Disp := { d with flags := Flag.set d.flags i b }

/-! ### Ledgers (R233) -/

/-- The ledger of a segment, 0.1 mV·s. -/
def ledgerOf (s : State) (g : Nat) : Int := Table.getD (blank 0) s.disp.ledger g

/-- Length of a waveform in units. -/
def waveLen (w : SegWave) : Nat := w.pulses.foldl (fun n p => n + p.natAbs) 0

/-- Volt-seconds of a waveform after `n` units of its length. -/
def waveSum : Nat → List Int → Int
  | _, [] => 0
  | n, p :: t => if p.natAbs ≤ n then p + waveSum (n - p.natAbs) t else sgn p * n

/-- Add volt-seconds to a ledger, saturating (R233). -/
def ledgerAdd (s : State) (g : Nat) (v : Int) : State :=
  let n := ledgerOf s g + v
  let c := clampInt (-32767) 32767 n
  modDisp s fun d =>
    let d := { d with ledger := Table.set (blank 0) d.ledger g c }
    if c = n then d else dispFlag dfLedgerSat true d

/-- LEDGER_HIGH while any |LEDGER| exceeds LEDGER_LIMIT (R233); in TN mode every LEDGER reads 0 (R238). -/
def ledgerFollow (s : State) : State :=
  modDisp s fun d => dispFlag dfLedgerHigh
    (d.mode != 1 && d.ledger.any fun p => decide (Cfg.dispLedgerLimit s < p.2.natAbs)) d

/-- Units of 0.1 mV·s that have passed of a round. -/
def roundUnits (s : State) (r : Round) : Nat := (s.clk - r.start) * 3 / 8000

/-- The ledgers take the volt-seconds of `n` units of each waveform of `p` that they do not hold yet. -/
def roundLedgers (s : State) (r : Round) (n : Nat) (p : SegWave → Bool) : State :=
  let take := fun w : SegWave => p w && !w.settled
  let s := forAll (r.waves.filter take) (fun s w => ledgerAdd s w.seg (waveSum n w.pulses)) s
  ledgerFollow (modDisp s fun d => { d with round := some { r with
    waves := r.waves.map fun w => if take w then { w with settled := true } else w } })

/-- LEDGER takes each waveform at its end, while the round goes on (R233). -/
def ledgerSettle (s : State) : State :=
  match s.disp.round with
  | none => s
  | some r =>
    let n := roundUnits s r
    roundLedgers s r n fun w => decide (waveLen w ≤ n)

end Sys2Proof.Machine
end

