-- ==== Sys2Proof/Machine/Rates.lean ====
section
/-! DEFINITION. Sample rates, ENGINE_LOAD and the section counts of loops, for a configuration `rd` (object,
member) that may be in force, committed or proposed (04_control_engine, R90, R96, R455). -/

namespace Sys2Proof.Machine

/-- A reading of a configuration: the number of a member. -/
abbrev Rd := Nat → Nat → Int

/-- Whether a loop is enabled. -/
def rdLoopOn (rd : Rd) (n : Nat) : Bool := rd (0x4000 + n) 1 == 1

/-- SECTION_COUNT of a loop. -/
def rdSections (rd : Rd) (n : Nat) : Nat := (rd (0x4400 + n) 97).toNat

/-- The enabled loops. -/
def rdLoops (rd : Rd) : List Nat := (upTo 256).filter (rdLoopOn rd)

/-- A rate per second that counts 0 for a divisor of 0. -/
def perSec (a b : Nat) : ℚ := if b = 0 then 0 else (a : ℚ) / b

/-- The greatest rate of a trigger source (R158). The PWM_FREQ of a fan counts at the higher of the one in
`rd` and the one that runs at the bridge. -/
def sourceRate (rd : Rd) (running : Nat → Nat) (src : Nat) : ℚ :=
  if src < 8 then perSec 400000000 (rd (0x5010 + src) 1).toNat
  else if 0x10 ≤ src ∧ src < 0x18 then
    let k := src % 4
    ((max (rd (0x8030 + k) 4).toNat (running k) : Nat) : ℚ)
  else if 0x20 ≤ src ∧ src < 0x40 then 40000
  else 0

/-- The rate at which trigger entry `t` fires. -/
def entryRate (rd : Rd) (running : Nat → Nat) (t : Nat) : ℚ :=
  sourceRate rd running (rd (0x5040 + t) 1).toNat

/-- The rate at which results of a measurement channel can arrive (R455). -/
def chanRate (rd : Rd) (running : Nat → Nat) (code : Nat) : ℚ :=
  let trig := ((upTo 32).filter fun t =>
    rd (0x5040 + t) 1 != 0xFFFF && (rd (0x5040 + t) 3 == (code : Int) || rd (0x5040 + t) 4 == (code : Int))).map
      (entryRate rd running)
  let cont : ℚ := (if rd 0x5000 6 = (code : Int) then 125000 else 0) +
    (if rd 0x5000 7 = (code : Int) then 125000 else 0) +
    (if code = 0x41F ∨ code = 0x41C then 250000 else 0)
  let house : ℚ := if (0x420 ≤ code ∧ code ≤ 0x42D) ∨ (0x41C ≤ code ∧ code ≤ 0x41E) then 100 else 0
  let scan : ℚ :=
    if 308 ≤ code ∧ code < 332 ∧ rd (0x5100 + (code - 308)) 7 = 1 then perSec 1000 (rd 0x5000 8).toNat else 0
  trig.foldl (· + ·) 0 + cont + house + scan

/-- The counted rate of a loop (R96, R455); a chain of loops is followed for `fuel` loops. -/
def loopRate (rd : Rd) (running : Nat → Nat) : Nat → Nat → ℚ
  | 0, _ => 0
  | fuel + 1, n =>
    let tr := rd (0x4000 + n) 3
    if tr = 1 then perSec 1000000 (rd (0x4000 + n) 4).toNat
    else if tr = 2 then perSec 65 (rd (0x4000 + n) 5).toNat
    else
      let src := (rd (0x4000 + n) 7).toNat
      if src < 256 then loopRate rd running fuel src
      else if src < 288 then
        (if rd (0x6100 + (src - 256)) 1 = 1 then perSec 10000 (rd (0x6100 + (src - 256)) 3).toNat else 0)
      else if 0x800 ≤ src ∧ src < 0x808 then
        let t := rd (0x8030 + (src - 0x800) / 2) 5
        if t = 255 then 0 else entryRate rd running t.toNat
      else if 0x808 ≤ src ∧ src < 0x80C then 1000
      else if src = 0xFFFF then 0
      else chanRate rd running src

/-- The share of ENGINE_LOAD of a loop: its rate times its engine clocks over 400 000 000 (R96). -/
def loopLoad (rd : Rd) (running : Nat → Nat) (n : Nat) : ℚ :=
  loopRate rd running 256 n * (8 + 2 * (rdSections rd n : ℚ)) / 400000000

/-- The load of the enabled loops that satisfy `p`. -/
def loadOf (rd : Rd) (running : Nat → Nat) (p : Nat → Bool) : ℚ :=
  (((rdLoops rd).filter p).map (loopLoad rd running)).foldl (· + ·) 0

/-- The sections of the enabled loops of a class. -/
def classSections (rd : Rd) (c : Nat) : Nat :=
  (((rdLoops rd).filter fun n => rd (0x4000 + n) 2 == (c : Int)).map (rdSections rd)).foldl (· + ·) 0

/-- The greatest sample rate of a loop's class (R90). -/
def classTop (rd : Rd) (n : Nat) : ℚ :=
  let c := rd (0x4000 + n) 2
  if c = 0 then 50000 else if c = 1 then 10000 else 1000

/-- The counted rate of a loop does not exceed the maximum of its class (R90, R455). -/
def classTopOk (rd : Rd) (running : Nat → Nat) (n : Nat) : Bool := decide (loopRate rd running 256 n ≤ classTop rd n)

/-- A class limit of R90 holds for a loop: sections, trigger and rate, whatever the trigger. -/
def classLimitOk (rd : Rd) (running : Nat → Nat) (n : Nat) : Bool :=
  let c := rd (0x4000 + n) 2
  let k := rdSections rd n
  decide (1 ≤ k) && decide (k ≤ (if c = 0 then 4 else 16)) && (decide (c ≠ 0) || decide (rd (0x4000 + n) 3 = 0)) &&
    decide ((1 : ℚ) / 100 ≤ loopRate rd running 256 n) && classTopOk rd running n

/-- The PWM_FREQ that runs at each fan bridge. -/
def runningPwm (s : State) (k : Nat) : Nat := Cfg.dfanPwmFreq s k

/-- ENGINE_LOAD in % (R96). DESIGN CHOICE (log entry 40): rounded to nearest, half upward; R96 names no rounding. -/
def engineLoad (s : State) : Nat :=
  (loadOf (comI s) (runningPwm s) (fun _ => true) * 100 + 1 / 2).floor.toNat

end Sys2Proof.Machine
end

