-- ==== Sys2Proof/Machine/EngineOps.lean ====
section
/-! DEFINITION. The arithmetic of a loop sample: sources, sections, preset, set-point ramp, repetitive
control (04_control_engine, 05_loop_modes). -/

namespace Sys2Proof.Machine

/-! ### Bits of LOOP_FLAGS (R110) and MODE_FLAGS (R133) -/

def lfSatHigh : Nat := 0
def lfSatLow : Nat := 1
def lfRetried : Nat := 2
def lfFault : Nat := 3
def lfOverrun : Nat := 4
def lfDelay : Nat := 5
def lfPvInvalid : Nat := 6
def lfStale : Nat := 7

def mfPreset : Nat := 0
def mfBump : Nat := 1
def mfClamped : Nat := 2
def mfHeld : Nat := 3
def mfRamping : Nat := 4
def mfLearned : Nat := 5

/-! ### Sources (R84, R85, R92) -/

/-- A loop takes no samples on the set in force: disabled, in fault or not yet released (R103). -/
def loopIdle (s : State) (n : Nat) : Bool :=
  let l := getLoop s n
  !l.enabled || l.fault || l.stopped || s.engine.stopped

/-- A reading of a source: value, binary point, Warp stamp, engine clock of the stamp, engine clock of the
delivery. `given`: a result exists; `valid`: it may be evaluated. -/
structure SrcVal where
  value : Int
  point : Nat
  stamp : Nat
  stampClk : Nat
  atClk : Nat
  given_ : Bool
  valid : Bool
  deriving DecidableEq, Repr

/-- The key of a source's result record: AI k as k, internal channel c as 0x100 + c, the fan transform
outputs and speeds under their codes. -/
def srcRec (code : Nat) : Nat :=
  if 308 ≤ code ∧ code < 332 then code - 308 else if 0x400 ≤ code ∧ code < 0x500 then code - 0x300 else code

/-- A source can deliver no result at all (R92, R455): a loop that takes no samples, an IO channel in another mode than 1,
an AI switched off, a channel that nothing converts, a fan without a live CURR_TRIG. -/
def srcSilent (s : State) (code : Nat) : Bool :=
  let rd : Rd := fun o m => cfgI s o m
  if code < 256 then loopIdle s code
  else if code < 288 then (getIo s (code - 256)).mode != 1
  else if 0x800 ≤ code ∧ code < 0x808 then
    let t := Cfg.dfanCurrTrig s ((code - 0x800) / 2)
    decide (t = 255) || decide (entryRate rd (runningPwm s) t = 0)
  else if 0x808 ≤ code then false
  else decide (chanRate rd (runningPwm s) code = 0) ||
    (decide (308 ≤ code) && decide (code < 332) && Cfg.aiAiMode s (code - 308) == 0)

/-- Read a source (R84). DESIGN CHOICE (log entry 42): the latest output of a loop slot carries the Warp time at which it was
applied. -/
def readSrc (s : State) (code : Nat) : SrcVal :=
  if code < 256 then
    let l := getLoop s code
    ⟨l.out, Cfg.loopPoint s code, l.outAtWarp, l.outAtClk.getD 0, l.outAtClk.getD 0, l.outAtClk.isSome, true⟩
  else if code < 288 then
    let c := getIo s (code - 256)
    ⟨ioInState c, 0, c.edgeStamp, c.edgeClk, c.edgeAt, c.changed && c.mode == 1, ioInState c != 2⟩
  else
    let r := getRec s (srcRec code)
    ⟨r.value, 16, r.stamp, r.stampClk, r.atClk, r.present && code != 0xFFFF, recValid r⟩

/-! ### Sections (R87, R88) -/

/-- The accumulator saturates to 80 bits. -/
def sat80 (v : Int) : Int := clampInt (-(2 ^ 79)) (2 ^ 79 - 1) v

/-- The coefficients of a section: mantissas B0, B1, B2, A1, A2 scaled by 2^(31 − s), exactly. -/
structure Coef where
  b0 : Int
  b1 : Int
  b2 : Int
  a1 : Int
  a2 : Int
  deriving DecidableEq, Repr

/-- A mantissa shifted left by 31 − s. -/
def scaled (m : Int) (s : Nat) : Int := m * 2 ^ (31 - s)

/-- Coefficients of section k of a loop in force (R87, R109). -/
def coefOf (s : State) (n k : Nat) : Coef :=
  let sh := Cfg.coefShifts s n k
  ⟨scaled (Cfg.coefB0 s n k) (sh % 32), scaled (Cfg.coefB1 s n k) (sh / 32 % 32),
   scaled (Cfg.coefB2 s n k) (sh / 1024 % 32), scaled (Cfg.coefA1 s n k) (sh / 32768 % 32),
   scaled (Cfg.coefA2 s n k) (sh / 1048576 % 32)⟩

/-- The sections of a loop in force. -/
def coefsOf (s : State) (n : Nat) : List Coef := (upTo (Cfg.coefSectionCount s n)).map (coefOf s n)

/-- One section: five terms in order, saturation after each, one rounding (R87, R88). -/
def sectionOut (c : Coef) (h : Hist) (x : Int) : Int :=
  let a := sat80 (c.b0 * x)
  let a := sat80 (a + c.b1 * h.x1)
  let a := sat80 (a + c.b2 * h.x2)
  let a := sat80 (a - c.a1 * h.y1)
  let a := sat80 (a - c.a2 * h.y2)
  sat32 (roundShift a 31)

/-- The cascade: the staged history and the last output (R86). -/
def cascade : List Coef → List Hist → Int → List Hist × Int
  | [], _, x => ([], x)
  | c :: cs, hs, x =>
    let h := hs.headD {}
    let y := sectionOut c h x
    let r := cascade cs (hs.drop 1) y
    ({ x1 := x, x2 := h.x1, y1 := y, y2 := h.y1 } :: r.1, r.2)

/-! ### The preset (R118) -/

/-- Numerator of a section's steady gain, in 2^-31. -/
def gainNum (c : Coef) : Int := c.b0 + c.b1 + c.b2

/-- Denominator of a section's steady gain: 1 + A1 + A2, in 2^-31. -/
def gainDen (c : Coef) : Int := 2 ^ 31 + c.a1 + c.a2

/-- rnd(g × c). -/
def rndGain (c : Coef) (x : Int) : Int := sat32 (roundDiv (gainNum c * x) (gainDen c))

/-- The steady history of sections that are not the integrator: input `x` settles through each of them. -/
def steady : List Coef → Int → List Hist × Int
  | [], x => ([], x)
  | c :: cs, x =>
    let y := rndGain c x
    let r := steady cs y
    ({ x1 := x, x2 := x, y1 := y, y2 := y } :: r.1, r.2)

/-- The preset history for target `t`, term `r` and error `e`, with section `i` the integrator (R118). -/
def presetHist (cs : List Coef) (i : Nat) (t r e : Int) : List Hist :=
  let before := steady (cs.take i) e
  let after := cs.drop (i + 1)
  let num := (after.map gainNum).foldl (· * ·) 1
  let den := (after.map gainDen).foldl (· * ·) 1
  let p := sat32 (roundDiv ((t - r) * den) num)
  let c := (cs.drop i).headD ⟨0, 0, 0, 0, 0⟩
  let y := sat32 (roundDiv (gainNum c * before.2 - p * 2 ^ 31) (c.a1 + c.a2))
  before.1 ++ { x1 := before.2, x2 := before.2, y1 := y, y2 := y } :: (steady after p).1

/-! ### The set-point ramp (R123) -/

/-- SP_RAMP, the target it moves to and the carried remainder. -/
structure RampSt where
  ramp : Int
  target : Int
  rem : Int
  deriving DecidableEq, Repr

/-- One advance: rate × clocks over 400 000 000 × 1, 60 or 3600, remainder carried, never past the target. The remainder is
kept in 1/(400 000 000 × 3600) LSB, so that it means the same after a change of RAMP_SCALE. -/
def rampAdvance (r : RampSt) (rate scale dclk : Nat) : RampSt :=
  let d : Int := 400000000 * 3600
  let total := (rate : Int) * dclk * (if scale = 0 then 3600 else if scale = 1 then 60 else 1) + r.rem
  let step := total / d
  let q := if r.ramp < r.target then min (r.ramp + step) r.target else max (r.ramp - step) r.target
  if q = r.target then { r with ramp := q, rem := 0 } else { r with ramp := q, rem := total % d }

/-- SP_RAMP at the start of an AUTO sample. `fromPv`: a hand-over from MANUAL, an enable or an output
release. A reversal carries the remainder; a ramp that starts from rest has none (log entry 46). -/
def rampStep (r : RampSt) (fromPv : Bool) (pv target : Int) (up down scale dclk : Nat) : RampSt :=
  let idle := decide (r.ramp = r.target)
  let q : RampSt :=
    if fromPv then ⟨pv, target, 0⟩
    else if target ≠ r.target then
      if idle then
        let between := (r.ramp < pv ∧ pv < target) ∨ (target < pv ∧ pv < r.ramp)
        ⟨if between then pv else r.ramp, target, 0⟩
      else if sgn (target - r.ramp) = sgn (r.target - r.ramp) then
        rampAdvance { r with target := target } (if r.ramp < target then up else down) scale dclk
      else ⟨r.ramp, target, r.rem⟩
    else if idle then r
    else rampAdvance r (if r.ramp < target then up else down) scale dclk
  let rate := if q.ramp < q.target then up else down
  if q.ramp ≠ q.target ∧ rate = 0 then ⟨q.target, q.target, 0⟩ else q

/-! ### Repetitive control (R124–R126) -/

/-- The bin of a sample (R124). -/
def rcBin (s : State) (n stamp : Nat) : Nat :=
  let bins := Cfg.rcBins s n
  match Cfg.rcPeriodKind s n with
  | 0 =>
    let p := Cfg.rcPeriodCycles s n
    (stamp / 65536 % p * 65536 + stamp % 65536) * bins / (p * 65536)
  | 1 => (localSec s % 86400).toNat * bins / 86400
  | _ =>
    let l := localSec s
    (weekdayOf (l / 86400) * 86400 + l % 86400).toNat * bins / 604800

/-- The present local time is the second pass of a repeated hour (R124). -/
def secondPass (s : State) : Bool := decide ((localToUtc s (localSec s)).utc ≠ utcSec s)

/-- The reference of a repetitive controller (R126): the term is applied, it fades, learning is allowed. -/
structure RcRef where
  apply : Bool
  fading : Bool
  learn : Bool
  deriving DecidableEq, Repr

def rcRef (s : State) (n : Nat) : RcRef :=
  if Cfg.rcPeriodKind s n = 0 then
    match s.warp.ws with
    | .locked => ⟨true, false, true⟩
    | .holdover => ⟨true, false, false⟩
    | _ => ⟨true, true, false⟩
  else
    match s.cal.st with
    | 2 => ⟨true, false, !secondPass s⟩
    | 1 => ⟨true, false, false⟩
    | _ => ⟨false, false, false⟩

/-- Fold the mean error of the bin just left into the profile (R125). -/
def rcUpdate (s : State) (n : Nat) (rc : RcRt) : RcRt :=
  if rc.count = 0 then rc
  else
    let m := sat32 (roundDiv rc.sum rc.count)
    let p := nth 0 rc.profile rc.bin
    let q := sat32 (p - roundDiv (p * Cfg.rcRcForget s n) 65536 + roundDiv (Cfg.rcRcGain s n * m) 65536)
    let q := clampInt (-(Cfg.rcRcLimit s n)) (Cfg.rcRcLimit s n) q
    { rc with profile := setNth rc.profile rc.bin q, updates := rc.updates + 1, sum := 0, count := 0 }

/-- The controller at any evaluated sample: the bin changes, which folds in what the bin just left has gathered, and the fade
moves by one of 64 steps; a clock reference needs none (R125, R126). -/
def rcMove (s : State) (n stamp : Nat) (rc : RcRt) : RcRt :=
  if !Cfg.rcRcEnable s n then { rc with sum := 0, count := 0 }
  else
    let b := rcBin s n stamp
    let rc := if b = rc.bin then rc else { rcUpdate s n rc with bin := b, sum := 0, count := 0 }
    { rc with fade := if Cfg.rcPeriodKind s n ≠ 0 then 64 else if (rcRef s n).fading then rc.fade - 1
                else min 64 (rc.fade + 1) }

/-- The term and the controller at a sample in AUTO or CASCADE: the term is read LEAD_BINS ahead. -/
def rcStep (s : State) (n stamp : Nat) (rc : RcRt) : Int × RcRt :=
  if !Cfg.rcRcEnable s n then (0, { rcMove s n stamp rc with term := 0, st := 0 })
  else
    let rc := rcMove s n stamp rc
    let f := rcRef s n
    let p := nth 0 rc.profile ((rc.bin + Cfg.rcLeadBins s n) % Cfg.rcBins s n)
    let r := if f.apply then roundDiv (p * rc.fade) 64 else 0
    let st := if !f.apply then 4 else if rc.fade = 0 then 4 else if rc.fade < 64 then 3 else if f.learn then 1 else 2
    (r, { rc with term := r, st := st })

/-- RC_STATE 0 while nothing is applied or learned: MANUAL and TRACK (R126). -/
def rcIdle (s : State) (n stamp : Nat) (rc : RcRt) : RcRt := { rcMove s n stamp rc with term := 0, st := 0 }

/-! ### Modes (R112–R114) -/

/-- The enabled loops whose SP_SOURCE is loop `n`. -/
def slavesOf (s : State) (n : Nat) : List Nat :=
  (upTo 256).filter fun m => Cfg.loopEnable s m && Cfg.loopSpSource s m == n

/-- TRACK holds: no output of its own, at least one slave and none in CASCADE (R114). -/
def inTrack (s : State) (n : Nat) : Bool :=
  let sl := slavesOf s n
  Cfg.loopOutput s n == 0xFFFF && !sl.isEmpty && !(sl.any fun m => (getLoop s m).modeActive == 2)

/-- The mode of the next sample. -/
def nextMode (s : State) (n : Nat) : Nat := if inTrack s n then 3 else Cfg.lmMode s n

/-- The tracked value: the sp of the lowest-numbered slave (R114). -/
def trackVal (s : State) (n : Nat) : Int :=
  match slavesOf s n with
  | m :: _ => convPoint (Cfg.loopPoint s m) (Cfg.loopPoint s n) (getLoop s m).sp
  | [] => 0

/-! ### Levels above the owner (R122) -/

/-- A level of R19 above the owner's command replaces the command of an output channel; for a fan the start
sequence, table mode or boost does so too, on its D_LOOP, which has no channel, as on its Q_LOOP. -/
def chanReplaced (s : State) (n h : Nat) : Bool :=
  if h = 0xFFFF then fanHolds s n
  else if isSafe s h || !released s then true
  else if h < 288 then decide (s.io.fwd ≠ 1) || ioStageOff (getIo s (h - 256))
  else if h < 304 then decide (s.therm.dState ≠ 0) || decide (s.therm.lState ≠ 0)
  else if h < 308 then decide (s.therm.dState ≠ 0) || decide (s.therm.lState ≠ 0) || fanHolds s n
  else decide (s.therm.lState ≠ 0)

/-! ### Lanes (R98–R100) -/

def getLane (s : State) (i : Nat) : Lane :=
  if i = 0 then s.engine.laneA else if i = 1 then s.engine.laneB else s.engine.laneS

def modLane (s : State) (i : Nat) (f : Lane → Lane) : State :=
  { s with engine :=
      if i = 0 then { s.engine with laneA := f s.engine.laneA }
      else if i = 1 then { s.engine with laneB := f s.engine.laneB }
      else { s.engine with laneS := f s.engine.laneS } }

/-- LANE_STATUS (R111). -/
def laneStatus (s : State) : Nat :=
  let e := s.engine
  let b := fun (c : Bool) (w : Nat) => if c then w else 0
  e.first + 4 * e.second + b e.laneA.retired 16 + b e.laneB.retired 32 + b e.laneS.retired 64 + b e.degraded 128

/-- Lane S is the spare: not in the active pair and not retired. -/
def spareFree (s : State) : Bool :=
  s.engine.first != 2 && s.engine.second != 2 && !s.engine.laneS.retired

/-! ### The pool (R83) -/

/-- The pool sections that no loop holds. -/
def poolFree (s : State) : List Nat :=
  let used := (s.engine.loops.map fun p => p.2.pool).flatten
  (upTo 2048).filter fun i => !used.contains i

/-- The number of unassigned sections. -/
def poolFreeCount (s : State) : Nat := 2048 - ((s.engine.loops.map fun p => p.2.pool.length).foldl (· + ·) 0)

/-- A loop gets one more free section; which one the manual leaves open (R104, R108). -/
def poolTakeOne (s : State) (n : Nat) : State :=
  match poolFree s with
  | [] => s
  | a :: l =>
    let i := nth a (a :: l) (Config.poolPick n (getLoop s n).pool.length % (l.length + 1))
    modLoop s n fun r => { r with pool := r.pool ++ [i] }

/-- A loop gets `k` more sections, as long as any is free. -/
def poolTake (s : State) (n k : Nat) : State := forAll (upTo k) (fun s _ => poolTakeOne s n) s

/-- Assign pool sections after a COMMIT: a disabled loop holds none, a loop that shrinks frees the last ones,
one that grows keeps what it has (R83). -/
def poolAssign (s : State) : State :=
  let want := fun n => if rdLoopOn (comI s) n then rdSections (comI s) n else 0
  let s := forAll (upTo 256) (fun s n =>
    if (getLoop s n).pool.length ≤ want n then s
    else modLoop s n fun l => { l with pool := l.pool.take (want n) }) s
  forAll (upTo 256) (fun s n =>
    let k := (getLoop s n).pool.length
    if k < want n then poolTake s n (want n - k) else s) s

/-! ### The profile (R128) -/

/-- The profile is tagged with its period kind, cycles and bins; another tag, or no tag, sets it to zero. A PROFILE write
that waits for the next sample stays where it fits the new BINS (R129). -/
def rcRetag (s : State) (n : Nat) (zero : Bool) (rc : RcRt) : RcRt :=
  let k := Cfg.rcPeriodKind s n
  let c := Cfg.rcPeriodCycles s n
  let b := Cfg.rcBins s n
  if zero ∨ rc.kind ≠ k ∨ rc.cycles ≠ c ∨ rc.bins ≠ b then
    { rc with profile := List.replicate b 0, kind := k, cycles := c, bins := b, sum := 0, count := 0, fade := 64
              newProfile := rc.newProfile.filter fun q => q.length == b, clear := false }
  else rc

/-! ### Sync of a loop group (R103, R104) -/

/-- The four objects of a loop group. -/
def loopObjs (n : Nat) : List Nat := [0x4000 + n, 0x4400 + n, 0x4800 + n, 0x4C00 + n]

/-- A coefficient, the section count or the point of a loop differs between the committed set and the set in
force. -/
def loopCoefChanged (s : State) (n : Nat) : Bool :=
  committedVal s (memKey (0x4000 + n) 9) != cfgVal s (0x4000 + n) 9 ||
    (upTo 98).any fun m => committedVal s (memKey (0x4400 + n) m) != cfgVal s (0x4400 + n) m

/-- The command that a channel's stage holds, as a Q16 value (R107). -/
def stageCmd (s : State) (h : Nat) : Int :=
  if h < 288 then
    (match ecOfPwm s (h - 256) with
     | some e => roundDiv (getFan s (4 + e)).fine fineUnit
     | none => (getIo s (h - 256)).applied)
  else if h < 304 then
    (if (getVlv s (h - 288)).mode = 2 then roundDiv ((getVlv s (h - 288)).ref * 65536) 1000
     else if (getVlv s (h - 288)).cmdOn then 65536 else 0)
  else if h < 308 then
    (if isEngineFan s (h - 304) then (getFan s (h - 304)).vq else roundDiv (getFan s (h - 304)).fine fineUnit)
  else (getAo s (h - 332)).applied

/-- The latest command of a channel's owner, on or off as 1.0 or 0 for a SWITCHED valve (R18, R104). -/
def latestCmd (s : State) (h : Nat) : Int :=
  if 304 ≤ h ∧ h < 308 ∧ isEngineFan s (h - 304) then (getFan s (h - 304)).vq
  else if 288 ≤ h ∧ h < 304 ∧ Cfg.vlvChanMode s (h - 288) ≠ 2 then (if (getVlv s (h - 288)).cmdOn then 65536 else 0)
  else ownerCmd s h

/-- The channel's current command in the loop's format (R104): what its owner before the COMMIT had commanded, else what the
stage holds (R107); 0 where the loop names none. -/
def channelCmd (s : State) (n : Nat) : Int :=
  let h := Cfg.loopOutput s n
  convPoint 16 (Cfg.loopPoint s n) (match (getLoop s n).takeOver with
    | some q => q
    | none => if h = 0xFFFF then 0 else stageCmd s h)

/-- A loop starts to be evaluated: zero history, its output from the channel, a hand-over ahead. DESIGN CHOICE (log entry
43): where no COMMIT enables it now (output release, takeover), its TIMER counts from the start itself. -/
def loopBegin (s : State) (n : Nat) : State :=
  let t := channelCmd s n
  modLoop s n fun l =>
    { l with enabled := true, hist := List.replicate (Cfg.coefSectionCount s n) ({} : Hist), due := none
             out := t, handover := some t, takeOver := none, rampFromPv := true, samples := 0
             enableClk := s.clk, timerBase := s.clk, nextTimer := after s.clk (usecs (Cfg.loopSamplePeriod s n))
             lastSampleClk := s.clk, lastPv := none, overPending := false
             fault := false, stopped := false, flags := 0, modeFlags := 0, modeActive := Cfg.lmMode s n }

/-- The next multiple of SAMPLE_PERIOD, counted from where the loop's TIMER counts (R91). -/
def nextMultiple (s : State) (n : Nat) : Nat :=
  let p := usecs (Cfg.loopSamplePeriod s n)
  let b := (getLoop s n).timerBase
  after b (((s.clk - b) / p + 1) * p)

/-- A loop moves to the committed set (R103, R104); a new SAMPLE_PERIOD or TRIGGER sets the next TIMER sample (R91). -/
def loopTakeSet (s : State) (n : Nat) : State :=
  let wasOn := (getLoop s n).enabled
  let oldPoint := Cfg.loopPoint s n
  let changed := loopCoefChanged s n
  let oldTimer := (Cfg.loopTrigger s n, Cfg.loopSamplePeriod s n)
  let s := forAll (loopObjs n) takeObj s
  let s := syncDone (.loop n) s
  let on := Cfg.loopEnable s n
  let newPoint := Cfg.loopPoint s n
  let k := Cfg.coefSectionCount s n
  let s := modLoop s n fun l => { l with rc := rcRetag s n (decide (oldPoint ≠ newPoint)) l.rc }
  if on && !wasOn then (if released s then loopBegin s n else s)
  else if !on then modLoop s n fun l => { l with enabled := false, due := none }
  else
    let next := if (Cfg.loopTrigger s n, Cfg.loopSamplePeriod s n) = oldTimer then (getLoop s n).nextTimer else nextMultiple s n
    modLoop s n fun l =>
      let h := if oldPoint ≠ newPoint then List.replicate k ({} : Hist)
        else l.hist.take k ++ List.replicate (k - l.hist.length) ({} : Hist)
      { l with hist := h, nextTimer := next
               handover := if changed && Cfg.lmPresetOnCommit s n && l.handover.isNone then
                   some (convPoint oldPoint newPoint l.out) else l.handover }

/-! ### Samples that are due (R91, R93, R94) -/

/-- A sample of a loop falls due; one that has not started is discarded and counted (R93). -/
def loopDue (s : State) (n endClk : Nat) (result : Bool) : State :=
  if loopIdle s n then s
  else modLoop s n fun l =>
    { l with due := some ⟨endClk, result⟩
             overruns := l.overruns + if l.due.isSome then 1 else 0
             overPending := l.overPending || l.due.isSome }

/-- A new result of a source makes the samples of its RESULT loops due (R91, R455). -/
def resultDue (s : State) (code endClk : Nat) : State :=
  forAll ((upTo 256).filter fun n =>
    Cfg.loopEnable s n && Cfg.loopTrigger s n == 0 && Cfg.loopPvSource s n == code)
    (fun s n => loopDue s n endClk true) s

/-- The period of a loop in engine clocks, for the deadline of class C (R94). DESIGN CHOICE (log entry 47): that of a WARP or
RESULT loop is the inverse of its counted rate (R96, R455). -/
def loopPeriodClk (s : State) (n : Nat) : Nat :=
  let r := loopRate (fun o m => cfgI s o m) (runningPwm s) 256 n
  if r = 0 then 0 else (400000000 / r).floor.toNat

/-- The order in which due samples are served: class, then sample end, or deadline in class C (R94). -/
def serveKey (s : State) (n : Nat) : Nat × Nat :=
  let e := match (getLoop s n).due with
    | some d => d.endClk
    | none => 0
  let c := Cfg.loopClass s n
  (c, if c = 2 then e + loopPeriodClk s n else e)

/-- No due sample is to be served before that of loop `n`. -/
def servedNext (s : State) (n : Nat) : Bool :=
  let k := serveKey s n
  s.engine.loops.all fun p =>
    p.1 == n || p.2.due.isNone ||
      (let j := serveKey s p.1
       decide (k.1 < j.1) || (decide (k.1 = j.1) && decide (k.2 ≤ j.2)))

end Sys2Proof.Machine
end

