-- ==== Sys2Proof/Machine/LoomOps.lean ====
section
/-! DEFINITION. The operations of Loom: schedules, contactor commands, transitions, latency learning
(03_loom_scheduler). -/

namespace Sys2Proof.Machine

/-! ### Flags (R82) -/

def cfJitter : Nat := 0
def cfExcluded : Nat := 1
def cfLate : Nat := 2
def cfSkipped : Nat := 3
def cfRepeated : Nat := 4
def cfNoClosure : Nat := 5
def cfRestarted : Nat := 6

/-- Set or clear a flag of a circuit. -/
def circFlag (i : Nat) (b : Bool) (c : Circuit) : Circuit := { c with flags := Flag.set c.flags i b }

/-! ### Schedule entries (R68, R69) -/

def entBasis (w : Nat) : Nat := w / 2 ^ 28
def entDays (w : Nat) : Nat := w / 2 ^ 21 % 128
def entOn (w : Nat) : Bool := w / 2 ^ 20 % 2 = 1
def entTime (w : Nat) : Nat := w / 256 % 2048

/-- The signed TIME of an astronomical entry. -/
def entOffset (w : Nat) : Int := signed 11 (entTime w)

/-- An entry that R68 accepts. -/
def entryOk (w : Nat) : Bool :=
  decide (entBasis w ≤ 10) &&
    (if entBasis w = 0 then true
     else if entBasis w ≤ 2 then decide (entTime w ≤ 1439)
     else decide (-720 ≤ entOffset w) && decide (entOffset w ≤ 719))

/-- A switch instant: UTC second, action, SKIPPED, REPEATED. -/
structure SwitchAt where
  at_ : Int
  on : Bool
  skipped : Bool
  repeated : Bool
  deriving DecidableEq, Repr

/-- The instant of an entry for local date `d`; none when it is unused, DAYS leaves the date out or its
astronomical event does not occur (R69, R72). -/
def entryInstant (s : State) (w : Nat) (d : Int) : Option SwitchAt :=
  if entBasis w = 0 ∨ entBasis w > 10 ∨ ¬ (entDays w).testBit (weekdayOf d).toNat then none
  else if entBasis w = 1 then
    let m := localToUtc s (d * 86400 + entTime w * 60)
    some ⟨m.utc, entOn w, m.skipped, m.repeated⟩
  else if entBasis w = 2 then some ⟨d * 86400 + entTime w * 60, entOn w, false, false⟩
  else
    let e := astroEvent s (entBasis w - 3) d.toNat
    if e.1 = 0 then some ⟨e.2 + entOffset w * 60, entOn w, false, false⟩ else none

/-- The later of two instants; of coinciding ones the first, which has the lower index. -/
def laterOf (a b : Option SwitchAt) : Option SwitchAt :=
  match a, b with
  | some x, some y => if x.at_ < y.at_ then some y else some x
  | none, y => y
  | x, none => x

/-- The latest instant at or before UTC second `t`, among the entries and the dates from eight days before
to one day after (DESIGN CHOICE, log entry 21: R69 keeps the instants of three dates and does not say how far back the
latest one is looked for). -/
def latestSwitch (s : State) (entries : List Nat) (t : Int) : Option SwitchAt :=
  let day := localOf s t / 86400
  let all := entries.flatMap fun w => ((upTo 10).filterMap fun i : Nat => entryInstant s w (day - 8 + (i : Int)))
  (all.filter fun x => decide (x.at_ ≤ t)).foldl (fun m x => laterOf m (some x)) none

/-- The entries in use of a circuit. -/
def circEntries (s : State) (c : Nat) : List Nat := (upTo (Cfg.circEntryCount s c)).map (Cfg.circEntry s c)

/-- The entries in use of an occupancy program. -/
def progEntries (s : State) (p : Nat) : List Nat := (upTo (Cfg.progEntryCount s p)).map (Cfg.progEntry s p)

/-- The occupied period of a program is running; 255 has none (R74). -/
def occupiedNow (s : State) (p : Nat) : Bool :=
  if p > 15 ∨ s.cal.st = 0 then false
  else match latestSwitch s (progEntries s p) (utcSec s) with
    | some x => x.on
    | none => false

/-- The next start of an occupied period within 24 h (R130): an instant at which the program turns from no period, by the
instants before it, to one. Of coinciding instants that with the lowest index counts (R69). -/
def nextOccupied (s : State) (p : Nat) : Option Int :=
  if p > 15 then none
  else
    let t := utcSec s
    let day := localOf s t / 86400
    let es := progEntries s p
    let all := es.flatMap fun w => ((upTo 4).filterMap fun i : Nat => entryInstant s w (day - 1 + (i : Int)))
    let on := fun u : Int => match latestSwitch s es u with
      | some x => x.on
      | none => false
    let hits := (all.filter fun x => decide (t < x.at_) && decide (x.at_ ≤ t + 86400) && on x.at_ && !on (x.at_ - 1)).map
      fun x => x.at_
    match hits with
    | [] => none
    | h :: r => some (r.foldl min h)

/-! ### Learned values (R64) -/

/-- The learned values of a circuit. Until the first learned closure they are those of one that has learned nothing; only
the polarity of a closure is held before it. -/
def circLearn (s : State) (c : Nat) : CircLearn :=
  let fresh := fun p : Option Bool => (⟨Cfg.circLatInit s c, 1000, 0, Cfg.circRelInit s c, 0, p⟩ : CircLearn)
  match (getCirc s c).lrn with
  | none => fresh none
  | some l => if l.latCount = 0 then fresh l.polarity else l

/-- Change the learned values; Loom is to store them within 1 s (R64). -/
def setLearn (s : State) (c : Nat) (l : CircLearn) : State :=
  modCirc s c fun r => { r with lrn := some l, dirtyAt := some (r.dirtyAt.getD s.clk) }

/-- The length of the last cycle in engine clocks: the nominal period before any cycle has ended (DESIGN CHOICE, log
entry 22). -/
def lastCycle (s : State) : Nat := if s.warp.cycleClocks = 0 then nominalPeriod s else s.warp.cycleClocks

/-- Microseconds as wt of the last cycle, rounded half away from zero (R57). -/
def usToWt (s : State) (us : Nat) : Nat := (roundDiv (us * 65536 * 400) (lastCycle s)).toNat

/-- Wt between two stamps as µs of the last cycle. -/
def wtToUs (s : State) (wt : Int) : Int := roundDiv (wt * lastCycle s) (65536 * 400)

/-! ### Requests (R59, R70, R71) -/

/-- A circuit has learned to be on: it is on or closing. -/
def circOn (c : Circuit) : Bool := c.st = 1 ∨ c.st = 2

/-- The state that override, calendar fallback or schedule asks for; none: hold (R70, R71). -/
def circWanted (s : State) (c : Nat) : Option Bool :=
  match Cfg.circOverride s c with
  | 1 | 3 => some false
  | 2 | 4 => some true
  | _ =>
    if s.cal.st = 0 then
      (match Cfg.circCalFallback s c with
       | 0 => some false
       | 1 => some true
       | _ => none)
    else if Cfg.circEntryCount s c = 0 then none
    else (getCirc s c).sched

/-- Withdraw a command of a circuit that no sealed set holds. -/
def circWithdraw (s : State) (c : Nat) : State :=
  let own := fun a : ArmedCmd => a.kind = .close c ∨ a.kind = .open_ c
  if s.loom.building.any fun a => own a then
    modCirc { s with loom := { s.loom with building := s.loom.building.filter fun a => ¬ own a } } c
      fun r => { r with placed := false }
  else s

/-- A circuit that drives nothing moves straight between 0 and 2 (R452). -/
def circDirect (s : State) (c : Nat) : State :=
  let r := getCirc s c
  match r.due with
  | some b =>
    if Cfg.circOutput s c = 0xFFFF ∧ r.minUntil ≤ s.clk then
      modCirc s c fun r =>
        { r with st := if b then 2 else 0, due := none
                 minUntil := after s.clk (secs (if b then Cfg.circMinOn s c else Cfg.circMinOff s c)) }
    else s
  | none => s

/-- Ask a circuit for a state; one in the same direction has no effect (R59). -/
def circAsk (s : State) (c : Nat) (b : Bool) : State :=
  let r := getCirc s c
  if circOn r = b ∧ ¬ r.placed then modCirc s c fun r => { r with due := none }
  else if circOn r = b then modCirc (circWithdraw s c) c fun r => { r with due := none }
  else circDirect (modCirc s c fun r => { r with due := some b }) c

/-- Make a circuit due at what it is asked to be (R69, R71). -/
def circRefresh (s : State) (c : Nat) : State :=
  if !Cfg.circEnable s c then s
  else match circWanted s c with
    | some b => circAsk s c b
    | none => s

/-! ### Placing a command (R57, R58, R65, R67) -/

/-- The circuit zero of index `k` of a circuit: positive-going for even k. -/
def circZero (s : State) (c k : Nat) : Nat := k * 32768 + Cfg.circZeroOffset s c

/-- The circuit zero at a Warp time is a positive-going one. -/
def zeroPositive (s : State) (c z : Nat) : Bool := decide ((z - Cfg.circZeroOffset s c) % 65536 = 0)

/-- The polarity that the next closure may take: some true positive-going only, none any. -/
def wantedPolarity (s : State) (c : Nat) : Option Bool :=
  match Cfg.circClosePolarity s c with
  | 1 => some true
  | 2 => some false
  | 3 => some (!((circLearn s c).polarity.getD false))
  | _ => none

/-- The first closing command at or after Warp time `from_`: command time and zero (R57). -/
def closePlace (s : State) (c from_ : Nat) : Nat × Nat :=
  let lat := usToWt s (circLearn s c).latMean
  let off := Cfg.circZeroOffset s c
  let k := (from_ + lat - off + 32767) / 32768
  let k := if from_ + lat ≤ off then 0 else k
  let k := match wantedPolarity s c with
    | none => k
    | some pos => if decide (k % 2 = 0) = pos then k else k + 1
  (circZero s c k - lat, circZero s c k)

/-- The first opening command at or after `from_`: command time and current zero (R58). -/
def openPlace (s : State) (c from_ : Nat) : Nat × Nat :=
  let l := circLearn s c
  let lead := usToWt s (Cfg.circOpenLead s c) + usToWt s l.relMean
  let off := Cfg.circZeroOffset s c + l.curLag
  let k := if from_ + lead ≤ off then 0 else (from_ + lead - off + 32767) / 32768
  (k * 32768 + off - lead, k * 32768 + off)

/-- The window of a closure in wt (R67). -/
def closeWindow (s : State) (c : Nat) : Nat :=
  let l := circLearn s c
  usToWt s (l.latMean + 3 * l.latSpread)

/-- The card peak current of a VLV channel in mA: P0 of the committed set. -/
def cardPeak (s : State) (h : Nat) : Nat := comN s (0x7100 + (h - 288)) 11

/-- A closure on a bank (R67): its circuit, its command instant, its peak, and whether it can still be moved. -/
structure BankClose where
  circ : Nat
  at_ : Nat
  peak : Nat
  movable : Bool
  deriving DecidableEq, Repr

/-- The closures on bank `b`: those placed, those sealed, and those whose transition runs. -/
def bankCloses (s : State) (b : Nat) : List BankClose :=
  let here := fun h : Nat => decide (288 ≤ h) && (h - 288) / 4 == b
  let armed := fun (m : Bool) (l : List ArmedCmd) => l.filterMap fun a =>
    match a.kind with
    | .close c => if here a.heddle then some (⟨c, a.warp, cardPeak s a.heddle, m⟩ : BankClose) else none
    | _ => none
  let running := (upTo 32).filterMap fun c =>
    match (getCirc s c).trans with
    | some t => if t.close && here (Cfg.circOutput s c) then
        some (⟨c, t.cmdWarp, cardPeak s (Cfg.circOutput s c), false⟩ : BankClose) else none
    | none => none
  armed true s.loom.building ++ armed false s.loom.sealed_ ++ running

/-- The windows of two closures overlap. -/
def windowsMeet (s : State) (x y : BankClose) : Bool :=
  decide (x.at_ ≤ y.at_ + closeWindow s y.circ) && decide (y.at_ ≤ x.at_ + closeWindow s x.circ)

/-- The highest-numbered circuit that is to be moved on a bank: of a placed closure and those whose windows overlap its own,
when there are any and their peaks together exceed the bank peak limit. -/
def bankMover (s : State) (b : Nat) : Option Nat :=
  let all := bankCloses s b
  let tooMuch := fun x : BankClose => x.movable &&
    (let with_ := all.filter fun y => windowsMeet s x y
     decide (1 < with_.length) &&
       decide (Cfg.bankPeakLimit s b * 1000 < ((((with_.map fun y => y.peak).foldl (· + ·) 0) * 65536 : Nat) : Int)))
  match all.find? tooMuch with
  | none => none
  | some x => ((all.filter fun y => y.movable && windowsMeet s x y).map fun y => y.circ).max?

/-- The placed command of a circuit moves to its next allowed zero; one that aims at no zero, to the next cycle. -/
def placeNext (s : State) (c : Nat) : State :=
  let move := fun a : ArmedCmd =>
    if a.kind = .close c then
      if a.targeted then
        let p := closePlace s c (a.warp + 1)
        { a with warp := p.1, zero := p.2, positive := zeroPositive s c p.2 }
      else { a with warp := (a.warp / 65536 + 1) * 65536 }
    else a
  modCirc { s with loom := { s.loom with building := s.loom.building.map move } } c (circFlag cfLate true)

/-- Closures on bank `b` move on until the peaks of overlapping ones fit its limit (R67). After 1024 moves they stay where
they are (DESIGN CHOICE, log entry 23). -/
def bankSettle (b : Nat) : Nat → State → State
  | 0, s => s
  | fuel + 1, s =>
    match bankMover s b with
    | none => s
    | some c => bankSettle b fuel (placeNext s c)

/-- Place the command of a due circuit in the first set not sealed, which starts at Warp time `from_`. -/
def circPlace (s : State) (c from_ : Nat) (b : Bool) : State :=
  let h := Cfg.circOutput s c
  let aim := decide (s.warp.ws = .locked ∨ s.warp.ws = .holdover)
  let p : Nat × Nat := if !aim then (from_, 0) else if b then closePlace s c from_ else openPlace s c from_
  let a : ArmedCmd := ⟨p.1, h, if b then .close c else .open_ c, p.2, aim, b && zeroPositive s c p.2⟩
  let s := { s with loom := { s.loom with building := s.loom.building ++ [a] } }
  let s := modCirc s c fun r => circFlag cfLate false { r with placed := true }
  if b ∧ 288 ≤ h then bankSettle ((h - 288) / 4) 1024 s else s

/-! ### Transitions (R59–R63) -/

/-- The time limit of a transition in engine clocks: 4 × LAT_SPREAD + LAT_MEAN. -/
def transLimit (s : State) (c : Nat) : Nat :=
  let l := circLearn s c
  usecs (4 * l.latSpread + l.latMean)

/-- A transition starts at its command instant. A targeted closure sets the polarity held: that of the zero it was placed
for (R57). -/
def transStart (s : State) (c : Nat) (close : Bool) (a : ArmedCmd) : State :=
  let tr : Trans :=
    { close := close, cmdWarp := a.warp, deadline := s.clk + transLimit s c
      zero := a.zero, targeted := a.targeted, delayed := false
      tainted := decide (s.warp.ws ≠ .locked) || s.warp.realigned, seat := none, load := none }
  let s := modCirc s c fun r =>
    { r with st := if close then 1 else 3, trans := some tr, due := none, placed := false, seatWarp := none
             lowSince := none }
  if close && a.targeted then setLearn s c { circLearn s c with polarity := some a.positive } else s

/-- The end of a transition: the state it led to, and MIN_ON or MIN_OFF from here (R59). -/
def transEnd (s : State) (c : Nat) : State :=
  let r := getCirc s c
  match r.trans with
  | none => s
  | some t =>
    let s := modCirc s c fun r =>
      { r with st := if t.close then 2 else 0, trans := none
               minUntil := after s.clk (secs (if t.close then Cfg.circMinOn s c else Cfg.circMinOff s c)) }
    circRefresh s c

/-- Warp leaves LOCKED or a realigned cycle runs: the transitions in flight teach nothing (R62). -/
def taintTransitions (s : State) : State :=
  forAll (upTo 32) (fun s c =>
    if (getCirc s c).trans.isSome then
      modCirc s c fun r => { r with trans := r.trans.map fun t => { t with tainted := true } }
    else s) s

/-- The square root of num / den rounded half away from zero. -/
def sqrtFrac (num den : Nat) : Nat := if den = 0 then 0 else (isqrt (4 * num / den) + 1) / 2

/-- The new learned values for a latency of `num` / `u` µs (R61): mean, spread, count, and whether the
sample is an outlier; `cons` are the consecutive outliers before it. -/
structure LearnStep where
  mean : Nat
  spread : Nat
  count : Nat
  outlier : Bool
  restarted : Bool
  deriving DecidableEq, Repr

/-- One step of R61. -/
def learnStep (l : CircLearn) (div num u cons : Nat) : LearnStep :=
  let round := (roundDiv num u).toNat
  if l.latCount = 0 then ⟨round, l.latSpread, 1, false, false⟩
  else
    let d : Int := num - l.latMean * u
    if l.latCount ≥ 8 ∧ d.natAbs > (4 * l.latSpread + 500) * u then
      if cons + 1 = 3 then ⟨round, 1000, 1, true, true⟩
      else ⟨l.latMean, l.latSpread, l.latCount, true, false⟩
    else
      let k := min (l.latCount + 1) div
      let mean := (roundDiv ((l.latMean * u * k : Nat) + d) (u * k)).toNat
      let var : Int := (l.latSpread * l.latSpread * (k - 1) * u * u : Nat) + d * d
      ⟨mean, sqrtFrac var.toNat (k * u * u), l.latCount + 1, false, false⟩

/-- RMS of the closure errors, µs (R63). -/
def closeErrRms (c : Circuit) : Nat :=
  sqrtFrac ((c.errs.map fun e => (e * e).toNat).foldl (· + ·) 0) c.errs.length

/-- JITTER_EXCESS: the bound of R63 applies and is not met. -/
def jitterExcess (s : State) (c : Nat) : Bool :=
  let l := circLearn s c
  decide (s.warp.ws = .locked) && decide (16 ≤ l.latCount) &&
    decide (max (3 * l.latSpread) 80 < 2 * closeErrRms (getCirc s c))

/-- FLAGS of a circuit as it reads (R82): JITTER_EXCESS follows its bound at every instant. -/
def circFlags (s : State) (c : Nat) : Flags := Flag.set (getCirc s c).flags cfJitter (jitterExcess s c)

/-- Jacquard delayed the pull-in of the circuit's running closure (R62, R179). -/
def closeDelayed (s : State) (c : Nat) (t : Trans) : Bool :=
  t.delayed ||
    (let h := Cfg.circOutput s c
     decide (288 ≤ h) && decide (h < 304) && Flag.get (getVlv s (h - 288)).flags fPullinDelayed)

/-- A closure is found at Warp time `stamp` (R60–R63): the transition ends and, unless R62 excludes it, the
latency is learned. -/
def closureFound (s : State) (c stamp : Nat) : State :=
  let r := getCirc s c
  match r.trans with
  | none => s
  | some t =>
    if !t.close then s
    else
      let u := 65536 * 400
      let num := (stamp - t.cmdWarp) * lastCycle s
      let s :=
        if t.tainted || closeDelayed s c t || !t.targeted then modCirc s c (circFlag cfExcluded true)
        else
          let l := circLearn s c
          let q := learnStep l (Cfg.loomLearnDiv s) num u r.consec
          let err := roundDiv (((stamp : Int) - t.zero) * lastCycle s) u
          let s := modCirc s c fun r =>
            circFlag cfRestarted (Flag.get r.flags cfRestarted || q.restarted)
              (circFlag cfExcluded false
                { r with outliers := r.outliers + if q.outlier then 1 else 0
                         consec := if q.outlier && !q.restarted then r.consec + 1 else 0
                         errs := lastN 32 (r.errs ++ [err]) })
          setLearn s c { l with latMean := q.mean, latSpread := q.spread, latCount := q.count }
      let s := modCirc s c fun r => circFlag cfNoClosure false r
      transEnd s c

/-- A release is found at Warp time `stamp` (R61): REL_MEAN moves by a quarter of OPEN_LEAD when it lands a
half cycle from its target. Before the first learned closure it stays REL_INIT (R64). -/
def releaseFound (s : State) (c stamp : Nat) : State :=
  match (getCirc s c).trans with
  | none => s
  | some t =>
    if t.close then s
    else
      let s :=
        if t.tainted || t.delayed || !t.targeted then modCirc s c (circFlag cfExcluded true)
        else
          let l := circLearn s c
          let step := (roundDiv (Cfg.circOpenLead s c) 4).toNat
          let halves := roundDiv ((stamp : Int) - t.zero) 32768
          let rel := if l.latCount = 0 then l.relMean else if halves = 1 then l.relMean + step
            else if halves = -1 then l.relMean - step else l.relMean
          let s := modCirc s c (circFlag cfExcluded false)
          if rel = l.relMean then s else setLearn s c { l with relMean := rel }
      let s := modCirc s c fun r => circFlag cfNoClosure false r
      transEnd s c

/-- The circuits that drive a heddle entry. -/
def circsOf (s : State) (h : Nat) : List Nat :=
  (upTo 32).filter fun c => Cfg.circEnable s c && Cfg.circOutput s c == h

/-- SEAT_TO_LOAD of a seat and a load-current start (R60). -/
def noteSeatToLoad (s : State) (c seat load : Nat) : State :=
  modCirc s c fun r => { r with seatToLoad := wtToUs s ((load : Int) - seat), seatWarp := none }

/-- A seat stamp from Jacquard (R60): the closure instant, and the base of SEAT_TO_LOAD. -/
def loomSeat (s : State) (v stamp : Nat) (delayed : Bool) : State :=
  forAll (circsOf s (288 + v)) (fun s c =>
    match (getCirc s c).trans with
    | some t =>
      if t.close then
        let s := modCirc s c fun r =>
          { r with seatWarp := some stamp
                   trans := r.trans.map fun t => { t with seat := some stamp, delayed := delayed } }
        closureFound (match t.load with
          | some w => noteSeatToLoad s c stamp w
          | none => s) c stamp
      else s
    | none => s) s

/-- A seat may still come for the running closure: its card has not left the pull-in (R60). -/
def seatMayCome (s : State) (c : Nat) : Bool :=
  let h := Cfg.circOutput s c
  decide (288 ≤ h) && decide (h < 304) &&
    (match (getVlv s (h - 288)).st with
     | .waitGrant | .pullin | .wait5200 => true
     | _ => false)

/-- The load current of a closing circuit flows (R60): while a seat may come its start waits; else it is the closure, by
LOAD_DELAY earlier. -/
def loadStart (s : State) (c stamp : Nat) : State :=
  match (getCirc s c).trans with
  | some t =>
    if !t.close then s
    else
      let from_ := t.load.getD stamp
      if seatMayCome s c then
        modCirc s c fun r => { r with trans := r.trans.map fun t => { t with load := some from_ } }
      else closureFound s c (from_ - usToWt s (Cfg.circLoadDelay s c))
  | none => s

/-- A zero crossing of the load current at `at_`: the peak of the half cycle that ends, and CURRENT_LAG from the positive-going
ones, learned in LOCKED only (R60, R65). -/
def loadCrossing (s : State) (c : Nat) (pos : Bool) (mag : Int) (at_ : Nat) : State :=
  let learn := pos && decide (s.warp.ws = .locked)
  let lag := (at_ + 65536 - Cfg.circZeroOffset s c) % 65536
  let s := modCirc s c fun r =>
    { r with sign := pos, prevPeak := if r.peak = 0 then r.prevPeak else r.peak
             peak := mag, lags := if learn then lastN 64 (r.lags ++ [lag]) else r.lags }
  let lags := (getCirc s c).lags
  if learn && decide ((circLearn s c).latCount ≠ 0) then
    setLearn s c { circLearn s c with curLag := (roundDiv (lags.foldl (· + ·) 0 : Nat) lags.length).toNat }
  else s

/-- One load-current result of a circuit (R60): load-current start, current lag, release. Current flows from 2 % of the
last peak on; a zero crossing is the first result below that, or else the first of the other sign (log entry 24). -/
def loadSample (s : State) (c : Nat) (v : Int) (stamp : Nat) : State :=
  let r := getCirc s c
  let mag : Int := v.natAbs
  let pos := decide (0 ≤ v)
  if decide (0 < mag) && decide (r.prevPeak ≤ mag * 50) then
    let s := loadStart s c stamp
    let s := match r.seatWarp with
      | some w => noteSeatToLoad s c w stamp
      | none => s
    let s := if pos != r.sign then loadCrossing s c pos mag (r.lowSince.getD stamp)
      else modCirc s c fun r => { r with peak := max r.peak mag }
    modCirc s c fun r => { r with lowSince := none }
  else
    let s := modCirc s c fun r => { r with lowSince := some (r.lowSince.getD stamp) }
    match (getCirc s c).lowSince with
    | some w => if w + 32768 ≤ stamp then releaseFound s c w else s
    | none => s

/-- A result of AI k reaches the circuits that name it as LOAD_INPUT. -/
def loomLoad (s : State) (k : Nat) (v : Int) (stamp : Nat) : State :=
  forAll ((upTo 32).filter fun c => Cfg.circEnable s c && Cfg.circLoadInput s c == 308 + k)
    (fun s c => loadSample s c v stamp) s

/-! ### Commands to the outputs -/

/-- Apply what Loom now commands on a circuit's output. -/
def loomDrive (s : State) (h word : Nat) : State :=
  if !drives s h then s
  else if h < 288 then ioApply s (h - 256)
  else if h < 304 then vlvCommandFree s (h - 288) word
  else s

/-- An armed command of a circuit acts (R56, R59). -/
def circAct (s : State) (c : Nat) (close : Bool) (word : Nat) (a : ArmedCmd) : State :=
  loomDrive (transStart s c close a) a.heddle word

/-- PHASE_TRUE (R65). -/
def phaseTrue (s : State) : Bool := s.warp.ws = .locked ∨ s.warp.ws = .holdover

/-! ### Zones -/

/-- The learned rates of a zone in Q16 K/h, or the initial ones (R131). -/
def zoneRates (s : State) (z : Nat) : Int × Int :=
  match (getZone s z).rates with
  | some p => p
  | none => (Cfg.zoneHeatRateInit s z, Cfg.zoneCoolRateInit s z)

end Sys2Proof.Machine
end

