-- ==== Sys2Proof/Machine/Operands.lean ====
section
/-! DEFINITION. The operand forms of the dictionary: abort codes, the bytes of a value, the values that bytes
spell (11_object_dictionary, R242, R243, R255, R257). -/

namespace Sys2Proof.Machine

/-! ### Abort codes (R255); 0 is success -/

namespace Ab

def noObject : Nat := 1
def noMember : Nat := 2
def readOnly : Nat := 3
def writeOnly : Nat := 4
def type : Nat := 5
def range : Nat := 6
def accessLevel : Nat := 7
def groupInconsistent : Nat := 8
def lengthZero : Nat := 9
def busy : Nat := 10
def safetyLocked : Nat := 11
def schemaVersion : Nat := 12
def state : Nat := 13
def storage : Nat := 14

end Ab

/-- The first code that is not 0. -/
def firstCode : List Nat → Nat
  | [] => 0
  | c :: t => if c = 0 then firstCode t else c

/-- `code` when the condition holds, else 0. -/
def codeIf (b : Bool) (code : Nat) : Nat := if b then code else 0

/-! ### Values as bytes -/

/-- The bytes of a value of a type (R242). -/
def valBytes (t : MType) (v : Val) : List Byte :=
  match v with
  | .bytes b => b
  | .num n => leBytes t.size (unsigned (8 * t.size) n)

/-- A value lies in its type (R242). -/
def fitsType (t : MType) (v : Int) : Bool :=
  if t.isSigned then decide (-(2 ^ (8 * t.size - 1) : Int) ≤ v) && decide (v < (2 ^ (8 * t.size - 1) : Int))
  else decide (0 ≤ v) && decide (v < (2 ^ (8 * t.size) : Int))

/-- A number as a member of a type holds it: itself, or a free value where it lies outside the type (log entry 8). -/
def typed (t : MType) (v : Int) : Int :=
  if fitsType t v then v
  else if t.isSigned then signed (8 * t.size) (Config.outsideType t.size v)
  else ((Config.outsideType t.size v % 2 ^ (8 * t.size) : Nat) : Int)

/-- The bytes of a value in a list of items: STR and BLOB preceded by their length (R276, R451). -/
def itemBytes (t : MType) (v : Val) : List Byte :=
  match v with
  | .bytes b => leBytes 2 b.length ++ b
  | .num _ => valBytes t v

/-- The value that the bytes of a write spell (R242). -/
def dataVal (t : MType) (l : List Byte) : Val :=
  if t = .str ∨ t = .blob then .bytes l
  else if t.isSigned then .num (signed (8 * t.size) (leNat l))
  else .num (leNat l)

/-- The number of a value. -/
def valInt (v : Val) : Int :=
  match v with
  | .num n => n
  | .bytes _ => 0

/-- The number of an unsigned value. -/
def valNat (v : Val) : Nat := (valInt v).toNat

/-- The bytes of a BLOB value. -/
def valBlob (v : Val) : List Byte :=
  match v with
  | .num _ => []
  | .bytes b => b

/-! ### Lengths (R243, R257) -/

/-- The length a BLOB member requires; none: it varies, and the owning operation checks it. -/
def blobLen (o m : Nat) : Option Nat :=
  if o = 0xB010 then some 64
  else if o = 0x1041 ∧ m = 10 then some 64
  else none

/-- LENGTH_ZERO: a BLOB write of length 0 (R257). -/
def lengthZeroOf (t : MType) (l : List Byte) : Bool := t == .blob && l.isEmpty

/-- TYPE: a wrong length, or a STR that is no UTF-8 (R243). -/
def typeBad (t : MType) (o m : Nat) (l : List Byte) : Bool :=
  if t = .str then decide (64 < l.length) || !isUtf8 l
  else if t = .blob then
    match blobLen o m with
    | some n => decide (l.length ≠ n)
    | none => o == 0x1040 && decide (512 < l.length)
  else decide (l.length ≠ t.size)

/-- RANGE: a BOOL other than 0 or 1, or a value outside the Meaning column (R242, R243). -/
def rangeBad (d : MemDef) (v : Val) : Bool :=
  match v with
  | .bytes _ => false
  | .num n => if d.ty = .bool then decide (n ≠ 0 ∧ n ≠ 1) else !d.inRange n

end Sys2Proof.Machine
end

