-- ==== Sys2Proof/Machine/Members.lean ====
section
/-! DEFINITION. What every member of the dictionary reads: the object tables of the chapters (R39–R51, R82,
R97–R111, R129–R133, R157, R187–R190, R207–R208, R222–R224, R239–R240, R267, R291, R313–R315, R335–R336,
R356–R357, R369–R370, R389–R390, R402, R421–R422). -/

namespace Sys2Proof.Machine

def b2i (b : Bool) : Int := if b then 1 else 0

/-- WARP_STATE (R31). -/
def warpCode (s : State) : Nat :=
  match s.warp.ws with
  | .synthetic => 0
  | .acquiring => 1
  | .locked => 2
  | .holdover => 3

/-- PRODUCT, VENDOR_NAME in UTF-8. -/
def ascii (l : List Nat) : List Byte := bytes1 l

def vendorName : List Byte := ascii [87, 97, 105, 108, 117, 122, 97, 110]

def productName : List Byte :=
  ascii [83, 72, 78, 54, 52, 48, 48] ++ if Config.variantE then ascii [45, 69] else []

/-- SCHEMA_VERSION of schema 1.4 (R258). -/
def schemaVersion : Nat := 0x00010400

/-- Running firmware. -/
def fwVersion (s : State) : Nat := nth 0 s.mram.slotVersion s.mram.bootSlot

/-- START_STATE (R421). -/
def startState (s : State) : Nat :=
  match s.power.phase with
  | .reset | .boot => 0
  | .signature | .recovery => 1
  | .repairMap => 2
  | .memTest => 3
  | .config => 4
  | .warp => 5
  | .operational => 6
  | .held => 8
  | _ => 7

/-! ### Result records (R147) -/

/-- The 16 bytes of a result record. -/
def resBytes (r : ResRec) : List Byte :=
  leBytes 4 (unsigned 32 r.value) ++ leBytes 2 r.raw ++ bytes1 [r.flags, r.seq] ++ leBytes 8 r.stamp

/-! ### Reported values of a mirrored loop (R322) -/

/-- A standby reports the mirrored values of a PAIRED loop. -/
def mirLoop (s : State) (n : Nat) : Option MirLoop :=
  if isStandby s && !isLocalLoop s n then (s.pair.mirror.loops.find? fun p => p.1 == n).map fun p => p.2
  else none

def loopOut (s : State) (n : Nat) : Int :=
  match mirLoop s n with
  | some m => m.u
  | none => (getLoop s n).out

def loopRamp (s : State) (n : Nat) : Int :=
  match mirLoop s n with
  | some m => m.spRamp
  | none => (getLoop s n).spRamp

/-! ### The CRCs over the configuration (R386, R451) -/

/-- The configuration members of an object that satisfy `p`, as bytes. -/
def objBytes (s : State) (d : ObjDef) (o : Nat) (p : MemDef → Nat → Bool) : List Byte :=
  (upTo d.top).flatMap fun j =>
    match d.mems.find? fun x => x.covers (j + 1) with
    | none => []
    | some x =>
      let k := memKey o (j + 1)
      if inConfig k (committedVal s k) && p x k then itemBytes x.ty (committedVal s k) else []

/-- The configuration as bytes in ascending order of object and member. -/
def configBytes (s : State) (p : MemDef → Nat → Bool) : List Byte :=
  schema.flatMap fun d => (upTo d.count).flatMap fun i => objBytes s d (d.base + i) p

/-- CONFIG_CRC: all but the two codes. -/
def configCrc (s : State) : Nat := crc32 (configBytes s fun _ k => k != 0x101101 && k != 0x101102)

/-- SAFETY_CRC: the level-3 members other than SAFETY_PUBKEY, then the key. -/
def safetyCrc (s : State) : Nat :=
  crc32 (configBytes s (fun x k => x.level == 3 && k != 0xB01002) ++ valBlob (committedVal s 0xB01002))

/-! ### Numbers -/

/-- Warp objects. -/
def readWarp (s : State) (m : Nat) : Int :=
  match m with
  | 1 => warpNow s
  | 2 => warpCode s
  | 3 => b2i (synthetic s)
  | 4 => if synthetic s then 0 else s.warp.freq
  | 5 => s.warp.ampl
  | 6 => s.warp.phaseErr
  | 7 => s.warp.cycleClocks
  | 8 => s.warp.phaseSteps
  | 9 => s.warp.lastStep
  | _ => s.warp.align

/-- Calendar objects 0x2010 and 0x2011. -/
def readCal (s : State) (o m : Nat) : Int :=
  if o = 0x2010 then
    match m with
    | 1 => s.cal.now
    | 3 => s.cal.st
    | 4 => s.cal.slewLeft
    | 5 => localNow s
    | 6 => utcOffsetNow s
    | _ => s.cal.steps
  else
    match m with
    | 1 => s.cal.tempCorr
    | 2 => s.cal.gridCorr
    | 3 => s.cal.gridTarget
    | 6 => s.cal.coverage
    | _ => s.cal.vrtc

/-- The astronomical events of a date. -/
def readAstro (a : Astro) (m : Nat) : Int :=
  if m ≤ 8 then (nth 0 a.events (m - 1) : Nat) else if m = 9 then a.flags else a.date

/-- Learned values of a circuit. -/
def readCirc (s : State) (c m : Nat) : Int :=
  let l := circLearn s c
  match m with
  | 1 => l.latMean
  | 2 => l.latSpread
  | 3 => l.latCount
  | 4 => l.relMean
  | 5 => l.curLag
  | 6 => closeErrRms (getCirc s c)
  | 7 => (getCirc s c).seatToLoad
  | 8 => (getCirc s c).outliers
  | _ => (circFlags s c).toNat

/-- Zone objects. -/
def readZone (s : State) (z m : Nat) : Int :=
  let r := getZone s z
  match m with
  | 12 => r.mode
  | 13 => r.sp
  | 14 => r.prestartAt
  | 22 => (zoneRates s z).1
  | 23 => (zoneRates s z).2
  | 24 => r.lastErr
  | _ => r.count

/-- Loop objects 0x4800 + n. -/
def readLoop (s : State) (n m : Nat) : Int :=
  let l := getLoop s n
  match m with
  | 1 => l.pv
  | 2 => l.sp
  | 3 => l.err
  | 4 => loopOut s n
  | 5 => l.outStamp
  | 6 => l.lastDelay
  | 7 => l.minDelay
  | 8 => l.maxDelay
  | 9 => l.samples
  | 10 => l.overruns
  | 11 => l.delayExcess
  | 12 => l.retries
  | 13 => l.flags.toNat
  | 15 => l.pool.headD 0xFFFF
  | 18 => l.modeActive
  | 25 => loopRamp s n
  | 26 => l.presetResidual
  | 27 => l.handovers
  | _ => l.modeFlags.toNat

/-- Repetitive objects 0x4C00 + n. -/
def readRc (s : State) (n m : Nat) : Int :=
  let r := (getLoop s n).rc
  match m with
  | 10 => r.term
  | 11 => r.bin
  | 12 => r.st
  | 13 => r.saved
  | _ => r.updates

/-- Engine objects. -/
def readEngine (s : State) (m : Nat) : Int :=
  match m with
  | 1 => poolFreeCount s
  | 2 => engineLoad s
  | 3 => laneStatus s
  | 4 => s.engine.laneA.faults
  | 5 => s.engine.laneB.faults
  | 6 => s.engine.laneS.faults
  | _ => classSections (comI s) 0

/-- Valve objects 0x7200 + v. -/
def readVlv (s : State) (v m : Nat) : Int :=
  let c := getVlv s v
  match m with
  | 3 => vlvStateCode c
  | 4 => c.diag.toNat
  | 5 => c.flags.toNat
  | 6 => c.seatStamp
  | 7 => c.pullinDelay
  | 8 => c.pullinTime
  | 9 => c.eCoil
  | 10 => c.eMag
  | 11 => c.energyFactor
  | 12 => (nth 0 c.learned 0 : Nat)
  | 13 => (nth 0 c.learned 1 : Nat)
  | 14 => (nth 0 c.learned 2 : Nat)
  | 15 => (nth 0 c.learned 3 : Nat)
  | 16 => c.learnedAt
  | 17 => c.band
  | 18 => vlvRefNow s v
  | 19 => c.coilRes
  | _ => c.actuations

/-- The words of an engine's card memory, least significant byte first. -/
def cardBytes (s : State) (j : Nat) : List Byte :=
  (upTo 256).flatMap fun a => leBytes 4 (Table.getD (blank 0#32) s.valve.cards (256 * j + a)).toNat

/-- Bank objects. -/
def readBank (s : State) (b m : Nat) : Int :=
  let k := getBank s b
  match m with
  | 2 => k.rail
  | 3 => budgetUsed s b
  | 4 => k.band
  | 5 => k.waits
  | _ => k.trips

/-- Field I/O objects 0x6200 + i. -/
def readIo (s : State) (i m : Nat) : Int :=
  let c := getIo s i
  match m with
  | 2 => ioInState c
  | 3 => c.edgeStamp
  | 4 => c.inCurrent
  | 5 => c.outCurrent
  | 6 => c.status.toNat
  | 7 => c.tachFreq
  | _ => c.edges

/-- GROUP_STATE (R207). -/
def groupState (s : State) (g : Nat) : Nat :=
  if (getGroup s g).lost then 1
  else if (upTo 8).any fun j => Flag.get (getIo s (8 * g + j)).status ioShed then 2 else 0

/-- Group objects. -/
def readGroup (s : State) (g m : Nat) : Int :=
  match m with
  | 1 => Config.fieldSupply g s.clk % 65536
  | 2 => groupSum s g
  | 3 => groupState s g
  | _ => (getGroup s g).sheds

/-- Fan objects 0x8100 + f. -/
def readFan (s : State) (f m : Nat) : Int :=
  let c := getFan s f
  match m with
  | 2 => c.speed
  | 3 => roundDiv c.fine fineUnit
  | 4 => c.st
  | 5 => c.flags.toNat
  | 6 => c.attempts
  | _ => if f < 4 then fanLimit s f else 0

/-- BOOST_ACTIVE. -/
def boostActive (s : State) : Nat :=
  ((upTo 12).map fun f => if isBoosted s f then 2 ^ f else 0).foldl (· + ·) 0

/-- Display objects; the flags of the ledgers as each waveform that has ended leaves them (R233). -/
def readDisp (s : State) (m : Nat) : Int :=
  match m with
  | 17 => s.disp.st
  | 18 => (ledgerSettle s).disp.flags.toNat
  | 19 => s.disp.band
  | 20 => s.disp.vlcd
  | _ => s.disp.rounds

/-- LEDGER of a segment; 0 in TN mode (R239). -/
def readLedger (s : State) (g : Nat) : Int :=
  if s.disp.mode = 1 then 0 else ledgerOf (ledgerSettle s) g

/-- The group of a unit that waits: channels of one block count as one group (R252). -/
def syncGroup : SyncUnit → Nat
  | .warp => 0
  | .valve _ => 1
  | .fan _ => 2
  | .display => 3
  | .thermal => 4
  | .rules => 5
  | .can x => 6 + x
  | .loop n => 0x100 + n
  | .event e => 0x200 + e

/-- SYNC_WAITING (R252). -/
def syncWaiting (s : State) : Nat := (s.dict.waiting.map syncGroup).eraseDups.length

/-- Objects of chapters 11 and 12. -/
def readDict (s : State) (x : Sess) (o m : Nat) : Int :=
  match o with
  | 0x1000 => fwVersion s
  | 0x1001 => schemaVersion
  | 0x1010 => if m = 1 then (getSess s x).level else (getSess s x).pending.length
  | 0x1020 =>
    (match m with
     | 1 => s.dict.gen
     | 2 => s.dict.st
     | 3 => s.mram.cfgRepairs
     | 7 => syncWaiting s
     | 8 => s.dict.dropped
     | 9 => configCrc s
     | _ => (nth 0 s.dict.copyGen (m - 4) : Nat))
  | 0x1030 =>
    (match m with
     | 1 => s.host.crcErrors
     | 2 => s.host.frameErrors
     | _ => s.host.overruns)
  | 0x1031 => b2i s.host.silent
  | 0x1040 =>
    (match m with
     | 1 => s.images.kind
     | 2 => s.images.staged.length
     | 5 => s.images.st
     | _ => s.images.err)
  | _ =>
    (match m with
     | 1 => s.mram.bootSlot
     | 2 => (nth 0 s.mram.slotVersion 0 : Nat)
     | 3 => (nth 0 s.mram.slotVersion 1 : Nat)
     | 4 => (nth 0 s.mram.slotState 0 : Nat)
     | 5 => (nth 0 s.mram.slotState 1 : Nat)
     | 8 =>
       (match s.images.confirmUntil with
        | some t => ((t - s.clk + (clkPerSec - 1)) / clkPerSec : Nat)
        | none => 0)
     | 9 => s.mram.rollbacks
     | 11 => b2i s.images.mixed
     | 12 => s.images.mixedSince
     | 13 => s.images.peerFw
     | _ => s.images.peerSchema)

/-- Power objects. -/
def readPower (s : State) (o m : Nat) : Int :=
  match o with
  | 0x1060 =>
    (match m with
     | 1 => s.power.resetCause
     | 2 => startState s
     | 3 => s.power.startTime
     | 4 => s.power.holdReason
     | _ => s.power.flags.toNat)
  | 0x1061 =>
    (match m with
     | 1 => s.power.holdupC
     | 2 => s.power.holdupEsr
     | 3 => s.power.holdupEnergy
     | _ => s.power.holdupState)
  | _ =>
    (match m with
     | 1 => s.mram.saves
     | 2 => s.mram.lastSaveAt
     | 3 => s.mram.lastSaveTime
     | 4 => s.mram.lastSaveBytes
     | 5 => s.mram.lastSaveResult
     | _ => s.power.outage)

/-- CAN objects 0x1110 + x. -/
def readCan (s : State) (x m : Nat) : Int :=
  let c := getCan s x
  match m with
  | 1 => c.st
  | 2 => tecRead c
  | 3 => min c.rec_ 255
  | 4 => c.flags.toNat
  | 5 => c.busoffs
  | 7 => c.abdResult
  | 8 => c.wakeCause
  | 9 => c.fifo.length
  | 10 => c.sent
  | 11 => c.rxFrames
  | 12 => c.rxDiscarded
  | 13 => c.rtr
  | 14 => c.lastError
  | _ => c.urgentExpired

/-- The per-session values of TX_LAST_HANDLE and TX_CANCEL_RESULT. -/
def pairOf (l : List (Nat × Nat)) (x : Nat) : Nat := Table.getD (blank 0) l x

/-- PAIR objects. -/
def readPair (s : State) (m : Nat) : Int :=
  match m with
  | 1 => if s.pair.relinquished then 3 else s.pair.role
  | 2 => s.pair.st
  | 3 => s.pair.flags.toNat
  | 4 => s.pair.errors
  | 5 => s.mram.switchovers
  | 6 => s.pair.lastTime
  | 7 => s.pair.lastCause
  | 8 =>
    (match s.pair.mirrorAt with
     | some t => if isStandby s then clkToUs (s.clk - t) else 0
     | none => 0)
  | _ => s.pair.transLoss

/-- Spares of a memory in use. -/
def usedRows (s : State) (k : Nat) : Nat := (s.mem.map.rows.filter fun r => r.1 == k).length

def usedCols (s : State) (k : Nat) : Nat := (s.mem.map.cols.filter fun r => r.1 == k).length

/-- Memory objects. -/
def readMem (s : State) (o m : Nat) : Int :=
  match o with
  | 0xE000 =>
    (match m with
     | 1 => s.mem.sramCorrected
     | 2 => s.mem.sramUncorrectable
     | 3 => s.mem.mramCorrected
     | 4 => s.mem.mramUncorrectable
     | 5 => s.mem.passes
     | 6 => s.mem.lastPass
     | _ => s.mem.flags.toNat)
  | 0xE001 =>
    (match m with
     | 1 => s.mem.repairGen
     | 2 => s.mem.repairState
     | 3 => (256 - usedRows s 0 : Nat)
     | 4 => (32 - usedCols s 0 : Nat)
     | 5 => (512 - usedRows s 1 : Nat)
     | 6 => (32 - usedCols s 1 : Nat)
     | 7 => s.mem.map.erased.length
     | _ => s.mram.ledger.length)
  | _ => if m = 2 then s.mem.invState else s.mem.misses

/-- The 16 bytes of a ledger entry (R351). -/
def ledgerBytes (e : LedgerEntry) : List Byte :=
  leBytes 8 e.when_ ++ bytes1 [e.memory, e.kind, e.origin, e.bank] ++ leBytes 2 e.index ++ leBytes 2 e.spare

/-- RESTARTS_HOUR: the higher of the two dies. -/
def restartsHour (s : State) : Nat :=
  max (recent s (secs 3600) s.therm.dRestarts).length (recent s (secs 3600) s.therm.lRestarts).length

/-- Thermal objects. -/
def readTherm (s : State) (o m : Nat) : Int :=
  if o < 0xA010 then
    let t := getSensor s (o - 0xA000)
    match m with
    | 1 => t.value
    | 2 => t.raw
    | 3 => t.pred
    | 4 => t.rise
    | _ => t.st
  else if o < 0xA020 then b2i (s.therm.riseActive.contains (o - 0xA010))
  else if o < 0xA030 then
    (if m = 1 then stepPct (domainStep s (o - 0xA020)) else (nth 0 s.therm.causes (o - 0xA020) : Nat))
  else
    match m with
    | 1 => s.therm.dState
    | 2 => s.therm.lState
    | 3 => restartsHour s
    | 5 => s.mram.shutdowns
    | 6 => s.therm.vrefCorr
    | _ => s.therm.flags.toNat

/-- Safety objects. -/
def readSafety (s : State) (o m : Nat) : Int :=
  if o = 0xB000 then
    match m with
    | 1 => s.safety.st
    | 2 => s.safety.failures.toNat
    | 3 => s.safety.lastAt
    | 7 => (recent s (secs 86400) s.safety.autoTimes).length
    | _ => safetyCrc s
  else
    let c := o - 0xB100
    if m = 4 then b2i ((getSafe s c).active || (isOutEntry (256 + c) && isSafe s (256 + c)))
    else b2i (getSafe s c).deviated

/-- Measurement objects. -/
def readMeas (s : State) (o m : Nat) : Int :=
  if o = 0x5000 then
    match m with
    | 1 => s.meas.refState
    | 2 => s.meas.noiseA
    | 3 => s.meas.noiseB
    | 4 => b2i s.meas.noiseExcess
    | _ => s.meas.trigLost
  else if o < 0x5100 then
    let t := getTrig s (o - 0x5040)
    if m = 5 then t.count else t.delayed
  else if m = 5 then aoStatus s (o - 0x5300) else (getAo s (o - 0x5300)).applied

/-- Loom objects. -/
def readLoom (s : State) (m : Nat) : Int :=
  match m with
  | 1 => s.loom.armLoad
  | 2 => s.loom.armOverflows
  | 3 => b2i (phaseTrue s)
  | _ => s.loom.ruleOverruns

/-- The number an RO member reads, before it is cut to its type. -/
def readRo (s : State) (x : Sess) (o m : Nat) : Int :=
  if o < 0x1060 then readDict s x o m
  else if o < 0x1100 then readPower s o m
  else if o < 0x1120 then readCan s (o - 0x1110) m
  else if o < 0x1200 then
    (if m = 2 then pairOf (getSess s x).handles (o - 0x1120) else pairOf (getSess s x).cancels (o - 0x1120))
  else if o = 0x2000 then readWarp s m
  else if o < 0x2020 then readCal s o m
  else if o = 0x2031 then readAstro s.cal.today m
  else if o = 0x2032 then readAstro s.cal.tomorrow m
  else if o = 0x3000 then readLoom s m
  else if o < 0x3240 then (getCirc s (o - 0x3200)).st
  else if o < 0x3400 then readCirc s (o - 0x3240) m
  else if o < 0x3500 then readZone s (o - 0x3400) m
  else if o < 0x3800 then (getEvent s (o - 0x3600)).st
  else if o < 0x4000 then (getRule s (o - 0x3800)).fires
  else if o = 0x4300 then readEngine s m
  else if o < 0x4C00 then readLoop s (o - 0x4800) m
  else if o < 0x5000 then readRc s (o - 0x4C00) m
  else if o < 0x6000 then readMeas s o m
  else if o = 0x6000 then
    (match m with
     | 3 => s.io.fwd
     | 4 => s.io.fwdTrips
     | 5 => b2i s.io.linkUp
     | 6 => s.io.linkErrors
     | _ => s.io.power)
  else if o < 0x6100 then readGroup s (o - 0x6010) m
  else if o < 0x7000 then readIo s (o - 0x6200) m
  else if o < 0x7100 then readBank s (o - 0x7010) m
  else if o < 0x7300 then readVlv s (o - 0x7200) m
  else if o < 0x8000 then
    (if m = 2 then (cardWords s (o - 0x7300) : Nat) else crc32 (cardBytes s (o - 0x7300)))
  else if o = 0x8000 then boostActive s
  else if o < 0x9000 then readFan s (o - 0x8100) m
  else if o = 0x9000 then readDisp s m
  else if o < 0xA000 then readLedger s (m - 1)
  else if o < 0xB000 then readTherm s o m
  else if o < 0xC000 then readSafety s o m
  else if o < 0xD000 then readPair s m
  else if o = 0xD000 then s.snap.dropped
  else if o < 0xD100 then (getSlot s (o - 0xD010)).st
  else if o < 0xE000 then
    (match m with
     | 3 => logNewest s
     | 4 => logOldest s
     | _ => s.snap.lost)
  else readMem s o m

/-- What an RW member reads when it is not the value last stored. -/
def readRw (s : State) (x : Sess) (o m : Nat) : Option Int :=
  if o = 0x1010 then some (getSess s x).level
  else if o = 0x2010 then some s.cal.now
  else if o = 0x1040 then some s.images.kind
  else if o = 0xD100 then some (getSess s x).cursor
  else if 0xD010 ≤ o ∧ o < 0xD020 then some (getSlot s (o - 0xD010)).armAt
  else if 0x4800 ≤ o ∧ o < 0x4900 then
    match mirLoop s (o - 0x4800) with
    | some r => if m = 16 then some r.mode else some r.manOut
    | none => none
  else none

/-- The bytes a BLOB or STR member reads. SAFETY_CHALLENGE, LOG_RECORD and RECORD act on their read, which
stands in `Services`; DATA of a slot is its captured content. -/
def readBlob (s : State) (o m : Nat) : List Byte :=
  if o = 0x1000 then (if m = 1 then vendorName else if m = 2 then productName else Config.serial)
  else if 0x4C00 ≤ o ∧ o < 0x4D00 then
    (getLoop s (o - 0x4C00)).rc.profile.flatMap fun v => leBytes 4 (unsigned 32 v)
  else if 0x5100 ≤ o ∧ o < 0x5180 then
    resBytes (getRec s (if m = 11 then o - 0x5100 else 0x200 + (o - 0x5100)))
  else if 0x5180 ≤ o ∧ o < 0x5300 then resBytes (getRec s (0x100 + (o - 0x5180)))
  else if o = 0x9010 then
    (if m = 1 then s.disp.pending
     else if m = 8 then s.disp.shown
     else (s.disp.pending.drop (12 * (m - 2))).take 12)
  else if o = 0xE001 then s.mram.ledger.flatMap ledgerBytes
  else if 0x1200 ≤ o ∧ o < 0x1280 then
    rxBytes (getObj (getCan s ((o - 0x1200) / 64)) ((o - 0x1200) % 64))
  else if 0xD010 ≤ o ∧ o < 0xD020 then (getSlot s (o - 0xD010)).data
  else valBlob (committedVal s (memKey o m))

/-- The value a member reads (R244, R250), without the pending selector. -/
def readVal (s : State) (x : Sess) (o m : Nat) (d : MemDef) : Val :=
  if d.ty = .str ∨ d.ty = .blob then .bytes (readBlob s o m)
  else
    match d.acc with
    | .ro => .num (typed d.ty (readRo s x o m))
    | .rw =>
      (match readRw s x o m with
       | some v => .num v
       | none => committedVal s (memKey o m))
    | _ => committedVal s (memKey o m)

/-- The value a member reads by its number; 0 where it does not exist. -/
def readMember (s : State) (x : Sess) (o m : Nat) : Val :=
  match findMem o m with
  | some d => readVal s x o m d
  | none => .num 0

/-- The bytes a member reads. -/
def memBytes (s : State) (x : Sess) (o m : Nat) : List Byte :=
  match findMem o m with
  | some d => valBytes d.ty (readVal s x o m d)
  | none => []

end Sys2Proof.Machine
end

