-- ==== Sys2Proof/Machine/SnapOps.lean ====
section
/-! DEFINITION. Captures: what a snapshot holds, when a trigger captures, waits or is dropped
(18_snapshot_and_log). -/

namespace Sys2Proof.Machine

/-! ### Contents (R396, R397) -/

/-- The bytes of one member, read by no session in particular. -/
def snapMem (s : State) (o m : Nat) : List Byte := memBytes s .selvedge o m

/-- Offset 0x40: the system registers, packed in the order of the table. -/
def snapSystem (s : State) : List Byte :=
  padTo 64 (snapMem s 0x2000 2 ++ snapMem s 0x2000 6 ++ snapMem s 0x2000 4 ++ snapMem s 0x2010 3 ++
    snapMem s 0xB000 1 ++ snapMem s 0xB000 2 ++ snapMem s 0x1020 1 ++ snapMem s 0xC001 1 ++ snapMem s 0x3000 1)

/-- The 32 bytes of a loop. -/
def snapLoop (s : State) (n : Nat) : List Byte :=
  ([1, 2, 3, 4, 5, 6, 13, 18].flatMap fun m => snapMem s (0x4800 + n) m) ++ [0#8]

/-- Offset 0x2080: the result records. -/
def snapResults (s : State) : List Byte :=
  padTo 2048 (((upTo 24).flatMap fun k => resBytes (getRec s k)) ++
    (upTo 46).flatMap fun c => resBytes (getRec s (0x100 + c)))

/-- Offset 0x2880: valves and banks. -/
def snapValves (s : State) : List Byte :=
  let v := (upTo 16).flatMap fun v => padTo 16
    (snapMem s (0x7200 + v) 3 ++ snapMem s (0x7200 + v) 17 ++ snapMem s (0x7200 + v) 5 ++
      snapMem s (0x7200 + v) 18 ++ leBytes 2 (milliAmp (getRec s (0x100 + v)).value) ++ snapMem s (0x7200 + v) 4)
  let b := (upTo 4).flatMap fun b => padTo 16
    (snapMem s (0x7010 + b) 2 ++ snapMem s (0x7010 + b) 4 ++ snapMem s (0x7010 + b) 3)
  padTo 512 (v ++ b)

/-- Offset 0x2A80: field I/O, from the latest barrier frame. -/
def snapIo (s : State) : List Byte :=
  let i := (upTo 32).flatMap fun i => padTo 16
    (snapMem s (0x6200 + i) 2 ++ snapMem s (0x6200 + i) 6 ++ snapMem s (0x6200 + i) 5 ++ snapMem s (0x6200 + i) 3)
  let g := (upTo 4).flatMap fun g => padTo 16
    (snapMem s (0x6010 + g) 1 ++ snapMem s (0x6010 + g) 2 ++ snapMem s (0x6010 + g) 3)
  padTo 640 (i ++ g)

/-- Offset 0x2D00: fans. -/
def snapFans (s : State) : List Byte :=
  padTo 384 ((upTo 12).flatMap fun f => padTo 32
    (snapMem s (0x8100 + f) 4 ++ snapMem s (0x8100 + f) 5 ++ snapMem s (0x8100 + f) 2 ++
      snapMem s (0x8100 + f) 3 ++ snapMem s (0x8100 + f) 7 ++
      (if f < 4 then leBytes 4 (unsigned 32 (getRec s (0x114 + 2 * f)).value) ++
        leBytes 4 (unsigned 32 (getRec s (0x115 + 2 * f)).value) else [])))

/-- Offset 0x2E80: sensors and domains. -/
def snapTherm (s : State) : List Byte :=
  padTo 128 (((upTo 12).flatMap fun i => snapMem s (0xA000 + i) 1 ++ snapMem s (0xA000 + i) 5) ++
    (upTo 8).flatMap fun d => snapMem s (0xA020 + d) 1)

/-- Offset 0x2F00: CAN and pair. -/
def snapComm (s : State) : List Byte :=
  padTo 256 (((upTo 2).flatMap fun x => snapMem s (0x1110 + x) 1 ++ snapMem s (0x1110 + x) 2 ++
    snapMem s (0x1110 + x) 3 ++ snapMem s (0x1110 + x) 9) ++ snapMem s 0xC001 2 ++ snapMem s 0xC001 8)

/-- What every block latches on the capture clock: DATA after the header. -/
def snapBody (s : State) : List Byte :=
  snapSystem s ++ ((upTo 256).flatMap fun n => snapLoop s n) ++ snapResults s ++ snapValves s ++ snapIo s ++
    snapFans s ++ snapTherm s ++ snapComm s

/-- SNAP_FLAGS (R397). -/
def snapFlags (s : State) (delayed late merged : Bool) : Nat :=
  (if delayed then 1 else 0) + (if late then 2 else 0) + (if merged then 4 else 0) +
    if phaseTrue s then 0 else 8

/-- The header (R397). -/
def snapHeader (s : State) (slot source trigAt flags seq detail : Nat) : List Byte :=
  padTo 64 (leBytes 8 (warpNow s) ++ leBytes 8 s.cal.now ++ leBytes 8 trigAt ++
    bytes1 [slot, source, flags, 0] ++ leBytes 4 seq ++ leBytes 2 detail)

/-! ### Trigger frames (R393) -/

/-- Send a trigger frame on each controller of CAN_TRIG_OUT, through the urgent slot (R306). -/
def snapSendFrame (s : State) (payload : List Byte) : State :=
  forAll (upTo 2) (fun s x =>
    if (Cfg.snapCanTrigOut s).testBit x && canFdEn s x then
      canQueueUrgent s x (svcFrame 2 0x20 0 (Cfg.netNodeId s) payload) (after s.clk (msecs 10))
    else s) s

/-! ### Captures (R391, R392, R394, R395) -/

/-- A capture from this SOURCE is made known to others by a trigger frame (R393). -/
def snapTells (source : Nat) : Bool := source = 0 ∨ source = 3 ∨ source = 4

/-- TRIG_OUT goes high for 10 µs (R394). -/
def snapPulse (s : State) : State :=
  if Cfg.snapTrigOutEn s && released s then
    { s with snap := { s.snap with trigOut := true, trigOutUntil := after s.clk (usecs 10) } }
  else s

/-- A capture on this engine clock. -/
def snapCapture (s : State) (slot source trigAt detail : Nat) (delayed late merged : Bool) : State :=
  let fl := snapFlags s delayed late merged
  let seq := s.mram.nextSeq + s.snap.queue.length
  let data := snapHeader s slot source trigAt fl seq detail ++ snapBody s
  let s := modSlot s slot fun r => { r with
    st := 2, armed := false, data := data, source := source, atClk := s.clk }
  let s := logEvent s 0x1101 (bytes1 [slot, source, fl])
  let s := if source ≠ 2 then snapPulse s else s
  if snapTells source then snapSendFrame s (bytes1 [slot, 0]) else s

/-- A dropped trigger (R395). -/
def snapDrop (s : State) (slot source : Nat) (late : Bool) : State :=
  let s := { s with snap := { s.snap with dropped := s.snap.dropped + 1 } }
  queueRec s 0x1101 (logFlagsNow s + 8) (warpNow s) s.cal.now
    (bytes1 [slot, source, snapFlags s false late false])

/-- A slot takes no trigger: FULL without OVERWRITE, ARMED for an instant not reached, or CAPTURING. -/
def snapBusy (s : State) (slot : Nat) : Bool :=
  let r := getSlot s slot
  (r.st == 3 && !Cfg.slotOverwrite s slot) || r.st == 1 || r.st == 2

/-- The copy of an earlier latch is running. -/
def snapCopying (s : State) : Bool :=
  (upTo 16).any fun k => (getSlot s k).st == 2 && (getSlot s k).atClk != s.clk

/-- The header of a slot as a trigger merges into its capture (R392, R397). -/
def snapMergeSlot (source detail : Nat) (r : SnapSlot) : SnapSlot :=
  let d := setNth r.data 26 ((nth 0#8 r.data 26) ||| 4#8)
  if source < r.source then
    { r with source := source
             data := setNth (setNth (setNth d 25 (BitVec.ofNat 8 source)) 32 (BitVec.ofNat 8 detail)) 33
               (BitVec.ofNat 8 (detail / 256)) }
  else { r with data := d }

/-- The queued SNAPSHOT record of a capture takes its SOURCE and SNAP_FLAGS anew. -/
def snapMergeRec (s : State) (slot : Nat) : State :=
  let d := (getSlot s slot).data
  let q := leNat ((d.drop 28).take 4)
  { s with snap := { s.snap with queue := s.snap.queue.map fun e =>
      if e.type = 0x1101 ∧ e.seq = q then { e with payload := bytes1 [slot] ++ [nth 0#8 d 25, nth 0#8 d 26] } else e } }

/-- A trigger for a slot that captures on this clock already: one capture with the lowest SOURCE, MERGED (R392). It is told and
TRIG_OUT pulses where the capture so far did not (log entry 93). -/
def snapMerge (s : State) (slot source detail : Nat) : State :=
  let old := (getSlot s slot).source
  let s := snapMergeRec (modSlot s slot (snapMergeSlot source detail)) slot
  if source < old then
    let s := if old = 2 then snapPulse s else s
    if snapTells source && !snapTells old then snapSendFrame s (bytes1 [slot, 0]) else s
  else s

/-- A trigger (R391): captured now, merged, kept until the copy ends, or dropped. -/
def snapFire (s : State) (slot source detail : Nat) (late : Bool) : State :=
  if slot > 15 then s
  else
    let r := getSlot s slot
    if r.st = 2 ∧ r.atClk = s.clk then snapMerge s slot source detail
    else if snapBusy s slot then snapDrop s slot source late
    else if snapCopying s then
      match s.snap.delayed.find? fun t => t.slot == slot && t.atClk == s.clk with
      | some _ =>
        { s with snap := { s.snap with delayed := s.snap.delayed.map fun t =>
            if t.slot = slot ∧ t.atClk = s.clk then
              { t with merged := true, source := min t.source source
                       detail := if source < t.source then detail else t.detail } else t } }
      | none =>
        { s with snap := { s.snap with
            delayed := s.snap.delayed ++ [⟨slot, source, warpNow s, s.clk, detail, late, false⟩] } }
    else snapCapture s slot source (warpNow s) detail false late false

/-- A write of ARM_AT (R391, R395): 0 cancels, a past instant captures at once with LATE. A slot that takes no
trigger keeps its state until the instant, when the trigger is dropped. -/
def snapArm (s : State) (slot at_ : Nat) : State :=
  let r := getSlot s slot
  let s := modSlot s slot fun r => { r with armAt := at_, armed := false, st := if r.st = 1 then 0 else r.st }
  if at_ = 0 then s
  else if at_ ≤ warpNow s then snapFire s slot 5 0 true
  else
    modSlot s slot fun r' => { r' with
      armed := true, st := if r.st = 2 ∨ (r.st = 3 ∧ ¬ Cfg.slotOverwrite s slot) then r'.st else 1 }

/-- The KIND 1 frame of an ARM_AT write from the dictionary (R393). -/
def snapArmFrame (s : State) (slot at_ : Nat) : State :=
  snapSendFrame s (bytes1 [slot, 1] ++ leBytes 8 at_)

/-- RELEASE (R395). -/
def snapRelease (s : State) (slot : Nat) : State :=
  modSlot s slot fun r =>
    if r.st = 3 then { r with st := if r.armed then 1 else 0, data := [] }
    else if r.st = 1 then { r with st := 0, armed := false, armAt := 0 }
    else r

end Sys2Proof.Machine
end

