-- ==== Sys2Proof/Machine/PairOps.lean ====
section
/-! DEFINITION. The operations of Selvedge: what is sent to the partner, giving the role up
(14_selvedge_pair). -/

namespace Sys2Proof.Machine

/-- Bits of PAIR_FLAGS (R336). -/
def pfPeerAbsent : Nat := 0
def pfLaneDegraded : Nat := 1
def pfRoleLine : Nat := 2
def pfDualActive : Nat := 3
def pfStale : Nat := 4
def pfTranslated : Nat := 5
def pfPeerFans : Nat := 6

/-- Set or clear a flag. -/
def pairFlag (s : State) (i : Nat) (b : Bool) : State :=
  { s with pair := { s.pair with flags := Flag.set s.pair.flags i b } }

/-- The module holds the active role of a pair. -/
def isActive (s : State) : Bool := s.pair.role == 1 && !s.pair.relinquished

/-- MAJOR equal and MINOR at most one apart (R332). -/
def schemaNear (a b : Nat) : Bool :=
  a / 65536 == b / 65536 && decide (a / 256 % 256 ≤ b / 256 % 256 + 1) && decide (b / 256 % 256 ≤ a / 256 % 256 + 1)

/-- The partner takes CONFIG and MIRROR frames (R321, R333). -/
def mirrors (s : State) : Bool :=
  isActive s && s.pair.linkUp &&
    match s.pair.peer with
    | some p => schemaNear p.schema schemaVersion
    | none => false

/-- The kind and number of a mirrored item: the latest of each is kept. -/
def mirrorKey : MirrorItem → Nat
  | .loop n .. => n
  | .channel h .. => 0x200 + h
  | .circuit c .. => 0x400 + c
  | .zone z .. => 0x500 + z
  | .jacquard v .. => 0x600 + v
  | .profile n .. => 0x700 + n
  | .display .. => 0x900
  | .calendar .. => 0x901
  | .log _ => 0x902

/-- A lane has sent a frame (R317). -/
def laneSent (l : SelLane) : SelLane := { l with txSeq := (l.txSeq + 1) % 256 }

/-- One frame other than ALIVE goes out: over the lane that is up, or over either while both are (R317). -/
def frameOut (p : Pair) : Pair :=
  let n := p.sent.spread
  let second := if p.lane0.up = p.lane1.up then decide (Config.frameLane n % 2 = 1) else p.lane1.up
  let p := { p with sent := { p.sent with spread := n + 1 } }
  if second then { p with lane1 := laneSent p.lane1 } else { p with lane0 := laneSent p.lane0 }

/-- RELINQUISH goes out on both lanes (R325). -/
def relinquishOut (p : Pair) : Pair :=
  { p with lane0 := laneSent p.lane0, lane1 := laneSent p.lane1
           sent := { p.sent with relinquish := p.sent.relinquish + 1 } }

/-- MINOR of the partner is one below the module's own (R332). -/
def peerOlder (s : State) : Option Nat :=
  match s.pair.peer with
  | some p => if p.schema / 256 < schemaVersion / 256 then some p.schema else none
  | none => none

/-- The members among `keys` that an older partner does not know. -/
def unknownTo (s : State) (keys : List Nat) : List Nat :=
  match peerOlder s with
  | none => []
  | some v => keys.filter fun k => Config.memberUnknown v k

/-- `n` members are left out of a frame, which TRANSLATION_LOSS counts; TRANSLATED is set (R332). -/
def noteLoss (s : State) (n : Nat) : State :=
  if (peerOlder s).isNone then s
  else pairFlag { s with pair := { s.pair with transLoss := s.pair.transLoss + n } } pfTranslated true

/-- The members that an item carries (R321). -/
def mirrorMembers : MirrorItem → List Nat
  | .loop n .. => ([4, 25, 16, 17, 18].map fun m => memKey (0x4800 + n) m) ++ [memKey (0x4C00 + n) 10]
  | .channel h .. => if 288 ≤ h ∧ h < 304 then [memKey (0x7200 + (h - 288)) 3, memKey (0x7200 + (h - 288)) 17] else []
  | .circuit c .. => ([13, 12].map fun m => memKey (0x3200 + c) m) ++ [1, 2, 3, 4, 5].map fun m => memKey (0x3240 + c) m
  | .zone z .. => [12, 13, 14, 22, 23].map fun m => memKey (0x3400 + z) m
  | .jacquard v .. => [12, 13, 14, 15, 16].map fun m => memKey (0x7200 + v) m
  | .profile n .. => [memKey (0x4C00 + n) 15]
  | .display .. => memKey 0x9010 8 :: memKey 0x9000 17 :: (upTo 48).map fun g => memKey 0x9020 (1 + g)
  | .calendar .. => [memKey 0x2010 1, memKey 0x2010 3]
  | .log _ => []

/-- Send one item in a MIRROR frame, with the Warp time of what it describes and without the members that an older partner
does not know. -/
def sendMirror (s : State) (i : MirrorItem) : State :=
  if mirrors s then
    let lost := unknownTo s (mirrorMembers i)
    let s := noteLoss s lost.length
    { s with pair := frameOut { s.pair with sent := { s.pair.sent with
        mirrors := (s.pair.sent.mirrors.filter fun j => mirrorKey j.item ≠ mirrorKey i) ++ [⟨warpNow s, lost, i⟩] } } }
  else s

/-- Members without those an older partner does not know, which are counted (R332). -/
def translate (s : State) (l : List (Nat × Val)) : List (Nat × Val) × State :=
  let lost := unknownTo s (l.map fun p => p.1)
  (l.filter fun p => !lost.contains p.1, noteLoss s lost.length)

/-- Forward a COMMIT or a change of a persistent RW member to the partner (R324). -/
def sendConfig (s : State) (gen : Nat) (changes : List (Nat × Val)) : State :=
  if mirrors s then
    let p := translate s changes
    { p.2 with pair := frameOut { p.2.pair with sent := { p.2.pair.sent with
        configs := p.2.pair.sent.configs + 1, config := (gen, p.1) } } }
  else s

/-- The item of a loop (R321). -/
def mirrorOfLoop (s : State) (n : Nat) : MirrorItem :=
  let l := getLoop s n
  .loop n l.out l.spRamp (comN s (0x4800 + n) 16) (comI s (0x4800 + n) 17) l.modeActive l.rc.term

/-- The item of an output channel: the owner's latest command, VLV STATE and LATCHED_BAND. A SWITCHED command
travels as its CMD word. -/
def mirrorOfChan (s : State) (h : Nat) : MirrorItem :=
  if 288 ≤ h ∧ h < 304 then
    let v := h - 288
    let c := getVlv s v
    .channel h (if c.mode = 2 then ownerCmd s h else if c.cmdOn then 0xFFFFFFFF else 0) (vlvStateCode c) c.band
  else .channel h (ownerCmd s h) 0 0

/-- The item of a circuit. -/
def mirrorOfCirc (s : State) (c : Nat) : MirrorItem :=
  .circuit c (getCirc s c).st (Cfg.circOverride s c) (circLearn s c)

/-- The item of a zone. -/
def mirrorOfZone (s : State) (z : Nat) : MirrorItem :=
  let r := getZone s z
  .zone z r.mode r.sp r.prestartAt (zoneRates s z).1 (zoneRates s z).2

/-- The item of a valve's learned holds. -/
def mirrorOfVlv (s : State) (v : Nat) : MirrorItem := .jacquard v (getVlv s v).learned (getVlv s v).learnedAt

/-- The item of the display. -/
def mirrorOfDisp (s : State) : MirrorItem :=
  .display s.disp.shown ((upTo 48).map fun g => Table.getD (blank 0) s.disp.ledger g) s.disp.st
    (match s.disp.round with
     | some r => r.waves.map fun w => (w.seg, w.a, w.b)
     | none => [])

/-- Write ROLE_CHANGE (R399). -/
def logRole (s : State) (old new_ : Nat) (dual : Bool) : State :=
  logEvent s 0x0C01 (bytes1 [old, new_, s.pair.lastCause, if dual then 1 else 0] ++ leBytes 4 s.pair.lastTime)

/-- Stop SEL_ROLE and send RELINQUISH on both lanes (R325). From here on the module reports ROLE 3, and its
PAIRED outputs follow R19. -/
def pairGiveUp (s : State) : State :=
  if isActive s && s.pair.en then
    { s with pair := relinquishOut { s.pair with
        toggling := false, selRole := false, relinquished := true, st := 4 } }
  else s

/-- ROLE as it is reported: a module that has relinquished is no longer active (DESIGN CHOICE, log entry 19). -/
def roleShown (s : State) : Nat := if s.pair.relinquished then 3 else s.pair.role

end Sys2Proof.Machine
end

