-- ==== Sys2Proof/Machine/SafetyOps.lean ====
section
/-! DEFINITION. The operations of the safety supervisor: declaring a failure, applying and releasing safe
states (17_functional_safety). -/

namespace Sys2Proof.Machine

/-- Bits of FAILURE_FLAGS (R390). -/
def sfCompute : Nat := 0
def sfOutput : Nat := 1
def sfClock : Nat := 2
def sfBarrier : Nat := 3
def sfXcheck : Nat := 4
def sfMemory : Nat := 5
def sfWatchdog : Nat := 6
def sfThermal : Nat := 7
def sfTest : Nat := 8

/-- The heddle entries of all output channels. -/
def outEntries : List Nat := ((upTo 52).map fun i => 256 + i) ++ (upTo 8).map fun i => 332 + i

/-- Apply to a channel what R19 gives it now. -/
def applyOut (s : State) (h : Nat) : State :=
  if h < 288 then ioApply s (h - 256)
  else if h < 304 then vlvTakeUp s (h - 288)
  else if h < 308 then fanUpdate s (h - 304)
  else aoApply s (h - 332)

/-- Apply every output channel. -/
def applyAll (s : State) : State := forAll outEntries applyOut s

/-- The command in force on a channel, kept for SAFE_STATE hold (R373); a direct fan under its current loops keeps Vq. -/
def heldNow (s : State) (h : Nat) : Int :=
  if h < 288 then (getIo s (h - 256)).applied
  else if h < 304 then 0
  else if h < 308 then
    (if fanBuiltin s (h - 304) then roundDiv (getFan s (h - 304)).fine fineUnit else (getFan s (h - 304)).vq)
  else (getAo s (h - 332)).applied

/-- Hold a channel at its safe state for failure `bit`; what hold keeps is fixed at the first detection. -/
def safeMark (bit : Nat) (s : State) (h : Nat) : State :=
  let v := heldNow s h
  let on := if 288 ≤ h ∧ h < 304 then vlvHeldOnAt s (h - 288)
    else decide (304 ≤ h) && decide (h < 308) && !fanBuiltin s (h - 304)
  modSafe s (safeChan h) fun r =>
    { r with causes := Flag.set r.causes bit true, active := true, okRun := 0
             held := if r.active then r.held else v, heldOn := if r.active then r.heldOn else on }

/-- FAULT_N is high only while SAFETY_STATE is HEALTHY, from release on (R382). -/
def faultNFollow (s : State) : State :=
  { s with safety := { s.safety with faultN := s.safety.st == 1 && released s && !configBad s } }

/-- Record a failure: flag, instant, one event-log record (R378, R390, R399). The record holds the bit as
FAILURE_FLAGS has it (log entry 28). -/
def safeRecord (s : State) (bit scope chan loop : Nat) : State :=
  let s := { s with safety := { s.safety with
    failures := Flag.set s.safety.failures bit true, lastAt := warpNow s } }
  logEvent s 0x0F01 (leBytes 2 (2 ^ bit) ++ bytes1 [scope, chan] ++ leBytes 2 loop)

/-- The FAULT_SLOT capture of a declared failure (R391). -/
def safeSnap (s : State) (bit : Nat) : State := snapFire s (Cfg.snapFaultSlot s) 3 (2 ^ bit) false

/-- A module-scope failure (R378, R325): every output takes its safe state, SAFE_A, SAFE_B and FAULT_N go low,
the role is given up. In SAFE_STOP all this has happened, and it is recorded and captured (R391). -/
def failModule (s : State) (bit : Nat) : State :=
  if s.safety.st = 3 then safeSnap (safeRecord s bit 1 0xFF 0xFFFF) bit
  else
    let s := pairGiveUp s
    let s := safeRecord s bit 1 0xFF 0xFFFF
    let s := forAll outEntries (safeMark bit) s
    let s := { s with safety := { s.safety with
      st := 3, stopAt := s.clk, safeA := false, safeB := false, faultN := false } }
    safeSnap (applyAll s) bit

/-- A channel-scope failure on output channels `hs` (R378). In SAFE_STOP it is recorded only. -/
def failChannels (s : State) (bit : Nat) (hs : List Nat) (loop : Nat) : State :=
  let c := match hs with
    | h :: _ => safeChan h
    | [] => 0xFF
  if s.safety.st = 3 then safeRecord s bit 0 c loop
  else
    let s := safeRecord s bit 0 c loop
    let s := forAll hs (safeMark bit) s
    let s := { s with safety := { s.safety with st := if s.safety.st = 1 then 2 else s.safety.st } }
    safeSnap (forAll hs applyOut (faultNFollow s)) bit

/-- SAFE_DEVIATED of the channels that cannot reach their safe state (R379). -/
def safeDeviate (s : State) (p : Nat → Bool) : State :=
  forAll (outEntries.filter fun h => p h && decide ((safeSetting s h (sramRead s (h * 64) 64)).1 ≠ 0))
    (fun s h => modSafe s (safeChan h) fun r => { r with deviated := true }) s

/-- Release a channel from its safe state: it takes its owner's latest command (R373, R380). -/
def safeRelease (s : State) (h : Nat) : State :=
  applyOut (modSafe s (safeChan h) fun _ => {}) h

/-- Copy SAFE_STATE and SAFE_VALUE into the supervisor's own registers, at each COMMIT (R377). -/
def latchSafe (s : State) : State :=
  { s with safety := { s.safety with
      latched := outEntries.map fun h =>
        (safeChan h, comN s (0xB100 + safeChan h) 2, comI s (0xB100 + safeChan h) 3) } }

/-- The input is safety-relevant or cross-checked in use by loops: the loops whose PV_SOURCE it is stop, and
their output channels take their safe states (R376). -/
def failInput (s : State) (code : Nat) : State :=
  if s.safety.inputs.contains code then s
  else
    let s := { s with safety := { s.safety with inputs := s.safety.inputs ++ [code] } }
    let ls := (upTo 256).filter fun n => Cfg.loopEnable s n && Cfg.loopPvSource s n == code
    let s := if s.safety.st = 3 then s else
      forAll ls (fun s n => modLoop s n fun l => { l with stopped := true, due := none }) s
    failChannels s sfXcheck ((ls.map fun n => Cfg.loopOutput s n).filter isOutEntry) 0xFFFF

end Sys2Proof.Machine
end

