-- ==== Sys2Proof/Machine/MeasOps.lean ====
section
/-! DEFINITION. The operations of measurement: trigger entries, converters, records (06_measurement). -/

namespace Sys2Proof.Machine

/-! ### Flags of a result (R148) -/

def rfHigh : Nat := 1
def rfLow : Nat := 2
def rfRef : Nat := 4
def rfRecovering : Nat := 8
def rfDelayed : Nat := 16
def rfExc : Nat := 32
def rfXcheck : Nat := 64
def rfSynth : Nat := 128

/-- An event of a trigger source (R141, R142): every entry that names it counts the event, and its conversions
become due after DELAY. -/
def triggerEvent (s : State) (src : Nat) : State :=
  forAll ((upTo 32).filter fun t => Cfg.trigSource s t == src) (fun s t =>
    let s := modTrig s t fun r => { r with count := r.count + 1 }
    { s with meas := { s.meas with coming := s.meas.coming ++ [(t, s.clk + Cfg.trigDelay s t)] } }) s

/-- The record key of a channel code. -/
def chanRec (code : Nat) : Nat := if code < 332 then code - 308 else code - 0x300

/-- SRAM offset of a record (R150). -/
def recAddr (key : Nat) : Nat :=
  if key < 0x100 then 0x6000 + 16 * key else if key < 0x200 then 0x6200 + 16 * (key - 0x100)
  else 0x6600 + 16 * (key - 0x200)

/-- Put a record in its place and in SRAM, in one line write (R150). -/
def putRec (s : State) (key : Nat) (r : ResRec) : State :=
  let s := setRec s key r
  clearPoison (sramWrite s (recAddr key) (resBytes r)) (lineOf (recAddr key))

/-- A channel can be reached by a converter (R135). -/
def reaches (adc : Adc) (code : Nat) : Bool :=
  if 308 ≤ code ∧ code < 332 then true
  else if code < 0x400 ∨ code > 0x42D then false
  else
    let c := code - 0x400
    match adc with
    | .a => decide (c < 0x14) || (decide (c < 0x1C) && c % 2 == 0)
    | .b => decide (c < 0x14) || (decide (c < 0x1C) && c % 2 == 1) || (decide (c < 0x20)) && decide (0x1C ≤ c) || c == 0x2C
    | .c => (decide (0x1C ≤ c) && decide (c ≤ 0x1E)) || decide (0x20 ≤ c)

end Sys2Proof.Machine
end

