-- ==== Sys2Proof/Machine/MemOps.lean ====
section
/-! DEFINITION. Repair: ledger, repair map, defects and poisoned lines (15_memory_and_repair). Memories are
numbered as in the ledger: 0 SRAM, 1 MRAM. -/

namespace Sys2Proof.Machine

/-- Bits of MEM_FLAGS (R357). -/
def memSparesLow : Nat := 2
def memErasure : Nat := 3
def memExhausted : Nat := 4
def memLedgerFull : Nat := 5
def memMerged : Nat := 6
def memRebuilt : Nat := 7
def memMove : Nat := 8

def memFlag (s : State) (i : Nat) (b : Bool) : State :=
  { s with mem := { s.mem with flags := Flag.set s.mem.flags i b } }

/-! ### Where a line lies (R337) -/

def memNo : MemKind → Nat
  | .sram => 0
  | .mram => 1

def lineBank (off : Nat) : Nat := off / 32 % 16

def lineIndex (off : Nat) : Nat := off / 512

def lineRow (off : Nat) : Nat := lineIndex off / 16

/-- Spare rows of a bank. -/
def spareRows (m : Nat) : Nat := if m = 0 then 16 else 32

/-! ### Ledger and map (R346, R348, R351) -/

/-- Add an entry: when the ledger is full it replaces the oldest entry whose ORIGIN is not 0. A new entry that finds factory
entries alone is lost (DESIGN CHOICE, log entry 87). -/
def ledgerPush (l : List LedgerEntry) (e : LedgerEntry) : List LedgerEntry × Bool :=
  if l.length < 512 then (l ++ [e], false)
  else if l.all fun x => x.origin == 0 then (l, true)
  else (eraseFirst (fun x => x.origin != 0) l ++ [e], true)

/-- Write a ledger entry of the present instant. -/
def addLedger (s : State) (memory kind origin bank index spare : Nat) : State :=
  let e : LedgerEntry := ⟨if s.cal.st = 0 then 0 else s.cal.now, memory, kind, origin, bank, index, spare⟩
  let p := ledgerPush s.mram.ledger e
  let s := { s with mram := { s.mram with ledger := p.1 } }
  if p.2 then memFlag s memLedgerFull true else s

/-- The last entry of the ledger as MEM_REPAIR (R399). -/
def logRepair (s : State) : State :=
  match s.mram.ledger.getLast? with
  | some e => logEvent s 0x0D01 ((ledgerBytes e).drop 8)
  | none => s

/-- Write the map and the ledger to copies 0, 1 and 2 as the next generation (R348). -/
def writeMap (s : State) : State :=
  let g := s.mem.repairGen + 1
  let c : MapCopy := ⟨g, true, s.mem.map, s.mram.ledger⟩
  mramWritten { s with mem := { s.mem with repairGen := g }, mram := { s.mram with maps := [c, c, c] } } 0x780000 0x78C000

/-- The columns of a bank that count as erased: marked, or moving to their spare (R346). -/
def erasedNow (s : State) (m bank : Nat) : List Nat :=
  ((s.mem.map.erased.filter fun e => e.1 == m && e.2.1 == bank).map fun e => e.2.2) ++
    ((s.mem.map.moving.filter fun e => e.1 == m && e.2.1 == bank && e.2.2.2).map fun e => e.2.2.1)

/-- The column has been repaired: spared or erased. -/
def colRepaired (s : State) (m bank col : Nat) : Bool :=
  (s.mem.map.cols.any fun c => c.1 == m && c.2.1 == bank && c.2.2.1 == col) ||
    s.mem.map.erased.contains (m, bank, col)

/-- The row has been repaired. -/
def rowRepaired (s : State) (m bank row : Nat) : Bool :=
  s.mem.map.rows.any fun c => c.1 == m && c.2.1 == bank && c.2.2.1 == row

/-- The first of `n` spares of a bank that no entry uses. -/
def freeSpare (used : List (Nat × Nat × Nat × Nat)) (m bank n : Nat) : Option Nat :=
  findIdx (fun k => !(used.any fun c => c.1 == m && c.2.1 == bank && c.2.2.2 == k)) 0 n

/-- SPARES_LOW: a bank without a free spare column (R346). -/
def sparesLow (s : State) : Bool :=
  (upTo 2).any fun m => (upTo 16).any fun b => (freeSpare s.mem.map.cols m b 2).isNone

/-- Bring the flags of the map up to date. -/
def refreshMapFlags (s : State) : State :=
  memFlag (memFlag (memFlag s memSparesLow (sparesLow s)) memErasure (!s.mem.map.erased.isEmpty))
    memMove (!s.mem.map.moving.isEmpty)

/-- No action is left for a defect (R346): EXHAUSTED, and for SRAM a memory failure. -/
def exhausted (s : State) (m bank index origin : Nat) : State :=
  let s := logRepair (addLedger (memFlag s memExhausted true) m 3 origin bank index 0xFFFF)
  let s := writeMap s
  if m = 0 then failModule s sfMemory else s

/-- A defective column (R346). -/
def defectColumn (s : State) (m bank col origin : Nat) : State :=
  if colRepaired s m bank col then s
  else
    match freeSpare s.mem.map.cols m bank 2 with
    | some k =>
      let s := { s with mem := { s.mem with map := { s.mem.map with
        cols := s.mem.map.cols ++ [(m, bank, col, k)], moving := s.mem.map.moving ++ [(m, bank, col, true)] } } }
      writeMap (refreshMapFlags (logRepair (addLedger s m 0 origin bank col k)))
    | none =>
      if (erasedNow s m bank).length < 2 then
        let s := { s with mem := { s.mem with map := { s.mem.map with
          erased := s.mem.map.erased ++ [(m, bank, col)] } } }
        writeMap (refreshMapFlags (logRepair (addLedger s m 1 origin bank col 0xFFFF)))
      else exhausted s m bank col origin

/-- A defective row (R346). -/
def defectRow (s : State) (m bank row origin : Nat) : State :=
  if rowRepaired s m bank row then s
  else
    match freeSpare s.mem.map.rows m bank (spareRows m) with
    | some k =>
      let s := { s with mem := { s.mem with map := { s.mem.map with
        rows := s.mem.map.rows ++ [(m, bank, row, k)], moving := s.mem.map.moving ++ [(m, bank, row, false)] } } }
      writeMap (refreshMapFlags (logRepair (addLedger s m 2 origin bank row k)))
    | none => exhausted s m bank row origin

/-! ### Poison (R342) -/

/-- The item of learned values that a line holds: circuits 0–31, valves 32–47, zones 48–111, the display records 112–127
(DESIGN CHOICE, log entry 70: the layout of the region is not given). -/
def dropLearned (s : State) (line : Nat) : State :=
  if line < 32 then
    modCirc { s with mram := { s.mram with circ := s.mram.circ.filter fun p => p.1 ≠ line } } line
      fun r => { r with lrn := none, dirtyAt := none }
  else if line < 48 then
    modVlv { s with mram := { s.mram with vlv := s.mram.vlv.filter fun p => p.1 ≠ line - 32 } } (line - 32)
      fun r => { r with learned := [0, 0, 0, 0], learnedAt := 0 }
  else if line < 112 then
    modZone { s with mram := { s.mram with zones := s.mram.zones.filter fun p => p.1 ≠ line - 48 } } (line - 48)
      fun r => { r with rates := none }
  else if line < 128 then { s with mram := { s.mram with disp := { s.mram.disp with readable := false } } }
  else s

/-- The profile stored in a slot is zero again. -/
def dropProfile (s : State) (slot : Nat) : State :=
  match s.mram.profiles[slot]? with
  | none => s
  | some p =>
    let s := { s with mram := { s.mram with profiles := s.mram.profiles.filter fun q => q.loop ≠ p.loop } }
    modLoop s p.loop fun l => { l with rc := { l.rc with profile := l.rc.profile.map fun _ => 0 } }

/-- A configuration copy is rewritten from the configuration in force, at the same generation. -/
def rewriteCopy (s : State) (k : Nat) : State :=
  let c : CfgCopy := ⟨s.dict.gen, schemaVersion, true, s.dict.st = 0, configOf s.dict.committed⟩
  mramWritten { s with mram := { s.mram with copies := setNth s.mram.copies k c } } (0x400000 + 0x80000 * k)
    (0x480000 + 0x80000 * k)

/-- What a poisoned MRAM line leads to. -/
def poisonMram (s : State) (off : Nat) : State :=
  if off < 0x400000 then
    let k := off / 0x200000
    let w := nth {} s.mram.slots k
    { s with mram := { s.mram with slots := setNth s.mram.slots k { w with bad := w.bad ++ [off % 0x200000] } } }
  else if off < 0x580000 then
    (if isUp s && !configBad s then rewriteCopy s ((off - 0x400000) / 0x80000)
     else
      let k := (off - 0x400000) / 0x80000
      let c := nth ⟨0, 0, false, false, []⟩ s.mram.copies k
      { s with mram := { s.mram with copies := setNth s.mram.copies k { c with intact := false, blank := false } } })
  else if off < 0x600000 then s
  else if off < 0x700000 then dropProfile s ((off - 0x600000) / 0x4000)
  else if off < 0x720000 then dropLearned s ((off - 0x700000) / 32)
  else if off < 0x740000 then
    { s with mram := { s.mram with poisonedLog := s.mram.poisonedLog ++ [(off - 0x720000) / 32] } }
  else if off < 0x780000 then
    { s with mram := { s.mram with save := { s.mram.save with lost := true } } }
  else if off < 0x78C000 then
    let k := (off - 0x780000) / 0x4000
    let c := nth ⟨0, false, {}, []⟩ s.mram.maps k
    { s with mram := { s.mram with maps := setNth s.mram.maps k { c with intact := false } } }
  else s

/-- What a poisoned SRAM line leads to. -/
def poisonSram (s : State) (off : Nat) : State :=
  if off < 0x5500 then
    let e := off / 64
    if s.mem.heddleBad.contains e then s else { s with mem := { s.mem with heddleBad := s.mem.heddleBad ++ [e] } }
  else if 0x6000 ≤ off ∧ off < 0x6800 then
    let keys := (upTo 24) ++ ((upTo 46).map fun c => 0x100 + c) ++ (upTo 24).map fun k => 0x200 + k
    forAll (keys.filter fun k => lineOf (recAddr k) == off)
      (fun s k => setRec s k { getRec s k with present := false }) s
  else failModule s sfMemory

/-- An uncorrectable line: poison, its consequence, and a defective row (R342, R345). -/
def poisonLine (s : State) (m off origin : Nat) : State :=
  let bank := lineBank off
  let row := lineRow off
  let known := if m = 0 then s.mem.poisonS.contains off else s.mem.poisonM.contains off
  if known then s
  else
    let s := if m = 0 then
        { s with mem := { s.mem with poisonS := s.mem.poisonS ++ [off], sramUncorrectable := s.mem.sramUncorrectable + 1 } }
      else
        { s with mem := { s.mem with poisonM := s.mem.poisonM ++ [off], mramUncorrectable := s.mem.mramUncorrectable + 1 } }
    let s := addLedger (refreshPoison s) m 5 origin bank row 0xFFFF
    let s := defectRow s m bank row origin
    if m = 0 then poisonSram s off else poisonMram s off

/-! ### Classification of corrected symbols (R345) -/

/-- The rows in which a column was corrected. -/
def rowsHit (hits : List Hit) (m : MemKind) (bank col : Nat) : List Nat :=
  ((hits.filter fun h => h.mem == m && lineBank h.line == bank && h.col == col).map fun h => lineRow h.line).eraseDups

/-- The lines of a row that were corrected at columns not repaired. -/
def linesHit (s : State) (hits : List Hit) (m : MemKind) (bank row : Nat) : List Nat :=
  ((hits.filter fun h => h.mem == m && lineBank h.line == bank && lineRow h.line == row &&
    !colRepaired s (memNo m) bank h.col).map fun h => h.line).eraseDups

/-- Column and row thresholds for the banks and rows of `news` among `hits`. -/
def classify (s : State) (hits news : List Hit) (origin : Nat) : State :=
  let s := forAll news (fun s h =>
    if 4 ≤ (rowsHit hits h.mem (lineBank h.line) h.col).length then
      defectColumn s (memNo h.mem) (lineBank h.line) h.col origin
    else s) s
  forAll news (fun s h =>
    if 3 ≤ (linesHit s hits h.mem (lineBank h.line) (lineRow h.line)).length then
      defectRow s (memNo h.mem) (lineBank h.line) (lineRow h.line) origin
    else s) s

/-- A symbol corrected in two consecutive passes is a hard cell; the third of a row makes it defective. -/
def hardCell (s : State) (h : Hit) (origin : Nat) : State :=
  if s.mem.prevHits.contains h && !s.mem.hardCells.contains h then
    let s := { s with mem := { s.mem with hardCells := s.mem.hardCells ++ [h] } }
    let n : Nat := (s.mem.hardCells.filter fun x =>
      x.mem == h.mem && lineBank x.line == lineBank h.line && lineRow x.line == lineRow h.line).length
    if n = 3 then defectRow s (memNo h.mem) (lineBank h.line) (lineRow h.line) origin else s
  else s

/-! ### Lanes (R100, R102, R350) -/

/-- A lane is retired: the spare takes its place, event log, ledger and repair map record it. -/
def retireLane (s : State) (i : Nat) : State :=
  let e := s.engine
  let spare := spareFree s
  let s := modLane s i fun l => { l with retired := true }
  let s := { s with engine := { s.engine with
    first := if e.first = i ∧ spare then 2 else e.first
    second := if e.second = i ∧ spare then 2 else e.second
    degraded := true } }
  let s := logEvent s 0x0301 (bytes1 [i, 1])
  let s := { s with mem := { s.mem with map := { s.mem.map with lanes := s.mem.map.lanes ++ [i] } } }
  writeMap (addLedger s 2 4 4 i 0xFFFF 0xFFFF)

/-- A fault against a lane (R100): the second within LANE_WINDOW of the first retires it; while DEGRADED the
whole engine fails instead (R102). -/
def laneFault (s : State) (i : Nat) : State :=
  let l := getLane s i
  let s := modLane s i fun l => { l with faults := l.faults + 1 }
  if l.retired then s
  else
    match l.firstFault with
    | some t =>
      if s.clk ≤ after t (secs (Cfg.engineLaneWindow s)) then
        if s.engine.degraded then
          failModule { s with engine := { s.engine with stopped := true } } sfCompute
        else retireLane s i
      else modLane s i fun l => { l with firstFault := some s.clk }
    | none => modLane s i fun l => { l with firstFault := some s.clk }

end Sys2Proof.Machine
end

