-- ==== Sys2Proof/Machine/Memory.lean ====
section
/-! DEFINITION. The scrubber, write-back, the heddle table's repair and invalidation
(15_memory_and_repair). -/

namespace Sys2Proof.Machine

/-- The scrub goes to the next line; after the last one a pass is complete (R344, R347). -/
def scrubOn (s : State) : State :=
  if s.mem.scrubPos + 32 ≥ 0x1000000 then
    { s with mem := { s.mem with
        scrubPos := 0, passes := s.mem.passes + 1, lastPass := (s.clk - s.mem.passStart) / clkPerMs
        passStart := s.clk, prevHits := s.mem.hits, hits := []
        passMoves := s.mem.map.moving, filled := s.mem.passMoves } }
  else { s with mem := { s.mem with scrubPos := s.mem.scrubPos + 32 } }

/-- SCRUB_READ (R340, R343): the next line of the pass is read. `errs` are the symbol columns of the line that
are in error; the columns the repair map erases in its bank count as erasures. -/
def execScrubRead (errs : List Nat) (s : State) : Out :=
  if !s.mem.scrubbing then .next s
  else
    let pos := s.mem.scrubPos
    let kind : MemKind := if pos < 0x800000 then .sram else .mram
    let off := pos % 0x800000
    let er := erasedNow s (memNo kind) (lineBank off)
    let es := (errs.filter fun c => decide (c < 36) && !er.contains c).eraseDups
    let hits := es.map fun c => (⟨kind, off, c⟩ : Hit)
    .next (scrubOn (if es.isEmpty then s
      else if 2 * es.length + er.length ≤ 4 then
        { s with mem := { s.mem with hits := s.mem.hits ++ hits, writebacks := s.mem.writebacks ++ hits } }
      else poisonLine s (memNo kind) off 2))

/-- CORRECTED_WRITEBACK (R341, R345): a corrected line is written back, counted and classified. -/
def execCorrectedWriteback (mem : MemKind) (offset : Nat) (s : State) : Out :=
  let own := fun h : Hit => h.mem == mem && h.line == lineOf offset
  let news := s.mem.writebacks.filter own
  let s := { s with mem := { s.mem with
    writebacks := s.mem.writebacks.filter fun h => !own h
    sramCorrected := s.mem.sramCorrected + if mem = .sram then 1 else 0
    mramCorrected := s.mem.mramCorrected + if mem = .mram then 1 else 0 } }
  let s := forAll news (fun s h => hardCell s h 2) s
  .next (classify s (s.mem.hits ++ s.mem.prevHits.filter fun _ => s.mem.hits.isEmpty) news 2)

/-- HEDDLE_REWRITE (R342, R354): a poisoned entry is rewritten from the committed configuration; an engine that holds it in its
cache keeps the cached content. -/
def execHeddleRewrite (entry : Nat) (s : State) : Out :=
  if s.mem.heddleBad.contains entry then
    .next (heddleStore { s with mem := { s.mem with
      heddleBad := s.mem.heddleBad.filter fun e => e ≠ entry } } entry)
  else .next s

/-- SPARE_MOVE_COMPLETE (R347): the pass that followed the start of a move has filled the spare, and the map records the
end of the move. -/
def execSpareMoveComplete (s : State) : Out :=
  let left := s.mem.map.moving.filter fun m => !s.mem.filled.contains m
  if left = s.mem.map.moving then .next s
  else
    .next (writeMap (refreshMapFlags
      { s with mem := { s.mem with map := { s.mem.map with moving := left }, filled := [] } }))

/-- INVALIDATE (R355): FIRST and COUNT of the word written. -/
def startInvalidate (s : State) (w : Nat) : State :=
  { s with mem := { s.mem with invState := 1, invFirst := w % 65536, invCount := w / 65536 } }

/-- INVALIDATION_COMPLETE (R355): every engine has dropped the entries. -/
def execInvalidationComplete (s : State) : Out :=
  if s.mem.invState = 1 then
    let gone := fun e : Nat => decide (s.mem.invFirst ≤ e) && decide (e < s.mem.invFirst + s.mem.invCount)
    .next { s with mem := { s.mem with
      invState := 2, caches := s.mem.caches.map fun c => c.filter fun p => !gone p.1 } }
  else .next s

end Sys2Proof.Machine
end

