-- ==== Sys2Proof/Machine/Zones.lean ====
section
/-! DEFINITION. Optimum start and what it learns (05_loop_modes, R130, R131). -/

namespace Sys2Proof.Machine

/-- PV of a loop as Q16 °C. -/
def loopPvQ16 (s : State) (n : Nat) : Int := convPoint (Cfg.loopPoint s n) 16 (getLoop s n).pv

/-- The rates are kept between 0.1 and 20 K/h. -/
def keepRate (v : Int) : Int := clampInt 6554 1310720 v

/-- A prestart ends at calendar time `end_` with PV `pv`: learn from it unless R131 excludes it. -/
def prestartEnd (s : State) (z : Nat) (end_ : Nat) (pv : Int) : State :=
  match (getZone s z).pre with
  | none => s
  | some p =>
    let s := modZone s z fun r => { r with pre := none }
    let elapsed : Int := (end_ : Int) - p.at_ - Cfg.zoneDeadTime s z * 60 * 65536
    match p.startPv with
    | none => s
    | some v0 =>
      let rise : Int := (pv - v0).natAbs
      if p.bad ∨ elapsed ≤ 0 ∨ rise = 0 then s
      else
        let meas := rise * 3600 * 65536
        let k := Cfg.zoneOsLearnDiv s z
        let old := zoneRates s z
        let r := if p.heat then old.1 else old.2
        let new_ := keepRate (r + roundDiv (meas - r * elapsed) (elapsed * k))
        modZone s z fun q => { q with
          rates := some (if p.heat then (new_, old.2) else (old.1, new_))
          dirtyAt := some (q.dirtyAt.getD s.clk), count := q.count + 1
          lastErr := roundDiv ((end_ : Int) - p.tOcc) (60 * 65536) }

/-- The zones whose loop is `n`. -/
def zonesOf (s : State) (n : Nat) : List Nat :=
  (upTo 64).filter fun z => Cfg.zoneEnable s z && Cfg.zoneLoop s z == n

/-- A sample of a zone's loop during a prestart: its first PV, what excludes it, and its end at SP_OCCUPIED. -/
def zoneSample (s : State) (n : Nat) (valid : Bool) : State :=
  forAll (zonesOf s n) (fun s z =>
    match (getZone s z).pre with
    | none => s
    | some p =>
      let pv := loopPvQ16 s n
      let p := { p with bad := p.bad || !valid || (getLoop s n).modeActive != 1
                        startPv := if valid then some (p.startPv.getD pv) else p.startPv }
      let s := modZone s z fun r => { r with pre := some p }
      if valid && decide (((Cfg.zoneSpOccupied s z - pv).natAbs : Int) ≤ Cfg.zoneOsReach s z) then
        prestartEnd s z s.cal.now pv
      else s) s

/-- PRESTART_AT of a zone (R130). -/
def prestartAt (s : State) (z : Nat) : Nat × Nat :=
  let d := Cfg.zoneSpOccupied s z - loopPvQ16 s (Cfg.zoneLoop s z)
  if !Cfg.zoneOsEnable s z || s.cal.st == 0 then (0, 0)
  else
    match nextOccupied s (Cfg.zoneOccProgram s z) with
    | none => (0, 0)
    | some t =>
      let gap : Int := (d.natAbs : Int) - Cfg.zoneOsReach s z
      if gap ≤ 0 then (0, 0)
      else
        let rate := if 0 < d then (zoneRates s z).1 else (zoneRates s z).2
        let lead : Int := Cfg.zoneDeadTime s z + (if rate ≤ 0 then 0 else (60 * gap + rate - 1) / rate)
        (((t - min lead (Cfg.zoneMaxPrestart s z) * 60) * 65536).toNat, t.toNat * 65536)

/-- The zone's loop lies below SP_OCCUPIED: HEAT_RATE is the rate R130 uses. -/
def prestartHeats (s : State) (z : Nat) : Bool := decide (loopPvQ16 s (Cfg.zoneLoop s z) < Cfg.zoneSpOccupied s z)

/-- OPTIMUM_START (R130): at second 0 of every local minute; a value the calendar has reached is frozen until
t_occ. -/
def execOptimumStart (s : State) : Out :=
  if localSec s % 60 ≠ 0 then .next s
  else
    .next (forAll ((upTo 64).filter fun z => Cfg.zoneEnable s z) (fun s z =>
      let r := getZone s z
      if r.prestartAt ≠ 0 ∧ r.prestartAt ≤ s.cal.now ∧ s.cal.now < r.tOcc then s
      else
        let p := prestartAt s z
        let heat := prestartHeats s z
        modZone s z fun r => { r with prestartAt := p.1, tOcc := p.2, preHeat := heat }) s)

/-- PRESTART_TIMEOUT (R131): a prestart that still runs at t_occ + 60 min ends. -/
def execPrestartTimeout (z : Nat) (s : State) : Out :=
  match (getZone s z).pre with
  | some p =>
    if p.tOcc + 3600 * 65536 ≤ s.cal.now then .next (prestartEnd s z s.cal.now (loopPvQ16 s (Cfg.zoneLoop s z)))
    else .next s
  | none => .next s

/-- OS_LEARN_RESET (R131): back to the initial rates. -/
def osLearnReset (s : State) (z : Nat) : State :=
  modZone s z fun r => { r with rates := none, dirtyAt := some (r.dirtyAt.getD s.clk) }

end Sys2Proof.Machine
end

