-- ==== Sys2Proof/Machine/Loops.lean ====
section
/-! DEFINITION. The control engine: samples that fall due, the evaluation of a sample on two lanes, hand-over,
the lane test and the profile copies (04_control_engine, 05_loop_modes). -/

namespace Sys2Proof.Machine

/-! ### Due samples (R91, R93) -/

/-- SAMPLE_TIMER (R91): SAMPLE_PERIOD of a TIMER loop has passed. -/
def execSampleTimer (n : Nat) (s : State) : Out :=
  if released s ∧ Cfg.loopTrigger s n = 1 ∧ ¬ loopIdle s n ∧ due s (getLoop s n).nextTimer then
    let s := modLoop s n fun l => { l with nextTimer := after l.nextTimer (usecs (Cfg.loopSamplePeriod s n)) }
    .next (loopDue s n s.clk false)
  else .next s

/-- WARP_SAMPLE (R91): WARP_PHASE of every WARP_DIV-th cycle, counted from cycle count 0. -/
def execWarpSample (n : Nat) (s : State) : Out :=
  if released s ∧ Cfg.loopTrigger s n = 2 ∧ ¬ loopIdle s n ∧ s.warp.cycle % Cfg.loopWarpDiv s n = 0 ∧
      Cfg.loopWarpPhase s n ≤ warpNow s % 65536 ∧ (getLoop s n).warpDone ≠ some s.warp.cycle then
    .next (loopDue (modLoop s n fun l => { l with warpDone := some s.warp.cycle }) n s.clk false)
  else .next s

/-! ### One sample (R86) -/

/-- The change of mode at a sample: the hand-over target, what is written, whether the ramp starts at PV. -/
structure ModeStep where
  mode : Nat
  /-- The sample is a hand-over sample, to or from MANUAL, out of TRACK or CASCADE, or one with a target (R115–R117). -/
  isHandover : Bool
  handover : Option Int
  manOut : Option Int
  spWrite : Option Int
  fromPv : Bool
  deriving DecidableEq, Repr

/-- The mode of this sample against that of the last one (R113–R117, R123). -/
def modeStep (s : State) (n : Nat) : ModeStep :=
  let l := getLoop s n
  let m := nextMode s n
  let p := l.modeActive
  let eval := decide (m = 1 ∨ m = 2)
  let h : Option Int :=
    if !eval then none
    else if p = 0 then some (Cfg.lmManOut s n)
    else if p = 3 then some l.out
    else l.handover
  { mode := m
    isHandover := h.isSome || decide (m = 0 ∧ p ≠ 0) || decide (m = 1 ∧ p = 2)
    handover := h
    manOut := if m = 0 ∧ p ≠ 0 then some l.out else none
    spWrite := if m = 1 ∧ p = 2 then some l.sp else none
    fromPv := decide (m = 1 ∧ p = 0) || l.rampFromPv }

/-- The set-point of a sample and the ramp after it (R112, R123). -/
def sampleSp (s : State) (n : Nat) (m : ModeStep) (pv : Int) : Int × RampSt :=
  let l := getLoop s n
  let t := Cfg.loopSetpoint s n
  let r : RampSt := ⟨l.spRamp, l.target, l.rampRem⟩
  if m.mode = 1 then
    let r : RampSt := match m.spWrite with
      | some v => ⟨v, v, 0⟩
      | none => r
    let q := rampStep r m.fromPv pv t (Cfg.lmRampUp s n) (Cfg.lmRampDown s n) (Cfg.lmRampScale s n)
      (s.clk - l.lastSampleClk)
    (q.ramp, q)
  else if m.mode = 2 then
    let v := readSrc s (Cfg.loopSpSource s n)
    (convPoint v.point (Cfg.loopPoint s n) v.value, r)
  else (t, r)

/-- What one evaluation gives: history, u, MODE_FLAGS, SAT_HIGH and SAT_LOW, and the RC after it. -/
structure EvalOut where
  hist : List Hist
  u : Int
  preset : Bool
  residual : Option Int
  bump : Bool
  clamped : Bool
  satHigh : Bool
  satLow : Bool
  learned : Bool
  rc : RcRt
  deriving DecidableEq, Repr

/-- The sections and the limit: history, unlimited output with the RC term, u. -/
def evalOnce (s : State) (n : Nat) (hist : List Hist) (e r : Int) : List Hist × Int × Int :=
  let c := cascade (coefsOf s n) hist e
  let v := c.2 + r
  (c.1, v, clampInt (Cfg.loopOutMin s n) (Cfg.loopOutMax s n) v)

/-- The evaluation of a sample in AUTO or CASCADE: RC term, hand-over, limits, back-calculation, learning
(R86, R117, R118, R121, R122, R125). -/
def evalSample (s : State) (n : Nat) (handover : Option Int) (e : Int) (stamp : Nat) (rc : RcRt) (held : Bool) :
    EvalOut :=
  let l := getLoop s n
  let i := Cfg.loopIntegSection s n
  let t := rcStep s n stamp rc
  let r := t.1
  let first := evalOnce s n l.hist e r
  let far := match handover with
    | some h => decide (((first.2.2 - h).natAbs : Int) > Cfg.lmHandoverTol s n)
    | none => false
  let preset := far && i != 255
  let x := if preset then evalOnce s n (presetHist (coefsOf s n) i (handover.getD 0) r e) e r else first
  let hi := decide (Cfg.loopOutMax s n < x.2.1)
  let lo := decide (x.2.1 < Cfg.loopOutMin s n)
  let limited := hi || lo
  let back := i != 255 && (held || (Cfg.lmCondInt s n == 1 && limited))
  let target := if held then l.heldOut else x.2.2
  let hist := if back then x.1.take i ++ (presetHist (coefsOf s n) i target r e).drop i else x.1
  let ok := Cfg.rcRcEnable s n && !limited && !held && (rcRef s n).learn
  { hist := hist, u := x.2.2, preset := preset
    residual := if preset then some (x.2.2 - handover.getD 0) else none
    bump := far && i == 255, clamped := back, satHigh := hi, satLow := lo, learned := ok
    rc := if ok then { t.2 with sum := t.2.sum + e, count := t.2.count + 1 } else t.2 }

/-- Two lanes agree: on every section output and on u (R98). -/
def laneSame (a b : LaneDev) : Bool := a.u == b.u && (upTo 16).all fun k => nth 0 a.ys k == nth 0 b.ys k

/-- The comparison of the lanes and the re-evaluation (R98, R99): what the agreeing lanes add to the true result, whether it
was retried, the lanes at fault. `none`: no two lanes agree. -/
def laneVote (s : State) (err : LaneErr) : Option (LaneDev × Bool × List Nat) :=
  if laneSame err.p err.q then some (err.p, false, [])
  else
    let e := fun i : Nat => if i = 0 then err.ra else if i = 1 then err.rb else err.rs
    let a := s.engine.first
    let b := s.engine.second
    if spareFree s then
      let others := fun i : Nat => (upTo 3).filter fun j => j != i
      if laneSame (e 0) (e 1) && laneSame (e 1) (e 2) then
        some (e 0, true, (if laneSame err.p (e 0) then [] else [a]) ++ if laneSame err.q (e 0) then [] else [b])
      else
        match (upTo 3).find? fun i =>
            (others i).all fun j => !laneSame (e j) (e i) && laneSame (e j) (e ((others i).headD 0)) with
        | some i => some (e ((others i).headD 0), true, [i])
        | none => none
    else if laneSame (e a) (e b) then some (e a, true, [])
    else none

/-- The staged history with what the agreeing lanes add to the section outputs. -/
def devHist : List Hist → List Int → List Hist
  | h :: hs, y :: ys => { h with y1 := sat32 (h.y1 + y) } :: devHist hs ys
  | hs, _ => hs

/-- The output with what the agreeing lanes add to it. -/
def devOut (u dev : Int) : Int := if dev = 0 then u else sat32 (u + dev)

/-- The loops that take the output of loop `n` as SP_SOURCE or PV_SOURCE, directly or through others. -/
def loopsFed (s : State) : Nat → List Nat → List Nat
  | 0, l => l
  | fuel + 1, l =>
    let more := (upTo 256).filter fun m =>
      Cfg.loopEnable s m && !l.contains m && (l.contains (Cfg.loopPvSource s m) || l.contains (Cfg.loopSpSource s m))
    if more.isEmpty then l else loopsFed s fuel (l ++ more)

/-- LOOP_FAULT (R99): the loop and those it feeds stop, and their channels take their safe states. -/
def loopFault (s : State) (n : Nat) : State :=
  let ls := loopsFed s 256 [n]
  let s := forAll ls (fun s m => modLoop s m fun l =>
    { l with fault := true, due := none, flags := Flag.set l.flags lfFault true }) s
  failChannels s sfCompute ((ls.map fun m => Cfg.loopOutput s m).filter isOutEntry) n

/-- Apply a loop output to its channel (R95). -/
def loopDrive (s : State) (n : Nat) (u : Int) : State :=
  let h := Cfg.loopOutput s n
  let q := convPoint (Cfg.loopPoint s n) 16 u
  if h = 0xFFFF ∨ ¬ drives s h then s
  else if h < 288 then ioApply s (h - 256)
  else if h < 304 then
    let v := h - 288
    if (getVlv s v).mode = 2 then propDrive s v q
    else if (getVlv s v).cmdOn = decide (0 < q) ∧ (getVlv s v).pulseEnd.isNone then s
    else vlvCommandFree s v (if 0 < q then 0xFFFFFFFF else 0)
  else if h < 308 then fanUpdate s (h - 304)
  else aoApply s (h - 332)

/-- The delay of a sample against the bound of its class (R97): LAST_DELAY for RESULT, the time since its start
otherwise. -/
def delayOver (s : State) (a : AxisOut) : Bool :=
  let t := s.clk - if a.result then a.stampClk else a.startClk
  match Cfg.loopClass s a.loop with
  | 0 => decide (400 < t)
  | 1 => decide (8000 < t)
  | _ => false

/-- An output is applied now (R97): its delay is recorded and judged, and the loops that read it have a new result. DESIGN
CHOICE (log entry 48): a sample whose delay does not count does not set DELAY_EXCEEDED either. -/
def outputApplied (s : State) (a : AxisOut) : State :=
  let over_ := a.counted && delayOver s a
  let delay := min (s.clk - a.stampClk) 0xFFFFFFFF
  let s := modLoop s a.loop fun l =>
    { l with
      outAtWarp := warpNow s, outAtClk := some s.clk, lastDelay := delay
      minDelay := min l.minDelay delay, maxDelay := max l.maxDelay delay
      delayExcess := l.delayExcess + if over_ then 1 else 0
      flags := Flag.set l.flags lfDelay over_ }
  resultDue s a.loop s.clk

/-- The transform stage of fan `k` takes what its axis loops have brought: Vd, Vq and the shadow (R210). A fan that the loops
do not run keeps its shadow. Each output counts as applied now; one that two fans take counts at the lower. -/
def axisApply (s : State) (k : Nat) : State :=
  let c := getFan s k
  let outs := c.axisD.toList ++ c.axisQ.toList
  let vd := (c.axisD.map fun a => a.value).getD c.vd
  let vq := (c.axisQ.map fun a => a.value).getD c.vq
  let s := modFan s k fun c => { c with axisD := none, axisQ := none, vd := vd, vq := vq }
  let s := if c.st = 4 ∧ ¬ fanBuiltin s k ∧ ¬ isSafe s (304 + k) then shadowSet s k vd vq else s
  forAll outs (fun s a => if (axisFans s a.loop).head? = some k then outputApplied s a else s) s

/-- An output reaches fan `k`: it waits for the other axis loop, unless that loop takes no samples (R95, R210; log entry
49). -/
def axisTake (s : State) (k : Nat) (a : AxisOut) : State :=
  let s := modFan s k fun c =>
    { c with axisD := if Cfg.dfanDLoop s k = a.loop then some a else c.axisD
             axisQ := if Cfg.dfanQLoop s k = a.loop then some a else c.axisQ }
  let c := getFan s k
  let alone := fun n : Nat => decide (256 ≤ n) || loopIdle s n
  if (c.axisD.isSome || alone (Cfg.dfanDLoop s k)) && (c.axisQ.isSome || alone (Cfg.dfanQLoop s k)) then axisApply s k
  else s

/-- An output goes to the fans whose axis it is, or is applied at once. -/
def outputGo (s : State) (a : AxisOut) : State :=
  let ks := axisFans s a.loop
  if ks.isEmpty then outputApplied s a else forAll ks (fun s k => axisTake s k a) s

/-- PV_INVALID (R92): the sample is counted, its flags describe it (R110, R133), and nothing else changes: not even a new
MODE or MAN_OUT, which wait for the first sample that is evaluated (DESIGN CHOICE, log entry 50). -/
def sampleInvalid (s : State) (n : Nat) : State :=
  let held := chanReplaced s n (Cfg.loopOutput s n)
  let s := modLoop s n fun l =>
    { l with due := none, samples := l.samples + 1, lastSampleClk := s.clk, overPending := false
             flags := Flag.set (Flag.set (0 : Flags) lfOverrun l.overPending) lfPvInvalid true
             modeFlags := Flag.set (Flag.set (0 : Flags) mfHeld held) mfRamping (decide (l.spRamp ≠ l.target)) }
  zoneSample s n false

/-- A sample of a PAIRED loop on the standby: PV, SP and ERROR only (R322). -/
def sampleStandby (s : State) (n : Nat) (pv : Int) : State :=
  let sp := Cfg.loopSetpoint s n
  modLoop s n fun l => { l with
    due := none, pv := pv, sp := sp, lastSampleClk := s.clk
    err := if Cfg.loopErrSign s n = 0 then sat32 (sp - pv) else sat32 (pv - sp) }

/-- The result of a sample that the lanes agree on becomes the loop state and is applied (R86, R97). -/
def sampleApply (s : State) (n : Nat) (m : ModeStep) (x : EvalOut) (v : SrcVal) (d : DueSample)
    (pv sp e u : Int) (r : RampSt) (retried stale held : Bool) : State :=
  let counted := !retried && !(decide (Cfg.loopClass s n = 0) && m.isHandover)
  let fl := fun l : LoopRt =>
    Flag.set (Flag.set (Flag.set (Flag.set (Flag.set (0 : Flags) lfSatHigh x.satHigh) lfSatLow x.satLow)
      lfRetried retried) lfOverrun l.overPending) lfStale stale
  let mf := Flag.set (Flag.set (Flag.set (Flag.set (Flag.set (Flag.set (0 : Flags) mfPreset x.preset) mfBump x.bump)
    mfClamped x.clamped) mfHeld held) mfRamping (decide (r.ramp ≠ r.target))) mfLearned x.learned
  let s := modLoop s n fun l =>
    { l with
      due := none, hist := x.hist, pv := pv, sp := sp, err := e, out := u, outStamp := v.stamp
      samples := l.samples + 1
      retries := l.retries + if retried then 1 else 0
      flags := fl l, modeFlags := mf, overPending := false, modeActive := m.mode, handover := none
      rampFromPv := false, spRamp := r.ramp, rampRem := r.rem, target := r.target
      presetResidual := x.residual.getD l.presetResidual
      handovers := l.handovers + if x.preset then 1 else 0
      lastSampleClk := s.clk, lastPv := some v.atClk, rc := x.rc
      heldOut := if held then l.heldOut else u }
  outputGo (zoneSample (loopDrive s n u) n true)
    ⟨n, convPoint (Cfg.loopPoint s n) 16 u, v.stampClk, d.endClk, d.result, counted⟩

/-- The sample on a valid PV result. -/
def sampleEval (s : State) (n : Nat) (err : LaneErr) (v : SrcVal) (d : DueSample) (pv : Int) : State :=
  let l := getLoop s n
  let m := modeStep s n
  -- what a change of mode or a set-point from Loom writes (R75, R115, R116)
  let s := match m.manOut with
    | some u => writeRw s (memKey (0x4800 + n) 17) (.num u)
    | none => s
  let s := match m.spWrite with
    | some sp => writeRw s (memKey (0x4000 + n) 15) (.num sp)
    | none => s
  let s := match l.loomSp with
    | some sp => writeRw (modLoop s n fun l => { l with loomSp := none }) (memKey (0x4000 + n) 15) (.num sp)
    | none => s
  let p := sampleSp s n m pv
  let sp := p.1
  let e := if Cfg.loopErrSign s n = 0 then sat32 (sp - pv) else sat32 (pv - sp)
  let rc := if l.rc.clear then { l.rc with clear := false, profile := l.rc.profile.map fun _ => 0, sum := 0, count := 0 }
    else l.rc
  let rc := match rc.newProfile with
    | some q => { rc with profile := q, newProfile := none, sum := 0, count := 0 }
    | none => rc
  let held := chanReplaced s n (Cfg.loopOutput s n)
  let x : EvalOut :=
    if m.mode = 1 ∨ m.mode = 2 then evalSample s n m.handover e v.stamp rc held
    else
      { hist := l.hist, u := if m.mode = 0 then Cfg.lmManOut s n else trackVal s n, preset := false, residual := none
        bump := false, clamped := false, satHigh := false, satLow := false, learned := false, rc := rcIdle s n v.stamp rc }
  let stale := !d.result && decide (l.lastPv = some v.atClk)
  match laneVote s err with
  | none => loopFault s n
  | some (dev, retried, bad) =>
    let x := { x with hist := devHist x.hist dev.ys }
    let s := sampleApply s n m x v d pv sp e (devOut x.u dev.u) p.2 retried stale held
    forAll bad laneFault s

/-- LOOP_SAMPLE (R86): the engine evaluates the due sample of loop n, when it is its turn (R94). `err` is what
each lane adds to the true result: all 0 in a healthy engine. -/
def execLoopSample (n : Nat) (err : LaneErr) (s : State) : Out :=
  match (getLoop s n).due with
  | none => .next s
  | some d =>
    if n ≥ 256 || !released s || loopIdle s n || !servedNext s n then .next s
    else
      let s := (heddleFetch s engControl n).2
      let s := if s.dict.waiting.contains (.loop n) then loopTakeSet s n else s
      let v := readSrc s (Cfg.loopPvSource s n)
      let fresh := v.given_ && (d.result || (decide ((getLoop s n).enableClk ≤ v.atClk) && !srcSilent s (Cfg.loopPvSource s n)))
      let pv := convPoint v.point (Cfg.loopPoint s n) v.value
      if !fresh || !v.valid then .next (sampleInvalid s n)
      else if isStandby s && !isLocalLoop s n then .next (sampleStandby s n pv)
      else .next (sampleEval s n err v d pv)

/-! ### The lane test (R101) and statistics (R97) -/

/-- LANE_TEST (R101): a lane has evaluated its test sections; a wrong result is a fault of that lane. -/
def execLaneTest (lane : Nat) (ok : Bool) (s : State) : Out :=
  if lane ≥ 3 then .next s
  else
    let s := modLane s lane fun l => { l with lastTest := s.clk }
    .next (if ok then s else laneFault s lane)

/-- STATS_RESET (R97). -/
def statsReset (s : State) (n : Nat) : State :=
  modLoop s n fun l => { l with minDelay := 0xFFFFFFFF, maxDelay := 0, overruns := 0, delayExcess := 0, retries := 0 }

/-! ### Profiles (R128, R129) -/

/-- RC_CLEAR: zero at the next sample, whatever an earlier PROFILE write holds. -/
def rcClear (s : State) (n : Nat) : State :=
  modLoop s n fun l => { l with rc := { l.rc with clear := true, newProfile := none } }

/-- The S32 values of a run of bytes. -/
def s32List : List Byte → List Int
  | a :: b :: c :: d :: t => signed 32 (leNat [a, b, c, d]) :: s32List t
  | _ => []

/-- PROFILE: the whole profile is replaced at the next sample. -/
def writeProfile (s : State) (n : Nat) (l : List Byte) : State :=
  modLoop s n fun r => { r with rc := { r.rc with newProfile := some (s32List l) } }

/-- The loops whose profiles are stored: enabled RC, PERIOD_KIND 1 or 2 (R129). -/
def storedLoops (s : State) : List Nat :=
  (upTo 256).filter fun n => Cfg.rcRcEnable s n && decide (1 ≤ Cfg.rcPeriodKind s n)

/-- PROFILE_SAVE (R129, R321): at each full UTC hour, in ascending loop order; each copy sets RC_SAVED. -/
def execProfileSave (s : State) : Out :=
  if s.cal.st = 0 ∨ utcSec s % 3600 ≠ 0 then .next s
  else
    .next (forAll (storedLoops s) (fun s n =>
      let r := (getLoop s n).rc
      let p : StoredProfile := ⟨n, r.kind, r.cycles, r.bins, r.profile, s.cal.now⟩
      let s := { s with mram := { s.mram with profiles := (s.mram.profiles.filter fun q => q.loop ≠ n) ++ [p] } }
      let k : Nat := s.mram.profiles.length - 1
      let s := mramWritten s (0x600000 + 0x4000 * k) (0x604000 + 0x4000 * k)
      let s := modLoop s n fun l => { l with rc := { l.rc with saved := s.cal.now } }
      sendMirror s (.profile n r.kind r.cycles r.bins r.profile)) s)

end Sys2Proof.Machine
end

