-- ==== Sys2Proof/Machine/Calendar.lean ====
section
/-! DEFINITION. The calendar: steps and slews, grid discipline, astronomical events, crystal compensation
(02_warp_timebase, R39–R51; 16_thermal, R367). -/

namespace Sys2Proof.Machine

/-! ### Steps and slews (R41, R42) -/

/-- The values CAL_NOW accepts: 2000-01-01 00:00:00 to 2099-12-31 23:59:59 UTC. A fraction within that last second is accepted
(DESIGN CHOICE, log entry 16: R41 names whole seconds). -/
def calOk (v : Nat) : Bool := decide (v / 65536 ≤ calMaxSec)

/-- The calendar steps to a value: CAL_STATE is VALID, the slew ends, the step is counted and logged. The
astronomical events are due again (R50), and a prestart that runs teaches nothing (R131). -/
def calStep (s : State) (v : Nat) : State :=
  let old := s.cal.now
  let s := { s with cal := { s.cal with
    now := v, acc := 0, st := 2, slewLeft := 0, slewAcc := 0, steps := s.cal.steps + 1, astroAsked := true } }
  let s := logEvent s 0x0102 (leBytes 8 old)
  forAll (upTo 64) (fun s z =>
    modZone s z fun r => { r with pre := r.pre.map fun p => { p with bad := true } }) s

/-- A CAL_SLEW write that would leave |SLEW_LEFT| above 60 s (R42). -/
def slewBad (s : State) (v : Int) : Bool := decide (60 * 65536 < (s.cal.slewLeft + v).natAbs)

/-- CAL_SLEW: the amount is added to SLEW_LEFT. -/
def calSlewAdd (s : State) (v : Int) : State :=
  let n := s.cal.slewLeft + v
  { s with cal := { s.cal with
      slewLeft := n, slewAcc := if (0 < n) = (0 < s.cal.slewLeft) then s.cal.slewAcc else 0 } }

/-- SLEW_END (R42): no slew is left, and the calendar runs at its corrected rate. -/
def execSlewEnd (s : State) : Out :=
  if s.cal.slewLeft = 0 then .next { s with cal := { s.cal with slewAcc := 0 } } else .next s

/-! ### Grid discipline (R44) -/

/-- Cycles and locked time of the last GRID_WINDOW days. -/
def gridSums (days : List GridDay) : Nat × Nat :=
  days.foldl (fun a d => (a.1 + d.cycles, a.2 + d.locked)) (0, 0)

/-- (L / (T × NOMINAL_FREQ) − 1) in 0.01 ppm, kept within −500 and +500. -/
def gridTargetOf (cycles locked freq : Nat) : Int :=
  let n : Int := (locked * freq : Nat)
  clampInt (-500) 500 (roundDiv (((cycles * 65536 : Nat) - n) * 100000000) n)

/-- GRID_EVALUATION (R44): at 00:00 UTC, once a day. -/
def execGridEvaluation (s : State) : Out :=
  let day := (utcSec s / 86400).toNat
  if s.cal.st = 0 ∨ utcSec s % 86400 ≠ 0 ∨ s.cal.gridDay = day then .next s
  else
    let w := Cfg.gridGridWindow s
    let days := lastN 28 (s.cal.days ++ [s.cal.today_])
    let g := gridSums (lastN w days)
    let span := w * 86400 * 65536
    let ok := decide (95 * span ≤ 100 * g.2)
    let target := if ok then gridTargetOf g.1 g.2 (Cfg.warpNominalFreq s) else s.cal.gridTarget
    let cal := { s.cal with days := days, today_ := {}, gridDay := day }
    if Cfg.gridGridDiscEn s then
      .next { s with cal := { cal with
        gridTarget := target
        gridCorr := s.cal.gridCorr + clampInt (-50) 50 (target - s.cal.gridCorr)
        coverage := min 100 (100 * g.2 / span) } }
    else .next { s with cal := { cal with gridCorr := 0 } }

/-! ### Astronomical events (R49, R50) -/

/-- The eight events of a local date. -/
def astroOf (s : State) (date : Nat) : Astro :=
  let es := (upTo 8).map fun k => astroEvent s k date
  { events := es.map fun e => if e.1 = 0 then e.2.toNat * 65536 else 0
    flags := (es.reverse.map fun e => e.1).foldl (fun a f => 4 * a + f) 0
    date := date }

/-- Compute the events of today and tomorrow; nothing while CAL_STATE is UNSET. -/
def astroCompute (s : State) : State :=
  if s.cal.st = 0 then s
  else
    let l := localSec s
    let d := (l / 86400).toNat
    { s with cal := { s.cal with
        today := astroOf s d, tomorrow := astroOf s (d + 1), astroAsked := false
        astroDay := if 300 ≤ l % 86400 then some d else s.cal.astroDay } }

/-- ASTRO_COMPUTATION (R50): at 00:05 local or the first instant after it, once a date; after a calendar step
and after a COMMIT of the location or local-time group. -/
def execAstroComputation (s : State) : Out :=
  let l := localSec s
  if s.cal.astroAsked ∨ (300 ≤ l % 86400 ∧ s.cal.astroDay ≠ some (l / 86400).toNat) then .next (astroCompute s)
  else .next s

/-! ### Crystal compensation (R367) -/

/-- TEMP_CORR in 0.01 ppm at a Q16 temperature of TS0: free where the rule's value lies outside its S16. -/
def tempCorrOf (s : State) (t : Int) : Int :=
  let d := t - Cfg.thermXtalDt s - Cfg.thermXtalT0 s
  typed .s16 (roundDiv (Cfg.thermXtalK s * d * d * 100) (2 ^ 48))

/-- CRYSTAL_COMPENSATION (R367): once a second TEMP_CORR follows the value in use of TS0. -/
def execCrystalCompensation (s : State) : Out :=
  .next (if due s s.therm.nextTemp then
      { s with cal := { s.cal with tempCorr := tempCorrOf s (getSensor s 0).value }
               therm := { s.therm with nextTemp := after s.clk (secs 1) } }
    else s)

end Sys2Proof.Machine
end

