-- ==== Sys2Proof/Machine/Measure.lean ====
section
/-! DEFINITION. Triggers, converters, results, AI inputs, noise and the events of the analogue outputs
(06_measurement). -/

namespace Sys2Proof.Machine

/-! ### Linearisation (R137) -/

/-- 10^16 R(t) / 1 kΩ × 65536^4 of a Pt1000 by IEC 60751 (PRESUMED, log entry 10), t in Q16 °C. -/
def ptCurve (t : Int) : Int :=
  let d : Int := 65536
  10000000000000000 * d ^ 4 + 39083000000000 * t * d ^ 3 - 5775000000 * t ^ 2 * d ^ 2 +
    (if t < 0 then -41830 * (t - 100 * d) * t ^ 3 else 0)

/-- The greatest t of `lo` to `hi` with ptCurve t ≤ v. -/
def ptSolve (v : Int) : Nat → Int → Int → Int
  | 0, lo, _ => lo
  | fuel + 1, lo, hi =>
    if hi ≤ lo + 1 then lo
    else
      let m := (lo + hi) / 2
      if ptCurve m ≤ v then ptSolve v fuel m hi else ptSolve v fuel lo m

/-- Pt1000 temperature of a resistance in Q16 kΩ: Q16 °C, below, above. -/
def ptTemp (r : Int) : Int × Bool × Bool :=
  let v := r * 10000000000000000 * 65536 ^ 3
  let lo : Int := -6553600
  let hi : Int := 26214400
  if v < ptCurve lo then (lo, true, false)
  else if ptCurve hi < v then (hi, false, true)
  else
    let t := ptSolve v 40 lo (hi + 1)
    (if ptCurve (t + 1) - v < v - ptCurve t then t + 1 else t, false, false)

/-- Terms of atanh z in units of 2^-80: z, z^3/3, …; `p` is the present power of z. -/
def atanhGo (z2 : Nat) : Nat → Nat → Nat → Nat
  | 0, _, _ => 0
  | fuel + 1, p, i => p / (2 * i + 1) + atanhGo z2 fuel (p * z2 / 2 ^ 80) (i + 1)

/-- 2 atanh (a / b) in units of 2^-80, 0 ≤ a / b ≤ 1/3. -/
def atanh2 (a b : Nat) : Nat :=
  let z := a * 2 ^ 80 / b
  2 * atanhGo (z * z / 2 ^ 80) 32 z 0

/-- ln (a / b) in units of 2^-80. -/
def lnFrac (a b : Nat) : Int :=
  if b ≤ a then
    let k := Nat.log2 (a / b)
    (k * atanh2 1 3 + atanh2 (a - b * 2 ^ k) (a + b * 2 ^ k) : Nat)
  else
    let k := Nat.log2 (b / a)
    let n := k * atanh2 1 3 + atanh2 (b - a * 2 ^ k) (b + a * 2 ^ k)
    Int.neg n

/-- NTC temperature by the beta model of a resistance in Q16 kΩ: Q16 °C, below, above. -/
def ntcTemp (r nominal beta : Nat) : Int × Bool × Bool :=
  let lo : Int := -3276800
  let hi : Int := 9830400
  if r = 0 ∨ nominal = 0 then (hi, false, true)
  else
    let l := lnFrac (r * 1000) (nominal * 65536)
    let one : Int := 2 ^ 80
    let den := 20 * beta * one + 5963 * l
    if den ≤ 0 then (hi, false, true)
    else
      let t := roundDiv ((5963 * beta * one * 100 - 27315 * den) * 65536) (100 * den)
      if t < lo then (lo, true, false) else if hi < t then (hi, false, true) else (t, false, false)

/-! ### The result of a conversion -/

/-- The set of a channel in force: that of an AI input; a set of zeros for an internal channel. -/
def convSet (s : State) (code : Nat) : ConvSet :=
  if 308 ≤ code ∧ code < 332 then
    let k := code - 308
    ⟨Cfg.aiAiMode s k, Cfg.aiSensor s k, Cfg.aiGain s k, Cfg.aiOffset s k, Cfg.aiNtcNominal s k, Cfg.aiNtcBeta s k⟩
  else {}

/-- Over-range of an AI input in the sense of R136, by the quantity before linearisation: low, high. -/
def aiOver (s : State) (k : Nat) (c : ConvSet) (l : Int) : Bool × Bool :=
  match c.mode with
  | 1 => (decide (l < -32768), decide (688128 < l))
  | 2 => (decide (l < -688128), decide (688128 < l))
  | 3 => (decide (l < -32768), decide (1572864 < l) || (getAi s k).shuntOpen)
  | 4 => (false, decide (6881280 ≤ l))
  | 5 => (false, decide (688128 ≤ l))
  | _ => (false, false)

/-- EXC_FAULT (R138). -/
def aiExc (s : State) (k : Nat) (c : ConvSet) (l : Int) : Bool :=
  match c.mode with
  | 3 => (getAi s k).shuntOpen
  | 4 | 5 => (aiOver s k c l).2
  | _ => false

/-- The quantities that a mode maps onto the codes 0x0001 and 0xFFFE, Q16 (R453). -/
def rawSpan (mode : Nat) : Int × Int :=
  match mode with
  | 1 => (-32768, 688128)
  | 2 => (-688128, 688128)
  | 3 => (-32768, 1572864)
  | 4 => (0, 6881280)
  | _ => (0, 688128)

/-- The accuracy of R441 in codes: of span in modes 1 to 3, of the reading plus a resistance in modes 4 and 5. -/
def rawError (mode : Nat) (l : Int) : Int :=
  match mode with
  | 1 => 89
  | 2 => 93
  | 3 => 160
  | 4 => (((l.natAbs : Int) + 655360) * 65533) / 6881280000
  | _ => (((l.natAbs : Int) + 65536) * 65533) / 688128000

/-- RAW of an AI input in range (R453): the linear mapping, off by `raw` codes, no more than the accuracy allows. -/
def aiRaw (mode : Nat) (l raw : Int) : Nat :=
  let b := rawSpan mode
  let e := rawError mode l
  (clampInt 1 0xFFFE (1 + roundDiv ((l - b.1) * 65533) (b.2 - b.1) + clampInt (-e) e raw)).toNat

/-- VALUE, RAW and the range flags of an AI input (R137, R138, R453). -/
def aiValue (s : State) (k : Nat) (c : ConvSet) (l raw : Int) : Int × Nat × Nat :=
  let o := aiOver s k c l
  let exc := if aiExc s k c l then rfExc else 0
  if o.1 then (s32Min, 0, rfLow + exc)
  else if o.2 then (s32Max, 0xFFFF, rfHigh + exc)
  else
    let t : Int × Bool × Bool :=
      if c.sensor = 1 then ptTemp l
      else if c.sensor = 2 then ntcTemp l.toNat c.nominal c.beta
      else (l, false, false)
    (sat32 (roundDiv (c.gain * t.1) 65536 + c.offset), aiRaw c.mode l raw,
      (if t.2.1 then rfLow else 0) + if t.2.2 then rfHigh else 0)

/-- RECOVERING of an AI input (R151). -/
def aiRecovering (s : State) (k : Nat) : Bool :=
  (decide (0 < k) && (getAi s (k - 1)).clamped) || (getAi s (k + 1)).clamped ||
    match (getAi s k).recovering with
    | some t => decide (s.clk < t)
    | none => false

/-- VALUE, RAW and flags of a conversion of a channel code. The scale of an internal channel is not published: its RAW is `raw`,
of 16 bits. -/
def convResult (s : State) (code : Nat) (c : ConvSet) (l raw : Int) : Int × Nat × Nat :=
  let ref := if s.meas.refState = 2 then 0 else rfRef
  if code < 332 then
    let k := code - 308
    let v := aiValue s k c l raw
    (v.1, v.2.1, v.2.2 + ref + if aiRecovering s k then rfRecovering else 0)
  else (sat32 l, (raw % 65536).toNat, ref)

/-- Warp was LOCKED or HOLDOVER at an engine clock (R148). -/
def phaseTrueAt (s : State) (t : Nat) : Bool := lockAt s t = .locked ∨ lockAt s t = .holdover

/-- The record of a conversion run of a channel whose acquisition ended at `stampClk`. -/
def mkRec (s : State) (key code : Nat) (r : ConvRun) (l raw : Int) (stampClk : Nat) : ResRec :=
  let v := convResult s code r.set l raw
  { present := true, value := v.1, raw := v.2.1
    flags := v.2.2 + (if r.delayed then rfDelayed else 0) + if phaseTrueAt s stampClk then 0 else rfSynth
    seq := ((getRec s key).seq + 1) % 256, stamp := warpAt s stampClk, stampClk := stampClk, atClk := s.clk }

/-! ### What a result does on its delivery -/

/-- VIN: two consecutive continuous conversions below 16.0 V are a sag (R413); below 18 V VIN_LOW is set
(R403). -/
def noteVin (s : State) (cont : Bool) (v : Int) : State :=
  let p := s.power
  { s with power := { p with
      flags := Flag.set p.flags 1 (decide (v < 18 * 65536))
      vin18Since := if v < 18 * 65536 then none else some (p.vin18Since.getD s.clk)
      vinRun := if !cont then p.vinRun else if v < 16 * 65536 then p.vinRun + 1 else 0 } }

/-- The bridges of the direct fans follow VDRV_LOW: a start and a run go on, but the stage does not conduct (R404). -/
def bridgeFollow (s : State) (k : Nat) : State :=
  modFan s k fun c => { c with
    bridgeOn := !vdrvLow s && (c.zeroVec || (decide (2 ≤ c.st) && decide (c.st ≤ 4))) }

/-- VDRV below 9.5 V on ADC B after output release sets VDRV_LOW (R404). -/
def noteVdrv (s : State) (v : Int) : State :=
  if released s then
    let s := { s with power := { s.power with flags := Flag.set s.power.flags 2 (decide (v * 2 < 19 * 65536)) } }
    forAll (upTo 4) bridgeFollow (forAll (upTo 4) bankRefresh s)
  else s

/-- VREF_CHK within 2.490–2.510 V (R139, R140). -/
def noteVref (s : State) (v : Int) : State :=
  let ok := decide (2490 * 65536 ≤ v * 1000) && decide (v * 1000 ≤ 2510 * 65536)
  let m := s.meas
  if m.refState = 1 then
    if ok && passed s m.refClk (msecs 2) then { s with meas := { m with refState := 2, refGood := 0 } }
    else if ok then s
    else if passed s m.refClk (msecs 2) then
      raiseAlarm .vrefFault { s with meas := { m with refState := 3, refGood := 0 } }
    else s
  else if !ok then raiseAlarm .vrefFault { s with meas := { m with refState := 3, refGood := 0 } }
  else if m.refState = 3 then
    if m.refGood + 1 ≥ 3 then dropAlarm .vrefFault { s with meas := { m with refState := 2, refGood := 0 } }
    else { s with meas := { m with refGood := m.refGood + 1 } }
  else s

/-- A phase current of a fan: the squares of the phases are kept for 1 s, the third phase carrying what the two converted
ones leave, and the limit is judged (R211). -/
def noteFanCurrent (s : State) (c : Nat) (v : Int) : State :=
  let k := (c - 0x14) / 2
  let keep := fun (l : List (Nat × Int)) (i : Int) => lastSecond s l ++ [(s.clk, i * i)]
  limitFollow (modFan s k fun r =>
    if c % 2 = 0 then { r with iU := v, rmsU := keep r.rmsU v }
    else { r with iV := v, rmsV := keep r.rmsV v, rmsW := keep r.rmsW (r.iU + v) }) k

/-- TS10 and TS11 stand on the F-die: their temperatures cross the barrier link (R15). -/
def fieldTemp (c : Nat) : Bool := c == 0x2A || c == 0x2B

/-- Internal channels that other blocks watch. -/
def noteInternal (s : State) (adc : Adc) (cont : Bool) (c : Nat) (v : Int) : State :=
  if c = 0x1C then noteVin s cont v
  else if c = 0x1D ∧ adc = .b then noteVdrv s v
  else if c = 0x2C ∧ adc = .b then forAll (upTo 4) bankRefresh { s with meas := { s.meas with vboost := v } }
  else if c = 0x2D then noteVref s v
  else if 0x14 ≤ c ∧ c < 0x1C then noteFanCurrent s c v
  else if 0x20 ≤ c ∧ c < 0x2C then
    let s := if fieldTemp c ∧ ¬ s.io.linkUp then s else modSensor s (c - 0x20) fun t => { t with raw := v }
    if c = 0x2B then { s with therm := { s.therm with roundDone := true } } else s
  else s

/-- Deliver a record: SRAM, the blocks that watch the channel, the loops it triggers (R91, R150). While the barrier link is down
no temperature of the F-die arrives, and its record stays (R15). -/
def deliver (s : State) (adc : Adc) (cont : Bool) (code : Nat) (r : ResRec) : State :=
  let s := if 0x400 ≤ code ∧ fieldTemp (code - 0x400) ∧ ¬ s.io.linkUp then s else putRec s (chanRec code) r
  let s := if code < 332 then loomLoad s (code - 308) r.value r.stamp
    else noteInternal s adc cont (code - 0x400) r.value
  resultDue s code r.stampClk

/-- A converter's next conversion is preceded by a precharge after an over-range result (R151). -/
def setPre (s : State) (adc : Adc) (b : Bool) : State :=
  match adc with
  | .a => { s with meas := { s.meas with preA := b } }
  | .b => { s with meas := { s.meas with preB := b } }
  | .c => s

/-- OVR_HIGH or OVR_LOW. -/
def overFlag (r : ResRec) : Bool := r.flags % 4 != 0

/-- Compare a cross-checked pair (R152): XCHECK on both, and the failure after XCHECK_TIME. -/
def crossCheck (s : State) (k : Nat) (ra rb : ResRec) : State :=
  let bad := decide (Cfg.aiXcheckTol s k < ((ra.value - rb.value).natAbs : Int))
  let ok := recValid ra && recValid rb
  let mark := fun r : ResRec => if bad then { r with flags := r.flags ||| rfXcheck } else r
  let s := putRec s (0x200 + k) (mark rb)
  let s := deliver s .a false (308 + k) (mark ra)
  let since := if bad && ok then some ((getAi s k).xSince.getD s.clk) else none
  let s := modAi s k fun a => { a with xSince := since, okSince := if bad || !ok then s.clk else a.okSince }
  match since with
  | some t => if passed s t (msecs (Cfg.aiXcheckTime s k)) then failInput s (308 + k) else s
  | none => s

/-- The transform outputs of a direct fan, in either structure (R209): d and q of the sampled currents. The angle is the
observer's, which the manual does not give: free values (log entry 8). -/
def fanTransform (s : State) (entry : Nat) (r : ResRec) : State :=
  forAll ((upTo 4).filter fun k => Cfg.dfanCurrTrig s k == entry) (fun s k =>
    forAll [0x800 + 2 * k, 0x801 + 2 * k] (fun s code =>
      let p := takeFree s
      let s := setRec p.2 code { r with
        value := sat32 (signed 32 p.1), seq := ((getRec p.2 code).seq + 1) % 256, atClk := s.clk }
      resultDue s code r.stampClk) s) s

/-! ### Starting conversions (R142–R145) -/

/-- The measurement block runs: VREF is enabled (R139). -/
def measOn (s : State) : Bool := s.meas.refState != 0

/-- MT_EXPIRY (R141): timer MTm expires and fires its entries. -/
def execMtExpiry (m : Nat) (s : State) : Out :=
  if m < 8 ∧ measOn s ∧ due s (Table.getD (blank 0) s.meas.timers m) then
    let t := Table.getD (blank 0) s.meas.timers m + Cfg.mtPeriod s m
    let s := { s with meas := { s.meas with timers := Table.set (blank 0) s.meas.timers m t } }
    .next (triggerEvent s m)
  else .next s

/-- The conversion uses a converter. -/
def qUses (adc : Adc) (q : QConv) : Bool :=
  match adc with
  | .a => q.chanA != 0xFFFF
  | .b => q.chanB != 0xFFFF || q.check
  | .c => false

/-- CONVERSION_DUE (R142, R143): DELAY has passed; the entry's conversions are queued, or dropped when four
wait on a converter. -/
def execConversionDue (t : Nat) (s : State) : Out :=
  if s.meas.coming.any fun p => p.1 == t && due s p.2 then
    let at_ := ((s.meas.coming.find? fun p => p.1 == t && due s p.2).map fun p => p.2).getD s.clk
    let s := { s with meas := { s.meas with
      coming := eraseFirst (fun p => p.1 == t && due s p.2) s.meas.coming } }
    let a := Cfg.trigChanA s t
    let b := Cfg.trigChanB s t
    let ck := decide (308 ≤ a) && decide (a < 332) && Cfg.aiXcheckEn s (a - 308) && b == 0xFFFF
    let q : QConv := ⟨t, at_, a, b, ck⟩
    let full := fun adc => qUses adc q && decide (4 ≤ (s.meas.queue.filter (qUses adc)).length)
    if a = 0xFFFF ∧ b = 0xFFFF then .next s
    else if full .a || full .b then .next { s with meas := { s.meas with trigLost := s.meas.trigLost + 1 } }
    else .next { s with meas := { s.meas with queue := s.meas.queue ++ [q] } }
  else .next s

/-- The order of service: due time, then entry number (R143). -/
def qBefore (p q : QConv) : Bool := decide (p.due < q.due) || (p.due == q.due && decide (p.entry ≤ q.entry))

/-- The triggered conversion a converter serves next. -/
def qNext (s : State) (adc : Adc) : Option QConv :=
  let l := s.meas.queue.filter (qUses adc)
  l.find? fun q => l.all fun p => qBefore q p

/-- The converter is free. -/
def adcFree (s : State) (adc : Adc) : Bool :=
  match adc with
  | .a => s.meas.runA.isNone
  | .b => s.meas.runB.isNone
  | .c => s.meas.runC.isNone

/-- Start a triggered conversion on the converters it names, on one clock. -/
def startTriggered (s : State) (q : QConv) : State :=
  let ua := qUses .a q
  let ub := qUses .b q
  let pre := (ua && s.meas.preA) || (ub && s.meas.preB)
  let start := s.clk + if pre then 40 else 0
  let late := decide (q.due < start)
  let mk := fun c ck : Nat => (⟨q.entry, c, start, late, false, ck == 1, ua && ub, convSet s c⟩ : ConvRun)
  let s := { s with meas := { s.meas with
    queue := eraseFirst (fun p => p == q) s.meas.queue
    contWait := if ub then s.meas.contWait.map fun w => { w with yields := false } else s.meas.contWait
    runA := if ua then some (mk q.chanA 0) else s.meas.runA
    runB := if ub then some (if q.check then mk q.chanA 1 else mk q.chanB 0) else s.meas.runB
    preA := s.meas.preA && !ua
    preB := s.meas.preB && !ub } }
  if late then modTrig s q.entry fun r => { r with delayed := r.delayed + 1 } else s

/-- Start a continuous conversion on ADC B. -/
def startCont (s : State) (code : Nat) : State :=
  let start := s.clk + if s.meas.preB then 40 else 0
  { s with meas := { s.meas with
      runB := some ⟨0xFFFF, code, start, false, true, false, false, convSet s code⟩, preB := false } }

/-- The channel that owns a slot position of ADC B's frame, in engine clocks (R144). -/
def slotChan (s : State) (pos : Nat) : Option Nat :=
  if pos = 0 ∨ pos = 1600 then some 0x41F
  else if pos = 800 ∨ pos = 2400 then some 0x41C
  else if pos = 400 ∧ Cfg.measContUser0 s ≠ 0xFFFF then some (Cfg.measContUser0 s)
  else if pos = 2000 ∧ Cfg.measContUser1 s ≠ 0xFFFF then some (Cfg.measContUser1 s)
  else none

/-- An entry uses ADC B. -/
def entryUsesB (s : State) (t : Nat) : Bool :=
  Cfg.trigChanB s t != 0xFFFF ||
    (decide (308 ≤ Cfg.trigChanA s t) && decide (Cfg.trigChanA s t < 332) && Cfg.aiXcheckEn s (Cfg.trigChanA s t - 308))

/-- A triggered conversion is known to be due on ADC B before an engine clock. -/
def trigKnown (s : State) (before : Nat) : Bool :=
  s.meas.queue.any (qUses .b) || s.meas.coming.any fun p => decide (p.2 < before) && entryUsesB s p.1

/-- The displaced continuous conversion that ADC B converts next (R145): the oldest, once the triggered conversion it yielded
to has started or is known no longer. -/
def contNext (s : State) : Option ContWait :=
  match s.meas.contWait with
  | [] => none
  | w :: _ => if w.yields && trigKnown s (w.at_ + 200) then none else some w

/-- Start the oldest displaced continuous conversion; a slot that a COMMIT has freed is dropped. -/
def startWaiting (s : State) (w : ContWait) : State :=
  let s := { s with meas := { s.meas with contWait := s.meas.contWait.drop 1 } }
  match slotChan s w.pos with
  | some c => startCont s c
  | none => s

/-- A triggered conversion may start: every converter it names is free, serves it next, and has no displaced continuous
conversion before it. -/
def mayStart (s : State) (q : QConv) : Bool :=
  (!qUses .a q || (adcFree s .a && qNext s .a == some q)) &&
    (!qUses .b q || (adcFree s .b && qNext s .b == some q && (contNext s).isNone))

/-- CONVERSION_START (R142, R143, R145, R146): a free ADC B takes its displaced continuous conversion, a free converter its
next due triggered one, ADC C the next channel of its round. -/
def execConversionStart (adc : Adc) (s : State) : Out :=
  if !measOn s || !adcFree s adc then .next s
  else
    match adc with
    | .c =>
      (match s.meas.cQueue with
       | [] => .next s
       | c :: r =>
         .next { s with meas := { s.meas with
          cQueue := r, runC := some ⟨0xFFFF, c, s.clk, false, false, false, false, convSet s c⟩ } })
    | _ =>
      match (if adc = .b then contNext s else none), qNext s adc with
      | some w, _ => .next (startWaiting s w)
      | none, some q => if mayStart s q then .next (startTriggered s q) else .next s
      | none, none => .next s

/-- CONTINUOUS_SLOT (R144, R145): at its position the continuous conversion starts, or yields to a triggered one that is
known, or waits for the one that runs. -/
def execContinuousSlot (pos : Nat) (s : State) : Out :=
  match slotChan s pos with
  | none => .next s
  | some c =>
    if !measOn s || (s.clk - s.power.releaseClk) % 3200 ≠ pos then .next s
    else
      let known := trigKnown s (s.clk + 200)
      if known || !adcFree s .b || !s.meas.contWait.isEmpty then
        .next { s with meas := { s.meas with contWait := s.meas.contWait ++ [⟨pos, s.clk, known⟩] } }
      else .next (startCont s c)

/-! ### Completion (R134, R147–R152) -/

/-- Complete the run of ADC B alone. -/
def completeB (s : State) (r : ConvRun) (l raw : Int) : State :=
  let s := { s with meas := { s.meas with runB := none } }
  let x := mkRec s (chanRec r.chan) r.chan r l raw (r.start + 80)
  deliver (setPre s .b (overFlag x)) .b r.cont r.chan x

/-- Complete the run of ADC A, with the paired conversion of ADC B. -/
def completeA (s : State) (r : ConvRun) (l lB raw rawB : Int) : State :=
  let rb := if r.paired then s.meas.runB else none
  let s := { s with meas := { s.meas with runA := none, runB := if r.paired then none else s.meas.runB } }
  let x := mkRec s (chanRec r.chan) r.chan r l raw (r.start + 80)
  let s := setPre s .a (overFlag x)
  match rb with
  | none => deliver s .a false r.chan x
  | some b =>
    if b.check then
      let y := mkRec s (0x200 + (r.chan - 308)) r.chan b lB rawB (r.start + 80)
      crossCheck (setPre s .b (overFlag y)) (r.chan - 308) x y
    else
      let y := mkRec s (chanRec b.chan) b.chan b lB rawB (r.start + 80)
      let s := deliver s .a false r.chan x
      fanTransform (deliver (setPre s .b (overFlag y)) .b false b.chan y) r.entry x

/-- CONVERSION_COMPLETE (R134, R147): 200 engine clocks after its acquisition starts, 1600 on ADC C. `l` is the
measured quantity in the unit of R135 or R136, Q16, and `raw` by how many codes the converter misses the linear mapping of
R453; `lB` and `rawB` are those of the paired conversion on ADC B. -/
def execConversionComplete (adc : Adc) (l lB raw rawB : Int) (s : State) : Out :=
  match adc with
  | .a =>
    (match s.meas.runA with
     | some r => if due s (r.start + 200) then .next (completeA s r l lB raw rawB) else .next s
     | none => .next s)
  | .b =>
    (match s.meas.runB with
     | some r => if due s (r.start + 200) && !r.paired then .next (completeB s r l raw) else .next s
     | none => .next s)
  | .c =>
    (match s.meas.runC with
     | some r =>
       if due s (after r.start (usecs 4)) then
         let s := { s with meas := { s.meas with runC := none } }
         .next (deliver s .c false r.chan (mkRec s (chanRec r.chan) r.chan r l raw (r.start + 400)))
       else .next s
     | none => .next s)

/-- The channels of a housekeeping round in order (R146). -/
def roundChans : List Nat := ((upTo 12).map fun i => 0x420 + i) ++ [0x41C, 0x41D, 0x41E, 0x42C, 0x42D]

/-- A scan that is due is asked for, and the next one counts from there. -/
def scanFollow (s : State) : State :=
  if due s s.meas.scanDue then
    { s with meas := { s.meas with
      scanDue := after s.meas.scanDue (msecs (Cfg.measCScanPeriod s)), scanAsked := true } }
  else s

/-- The AI inputs that a scan converts, ascending. -/
def scanChans (s : State) : List Nat :=
  ((upTo 24).filter fun k => Cfg.aiCScan s k && Cfg.aiAiMode s k != 0).map fun k => 308 + k

/-- HOUSEKEEPING_ROUND (R146): every 10 ms; a scan whose due time has come follows the round. -/
def execHousekeepingRound (s : State) : Out :=
  if measOn s ∧ due s s.meas.nextRound then
    let s := scanFollow s
    .next { s with meas := { s.meas with
      nextRound := after s.meas.nextRound (msecs 10)
      cQueue := s.meas.cQueue ++ roundChans ++ (if s.meas.scanAsked then scanChans s else [])
      scanAsked := false } }
  else .next s

/-- AI_SCAN (R146): C_SCAN_PERIOD has passed; the scan follows the next round. -/
def execAiScan (s : State) : Out := .next (if measOn s then scanFollow s else s)

/-! ### AI inputs (R136, R151) -/

/-- SHUNT_TRIP (R136). -/
def execShuntTrip (k : Nat) (s : State) : Out :=
  if k < 24 ∧ Cfg.aiAiMode s k = 3 ∧ ¬ (getAi s k).shuntOpen then
    .next (modAi s k fun a => { a with shuntOpen := true, shuntAt := s.clk })
  else .next s

/-- RECOVERING of an input until clk `t`, or later when it already lasts longer. -/
def recoverUntil (s : State) (k t : Nat) : State :=
  modAi s k fun a => { a with recovering := some (max t (a.recovering.getD 0)) }

/-- SHUNT_RECLOSE (R136, R151): 100 ms after the trip; the input settles for 1 ms. -/
def execShuntReclose (k : Nat) (s : State) : Out :=
  if k < 24 ∧ (getAi s k).shuntOpen ∧ passed s (getAi s k).shuntAt (msecs 100) then
    .next (recoverUntil (modAi s k fun a => { a with shuntOpen := false }) k (after s.clk (msecs 1)))
  else .next s

/-- AI_CLAMP_EVENT (R151): while pin k is driven beyond its clamp, and 50 µs after, its neighbours settle. -/
def execAiClampEvent (k : Nat) (driven : Bool) (s : State) : Out :=
  if k ≥ 24 then .next s
  else if driven then .next (modAi s k fun a => { a with clamped := true })
  else if (getAi s k).clamped then
    let s := modAi s k fun a => { a with clamped := false }
    let t := after s.clk (usecs 50)
    let s := if k = 0 then s else recoverUntil s (k - 1) t
    .next (if k = 23 then s else recoverUntil s (k + 1) t)
  else .next s

/-- RECOVERING_END (R151). -/
def execRecoveringEnd (k : Nat) (s : State) : Out :=
  match (getAi s k).recovering with
  | some t => if due s t then .next (modAi s k fun a => { a with recovering := none }) else .next s
  | none => .next s

/-- The mean of TS0–TS3 in Q16 K. -/
def converterKelvin (s : State) : Int :=
  (((upTo 4).map fun i => (getSensor s i).value).foldl (· + ·) 0) / 4 + 17901158

/-- NOISE_FACTOR of a converter, Q16 (R154): the rms of 4096 codes, less the quantisation noise LSB² / 12, over the kT/C
limit of 22.75 µV at 300 K, taken to the temperature `kelvin`. -/
def noiseFactor (adc : Nat) (kelvin : Int) (x : NoiseSum) : Int :=
  let noise : Int := 12 * (4096 * (x.squares : Int) - (x.sum : Int) ^ 2) - 4096 ^ 2
  let lsb : Int := Config.adcLsb adc
  let limit : Int := 12 * 4096 ^ 2 * 22750000 ^ 2 * kelvin
  if limit ≤ 0 then 0 else (sqrtRound (noise * lsb ^ 2 * 300 * 65536 * 2 ^ 32 / limit).toNat : Int)

/-- A noise measurement is due: none since start-up, or none in the present UTC hour. -/
def noiseDue (s : State) : Bool :=
  measOn s && match s.meas.noiseHour with
    | none => true
    | some h => s.cal.st != 0 && h != (utcSec s / 3600).toNat

/-- NOISE_MEASUREMENT (R154): at start-up and at every full hour, both converters have made their 4096 conversions. -/
def execNoiseMeasurement (noiseA noiseB : NoiseSum) (s : State) : Out :=
  if noiseDue s then
    let a := noiseFactor 0 (converterKelvin s) noiseA
    let b := noiseFactor 1 (converterKelvin s) noiseB
    let exceeds := fun r : Int => decide (14 * 65536 < r * 10)
    .next { s with meas := { s.meas with
      noiseA := a, noiseB := b, noiseExcess := exceeds a || exceeds b, noiseHour := some (utcSec s / 3600).toNat } }
  else .next s

/-! ### Analogue outputs (R156) -/

/-- AO_FAULT (R156): an open loop in mode 2, an overload in mode 1; the command is kept. -/
def execAoFault (a : Nat) (kind : AoFault) (s : State) : Out :=
  if a ≥ 8 then .next s
  else
    match kind with
    | .open_ => if Cfg.aoAoMode s a = 2 then .next (modAo s a fun c => { c with status := 1 }) else .next s
    | .short => if Cfg.aoAoMode s a = 1 then .next (modAo s a fun c => { c with status := 2 }) else .next s

/-- AO_STATUS_CLEAR (R156): 10 ms after the condition has ended. -/
def execAoStatusClear (a : Nat) (s : State) : Out :=
  if a < 8 then .next (modAo s a fun c => { c with status := 0 }) else .next s

end Sys2Proof.Machine
end

