-- ==== Sys2Proof/Machine/Warp.lean ====
section
/-! DEFINITION. Warp: zeros and the lock states, alignment, supervision (02_warp_timebase, R26–R38). The start of
a cycle stands in `WarpCycle`. -/

namespace Sys2Proof.Machine

/-! ### Zeros (R27, R31, R33) -/

/-- A period that corresponds to 45 Hz min and 65 Hz max. -/
def periodOk (p : Nat) : Bool := decide (clkPerSec ≤ 65 * p) && decide (45 * p ≤ clkPerSec)

/-- Two consecutive periods that differ by 1 % or less; no earlier period (0) compares with any. -/
def periodsNear (a b : Nat) : Bool := a == 0 || decide ((((a : Int) - b).natAbs : Nat) * 100 ≤ a)

/-- The clk of the first target zero at or after `from_`: a positive-going zero plus PHASE_OFFSET (R32). -/
def targetZero (s : State) (from_ : Nat) : Nat :=
  let p : Int := max 1 s.warp.period
  let z : Int := s.warp.zeroClk + roundDiv (Cfg.warpPhaseOffset s * p) 65536
  (z + p * ((from_ - z + p - 1) / p)).toNat

/-- MAINS_FREQ as a Q16 value: 400 000 000 / period. -/
def mainsFreq (period : Nat) : Int := roundDiv (400000000 * 65536) period

/-- A zero in ACQUIRING: eight qualifying cycles in a row lead to a realignment and LOCKED. -/
def zeroAcquiring (w : Warp) (period : Nat) (amplOk : Bool) : Warp :=
  if w.realignNext || w.realigned then (if amplOk then w else { w with target := some .synthetic, realignNext := false, qual := 0 })
  else if amplOk && periodOk period && periodsNear w.lastPeriod period then
    { w with lastPeriod := period, qual := w.qual + 1, realignNext := decide (8 ≤ w.qual + 1) }
  else { w with target := some .synthetic, qual := 0, lastPeriod := 0 }

/-- A zero in LOCKED: outside 45–65 Hz or below MIN_AMPL leads to HOLDOVER; the second error in a row beyond
STEP_THRESHOLD leads to a realignment in the next cycle. -/
def zeroLocked (w : Warp) (period : Nat) (amplOk far : Bool) : Warp :=
  if !amplOk || !periodOk period then { w with target := some .holdover, stepRun := 0 }
  else if far then
    if 2 ≤ w.stepRun + 1 then { w with stepRun := 0, realignNext := true } else { w with stepRun := w.stepRun + 1 }
  else { w with stepRun := 0 }

/-- A zero in HOLDOVER: the first two within STEP_THRESHOLD lead back to LOCKED, one beyond it to ACQUIRING. Zeros that
return only after HOLDOVER_CYCLES cycles change nothing: SYNTHETIC follows. -/
def zeroHoldover (w : Warp) (limit : Nat) (amplOk far : Bool) : Warp :=
  if !amplOk || decide (limit ≤ w.holdCycles) || w.target == some .synthetic then w
  else if far then { w with target := some .acquiring, holdCycles := 0, goodZeros := 0, qual := 0, lastPeriod := 0 }
  else
    { w with holdCycles := 0, goodZeros := w.goodZeros + 1
             target := if 2 ≤ w.goodZeros + 1 then some .locked else w.target }

/-- MAINS_ZERO (R27, R31, R33): a positive-going zero with the measured period in engine clocks, the amplitude
in mV and the error against the PLL's prediction in wt. While REF_STATE is not READY the samples count as absent (R140). -/
def execMainsZero (period ampl : Nat) (err : Int) (s : State) : Out :=
  let amplOk := decide (Cfg.warpMinAmpl s ≤ ampl)
  let far := decide (Cfg.warpStepThreshold s < err.natAbs)
  let w := { s.warp with ampl := ampl, phaseErr := err, zeroClk := s.clk }
  let meas := fun w : Warp => if periodOk period then { w with period := period, freq := mainsFreq period } else w
  let w := match s.warp.ws with
    | .synthetic => if amplOk then { meas w with target := some .acquiring, qual := 0, lastPeriod := 0 } else w
    | .acquiring => zeroAcquiring (meas w) period amplOk
    | .locked => zeroLocked (meas w) period amplOk far
    | .holdover => zeroHoldover w (Cfg.warpHoldoverCycles s) amplOk far
  .next (if s.meas.refState = 2 then { s with warp := w } else s)

/-- The next positive-going zero is missing by more than 8192 wt past its expected phase. -/
def zeroIsMissing (s : State) : Bool :=
  decide (s.warp.period * (65536 + 8192) < (s.clk - s.warp.zeroClk) * 65536)

/-- ZERO_MISSING (R31): a missing zero leads from LOCKED to HOLDOVER. In ACQUIRING it is a qualifying test that failed
(DEDUCED, log entry 14). -/
def execZeroMissing (s : State) : Out :=
  if zeroIsMissing s then
    match s.warp.ws with
    | .locked => .next { s with warp := { s.warp with target := some .holdover, stepRun := 0 } }
    | .acquiring => .next { s with warp := { s.warp with
        target := some .synthetic, realignNext := false, qual := 0, lastPeriod := 0 } }
    | _ => .next s
  else .next s

/-- HOLDOVER_EXPIRY (R31): HOLDOVER_CYCLES cycles without a qualifying zero. -/
def execHoldoverExpiry (s : State) : Out :=
  if s.warp.ws = .holdover ∧ Cfg.warpHoldoverCycles s ≤ s.warp.holdCycles then
    .next { s with warp := { s.warp with target := some .synthetic } }
  else .next s

/-! ### Alignment (R35) -/

/-- ALIGN_SOURCE applies: in a pair to the active module only, so not before the role is decided (R36). -/
def alignApplies (s : State) : Bool := !isStandby s && (!s.pair.en || isActive s)

/-- ALIGN_SOURCE names another node. -/
def alignByNode (s : State) : Bool :=
  Cfg.warpAlignSource s != 0 && Cfg.warpAlignSource s != Cfg.netNodeId s && alignApplies s

/-- Send the READ of 0x2000.1 to the source node on each controller of DICT_CAN_EN, and note its instant. -/
def alignSend (s : State) : State :=
  let f := svcFrame 8 0x01 (Cfg.warpAlignSource s) (Cfg.netNodeId s) (bytes1 [0, 0x00, 0x20, 1, 0])
  let s := forAll (upTo 2) (fun s x =>
    if (Cfg.netDictCanEn s).testBit x && canFdEn s x then canQueue s x ⟨0, .user, f⟩ else s) s
  { s with warp := { s.warp with alignSent := some s.clk } }

/-- ALIGN_RETRY (R35): once a second while no response qualifies. -/
def execAlignRetry (s : State) : Out :=
  let rest : Bool := match s.warp.alignSent with
    | some t => passed s t (secs 1)
    | none => true
  if s.warp.ws = .locked ∧ s.warp.align = 0 ∧ alignByNode s ∧ s.warp.alignCount = none ∧ rest then
    .next (alignSend s)
  else .next s

/-- ALIGN_RESPONSE (R35): the source node's Warp time, stamped on arrival; a round trip above 8 ms does not
qualify. The count adopted differs from the module's own by the nearest whole number of cycles. -/
def execAlignResponse (warpNow_ : Nat) (s : State) : Out :=
  match s.warp.alignSent with
  | some t =>
    if alignByNode s ∧ s.warp.align = 0 ∧ s.clk ≤ after t (msecs 8) then
      let d := roundDiv ((warpNow_ : Int) - warpNow s) 65536
      .next { s with warp := { s.warp with
        alignSent := none, alignCount := some ((s.warp.cycle : Int) + 1 + d).toNat } }
    else .next s
  | none => .next s

/-! ### Supervision (R38) -/

/-- CLOCK_FAILURE (R38, R378): the supervisor declares a clock and time-base failure. A cycle length is judged
in LOCKED only, when CYCLE_CLOCKS is not that of a realigned cycle. -/
def execClockFailure (cause : ClockFail) (s : State) : Out :=
  match cause with
  | .cycleRange =>
    if s.warp.ws = .locked ∧ ¬ s.warp.wasRealigned ∧ ¬ periodOk s.warp.cycleClocks then
      .next (failModule s sfClock)
    else .next s
  | _ => .next (failModule s sfClock)

end Sys2Proof.Machine
end

