-- ==== Sys2Proof/Machine/Valves.lean ====
section
/-! DEFINITION. The card engines and the events of the valve block (07_valve_drive, R164–R186, R454). A card
command acts only when the word at the channel's card address is that instruction and the channel does not wait;
an event only when its condition holds. -/

namespace Sys2Proof.Machine

/-! ### Issue of an instruction (R166, R168, R169) -/

/-- The engine clock is an issue slot of channel `v` that no instruction has used: on clock t an engine serves channel
4k + (t mod 4) of its bank (R166). -/
def vlvSlot (s : State) (v : Nat) : Bool := s.clk % 4 == v % 4 && (getVlv s v).issued != some s.clk

/-- The word of opcode `op` that channel `v` issues in this slot; none when it runs no card, waits, stands at another
instruction, or the slot is not its own. -/
def vlvAt (s : State) (v op : Nat) : Option Nat :=
  if v < 16 ∧ vlvSlot s v then
    match vlvWord s v with
    | some w => if wOp w = op then some w else none
    | none => none
  else none

/-- The card goes on at the next address, in its next slot. -/
def vlvNext (s : State) (v : Nat) : State :=
  modVlv s v fun c => { c with pc := c.pc.map (· + 1), wait := .none, issued := some s.clk }

/-- The card goes on at an address, in its next slot. -/
def vlvJump (s : State) (v a : Nat) : State :=
  modVlv s v fun c => { c with pc := some a, wait := .none, issued := some s.clk }

/-- The card waits. -/
def vlvWaitOn (s : State) (v : Nat) (w : VlvWait) : State :=
  modVlv s v fun c => { c with wait := w, issued := some s.clk }

/-- Bring the channel's bank up to date. -/
def vlvRefresh (s : State) (v : Nat) : State := bankRefresh s (vlvBank v)

/-- The detector restarts its blanking (R173, R174). -/
def detBlank (s : State) (d : Detector) : Detector := { d with blankUntil := s.clk + d.blanking }

/-- A SEATCFG operand as a detector (R169). -/
def detOf (s : State) (arg : Nat) : Detector :=
  let b := usecs (10 * (arg / 256 % 128))
  { armed := true, drop := decide (32768 ≤ arg), blanking := b, blankUntil := s.clk + b, threshold := arg % 256 }

/-- A dropout-mode detector returns to seat mode with P7 (R174). -/
def detSeat (s : State) (v : Nat) : State :=
  modVlv s v fun c => { c with det := detOf s (vlvParam c 7 % 32768) }

/-- The reference of a card becomes `level`; at 0 the channel stops conducting and the coil decays (R161, R454). -/
def vlvRefTo (s : State) (v level : Nat) : State :=
  let was := decide (0 < (getVlv s v).ref)
  let s := modVlv s v fun c => { c with
    ref := level, det := detBlank s c.det, lowSide := c.lowSide && decide (0 < level) }
  if was ∧ level = 0 then vlvDecay s v else s

/-- Drive a level: a phase begins with the rail that RAIL chose; the reference, the share after RELEASE, the blanking (R162,
R169, R181). A learning window keeps its share. -/
def vlvDrive (s : State) (v level : Nat) : State :=
  let s := modVlv s v fun c => { c with
    rail := c.railNext, demoted := false
    share := if c.learning then c.share else if c.st = .hold then level else max c.share level }
  vlvRefresh (vlvNext (vlvRefTo s v level) v) v

/-! ### Card starts and command ends -/

/-- CARD_START (R166, R167, R178, R184): in the channel's slot the set and the band are latched and a pulse counts from here;
one that was cut off by a higher level keeps its end (log entry 60). -/
def execCardStart (v : Nat) (s : State) : Out :=
  let c := getVlv s v
  match c.startDue with
  | some t =>
    if v < 16 ∧ s.clk % 4 = v % 4 ∧ t ≤ s.clk ∧ c.st = .off ∧ c.mode = 1 ∧ ¬ vlvBlocked s v then
      let s := modBank s (vlvBank v) fun k => { k with tripped := false }
      let s := vlvBegin s v (getBank s (vlvBank v)).band
      let late := match c.waited5200 with
        | some w => clkToUs (s.clk - w)
        | none => 0
      let wait := c.waited5200.isSome
      .next (vlvRefresh (modVlv s v fun c => { c with
        st := .waitGrant, pc := some c.card, pullinDelay := late
        pulseEnd := match c.pulseMs with
          | some ms => some (after s.clk (msecs ms))
          | none => c.pulseEnd
        pulseMs := none
        flags := Flag.set (Flag.set c.flags fWaited5200 wait) fPullinDelayed wait }) v)
    else .next s
  | none => .next s

/-- PULSE_EXPIRY (R164): a timed pulse ends. -/
def execPulseExpiry (v : Nat) (s : State) : Out :=
  match (getVlv s v).pulseEnd with
  | some t =>
    if v < 16 ∧ t ≤ s.clk ∧ ¬ (isSafe s (288 + v) ∧ (vlvSafe s v).1 = 1) then .next (vlvCommand s v 0 0) else .next s
  | none => .next s

/-- WAIT_5200_EXPIRY (R178, R179): MIN_OFF_5200 after the turn-off the waiting card starts. -/
def execWait5200Expiry (v : Nat) (s : State) : Out :=
  let c := getVlv s v
  match c.startDue with
  | some t =>
    if v < 16 ∧ c.st = .wait5200 ∧ t ≤ s.clk then
      .next (modVlv s v fun c => { c with st := .off, startDue := some s.clk })
    else .next s
  | none => .next s

/-! ### Instructions (R169) -/

/-- NOP. -/
def execCardNop (v : Nat) (s : State) : Out :=
  match vlvAt s v 0x00 with
  | some _ => .next (vlvNext s v)
  | none => .next s

/-- RAIL: the rail of the following phases, from the next DRIVE. -/
def execCardRail (v : Nat) (s : State) : Out :=
  match vlvAt s v 0x01 with
  | some w => .next (modVlv (vlvNext s v) v fun c => { c with railNext := vlvOperand c w % 2 })
  | none => .next s

/-- DECAY: mode and clamp of the following phases, from the next off-interval. -/
def execCardDecay (v : Nat) (s : State) : Out :=
  match vlvAt s v 0x02 with
  | some w =>
    .next (modVlv (vlvNext s v) v fun c =>
      { c with decayMode := vlvOperand c w % 4, clamp := vlvOperand c w / 4 % 4, demoted := false })
  | none => .next s

/-- CHOP: the frequency from the next chopper period. -/
def execCardChop (v : Nat) (s : State) : Out :=
  match vlvAt s v 0x03 with
  | some w =>
    .next (modVlv (vlvNext s v) v fun c =>
      if c.conducting then { c with chopPending := some (vlvOperand c w % 512) }
      else { c with chop := vlvOperand c w % 512, chopPending := none })
  | none => .next s

/-- DRIVE (R169, R181): sets the reference and conducts; above the present share it first waits for the
budget. -/
def execCardDrive (v : Nat) (s : State) : Out :=
  match vlvAt s v 0x04 with
  | some w =>
    let c := getVlv s v
    let level := vlvOperand c w
    if level ≤ c.share then .next (vlvDrive s v level)
    else
      let p := askBudget s v level
      if p.1 then .next (vlvDrive (modVlv p.2 v fun c => { c with share := level }) v level)
      else .next (vlvWaitOn p.2 v (.drive level))
  | none => .next s

/-- OFF (R161, R162, R178): the low side turns off with the decay of the phase; the share is 0. -/
def execCardOff (v : Nat) (s : State) : Out :=
  match vlvAt s v 0x05 with
  | some _ =>
    let s := modVlv (vlvWaitOn s v .decayed) v fun c => { c with
      st := .decay, ref := 0, share := 0, lowSide := false, conducting := false, leaving := false, offAt := some s.clk }
    .next (vlvRefresh (vlvDecay s v) v)
  | none => .next s

/-- DECAY_COMPLETE (R161, R169): the coil current is below 20 mA: OFF ends, and so does the RETURN interval of a turn-off. -/
def execDecayComplete (v : Nat) (s : State) : Out :=
  let c := getVlv s v
  if v < 16 ∧ (c.wait = .decayed ∨ (c.returning ∧ ¬ c.conducting)) then
    let s := modVlv s v fun c => { c with returning := false }
    .next (vlvRefresh (if c.wait = .decayed then vlvNext s v else s) v)
  else .next s

/-- GRANT (R178, R181): the share is asked for; PULLIN begins with the grant. -/
def execCardGrant (v : Nat) (s : State) : Out :=
  match vlvAt s v 0x06 with
  | some w =>
    let level := vlvOperand (getVlv s v) w
    let p := askBudget s v level
    if p.1 then
      .next (modVlv (vlvNext p.2 v) v fun c =>
        { c with share := level, st := if c.st = .waitGrant then .pullin else c.st })
    else .next (vlvWaitOn p.2 v (.grant level))
  | none => .next s

/-- RELEASE (R178, R181): the share becomes the present reference; HOLD begins. -/
def execCardRelease (v : Nat) (s : State) : Out :=
  match vlvAt s v 0x07 with
  | some _ =>
    .next (modVlv (vlvNext s v) v fun c =>
      { c with share := if c.learning then c.share else c.ref
               st := if c.st = .pullin ∨ c.st = .waitGrant then .hold else c.st, holdSince := s.clk })
  | none => .next s

/-- WAIT. -/
def execCardWait (v : Nat) (s : State) : Out :=
  match vlvAt s v 0x08 with
  | some w => .next (vlvWaitOn s v (.time (s.clk + vlvTime (getVlv s v) w)))
  | none => .next s

/-- WAIT_EXPIRY: the time has passed. -/
def execWaitExpiry (v : Nat) (s : State) : Out :=
  match (getVlv s v).wait with
  | .time t => if v < 16 ∧ t ≤ s.clk then .next (vlvNext s v) else .next s
  | _ => .next s

/-- WSEAT (R169, R174): waits for the seat; a detector in dropout mode returns to seat mode. -/
def execCardWseat (v : Nat) (s : State) : Out :=
  match vlvAt s v 0x09 with
  | some w =>
    let s := if (getVlv s v).det.drop then detSeat s v else s
    .next (vlvWaitOn s v (.seat (s.clk + vlvTime (getVlv s v) w) (wTgt w)))
  | none => .next s

/-- WCMD: waits until the command is off. -/
def execCardWcmd (v : Nat) (s : State) : Out :=
  match vlvAt s v 0x0A with
  | some _ =>
    if vlvCmdOn s v then .next (modVlv (vlvWaitOn s v .cmdOff) v fun c => { c with wcmdSince := s.clk })
    else .next (modVlv (vlvNext s v) v fun c => { c with leaving := true })
  | none => .next s

/-- WDROP: waits for a dropout. -/
def execCardWdrop (v : Nat) (s : State) : Out :=
  match vlvAt s v 0x0B with
  | some w => .next (vlvWaitOn s v (.drop (s.clk + vlvTime (getVlv s v) w) (wTgt w)))
  | none => .next s

/-- SEATCFG (R173, R174): arms the detector. -/
def execCardSeatcfg (v : Nat) (s : State) : Out :=
  match vlvAt s v 0x0C with
  | some w => .next (modVlv (vlvNext s v) v fun c => { c with det := detOf s (vlvOperand c w % 65536) })
  | none => .next s

/-- MARKH: the hold entry of a native retrigger. -/
def execCardMarkh (v : Nat) (s : State) : Out :=
  match vlvAt s v 0x0D with
  | some w => .next (modVlv (vlvNext s v) v fun c => { c with holdEntry := wTgt w })
  | none => .next s

/-- JMP. -/
def execCardJmp (v : Nat) (s : State) : Out :=
  match vlvAt s v 0x10 with
  | some w => .next (vlvJump s v (wTgt w))
  | none => .next s

/-- JCMD: jumps when the command equals ARG[0]. -/
def execCardJcmd (v : Nat) (s : State) : Out :=
  match vlvAt s v 0x11 with
  | some w =>
    if vlvCmdOn s v = decide (vlvOperand (getVlv s v) w % 2 = 1) then .next (vlvJump s v (wTgt w))
    else .next (vlvNext s v)
  | none => .next s

/-- JLT: jumps when the coil current (mA) is below the level. -/
def execCardJlt (v current : Nat) (s : State) : Out :=
  match vlvAt s v 0x12 with
  | some w =>
    if current < vlvOperand (getVlv s v) w then .next (vlvJump s v (wTgt w)) else .next (vlvNext s v)
  | none => .next s

/-- JRLT: jumps when the reference is below the level. -/
def execCardJrlt (v : Nat) (s : State) : Out :=
  match vlvAt s v 0x13 with
  | some w =>
    if (getVlv s v).ref < vlvOperand (getVlv s v) w then .next (vlvJump s v (wTgt w)) else .next (vlvNext s v)
  | none => .next s

/-- LSTEP (R169, R174, R181): the reference falls by the level. -/
def execCardLstep (v : Nat) (s : State) : Out :=
  match vlvAt s v 0x14 with
  | some w =>
    let c := getVlv s v
    let r := c.ref - vlvOperand c w
    let s := modVlv (vlvNext s v) v fun c => { c with share := if c.learning ∨ c.st ≠ .hold then c.share else r }
    .next (vlvRefresh (vlvRefTo s v r) v)
  | none => .next s

/-- LSAVE (R176): 1.25 × DROP_REF, at most 1500 mA, is the learned hold of the latched band. -/
def execCardLsave (v : Nat) (s : State) : Out :=
  match vlvAt s v 0x15 with
  | some _ =>
    .next (modVlv (vlvNext s v) v fun c => vlvFlag fLearnDone { c with
      learned := setNth c.learned c.band (min 1500 (roundDiv (5 * c.dropRef) 4).toNat)
      learnedAt := s.cal.now, learnDirty := some (c.learnDirty.getD s.clk) })
  | none => .next s

/-- FLAG: 0 NO_SEAT, 1 LEARN_FLOOR. -/
def execCardFlag (v : Nat) (s : State) : Out :=
  match vlvAt s v 0x16 with
  | some w =>
    .next (modVlv (vlvNext s v) v fun c =>
      match vlvOperand c w % 16 with
      | 0 => vlvFlag fNoSeat c
      | 1 => vlvFlag fLearnFloor c
      | _ => c)
  | none => .next s

/-- The channel is off and takes the committed set, with a change of CHAN_MODE (R184). -/
def vlvRest (s : State) (v : Nat) : State :=
  let s := modVlv s v fun c => { vlvQuiet c with st := .off, returning := false, offSince := s.clk }
  vlvSyncMode (vlvTakeSet (vlvRefresh s v) v) v

/-- END (R169, R177): a channel card turns the channel off; HOLD_LEARN resumes the channel card at WCMD with the
reference in force. -/
def execCardEnd (v : Nat) (s : State) : Out :=
  match vlvAt s v 0x3F with
  | some _ =>
    if (getVlv s v).learning then
      .next (vlvRefresh (modVlv s v fun c => { c with
        st := .hold, learning := false, share := c.ref, pc := some (afterWcmd s v - 1), wait := .none }) v)
    else .next (vlvRest s v)
  | none => .next s

/-! ### Waits that end -/

/-- The head of a bank queue is granted: PULLIN_DELAY, GRANT_WAITS, PULLIN_DELAYED; the waiting instruction or
reference goes on (R181). -/
def grantHead (s : State) (r : GrantReq) : State :=
  let s := dropRequest s r.v
  let s := modBank s (vlvBank r.v) fun k => { k with waits := k.waits + 1 }
  let d := (roundDiv (s.clk - r.at_ : Nat) clkPerUs).toNat
  let s := modVlv s r.v fun c => vlvFlag fPullinDelayed { c with
    pullinDelay := d + if Flag.get c.flags fWaited5200 then c.pullinDelay else 0 }
  match (getVlv s r.v).wait with
  | .grant l =>
    modVlv (vlvNext s r.v) r.v fun c =>
      { c with share := l, st := if c.st = .waitGrant then .pullin else c.st }
  | .drive l => vlvDrive (modVlv s r.v fun c => { c with share := l }) r.v l
  | _ =>
    match (getVlv s r.v).propWant with
    | some ref => propApply s r.v ref
    | none => s

/-- Grant from the head while it fits (R181): a later request never overtakes an earlier one. -/
def grantLoop (b : Nat) : Nat → State → State
  | 0, s => s
  | n + 1, s =>
    match (getBank s b).queue with
    | [] => s
    | r :: _ => if fitsBudget s r.v r.level then grantLoop b n (grantHead s r) else s

/-- BUDGET_GRANTED (R181). -/
def execBudgetGranted (b : Nat) (s : State) : Out :=
  if b < 4 then .next (grantLoop b (getBank s b).queue.length s) else .next s

/-- The rail of a pull-in is at least 4 × P0 × COIL_RES (R175). -/
def railAmple (s : State) (v : Nat) : Bool :=
  let c := getVlv s v
  let r := if (getBank s (vlvBank v)).rail = 1 then s.meas.vboost else (getRec s 0x11D).value
  decide (((4 * nth 0 c.params 0 * c.coilRes * 65536 : Nat) : Int) ≤ r * 1000000)

/-- The energies of a pull-in that seats with SEAT_PH (R175): 0 before COIL_RES is measured. The ratio to a zero
E_MAG is a free value (log entry 8). -/
def vlvEnergy (s : State) (v eCoil eMag : Nat) : State :=
  let c := getVlv s v
  if c.card ≠ 0x110 ∨ c.learning then s
  else if c.coilRes = 0 then modVlv s v fun c => { c with eCoil := 0, eMag := 0, energyFactor := 0 }
  else
    let p := if eMag = 0 then takeFree s else (0, s)
    let f := if eMag = 0 then (p.1 : Int) else roundDiv (eCoil * 65536) eMag
    let over_ := railAmple s v && (if eMag = 0 then decide (91750 < f) else decide (14 * eMag < 10 * eCoil))
    modVlv p.2 v fun c =>
      let c := { c with eCoil := eCoil, eMag := eMag, energyFactor := f }
      if over_ then vlvFlag fEnergyExcess c else c

/-- The inflection at Warp time `stamp` lies after the blanking; the engine has it within 20 µs of that instant (R173). -/
def afterBlank (s : State) (d : Detector) (stamp : Nat) : Bool :=
  decide (d.blankUntil ≤ s.clk) &&
    (decide (d.blankUntil + usecs 20 ≤ s.clk) || decide (warpAt s d.blankUntil ≤ stamp))

/-- SEAT_DETECTED (R60, R173, R175): `stamp` is the Warp time of the slope minimum, the energies are in µJ. A seat
of a learning window is no pull-in (log entry 98). -/
def execSeatDetected (v stamp eCoil eMag : Nat) (s : State) : Out :=
  let c := getVlv s v
  match c.wait with
  | .seat _ _ =>
    if v < 16 ∧ c.det.armed ∧ ¬ c.det.drop ∧ afterBlank s c.det stamp then
      let s := modVlv (vlvNext s v) v fun c => { c with
        seatStamp := stamp
        pullinTime := if c.learning then c.pullinTime else (wtToUs s ((stamp : Int) - c.startWarp)).toNat }
      let s := vlvEnergy s v eCoil eMag
      .next (loomSeat s v stamp (Flag.get c.flags fPullinDelayed))
    else .next s
  | _ => .next s

/-- WSEAT_TIMEOUT: no seat within the time. -/
def execWseatTimeout (v : Nat) (s : State) : Out :=
  match (getVlv s v).wait with
  | .seat t a => if v < 16 ∧ t ≤ s.clk then .next (vlvJump s v a) else .next s
  | _ => .next s

/-- DROPOUT_DETECTED (R174): DROP_REF is the reference in force; the detector returns to seat mode. -/
def execDropoutDetected (v : Nat) (s : State) : Out :=
  match (getVlv s v).wait with
  | .drop _ _ =>
    let d := (getVlv s v).det
    if v < 16 ∧ d.drop ∧ d.blankUntil ≤ s.clk then
      .next (detSeat (vlvNext (modVlv s v fun c => { c with dropRef := c.ref }) v) v)
    else .next s
  | _ => .next s

/-- WDROP_TIMEOUT: no dropout within the time. -/
def execWdropTimeout (v : Nat) (s : State) : Out :=
  match (getVlv s v).wait with
  | .drop t a => if v < 16 ∧ t ≤ s.clk then .next (vlvJump s v a) else .next s
  | _ => .next s

/-! ### The chopper (R454) -/

/-- The clk of chopper period `n` counted from `base`, for a frequency in units of 100 Hz. -/
def chopTime (base n f : Nat) : Nat := base + (n * 4000000 + f - 1) / f

/-- CHOPPER_PERIOD_START: the low side turns on and the on-edge is emitted; a CHOP takes effect. -/
def execChopperPeriodStart (v : Nat) (s : State) : Out :=
  let c := getVlv s v
  if v < 16 ∧ c.conducting ∧ c.chopNext ≤ s.clk then
    let s := modVlv s v fun c =>
      let c := match c.chopPending with
        | some f => { c with chop := f, chopPending := none, chopBase := c.chopNext, chopN := 0 }
        | none => c
      { c with lowSide := true, returning := false, chopN := c.chopN + 1, chopAt := s.clk
               chopNext := chopTime c.chopBase (c.chopN + 1) c.chop }
    .next (triggerEvent (vlvRefresh s v) (0x20 + v))
  else .next s

/-- CHOPPER_OFF_EDGE: after 0.5 µs of blanking the current has reached the reference; the low side turns off, the
coil decays and the off-edge is emitted. -/
def execChopperOffEdge (v : Nat) (s : State) : Out :=
  let c := getVlv s v
  if v < 16 ∧ c.conducting ∧ c.lowSide ∧ c.chopAt + 200 ≤ s.clk then
    let s := vlvDecay (modVlv s v fun c => { c with lowSide := false }) v
    .next (triggerEvent (vlvRefresh s v) (0x30 + v))
  else .next s

/-! ### Learning (R177) -/

/-- The local time lies from HL_FROM to HL_TO; a window may pass midnight. -/
def inLearnWindow (s : State) (v : Nat) : Bool :=
  let m := (localSec s % 86400).toNat
  let a := 60 * Cfg.vlvHlFrom s v
  let b := 60 * Cfg.vlvHlTo s v
  s.cal.st != 0 && (if a ≤ b then decide (a ≤ m) && decide (m ≤ b) else decide (a ≤ m) || decide (m ≤ b))

/-- All conditions of R177 hold. -/
def mayLearn (s : State) (v : Nat) : Bool :=
  let c := getVlv s v
  Cfg.vlvHlEnable s v && c.mode == 1 && c.card == 0x110 && c.st == .hold && c.wait == .cmdOff &&
    passed s c.wcmdSince (secs 1) && inLearnWindow s v &&
    (nth 0 c.learned c.band == 0 || decide (c.learnedAt + Cfg.vlvHlInterval s v * 86400 * 65536 ≤ s.cal.now)) &&
    (getBank s (vlvBank v)).band == c.band && fitsBudget s v (nth 0 c.params 0) &&
    !((bankChans (vlvBank v)).any fun u => (getVlv s u).learning) && !vlvHeld s v

/-- LEARN_WINDOW_GRANT (R177): the engine runs HOLD_LEARN with a share of P0. -/
def execLearnWindowGrant (v : Nat) (s : State) : Out :=
  if v < 16 ∧ mayLearn s v then
    .next (modVlv s v fun c => { c with
      st := .learn, learning := true, share := nth 0 c.params 0, pc := some 0x130, wait := .none, demoted := false })
  else .next s

/-- COIL_RES_MEASURED (R175): mean voltage over mean current of the first 100 ms of hold, mΩ. -/
def execCoilResMeasured (v milliohm : Nat) (s : State) : Out :=
  let c := getVlv s v
  if v < 16 ∧ c.st = .hold ∧ passed s c.holdSince (msecs 100) then
    .next (modVlv s v fun c => { c with coilRes := milliohm })
  else .next s

/-! ### Trips and diagnostics (R185, R186) -/

/-- A trip of a safety-relevant channel is an output-stage failure (R374). -/
def reportTrip (s : State) (h : Nat) : State :=
  if isRelevant s h then failChannels s sfOutput [h] 0xFFFF else s

/-- CHANNEL_TRIP (R186). -/
def execChannelTrip (v : Nat) (s : State) : Out :=
  if v < 16 ∧ (getVlv s v).conducting then
    .next (reportTrip (vlvTakeSet (vlvTrip s v dShortSupplyOn) v) (288 + v))
  else .next s

/-- BANK_TRIP (R186): the four channels of the bank are in FAULT with BANK_OC, and the switch opens. -/
def execBankTrip (b : Nat) (s : State) : Out :=
  if b < 4 then
    let s := modBank s b fun k => { k with trips := k.trips + 1, tripped := true }
    let s := forAll (bankChans b) (fun s v => vlvTakeSet (vlvTrip s v dBankOc) v) s
    .next (forAll (bankChans b) (fun s v => reportTrip s (288 + v)) s)
  else .next s

/-- The tests after DIAG_CLEAR end: the switch closes when no channel shows SHORT_GND_OFF (R186). -/
def testEnd (s : State) (v : Nat) : State :=
  let s := modBank s (vlvBank v) fun k => { k with testing := k.testing.filter fun u => u ≠ v }
  vlvRefresh s v

/-- OFF_STATE_TEST (R185): every 100 ms on a channel OFF for 10 ms with DIAG_OFF_EN, and once on each channel of a
bank after DIAG_CLEAR; suspended on a standby (R323). The step with the switch open counts only while no channel of the bank
conducts. -/
def execOffStateTest (v : Nat) (openOff shortGnd shortSupply : Bool) (s : State) : Out :=
  let c := getVlv s v
  let asked := (getBank s (vlvBank v)).testing.contains v
  let runs := Cfg.vlvDiagOffEn s v && c.st == .off && passed s c.offSince (msecs 10) &&
    passed s c.testedAt (msecs 100) && (!isStandby s || isLocal s (288 + v))
  if v < 16 ∧ (asked ∨ runs) then
    let idle := !((bankChans (vlvBank v)).any fun u => (getVlv s u).conducting)
    let s := modVlv s v fun c =>
      let c := { c with testedAt := s.clk }
      let c := if openOff then vlvDiag dOpenOff c else c
      let c := if shortGnd then vlvDiag dShortGndOff c else c
      if shortSupply && idle then vlvDiag dShortSupplyOff c else c
    .next (testEnd (if shortGnd then vlvCutoff s v else s) v)
  else .next s

/-- ON_STATE_DIAG (R185): an on-state condition has persisted for its time. -/
def execOnStateDiag (v : Nat) (kind : OnDiag) (present : Bool) (s : State) : Out :=
  if v < 16 ∧ (getVlv s v).conducting ∧ present then
    match kind with
    | .openOn => .next (modVlv s v (vlvDiag dOpenOn))
    | .shortGnd => .next (vlvCutoff (modVlv s v (vlvDiag dShortGndOn)) v)
  else .next s

/-- DIAG_CLEAR (R186): DIAG is clear; when a SHORT_GND of the channel holds the switch open, one off-state test runs
on every channel of the bank before it may close. -/
def vlvDiagClear (s : State) (v : Nat) : State :=
  let s := modVlv s v fun c => { c with diag := 0 }
  if (getBank s (vlvBank v)).cutBy.contains v then
    let s := modBank s (vlvBank v) fun k => { k with
      cutBy := k.cutBy.filter (fun u => u ≠ v), testing := bankChans (vlvBank v) }
    vlvRefresh s v
  else s

/-! ### Card images (R170) -/

/-- Opcodes of R169. -/
def isOp (o : Nat) : Bool := decide (o ≤ 0x0D) || (decide (0x10 ≤ o) && decide (o ≤ 0x16)) || o == 0x3F

/-- Opcodes whose operand is a level. -/
def isLevelOp (o : Nat) : Bool := o == 0x04 || o == 0x06 || o == 0x12 || o == 0x13 || o == 0x14

/-- A word R170 admits. -/
def wordOk (w : Nat) : Bool :=
  isOp (wOp w) &&
    (if wPs w then !(wArg w / 16 % 2 == 1 && decide (15 < wArg w % 16 + 3))
     else !(isLevelOp (wOp w) && decide (3000 < wArg w)))

/-- The words of an image body. -/
def imageWords : List Byte → List Nat
  | a :: b :: c :: d :: t => leNat [a, b, c, d] :: imageWords t
  | _ => []

/-- START and COUNT of an image. -/
def imageStart (l : List Byte) : Nat := leNat (l.take 2)

def imageCount (l : List Byte) : Nat := leNat ((l.drop 2).take 2)

/-- The words number as many as the header says. -/
def imageWhole (l : List Byte) : Bool := decide (4 ≤ l.length) && l.length == 4 + 4 * imageCount l

/-- A channel of engine `j` runs a card from card memory. -/
def cardBusy (s : State) (j : Nat) : Bool :=
  (bankChans j).any fun v =>
    match (getVlv s v).pc with
    | some _ => decide ((getVlv s v).card < 0x100)
    | none => false

/-- Exactly one WCMD and one MARKH. -/
def cardOnce (ws : List Nat) : Bool :=
  (ws.filter fun w => wOp w == 0x0A).length == 1 && (ws.filter fun w => wOp w == 0x0D).length == 1

/-- The abort code of a CARD_IMAGE write in the order of R256; 0 accepts it. -/
def cardImageCode (s : State) (j : Nat) (l : List Byte) : Nat :=
  let ws := imageWords (l.drop 4)
  firstCode [
    codeIf (cardBusy s j) Ab.busy,
    codeIf (l.isEmpty || (decide (4 ≤ l.length) && imageCount l == 0)) Ab.lengthZero,
    codeIf (!imageWhole l) Ab.type,
    codeIf (ws.any (fun w => !wordOk w) || !cardOnce ws) Ab.range,
    codeIf (decide (0x100 < imageStart l + imageCount l)) Ab.storage]

/-- An image whose words a new one overwrites is no longer whole (log entry 61). -/
def overlaps (a b : CardLoad) : Bool :=
  a.engine == b.engine && decide (a.start < b.start + b.count) && decide (b.start < a.start + a.count)

/-- Load an image into the card memory of an engine. -/
def loadCard (s : State) (j : Nat) (l : List Byte) : State :=
  let ws := (imageWords (l.drop 4)).map (BitVec.ofNat 32)
  let c : CardLoad := ⟨j, imageStart l, imageCount l⟩
  { s with valve := { s.valve with
      cards := Table.setRun (blank 0#32) s.valve.cards (256 * j + imageStart l) ws
      loads := s.valve.loads.filter (fun p => !overlaps p c) ++ [c] } }

end Sys2Proof.Machine
end

