-- ==== Sys2Proof/Machine/FieldIo.lean ====
section
/-! DEFINITION. The F-die: inputs, outputs, shedding, the barrier link and the field watchdog (08_field_io). -/

namespace Sys2Proof.Machine

/-! ### Inputs (R192–R194) -/

/-- The rising threshold of an input in mV, within the limits of R192. -/
def inRise (s : State) (i : Nat) : Nat :=
  let t := Cfg.ioInType s i
  let v := Config.inThreshold i t
  if t = 3 then min (max v 7000) 9000 else min (max v 9000) 11000

/-- The hysteresis of an input in mV, within the limits of R192. -/
def inHyst (s : State) (i : Nat) : Nat := min (max (Config.inHysteresis i (Cfg.ioInType s i)) 500) 1500

/-- The comparator of an input. -/
def inLevel (s : State) (i : Nat) (level : Bool) (millivolt : Int) : Bool :=
  if level then decide ((inRise s i - inHyst s i : Nat) ≤ millivolt) else decide ((inRise s i : Int) < millivolt)

/-- The class of a sample (R194): where no row applies the state is kept. -/
def inClass (s : State) (i : Nat) (level : Bool) (microamp : Nat) : Nat :=
  if level then 1
  else if !Cfg.ioWbEn s i then 0
  else if 200 ≤ microamp ∧ microamp ≤ 1000 then 0
  else if microamp < 100 then 2
  else (getIo s i).far.state

/-- A safety-relevant input that reads BREAK for longer than its FILTER + 10 ms has failed (R376). -/
def inputCheck (s : State) (i : Nat) : State :=
  match (getIo s i).breakSince with
  | some t =>
    if isRelevant s (256 + i) ∧ after t (40000 * Cfg.ioFilter s i + msecs 10) < s.clk then failInput s (256 + i) else s
  | none => s

/-- Change what the L-die has of an input; the instant at which it ceases to read CLOSED or BREAK is kept (R74). -/
def ioReads (s : State) (i : Nat) (f : IoRt → IoRt) : State :=
  modIo s i fun c =>
    let n := f c
    if ioInState c ≠ 0 ∧ ioInState n = 0 then { n with presentAt := some s.clk } else n

/-- What the F-die has of an input crosses the barrier link while it is up; a change of state is a result for the loops on the
input (R15, R193). -/
def ioCross (s : State) (i : Nat) : State :=
  if !s.io.linkUp then s
  else
    let c := getIo s i
    let f := c.far
    let s := ioReads s i fun c => { c with
      inState := f.state, edgeStamp := f.stamp, edgeClk := f.clk, edges := f.edges, tachFreq := f.freq
      inCurrent := f.current, lastEdge := c.tachTimes.getLast?.getD c.lastEdge }
    if f.state = c.inState then s
    else
      resultDue (modIo s i fun r => { r with
        edgeAt := s.clk, changed := true
        breakSince := if f.state = 2 then some s.clk else none
        okSince := if c.inState = 2 then s.clk else r.okSince }) (256 + i) f.clk

/-- IO_INPUT_SAMPLE (R193, R194): the F-die samples an input: pin voltage and drawn current. A new level is stamped on the
F-die's replica. -/
def execIoInputSample (i : Nat) (millivolt : Int) (microamp : Nat) (s : State) : Out :=
  let c := getIo s i
  if i < 32 ∧ pinsLive s ∧ c.mode = 1 ∧ c.hizUntil = none then
    let lv := inLevel s i c.level millivolt
    let cl := inClass s i lv microamp
    let s := modIo s i fun c =>
      let d := decide (c.raw ≠ cl)
      let c := { c with level := lv, raw := cl, far := { c.far with current := microamp } }
      if cl = c.far.state then { c with differSince := none }
      else if c.differSince.isNone ∨ d then { c with differSince := some s.clk, differWarp := warpField s }
      else c
    .next (inputCheck (ioCross s i) i)
  else .next s

/-- IO_FILTER_EXPIRY (R193): the class has differed for FILTER; the state changes on the F-die with the stamp of the first
sample, and crosses the link. -/
def execIoFilterExpiry (i : Nat) (s : State) : Out :=
  let c := getIo s i
  match c.differSince with
  | some t =>
    if i < 32 ∧ c.mode = 1 ∧ after t (40000 * Cfg.ioFilter s i) ≤ s.clk then
      .next (ioCross (modIo s i fun c => { c with
        differSince := none
        far := { c.far with state := c.raw, stamp := c.differWarp, clk := t, edges := c.far.edges + 1 } }) i)
    else .next s
  | none => .next s

/-- An edge on the TACH_IO of an EC fan (R216): TACH_WIRE and FAN_FAILED clear after edges have arrived for four
expected periods. -/
def ecTachBack (s : State) (e gap : Nat) : State :=
  let f := 4 + e
  let c := getFan s f
  if Flag.get c.flags fanTachWire || Flag.get c.flags fanFailed then
    let from_ := if ecPeriods s e 2 < gap then s.clk else c.okFrom.getD s.clk
    if from_ + ecPeriods s e 4 ≤ s.clk ∧ from_ < s.clk then
      refreshBoost (dropAlarm (.tachWire f)
        (modFan s f fun c => fanFlag fanTachWire false (fanFlag fanFailed false { c with okFrom := none })))
    else modFan s f fun c => { c with okFrom := some from_ }
  else s

/-- TACH_EDGE (R193): a rising edge in mode 4; TACH_FREQ comes from the last four periods. The fan drive learns of it while the
link is up. -/
def execTachEdge (i : Nat) (s : State) : Out :=
  let c := getIo s i
  if i < 32 ∧ pinsLive s ∧ c.mode = 4 ∧ c.hizUntil = none then
    let gap := s.clk - c.tachTimes.getLast?.getD s.clk
    let ts := lastN 5 (c.tachTimes ++ [s.clk])
    let span := s.clk - ts.headD s.clk
    let s := ioCross (modIo s i fun c => { c with
      tachTimes := ts
      far := { c.far with
        edges := c.far.edges + 1
        freq := if ts.length = 5 then roundDiv (secs 4 * 65536) span else c.far.freq } }) i
    match ecOfTach s i with
    | some e => .next (if s.io.linkUp then ecTachBack s e gap else s)
    | none => .next s
  else .next s

/-! ### Outputs (R196–R199) -/

/-- IO_CURRENT_LIMIT (R196): the current of an output that is on; at the applied limit it regulates there. -/
def execIoCurrentLimit (i : Nat) (current : Int) (s : State) : Out :=
  if i < 32 ∧ (getIo s i).on ∧ ¬ (getGroup s (ioGroupOf i)).lost then
    let lim := roundDiv (ioLimit s i * 65536) 10
    let s := modIo s i fun c => { c with
      outCurrent := min current lim, status := Flag.set c.status ioInLimit (decide (lim ≤ current)) }
    .next (groupFollow s (ioGroupOf i))
  else .next s

/-- IO_THERMAL_SHUTDOWN (R197, R374): the stage turns off; the eighth within 60 s latches. -/
def execIoThermalShutdown (i : Nat) (s : State) : Out :=
  if i < 32 ∧ (getIo s i).on then
    let lost := (getGroup s (ioGroupOf i)).lost
    let ts := if lost then (getIo s i).thermTimes
      else recent s (secs 60) (getIo s i).thermTimes ++ [s.clk]
    let s := modIo s i fun c => { c with
      thermTimes := ts
      status := Flag.set (Flag.set c.status ioThermalOff true) ioOverloadLatched
        (Flag.get c.status ioOverloadLatched || decide (8 ≤ ts.length)) }
    .next (reportTrip (ioApply s i) (256 + i))
  else .next s

/-- IO_THERMAL_RESTART (R197): cooled by 15 K, the channel turns on again if its command is still on. -/
def execIoThermalRestart (i : Nat) (s : State) : Out :=
  if i < 32 ∧ Flag.get (getIo s i).status ioThermalOff then
    .next (ioApply (modIo s i fun c => { c with status := Flag.set c.status ioThermalOff false }) i)
  else .next s

/-- The channel that a group sheds: the highest current, then the highest number, among the conducting channels
that are not safety-relevant; a safety-relevant one only when no other conducts. -/
def shedPick (s : State) (g : Nat) : Option Nat :=
  let on := ((upTo 8).map fun j => 8 * g + j).filter fun i => (getIo s i).on
  let free := on.filter fun i => !isRelevant s (256 + i)
  let pool := if free.isEmpty then on else free
  pool.foldl (fun m i =>
    match m with
    | some j => if (getIo s j).outCurrent ≤ (getIo s i).outCurrent then some i else some j
    | none => some i) none

/-- GROUP_SHED (R198): the group total has been too high for 2 ms; `currents` are those of its channels. -/
def execGroupShed (g : Nat) (currents : List Int) (s : State) : Out :=
  let r := getGroup s g
  let free : Bool := match r.shedAt with
    | some t => passed s t (msecs 2)
    | none => true
  if g < 4 ∧ released s ∧ ¬ r.lost ∧ free = true ∧ 3 * 65536 < currents.foldl (· + ·) 0 then
    let s := forAll (upTo 8) (fun s j =>
      modIo s (8 * g + j) fun c => { c with outCurrent := if c.on then nth 0 currents j else 0 }) s
    match shedPick s g with
    | none => .next s
    | some i =>
      let ts := recent s (secs 60) (getIo s i).shedTimes ++ [s.clk]
      let s := modIo s i fun c => { c with
        shedTimes := ts
        status := Flag.set (Flag.set c.status ioShed true) ioShedLatched
          (Flag.get c.status ioShedLatched || decide (3 ≤ ts.length)) }
      let s := modGroup s g fun r => { r with sheds := r.sheds + 1, shedAt := some s.clk, lowSince := none }
      .next (logEvent (ioApply s i) 0x0602 (bytes1 [i, ts.length]))
  else .next s

/-- GROUP_REINSTATE (R198): after 1 s below 2.7 A the lowest-numbered shed channel comes back, one every
100 ms, while its command is on. -/
def execGroupReinstate (g : Nat) (s : State) : Out :=
  let r := getGroup s g
  let low : Bool := match r.lowSince with
    | some t => passed s t (secs 1)
    | none => false
  if g < 4 ∧ low = true ∧ r.nextReinstate ≤ s.clk then
    match findIdx (fun i => Flag.get (getIo s i).status ioShed && !Flag.get (getIo s i).status ioShedLatched &&
        !(getIo s i).lastCmdOff) (8 * g) 8 with
    | some i =>
      let s := modIo s i fun c => { c with status := Flag.set c.status ioShed false }
      let s := modGroup s g fun r => { r with nextReinstate := after s.clk (msecs 100) }
      .next (ioApply s i)
    | none => .next s
  else .next s

/-- IO_OUTPUT_DIAG (R199): a condition has persisted, or been absent, for 100 ms. -/
def execIoOutputDiag (i : Nat) (kind : IoDiag) (present : Bool) (s : State) : Out :=
  let c := getIo s i
  if i < 32 ∧ isOutMode c.mode ∧ pinsLive s then
    match kind with
    | .openLoad =>
      .next (if present && !c.on then s else modIo s i fun c => { c with status := Flag.set c.status ioOpenLoad present })
    | .shortLplus =>
      .next (if isStandby s || (present && c.on) then s
        else modIo s i fun c => { c with status := Flag.set c.status ioShortLplus present })
  else .next s

/-- DIAG_CLEAR of an IO channel (R197, R198). -/
def ioDiagClear (s : State) (i : Nat) : State :=
  ioApply (modIo s i fun c => { c with
    status := Flag.set (Flag.set c.status ioOverloadLatched false) ioShedLatched false }) i

/-! ### Barrier link and field watchdog (R201–R203) -/

/-- Set or clear STALE on every input. -/
def setStale (s : State) (b : Bool) : State :=
  forAll (upTo 32) (fun s i => ioReads s i fun c =>
    if b && !(c.mode == 1 || c.mode == 4) then c else { c with status := Flag.set c.status ioStale b }) s

/-- The F-die's replica of Warp is corrected (R16). -/
def replicaSync (s : State) : State :=
  { s with warp := { s.warp with replica := warpFine s, incF := s.warp.inc, replicaAt := s.clk } }

/-- LINK_STATE returns to UP: the inputs and the commands cross again (R15, R201). -/
def linkBack (s : State) : State :=
  let s := setStale (replicaSync { s with io := { s.io with linkUp := true } }) false
  let s := forAll (upTo 32) ioCross s
  if released s then ioApplyAll s else s

/-- BARRIER_FRAME (R16, R201): a frame arrives; the tenth valid one in a row brings the link up. Every 1 ms the link corrects
the replica. -/
def execBarrierFrame (crcOk : Bool) (power : Nat) (s : State) : Out :=
  if s.power.phase = .reset then .next s
  else if !crcOk then .next { s with io := { s.io with linkErrors := s.io.linkErrors + 1, validRun := 0 } }
  else
    let n := s.io.validRun + 1
    let s := { s with io := { s.io with validRun := n, lastValid := s.clk, power := power } }
    if !s.io.linkUp ∧ 10 ≤ n then .next (linkBack s)
    else if s.io.linkUp ∧ passed s s.warp.replicaAt (msecs 1) then .next (replicaSync s)
    else .next s

/-- The supervisor runs and has not yet declared a barrier link failure. -/
def linkUndeclared (s : State) : Bool :=
  (s.safety.st == 1 || s.safety.st == 2) && !Flag.get s.safety.failures sfBarrier

/-- BARRIER_LINK_DOWN (R201): no valid frame for 3 ms; the inputs read BREAK, and the supervisor declares a failure. A link that
is not UP when the supervisor begins to run is one too (log entry 64). -/
def execBarrierLinkDown (s : State) : Out :=
  if s.io.linkUp then
    .next (if passed s s.io.lastValid (msecs 3) then
        failModule (setStale { s with io := { s.io with linkUp := false, validRun := 0 } } true) sfBarrier
      else s)
  else .next (if linkUndeclared s then failModule (setStale s true) sfBarrier else s)

/-- FWD_REFRESH (R202): sent every 1 ms while the firmware watchdog has not expired; it reaches the F-die while the
link is up and its frames arrive (log entry 64). A gap of FWD_TIME or more starts the count of R203 anew. -/
def execFwdRefresh (s : State) : Out :=
  if s.io.linkUp ∧ ¬ passed s s.io.lastValid (usecs 20) ∧ ¬ s.safety.watchdogBad ∧ s.power.phase ≠ .reset ∧ s.power.phase ≠ .dieHold ∧
      s.power.phase ≠ .done then
    let from_ := if passed s s.io.lastRefresh (msecs (Cfg.fwdFwdTime s)) then s.clk
      else s.io.refreshSince.getD s.clk
    .next { s with io := { s.io with lastRefresh := s.clk, refreshSince := some from_ } }
  else .next s

/-- The F-die turns every output off and is TRIPPED (R202). Outputs whose SAFE_STATE is not off then deviate after a
barrier-link or watchdog failure (R379). -/
def fwdTripOp (s : State) : State :=
  let s := { s with io := { s.io with fwd := 2, fwdTrips := s.io.fwdTrips + 1, refreshSince := none } }
  let s := forAll (upTo 32) (fun s i =>
    if isOutMode (getIo s i).mode then modIo s i fun c => { c with status := Flag.set c.status ioWdOff true } else s) s
  let s := ioApplyAll s
  if Flag.get s.safety.failures sfBarrier || Flag.get s.safety.failures sfWatchdog then
    safeDeviate s fun h => decide (h < 288)
  else s

/-- FWD_TRIP (R202): no refresh for FWD_TIME. -/
def execFwdTrip (s : State) : Out :=
  if s.io.fwd = 1 ∧ passed s s.io.lastRefresh (msecs (Cfg.fwdFwdTime s)) then .next (fwdTripOp s) else .next s

/-- BARRIER_SUPPLY_LOSS (R14, R202). -/
def execBarrierSupplyLoss (s : State) : Out :=
  if s.io.fwd = 1 then .next (fwdTripOp s) else .next s

/-- FWD_REARM is accepted: the link is up and refreshes have arrived for 10 ms (R203). -/
def rearmOk (s : State) : Bool :=
  s.io.linkUp &&
    match s.io.refreshSince with
    | some t => passed s t (msecs 10) && !passed s s.io.lastRefresh (msecs (Cfg.fwdFwdTime s))
    | none => false

/-- FWD_REARM (R203): TRIPPED ends, and each output takes its owner's latest command. -/
def fwdRearm (s : State) : State :=
  if s.io.fwd = 2 then
    let s := { s with io := { s.io with fwd := 1 } }
    ioApplyAll (forAll (upTo 32) (fun s i => modIo s i fun c => { c with status := Flag.set c.status ioWdOff false }) s)
  else s

/-! ### Field supplies and mode changes (R205, R206) -/

/-- SUPPLY_LOST follows the group on its outputs. -/
def groupMark (s : State) (g : Nat) (b : Bool) : State :=
  forAll (upTo 8) (fun s j =>
    let i := 8 * g + j
    if !b || isOutMode (getIo s i).mode then
      modIo s i fun c => { c with status := Flag.set c.status ioSupplyLost b }
    else s) s

/-- The L-die keeps the field supplies in view: not in reset, and not once its cores have halted. -/
def supplyWatched (s : State) : Bool :=
  match s.power.phase with
  | .reset | .done | .dieHold => false
  | _ => true

/-- SUPPLY_LOST (R205): L+ has stayed below 15 V for 1 ms; the outputs carry no current. -/
def execSupplyLost (g : Nat) (s : State) : Out :=
  if g < 4 ∧ supplyWatched s ∧ ¬ (getGroup s g).lost then
    let s := modGroup s g fun r => { r with lost := true }
    let s := forAll (upTo 8) (fun s j =>
      modIo s (8 * g + j) fun c => { c with outCurrent := 0, status := Flag.set c.status ioInLimit false }) s
    .next (logEvent (groupMark (groupFollow s g) g true) 0x0601 (bytes1 [g, 0]))
  else .next s

/-- SUPPLY_RETURN (R205): L+ has stayed above 17 V for 10 ms; the outputs take their commands. -/
def execSupplyReturn (g : Nat) (s : State) : Out :=
  if g < 4 ∧ supplyWatched s ∧ (getGroup s g).lost then
    let s := modGroup s g fun r => { r with lost := false }
    let s := logEvent (groupMark s g false) 0x0601 (bytes1 [g, 1])
    .next (forAll (upTo 8) (fun s j => ioApply s (8 * g + j)) s)
  else .next s

/-- What an IO_MODE change leaves of IO_STATUS: a stage that is off or shed stays so (R197, R198). -/
def keptStatus (f : Flags) : Flags :=
  [ioThermalOff, ioOverloadLatched, ioShed, ioShedLatched].foldl (fun g b => Flag.set g b (Flag.get f b)) 0

/-- A channel takes a mode. An input starts at BREAK with WB_EN, else at OPEN (log entry 99). -/
def ioTakeMode (s : State) (i : Nat) : State :=
  let m := Cfg.ioIoMode s i
  let lost := (getGroup s (ioGroupOf i)).lost
  let b := if Cfg.ioWbEn s i then 2 else 0
  let s := ioReads s i fun c => { c with
    mode := m, hizUntil := none, differSince := none, level := false, tachTimes := [], tachFreq := 0, changed := false
    far := { c.far with state := b, freq := 0 }, inState := b, raw := b
    breakSince := if m = 1 ∧ Cfg.ioWbEn s i then some s.clk else none
    outCurrent := 0
    status := Flag.set (Flag.set (Flag.set (keptStatus c.status) ioSupplyLost (lost && isOutMode m)) ioWdOff
      (decide (s.io.fwd = 2) && isOutMode m)) ioStale (!s.io.linkUp && (m == 1 || m == 4)) }
  ioApply s i

/-- With WB_EN at 0 an input is only OPEN or CLOSED: one that reads BREAK takes the class of its present level (R194; log entry
25). -/
def ioNoBreak (s : State) (i : Nat) : State :=
  let c := getIo s i
  if c.mode = 1 ∧ ¬ Cfg.ioWbEn s i ∧ (c.far.state = 2 ∨ c.raw = 2) then
    let n := if c.level then 1 else 0
    let s := modIo s i fun c => { c with
      raw := n, differSince := none, far := { c.far with state := if c.far.state = 2 then n else c.far.state } }
    ioReads s i fun c => { c with inState := if c.inState = 2 then n else c.inState, breakSince := none }
  else s

/-- IO_MODE_CHANGE_END (R206): the 1 ms of high impedance has passed. -/
def execIoModeChangeEnd (i : Nat) (s : State) : Out :=
  match (getIo s i).hizUntil with
  | some t => if i < 32 ∧ t ≤ s.clk then .next (ioTakeMode s i) else .next s
  | none => .next s

/-- The field I/O group takes effect at COMMIT; a change of IO_MODE makes the pin high impedance for 1 ms (R206,
R207). -/
def ioTakeSet (s : State) : State :=
  let old := s
  let s := forAll (upTo 32) (fun s i => takeObj s (0x6100 + i)) (takeObj s 0x6000)
  if !pinsLive s then s
  else forAll (upTo 32) (fun s i =>
    if Cfg.ioIoMode s i = Cfg.ioIoMode old i then ioApply (ioNoBreak s i) i
    else ioApply (modIo s i fun c => { c with hizUntil := some (after s.clk (msecs 1)) }) i) s

end Sys2Proof.Machine
end

