-- ==== Sys2Proof/Machine/Fans.lean ====
section
/-! DEFINITION. The events of the fan drive (09_fan_drive). -/

namespace Sys2Proof.Machine

/-- PWM_PERIOD_START (R141, R210): what reached the shadow before this clock passes to the bridge, and the event is
emitted. -/
def execPwmPeriodStart (k : Nat) (s : State) : Out :=
  if k < 4 ∧ isUp s then
    .next (triggerEvent (modFan s k fun c =>
      { c with bridge := if c.shadowAt = s.clk then c.shadowOld else c.shadow }) (0x14 + k))
  else .next s

/-- PWM_CENTRE (R141). -/
def execPwmCentre (k : Nat) (s : State) : Out :=
  if k < 4 ∧ isUp s then .next (triggerEvent s (0x10 + k)) else .next s

/-- A CMD write of a fan (R217, R220): the first one after the host-timeout condition ends table mode. -/
def fanCommand (s : State) (f : Nat) : State :=
  let s := if (getFan s f).table && !s.host.silent then fanLeaveTable s f else s
  fanUpdate s f

/-- A reading of SUPPLY_SRC: the result of an AI input, or the output current of an IO channel (R216; log entry 44). -/
def supplyNow (s : State) (src : Nat) : Int :=
  if src < 288 then (getIo s (src - 256)).outCurrent else (getRec s (src - 308)).value

/-- An EC fan keeps its readings of SUPPLY_SRC of the last second. -/
def noteSupply (s : State) (e : Nat) : State :=
  let src := Cfg.ecSupplySrc s e
  if src = 0xFFFF then s
  else modFan s (4 + e) fun c => { c with supply := lastSecond s c.supply ++ [(s.clk, supplyNow s src)] }

/-- The mean of SUPPLY_SRC over the last second; `free` where nothing was noted in it, of which R216 says nothing (log entry
96). -/
def supplyMean (s : State) (e : Nat) (free : Int) : Int :=
  let l := lastSecond s (getFan s (4 + e)).supply
  if l.isEmpty then free else roundDiv ((l.map fun p => p.2).foldl (· + ·) 0) l.length

/-- SPEED_EVALUATION (R209, R217): a fan forms its speed; `measured` is the observer's, Q16 %. -/
def execSpeedEvaluation (f : Nat) (measured : Int) (s : State) : Out :=
  if f < 12 ∧ released s then
    let s := if s.dict.waiting.contains (.fan f) then fanTakeSet s f else s
    if f < 4 then
      let s := modFan s f fun c => { c with speed := measured }
      let s := fanUpdate s f
      let r : ResRec := ⟨true, measured, 0, 0, ((getRec s (0x808 + f)).seq + 1) % 256, warpNow s, s.clk, s.clk⟩
      .next (resultDue (setRec s (0x808 + f) r) (0x808 + f) s.clk)
    else .next (noteSupply (fanUpdate s f) (f - 4))
  else .next s

/-! ### The start sequence (R212–R214) -/

/-- LISTEN_END (R212): a lock on a forward rotor above 10 % leads to RUN, a rotor turning backwards to the zero
vector, anything else to ALIGN after 100 ms. -/
def execListenEnd (k : Nat) (locked forward : Bool) (speed : Int) (s : State) : Out :=
  let c := getFan s k
  if k < 4 ∧ c.st = 1 ∧ ¬ c.zeroVec then
    if locked ∧ forward ∧ 655360 < speed then .next (fanRun s k (speed * fineUnit))
    else if ¬ passed s c.stepClk (msecs 100) then .next s
    else if locked ∧ ¬ forward then
      .next (modFan s k fun c => { c with zeroVec := true, bridgeOn := !vdrvLow s, stepClk := s.clk })
    else .next (fanAlign s k)
  else .next s

/-- ZERO_VECTOR_END (R212): the back-EMF is below 2 %, or 5 s have passed; ALIGN follows. -/
def execZeroVectorEnd (k : Nat) (s : State) : Out :=
  if k < 4 ∧ (getFan s k).st = 1 ∧ (getFan s k).zeroVec then .next (fanAlign s k) else .next s

/-- ALIGN_END (R212): 200 ms of ALIGN have passed. -/
def execAlignEnd (k : Nat) (s : State) : Out :=
  if k < 4 ∧ (getFan s k).st = 2 ∧ passed s (getFan s k).stepClk (msecs 200) then
    .next (modFan s k fun c => { c with st := 3, stepClk := s.clk })
  else .next s

/-- OBSERVER_LOCK (R212): the fan is handed over to RUN at the end of RAMP. -/
def execObserverLock (k : Nat) (s : State) : Out :=
  let c := getFan s k
  if k < 4 ∧ c.st = 3 then
    let s := modFan s k fun c => { c with locked := true }
    if passed s c.stepClk (msecs (Cfg.dfanOlRampTime s k)) then .next (refreshBoost (fanRun s k fine10)) else .next s
  else .next s

/-- START_ATTEMPT_FAIL (R213): no lock within 2 s of RAMP; PAUSE, or FAN_BLOCKED after the third retry. -/
def execStartAttemptFail (k : Nat) (s : State) : Out :=
  let c := getFan s k
  if k < 4 ∧ c.st = 3 ∧ ¬ c.locked ∧ passed s c.stepClk (secs 2) then
    if c.retry < 3 then .next (modFan s k fun c => fanOff { c with st := 5, stepClk := s.clk })
    else
      let s := modFan s k fun c => fanFlag fanBlocked true (fanOff { c with st := 6, stepClk := s.clk })
      .next (refreshBoost (logEvent s 0x0701 (bytes1 [k])))
  else .next s

/-- PAUSE_END (R213): 500 ms have passed; the next attempt starts. -/
def execPauseEnd (k : Nat) (s : State) : Out :=
  if k < 4 ∧ (getFan s k).st = 5 ∧ passed s (getFan s k).stepClk (msecs 500) then
    .next (fanAlign (modFan s k fun c => { c with retry := c.retry + 1, attempts := c.attempts + 1 }) k)
  else .next s

/-- BLOCKED_REST_END (R213): after 60 s the sequence begins with LISTEN again. -/
def execBlockedRestEnd (k : Nat) (s : State) : Out :=
  if k < 4 ∧ (getFan s k).st = 6 ∧ passed s (getFan s k).stepClk (secs 60) then .next (fanListen s k) else .next s

/-- PHASE_TRIP (R211, R214, R374): the bridge turns off; the third trip within 60 s latches it off. -/
def execPhaseTrip (k : Nat) (s : State) : Out :=
  if k < 4 ∧ (getFan s k).bridgeOn then
    let ts := recent s (secs 60) (getFan s k).trips ++ [s.clk]
    let s := fanStop s k
    let s := modFan s k fun c =>
      if 3 ≤ ts.length then
        fanFlag fanOcLatched true (fanFlag fanFailed true { c with trips := ts, st := 7, restartAt := none })
      else { c with trips := ts, restartAt := some (after s.clk (secs 1)) }
    .next (reportTrip (refreshBoost s) (304 + k))
  else .next s

/-- LOCK_LOST (R214): the back-EMF has been low for 100 ms in RUN; the start sequence follows after 1 s. -/
def execLockLost (k : Nat) (s : State) : Out :=
  if k < 4 ∧ (getFan s k).st = 4 then
    .next (modFan (fanStop s k) k fun c => fanFlag fanLockLost true { c with restartAt := some (after s.clk (secs 1)) })
  else .next s

/-- FAN_RESTART (R214): 1 s after a lost lock or a trip. -/
def execFanRestart (k : Nat) (s : State) : Out :=
  match (getFan s k).restartAt with
  | some t =>
    if k < 4 ∧ t ≤ s.clk then
      let s := modFan s k fun c => { c with restartAt := none }
      let p := fanFetch s k
      if 0 < fanWanted p.2 k p.1 ∧ (getFan s k).st = 0 then .next (fanListen p.2 k) else .next p.2
    else .next s
  | none => .next s

/-! ### EC fans and table mode (R216, R220) -/

/-- EC_TACH_LOSS (R216): no edge for 2 / f_exp, classified by the mean supply current of the last second. -/
def execEcTachLoss (e : Nat) (mean : Int) (s : State) : Out :=
  let f := 4 + e
  let c := getFan s f
  let last := (getIo s (Cfg.ecTachIo s e - 256)).lastEdge
  if e < 8 ∧ released s ∧ 256 ≤ Cfg.ecTachIo s e ∧ Cfg.ecTachIo s e < 288 ∧ 0 < c.fine ∧
      passed s c.roseAt (secs (Cfg.ecSpinupTime s e)) ∧ passed s last (ecPeriods s e 2) ∧
      ¬ Flag.get c.flags fanTachWire ∧ ¬ Flag.get c.flags fanFailed then
    let s := modFan s f fun c => { c with okFrom := none }
    if Cfg.ecSupplySrc s e ≠ 0xFFFF ∧ Cfg.ecSupMin s e ≤ supplyMean s e mean ∧ supplyMean s e mean ≤ Cfg.ecSupMax s e then
      .next (raiseAlarm (.tachWire f) (modFan s f (fanFlag fanTachWire true)))
    else .next (refreshBoost (modFan s f (fanFlag fanFailed true)))
  else .next s

/-- TABLE_READ (R220): every 1 s in table mode. -/
def execTableRead (f : Nat) (s : State) : Out :=
  if f < 12 ∧ (getFan s f).table ∧ passed s (getFan s f).tableAt (secs 1) then
    .next (fanUpdate (fanReadTable s f) f)
  else .next s

/-- DIAG_CLEAR of a fan (R214): OC_LATCHED and FAN_FAILED clear, and a latched fan may start. -/
def fanDiagClear (s : State) (f : Nat) : State :=
  refreshBoost (modFan s f fun c =>
    fanFlag fanOcLatched false (fanFlag fanFailed false
      { c with st := if c.st = 7 then 0 else c.st, trips := if c.st = 7 then [] else c.trips }))

end Sys2Proof.Machine
end

