-- ==== Sys2Proof/Machine/Display.lean ====
section
/-! DEFINITION. The segment display: frames, rows, overdrive, update rounds, ledgers (10_segment_display). -/

namespace Sys2Proof.Machine

/-! ### Levels (R225) -/

/-- The level of segment `g` in row `c` of an image. -/
def levelOf (img : List Byte) (c g : Nat) : Nat :=
  (nth 0#8 img (12 * c + g / 4)).toNat / 4 ^ (g % 4) % 4

/-- IMAGE and ROW: a length that is refused (R225). -/
def imageLenBad (m : Nat) (l : List Byte) : Bool := l.length != if m = 1 then 72 else 12

/-- Write the pending image (R226). In bistable mode the first write that makes it differ from SHOWN starts
the 10 ms of R232. -/
def dispWrite (s : State) (img : List Byte) : State :=
  modDisp s fun d => { d with
    pending := img
    dirtySince := if img = d.shown then none else some (d.dirtySince.getD s.clk) }

/-- Write one row of the pending image. -/
def dispWriteRow (s : State) (r : Nat) (l : List Byte) : State :=
  dispWrite s (s.disp.pending.take (12 * r) ++ l ++ s.disp.pending.drop (12 * r + 12))

/-! ### Group (R238) -/

/-- The display takes the committed set, LEDGER_LIMIT with it. -/
def dispTakeSet (s : State) : State :=
  ledgerFollow (syncDone .display (forAll [0x9000, 0x9200, 0x9201, 0x9202, 0x9203] takeObj s))

/-- A set that waits is taken. -/
def dispSync (s : State) : State :=
  if s.dict.waiting.contains .display then dispTakeSet s else s

/-- The entry (a, b) of the overdrive table of the band in use. -/
def odEntry (s : State) (a b : Nat) : Nat := Cfg.odOdEntry s s.disp.bandInUse (4 * a + b)

/-! ### TN mode (R227–R230) -/

/-- A frame in engine clocks, rounded up (log entry 6). -/
def frameLen (s : State) : Nat :=
  (clkPerSec + Cfg.dispFrameRate s - 1) / Cfg.dispFrameRate s

/-- The clk at which row slot `k` of the running frame starts. -/
def slotStart (s : State) (k : Nat) : Nat :=
  s.disp.frameClk + (secs k + 2 * Cfg.dispComCount s * Cfg.dispFrameRate s - 1) /
    (2 * Cfg.dispComCount s * Cfg.dispFrameRate s)

/-- VLCD_BANDb. -/
def vlcdSet (s : State) : Nat := cfgN s 0x9000 (10 + s.disp.bandInUse)

/-- The panel has the pixel: a row below COM_COUNT, a segment below SEG_COUNT. -/
def isPixel (s : State) (c g : Nat) : Bool := decide (c < Cfg.dispComCount s) && decide (g < Cfg.dispSegCount s)

/-- One place of the image at a frame start: its overdrive sequence goes on, ends, or starts anew because the level of a pixel
changes, with the target of an interrupted one as a (R229). A sequence lasts its OD_FRAMES frames also where a new group
has taken its pixel off the panel. -/
def odStep (s : State) (old : List Byte) (od : Table OdSeq) (c g : Nat) : Table OdSeq :=
  let k := 48 * c + g
  let a := levelOf old c g
  let b := levelOf s.disp.pending c g
  if a = b then
    match od.find? fun p => p.1 == k with
    | none => od
    | some p => if p.2.left ≤ 1 then Table.del od k else Table.put od k { p.2 with left := p.2.left - 1 }
  else
    let e := odEntry s a b
    if e / 16 % 16 = 0 ∨ ¬ isPixel s c g then Table.del od k else Table.put od k ⟨b, e % 4, e / 16 % 16⟩

/-- The rows and segments of an image. -/
def pixels : List (Nat × Nat) := (upTo 6).flatMap fun c => (upTo 48).map fun g => (c, g)

/-- A level is on in a frame of the superframe (R228). -/
def levelOn (frame level : Nat) : Bool := level == 3 || (level != 0 && frame == 0) || (level == 2 && frame == 1)

/-- The on/off data of a row for a frame. -/
def rowData (s : State) (c : Nat) : List Bool :=
  (upTo 48).map fun g =>
    decide (g < Cfg.dispSegCount s) && levelOn s.disp.frame
      (match s.disp.od.find? fun p => p.1 == 48 * c + g with
       | some p => p.2.level
       | none => levelOf s.disp.shown c g)

/-- A frame starts (R226–R230): the group, the band and the pending image are taken, overdrive is advanced,
and the rows whose data differ move to the latches. -/
def frameBegin (s : State) (start frame : Nat) (negativeFirst : Bool) : State :=
  let s := dispSync s
  let s := modDisp s fun d => { d with
    bandInUse := d.band, frame := frame, slot := 0, frameClk := start, negativeFirst := negativeFirst }
  let old := s.disp.shown
  let od := pixels.foldl (fun od p => odStep s old od p.1 p.2) s.disp.od
  let s := modDisp s fun d => dispFlag dfOverdrive (od.any fun p => isPixel s (p.1 / 48) (p.1 % 48))
    { d with od := od, shown := d.pending, dirtySince := none, vlcd := vlcdSet s }
  let rows := (upTo (Cfg.dispComCount s)).map (rowData s)
  let moved := (upTo (Cfg.dispComCount s)).filter fun c => nth [] rows c != nth [] s.disp.latched c
  let s := modDisp s fun d => { d with latched := rows, moved := moved }
  if old = s.disp.shown then s else sendMirror s (mirrorOfDisp s)

/-- The next frame starts. -/
def execFrameStart (s : State) : Out :=
  .next (if s.disp.mode = 1 ∧ s.disp.st = 1 ∧ s.disp.frameClk + frameLen s ≤ s.clk then
      frameBegin s (s.disp.frameClk + frameLen s) ((s.disp.frame + 1) % 3) false
    else s)

/-- The next row slot selects a common with its polarity (R227). -/
def execRowSlot (s : State) : Out :=
  .next (if s.disp.mode = 1 ∧ s.disp.st = 1 ∧ s.disp.slot + 1 < 2 * Cfg.dispComCount s ∧
      slotStart s (s.disp.slot + 1) ≤ s.clk then
      modDisp s fun d => { d with slot := d.slot + 1 }
    else s)

/-- The running row slot has negative polarity. -/
def slotNegative (s : State) : Bool :=
  decide (Cfg.dispComCount s ≤ s.disp.slot) != s.disp.negativeFirst

/-- VLCD has stayed outside ±5 % of its setting for 10 ms (R227). -/
def execVlcdFault (millivolt : Nat) (s : State) : Out :=
  .next (if s.disp.mode = 1 ∧ s.disp.st = 1 ∧
      vlcdSet s < 20 * ((millivolt : Int) - vlcdSet s).natAbs then
      modDisp s fun d => dispFlag dfVlcdFault true { d with vlcd := millivolt }
    else s)

/-! ### Bistable mode (R231–R233) -/

/-- Volt-seconds of the pulse of entry (a, b): an S16 in 0.1 ms at 15 V. -/
def pulseOf (s : State) (a b : Nat) : Int := if a = b then 0 else 15 * signed 16 (odEntry s a b)

/-- The extension of R233: the ledger's volt-seconds, at most BAL_MAX. -/
def balance (s : State) (l : Int) : Int := min (l.natAbs : Int) (150 * Cfg.dispBalMax s)

/-- The extreme whose polarity opposes the ledger: level 0 for a positive or empty ledger, else level 3
(log entry 100). -/
def extremeOf (l : Int) : Nat := if l < 0 then 3 else 0

/-- The two pulses of a transition routed through that extreme. -/
def routedPulses (s : State) (l : Int) (a b : Nat) : List Int :=
  let x := extremeOf l
  let dir : Int := if x = 3 then 1 else -1
  let p := pulseOf s a x + dir * balance s l
  if b = x then [p] else [p, pulseOf s x b]

/-- A transition is routed (R233). -/
def isRouted (s : State) (l : Int) (b : Nat) : Bool :=
  decide (Cfg.dispLedgerLimit s < l.natAbs) && (b == 1 || b == 2)

/-- The waveform of a segment in a round. -/
def waveOf (s : State) (g a b : Nat) : SegWave :=
  let l := ledgerOf s g
  let p := pulseOf s a b
  if isRouted s l b then ⟨g, a, b, routedPulses s l a b, false⟩
  else if (b = 0 ∨ b = 3) ∧ p * l < 0 then ⟨g, a, b, [p + sgn p * balance s l], false⟩
  else ⟨g, a, b, [p], false⟩

/-- Engine clocks that `u` units of 0.1 mV·s take at 15 V. -/
def unitClk (u : Nat) : Nat := (u * 8000 + 2) / 3

/-- What MRAM keeps of a bistable display: LEDGER, SHOWN, and the segments whose transition was cut off (R233, R236). -/
def dispStore (s : State) (cut : List (Nat × Nat × Nat)) : State :=
  mramWritten { s with mram := { s.mram with disp := { s.mram.disp with
      ledger := s.disp.ledger, shown := s.disp.shown, interrupted := cut, readable := true } } } 0x700E00 0x701000

/-- What a power loss or a suspension did to a round is recorded: 0 nothing, 1 completed it, 2 interrupted it (R236, R240). -/
def dispOutcome (s : State) (n : Nat) : State :=
  let s := modDisp s fun d => dispFlag dfInterrupted (n == 2) (dispFlag dfCompleted (n == 1) d)
  { s with mram := { s.mram with disp := { s.mram.disp with outcome := n } } }

/-- A round with these waveforms begins on this engine clock (R232). -/
def roundBegin (s : State) (waves : List SegWave) (routed replay : Bool) : State :=
  let len := waves.foldl (fun n w => max n (waveLen w)) 0
  let s := modDisp s fun d => dispFlag dfRouted routed { d with
    round := some ⟨s.clk, unitClk len, waves, replay⟩, rounds := d.rounds + 1, st := if replay then 5 else 2 }
  let s := if replay then modDisp s fun d => dispFlag dfReplayed true { d with replay := [] } else s
  sendMirror s (mirrorOfDisp s)

/-- An update round starts 10 ms after the first differing write, or at the end of the running round if that
is later (R232). -/
def execUpdateRoundStart (s : State) : Out :=
  .next (match s.disp.dirtySince with
    | none => s
    | some t =>
      if s.disp.mode = 2 ∧ s.disp.st = 1 ∧ after t (msecs 10) ≤ s.clk then
        let s := dispSync s
        let s := modDisp s fun d => { d with bandInUse := d.band }
        let gs := (upTo (Cfg.dispSegCount s)).filter fun g =>
          levelOf s.disp.shown 0 g != levelOf s.disp.pending 0 g
        let ws := gs.map fun g => waveOf s g (levelOf s.disp.shown 0 g) (levelOf s.disp.pending 0 g)
        let routed := gs.any fun g => isRouted s (ledgerOf s g) (levelOf s.disp.pending 0 g)
        roundBegin (modDisp s fun d => { d with shown := d.pending, dirtySince := none }) ws routed false
      else s)

/-- The longest waveform of the round ends (R232, R233). -/
def execUpdateRoundEnd (s : State) : Out :=
  .next (match s.disp.round with
    | none => s
    | some r =>
      if r.start + r.length ≤ s.clk then
        let s := roundLedgers s r (r.waves.foldl (fun n w => max n (waveLen w)) 0) fun _ => true
        let s := modDisp s fun d => { d with round := none, st := 1 }
        sendMirror (dispStore s []) (mirrorOfDisp s)
      else s)

/-- A write of 1 to LEDGER_RESET (R233): what the ledgers hold at this instant is gone. -/
def ledgerReset (s : State) : State :=
  let s := ledgerFollow (modDisp (ledgerSettle s) fun d => { d with ledger := [] })
  let s := { s with mram := { s.mram with disp := { s.mram.disp with ledger := [] } } }
  sendMirror s (mirrorOfDisp s)

/-! ### Pins (R227, R231, R416) -/

/-- The pins are high impedance. -/
def dispHiZ (s : State) : Bool :=
  s.disp.hiZ || match s.disp.hizAt with
    | some t => decide (t ≤ s.clk)
    | none => false

/-- The sign of the pulse that a waveform drives after `n` units; 0 once it has ended. -/
def pulseSign : Nat → List Int → Int
  | _, [] => 0
  | n, p :: t => if p.natAbs ≤ n then pulseSign (n - p.natAbs) t else sgn p

/-- The level of COMc. -/
def comPin (s : State) (c : Nat) : PinLevel :=
  if dispHiZ s then .hiZ
  else if s.disp.mode = 2 ∧ s.disp.st ≠ 0 then (if c = 0 then .volt 0 else .hiZ)
  else if s.disp.mode ≠ 1 ∨ s.disp.st ≠ 1 then .volt 0
  else
    let sel := decide (s.disp.slot % Cfg.dispComCount s = c)
    let w := if Cfg.dispBias s = 0 then 4 else 3
    let v := if sel then 12 else w
    .ofVlcd (if slotNegative s then 12 - v else v)

/-- The level of SEGg: in bistable mode +15 V, −15 V or 0 V by the pulse that its waveform drives. -/
def segPin (s : State) (g : Nat) : PinLevel :=
  if dispHiZ s then .hiZ
  else if s.disp.mode = 2 then
    (match s.disp.round with
     | some r => (match r.waves.find? fun w => w.seg == g with
       | some w => .volt (15 * pulseSign (roundUnits s r) w.pulses)
       | none => .volt 0)
     | none => .volt 0)
  else if s.disp.mode ≠ 1 ∨ s.disp.st ≠ 1 then .volt 0
  else
    let on := nth false (nth [] s.disp.latched (s.disp.slot % Cfg.dispComCount s)) g
    let v := if on then 0 else if Cfg.dispBias s = 0 then 8 else 6
    .ofVlcd (if slotNegative s then 12 - v else v)

/-! ### Band (R234) -/

/-- The band edge n, 1–3, as Q16 °C. -/
def dbandEdge (s : State) (n : Nat) : Int := q16 (cfgI s 0x9000 (6 + n))

/-- The band rises when the temperature reaches an edge. -/
def dbandUp (s : State) (t : Int) : Nat → Nat → Nat
  | 0, b => b
  | f + 1, b => if b < 3 ∧ dbandEdge s (b + 1) ≤ t then dbandUp s t f (b + 1) else b

/-- It falls when the temperature drops below an edge less 3 K. -/
def dbandDown (s : State) (t : Int) : Nat → Nat → Nat
  | 0, b => b
  | f + 1, b => if 0 < b ∧ t < dbandEdge s b - q16 3 then dbandDown s t f (b - 1) else b

/-- Mean value in use of TS0–TS3. -/
def lDieMean (s : State) : Int :=
  roundDiv ((getSensor s 0).value + (getSensor s 1).value + (getSensor s 2).value + (getSensor s 3).value) 4

/-- The band is evaluated every 1 s. -/
def execDisplayBandEval (s : State) : Out :=
  .next (if isUp s && due s s.disp.nextBand then
      let src := Cfg.dispTempSrc s
      let r := getRec s (src - 308)
      let named : Bool := decide (308 ≤ src) && decide (src ≤ 331)
      let bad : Bool := named && !recValid r
      let t := if named && !bad then r.value else lDieMean s
      modDisp s fun d => dispFlag dfTempSrcFault bad { d with
        nextBand := after s.clk (secs 1)
        band := dbandDown s t 3 (dbandUp s t 3 d.band) }
    else s)

/-! ### Start, interruption, modes (R235–R238) -/

/-- LEDGER, SHOWN and the interrupt records come back from MRAM. When they cannot be read, every ledger is 0,
SHOWN is all level 0 and every segment is to be driven with entry (3, 0). -/
def dispRestore (s : State) : State :=
  let r := s.mram.disp
  if r.readable then
    modDisp s fun d =>
      dispFlag dfInterrupted (r.outcome == 2) (dispFlag dfCompleted (r.outcome == 1) { d with
        ledger := r.ledger, shown := padTo 72 r.shown, replay := r.interrupted })
  else
    modDisp s fun d => dispFlag dfLedgerLost true { d with
      ledger := [], shown := List.replicate 72 0, replay := (upTo (Cfg.dispSegCount s)).map fun g => (g, 3, 0) }

/-- The waveform of an interrupted segment in the replay round (R235). With an empty ledger, (3, 0) is the
pulse of its entry alone. -/
def replayWave (s : State) (p : Nat × Nat × Nat) : SegWave :=
  ⟨p.1, p.2.1, p.2.2, routedPulses s (ledgerOf s p.1) p.2.1 p.2.2, false⟩

/-- The display starts in its mode with the records it holds (R235); while the D-die is shut down it is SUSPENDED (R237). -/
def dispBegin (s : State) : State :=
  let s := dispSync s
  let m := Cfg.dispDispMode s
  let off := decide (s.therm.dState ≠ 0)
  let s := ledgerFollow (modDisp s fun d => { d with
    mode := m, hiZ := false, hizAt := none, round := none, switchUntil := none, od := [], latched := [], moved := []
    bandInUse := d.band, vlcd := 0, st := if m = 0 then 0 else if off then 3 else 1 })
  if off then (if m = 2 then dispStore s s.disp.replay else s)
  else if m = 1 then
    let neg := s.mram.disp.half = some false
    frameBegin (modDisp s fun d => { d with shown := d.pending }) s.clk 0 neg
  else if m = 2 then
    let s := modDisp s fun d => { d with
      dirtySince := if d.pending = d.shown then none else d.dirtySince }
    if s.disp.replay = [] then sendMirror s (mirrorOfDisp s)
    else
      let routed := s.disp.replay.any fun p => p.2.2 != extremeOf (ledgerOf s p.1)
      roundBegin s (s.disp.replay.map (replayWave s)) routed true
  else s

/-- The display starts after output release, a mode change or a D-die restart: bistable mode restores its
records first (R235, R237, R238). -/
def dispStart (s : State) : State :=
  let s := dispSync s
  dispBegin (if Cfg.dispDispMode s = 2 then dispRestore s else s)

/-- A bistable round is cut off: LEDGER takes the elapsed volt-seconds, and the interrupted segments are recorded (R236). -/
def roundCut (s : State) (r : Round) : State :=
  let n := roundUnits s r
  let cut := (r.waves.filter fun w => decide (n < waveLen w)).map fun w => (w.seg, w.a, w.b)
  dispStore (roundLedgers s r n fun _ => true) cut

/-- The display stops with its pins at 0 V. A power loss or a suspension (`loss`) also records the polarity of the half frame it
interrupts, or what it did to a round (R236–R238). -/
def dispStop (s : State) (loss : Bool) : State :=
  let s :=
    if s.disp.mode = 1 ∧ s.disp.st = 1 then
      if loss then
        let s := dispOutcome s 0
        { s with mram := { s.mram with disp := { s.mram.disp with half := some (slotNegative s) } } }
      else s
    else if s.disp.mode ≠ 2 ∨ s.disp.st = 0 ∨ s.disp.st = 3 ∨ s.disp.st = 4 then s
    else
      match s.disp.round with
      | none => if loss then dispOutcome s 0 else s
      | some r =>
        let s := roundCut s r
        if loss then dispOutcome s 2 else s
  modDisp s fun d => dispFlag dfOverdrive false
    { d with round := none, st := 0, od := [], latched := [], moved := [], vlcd := 0 }

/-- The running round may complete at a power loss (R236). The pins of a paired module are high impedance 100 µs after the
trigger (R416). -/
def dispMayFinish (s : State) (weak : Bool) : Bool :=
  match s.disp.round with
  | none => false
  | some r => !weak && decide (r.start + r.length - s.clk ≤ if s.pair.en then min (usecs 100) (msecs (Cfg.dispFinishLimit s))
      else msecs (Cfg.dispFinishLimit s))

/-- The Bobbin save starts (R236). A round that may complete runs on to its end, and what it will leave is recorded. -/
def dispSave (s : State) (weak : Bool) : State :=
  match s.disp.round with
  | some r =>
    if dispMayFinish s weak then
      let s := roundLedgers s r (r.waves.foldl (fun n w => max n (waveLen w)) 0) fun _ => true
      let s := dispOutcome (dispStore s []) 1
      modDisp s fun d => { d with pending := d.shown, dirtySince := none }
    else dispStop s true
  | none => dispStop s true

/-- Shutdown of the D-die (R237). -/
def dispSuspend (s : State) : State :=
  if s.disp.st = 4 then s
  else
    let s := dispStop s true
    let s := modDisp s fun d => { d with st := 3, switchUntil := none }
    sendMirror s (mirrorOfDisp s)

/-- The module is a standby: the pins are high impedance (R237, R323). -/
def dispTristate (s : State) : State :=
  let s := dispStop s false
  modDisp s fun d => { d with st := 4, hiZ := true, switchUntil := none }

/-- COMMIT of the display group (R238): a change of DISP_MODE takes effect now, after 20 ms at 0 V; the rest at
the next frame or round start. -/
def dispCommit (s : State) : State :=
  if comN s 0x9000 1 ≠ Cfg.dispDispMode s ∧ s.disp.st ≠ 3 ∧ s.disp.st ≠ 4 ∧ released s then
    let s := dispTakeSet (dispStop s false)
    modDisp s fun d => { d with switchUntil := some (after s.clk (msecs 20)) }
  else if s.disp.st = 1 ∨ s.disp.st = 2 ∨ s.disp.st = 5 then s
  else dispTakeSet s

/-- The 20 ms at 0 V end and the new mode starts. -/
def execDispModeSwitchEnd (s : State) : Out :=
  .next (match s.disp.switchUntil with
    | none => s
    | some t => if t ≤ s.clk then dispStart s else s)

end Sys2Proof.Machine
end

