-- ==== Sys2Proof/Machine/Restart.lean ====
section
/-! DEFINITION. A restart of the module: what survives it (R39, R264, R325, R380, R406). -/

namespace Sys2Proof.Machine

/-- A copy that is being written when the module stops fails its CRC (R264). -/
def tearCopy (s : State) : State :=
  match s.dict.job with
  | none => s
  | some j =>
    let c := nth ⟨0, 0, false, false, []⟩ s.mram.copies j.copy
    { s with mram := { s.mram with
        copies := setNth s.mram.copies j.copy { c with intact := false, blank := false } } }

/-- The module is in reset: MRAM, the RTC domain and the engine clock's count go on, and so do the restart
counts, the LATCHED states of the dies and what a partner has received (R39, R366, R380; log entry 7). -/
def resetState (s : State) (cause : Nat) : State :=
  { State.reset with
    clk := s.clk, free := s.free, mram := s.mram, pending := s.pending
    cal := { now := s.cal.now, acc := s.cal.acc, st := s.cal.st }
    power := { resetN := s.power.resetN, resetLowAt := s.power.resetLowAt, nextCause := cause }
    therm := { dRestarts := s.therm.dRestarts, lRestarts := s.therm.lRestarts
               flags := (if s.therm.dState = 2 then 16 else 0) ||| if s.therm.lState = 2 then 32 else 0
               dState := if s.therm.dState = 2 then 2 else 0
               lState := if s.therm.lState = 2 then 2 else 0 }
    safety := { autoTimes := s.safety.autoTimes }
    pair := { sent := s.pair.sent } }

/-- A restart through the start-up sequence; `cause` is what RESET_CAUSE will record (R406). A reset gives the
role up (R325). -/
def restart (s : State) (cause : Nat) : State := resetState (tearCopy (pairGiveUp s)) cause

end Sys2Proof.Machine
end

