-- ==== Sys2Proof/Machine/Thermal.lean ====
section
/-! DEFINITION. Thermal management: sensors, rates of rise, throttling, shutdown and restart of the dies
(16_thermal). -/

namespace Sys2Proof.Machine

/-- Bits of THERM_FLAGS (R370). -/
def tfBroken : Nat := 0
def tfDisagree : Nat := 1
def tfThrottling : Nat := 2
def tfRiseSeen : Nat := 3
def tfDLatched : Nat := 4
def tfLLatched : Nat := 5

def thermFlag (i : Nat) (b : Bool) (s : State) : State :=
  { s with therm := { s.therm with flags := Flag.set s.therm.flags i b } }

/-- The neighbours of a sensor (R358). -/
def neighbours (i : Nat) : List Nat :=
  nth [] [[1, 2], [0, 3], [0, 3], [1, 2], [5, 8], [4, 6], [5, 7], [6, 9], [4, 9], [7, 8], [11], [10]] i

/-- The sensors of a rise group (R358). -/
def riseGroup (g : Nat) : List Nat := nth [] [[0, 1, 2, 3], [4, 5, 6, 7], [8, 9], [10, 11]] g

/-- The sensors of a die: 0 L-die, 1 D-die (log entry 97). -/
def dieSensors (die : Nat) : List Nat := if die = 0 then [0, 1, 2, 3] else [4, 5, 6, 7, 8, 9]

/-! ### Values in use (R360–R362) -/

/-- What an entry of OFF_ij is at reset: the factory value, in 1/1024 of a Q16 unit. -/
def offDefault : Nat → Int := fun k => Config.factoryOff (k / 12) (k % 12) * 1024

/-- OFF_ij in Q16 K. -/
def offOf (s : State) (i j : Nat) : Int := roundDiv (Table.getD offDefault s.therm.off (12 * i + j)) 1024

/-- A neighbour is valid when it is OK or SUSPECT, by its state at the start of the round. -/
def sensorValid (s : State) (j : Nat) : Bool := decide ((getSensor s j).st ≤ 1)

/-- What a sensor offers its neighbours before the round has judged it: RAW, or the value in use where it is
SUSPECT or BROKEN (DEDUCED, log entry 97). -/
def offered (s : State) : List Int :=
  (upTo 12).map fun j =>
    let t := getSensor s j
    if t.st = 1 ∨ t.st = 2 then t.value else t.raw

/-- PREDICTED of sensor i from two valid neighbours, and whether they agree within 4 K (R360). -/
def predict (s : State) (use : List Int) (i : Nat) : Option (Int × Bool) :=
  match (neighbours i).filter (sensorValid s) with
  | [j, k] =>
    let a := nth 0 use j + offOf s i j
    let b := nth 0 use k + offOf s i k
    some (roundDiv (a + b) 2, decide ((a - b).natAbs ≤ 4 * 65536))
  | _ => none

/-- The sensors that deviate by more than 12 K from neighbours that agree, with PREDICTED. -/
def deviants (s : State) (use : List Int) : List (Nat × Int) :=
  (upTo 12).filterMap fun i =>
    match predict s use i with
    | some (p, true) =>
      if (getSensor s i).st ≠ 2 ∧ 12 * 65536 < ((getSensor s i).raw - p).natAbs then some (i, p) else none
    | _ => none

/-- The deviants count with PREDICTED for their neighbours, a SUSPECT that deviates no more with RAW. -/
def useAfter (s : State) (use : List Int) (dev : List (Nat × Int)) : List Int :=
  (upTo 12).map fun j =>
    match dev.find? fun p => p.1 == j with
    | some p => p.2
    | none => if (getSensor s j).st = 1 then (getSensor s j).raw else nth 0 use j

/-- The deviants of the round: those found first, then those that the others' values show. -/
def roundDeviants (s : State) : List (Nat × Int) × List Int :=
  let use := offered s
  let d1 := deviants s use
  let u1 := useAfter s use d1
  let d2 := (deviants s u1).filter fun p => !d1.any fun q => q.1 == p.1
  (d1 ++ d2, useAfter s u1 (d1 ++ d2))

/-- One event-log record of a sensor's state (R361, R399). -/
def logSensor (s : State) (i st : Nat) : State := logEvent s 0x0E02 (bytes1 [i, st])

/-- The new state of one sensor (R361). A BROKEN sensor without PREDICTED gets its value afterwards. -/
def judge (dev : List (Nat × Int)) (use : List Int) (s0 s : State) (i : Nat) : State :=
  let t := getSensor s i
  let p := predict s0 use i
  let pv := match p with
    | some q => q.1
    | none => 0
  match dev.find? fun q => q.1 == i with
  | some q =>
    let n := if t.st = 1 then t.badRun + 1 else 1
    let s := modSensor s i fun t => { t with pred := q.2, value := q.2, badRun := n, goodRun := 0
                                             st := if n ≥ 3 then 2 else 1 }
    if n ≥ 3 then raiseAlarm (.tsBroken i) (logSensor s i 2) else s
  | none =>
    if t.st = 2 then
      match p with
      | none => modSensor s i fun t => { t with pred := 0, goodRun := 0 }
      | some q =>
        let n := if (t.raw - q.1).natAbs ≤ 4 * 65536 then t.goodRun + 1 else 0
        if n ≥ 300 then
          dropAlarm (.tsBroken i) (logSensor
            (modSensor s i fun t => { t with pred := q.1, value := t.raw, st := 0, goodRun := 0, badRun := 0 }) i 0)
        else modSensor s i fun t => { t with pred := q.1, value := q.1, goodRun := n }
    else
      let ok := match p with
        | some q => q.2
        | none => false
      modSensor s i fun t => { t with pred := if ok then pv else 0, value := t.raw, badRun := 0
                                      st := if ok then 0 else 3 }

/-- The sensors of the die that holds sensor i. -/
def dieOf (i : Nat) : List Nat := if i < 4 then dieSensors 0 else if i < 10 then dieSensors 1 else [10, 11]

/-- A BROKEN sensor with fewer than two valid neighbours takes the highest value in use among the valid sensors
of its die; with none it keeps its value (R361; log entry 97). -/
def brokenValue (s0 : State) (use : List Int) (s : State) (i : Nat) : State :=
  if (getSensor s i).st = 2 ∧ predict s0 use i = none then
    let v := ((dieOf i).filter (sensorValid s)).map fun j => (getSensor s j).value
    match v with
    | [] => s
    | x :: t => modSensor s i fun r => { r with value := t.foldl max x }
  else s

/-- OFF_ij follows in each round in which both sensors are OK (R360). -/
def followOff (s : State) (i j : Nat) : State :=
  if (getSensor s i).st = 0 ∧ (getSensor s j).st = 0 then
    let x := Table.getD offDefault s.therm.off (12 * i + j)
    let y := x + (getSensor s i).raw - (getSensor s j).value - roundDiv x 1024
    { s with therm := { s.therm with off := Table.set offDefault s.therm.off (12 * i + j) y } }
  else s

/-- What shutdown compares: the higher of RAW and the value in use while SUSPECT (R362). -/
def followCmp (s : State) (i : Nat) : State :=
  modSensor s i fun t =>
    let v := if t.st = 1 then max t.raw t.value else t.value
    { t with cmp := v, coolSince := if v < 130 * 65536 then some (t.coolSince.getD s.clk) else none }

/-- TS10 and TS11 differ by more than 12 K for 3 rounds (R361). -/
def followDisagree (s : State) : State :=
  let far := decide (12 * 65536 < ((getSensor s 10).raw - (getSensor s 11).raw).natAbs)
  let n := if far then s.therm.disagreeRun + 1 else 0
  thermFlag tfDisagree (decide (3 ≤ n)) { s with therm := { s.therm with disagreeRun := n } }

/-- Step 1 of a round: the value in use of each sensor. -/
def sensorsRound (s : State) : State :=
  let p := roundDeviants s
  let s0 := s
  let s := forAll (upTo 12) (judge p.1 p.2 s0) s
  let s := forAll (upTo 12) (brokenValue s0 p.2) s
  let s := forAll (upTo 12) (fun s i => forAll (neighbours i) (fun s j => followOff s i j) s) s
  let s := followDisagree (forAll (upTo 12) followCmp s)
  thermFlag tfBroken ((upTo 12).any fun i => (getSensor s i).st == 2) s

/-! ### Rate of rise (R363) -/

/-- The rise of a sensor over 100 rounds, which are 1 s; 0 until there are as many (log entry 97). -/
def followRise (s : State) (i : Nat) : State :=
  modSensor s i fun t =>
    { t with rise := if t.hist.length < 100 then 0 else t.value - nth 0 t.hist 99
             hist := (t.value :: t.hist).take 100 }

/-- The highest rise among the sensors of a group that are not BROKEN. -/
def groupRise (s : State) (g : Nat) : Option Int :=
  match ((riseGroup g).filter fun i => (getSensor s i).st != 2).map fun i => (getSensor s i).rise with
  | [] => none
  | x :: t => some (t.foldl max x)

/-- RISE_ACTIVE of a group. -/
def followGroup (s : State) (g : Nat) : State :=
  let lim := Cfg.riseRiseLimit s g
  let hot := g == 0 || (riseGroup g).any fun i => decide (q16 (Cfg.thermRiseFloor s) ≤ (getSensor s i).value)
  let r := (groupRise s g).getD 0
  if s.therm.riseActive.contains g then
    let n := if 2 * r ≤ lim then nth 0 s.therm.riseCalm g + 1 else 0
    { s with therm := { s.therm with
        riseCalm := setNth s.therm.riseCalm g (if n ≥ 500 then 0 else n)
        riseActive := if n ≥ 500 then s.therm.riseActive.filter fun x => x ≠ g else s.therm.riseActive } }
  else if lim < r && hot then
    let s := { s with therm := { s.therm with
      riseActive := s.therm.riseActive ++ [g], riseCalm := setNth s.therm.riseCalm g 0 } }
    let s := thermFlag tfRiseSeen true s
    if g = 0 then logSensor s 0x80 1 else s
  else s

/-! ### Shutdown (R365) -/

/-- A safety-relevant VLV or direct fan has a SAFE_STATE other than off (R374). -/
def dShutUnsafe (s : State) : Bool :=
  (upTo 20).any fun i => isRelevant s (288 + i) && Cfg.safeSafeState s (32 + i) != 0

/-- The D-die's stages go off: VLV low sides and bank switches, fan bridges, display bias and pump. -/
def dStagesOff (s : State) : State :=
  let s := forAll (upTo 16) vlvTakeUp s
  let s := forAll (upTo 4) bankRefresh s
  dispSuspend (forAll (upTo 4) fanStop s)

/-- LATCHED after three automatic restarts within 60 min (R366). -/
def shutState (s : State) (l : List Nat) : Nat := if (recent s (secs 3600) l).length ≥ 3 then 2 else 1

/-- The event-log record and the count of a shutdown (R365, R399). -/
def logShutdown (s : State) (die i : Nat) : State :=
  let s := logEvent s 0x0E01 (bytes1 [die, i, 0, 0] ++ leBytes 4 (unsigned 32 (getSensor s i).cmp))
  { s with mram := { s.mram with shutdowns := s.mram.shutdowns + 1 } }

/-- Shutdown of the D-die by sensor i; FAULT_SLOT captures it, with or without a dangerous failure (R391). -/
def shutdownD (s : State) (i : Nat) : State :=
  let n := shutState s s.therm.dRestarts
  let s := thermFlag tfDLatched (decide (n = 2)) (logShutdown s 1 i)
  let s := dStagesOff { s with therm := { s.therm with dState := n } }
  if dShutUnsafe s then safeDeviate (failModule s sfThermal) fun h => decide (288 ≤ h) && decide (h < 308)
  else snapFire s (Cfg.snapFaultSlot s) 3 0 false

/-- AO channels that the L-die shutdown leaves as from reset, which is not their safe state (R379). -/
def aoDeviate (s : State) : State :=
  forAll (upTo 8) (fun s a => modSafe s (76 + a) fun r => { r with deviated := true }) s

/-- Shutdown of the L-die by sensor i: the role is given up, a module failure is declared, and the cores and
engines halt with every output off. -/
def shutdownL (s : State) (i : Nat) : State :=
  let n := shutState s s.therm.lRestarts
  let s := thermFlag tfLLatched (decide (n = 2)) (logShutdown s 0 i)
  let s := { s with therm := { s.therm with lState := n } }
  let s := aoDeviate (safeDeviate (failModule s sfThermal) fun h => decide (h < 308))
  let s := flushLog (dispStop (forAll (upTo 4) fanStop s) true)
  let s := { s with power := { s.power with phase := .dieHold } }
  let s := modDisp s fun d => { d with switchUntil := none }
  let s := forAll (upTo 2) (fun s x => modCan s x fun c => { c with onBus := 0, lowPower := true }) s
  forAll (upTo 4) bankRefresh (applyAll s)

/-- The hottest sensor of a list, by what shutdown compares. -/
def hottest (s : State) : List Nat → Nat → Nat
  | [], i => i
  | j :: t, i => hottest s t (if (getSensor s i).cmp < (getSensor s j).cmp then j else i)

/-- Step 3 of a round. -/
def shutRound (s : State) : State :=
  let d := hottest s (dieSensors 1) 4
  let s := if s.therm.dState = 0 ∧ 165 * 65536 ≤ (getSensor s d).cmp then shutdownD s d else s
  let l := hottest s (dieSensors 0) 0
  if s.power.phase ≠ .dieHold ∧ 150 * 65536 ≤ (getSensor s l).cmp then shutdownL s l else s

/-! ### Throttling and bands (R182, R364) -/

/-- The step that a temperature gives, with 3 K of hysteresis at each edge. -/
def stepUp (edges : List Int) (t : Int) (n : Nat) : Nat :=
  let up := (edges.filter fun e => decide (e ≤ t)).length
  let keep := (edges.take n).filter fun e => decide (e - q16 3 ≤ t)
  max up keep.length

/-- The sensor that governs a domain. -/
def domainSensor (d : Nat) : Nat := 4 + d

/-- The temperature of a domain. -/
def domainTemp (s : State) (d : Nat) : Int :=
  if d ≥ 6 ∧ Flag.get s.therm.flags tfDisagree then max (getSensor s 10).value (getSensor s 11).value
  else (getSensor s (domainSensor d)).value

/-- The rise group of a domain. -/
def domainGroup (d : Nat) : Nat := if d < 4 then 1 else if d < 6 then 2 else 3

/-- The step of a domain: by its temperature, one more while its group rises too fast, 40 % at most. -/
def followStep (s : State) (d : Nat) : State :=
  let a := q16 (Cfg.thermThrottleStart s)
  let n := stepUp [a, a + q16 5, a + q16 10] (domainTemp s d) (nth 0 s.therm.tempSteps d)
  let m := min 3 (n + if s.therm.riseActive.contains (domainGroup d) then 1 else 0)
  let old := domainStep s d
  { s with therm := { s.therm with
      tempSteps := setNth s.therm.tempSteps d n
      steps := setNth s.therm.steps d m
      causes := if old < m then setNth s.therm.causes d (if m ≤ n then 1 else 2) else s.therm.causes } }

/-- The blocks follow a new step at once (R364); a step on a learning channel abandons its window (R177). -/
def stepsApply (s : State) : State :=
  let s := forAll (upTo 16) (fun s v => if vlvHeld s v then learnAbandon s v else s) s
  ioApplyAll (forAll (upTo 4) bankRefresh s)

/-- Step 4 of a round. -/
def stepsRound (s : State) : State :=
  let old := s.therm.steps
  let s := forAll (upTo 8) followStep s
  let s := thermFlag tfThrottling (s.therm.steps.any fun n => n != 0) s
  if old = s.therm.steps ∨ ¬ released s then s else stepsApply s

/-- The present band of each bank: 1 from BAND_EDGE1 up to BAND_EDGE2, 2 above it up to BAND_EDGE3, 3 above that (R182), with
the edges of the committed set (R184). -/
def bandsRound (s : State) : State :=
  forAll (upTo 4) (fun s b =>
    modBank s b fun k => { k with
      band := stepUp [q16 (comI s 0x7000 2), q16 (comI s 0x7000 3) + 1, q16 (comI s 0x7000 4) + 1]
        (getSensor s (4 + b)).value k.band }) s

/-! ### The round (R359) -/

/-- The thermal group takes the committed set at the next round (R369). -/
def thermSync (s : State) : State :=
  if s.dict.waiting.contains .thermal then
    syncDone .thermal (forAll [0xA010, 0xA011, 0xA012, 0xA013, 0xA030] takeObj s)
  else s

/-- After TS11 has been converted. -/
def execThermalEvaluation (s : State) : Out :=
  .next (if s.therm.roundDone then
      let s := thermSync { s with therm := { s.therm with roundDone := false } }
      let s := sensorsRound s
      let s := forAll (upTo 4) followGroup (forAll (upTo 12) followRise s)
      let s := shutRound s
      let s := bandsRound (stepsRound s)
      { s with therm := { s.therm with vrefCorr := Config.vrefCorr (lDieMean s) } }
    else s)

/-- Every sensor of the die has stayed below 130 °C for 10 s. -/
def dieCool (s : State) (die : Nat) : Bool :=
  (dieSensors die).all fun i =>
    match (getSensor s i).coolSince with
    | some t => passed s t (secs 10)
    | none => false

/-- A die leaves shutdown (R366): the D-die's stages take their owners' latest commands; the L-die starts up
again. -/
def execDieRestart (die : Nat) (s : State) : Out :=
  .next (if die = 1 then
      if s.therm.dState = 1 ∧ dieCool s 1 then
        let s := { s with therm := { s.therm with
          dState := 0, dRestarts := recent s (secs 3600) s.therm.dRestarts ++ [s.clk] } }
        let s := forAll (upTo 4) fanUpdate (vlvTakeUpAll s)
        if s.disp.st = 3 ∧ released s then
          (if isStandby s then dispTristate s else dispStart s) else s
      else s
    else if s.power.phase = .dieHold ∧ dieCool s 0 then
      let l := if s.therm.lState = 2 then s.therm.lRestarts
        else recent s (secs 3600) s.therm.lRestarts ++ [s.clk]
      restart { s with therm := { s.therm with lRestarts := l } } 8
    else s)

/-- THERM_CLEAR is refused while a sensor of a latched die reads 130 °C or above (R366). -/
def thermClearBad (s : State) : Bool :=
  (decide (s.therm.dState = 2) && (dieSensors 1).any fun i => decide (130 * 65536 ≤ (getSensor s i).cmp)) ||
    (decide (s.therm.lState = 2) && (dieSensors 0).any fun i => decide (130 * 65536 ≤ (getSensor s i).cmp))

/-- A write of 1 to THERM_CLEAR. A D-die that is still shut down may then restart by itself; a module held for
the L-die may release its outputs. -/
def thermClear (s : State) : State :=
  let brown := Flag.get s.power.flags 3
  let s := thermFlag tfLLatched false (thermFlag tfDLatched false s)
  { s with
    therm := { s.therm with
      dState := if s.therm.dState = 2 then 1 else s.therm.dState
      lState := if s.therm.lState = 2 then 0 else s.therm.lState
      dRestarts := [], lRestarts := [] }
    power := { s.power with
      phase := if s.power.phase = .held ∧ s.power.holdReason = 1 ∧ ¬ brown ∧ ¬ s.power.stepFailed then .operational else s.power.phase
      holdReason := if s.power.holdReason = 1 then (if brown then 2 else 0) else s.power.holdReason } }

end Sys2Proof.Machine
end

