-- ==== Sys2Proof/Machine/SafetyEvents.lean ====
section
/-! DEFINITION. The safety supervisor: its checks, watchdog, pins and releases (17_functional_safety). -/

namespace Sys2Proof.Machine

/-! ### Read-back (R375) -/

/-- The commanded state of a stage that is on or off: an IO output as R19 leaves it, a VLV whose card asks for current, a direct
fan in a step that drives its bridge. -/
def commandedOn (s : State) (h : Nat) : Bool :=
  if h < 288 then (getIo s (h - 256)).on
  else if h < 304 then
    decide (0 < (getVlv s (h - 288)).ref) && !vlvBlocked s (h - 288) && (getVlv s (h - 288)).st != .fault
  else decide (2 ≤ (getFan s (h - 304)).st) && decide ((getFan s (h - 304)).st ≤ 4)

/-- A read-back agrees with the commanded state: above 0 where the stage reads as on (pin voltage of an IO output, of a VLV in its
on-intervals; phase current of a direct fan); on an AO the output in V or mA, within 2 % of span (R375). -/
def readbackAgrees (s : State) (h : Nat) (r : Int) : Bool :=
  if h < 308 then decide (0 < r) == commandedOn s h
  else
    let span : Int := match Cfg.aoAoMode s (h - 332) with
      | 1 => 10
      | 2 => 24
      | _ => 0
    span == 0 || decide (((r - (getAo s (h - 332)).applied).natAbs : Int) * 50 ≤ span * 65536)

/-- The entries whose read-back disagrees. -/
def disagreeing (s : State) (readings : List (Nat × Int)) : List Nat :=
  (readings.filter fun p => !readbackAgrees s p.1 p.2).map fun p => p.1

/-- One safety-relevant output: the fourth consecutive disagreement is a failure of the channel, the eighth one
of the module; a VLV stuck on is cut off by its bank switch when BANK_CUTOFF is 1. -/
def readbackOne (disagree : List Nat) (s : State) (h : Nat) : State :=
  if ¬ isRelevant s h then s
  else if disagree.contains h then
    let s := modSafe s (safeChan h) fun r => { r with badRun := r.badRun + 1, okRun := 0 }
    let n := (getSafe s (safeChan h)).badRun
    if n = 4 then failChannels s sfOutput [h] 0xFFFF
    else if n = 8 then
      if 288 ≤ h ∧ h < 304 ∧ vlvCutOn s (h - 288) ∧ ¬ (getVlv s (h - 288)).conducting then vlvCutoff s (h - 288)
      else failModule s sfOutput
    else s
  else modSafe s (safeChan h) fun r => { r with badRun := 0, okRun := min 100 (r.okRun + 1) }

/-- Every 1 ms each safety-relevant output is compared with its read-back, given by heddle entry; one that is not given reads as
commanded (log entry 88). -/
def execReadbackCheck (readings : List (Nat × Int)) (s : State) : Out :=
  .next (if released s && due s s.safety.nextCheck then
      forAll outEntries (readbackOne (disagreeing s readings))
        { s with safety := { s.safety with nextCheck := after s.clk (msecs 1) } }
    else s)

/-! ### Firmware watchdog (R377) -/

/-- The firmware watchdog has expired: the supervisor stops the field watchdog refresh and applies the safe
states it has latched. -/
def watchdogFail (s : State) : State :=
  failModule { s with safety := { s.safety with watchdogBad := true } } sfWatchdog

/-- The four cores have passed their sequences in the running window. -/
def coresPassed (s : State) : Bool := (upTo 4).all fun c => s.safety.coresDone.contains c

/-- The running window of 10 ms is over. -/
def windowOver (s : State) : Bool := passed s s.safety.windowAt (msecs 10)

/-- The next window begins. -/
def windowNext (s : State) : State :=
  { s with safety := { s.safety with windowAt := after s.safety.windowAt (msecs 10), coresDone := [] } }

/-- A core passes a checkpoint: out of order it is a watchdog expiry, the last one completes the sequence. -/
def execCheckpoint (core : Nat) (inOrder last : Bool) (s : State) : Out :=
  .next (if s.safety.st = 0 ∨ s.safety.watchdogBad ∨ 4 ≤ core then s
    else
      let s := if windowOver s && coresPassed s then windowNext s else s
      if !inOrder then watchdogFail s
      else if last && !s.safety.coresDone.contains core then
        { s with safety := { s.safety with coresDone := s.safety.coresDone ++ [core] } }
      else s)

/-- The end of a window: the next one begins, or the watchdog has expired. -/
def execWatchdogExpiry (s : State) : Out :=
  .next (if s.safety.st = 0 ∨ s.safety.watchdogBad ∨ ¬ windowOver s then s
    else if coresPassed s then windowNext s
    else watchdogFail s)

/-! ### Pins and restarts (R380, R381) -/

/-- SAFE_A and SAFE_B toggle while the supervisor is HEALTHY or in CHANNEL_FAULT (R381). -/
def safeToggles (s : State) : Bool :=
  released s && !configBad s && (s.safety.st == 1 || s.safety.st == 2)

/-- Every 500 µs SAFE_A changes and SAFE_B is its complement. -/
def execSafeToggle (s : State) : Out :=
  .next (if safeToggles s && due s s.safety.nextToggle then
      { s with safety := { s.safety with
        safeA := !s.safety.safeA, safeB := s.safety.safeA, nextToggle := after s.safety.nextToggle (usecs 500) } }
    else s)

/-- The pins start with release, or when CONFIG_STATE leaves DIVERGENT or LOST after it. -/
def safePinsStart (s : State) : State :=
  let s := faultNFollow s
  if safeToggles s then
    { s with safety := { s.safety with safeA := true, safeB := false, nextToggle := after s.clk (usecs 500) } }
  else { s with safety := { s.safety with safeA := false, safeB := false } }

/-- 1 s after SAFE_STOP the module restarts itself, at most 3 times in 24 h. -/
def execAutoRestart (s : State) : Out :=
  let times := recent s (secs 86400) s.safety.autoTimes
  .next (if s.safety.st = 3 ∧ Cfg.safetyAutoRestart s ∧ passed s s.safety.stopAt (secs 1) ∧ times.length < 3 ∧
      (released s ∨ isUp s) then
      restart { s with safety := { s.safety with autoTimes := times ++ [s.clk] } } 7
    else s)

/-! ### Clearing (R380) -/

/-- The diagnostic latches of an output stage are clear. -/
def stageClear (s : State) (h : Nat) : Bool :=
  if h < 288 then !ioStageOff (getIo s (h - 256))
  else if h < 304 then !Flag.get (getVlv s (h - 288)).diag dLatched
  else if h < 308 then !Flag.get (getFan s (h - 304)).flags fanOcLatched
  else true

/-- An input has been valid and within tolerance for 1 s. -/
def inputGone (s : State) (code : Nat) : Bool :=
  if code < 288 then
    ioInState (getIo s (code - 256)) != 2 && passed s (getIo s (code - 256)).okSince (secs 1)
  else
    recValid (getRec s (code - 308)) && (getAi s (code - 308)).xSince.isNone &&
      passed s (getAi s (code - 308)).okSince (secs 1)

/-- No loop that has failed in computation still has LOOP_FAULT (R99, R380). -/
def loopsGone (s : State) : Bool := s.engine.loops.all fun p => !p.2.fault

/-- The cause of every channel-scope safe state is gone. -/
def causesGone (s : State) : Bool :=
  (s.safety.st != 3) && (!Flag.get s.safety.failures sfCompute || loopsGone s) &&
    (outEntries.all fun h =>
      !Flag.get (getSafe s (safeChan h)).causes sfOutput ||
        (decide (100 ≤ (getSafe s (safeChan h)).okRun || !isRelevant s h) && stageClear s h)) &&
    s.safety.inputs.all fun c => inputGone s c

/-- A write of 1 to SAFETY_CLEAR: every safe state is released, the loops that an input stopped run again, and
FAILURE_FLAGS is 0. -/
def safetyClear (s : State) : State :=
  let hs := outEntries.filter fun h => (getSafe s (safeChan h)).active
  let ls := (s.engine.loops.filter fun p => p.2.stopped && p.2.enabled).map fun p => p.1
  let s := { s with safety := { s.safety with
    failures := 0, inputs := [], st := if s.safety.st = 2 then 1 else s.safety.st } }
  let s := forAll hs (fun s h => modSafe s (safeChan h) fun r => { badRun := r.badRun, okRun := r.okRun }) s
  let s := forAll ls loopBegin s
  faultNFollow (forAll hs applyOut s)

/-! ### Commands (R380, R383–R385, R388) -/

/-- SAFETY_TEST is refused on the active module of a pair whose partner is not READY. -/
def safetyTestBad (s : State) : Bool :=
  s.pair.en && isActive s &&
    match s.pair.peer with
    | some p => p.pairState != 3
    | none => true

/-- SAFETY_LOCK is written: each change writes one event-log record. -/
def safetyLock (s : State) (v : Int) : State :=
  if committedVal s 0xB01001 = .num v then s
  else logEvent (writeRw s 0xB01001 (.num v)) 0x0F02 (bytes1 [if v = 1 then 1 else 2])

/-- The safety key is blank (R383). -/
def keyBlank (s : State) : Bool := (valBlob (committedVal s 0xB01002)).all fun b => b == 0#8

/-- SAFETY_PUBKEY is written. -/
def safetyPubkey (s : State) (l : List Byte) : State :=
  logEvent (writeRw s 0xB01002 (.bytes l)) 0x0F02 (bytes1 [0])

/-- A challenge expires 30 s after it was issued (R384). -/
def execChallengeExpiry (sess : Sess) (s : State) : Out :=
  .next (match (getSess s sess).chal with
    | some (_, t) => if t ≤ s.clk then modSess s sess fun r => { r with chal := none } else s
    | none => s)

/-- A read of SAFETY_CHALLENGE: 16 fresh random bytes bound to the session, valid for 30 s (R384). -/
def drawChallenge (s : State) (x : Sess) : List Byte × State :=
  let l := (upTo 16).map fun i => Config.randomByte (s.free + i)
  (l, modSess { s with free := s.free + 16 } x fun r => { r with chal := some (l, after s.clk (secs 30)) })

end Sys2Proof.Machine
end

