-- ==== Sys2Proof/Machine/PairEvents.lean ====
section
/-! DEFINITION. Selvedge: lanes and role lines, the role decision, mirroring, joining, takeover and the planned
switchover (14_selvedge_pair). -/

namespace Sys2Proof.Machine

def modPair (s : State) (f : Pair → Pair) : State := { s with pair := f s.pair }

/-! ### Lanes (R317) -/

def getSel (s : State) (lane : Nat) : SelLane := if lane = 0 then s.pair.lane0 else s.pair.lane1

def modSel (s : State) (lane : Nat) (f : SelLane → SelLane) : State :=
  if lane = 0 then modPair s fun p => { p with lane0 := f p.lane0 }
  else modPair s fun p => { p with lane1 := f p.lane1 }

/-- The module runs pair operation: PAIR_EN at start-up, and it has reached operational. -/
def pairOn (s : State) : Bool := s.pair.en && isUp s

/-- LANE_DEGRADED is set while one lane is down. -/
def laneFollow (s : State) : State := pairFlag s pfLaneDegraded (s.pair.lane0.up != s.pair.lane1.up)

/-- A frame of the link arrives: one that fails its CRC counts in SEL_ERRORS, a valid one keeps its lane up. -/
def linkFrame (s : State) (lane : Nat) (crcOk : Bool) : State :=
  if crcOk then modSel s lane fun l => { l with lastValid := s.clk }
  else modSel (modPair s fun p => { p with errors := p.errors + 1 }) lane fun l => { l with run := 0 }

/-- The partner's schema lets it be mirrored (R332, R333). -/
def peerNear (s : State) : Bool :=
  match s.pair.peer with
  | some p => schemaNear p.schema schemaVersion
  | none => false

/-! ### Roles (R319) -/

/-- Pair commands of circuits that drive PAIRED outputs leave the armed sets (R322). -/
def dropPairedArms (s : State) : State :=
  let keep := fun a : ArmedCmd => match a.kind with
    | .user _ => true
    | _ => a.heddle == 0xFFFF || isLocal s a.heddle
  let s := { s with loom := { s.loom with
    building := s.loom.building.filter keep, sealed_ := s.loom.sealed_.filter keep } }
  forAll (upTo 32) (fun s c =>
    if (getCirc s c).placed ∧ ¬ isLocal s (Cfg.circOutput s c) then modCirc s c fun r => { r with placed := false }
    else s) s

/-- The module is a standby: it joins when the link is up and the schemas are near (R333, R334). Its PAIRED
outputs take the standby state (R323). -/
def becomeStandby (s : State) : State :=
  let s := modPair s fun p => { p with
    role := 3, toggling := false, selRole := false, relinquished := false, deciding := none, switchAsked := false
    handing := none, peerGone := false, joinStep := 0
    st := if !p.linkUp then 5 else if peerNear s then 2 else 4 }
  dispTristate (applyAll (dropPairedArms s))

/-- The module becomes active by the decision of R319. -/
def becomeActive (s : State) (absent : Bool) : State :=
  let s := modPair s fun p => { p with
    role := 1, toggling := true, selRole := true, nextToggle := after s.clk (usecs 5), deciding := none
    st := if p.linkUp then p.st else 1 }
  if absent then pairFlag s pfPeerAbsent true else s

/-- Rules 1 and 2 of the role decision. -/
def roleDecide (s : State) : State :=
  if s.pair.deciding.isNone ∨ ¬ pairOn s then s
  else if s.pair.peerActive then becomeStandby s
  else
    match s.pair.peer with
    | some p =>
      if s.pair.linkUp ∧ p.deciding then
        if Cfg.netNodeId s < p.nodeId then becomeActive s false else becomeStandby s
      else s
    | none => s

/-- ROLE_DECISION_TIMEOUT (R319): 100 ms without a partner; the module is active alone. -/
def execRoleDecisionTimeout (s : State) : Out :=
  .next (match s.pair.deciding with
    | some t => if pairOn s ∧ passed s t (msecs 100) then becomeActive s true else s
    | none => s)

/-- The module with the higher NODE_ID of two active ones returns to standby (R320). -/
def dualFound (s : State) (node : Nat) : State :=
  let s := pairFlag s pfDualActive true
  if node < Cfg.netNodeId s then logRole (becomeStandby s) 1 3 true else logRole s 1 1 true

/-- The module is active and not handing its role over. -/
def activeAlone (s : State) : Bool := isActive s && s.pair.en && s.pair.handing.isNone

/-- DUAL_ACTIVE (R320): SEL_PEER has read PEER_ACTIVE for 20 µs on an active module. -/
def execDualActive (s : State) : Out :=
  .next (if activeAlone s ∧ s.pair.peerActive ∧ passed s s.pair.peerActiveSince (usecs 20) then
      dualFound s s.pair.peerNode
    else s)

/-- PEER_HEARTBEAT (R320): a CAN heartbeat with ROLE 1 from PEER_NODE. -/
def peerHeartbeat (s : State) (node role : Nat) : State :=
  if activeAlone s ∧ node = s.pair.peerNode ∧ role = 1 then dualFound s node else s

def execPeerHeartbeat (node role : Nat) (s : State) : Out := .next (peerHeartbeat s node role)

/-! ### Role lines (R318) -/

/-- SEL_ROLE_TOGGLE (R318): every 5 µs while the module is active. -/
def execSelRoleToggle (s : State) : Out :=
  .next (if s.pair.toggling && due s s.pair.nextToggle then
      modPair s fun p => { p with selRole := !p.selRole, nextToggle := after p.nextToggle (usecs 5) }
    else s)

/-- SEL_PEER_EDGE (R318): the fourth edge of a run with no gap above 20 µs makes SEL_PEER read PEER_ACTIVE. -/
def execSelPeerEdge (s : State) : Out :=
  let run := if s.pair.edgeRun = 0 ∨ after s.pair.lastEdge (usecs 20) < s.clk then 1 else min 4 (s.pair.edgeRun + 1)
  let s := modPair s fun p => { p with edgeRun := run, lastEdge := s.clk }
  .next (if run = 4 ∧ ¬ s.pair.peerActive then
      roleDecide (modPair s fun p => { p with peerActive := true, peerActiveSince := s.clk, peerGone := false })
    else s)

/-- A READY standby that sees an idle line while ALIVE frames report ROLE 1 sets ROLE_LINE_FAULT (R326). -/
def roleLineCheck (s : State) : State :=
  match s.pair.peer with
  | some p =>
    if s.pair.role = 2 ∧ ¬ s.pair.peerActive ∧ s.pair.linkUp ∧ ¬ s.pair.peerGone ∧ p.role = 1 then
      pairFlag s pfRoleLine true
    else s
  | none => s

/-- SEL_PEER_IDLE (R318): 100 µs without an edge. -/
def execSelPeerIdle (s : State) : Out :=
  .next (if s.pair.peerActive ∧ passed s s.pair.lastEdge (usecs 100) then
      roleLineCheck (modPair s fun p => { p with peerActive := false, edgeRun := 0 })
    else s)

/-! ### ALIVE frames (R317, R321, R332) -/

/-- What an ALIVE frame of the module holds. -/
def aliveInfo (s : State) : AliveInfo :=
  { role := roleShown s, pairState := s.pair.st, schema := schemaVersion, fw := fwVersion s, gen := s.dict.gen
    nodeId := Cfg.netNodeId s, warpCycle := s.warp.cycle, deciding := s.pair.deciding.isSome }

/-- ALIVE_TIMER (R317): every 50 µs each lane sends an ALIVE frame. -/
def execAliveTimer (s : State) : Out :=
  .next (if pairOn s && due s s.pair.nextAlive then
      modSel (modSel (modPair s fun p => { p with
        nextAlive := after s.clk (usecs 50)
        sent := { p.sent with alive := p.sent.alive + 1, info := some (aliveInfo s) } }) 0 laneSent) 1 laneSent
    else s)

/-- What the active module sends to a partner that joins, in the order of R334. -/
def joinParts (s : State) : List JoinPart × State :=
  let cfg := translate s (configOf s.dict.committed)
  let s := cfg.2
  let learned := (upTo 32).map (mirrorOfCirc s) ++ (upTo 64).map (mirrorOfZone s) ++ (upTo 16).map (mirrorOfVlv s)
  let profs := (s.mram.profiles.filter fun p => p.kind == 1 || p.kind == 2).map fun p =>
    MirrorItem.profile p.loop p.kind p.cycles p.bins p.values
  let loops := ((upTo 256).filter fun n => Cfg.loopEnable s n && !isLocalLoop s n).map (mirrorOfLoop s)
  let chans := (outEntries.filter fun h => !isLocal s h).map (mirrorOfChan s)
  ([.configuration s.dict.gen cfg.1, .learned learned, .profiles profs, .ledgers [mirrorOfDisp s],
    .mirror (loops ++ chans ++ [.calendar s.cal.now s.cal.st])], s)

/-- The active module answers a partner that has begun to join. -/
def sendJoin (s : State) : State :=
  if mirrors s then
    let p := joinParts s
    modPair p.2 fun q => p.1.foldl (fun r _ => frameOut r) { q with sent := { q.sent with joins := p.1 } }
  else s

/-- MIXED is set while the firmware of the two modules differs (R290, R332). -/
def mixedFollow (s : State) (info : AliveInfo) : State :=
  let mixed := decide (info.fw ≠ fwVersion s)
  { s with images := { s.images with
      mixed := mixed
      mixedSince := if !mixed then 0 else if s.images.mixed then s.images.mixedSince else s.cal.now
      peerFw := info.fw, peerSchema := info.schema } }

/-- The standby takes the cycle count of the active module (R35): it is adopted at the next cycle start when it
is larger, and an equal or adopted count is ALIGNED. Near a wrap of either phase nothing is compared. -/
def countFollow (s : State) (info : AliveInfo) : State :=
  let ph := warpNow s % 65536
  if isStandby s ∧ info.role = 1 ∧ phaseTrue s ∧ 16384 ≤ ph ∧ ph < 49152 then
    if s.warp.cycle < info.warpCycle then
      { s with warp := { s.warp with alignCount := some (info.warpCycle + 1) } }
    else if info.warpCycle = s.warp.cycle then { s with warp := { s.warp with align := 1 } }
    else { s with warp := { s.warp with align := 2 } }
  else s

/-- PAIR_STATE after an ALIVE frame: the standby starts to join a near partner, the active module reports its
standby's state (R333, R334). -/
def stateFollow (s : State) (info : AliveInfo) : State :=
  if isStandby s then
    if !peerNear s then modPair s fun p => { p with st := 4, role := 3, joinStep := 0 }
    else if s.pair.st = 4 ∨ s.pair.st = 5 then modPair s fun p => { p with st := 2, role := 3, joinStep := 0 }
    else s
  else if s.pair.role = 1 ∧ (info.role = 2 ∨ info.role = 3) then
    let old := s.pair.st
    let s := modPair s fun p => { p with st := info.pairState }
    if info.pairState = 2 ∧ old ≠ 2 then sendJoin s else s
  else s

/-- ALIVE (R317): a received ALIVE frame. -/
def execAlive (lane : Nat) (crcOk : Bool) (info : AliveInfo) (s : State) : Out :=
  .next (if ¬ pairOn s ∨ 2 ≤ lane then s
    else
      let s := linkFrame s lane crcOk
      if !crcOk then s
      else
        let s := modSel s lane fun l => { l with run := min 4 (l.run + 1), up := l.up || decide (3 ≤ l.run) }
        let s := laneFollow (modPair s fun p => { p with
          linkUp := p.linkUp || p.lane0.up || p.lane1.up, peer := some info })
        if s.pair.linkUp then roleLineCheck (roleDecide (countFollow (stateFollow (mixedFollow s info) info) info))
        else s)

/-- SELVEDGE_LANE_DOWN (R317): a lane without a valid frame for 200 µs. -/
def execSelvedgeLaneDown (lane : Nat) (s : State) : Out :=
  .next (if lane < 2 ∧ (getSel s lane).up ∧ passed s (getSel s lane).lastValid (usecs 200) then
      laneFollow (modSel s lane fun l => { l with up := false, run := 0 })
    else s)

/-- SELVEDGE_LINK_DOWN (R317): neither lane has delivered a valid frame for 1 ms. A standby keeps its role; one
that was joining starts again when the link returns (R334). -/
def execSelvedgeLinkDown (s : State) : Out :=
  .next (if s.pair.linkUp ∧ passed s s.pair.lane0.lastValid (msecs 1) ∧ passed s s.pair.lane1.lastValid (msecs 1) then
      let s := laneFollow (modSel (modSel s 0 fun l => { l with up := false, run := 0 }) 1
        fun l => { l with up := false, run := 0 })
      modPair s fun p => { p with linkUp := false, joinStep := 0, st := 5 }
    else s)

/-! ### MIRROR frames on the standby (R321) -/

/-- A stored profile of a loop taken over the link: kept in MRAM and used by the loop with the same tag. -/
def mirProfile (s : State) (n kind cycles bins : Nat) (values : List Int) : State :=
  let s := { s with mram := { s.mram with
    profiles := (s.mram.profiles.filter fun p => p.loop ≠ n) ++ [⟨n, kind, cycles, bins, values, s.cal.now⟩] } }
  modLoop s n fun l =>
    if l.rc.kind = kind ∧ l.rc.cycles = cycles ∧ l.rc.bins = bins then
      { l with rc := { l.rc with profile := values, saved := s.cal.now } }
    else l

/-- The image and ledgers of the active module; the segments of a round that runs there are replayed after a takeover (R235,
R237). -/
def mirDisplay (s : State) (shown : List Byte) (ledger : List Int) (running : List (Nat × Nat × Nat)) : State :=
  ledgerFollow (modDisp s fun d => { d with
    shown := padTo 72 shown, replay := running
    ledger := (upTo 48).foldl (fun t g => Table.set (blank 0) t g (nth 0 ledger g)) [] })

/-- The calendar of the active module: a step at the join, later a slew when the two differ by more than 5 ms, of at most
the 60 s that R42 lets SLEW_LEFT hold (log entry 82). A step leaves CAL_STATE as it is (R40). -/
def mirCalendar (s : State) (join : Bool) (now : Nat) : State :=
  let d : Int := (now : Int) - s.cal.now
  if join then { calStep s now with cal := { (calStep s now).cal with st := s.cal.st } }
  else if 327 < d.natAbs then
    calSlewAdd { s with cal := { s.cal with slewLeft := 0, slewAcc := 0 } } (max (-60 * 65536) (min (60 * 65536) d))
  else s

/-- One mirrored item. -/
def mirrorTake (join : Bool) (s : State) (i : MirrorItem) : State :=
  match i with
  | .loop n u ramp mode man act term =>
    modPair s fun p => { p with mirror := { p.mirror with
      loops := Table.set (blank {}) p.mirror.loops n ⟨u, ramp, mode, man, act, term⟩ } }
  | .channel h cmd st band =>
    modPair s fun p => { p with mirror := { p.mirror with
      channels := Table.set (blank {}) p.mirror.channels h ⟨cmd, st, band⟩ } }
  | .circuit c st ov l =>
    if c < 32 then
      setLearn (modCirc (setRw s (memKey (0x3200 + c) 12) (.num ov)) c fun r => { r with st := st }) c l
    else s
  | .zone z mode sp pre heat cool =>
    if z < 64 then
      modZone s z fun r => { r with
        mode := mode, sp := sp, prestartAt := pre, rates := some (heat, cool), dirtyAt := some (r.dirtyAt.getD s.clk) }
    else s
  | .jacquard v l t =>
    if v < 16 then
      modVlv s v fun c => { c with learned := l, learnedAt := t, learnDirty := some (c.learnDirty.getD s.clk) }
    else s
  | .profile n kind cycles bins values => mirProfile s n kind cycles bins values
  | .display shown ledger _ running => mirDisplay s shown ledger running
  | .calendar now _ => mirCalendar s join now
  | .log r => writeRec s { r with flags := r.flags ||| 1 }

/-- MIRROR (R321): a standby that has its configuration takes the items. -/
def execMirror (lane : Nat) (crcOk : Bool) (items : List MirrorItem) (s : State) : Out :=
  .next (if ¬ pairOn s ∨ 2 ≤ lane then s
    else
      let s := linkFrame s lane crcOk
      if crcOk && isStandby s && s.pair.linkUp && s.pair.st != 4 then
        forAll items (mirrorTake false) (modPair s fun p => { p with mirrorAt := some s.clk })
      else s)

/-! ### MIRROR_SEND (R321) -/

/-- A loop's item is due: at each sample, at most MIRROR_RATE, which 0 caps at 1 kHz. -/
def loopMirrorDue (s : State) (n : Nat) : Bool :=
  let rate := Cfg.mirrorMirrorRate s n
  let gap := clkPerSec / (if rate = 0 then 1000 else rate)
  match s.pair.loopSent.find? fun p => p.1 == n with
  | some p => passed s p.2 gap
  | none => true

/-- Send an item when it differs from the one sent last. -/
def sendChanged (s : State) (i : MirrorItem) : State :=
  if s.pair.sent.mirrors.any fun j => j.item == i then s else sendMirror s i

/-- Send a loop's item. -/
def sendLoop (s : State) (n : Nat) : State :=
  if Cfg.loopEnable s n && !isLocalLoop s n && loopMirrorDue s n then
    let s := sendMirror s (mirrorOfLoop s n)
    modPair s fun p => { p with loopSent := Table.put p.loopSent n s.clk }
  else s

/-- The items that are sent at each change: circuits, zones, learned holds, the display. -/
def sendChanges (s : State) : State :=
  forAll ((upTo 32).map (mirrorOfCirc s) ++ (upTo 64).map (mirrorOfZone s) ++ (upTo 16).map (mirrorOfVlv s) ++
    [mirrorOfDisp s]) sendChanged s

/-- MIRROR_SEND: the loops and channels of these heddle entries, what has changed, and every 1 s the calendar. -/
def execMirrorSend (heddles : List Nat) (s : State) : Out :=
  .next (if mirrors s then
      let s := forAll (heddles.filter fun h => decide (h < 256)) sendLoop s
      let s := forAll (heddles.filter fun h => isOutEntry h && !isLocal s h) (fun s h => sendMirror s (mirrorOfChan s h)) s
      let s := sendChanges s
      if due s s.pair.nextCal then
        modPair (sendMirror s (.calendar s.cal.now s.cal.st)) fun p => { p with nextCal := after s.clk (secs 1) }
      else s
    else s)

/-! ### RELINQUISH and takeover (R326–R328) -/

/-- RELINQUISH (R326): lets a READY standby take the active role once SEL_PEER reads idle. The partner no longer
reports ROLE 1 until its next ALIVE frame. -/
def execRelinquish (lane : Nat) (crcOk : Bool) (s : State) : Out :=
  .next (if ¬ pairOn s ∨ 2 ≤ lane then s
    else
      let s := linkFrame s lane crcOk
      if crcOk && isStandby s then
        modPair s fun p => { p with peerGone := true, peer := p.peer.map fun q => { q with role := 3 } }
      else s)

/-- A PAIRED loop goes on from its mirrored state: hand-over at its first sample with T the last mirrored u. -/
def takeLoop (s : State) (n : Nat) (m : MirLoop) : State :=
  let s := setRw (setRw s (memKey (0x4800 + n) 16) (.num m.mode)) (memKey (0x4800 + n) 17) (.num m.manOut)
  modLoop s n fun l => { l with
    hist := List.replicate (Cfg.coefSectionCount s n) ({} : Hist), due := none, out := m.u, handover := some m.u
    rampFromPv := false, spRamp := m.spRamp, target := m.spRamp, rampRem := 0, modeActive := m.modeActive
    lastPv := none, rc := { l.rc with term := m.rcTerm } }

/-- A circuit mirrored as closing or opening is completed from the mirrored command and teaches nothing. -/
def takeCircuit (s : State) (c : Nat) : State :=
  let r := getCirc s c
  if (r.st = 1 ∨ r.st = 3) ∧ r.trans.isNone then
    modCirc (transStart s c (decide (r.st = 1)) ⟨warpNow s, Cfg.circOutput s c, .close c, 0, false, false⟩) c fun r => { r with
      trans := r.trans.map fun t => { t with tainted := true } }
  else s

/-- The card of a channel starts at its MARKH entry, in the mirrored band, with no GRANT (R328). -/
def takeHold (s : State) (v band : Nat) : State :=
  let s := vlvBegin s v band
  bankRefresh (modVlv s v fun c => { c with
    st := .hold, pc := some (markhOf s v), holdEntry := markhOf s v, holdSince := s.clk }) (vlvBank v)

/-- A SWITCHED channel by its mirrored state (R328). -/
def takeValve (s : State) (v : Nat) (m : MirChan) : State :=
  let on := decide (vlvOwnerWord s v ≠ 0)
  let s := modVlv s v fun c => { c with cmdOn := on && m.vlvState != 0 && m.vlvState != 4, pulseEnd := none, pulseMs := none }
  if vlvBlocked s v || isSafe s (288 + v) then s
  else if (m.vlvState = 3 ∨ m.vlvState = 6) ∧ Cfg.holdTakeoverHold s v then takeHold s v m.band
  else if m.vlvState = 0 ∨ m.vlvState = 4 ∨ ¬ on then s
  else vlvStartAt s v s.clk

/-- A PAIRED output takes its owner's last mirrored command through R19. -/
def takeChannel (s : State) (h : Nat) (m : MirChan) : State :=
  let s := match ownerOf s h with
    | .dict =>
      let k := cmdMember s h
      setRw s (memKey k.1 k.2) (.num m.cmd)
    | _ => s
  let s := if 288 ≤ h ∧ h < 304 then vlvSyncMode s (h - 288) else s
  if 288 ≤ h ∧ h < 304 ∧ (getVlv s (h - 288)).mode = 1 then takeValve s (h - 288) m else applyOut s h

/-- The module takes the active role (R327): SEL_ROLE toggles, the switchover is counted, timed and logged. -/
def takeRole (s : State) (cause : Nat) : State :=
  let old := s.pair.role
  let stale : Bool := match s.pair.mirrorAt with
    | some t => decide (after t (secs 1) < s.clk)
    | none => true
  let s := { s with mram := { s.mram with switchovers := s.mram.switchovers + 1 } }
  let s := modPair s fun p => { p with
    role := 1, toggling := true, selRole := true, nextToggle := after s.clk (usecs 5), peerGone := false
    lastCause := cause, lastTime := clkToUs (s.clk - p.lastEdge), st := if p.linkUp then p.st else 5 }
  let s := pairFlag s pfStale stale
  let s := if cause = 3 then s else pairFlag s pfPeerFans true
  logRole s old 1 false

/-- Every PAIRED output is taken over from the mirror, and the display starts from the mirrored image. -/
def takeOutputs (s : State) : State :=
  let s := forAll (s.pair.mirror.loops.filter fun p => !isLocalLoop s p.1 && Cfg.loopEnable s p.1)
    (fun s p => takeLoop s p.1 p.2) s
  let s := forAll (upTo 32) takeCircuit s
  let s := forAll (outEntries.filter fun h => !isLocal s h)
    (fun s h => takeChannel s h (Table.getD (blank {}) s.pair.mirror.channels h)) s
  let s := { s with loom := { s.loom with sealedCycle := s.warp.cycle } }
  dispBegin s

/-- The partner has sent RELINQUISH while it still reports ROLE 1: a planned switchover (R330). -/
def plannedBy (s : State) : Bool :=
  s.pair.peerGone && s.pair.linkUp &&
    match s.pair.peer with
    | some p => p.role == 1
    | none => false

/-- TAKEOVER (R326, R327): a READY standby whose SEL_PEER reads PEER_IDLE, after a RELINQUISH or with the link
down. -/
def execTakeover (s : State) : Out :=
  .next (if pairOn s ∧ s.pair.role = 2 ∧ Cfg.pairTakeoverEn s ∧ ¬ s.pair.peerActive ∧
      (s.pair.peerGone ∨ ¬ s.pair.linkUp) then
      let planned := plannedBy s
      let s := takeOutputs (takeRole s (if planned then 3 else if s.pair.peerGone then 1 else 2))
      if planned then modPair s fun p => frameOut { p with sent := { p.sent with taken := p.sent.taken + 1 } } else s
    else s)

/-! ### Planned switchover (R330) -/

/-- SWITCHOVER is refused unless the module is active and its partner READY. -/
def switchoverBad (s : State) : Bool :=
  !activeAlone s || !s.pair.linkUp ||
    match s.pair.peer with
    | some p => p.pairState != 3
    | none => true

/-- A write of 1 to SWITCHOVER: a final MIRROR of every PAIRED loop and channel; the rest waits for the next
cycle start. -/
def switchover (s : State) : State :=
  let s := forAll ((upTo 256).filter fun n => Cfg.loopEnable s n && !isLocalLoop s n)
    (fun s n => sendMirror s (mirrorOfLoop s n)) s
  let s := forAll (outEntries.filter fun h => !isLocal s h) (fun s h => sendMirror s (mirrorOfChan s h)) s
  modPair s fun p => { p with switchAsked := true }

/-- The next cycle starts: SEL_ROLE stops and RELINQUISH goes out; the outputs are driven on. -/
def switchoverCycle (s : State) : State :=
  if s.pair.switchAsked ∧ activeAlone s then
    modPair s fun p => relinquishOut { p with
      switchAsked := false, toggling := false, selRole := false, handing := some s.clk }
  else s

/-- TAKEN (R330): the former active module turns its PAIRED outputs off and joins as standby. -/
def execTaken (lane : Nat) (crcOk : Bool) (s : State) : Out :=
  .next (if ¬ pairOn s ∨ 2 ≤ lane then s
    else
      let s := linkFrame s lane crcOk
      if crcOk ∧ s.pair.handing.isSome then becomeStandby s else s)

/-- TAKEN_TIMEOUT (R330): no TAKEN 5 ms after RELINQUISH. -/
def execTakenTimeout (s : State) : Out :=
  .next (match s.pair.handing with
    | some t =>
      if passed s t (msecs 5) then
        if s.pair.peerActive then becomeStandby s
        else
          logRole (modPair s fun p => { p with
            handing := none, toggling := true, selRole := true, nextToggle := after s.clk (usecs 5) }) 1 1 false
      else s
    | none => s)

/-! ### FORCE_TAKEOVER (R333) -/

/-- FORCE_TAKEOVER is refused on a module that is no standby, and while SEL_PEER reads PEER_ACTIVE. -/
def forceBad (s : State) : Bool := !isStandby s || s.pair.peerActive

/-- A write of 1 to FORCE_TAKEOVER: active on its own configuration, loops with zero history (R104). -/
def forceTakeover (s : State) : State :=
  let s := takeRole s 4
  let s := forAll ((upTo 256).filter fun n => Cfg.loopEnable s n && !isLocalLoop s n) loopBegin s
  dispStart (applyAll { s with loom := { s.loom with sealedCycle := s.warp.cycle } })

/-! ### JOIN and CONFIG (R324, R334) -/

/-- Members that name the module itself stay its own: NODE_ID and PEER_NODE (log entry 29). -/
def ownKeys : List Nat := [0x103101, 0xC00003]

/-- Members of the partner's configuration without the module's own. -/
def foreign (l : List (Nat × Val)) : List (Nat × Val) := l.filter fun p => !ownKeys.contains p.1

/-- The module's own members as the configuration holds them. -/
def ownMembers (s : State) : List (Nat × Val) := ownKeys.map fun k => (k, committedVal s k)

/-- The keys in which two configurations differ. -/
def diffKeys (a b : Table Val) : List Nat :=
  ((a.map fun p => p.1) ++ b.map fun p => p.1).eraseDups.filter fun k => Table.getD dfltOf a k != Table.getD dfltOf b k

/-- The copies of a configuration that the partner has sent begin to be written. -/
def partnerJob (s : State) (gen : Nat) (content : Table Val) : State :=
  startJob s ⟨gen, content, diffKeys (baseContent s) content, 3, .partner, 0⟩

/-- CONFIG (R324): the standby applies a forwarded change and writes its own copies, at the same generation. -/
def execConfig (lane : Nat) (crcOk : Bool) (gen : Nat) (changes : List (Nat × Val)) (s : State) : Out :=
  .next (if ¬ pairOn s ∨ 2 ≤ lane then s
    else
      let s := linkFrame s lane crcOk
      if crcOk && isStandby s && s.pair.linkUp && (s.pair.st == 3 || s.pair.joinStep != 0) then
        let s := partnerJob s gen (overlay (baseContent s) (foreign changes))
        modPair s fun p => frameOut { p with sent := { p.sent with acks := p.sent.acks + 1 } }
      else s)

/-- Which of the five parts a JOIN frame holds. -/
def partIndex : JoinPart → Nat
  | .configuration .. => 0
  | .learned _ => 1
  | .profiles _ => 2
  | .ledgers _ => 3
  | .mirror _ => 4

/-- A part takes effect. -/
def partTake (s : State) (part : JoinPart) : State :=
  match part with
  | .configuration gen cfg => partnerJob s gen (overlay (overlay [] (foreign cfg)) (ownMembers s))
  | .learned l => forAll l (mirrorTake true) s
  | .profiles l => forAll l (mirrorTake true) s
  | .ledgers l => forAll l (mirrorTake true) s
  | .mirror l =>
    let s := forAll l (mirrorTake true) (modPair s fun p => { p with mirrorAt := some s.clk })
    modPair s fun p => { p with role := 2, st := 3, joinStep := 0 }

/-- JOIN (R334): the parts in order; after the last the standby is READY. -/
def execJoin (lane : Nat) (crcOk : Bool) (part : JoinPart) (s : State) : Out :=
  .next (if ¬ pairOn s ∨ 2 ≤ lane then s
    else
      let s := linkFrame s lane crcOk
      if crcOk ∧ isStandby s ∧ s.pair.linkUp ∧ s.pair.st = 2 ∧ partIndex part = s.pair.joinStep then
        partTake (modPair s fun p => { p with joinStep := p.joinStep + 1 }) part
      else s)

end Sys2Proof.Machine
end

