-- ==== Sys2Proof/Machine/SnapEvents.lean ====
section
/-! DEFINITION. Snapshots and the log: the events of the trigger sources, the mover and the log queue
(18_snapshot_and_log). -/

namespace Sys2Proof.Machine

/-- The module takes a trigger frame with this destination (R393). -/
def trigDest (s : State) (dest : Nat) : Bool :=
  dest == 0 || dest == Cfg.netNodeId s || (s.pair.en && isActive s && dest == s.pair.pairId)

/-- A CAN trigger frame (R393, R397): KIND 0 captures now, KIND 1 writes WHEN to ARM_AT. -/
def trigFrame (s : State) (x dest source : Nat) (data : List Byte) : State :=
  let slot := (nth 0#8 data 0).toNat
  let kind := (nth 0#8 data 1).toNat
  if (Cfg.snapCanTrigEn s).testBit x && trigDest s dest && isUp s && canHears (getCan s x) && decide (slot ≤ 15) then
    if kind = 0 ∧ 2 ≤ data.length then snapFire s slot 1 source false
    else if kind = 1 ∧ data.length = 12 then snapArm s slot (leNat ((data.drop 2).take 8))
    else s
  else s

/-- CAN_TRIGGER_FRAME (R393). -/
def execCanTriggerFrame (x dest source : Nat) (data : List Byte) (s : State) : Out :=
  .next (if x < 2 then trigFrame s x dest source data else s)

/-- TRIG_IN_EDGE (R391): an edge that TRIG_IN_MODE selects. -/
def execTrigInEdge (rising : Bool) (s : State) : Out :=
  let m := Cfg.snapTrigInMode s
  .next (if isUp s && (m == 3 || (m == 1 && rising) || (m == 2 && !rising)) then
      snapFire s (Cfg.snapTrigInSlot s) 2 0 false
    else s)

/-- ARM_AT_REACHED (R391): Warp has reached the ARM_AT of a slot. -/
def armReached (s : State) (slot : Nat) (late : Bool) : State :=
  snapFire (modSlot s slot fun r => { r with armed := false, st := if r.st = 1 then 0 else r.st }) slot 5 0 late

def execArmAtReached (slot : Nat) (s : State) : Out :=
  let r := getSlot s slot
  .next (if slot < 16 ∧ r.armed ∧ r.armAt ≤ warpNow s then armReached s slot false else s)

/-- A trigger that waited for the copy is captured now (R392). -/
def snapLater (s : State) (t : SnapTrig) : State :=
  if (getSlot s t.slot).st = 2 then snapMerge s t.slot t.source t.detail
  else snapCapture s t.slot t.source t.at_ t.detail true t.late t.merged

/-- CAPTURE_COPY_COMPLETE (R392): the slots of the latch are FULL, and the triggers that came during the copy
are captured. -/
def execCaptureCopyComplete (s : State) : Out :=
  .next (if snapCopying s then
      let s := forAll (upTo 16) (fun s k => if (getSlot s k).st = 2 then modSlot s k fun r => { r with st := 3 } else s) s
      let l := s.snap.delayed
      forAll l snapLater { s with snap := { s.snap with delayed := [] } }
    else s)

/-- TRIG_OUT_END (R394): the pulse has lasted 10 µs. -/
def execTrigOutEnd (s : State) : Out :=
  .next (if s.snap.trigOut && due s s.snap.trigOutUntil then { s with snap := { s.snap with trigOut := false } } else s)

/-- LOG_WRITE (R400): the oldest queued record goes to its ring position, to the event queues and to the
partner. -/
def execLogWrite (s : State) : Out :=
  .next (match s.snap.queue with
    | [] => s
    | r :: q => sendMirror (writeRec { s with snap := { s.snap with queue := q } } r) (.log r))

end Sys2Proof.Machine
end

