-- ==== Sys2Proof/Machine/CanCmds.lean ====
section
/-! DEFINITION. The CAN commands that are dictionary writes, and what a received frame does to its controller
(13_can_fd). -/

namespace Sys2Proof.Machine

/-! ### TX_FRAME and TX_CANCEL (R304, R305) -/

/-- The identifier word of a TX_FRAME, and its LEN. -/
def txIdWord (l : List Byte) : Nat := leNat (l.take 4)

def txLen (l : List Byte) : Nat := (nth 0#8 l 4).toNat

/-- The frame that a TX_FRAME spells: a standard identifier stands in bits 10 to 0 (R301). -/
def txFrameOf (l : List Byte) : CanFrame :=
  let w := txIdWord l
  { id := if w.testBit 29 then w % 2 ^ 29 else w % 2 ^ 11, ide := w.testBit 29, fdf := w.testBit 30, brs := w.testBit 31, rtr := false, esi := false
    data := (l.drop 8).take (txLen l), len := txLen l }

/-- RANGE of a TX_FRAME. -/
def txRangeBad (l : List Byte) : Bool :=
  let w := txIdWord l
  decide (l.length ≠ 8 + txLen l) || !isCanLen (txLen l) || (decide (8 < txLen l) && !w.testBit 30) ||
    (w.testBit 31 && !w.testBit 30) || ((l.drop 5).take 3).any fun b => b != 0#8

/-- The abort code of a TX_FRAME. -/
def txFrameCode (s : State) (x : Nat) (l : List Byte) : Nat :=
  firstCode [codeIf (txRangeBad l) Ab.range,
    codeIf (((txIdWord l).testBit 30 && !canFdEn s x) || canOpMode s x != 1) Ab.state,
    codeIf (decide (32 ≤ (getCan s x).fifo.length)) Ab.storage]

/-- A local wake (R310). -/
def canLocalWakeUp (s : State) (x : Nat) : State := if (getCan s x).st = 8 then canWake s x 4 else s

/-- TX_FRAME is accepted: queued, its handle given to the session; in SLEEP it may wake the controller. -/
def txFrameOp (s : State) (sess : Sess) (x : Nat) (l : List Byte) : State :=
  let h := (getCan s x).nextHandle
  let s := modCan s x fun c => { c with nextHandle := if h = 65535 then 1 else h + 1 }
  let s := modSess s sess fun r => { r with handles := Table.set (blank 0) r.handles x h }
  let s := canQueue s x ⟨h, .user, txFrameOf l⟩
  if canLocalWake s x then canLocalWakeUp s x else s

/-- TX_CANCEL (R305). -/
def txCancelOp (s : State) (sess : Sess) (x h : Nat) : State :=
  let c := getCan s x
  let res := fun (s : State) (n : Nat) => modSess s sess fun r => { r with cancels := Table.set (blank 0) r.cancels x n }
  let mine := fun i : TxItem => i.kind == .user && i.handle == h
  if c.fifo.any mine then
    if c.onBus = 2 ∧ (c.fifo.head?).any mine then res (modCan s x fun c => { c with cancelled := true }) 1
    else
      let n : Nat := ((c.fifo.take c.sleepUpTo).filter mine).length
      res (modCan s x fun c => { c with fifo := c.fifo.filter fun i => !mine i, sleepUpTo := c.sleepUpTo - n }) 0
  else res s 2

/-! ### RECOVER and SLEEP_REQ (R308, R310) -/

/-- RECOVER is refused in any state but a manual hold-off. -/
def recoverBad (s : State) (x : Nat) : Bool := !((getCan s x).st == 4 && canBusoffManual s x)

/-- A write of 1 to RECOVER ends the hold-off. -/
def recoverOp (s : State) (x : Nat) : State := canSetState s x 5

/-- A write of 1 to SLEEP_REQ is refused unless the controller is ERROR_ACTIVE or ERROR_PASSIVE. -/
def sleepBad (s : State) (x : Nat) (v : Int) : Bool :=
  v == 1 && !((getCan s x).st == 2 || (getCan s x).st == 3)

/-- SLEEP_REQ: 1 asks for sleep once the frames queued up to the write, its response among them, are sent; 0 wakes.
`extra` is 1 when the response is still to be queued on this controller. -/
def sleepOp (s : State) (x : Nat) (v : Int) (extra : Nat) : State :=
  let s := setRw s (memKey (0x1100 + x) 33) (.num v)
  if v = 1 then modCan s x fun c => { c with sleepFrom := some s.clk, sleepUpTo := c.fifo.length + extra }
  else canLocalWakeUp (modCan s x fun c => { c with sleepFrom := none, sleepUpTo := 0 }) x

/-! ### Received frames (R297, R298, R307, R309) -/

/-- A candidate of RATE_DETECT has matched: the timing is kept, or committed with OP_MODE 1 as a new generation.
A standby, a module in DIVERGENT or LOST and one without a generation left cannot commit it (R255, R266, R324) and stay in
listen-only. -/
def abdMatched (s : State) (x : Nat) : State :=
  let i := (getCan s x).abdIndex
  let s := modCan s x fun c => canFlag canAbdFound true { c with abdResult := i }
  let s := canSetState s x 6
  if canAutoJoin s x && !isStandby s && !configBad s && decide (nextGen s ≤ 0xFFFFFFFF) then
    let ch := [(memKey (0x1100 + x) 2, Val.num (Cfg.canAbdNbt s x i)), (memKey (0x1100 + x) 3, Val.num (Cfg.canAbdDbt s x i)),
      (memKey (0x1100 + x) 1, Val.num 1)]
    startJob s ⟨nextGen s, overlay (baseContent s) ch, ch.map fun p => p.1, 2, .rw, 0⟩
  else s

/-- REC after a frame received without error: one less, or a value between 119 and 127 when it exceeded 127, which
ISO 11898-1 leaves free. -/
def recAfter (s : State) (x : Nat) : State :=
  let r := (getCan s x).rec_
  if r ≤ 127 then modCan s x fun c => { c with rec_ := r - 1 }
  else
    let p := takeFree s
    modCan p.2 x fun c => { c with rec_ := 119 + p.1 % 9 }

/-- What a received frame does to its controller: an attempt of its own has lost arbitration, the counters, NO_PEER,
the rate detection. -/
def canReceived (s : State) (x : Nat) (f : CanFrame) : State :=
  let s := modCan s x fun c =>
    let c := if c.onBus = 0 then c else canAttemptFailed c
    canFlag canNoPeer false { c with rxFrames := c.rxFrames + 1, rtr := c.rtr + (if f.rtr then 1 else 0), ackRun := 0 }
  let c := getCan s x
  if c.st = 7 then
    let s := modCan s x fun c => { c with abdGood := c.abdGood + 1 }
    if (getCan s x).abdGood = 2 then abdMatched s x else s
  else if c.st = 6 then s
  else canFollow (recAfter s x) x

end Sys2Proof.Machine
end

