-- ==== Sys2Proof/Machine/Crypto.lean ====
section
/-! DEFINITION. SHA-256 and ECDSA P-256, the two algorithms that R285, R383 and R384 name (FIPS 180-4 and FIPS 186;
PRESUMED, log entry 9). -/

namespace Sys2Proof.Machine

/-! ### SHA-256 -/

/-- The largest `b`-bit number whose k-th power is at most `n`, found from its highest bit down; `r` is what is
found so far. -/
def rootFloor (k n : Nat) : Nat → Nat → Nat
  | 0, r => r
  | b + 1, r => rootFloor k n b (if (r + 2 ^ b) ^ k ≤ n then r + 2 ^ b else r)

/-- The primes below 312: the first 64. -/
def shaPrimes : List Nat :=
  (List.range 312).filter fun n => decide (2 ≤ n) && (List.range n).all fun d => d < 2 || n % d != 0

/-- The first 32 bits of the fraction of the k-th root of `p`. -/
def rootFraction (k p : Nat) : BitVec 32 := BitVec.ofNat 32 (rootFloor k (p * 2 ^ (32 * k)) 40 0)

/-- The chaining value: eight words with the names FIPS 180-4 gives them. -/
structure ShaRegs where
  a : BitVec 32
  b : BitVec 32
  c : BitVec 32
  d : BitVec 32
  e : BitVec 32
  f : BitVec 32
  g : BitVec 32
  h : BitVec 32
  deriving DecidableEq, Repr

/-- Eight words taken from a function of their place. -/
def ShaRegs.build (w : Nat → BitVec 32) : ShaRegs := ⟨w 0, w 1, w 2, w 3, w 4, w 5, w 6, w 7⟩

/-- Word by word sum of two chaining values. -/
def ShaRegs.sum (x y : ShaRegs) : ShaRegs :=
  ⟨x.a + y.a, x.b + y.b, x.c + y.c, x.d + y.d, x.e + y.e, x.f + y.f, x.g + y.g, x.h + y.h⟩

/-- The eight words as one number, `a` highest. -/
def ShaRegs.number (x : ShaRegs) : Nat :=
  (x.a ++ x.b ++ x.c ++ x.d ++ x.e ++ x.f ++ x.g ++ x.h).toNat

/-- The value before the first block: fractions of square roots of the first eight primes. -/
def shaStart : ShaRegs := .build fun i => rootFraction 2 (nth 0 shaPrimes i)

/-- A word rotated right by `i` and by `j`, with a third word, added without carry. -/
def rotSum (x : BitVec 32) (i j : Nat) (third : BitVec 32) : BitVec 32 := x.rotateRight i ^^^ x.rotateRight j ^^^ third

/-- The word that enters the 16 words `w`, oldest first. -/
def shaExpand (w : List (BitVec 32)) : BitVec 32 :=
  let at' := nth 0#32 w
  rotSum (at' 14) 17 19 (at' 14 >>> 10) + at' 9 + rotSum (at' 1) 7 18 (at' 1 >>> 3) + at' 0

/-- What a round adds to `d` and to the new `a`, from its word and its constant. -/
def shaAdded (x : ShaRegs) (w k : BitVec 32) : BitVec 32 :=
  k + w + x.h + (x.g ^^^ (x.e &&& (x.f ^^^ x.g))) + rotSum x.e 6 11 (x.e.rotateRight 25)

/-- One round on the chaining value and the 16 words in waiting: the oldest word is used and the next one enters. -/
def shaTurn (st : ShaRegs × List (BitVec 32)) (k : BitVec 32) : ShaRegs × List (BitVec 32) :=
  let x := st.1
  let add := shaAdded x (nth 0#32 st.2 0) k
  let major := (x.a &&& (x.b ||| x.c)) ||| (x.b &&& x.c)
  ({ a := add + rotSum x.a 2 13 (x.a.rotateRight 22) + major, b := x.a, c := x.b, d := x.c
     e := x.d + add, f := x.e, g := x.f, h := x.g }, st.2.drop 1 ++ [shaExpand st.2])

/-- The padded message as one number of `512 * n` bits: the message, a one, zeros, and its length in bits in 64 bits;
`n` is the number of blocks. -/
def shaPadded (m : List Byte) (n : Nat) : Nat :=
  (2 * beNat m + 1) * 2 ^ (512 * n - 8 * m.length - 1) + 8 * m.length

/-- Word `i` of block `j` in a padded message of `n` blocks. -/
def shaWordAt (padded n j i : Nat) : BitVec 32 := BitVec.ofNat 32 (padded / 2 ^ (512 * n - 512 * j - 32 * (i + 1)))

/-- The SHA-256 digest as a number, most significant byte first. -/
def sha256 (m : List Byte) : Nat :=
  let n := (m.length + 72) / 64
  let padded := shaPadded m n
  let consts := shaPrimes.map (rootFraction 3)
  ((List.range n).foldl (fun x j =>
    x.sum (consts.foldl shaTurn (x, (List.range 16).map (shaWordAt padded n j))).1) shaStart).number

/-! ### P-256 -/

def p256P : Nat := 0xffffffff00000001000000000000000000000000ffffffffffffffffffffffff
def p256N : Nat := 0xffffffff00000000ffffffffffffffffbce6faada7179e84f3b9cac2fc632551
def p256B : Nat := 0x5ac635d8aa3a93e7b3ebbd55769886bc651d06b0cc53b0f63bce3c3e27d2604b
def p256Gx : Nat := 0x6b17d1f2e12c4247f8bce6e563a440f277037d812deb33a0f4a13945d898c296
def p256Gy : Nat := 0x4fe342e2fe1a7f9b8ee7eb4a7c0f9e162bce33576b315ececbb6406837bf51f5

/-- b ^ e modulo m by squaring, over `n` bits of e. -/
def powMod (m : Nat) : Nat → Nat → Nat → Nat
  | 0, _, _ => 1 % m
  | n + 1, b, e =>
    let r := powMod m n (b * b % m) (e / 2)
    if e % 2 = 1 then r * b % m else r

/-- The inverse modulo a prime. -/
def invMod (m a : Nat) : Nat := powMod m 256 (a % m) (m - 2)

/-- A point; `none` is the point at infinity. -/
abbrev EcPoint := Option (Nat × Nat)

/-- a − b modulo p. -/
def subP (a b : Nat) : Nat := (a + p256P - b % p256P) % p256P

/-- The sum of two points. -/
def ecAdd (p q : EcPoint) : EcPoint :=
  match p, q with
  | none, q => q
  | p, none => p
  | some (x1, y1), some (x2, y2) =>
    if x1 = x2 ∧ (y1 + y2) % p256P = 0 then none
    else
      let l := if x1 = x2 then (3 * x1 * x1 + p256P - 3) * invMod p256P (2 * y1) % p256P
        else subP y2 y1 * invMod p256P (subP x2 x1) % p256P
      let x := subP (l * l % p256P) (x1 + x2)
      some (x, subP (l * subP x1 x % p256P) y1)

/-- k times a point, over `n` bits of k. -/
def ecMul : Nat → Nat → EcPoint → EcPoint
  | 0, _, _ => none
  | n + 1, k, p =>
    let r := ecMul n (k / 2) (ecAdd p p)
    if k % 2 = 1 then ecAdd r p else r

/-- A public key is a point of the curve. -/
def ecOnCurve (x y : Nat) : Bool :=
  decide (x < p256P) && decide (y < p256P) &&
    y * y % p256P == (x * x * x + (p256P - 3) * x + p256B) % p256P

/-- ECDSA: the signature (r, s) of digest `z` verifies with the key, x then y (R383–R384). -/
def ecdsaOk (key sig : List Byte) (z : Nat) : Bool :=
  let x := beNat (key.take 32)
  let y := beNat ((key.drop 32).take 32)
  let r := beNat (sig.take 32)
  let t := beNat ((sig.drop 32).take 32)
  key.length == 64 && sig.length == 64 && ecOnCurve x y &&
    decide (0 < r) && decide (r < p256N) && decide (0 < t) && decide (t < p256N) &&
    let w := invMod p256N t
    match ecAdd (ecMul 256 (z * w % p256N) (some (p256Gx, p256Gy))) (ecMul 256 (r * w % p256N) (some (x, y))) with
    | none => false
    | some q => q.1 % p256N == r

end Sys2Proof.Machine
end

