-- ==== Sys2Proof/Machine/Images.lean ====
section
/-! DEFINITION. Signed images: loading, verification, firmware slots (12_host_port_and_services, R285–R289). The
activation of a configuration image stands in `Commit`. -/

namespace Sys2Proof.Machine

/-! ### The header (R285) -/

def imgMagic (l : List Byte) : List Byte := l.take 4
def imgKind (l : List Byte) : Nat := (nth 0#8 l 4).toNat
def imgLevel (l : List Byte) : Nat := (nth 0#8 l 5).toNat
def imgVersion (l : List Byte) : Nat := leNat ((l.drop 8).take 4)
def imgSchema (l : List Byte) : Nat := leNat ((l.drop 12).take 4)
def imgBodyLen (l : List Byte) : Nat := leNat ((l.drop 16).take 4)
def imgSig (l : List Byte) : List Byte := (l.drop 64).take 64
def imgBody (l : List Byte) : List Byte := l.drop 128

/-- The digest that the signature covers. -/
def imgDigest (l : List Byte) : Nat := sha256 (l.take 64 ++ imgBody l)

/-- The most bytes an image may have. -/
def imgMax (kind : Nat) : Nat := if kind = 1 then 2097152 else 524288

/-- The key that verifies an image; empty where no key does. -/
def imgKey (s : State) (kind level : Nat) : List Byte :=
  if kind = 1 ∨ level = 4 then Config.wailuzanKey
  else if level = 2 then valBlob (committedVal s 0x10410A)
  else if level = 3 then valBlob (committedVal s 0xB01002)
  else []

/-! ### Loading (R286) -/

def modImages (s : State) (f : Images → Images) : State := { s with images := f s.images }

/-- The slot that is not running. -/
def otherSlot (s : State) : Nat := 1 - s.mram.bootSlot

/-- IMAGE_KIND: a staged image is discarded and a new load begins. -/
def imageKindOp (s : State) (kind : Nat) : State :=
  modImages s fun i => { i with kind := kind, staged := [], st := 1, err := 0 }

/-- What stops an IMAGE_CHUNK: it would pass the maximum size, or no load is open. -/
def imageChunkCode (s : State) (l : List Byte) : Nat :=
  firstCode [codeIf (decide (imgMax s.images.kind < s.images.staged.length + l.length)) Ab.range,
    codeIf (decide (s.images.st ≠ 1)) Ab.state]

/-- A slot as it holds `l`: the lines written whole are no longer poisoned (R342). -/
def FwSlot.holding (w : FwSlot) (l : List Byte) : FwSlot := ⟨false, l, w.bad.filter fun o => decide (l.length < o + 32)⟩

/-- The other slot holds what has been staged of a firmware image; its first chunk makes it EMPTY. -/
def stageSlot (s : State) : State :=
  let o := otherSlot s
  let s := mramWritten s (0x200000 * o) (0x200000 * o + s.images.staged.length / 32 * 32)
  { s with mram := { s.mram with
    slotState := setNth s.mram.slotState o 0, slotVersion := setNth s.mram.slotVersion o 0
    slots := setNth s.mram.slots o ((nth {} s.mram.slots o).holding s.images.staged) } }

/-- The form of a whole image: the header's MAGIC and as many bytes as BODY_LENGTH says (R285). -/
def imgWhole (l : List Byte) : Bool :=
  decide (128 ≤ l.length) && imgMagic l == bytes1 [0x53, 0x48, 0x4E, 0x49] && l.length == 128 + imgBodyLen l

/-- What a slot holds verifies at a start (R1, R342): no line of it is poisoned, and it is the shipped image or whole
firmware under a valid signature of the Wailuzan key (log entry 71). -/
def FwSlot.verifies (w : FwSlot) : Bool :=
  if w.shipped then w.bad.isEmpty
  else w.bad.all (fun o => decide (w.bytes.length ≤ o)) && imgWhole w.bytes && imgKind w.bytes == 1 &&
    ecdsaOk Config.wailuzanKey (imgSig w.bytes) (imgDigest w.bytes)

/-- Firmware slot `k` verifies. -/
def slotVerifies (s : State) (k : Nat) : Bool := (nth {} s.mram.slots k).verifies

/-- IMAGE_CHUNK: stored at IMAGE_OFFSET, which advances by its length. -/
def imageChunkOp (s : State) (l : List Byte) : State :=
  let s := modImages s fun i => { i with staged := i.staged ++ l }
  if s.images.kind = 1 then stageSlot s else mramWritten s 0x580000 (0x580000 + s.images.staged.length / 32 * 32)

/-- IMAGE_VERIFY: a write of 1 starts the verification of what is staged. -/
def imageVerifyOp (s : State) (v : Int) : State :=
  if v = 1 then modImages s fun i => { i with st := 2 } else s

/-- A line of the staging area that holds a part of the staged image is poisoned and counts as absent (R342, R344). -/
def stagingBad (s : State) : Bool :=
  s.mem.poisonM.any fun p => decide (0x580000 ≤ p) && decide (p < 0x580000 + s.images.staged.length)

/-- A firmware image whose schema MAJOR differs from the running one, or whose MINOR is below the schema of the
configuration in force. -/
def fwSchemaBad (schema : Nat) : Bool :=
  schema / 65536 != schemaVersion / 65536 || decide (schema / 256 % 256 < schemaVersion / 256 % 256)

/-- A value as the bytes of an image spell it: the member's type, least significant byte first (R6); of another length
it spells none. A member that this schema lacks keeps its bytes. -/
def imageVal (w : Nat × List Byte) : Option (Nat × Val) :=
  match findMem (w.1 / 256) (w.1 % 256) with
  | none => some (w.1, .bytes w.2)
  | some d =>
    if d.ty = .str ∨ d.ty = .blob ∨ w.2.length = d.ty.size then some (w.1, dataVal d.ty w.2) else none

/-- The members and values in the body of a configuration image; `none` where the body is malformed. -/
def imageMembers (l : List Byte) : Option (List (Nat × Val)) :=
  match Config.decodeConfigImage (imgBody l) with
  | none => none
  | some ws => ws.mapM imageVal

/-- IMAGE_ERROR of the staged image; 0 none. A configuration body that spells no members is malformed, and a poisoned
line among its bytes reads as a signature that does not verify. -/
def imageError (s : State) : Nat :=
  let l := s.images.staged
  if l.length < 128 ∨ imgMagic l ≠ bytes1 [0x53, 0x48, 0x4E, 0x49] then 1
  else if imgKind l ≠ s.images.kind then 5
  else if l.length ≠ 128 + imgBodyLen l then 2
  else if ¬ ecdsaOk (imgKey s (imgKind l) (imgLevel l)) (imgSig l) (imgDigest l) then 3
  else if imgKind l = 1 ∧ slotVerifies s (otherSlot s) = false then 3
  else if imgKind l ≠ 1 ∧ stagingBad s = true then 3
  else if imgKind l = 1 then (if fwSchemaBad (imgSchema l) then 4 else 0)
  else if (imageMembers l).isNone then 1 else 0

/-- VERIFY_COMPLETE (R286): IMAGE_STATE becomes VALID or INVALID, and IMAGE_ERROR gives the reason. -/
def execVerifyComplete (s : State) : Out :=
  .next (if s.images.st = 2 then
      let e := imageError s
      modImages s fun i => { i with st := if e = 0 then 3 else 4, err := e }
    else s)

/-! ### Firmware (R288) -/

/-- Activation of firmware: the boot slot switches, the new slot boots as TRIAL. -/
def activateFirmware (s : State) : State :=
  let o := otherSlot s
  restart { s with mram := { s.mram with
    bootSlot := o, slotState := setNth s.mram.slotState o 3
    slotVersion := setNth s.mram.slotVersion o (imgVersion s.images.staged) } } 4

/-- The running slot is on trial. -/
def onTrial (s : State) : Bool := nth 0 s.mram.slotState s.mram.bootSlot == 3

/-- FW_CONFIRM: a write of 1 makes the TRIAL slot VALID. -/
def fwConfirmOp (s : State) (v : Int) : State :=
  if v = 1 ∧ onTrial s = true then
    { s with mram := { s.mram with slotState := setNth s.mram.slotState s.mram.bootSlot 1 }
             images := { s.images with confirmUntil := none } }
  else s

/-- A slot that has not made it: INVALID, the rollback is counted and the other slot boots. -/
def rollback (s : State) : State :=
  { s with mram := { s.mram with
    slotState := setNth s.mram.slotState s.mram.bootSlot 2
    bootSlot := otherSlot s, rollbacks := s.mram.rollbacks + 1 } }

/-- CONFIRM_TIMEOUT (R288): CONFIRM_TIME passes without FW_CONFIRM; the module restarts on the previous slot. The
slot that was not confirmed stays as it is (log entry 30). -/
def execConfirmTimeout (s : State) : Out :=
  .next (match s.images.confirmUntil with
    | some t =>
      if t ≤ s.clk then
        restart { s with mram := { s.mram with
          bootSlot := otherSlot s, rollbacks := s.mram.rollbacks + 1 } } 5
      else s
    | none => s)

end Sys2Proof.Machine
end

