-- ==== Sys2Proof/Machine/Checks.lean ====
section
/-! DEFINITION. What a COMMIT checks: the consistency groups, and the table of conditions of each group over the
configuration that the COMMIT would leave (R47, R68, R78, R105, R113, R119, R127, R158, R188, R204, R207, R224,
R238, R245, R251, R314, R335, R369, R389, R402, R452, R455). -/

namespace Sys2Proof.Machine

/-- A failed condition: abort code, object, member. -/
structure Fail where
  code : Nat
  obj : Nat
  mem : Nat
  deriving DecidableEq, Repr

/-- A proposed COMMIT: the configuration it would leave, the pending writes with the levels of their sessions, and
the PWM_FREQ that runs at each bridge. -/
structure Proposal where
  table : Table Val
  writes : List (Nat × Nat)
  locked : Bool
  running : Nat → Nat

/-- The number of a member in the proposed configuration. -/
def Proposal.rd (p : Proposal) : Rd := fun o m => valInt (Table.getD dfltOf p.table (memKey o m))

/-- The first failure. -/
def firstFail : List (Option Fail) → Option Fail
  | [] => none
  | some f :: _ => some f
  | none :: t => firstFail t

/-- A failure when the condition holds. -/
def failIf (b : Bool) (code obj mem : Nat) : Option Fail := if b then some ⟨code, obj, mem⟩ else none

/-- The first failure over a range of numbers. -/
def failEach (l : List Nat) (f : Nat → Option Fail) : Option Fail := firstFail (l.map f)

/-! ### Groups (R249–R251) -/

/-- The group of an object, named by its lowest object number; none: its members belong to no group. -/
def groupOf (o : Nat) : Option Nat :=
  if o = 0x1030 ∨ o = 0x1031 then some 0x1030
  else if o = 0x1041 ∨ o = 0x1063 ∨ o = 0x2001 ∨ o = 0x2030 ∨ o = 0x3001 then some o
  else if o = 0x1100 ∨ o = 0x1101 then some o
  else if 0x1200 ≤ o ∧ o < 0x1280 then some (0x1100 + (o - 0x1200) / 64)
  else if 0x2020 ≤ o ∧ o ≤ 0x2028 then some 0x2020
  else if 0x3200 ≤ o ∧ o < 0x3220 then some o
  else if 0x3400 ≤ o ∧ o < 0x3440 then some o
  else if 0x3500 ≤ o ∧ o < 0x3510 then some o
  else if 0x3600 ≤ o ∧ o < 0x3640 then some o
  else if 0x3800 ≤ o ∧ o < 0x3A00 then some 0x3800
  else if 0x4000 ≤ o ∧ o < 0x4100 then some o
  else if 0x4400 ≤ o ∧ o < 0x4500 then some (o - 0x400)
  else if 0x4800 ≤ o ∧ o < 0x4900 then some (o - 0x800)
  else if 0x4C00 ≤ o ∧ o < 0x4D00 then some (o - 0xC00)
  else if 0x5000 ≤ o ∧ o < 0x5400 then some 0x5000
  else if 0x6000 ≤ o ∧ o < 0x6200 then some 0x6000
  else if 0x7000 ≤ o ∧ o < 0x7200 then some 0x7000
  else if 0x8010 ≤ o ∧ o < 0x8050 then some 0x8010
  else if 0x9000 ≤ o ∧ o < 0x9300 then some 0x9000
  else if 0xA010 ≤ o ∧ o < 0xA040 then some 0xA010
  else if 0xB000 ≤ o ∧ o < 0xB200 then some 0xB000
  else if 0xC000 ≤ o ∧ o < 0xC300 then some 0xC000
  else if 0xD000 ≤ o ∧ o < 0xD020 then some 0xD000
  else none

/-- The group of a member key. -/
def keyGroup (k : Nat) : Option Nat := groupOf (k / 256)

/-- The writes of a group, ascending. -/
def Proposal.keysOf (p : Proposal) (g : Nat) : List (Nat × Nat) := p.writes.filter fun w => keyGroup w.1 == some g

/-! ### Conditions that every table shares -/

/-- A trigger entry without a source takes no part in the checks (R158). -/
def idleTrigger (rd : Rd) (k : Nat) : Bool :=
  decide (0x5040 ≤ k / 256) && decide (k / 256 < 0x5060) && rd (k / 256) 1 == 0xFFFF

/-- The first written member of a group outside its Meaning range. -/
def rangeFail (p : Proposal) (ks : List (Nat × Nat)) : Option Fail :=
  firstFail (ks.map fun w =>
    match findMem (w.1 / 256) (w.1 % 256) with
    | none => none
    | some d => failIf (!idleTrigger p.rd w.1 && rangeBad d (Table.getD dfltOf p.table w.1)) Ab.range (w.1 / 256)
        (w.1 % 256))

/-- A write below its member's level, then a level-3 member while the safety lock is engaged (R245, R255, R385). -/
def levelFail (p : Proposal) (ks : List (Nat × Nat)) : Option Fail :=
  firstFail ((ks.map fun w =>
    match findMem (w.1 / 256) (w.1 % 256) with
    | none => none
    | some d => failIf (decide (w.2 < d.level)) Ab.accessLevel (w.1 / 256) (w.1 % 256)) ++
  ks.map fun w =>
    match findMem (w.1 / 256) (w.1 % 256) with
    | none => none
    | some d => failIf (p.locked && d.level == 3) Ab.safetyLocked (w.1 / 256) (w.1 % 256))

/-! ### Owners of a channel in the proposed configuration (R18) -/

/-- Another enabled loop than `n` names the channel. -/
def loopNames (rd : Rd) (h n : Nat) : Bool :=
  (upTo 256).any fun m => m != n && rdLoopOn rd m && rd (0x4000 + m) 13 == (h : Int)

/-- Another enabled circuit than `c` names the channel. -/
def circNames (rd : Rd) (h c : Nat) : Bool :=
  (upTo 32).any fun m => m != c && rd (0x3200 + m) 1 == 1 && rd (0x3200 + m) 2 == (h : Int)

/-- A loop or a circuit, enabled or not, names the channel as OUTPUT (R207). -/
def outputNamed (rd : Rd) (h : Nat) : Bool :=
  ((upTo 256).any fun m => rd (0x4000 + m) 13 == (h : Int)) || (upTo 32).any fun m => rd (0x3200 + m) 2 == (h : Int)

/-- An EC fan uses the channel. -/
def fanNames (rd : Rd) (h : Nat) : Bool :=
  (upTo 8).any fun e => rd (0x8040 + e) 1 == (h : Int) || rd (0x8040 + e) 2 == (h : Int)

/-! ### The local-time group (R47) -/

/-- Two rules in use that overlap in years. -/
def dstOverlap (rd : Rd) (a b : Nat) : Bool :=
  decide (rd (0x2021 + a) 1 ≤ rd (0x2021 + b) 2) && decide (rd (0x2021 + b) 1 ≤ rd (0x2021 + a) 2)

/-- A written DST word or shift that R47 refuses (those of an image; a WRITE is refused at once). -/
def dstRange (p : Proposal) (ks : List (Nat × Nat)) : Option Fail :=
  firstFail (ks.map fun w => failIf
    (decide (0x2021 ≤ w.1 / 256) && dstMemberBad (w.1 % 256) (valInt (Table.getD dfltOf p.table w.1))) Ab.range (w.1 / 256)
      (w.1 % 256))

def dstFail (rd : Rd) : Option Fail :=
  let n := (rd 0x2020 2).toNat
  failEach (upTo n) fun i =>
    let o := 0x2021 + i
    firstFail [failIf (rd o 3 == 0) Ab.groupInconsistent o 3, failIf (rd o 4 == 0) Ab.groupInconsistent o 4,
      failIf (decide (rd o 2 < rd o 1)) Ab.groupInconsistent o 1,
      failIf ((upTo i).any fun j => dstOverlap rd j i) Ab.groupInconsistent o 1]

/-! ### Circuits and programs (R68, R452) -/

/-- A written schedule entry that R68 refuses. -/
def entryFail (p : Proposal) (ks : List (Nat × Nat)) (lo hi : Nat) : Option Fail :=
  firstFail (ks.map fun w =>
    failIf (decide (lo ≤ w.1 % 256) && decide (w.1 % 256 ≤ hi) && !entryOk (p.rd (w.1 / 256) (w.1 % 256)).toNat) Ab.range
      (w.1 / 256) (w.1 % 256))

def circFail (rd : Rd) (c : Nat) : Option Fail :=
  let o := 0x3200 + c
  let h := (rd o 2).toNat
  if rd o 1 ≠ 1 ∨ h = 0xFFFF then none
  else firstFail [
    failIf (circNames rd h c || loopNames rd h 256 || fanNames rd h) Ab.state o 2,
    failIf (if h < 288 then rd (0x6100 + (h - 256)) 1 != 2 else rd (0x7100 + (h - 288)) 1 != 1) Ab.groupInconsistent o 2]

/-! ### Rules (R78) -/

/-- The object and member of an operand word. -/
def wordObj (w : Int) : Nat := (unsigned 32 w) / 256
def wordMem (w : Int) : Nat := (unsigned 32 w) % 256

/-- The words that a rule or event reads and writes: SUBJECT and an object operand; the target of a write. -/
structure RuleRefs where
  reads : List (Int × Nat)
  target : Option (Int × Nat)

/-- What rule `r` names, each with its member. -/
def ruleRefs (rd : Rd) (r : Nat) : RuleRefs :=
  let o := 0x3800 + r
  ⟨(rd o 2, 2) :: (if rd o 4 = 1 then [(rd o 5, 5)] else []), if rd o 9 = 0 then some (rd o 10, 10) else none⟩

/-- What user event `e` names. -/
def eventRefs (rd : Rd) (e : Nat) : RuleRefs :=
  let o := 0x3600 + e
  ⟨[], if rd o 6 = 0 then some (rd o 7, 7) else none⟩

/-- Conditions 1 to 4 and 6 of R78 on one named word; `c` is the condition. -/
def refCode (c : Nat) (write : Bool) (w : Int) : Nat :=
  let o := wordObj w
  match findObj o with
  | none => codeIf (c == 1) Ab.noObject
  | some _ =>
    match findMem o (wordMem w) with
    | none => codeIf (c == 1 && !(wordMem w == 0)) Ab.noMember
    | some d =>
      if c = 2 then codeIf (write && d.acc == .ro) Ab.readOnly + codeIf (!write && d.acc == .wo) Ab.writeOnly
      else if c = 3 then codeIf (if write then decide (2 < d.level) else decide (d.level = 4)) Ab.accessLevel
      else if c = 4 then codeIf (!write && (decide (4 < d.ty.size) || decide (d.ty.size = 0))) Ab.type
      else if c = 6 then codeIf (write && d.acc == .rwg) Ab.state
      else 0

/-- Condition `c` on the words of a rule or event at object `o`. Member 0 is RO. -/
def refsFail (c o : Nat) (f : RuleRefs) : Option Fail :=
  firstFail ((f.reads.map fun w => let k := refCode c false w.1; failIf (k != 0) k o w.2) ++
    match f.target with
    | none => []
    | some w =>
      let k := if c = 2 ∧ wordMem w.1 = 0 ∧ (findObj (wordObj w.1)).isSome then Ab.readOnly else refCode c true w.1
      [failIf (k != 0) k o w.2])

/-- Condition 5 of R78 on rule `r`. -/
def ruleRange (rd : Rd) (r : Nat) : Option Fail :=
  let o := 0x3800 + r
  let bad := fun m b => failIf b Ab.range o m
  firstFail [bad 3 (decide (5 < rd o 3)), bad 4 (decide (1 < rd o 4)), bad 8 (decide (2 < rd o 8)), bad 9 (decide (2 < rd o 9)),
    bad 10 (rd o 9 == 1 && decide (63 < rd o 10)), bad 10 (rd o 9 == 2 && decide (15 < rd o 10)),
    bad 5 (decide (4 ≤ rd o 3) && rd o 4 == 0 && (decide (rd o 5 < 0) || decide (63 < rd o 5))),
    bad 7 (rd o 7 % 10 != 0)]

/-- The enabled rules, condition by condition. -/
def rulesFail (rd : Rd) : Option Fail :=
  let rs := (upTo 512).filter fun r => rd (0x3800 + r) 1 == 1
  let cond := fun c => failEach rs fun r => refsFail c (0x3800 + r) (ruleRefs rd r)
  firstFail [cond 1, cond 2, cond 3, cond 4, failEach rs (ruleRange rd), cond 6]

/-! ### Loops (R84, R90, R105, R113, R119, R127) -/

/-- A source code that R84 lists. -/
def srcOk (v : Int) : Bool :=
  decide (v < 288) || (decide (308 ≤ v) && decide (v ≤ 331)) || (decide (0x400 ≤ v) && decide (v ≤ 0x42D)) ||
    (decide (0x800 ≤ v) && decide (v ≤ 0x80B)) || v == 0xFFFF

/-- The enabled RESULT loops stay within their class maxima: what a COMMIT of another group than a loop's must leave
(R455). -/
def resultRatesOk (p : Proposal) : Bool :=
  ((rdLoops p.rd).filter fun n => p.rd (0x4000 + n) 3 == 0).all fun n => classTopOk p.rd p.running n

/-- The limits of R90 over every enabled loop, and the totals of classes A and B. -/
def classesOk (p : Proposal) : Bool :=
  ((rdLoops p.rd).all fun n => classLimitOk p.rd p.running n) &&
    decide (((rdLoops p.rd).filter fun n => p.rd (0x4000 + n) 2 == 0).length ≤ 16) &&
    decide (classSections p.rd 0 ≤ 48) && decide (classSections p.rd 1 ≤ 1024)

/-- The class-A and class-B share of ENGINE_LOAD is at most 80 %. -/
def loadOk (p : Proposal) : Bool :=
  decide (loadOf p.rd p.running (fun n => decide (p.rd (0x4000 + n) 2 ≠ 2)) ≤ 4 / 5)

/-- Sections that the enabled loops request. -/
def poolWanted (rd : Rd) : Nat := ((rdLoops rd).map (rdSections rd)).foldl (· + ·) 0

/-- The coefficients of section k in a proposed configuration. -/
def rdCoef (rd : Rd) (n k : Nat) : Coef :=
  let o := 0x4400 + n
  let m := 6 * k
  let sh := (rd o (m + 6)).toNat
  ⟨scaled (rd o (m + 1)) (sh % 32), scaled (rd o (m + 2)) (sh / 32 % 32), scaled (rd o (m + 3)) (sh / 1024 % 32),
   scaled (rd o (m + 4)) (sh / 32768 % 32), scaled (rd o (m + 5)) (sh / 1048576 % 32)⟩

/-- The preset of R118 exists for integrator section `i`. -/
def presetOk (rd : Rd) (n i : Nat) : Bool :=
  (upTo (rdSections rd n)).all fun k =>
    let c := rdCoef rd n k
    if k = i then c.a1 + c.a2 != 0 else gainDen c != 0 && (decide (k < i) || gainNum c != 0)

/-- R119: INTEG_SECTION. -/
def integFail (rd : Rd) (n : Nat) : Option Fail :=
  let i := rd (0x4000 + n) 14
  if i = 255 then none
  else firstFail [failIf (decide ((rdSections rd n : Int) ≤ i)) Ab.range (0x4000 + n) 14,
    failIf (!presetOk rd n i.toNat) Ab.groupInconsistent (0x4000 + n) 14]

/-- R127, R132: repetitive control. BINS 0 with LEAD_BINS 0, their defaults, names no profile and passes (log entry 41). -/
def rcFail (rd : Rd) (n : Nat) : Option Fail :=
  let o := 0x4C00 + n
  let on := rd o 1 == 1
  let count := ((upTo 256).filter fun m => rd (0x4C00 + m) 1 == 1).length
  firstFail [failIf (on && decide (64 < count)) Ab.storage o 1,
    failIf (on && rd o 4 == 0) Ab.lengthZero o 4,
    failIf (on && rd o 2 == 0 && rd o 3 == 0) Ab.lengthZero o 3,
    failIf (rd o 3 == 0) Ab.range o 3,
    failIf (rd o 4 == 1) Ab.range o 4,
    failIf (decide (rd o 4 ≤ rd o 5) && !(rd o 4 == 0 && rd o 5 == 0)) Ab.range o 5]

/-- R105, R113, R119 and R127 on loop `n`. -/
def loopFail (p : Proposal) (ks : List (Nat × Nat)) (n : Nat) : Option Fail :=
  let rd := p.rd
  let o := 0x4000 + n
  let on := rdLoopOn rd n
  let h := rd o 13
  firstFail [
    failIf (on && rdSections rd n == 0) Ab.lengthZero (0x4400 + n) 97,
    rangeFail p ks,
    failEach (upTo 16) fun k => failIf (decide (2 ^ 25 ≤ rd (0x4400 + n) (6 * k + 6))) Ab.range (0x4400 + n) (6 * k + 6),
    failIf (decide (rd o 12 < rd o 11)) Ab.range o 11,
    failIf (!srcOk (rd o 7)) Ab.range o 7, failIf (!srcOk (rd o 8)) Ab.range o 8,
    failIf (on && rd o 7 == 0xFFFF) Ab.range o 7,
    failIf (!classesOk p) Ab.range o 2,
    failIf (!loadOk p) Ab.range o 2,
    failIf (decide (2048 < poolWanted rd)) Ab.storage (0x4400 + n) 97,
    failIf (on && h != 0xFFFF && (loopNames rd h.toNat n || circNames rd h.toNat 32)) Ab.state o 13,
    failIf (rd o 2 == 0 && decide (256 ≤ h) && decide (h ≤ 287)) Ab.groupInconsistent o 13,
    failIf (rd o 8 == (n : Int)) Ab.groupInconsistent o 8, failIf (rd o 7 == (n : Int)) Ab.groupInconsistent o 7,
    failIf (rd o 8 == 0xFFFF && rd (0x4800 + n) 16 == 2) Ab.groupInconsistent o 8,
    integFail rd n, rcFail rd n]

/-! ### Measurement (R158) -/

/-- The trigger entries that have a source. -/
def liveTriggers (rd : Rd) : List Nat := (upTo 32).filter fun t => rd (0x5040 + t) 1 != 0xFFFF

/-- XCHECK_EN of an AI code. -/
def xchecked (rd : Rd) (code : Int) : Bool :=
  decide (308 ≤ code) && decide (code ≤ 331) && rd (0x5100 + (code - 308).toNat) 8 == 1

/-- The clocks per second that the entries take from a converter: 200 for each conversion. -/
def convLoad (p : Proposal) (b : Bool) : ℚ :=
  (((liveTriggers p.rd).filter fun t =>
    if b then p.rd (0x5040 + t) 4 != 0xFFFF || xchecked p.rd (p.rd (0x5040 + t) 3) else p.rd (0x5040 + t) 3 != 0xFFFF).map
      fun t => entryRate p.rd p.running t * 200 / 400000000).foldl (· + ·) 0

/-- The share of a converter's time that continuous slots leave free. -/
def convFree (rd : Rd) (b : Bool) : ℚ :=
  if b then (12 - (((if rd 0x5000 6 = 0xFFFF then 0 else 1) + (if rd 0x5000 7 = 0xFFFF then 0 else 1) : Nat) : ℚ)) / 16 else 1

/-- The trigger-load check. -/
def triggersOk (p : Proposal) : Bool :=
  decide (convLoad p false ≤ convFree p.rd false * 9 / 10) && decide (convLoad p true ≤ convFree p.rd true * 9 / 10)

/-- XCHECK_EN on an input that no pair allows. -/
def xcheckBad (rd : Rd) (k : Nat) : Bool :=
  let code : Int := 308 + k
  let ts := liveTriggers rd
  let own := ts.filter fun t => rd (0x5040 + t) 3 == code
  rd (0x5100 + k) 8 == 1 &&
    (ts.any (fun t => rd (0x5040 + t) 4 == code) || own.isEmpty || own.any fun t => rd (0x5040 + t) 4 != 0xFFFF)

/-- A code that names an AI whose AI_MODE is 0. -/
def aiOff (rd : Rd) (code : Int) : Bool :=
  decide (308 ≤ code) && decide (code ≤ 331) && rd (0x5100 + (code - 308).toNat) 1 == 0

/-- A channel member that names what its converter cannot reach; CONT_USER may not name MSENSE or VIN either. -/
def reachBad (rd : Rd) (adc : Adc) (o m : Nat) (cont : Bool) : Bool :=
  rd o m != 0xFFFF && (!reaches adc (rd o m).toNat || (cont && (rd o m == 0x41C || rd o m == 0x41F)))

def measFail (p : Proposal) (ks : List (Nat × Nat)) : Option Fail :=
  let rd := p.rd
  let ts := liveTriggers rd
  let ais := upTo 24
  firstFail [
    rangeFail p ks,
    failEach ts fun t => failIf (reachBad rd .a (0x5040 + t) 3 false) Ab.range (0x5040 + t) 3,
    failEach ts fun t => failIf (reachBad rd .b (0x5040 + t) 4 false) Ab.range (0x5040 + t) 4,
    failIf (reachBad rd .b 0x5000 6 true) Ab.range 0x5000 6, failIf (reachBad rd .b 0x5000 7 true) Ab.range 0x5000 7,
    failEach (upTo 8) fun a => firstFail [
      failIf (decide (rd (0x5300 + a) 4 < rd (0x5300 + a) 3)) Ab.range (0x5300 + a) 3,
      failIf (rd (0x5300 + a) 1 != 0 &&
        decide (q16 (if rd (0x5300 + a) 1 = 1 then 10 else 24) < rd (0x5300 + a) 4)) Ab.range (0x5300 + a) 4],
    failEach ais fun k => failIf ((rd (0x5100 + k) 2 == 1 || rd (0x5100 + k) 2 == 2) && rd (0x5100 + k) 1 != 4 &&
      rd (0x5100 + k) 1 != 5) Ab.groupInconsistent (0x5100 + k) 2,
    failEach ais fun k => failIf (xcheckBad rd k) Ab.groupInconsistent (0x5100 + k) 8,
    failIf (!triggersOk p) Ab.range 0x5040 1,
    failIf (!resultRatesOk p || !loadOk p) Ab.range 0x5040 1,
    failEach ts fun t => firstFail [failIf (aiOff rd (rd (0x5040 + t) 3)) Ab.groupInconsistent (0x5040 + t) 3,
      failIf (aiOff rd (rd (0x5040 + t) 4)) Ab.groupInconsistent (0x5040 + t) 4],
    failIf (aiOff rd (rd 0x5000 6)) Ab.groupInconsistent 0x5000 6, failIf (aiOff rd (rd 0x5000 7)) Ab.groupInconsistent 0x5000 7,
    failEach ais fun k => failIf (rd (0x5100 + k) 7 == 1 && rd (0x5100 + k) 1 == 0) Ab.groupInconsistent (0x5100 + k) 7]

/-! ### Field I/O (R204, R207) -/

/-- Some channel is safety-relevant. -/
def anyRelevant (rd : Rd) : Bool := (upTo 84).any fun c => rd (0xB100 + c) 1 == 1

def ioFail (p : Proposal) (ks : List (Nat × Nat)) : Option Fail :=
  let rd := p.rd
  firstFail [
    rangeFail p ks,
    failIf (!resultRatesOk p || !loadOk p) Ab.range 0x6100 3,
    failEach (upTo 32) fun i => failIf (rd (0x6100 + i) 4 == 1 && rd (0x6100 + i) 1 != 1) Ab.groupInconsistent (0x6100 + i) 4,
    failEach (upTo 32) fun i => failIf (rd (0x6100 + i) 1 != 2 && rd (0x6100 + i) 1 != 3 &&
      outputNamed rd (256 + i)) Ab.groupInconsistent (0x6100 + i) 1,
    failIf (decide (8 < rd 0x6000 1) && anyRelevant rd) Ab.groupInconsistent 0x6000 1]

/-! ### Valves (R169, R172, R188) -/

/-- A card start address: the two of the card ROM, or one that an image has loaded into the channel's engine. -/
def cardStart (s : State) (v : Nat) (a : Int) : Bool :=
  a == 0x100 || a == 0x110 || s.valve.loads.any fun q => q.engine == v / 4 && (q.start : Int) == a

/-- A DECAY word: mode 0–2, clamp 0–2. -/
def decayOk (w : Int) : Bool := decide (w < 16) && decide (w % 4 < 3) && decide (w / 4 < 3)

/-- A SEATCFG word with ARG[15] = `drop` and a threshold of 1–100 %. -/
def seatOk (w : Int) (drop : Int) : Bool :=
  decide (w < 65536) && w / 32768 == drop && decide (1 ≤ w % 256) && decide (w % 256 ≤ 100)

def vlvFail (s : State) (p : Proposal) (ks : List (Nat × Nat)) : Option Fail :=
  let rd := p.rd
  let vs := upTo 16
  let gi := Ab.groupInconsistent
  firstFail [
    rangeFail p ks,
    failIf (decide (rd 0x7000 3 ≤ rd 0x7000 2)) Ab.range 0x7000 3, failIf (decide (rd 0x7000 4 ≤ rd 0x7000 3)) Ab.range 0x7000 4,
    failEach vs fun v => let o := 0x7100 + v
      firstFail [failIf (!decayOk (rd o 16)) Ab.range o 16, failIf (!decayOk (rd o 17)) Ab.range o 17,
        failIf (!seatOk (rd o 18) 0) Ab.range o 18, failIf (!seatOk (rd o 22) 1) Ab.range o 22,
        failIf (!cardStart s v (rd o 2)) Ab.range o 2],
    failEach vs fun v => let o := 0x7100 + v
      firstFail [failIf (decide (rd o 11 < rd o 13)) gi o 13, failIf (decide (rd o 5 * 1000 < rd o 11 * 65536)) gi o 11,
        failIf (rd o 15 == 1 && rd 0x7000 1 == 0) gi o 15],
    failEach vs fun v => failIf (rd (0x7100 + v) 6 == 1 && rd (0x7100 + v) 2 != 0x110) gi (0x7100 + v) 6,
    failEach vs fun v => failIf (rd (0x7100 + v) 1 == 1 && decide (rd (0x7010 + v / 4) 1 * 1000 < rd (0x7100 + v) 11 * 65536)) gi
      (0x7010 + v / 4) 1]

/-! ### Fans (R222, R224) -/

def bandLo (w : Int) : Int := w % 65536
def bandHi (w : Int) : Int := w / 65536

/-- Bands of a fan in use. -/
def rdBands (rd : Rd) (f : Nat) : List Nat := upTo (rd (0x8010 + f) 5).toNat

/-- TEMP of a table point. -/
def fanPtTemp (rd : Rd) (f i : Nat) : Int := signed 16 ((rd (0x8010 + f) (12 + i)).toNat / 65536)

/-- The heddle entry of a fan's command. -/
def rdFanEntry (rd : Rd) (f : Nat) : Nat := if f < 4 then 304 + f else (rd (0x8040 + (f - 4)) 1).toNat

/-- A fan in table mode whose command the dictionary does not own. -/
def tableOwned (rd : Rd) (f : Nat) : Bool :=
  let h := rdFanEntry rd f
  rd (0x8010 + f) 10 == 1 && (decide (4 ≤ f) || rd (0x8030 + f) 1 == 0) && h != 0xFFFF &&
    (loopNames rd h 256 || circNames rd h 32)

def fanFail (p : Proposal) (ks : List (Nat × Nat)) : Option Fail :=
  let rd := p.rd
  let gi := Ab.groupInconsistent
  let b := fun f i => rd (0x8010 + f) (6 + i)
  firstFail [
    rangeFail p ks,
    failEach (upTo 12) fun f => failEach (upTo 4) fun i =>
      failIf (decide (1000 < bandHi (b f i)) || ((rdBands rd f).contains i && decide (bandHi (b f i) ≤ bandLo (b f i))))
        Ab.range (0x8010 + f) (6 + i),
    failEach (upTo 12) fun f => failEach (upTo 8) fun i =>
      failIf (decide (1000 < rd (0x8010 + f) (12 + i) % 65536)) Ab.range (0x8010 + f) (12 + i),
    failEach (upTo 8) fun e => failIf (decide (300000 < rd (0x8040 + e) 4 * rd (0x8040 + e) 3)) Ab.range (0x8040 + e) 4,
    failIf (!triggersOk p || !resultRatesOk p || !loadOk p) Ab.range 0x8030 4,
    failEach (upTo 12) fun f => failEach (rdBands rd f) fun i => failEach (upTo i) fun j =>
      failIf (decide (bandLo (b f i) < bandHi (b f j)) && decide (bandLo (b f j) < bandHi (b f i))) gi (0x8010 + f) (6 + i),
    failEach ((upTo 12).filter fun f => rd (0x8010 + f) 10 == 1) fun f => failEach (upTo 7) fun i =>
      failIf (decide (fanPtTemp rd f (i + 1) ≤ fanPtTemp rd f i)) gi (0x8010 + f) (13 + i),
    failEach (upTo 8) fun e => let o := 0x8040 + e
      firstFail [failIf (decide (rd o 6 < rd o 5)) gi o 5, failIf (decide (rd o 11 < rd o 10)) gi o 10],
    failEach (upTo 4) fun k => let o := 0x8030 + k
      if rd o 1 = 1 then firstFail [failIf (rd o 2 == 0xFFFF) gi o 2,
        failIf (rd o 3 == 0xFFFF || rd (0x4000 + (rd o 3).toNat) 13 != (304 + k : Int)) gi o 3] else none,
    failEach (upTo 4) fun k => let o := 0x8030 + k
      let t := 0x5040 + (rd o 5).toNat
      failIf (rd o 5 != 255 && (rd t 3 != (0x414 + 2 * k : Int) || rd t 4 != (0x415 + 2 * k : Int))) gi o 5,
    failEach (upTo 12) fun f => failIf (tableOwned rd f) gi (0x8010 + f) 10,
    failEach (upTo 8) fun e => let o := 0x8040 + e
      firstFail [failIf (rd o 1 != 0xFFFF && rd (0x6100 + (rd o 1 - 256).toNat) 1 != 3) gi o 1,
        failIf (rd o 2 != 0xFFFF && rd (0x6100 + (rd o 2 - 256).toNat) 1 != 4) gi o 2]]

/-! ### Display (R238, R239) -/

/-- The reserved bits of a TN overdrive entry are 0. -/
def odTnBad (w : Int) : Bool := decide (256 ≤ w) || w / 4 % 4 != 0

def dispFail (p : Proposal) (ks : List (Nat × Nat)) : Option Fail :=
  let rd := p.rd
  let bist := rd 0x9000 1 == 2
  let ent := (upTo 4).flatMap fun t => (upTo 16).map fun i => (0x9200 + t, i)
  let sv := fun (o i : Nat) => signed 16 (rd o (i + 1)).toNat
  firstFail [
    rangeFail p ks,
    firstFail (ent.map fun q => failIf (if bist then decide (5000 < (sv q.1 q.2).natAbs)
      else q.2 / 4 != q.2 % 4 && rd 0x9000 1 == 1 && odTnBad (rd q.1 (q.2 + 1))) Ab.range q.1 (q.2 + 1)),
    failIf (decide (rd 0x9000 8 ≤ rd 0x9000 7)) Ab.groupInconsistent 0x9000 8,
    failIf (decide (rd 0x9000 9 ≤ rd 0x9000 8)) Ab.groupInconsistent 0x9000 9,
    firstFail (ent.map fun q => failIf (bist && ((decide (q.2 / 4 < q.2 % 4) && decide (sv q.1 q.2 < 0)) ||
      (decide (q.2 % 4 < q.2 / 4) && decide (0 < sv q.1 q.2)))) Ab.groupInconsistent q.1 (q.2 + 1))]

/-! ### Safety (R204, R376, R389) -/

/-- SAFE_VALUE lies within the limits of the channel's own objects. -/
def safeValueOk (rd : Rd) (c : Nat) : Bool :=
  let v := rd (0xB100 + c) 3
  let within := fun (lo hi : Int) => decide (lo ≤ v) && decide (v ≤ hi)
  if c < 32 then (if rd (0x6100 + c) 1 = 3 then within 0 pct100 else true)
  else if c < 48 then
    (if rd (0x7100 + (c - 32)) 1 = 2 then within 0 (min (rd (0x7100 + (c - 32)) 5) 98304) else true)
  else if c < 52 then within 0 pct100
  else if c < 76 then true
  else within (rd (0x5300 + (c - 76)) 3) (rd (0x5300 + (c - 76)) 4)

/-- An input that R376 does not let be safety-relevant. -/
def inputBad (rd : Rd) (c : Nat) : Bool :=
  rd (0xB100 + c) 1 == 1 &&
    (if c < 32 then rd (0x6100 + c) 1 == 4 || (rd (0x6100 + c) 1 == 1 && rd (0x6100 + c) 4 != 1)
     else decide (52 ≤ c) && decide (c < 76) && rd (0x5100 + (c - 52)) 8 != 1)

def safeFail (p : Proposal) (ks : List (Nat × Nat)) : Option Fail :=
  let rd := p.rd
  firstFail [
    rangeFail p ks,
    failEach (upTo 24) fun k => failIf (rd (0xB134 + k) 2 != 0) Ab.range (0xB134 + k) 2,
    failEach (upTo 84) fun c => failIf (inputBad rd c) Ab.groupInconsistent (0xB100 + c) 1,
    failEach (upTo 84) fun c => failIf (rd (0xB100 + c) 2 == 2 && !safeValueOk rd c) Ab.groupInconsistent (0xB100 + c) 3,
    failIf (decide (8 < rd 0x6000 1) && anyRelevant rd) Ab.groupInconsistent 0x6000 1]

/-! ### CAN (R293–R295, R299, R314) -/

/-- Bit rate of a nominal word: quanta per bit, from the 80 MHz CAN clock. -/
def nbtClocks (w : Nat) : Nat := (w % 32 + 1) * (1 + (w / 32 % 256 + 1) + (w / 8192 % 128 + 1))

/-- Bit rate of a data word. -/
def dbtClocks (w : Nat) : Nat := (w % 32 + 1) * (1 + (w / 32 % 32 + 1) + (w / 1024 % 16 + 1))

/-- NBT outside R294 or R293: NTSEG1 of 2 or more, reserved bits 0, 20 kbit/s to 1 Mbit/s. -/
def nbtBad (w : Nat) : Bool :=
  decide (2 ^ 27 ≤ w) || decide (w / 32 % 256 < 1) || decide (4000 < nbtClocks w) || decide (nbtClocks w < 80)

/-- DBT outside R295 or R293: reserved bits 0, from the nominal rate to 5 Mbit/s. -/
def dbtBad (n w : Nat) : Bool := decide (2 ^ 26 ≤ w) || decide (nbtClocks n < dbtClocks w) || decide (dbtClocks w < 16)

/-- NSJW above NTSEG2. -/
def nsjwBad (w : Nat) : Bool := decide (w / 8192 % 128 < w / 2 ^ 20 % 128)

/-- DSJW above DTSEG2, or a data rate above 1 Mbit/s without TDC_EN. -/
def dsjwBad (w : Nat) : Bool := decide (w / 1024 % 16 < w / 2 ^ 14 % 16) || (decide (dbtClocks w < 80) && !w.testBit 18)

/-- A LAST_VALUE object whose mask does not cover its identifier. -/
def lastBad (rd : Rd) (o : Nat) : Bool :=
  let mask := (rd o 3).toNat
  let ide := (rd o 2).toNat.testBit 29
  let need := if ide then 0x3FFFFFFF else 0x200007FF
  rd o 1 == 1 && mask &&& need != need

/-- The identifier of a receive object with IDE. -/
def rxIdent (rd : Rd) (o : Nat) : Nat := (rd o 2).toNat % 2 ^ 30

/-- The timing pairs of a controller: NBT and DBT, then the candidates. -/
def canPairs : List (Nat × Nat) := (2, 3) :: (upTo 8).map fun i => (10 + 2 * i, 11 + 2 * i)

def canFail (p : Proposal) (ks : List (Nat × Nat)) (x : Nat) : Option Fail :=
  let rd := p.rd
  let o := 0x1100 + x
  let rx := (upTo 64).map fun i => 0x1200 + 64 * x + i
  let gi := Ab.groupInconsistent
  firstFail [
    rangeFail p ks,
    firstFail (canPairs.map fun q => firstFail [failIf (nbtBad (rd o q.1).toNat) Ab.range o q.1,
      failIf (dbtBad (rd o q.1).toNat (rd o q.2).toNat) Ab.range o q.2]),
    firstFail (canPairs.map fun q => firstFail [failIf (nsjwBad (rd o q.1).toNat) gi o q.1, failIf (dsjwBad (rd o q.2).toNat) gi o q.2]),
    failEach rx fun r => failIf (lastBad rd r) gi r 3,
    failEach rx fun r => failIf (rd r 1 == 1 && rx.any fun q => decide (q < r) && rd q 1 == 1 && rxIdent rd q == rxIdent rd r) gi r 2,
    failIf ((rd o 1 == 0 || rd o 1 == 2) && ((rd 0x1031 2).toNat.testBit x || (rd 0x1031 3).toNat.testBit x)) gi o 1]

/-! ### The pair (R335) -/

def pairFail (p : Proposal) (ks : List (Nat × Nat)) : Option Fail :=
  let rd := p.rd
  firstFail [rangeFail p ks,
    failIf (rd 0xC000 1 == 1 && (rd 0xC000 3 == rd 0x1031 1 || rd 0xC000 3 == 0)) Ab.groupInconsistent 0xC000 3]

/-! ### A COMMIT (R251) -/

/-- The table of a group. -/
def groupFail (s : State) (p : Proposal) (g : Nat) : Option Fail :=
  let ks := p.keysOf g
  let own :=
    if g = 0x2020 then firstFail [rangeFail p ks, dstRange p ks, dstFail p.rd]
    else if g = 0x1100 ∨ g = 0x1101 then canFail p ks (g - 0x1100)
    else if 0x3200 ≤ g ∧ g < 0x3220 then
      firstFail [rangeFail p ks, entryFail p ks 15 30, circFail p.rd (g - 0x3200)]
    else if 0x3500 ≤ g ∧ g < 0x3510 then firstFail [rangeFail p ks, entryFail p ks 2 17]
    else if 0x3600 ≤ g ∧ g < 0x3640 then none
    else if g = 0x3800 then rulesFail p.rd
    else if 0x4000 ≤ g ∧ g < 0x4100 then loopFail p ks (g - 0x4000)
    else if g = 0x5000 then measFail p ks
    else if g = 0x6000 then ioFail p ks
    else if g = 0x7000 then vlvFail s p ks
    else if g = 0x8010 then fanFail p ks
    else if g = 0x9000 then dispFail p ks
    else if g = 0xB000 then safeFail p ks
    else if g = 0xC000 then pairFail p ks
    else rangeFail p ks
  firstFail [own, levelFail p ks]

/-- The groups that a set writes, ascending. -/
def Proposal.groups (p : Proposal) : List Nat :=
  ((p.writes.filterMap fun w => keyGroup w.1).eraseDups).mergeSort (fun a b => decide (a ≤ b))

/-- The first failing condition of a COMMIT. -/
def commitFail (s : State) (p : Proposal) : Option Fail := failEach p.groups (groupFail s p)

/-- The safety lock is engaged (R385). -/
def safetyLocked (s : State) : Bool := comN s 0xB010 1 == 1

/-- The proposal of a pending set. -/
def proposal (s : State) (pend : Table PendVal) : Proposal :=
  { table := overlay s.dict.committed (pend.map fun w => (w.1, w.2.val))
    writes := pend.map fun w => (w.1, w.2.level), locked := safetyLocked s, running := runningPwm s }

end Sys2Proof.Machine
end

