-- ==== Sys2Proof/Machine/Respond.lean ====
section
/-! DEFINITION. The two carriers of the services: framing, responses, duplicates, the phases of start-up, and the
manager watch (12_host_port_and_services, R269–R273, R281, R282, R284). -/

namespace Sys2Proof.Machine

/-! ### Frames (R269, R281) -/

/-- A frame of the host port: TYPE, TAG, LENGTH, payload, CRC. -/
def hostFrame (type tag : Nat) (payload : List Byte) : List Byte :=
  let b := bytes1 [type, tag] ++ leBytes 2 payload.length ++ payload
  b ++ leBytes 2 (crc16 b)

/-- Queue a frame of the module's services, which is an FD frame. -/
def svcQueue (s : State) (x : Nat) (kind : TxKind) (f : CanFrame) : State :=
  if canFdEn s x then canQueue s x ⟨0, kind, f⟩ else s

/-- Bytes of service payload that one frame of the session's carrier holds (R269, R281). -/
def carrierMax : Sess → Nat
  | .host => 512
  | _ => 63

/-- Send a response payload on the request's carrier: PRIORITY as the request's, DEST and SOURCE exchanged, none to
a broadcast. -/
def sendResponse (s : State) (e : Env) (svc : Nat) (payload : List Byte) : State :=
  match e.sess with
  | .host => { s with host := { s.host with resp := s.host.resp ++ [hostFrame (0x80 + svc) e.tag payload] } }
  | .can x n =>
    if e.dest = 0 then s
    else svcQueue s x .response (svcFrame e.prio (0x80 + svc) n e.dest (bytes1 [e.tag] ++ payload))
  | _ => s

/-- A status alone. -/
def statusBytes (code : Nat) : List Byte := leBytes 2 code

/-! ### Duplicates (R272) -/

/-- Remember a request whose response is not known yet. -/
def notePrev (s : State) (e : Env) (bytes : List Byte) : State :=
  modSess s e.sess fun r => { r with prev := some ⟨e.tag, bytes, []⟩ }

/-- Send a response and keep it for a duplicate of the request, unless another request has followed. -/
def answer (s : State) (e : Env) (svc : Nat) (payload : List Byte) : State :=
  let s := modSess s e.sess fun r => { r with
    prev := match r.prev with
      | some p => if p.tag = e.tag ∧ p.resp = [] then some { p with resp := payload } else some p
      | none => none }
  sendResponse s e svc payload

/-- The same request as the session's previous one. -/
def isDuplicate (s : State) (e : Env) (bytes : List Byte) : Option (List Byte) :=
  match (getSess s e.sess).prev with
  | some p => if p.tag = e.tag ∧ p.bytes = bytes then some p.resp else none
  | none => none

/-! ### The manager (R284) -/

/-- A request of the session counts for the manager watch. -/
def isManager (s : State) (x : Sess) : Bool :=
  let m := Cfg.netManagerSrc s
  m == 0xFFFF || match x with
    | .host => m == 0
    | .can _ n => m == n && m != 0
    | _ => false

/-- The manager has been heard: the host-timeout condition ends. -/
def managerHeard (s : State) : State :=
  let s := { s with host := { s.host with managerAt := s.clk } }
  if s.host.silent then
    fansEndSilence (logEvent { s with host := { s.host with silent := false } } 0x0A01 (bytes1 [0]))
  else s

/-- HOST_TIMEOUT (R284): declared after HOST_TIMEOUT without a frame of the manager; fans with tables enter table
mode (R220). -/
def execHostTimeout (s : State) : Out :=
  .next (if isUp s ∧ ¬ s.host.silent ∧ passed s s.host.managerAt (secs (Cfg.netHostTimeout s)) then
      fansEnterTable (logEvent { s with host := { s.host with silent := true } } 0x0A01 (bytes1 [1]))
    else s)

/-! ### Arrival of a request (R270, R273, R281, R282) -/

/-- The boot ROM serves recovery (R407). -/
def inRecovery (s : State) : Bool := s.power.phase = .recovery

/-- HOST_IRQ_N is low while a response or an event waits, in a phase in which the port answers (R273). -/
def hostIrqLow (s : State) : Bool :=
  (isUp s || inRecovery s) && (!s.host.resp.isEmpty || !s.host.events.isEmpty)

/-- The phase between operational and output release, in which most writes are refused. -/
def beforeRelease (s : State) : Bool := s.power.phase = .operational

/-- The module hears a CAN request: its controller carries the services and DEST names this module. A broadcast
is for WRITE only. -/
def canAddressed (s : State) (x : Nat) (e : Env) (svc : Nat) : Bool :=
  decide (x < 2) && isUp s && (Cfg.netDictCanEn s).testBit x && canHears (getCan s x) &&
    decide (8 ≤ e.prio) && decide (e.prio ≤ 15) &&
    (e.dest == Cfg.netNodeId s || (e.dest == 0 && svc == 2) ||
      (s.pair.en && isActive s && e.dest == s.pair.pairId))

/-- A frame of the session reaches the services; else what its arrival leaves. HOST_MISO reads 0xFF throughout a request
(R270). -/
def arrives (s : State) (e : Env) (svc : Nat) : Bool × State :=
  match e.sess with
  | .host =>
    let s := { s with host := { s.host with miso := [] } }
    if !(isUp s || inRecovery s) then (false, s)
    else
      match e.frame with
      | .badCrc => (false, { s with host := { s.host with crcErrors := s.host.crcErrors + 1 } })
      | .badForm => (false, { s with host := { s.host with frameErrors := s.host.frameErrors + 1 } })
      | .ok =>
        if 8 ≤ s.host.resp.length then
          (false, { s with host := { s.host with overruns := s.host.overruns + 1 } })
        else (true, s)
  | .can x n => (e.frame == .ok && decide (n < 256) && canAddressed s x e svc, s)
  | _ => (false, s)

/-- A session that has sent no request for PENDING_TIMEOUT or ACCESS_TIMEOUT loses its pending set or its level. -/
def sessExpire (s : State) (x : Sess) : State :=
  let r := getSess s x
  let s := if passed s r.lastReq (secs (Cfg.accPendingTimeout s)) then dropPending s x else s
  if passed s r.lastReq (secs (Cfg.accAccessTimeout s)) then modSess s x fun r => { r with level := 0 } else s

/-- The session has sent a request: its timers start anew; the first request of a CAN session after reset sets its
LOG_CURSOR (R247, R253, R401). -/
def touch (s : State) (x : Sess) : State :=
  let first := !(getSess s x).seen
  let s := sessExpire s x
  let s := modSess s x fun r => { r with
    lastReq := s.clk, seen := true, cursor := if first && x != .host then logOldest s else r.cursor }
  if isManager s x && isUp s then managerHeard s else s

/-- What a duplicate brings: the response kept for it, or nothing while that response is not known (R272). -/
def repeatAnswer (s : State) (e : Env) (svc : Nat) (resp : List Byte) : State :=
  if resp = [] then s else sendResponse s e svc resp

/-- Execute a request. The execution gives the response payload, or none where the response follows later. -/
def runRequest (s : State) (e : Env) (svc : Nat) (run : State → Option (List Byte) × State) : State :=
  let r := run s
  match r.1 with
  | some p => answer r.2 e svc p
  | none => r.2

/-- A request that has reached the services: answered as a duplicate or executed (R272). -/
def serve (s : State) (e : Env) (svc : Nat) (bytes : List Byte) (run : State → Option (List Byte) × State) : State :=
  match isDuplicate s e bytes with
  | some resp => repeatAnswer s e svc resp
  | none => runRequest (notePrev s e bytes) e svc run

/-- A request with its payload: discarded, answered as a duplicate, or executed. -/
def request (s : State) (e : Env) (svc : Nat) (payload : List Byte)
    (run : State → Option (List Byte) × State) : State :=
  let a := arrives s e svc
  if a.1 then serve (touch a.2 e.sess) e svc (bytes1 [svc] ++ payload) run else a.2

/-- A request whose answer is a status and, on success, further bytes. -/
def requestStatus (s : State) (e : Env) (svc : Nat) (payload : List Byte)
    (run : State → Nat × List Byte × State) : State :=
  request s e svc payload fun s =>
    let r := run s
    (some (statusBytes r.1 ++ if r.1 = 0 then r.2.1 else []), r.2.2)

end Sys2Proof.Machine
end

