-- ==== Sys2Proof/Machine/Commit.lean ====
section
/-! DEFINITION. What a committed set does: each group moves to it at its sync point, the heddle entries are rewritten,
the copies are written and the session is answered (11_object_dictionary, R251–R253, R261–R264, R266;
15_memory_and_repair, R352). -/

namespace Sys2Proof.Machine

/-! ### Schedules of circuits (R69–R73) -/

/-- The schedule of a circuit is evaluated: its scheduled state, its flags, and the request that follows. The next
switch instant, later than the one in force, that the calendar reaches ends OVERRIDE 3 and 4 (R71). -/
def circSchedule (s : State) (c : Nat) (event : Bool) : State :=
  if s.cal.st = 0 then circRefresh s c
  else
    match latestSwitch s (circEntries s c) (utcSec s) with
    | none => circRefresh (modCirc s c fun r => { r with sched := none, schedAt := none }) c
    | some x =>
      let next := match (getCirc s c).schedAt with
        | some a => decide (a < x.at_)
        | none => false
      let s := modCirc s c fun r =>
        circFlag cfSkipped x.skipped (circFlag cfRepeated x.repeated { r with sched := some x.on, schedAt := some x.at_ })
      let k := memKey (0x3200 + c) 12
      let s := if event && next && decide (3 ≤ Cfg.circOverride s c) then writeRw s k (.num 0) else s
      circRefresh s c

/-! ### A group moves to the committed set (R252) -/

/-- A unit waits for its sync point. -/
def addWait (s : State) (u : SyncUnit) : State :=
  if s.dict.waiting.contains u then s else { s with dict := { s.dict with waiting := s.dict.waiting ++ [u] } }

/-- The written members of a group come into force. -/
def forceKeys (s : State) (keys : List Nat) : State := forAll keys (fun s k => setForce s k (committedVal s k)) s

/-- Some written member lies in an object. -/
def touches (keys : List Nat) (o : Nat) : Bool := keys.any fun k => k / 256 == o

/-- A circuit group (R81): a disabled circuit, or one with another OUTPUT, withdraws what no sealed set holds. -/
def circSync (s : State) (c : Nat) (keys : List Nat) : State :=
  let out := Cfg.circOutput s c
  let s := forceKeys s keys
  let s := if !Cfg.circEnable s c || Cfg.circOutput s c != out then circWithdraw s c else s
  let s := if Cfg.circEnable s c then s else modCirc s c fun r => { r with due := none }
  circSchedule s c false

/-- A loop group (R103): at once where the loop takes no samples on the set in force, where the new set disables it, and
after LOOP_FAULT; else at the next sample. A COMMIT of ENABLE 1 ends LOOP_FAULT (R110). -/
def loopSync (s : State) (n : Nat) (keys : List Nat) : State :=
  let on := comI s (0x4000 + n) 1 == 1
  if loopIdle s n || !on then
    let was := (getLoop s n).enabled && (getLoop s n).fault
    let s := loopTakeSet s n
    if was && on && keys.contains (memKey (0x4000 + n) 1) && released s then loopBegin s n else s
  else addWait s (.loop n)

/-- A triggered conversion that waits takes the channels of the new set (R157). -/
def requeue (s : State) (q : QConv) : QConv :=
  let a := Cfg.trigChanA s q.entry
  let b := Cfg.trigChanB s q.entry
  ⟨q.entry, q.due, a, b, decide (308 ≤ a) && decide (a < 332) && Cfg.aiXcheckEn s (a - 308) && b == 0xFFFF⟩

/-- The conversions that have not started move to the new set; one whose entry or scan names its channel no longer is
dropped. -/
def convsMove (s : State) : State :=
  { s with meas := { s.meas with
    queue := (s.meas.queue.map (requeue s)).filter fun q =>
      Cfg.trigSource s q.entry != 0xFFFF && (qUses .a q || qUses .b q)
    cQueue := s.meas.cQueue.filter fun c => decide (332 ≤ c) || (scanChans s).contains c } }

/-- The measurement group (R157): the conversions that wait move to the new set; AI_MODE or SENSOR changed sets RECOVERING for
1 ms (R151); a timer whose PERIOD is written starts anew. -/
def measSync (s : State) (keys : List Nat) : State :=
  let old := s
  let s := convsMove (forceKeys s keys)
  let s := forAll (upTo 24) (fun s k =>
    if Cfg.aiAiMode s k ≠ Cfg.aiAiMode old k ∨ Cfg.aiSensor s k ≠ Cfg.aiSensor old k then
      recoverUntil s k (after s.clk (msecs 1))
    else s) s
  let s := forAll (upTo 8) (fun s m =>
    if touches keys (0x5010 + m) then
      { s with meas := { s.meas with
        timers := Table.set (blank 0) s.meas.timers m (s.clk + Cfg.mtPeriod s m) } }
    else s) s
  if keys.contains 0x500008 then
    { s with meas := { s.meas with scanDue := after s.clk (msecs (Cfg.measCScanPeriod s)) } }
  else s

/-- The valve group (R184): PEAK_LIMIT, the band edges and the other members of 0x7000 at COMMIT; a channel that is OFF
or in FAULT takes its set at once, any other at its next card start or reference update. -/
def valveSync (s : State) (keys : List Nat) : State :=
  let s := forceKeys s (keys.filter fun k => decide (k / 256 < 0x7100))
  let s := forAll (upTo 16) (fun s v =>
    let c := getVlv s v
    if (c.st = .off ∧ c.startDue = none) ∨ c.st = .fault then vlvSyncMode (vlvTakeSet s v) v
    else addWait s (.valve v)) s
  bandsRound s

/-- The fan group (R221): a STOPPED fan takes its set at once, any other at its next speed evaluation. -/
def fanSync (s : State) : State :=
  forAll (upTo 12) (fun s f =>
    let s := addWait s (.fan f)
    if (getFan s f).st = 0 then fanTakeSet s f else s) s

/-- The group of controller `x` (R296); one that is OFF takes it at once. -/
def canGroupSync (s : State) (x : Nat) : State :=
  let s := addWait s (.can x)
  if (getCan s x).st = 0 then canTakeSet s x else canSync s x

/-- Group `g` moves, or begins to wait. -/
def groupSync (s : State) (keys : List Nat) (g : Nat) : State :=
  let ks := keys.filter fun k => keyGroup k == some g
  if g = 0x2001 then addWait s .warp
  else if g = 0x3800 then addWait s .rules
  else if 0x3600 ≤ g ∧ g < 0x3640 then addWait s (.event (g - 0x3600))
  else if 0x3200 ≤ g ∧ g < 0x3220 then circSync s (g - 0x3200) ks
  else if 0x4000 ≤ g ∧ g < 0x4100 then loopSync s (g - 0x4000) ks
  else if g = 0x1100 ∨ g = 0x1101 then canGroupSync s (g - 0x1100)
  else if g = 0x5000 then measSync s ks
  else if g = 0x6000 then ioTakeSet s
  else if g = 0x7000 then valveSync s ks
  else if g = 0x8010 then fanSync s
  else if g = 0x9000 then dispCommit (addWait s .display)
  else if g = 0xA010 then addWait s .thermal
  else
    let s := forceKeys s ks
    if g = 0x2020 ∨ g = 0x2030 then
      let s := forAll (upTo 32) (fun s c => if Cfg.circEnable s c then circSchedule s c false else s) s
      { s with cal := { s.cal with astroAsked := true } }
    else s

/-! ### Heddle entries (R25, R352) -/

/-- Group `g` bears on channel `h`, between the configurations `old` and `new_`. -/
def bearsOn (old new_ : Rd) (g h : Nat) : Bool :=
  if g = 0x6000 then decide (256 ≤ h) && decide (h < 288)
  else if g = 0x7000 then decide (288 ≤ h) && decide (h < 304)
  else if g = 0x8010 then decide (304 ≤ h) && decide (h < 308)
  else if g = 0x5000 then decide (308 ≤ h) && decide (h < 340)
  else if g = 0xB000 ∨ g = 0xC000 then true
  else if 0x4000 ≤ g ∧ g < 0x4100 then old g 13 == (h : Int) || new_ g 13 == (h : Int)
  else if 0x3200 ≤ g ∧ g < 0x3220 then old g 2 == (h : Int) || new_ g 2 == (h : Int)
  else false

/-- The channels whose entries a COMMIT of the groups rewrites. -/
def heddleChans (old new_ : Rd) (groups : List Nat) : List Nat :=
  ((upTo 84).map (· + 256)).filter fun h => groups.any fun g => bearsOn old new_ g h

/-- The loop slots whose entries it rewrites: their own groups, and those that carry fields of a rewritten channel. -/
def heddleSlots (new_ : Rd) (groups chans : List Nat) : List Nat :=
  (upTo 256).filter fun n => groups.contains (0x4000 + n) || chans.any fun h => new_ (0x4000 + n) 13 == (h : Int)

/-- Every entry of the table. -/
def heddleAll (s : State) : State := forAll (upTo 340) heddleRewriteEntry s

/-! ### The committed set takes effect -/

/-- Store a command of a channel. -/
def setCmd (s : State) (o m : Nat) (v : Int) : State := setRw s (memKey o m) (.num v)

/-- A loop that stops owning a channel leaves it at its last command: where the dictionary is the new owner, its command
member takes that value (R104). -/
def keepCommand (old : State) (s : State) (h : Nat) : State :=
  match ownerOf old h, ownerOf s h with
  | .loop _, .dict =>
    let k := cmdMember s h
    let isSwitch := decide (288 ≤ h) && decide (h < 304) && k.2 == 1
    let v : Int := if isSwitch then (if (getVlv old (h - 288)).cmdOn then 0xFFFFFFFF else 0) else ownerCmd old h
    setCmd s k.1 k.2 v
  | _, _ => s

/-- A loop that is enabled finds on its channel what the owner before it had commanded last (R104). -/
def takeCommand (old : State) (s : State) (h : Nat) : State :=
  match ownerOf s h with
  | .loop n => if rdLoopOn (comI old) n || !released s then s else modLoop s n fun l => { l with takeOver := some (latestCmd old h) }
  | _ => s

/-- What an RW member of the configuration brings about beyond its value (R71, R385). -/
def rwEffect (s : State) (key : Nat) : State :=
  if isOverrideKey key then circRefresh s (key / 256 - 0x3200) else s

/-- The members of a job take their committed values. The RW members of a generation that only stores them have theirs
already. -/
def takeContent (s : State) (content : Table Val) (keys : List Nat) (stored : Bool) : State :=
  forAll keys (fun s k =>
    let v := Table.getD dfltOf content k
    match findMem (k / 256) (k % 256) with
    | none => s
    | some d => if d.acc = .rwg then setCommitted s k v else if stored then s else rwEffect (setRw s k v) k) s

/-- The groups that a list of members belongs to, ascending. -/
def groupsOf (keys : List Nat) : List Nat :=
  ((keys.filterMap keyGroup).eraseDups).mergeSort fun a b => decide (a ≤ b)

/-- A set takes effect at the acknowledgment (R252): the members, their groups, the heddle entries, the owners. -/
def commitEffect (s : State) (j : CopyJob) : State :=
  let old := s
  let stored : Bool := match j.for_ with
    | .rw => true
    | _ => false
  let s := takeContent s j.content j.changed stored
  let gs := groupsOf (j.changed.filter fun k => match findMem (k / 256) (k % 256) with
    | some d => d.acc == .rwg
    | none => false)
  let s := { s with dict := { s.dict with gen := j.gen } }
  let s := forAll outEntries (fun s h => takeCommand old (keepCommand old s h) h) s
  let s := forAll gs (fun s g => groupSync s j.changed g) s
  let s := latchSafe (poolAssign s)
  let whole : Bool := match j.for_ with
    | .image _ => true
    | _ => false
  let chans := heddleChans (comI old) (comI s) gs
  let s := if whole then heddleAll s
    else forAll (heddleSlots (comI s) gs chans ++ chans) heddleRewriteEntry s
  let s := forAll (outEntries.filter fun h => (released s || decide (332 ≤ h)) && (whole || chans.contains h)) applyOut s
  sendConfig s j.gen (j.changed.map fun k => (k, Table.getD dfltOf j.content k))

/-- DIVERGENT and LOST end: outputs take their owners' commands again (R266). -/
def leaveBad (s : State) : State :=
  if configBad s then
    let s := dropAlarm .configLost (dropAlarm .configDivergent { s with dict := { s.dict with st := 1 } })
    if released s then applyAll s else s
  else s

/-! ### COMMIT (R251, R263, R266) -/

/-- What a session's own COMMITs are still writing: those writes no longer wait for a COMMIT. -/
def inFlight (s : State) (p : CommitFor → Bool) : List (Nat × Val) :=
  ((s.dict.job.toList ++ s.dict.jobs).filter fun j => p j.for_).flatMap fun j =>
    j.changed.map fun k => (k, Table.getD dfltOf j.content k)

/-- The job answers this session's COMMIT. -/
def isOwnJob (x : Sess) (f : CommitFor) : Bool :=
  match f with
  | .session e => e.sess == x
  | _ => false

/-- The pending writes of a session that no COMMIT is writing. -/
def openPending (s : State) (x : Sess) : Table PendVal :=
  let own := inFlight s (isOwnJob x)
  (getSess s x).pending.filter fun p => !own.contains (p.1, p.2.val)

/-- The proposal of a COMMIT: what earlier sets leave, with the pending writes over it. -/
def commitProposal (s : State) (pend : Table PendVal) : Proposal :=
  { proposal s pend with
    table := overlay (overlay s.dict.committed (inFlight s fun _ => true)) (pend.map fun w => (w.1, w.2.val)) }

/-- The highest generation found or written. -/
def topGen (s : State) : Nat :=
  ((s.dict.copyGen ++ s.mram.copies.map fun c => c.gen) ++ [nextGen s - 1]).foldl max 0

/-- The generation that a set takes. -/
def genFor (s : State) : Nat := if configBad s then topGen s + 1 else nextGen s

/-- No generation is left (R255). -/
def genFull (s : State) : Bool := decide (0xFFFFFFFF < genFor s)

/-- The member fields of a COMMIT response: the failing member, or values the manual does not give (log entry 8). -/
def commitFields (s : State) (f : Option (Nat × Nat)) : List Byte × State :=
  match f with
  | some p => (leBytes 2 p.1 ++ bytes1 [p.2, 0], s)
  | none => let v := takeFree s; (leBytes 3 v.1 ++ bytes1 [0], v.2)

/-- A refused COMMIT: STATUS, OBJECT, MEMBER. -/
def commitRefused (s : State) (code : Nat) (f : Option (Nat × Nat)) : Option (List Byte) × State :=
  let p := commitFields s f
  (some (statusBytes code ++ p.1), p.2)

/-- A successful COMMIT: STATUS, OBJECT, MEMBER, CONFIG_GEN. -/
def commitDone (s : State) : List Byte × State :=
  let p := commitFields s none
  (statusBytes 0 ++ p.1 ++ leBytes 4 p.2.dict.gen, p.2)

/-- COMMIT of a session: checked on arrival; the answer follows when copy 1 is written. -/
def commitOp (s : State) (e : Env) : Option (List Byte) × State :=
  let lvl := (getSess s e.sess).level
  let pend := openPending s e.sess
  if inRecovery s || beforeRelease s then commitRefused s Ab.busy none
  else if configBad s ∧ lvl < 3 then commitRefused s Ab.accessLevel none
  else
    match commitFail s (commitProposal s pend) with
    | some f => commitRefused s f.code (some (f.obj, f.mem))
    | none =>
      if pend.isEmpty && !configBad s then
        let p := commitDone s
        (some p.1, p.2)
      else if genFull s then commitRefused s Ab.storage none
      else
        let content := overlay (baseContent s) (pend.map fun w => (w.1, w.2.val))
        (none, startJob s ⟨genFor s, content, pend.map fun w => w.1, lvl, .session e, 0⟩)

/-- COMMIT (R251). -/
def execCommit (e : Env) (s : State) : Out := .next (request s e 3 [] fun s => commitOp s e)

/-- ABORT (R253): the pending set is discarded and its groups are released. -/
def execAbort (e : Env) (s : State) : Out :=
  .next (requestStatus s e 4 [] fun s =>
    if inRecovery s then (Ab.busy, [], s) else (0, [], clearPending s e.sess))

/-! ### The copies (R263, R264) -/

/-- Store one copy. -/
def putCopy (s : State) (k : Nat) (c : CfgCopy) : State :=
  mramWritten { s with mram := { s.mram with copies := setNth s.mram.copies k c } } (0x400000 + 0x80000 * k)
    (0x480000 + 0x80000 * k)

/-- The next job's copies begin. -/
def nextJob (s : State) : State :=
  match s.dict.jobs with
  | [] => { s with dict := { s.dict with job := none } }
  | j :: t => { s with dict := { s.dict with job := some j, jobs := t } }

/-- The jobs that wait, without the changes of one that failed. -/
def rebase (base : Table Val) : List CopyJob → List CopyJob
  | [] => []
  | j :: t =>
    let whole : Bool := match j.for_ with
      | .image _ | .partner => true
      | _ => false
    let c := if whole then j.content else overlay base (j.changed.map fun k => (k, Table.getD dfltOf j.content k))
    { j with content := c } :: rebase c t

/-- The committed writes leave their session's pending set. -/
def settlePending (s : State) (x : Sess) (j : CopyJob) : State :=
  modSess s x fun r => { r with
    pending := r.pending.filter fun p => !(j.changed.contains p.1 && p.2.val == Table.getD dfltOf j.content p.1) }

/-- Copy 1 is written: the set takes effect and its sender is answered. -/
def jobDone (s : State) (j : CopyJob) : State :=
  let s := leaveBad (commitEffect s j)
  match j.for_ with
  | .session e =>
    let s := settlePending s e.sess j
    let p := commitDone s
    answer p.2 e 3 p.1
  | .image e => answer s e 2 (statusBytes 0)
  | _ => s

/-- A copy cannot be written: STORAGE, and the pending set stays pending. -/
def jobFailed (s : State) (j : CopyJob) : State :=
  let s := { s with dict := { s.dict with jobs := rebase (configOf s.dict.committed) s.dict.jobs } }
  match j.for_ with
  | .session e =>
    let p := commitRefused s Ab.storage none
    answer p.2 e 3 (p.1.getD [])
  | .image e => answer s e 2 (statusBytes Ab.storage)
  | .rw => { s with dict := { s.dict with rwDirty := some s.clk } }
  | .partner => s

/-- COPY_WRITE_COMPLETE (R263): the copy in progress has been written and read back, or could not be written. -/
def execCopyWriteComplete (ok : Bool) (s : State) : Out :=
  .next (match s.dict.job with
    | none => s
    | some j =>
      let old := nth ⟨0, 0, false, false, []⟩ s.mram.copies j.copy
      if ok then
        let s := putCopy s j.copy ⟨j.gen, schemaVersion, true, false, j.content⟩
        if j.copy = 0 then { s with dict := { s.dict with job := some { j with copy := 1 } } }
        else if j.copy = 1 then jobDone { s with dict := { s.dict with job := some { j with copy := 2 } } } j
        else nextJob s
      else
        let s := putCopy s j.copy { old with intact := false, blank := false }
        if j.copy < 2 then nextJob (jobFailed s j) else nextJob s)

/-- PERSISTENT_RW_GENERATION (R263): within 1 s of a change of a persistent RW member, all of them as one generation. -/
def execPersistentRwGeneration (s : State) : Out :=
  .next (match s.dict.rwDirty with
    | none => s
    | some _ =>
      let s := { s with dict := { s.dict with rwDirty := none } }
      if configBad s || genFull s then s
      else
        let last := match s.dict.jobs.getLast? with
          | some j => j.content
          | none => match s.dict.job with
            | some j => j.content
            | none => (nth ⟨0, 0, false, false, []⟩ s.mram.copies 0).content
        let now_ := configOf s.dict.committed
        let rw := (diffKeys last now_).filter fun k => match findMem (k / 256) (k % 256) with
          | some d => d.acc != .rwg
          | none => false
        let content := overlay last (rw.map fun k => (k, Table.getD dfltOf now_ k))
        startJob s ⟨nextGen s, content, rw, 0, .rw, 0⟩)

/-! ### Activation of a configuration image (R260, R261, R287, R290) -/

/-- Some session holds a group. -/
def anyHeld (s : State) : Bool := s.dict.sessions.any fun p => !p.2.pending.isEmpty

/-- Writes by ascending member. -/
def overlayLevels (a b : List (Nat × Nat)) : List (Nat × Nat) := (a ++ b).mergeSort fun x y => decide (x.1 ≤ y.1)

/-- The members that an image holds. -/
def imageHeld (l : List Byte) : List (Nat × Val) := (imageMembers l).getD []

/-- The configuration that an image spells: members it does not hold take their defaults. -/
def imageContent (l : List Byte) : Table Val := configOf (overlay [] (imageHeld l))

/-- The image's schema is refused: another MAJOR, a higher MINOR, or in mixed operation of the active module above the
lower MINOR of the pair. -/
def imageSchemaBad (s : State) (v : Nat) : Bool :=
  v / 65536 != schemaVersion / 65536 || decide (schemaVersion / 256 % 256 < v / 256 % 256) ||
    (s.images.mixed && isActive s && decide (min schemaVersion s.images.peerSchema / 256 % 256 < v / 256 % 256))

/-- The COMMIT that an image stands for: the members it holds are writes at its level, and the members that fall back
to their defaults bring their groups under the checks. -/
def imageProposal (s : State) (l : List Byte) : Proposal :=
  let held := overlay [] (imageHeld l)
  let back := (diffKeys (configOf s.dict.committed) (imageContent l)).filter fun k => held.all fun w => w.1 != k
  { table := held
    writes := overlayLevels (held.map fun w => (w.1, imgLevel l)) (back.map fun k => (k, 4))
    locked := false, running := runningPwm s }

/-- A member that the image holds lies above its level. -/
def imageLevelBad (l : List Byte) : Bool :=
  (imageHeld l).any fun w => match findMem (w.1 / 256) (w.1 % 256) with
    | some d => decide (imgLevel l < d.level)
    | none => true

/-- An image would change a level-3 member while the safety lock is engaged (R385). -/
def imageLocked (s : State) (l : List Byte) : Bool :=
  safetyLocked s && (diffKeys (configOf s.dict.committed) (imageContent l)).any fun k =>
    match findMem (k / 256) (k % 256) with
    | some d => d.level == 3
    | none => false

/-- The CARD_IMAGE members that an image holds: engine and bytes (R165). -/
def imageCards (l : List Byte) : List (Nat × List Byte) :=
  (imageHeld l).filterMap fun w =>
    if w.1 % 256 = 1 ∧ 0x7300 ≤ w.1 / 256 ∧ w.1 / 256 < 0x7304 then some (w.1 / 256 - 0x7300, valBlob w.2) else none

/-- The card memory as an image leaves it. -/
def loadCards (s : State) (l : List Byte) : State := forAll (imageCards l) (fun s c => loadCard s c.1 c.2) s

/-- What refuses the activation of a VALID configuration image. -/
def imageActivateCode (s : State) (lvl : Nat) : Nat :=
  let l := s.images.staged
  firstCode [codeIf (imgLevel l == 3 && decide (lvl < 3)) Ab.accessLevel, codeIf (imageLocked s l) Ab.safetyLocked,
    codeIf (anyHeld s) Ab.busy, codeIf (imageSchemaBad s (imgSchema l)) Ab.schemaVersion,
    firstCode ((imageCards l).map fun c => cardImageCode s c.1 c.2),
    (match commitFail (loadCards s l) (imageProposal s l) with
     | some f => f.code
     | none => codeIf (imageLevelBad l) Ab.accessLevel),
    codeIf (genFull s) Ab.storage]

/-- The copies of an accepted image begin to be written. -/
def imageJob (s : State) (e : Env) : State :=
  let content := imageContent s.images.staged
  startJob (loadCards s s.images.staged) ⟨genFor s, content, diffKeys (baseContent s) content, imgLevel s.images.staged, .image e, 0⟩

end Sys2Proof.Machine
end

