-- ==== Sys2Proof/Machine/Writes.lean ====
section
/-! DEFINITION. A WRITE: the conditions in the order of R256, and what each written member does in its own block
(11_object_dictionary, R242–R257, and the chapters that own the members). -/

namespace Sys2Proof.Machine

/-! ### Who may write (R245–R249) -/

/-- The level of a session (R245, R246). -/
def sessLevel (s : State) (x : Sess) : Nat :=
  match x with
  | .rules | .events => 2
  | .selvedge => 3
  | .image => 4
  | _ => (getSess s x).level

/-- A group is held by another session. -/
def heldByOther (s : State) (x : Sess) (g : Nat) : Bool :=
  s.dict.sessions.any fun p => p.1 != sessKey x && p.2.pending.any fun w => keyGroup w.1 == some g

/-- ACCESS_CODE writes of the session are refused for a time (R247). -/
def lockedOut (s : State) (x : Sess) : Bool :=
  match (getSess s x).lockUntil with
  | some t => decide (s.clk < t)
  | none => false

/-- The level that a write of the member needs: SAFETY_PUBKEY needs level 2 while the key is blank (R383), and
nothing can have a level in boot-ROM recovery (log entry 31). -/
def needLevel (s : State) (o m : Nat) (d : MemDef) : Nat :=
  if inRecovery s then 0
  else if o = 0xB010 ∧ m = 2 ∧ keyBlank s then 2
  else d.level

/-- ACCESS_LEVEL of an RW or WO member. -/
def levelBad (s : State) (x : Sess) (o m : Nat) (d : MemDef) : Bool :=
  d.acc != .rwg && (decide (sessLevel s x < needLevel s o m d) || (o == 0x1010 && m == 2 && lockedOut s x))

/-- SAFETY_LOCKED (R385). -/
def lockBad (s : State) (o m : Nat) (d : MemDef) : Bool :=
  safetyLocked s && d.level == 3 && !(o == 0xB010 && m == 1)

/-- The phase of start-up does not serve the write (R273). -/
def phaseBad (s : State) (o m : Nat) (data : List Byte) : Bool :=
  if inRecovery s then
    !(o == 0x1040 && ((m == 1 && data == bytes1 [1]) || ((m == 3 || m == 4 || m == 6) && s.images.kind != 2)))
  else beforeRelease s && !(o == 0x1010 || o == 0x1040 || o == 0x1041 || (o == 0xB010 && m == 4))

/-! ### Command objects (R18, R209, R324) -/

/-- The output channel that a command object commands. -/
def cmdChannel (o m : Nat) : Option Nat :=
  if 0x6200 ≤ o ∧ o < 0x6220 ∧ m = 1 then some (256 + (o - 0x6200))
  else if 0x7200 ≤ o ∧ o < 0x7210 ∧ (m = 1 ∨ m = 2) then some (288 + (o - 0x7200))
  else if 0x8100 ≤ o ∧ o < 0x8104 ∧ m = 1 then some (304 + (o - 0x8100))
  else if 0x5300 ≤ o ∧ o < 0x5308 ∧ m = 2 then some (332 + (o - 0x5300))
  else none

/-- The dictionary does not own the channel (R18), an IO that is no output having no owner (R352); CMD of 0x8100+f serves
direct fans in BUILTIN only (R221; log entry 45). -/
def ownedBad (s : State) (o m : Nat) : Bool :=
  match cmdChannel o m with
  | none => decide (0x8104 ≤ o) && decide (o < 0x810C) && m == 1
  | some h => (isOutEntry h && heddleOwner s h != 0x0200) ||
      (decide (304 ≤ h) && decide (h < 308) && comI s (0x8030 + (h - 304)) 1 == 1)

/-- What a standby admits from its own sessions (R324). -/
def standbyAdmits (s : State) (o m : Nat) : Bool :=
  o == 0x1010 || o == 0x1040 || o == 0x1041 || (o == 0xB010 && m == 4) || (decide (0xC000 ≤ o) && decide (o < 0xD000)) ||
    match cmdChannel o m with
    | some h => (decide (0x8100 ≤ o) && decide (o < 0x810C)) || isLocal s h
    | none => false

/-- A standby refuses the write. -/
def standbyBad (s : State) (x : Sess) (o m : Nat) : Bool := isStandby s && x != .selvedge && !standbyAdmits s o m

/-! ### The range of a write (R242, R243 and the chapters) -/

/-- RANGE of a write into a consistency group: a BOOL (R243), and in the local-time group the Meaning column (R242) and
the writes that R47 names. Every other value is checked at COMMIT. DEDUCED: notes/assumptions/38. -/
def rangeBadRwg (o m : Nat) (d : MemDef) (v : Val) : Bool :=
  if d.ty = .bool then rangeBad d v
  else decide (0x2020 ≤ o) && decide (o ≤ 0x2028) &&
    (rangeBad d v || (decide (0x2021 ≤ o) && dstMemberBad m (valInt v)))

/-- RANGE of an RW or WO write beyond the Meaning column. -/
def rangeBadOwn (s : State) (o m : Nat) (v : Val) : Bool :=
  if 0x4800 ≤ o ∧ o < 0x4900 ∧ m = 17 then
    decide (valInt v < comI s (o - 0x800) 11) || decide (comI s (o - 0x800) 12 < valInt v)
  else if o = 0x2010 then (if m = 1 then !calOk (valNat v) else slewBad s (valInt v))
  else if o = 0xE010 then decide (340 < valNat v % 65536 + valNat v / 65536) || decide (340 ≤ valNat v % 65536)
  else if o = 0xB010 ∧ m = 2 then (valBlob v).all fun b => b == 0#8
  else if o = 0x9010 then imageLenBad m (valBlob v)
  else if 0x4C00 ≤ o ∧ o < 0x4D00 ∧ m = 15 then decide ((valBlob v).length ≠ 4 * comN s o 4)
  else false

/-! ### ARM (R80) -/

/-- The conditions of R80 on a write to ARM: those of R78 on the event's group, in their order. -/
def armCheck (s : State) (e : Nat) : Nat :=
  let rd := comI s
  let o := 0x3600 + e
  let refs := fun c => refsFail c o (eventRefs rd e)
  let bad := fun m b => failIf b Ab.range o m
  match firstFail [refs 1, refs 2, refs 3, refs 4, bad 1 (decide (2 < rd o 1)), bad 6 (rd o 6 != 0 && rd o 6 != 2),
      bad 7 (rd o 6 == 2 && decide (15 < rd o 7)), refs 6] with
  | some f => f.code
  | none => 0

/-- What refuses a write of `v` to ARM. -/
def armCode (s : State) (e : Nat) (v : Int) : Nat :=
  let r := getEvent s e
  firstCode [codeIf (r.st == 1 && r.sealed) Ab.state, if v = 1 then armCheck s e else 0]

/-- The event acts through the armed set: in the mains-phase domain, on the command of a channel that Loom owns. A member that
is not the channel's command in its mode (PROP_CMD of a SWITCHED valve) is none: its write is refused. -/
def actsInSet (s : State) (domain action target : Nat) : Bool :=
  domain == 0 && action == 0 &&
    match cmdChannel (target / 256) (target % 256) with
    | some h => (match ownerOf s h with
      | .loom _ => cmdMember s h == (target / 256, target % 256)
      | _ => false)
    | none => false

/-- The set of a cycle is sealed. -/
def isSealed (s : State) (cycle : Nat) : Bool := decide (cycle ≤ s.loom.sealedCycle)

/-- The time of an event has passed, or its set is sealed. -/
def eventLate (s : State) (r : UEvent) : Bool :=
  if r.domain = 0 then
    decide (r.whenWarp < warpNow s) || (actsInSet s r.domain r.action r.target && isSealed s (r.whenWarp / 65536))
  else if r.domain = 1 then s.cal.st != 0 && decide (r.whenCal < s.cal.now)
  else decide (r.sample ≤ (getLoop s r.loop).samples)

/-- A write of 1 to ARM: the event takes its committed group and is armed. A write of 0 cancels an armed one. -/
def armOp (s : State) (e : Nat) (v : Int) : State :=
  let s := setRw s (memKey (0x3600 + e) 9) (.num v)
  if v = 1 then
    let s := syncDone (.event e) (takeObj s (0x3600 + e))
    let r : UEvent :=
      { st := 1, domain := Cfg.evDomain s e, whenWarp := Cfg.evWhenWarp s e, whenCal := Cfg.evWhenCal s e
        loop := Cfg.evLoop s e, sample := Cfg.evSample s e, action := Cfg.evAction s e
        target := Cfg.evTarget s e, value := Cfg.evValue s e }
    modEvent s e fun _ => { r with late := eventLate s r }
  else modEvent s e fun r => if r.st = 1 then { r with st := 4 } else r

/-! ### The state of the owning block -/

/-- IMAGE_ACTIVATE (R286–R288, R290). -/
def activateCode (s : State) (lvl : Nat) : Nat :=
  if s.images.st ≠ 3 then firstCode [codeIf (s.images.kind == 2 && anyHeld s) Ab.busy, Ab.state]
  else if s.images.kind = 2 then imageActivateCode s lvl
  else codeIf (s.pair.en && isActive s) Ab.state

/-- ACCESS_CODE follows no ACCESS_REQUEST of the last 10 s (R247). -/
def codeUnasked (s : State) (x : Sess) : Bool :=
  match (getSess s x).asked with
  | some p => !decide (s.clk ≤ after p.2 (secs 10))
  | none => true

/-- The abort code that the owning block gives an RW or WO write whose value is in range. -/
def blockCode (s : State) (x : Sess) (o m : Nat) (v : Val) : Nat :=
  let n := valInt v
  let stateIf := fun b => codeIf b Ab.state
  if o = 0x1010 then stateIf (m == 2 && codeUnasked s x)
  else if o = 0x1040 then
    (if m = 3 then imageChunkCode s (valBlob v) else if m = 6 ∧ n = 1 then activateCode s (sessLevel s x) else 0)
  else if 0x1100 ≤ o ∧ o < 0x1102 then stateIf (sleepBad s (o - 0x1100) n)
  else if 0x1110 ≤ o ∧ o < 0x1112 then stateIf (n == 1 && recoverBad s (o - 0x1110))
  else if 0x1120 ≤ o ∧ o < 0x1122 ∧ m = 1 then txFrameCode s (o - 0x1120) (valBlob v)
  else if 0x3600 ≤ o ∧ o < 0x3640 then armCode s (o - 0x3600) n
  else if 0x4800 ≤ o ∧ o < 0x4900 ∧ m = 16 then stateIf (n == 2 && comI s (o - 0x800) 8 == 0xFFFF)
  else if o = 0x6000 then stateIf (n == 1 && !rearmOk s)
  else if 0x7300 ≤ o ∧ o < 0x7304 then cardImageCode s (o - 0x7300) (valBlob v)
  else if o = 0xA040 then stateIf (n == 1 && thermClearBad s)
  else if o = 0xB000 then
    stateIf (n == 1 && ((m == 4 && !causesGone s) || (m == 9 && safetyTestBad s)))
  else if o = 0xC002 then stateIf (n == 1 && (if m = 1 then switchoverBad s else forceBad s))
  else 0

/-- A busy unit (R355), and the group of another session (R249). -/
def busyBad (s : State) (x : Sess) (o m : Nat) (d : MemDef) (data : List Byte) : Bool :=
  phaseBad s o m data || (o == 0xE010 && s.mem.invState == 1) ||
    (d.acc == .rwg && match groupOf o with
      | some g => heldByOther s x g
      | none => false)

/-- LENGTH_ZERO (R257): an empty BLOB, an invalidation of no entry. -/
def zeroBad (o : Nat) (d : MemDef) (data : List Byte) : Bool :=
  lengthZeroOf d.ty data || (o == 0xE010 && data.length == 4 && leNat data / 65536 == 0)

/-- A code that stands before STATE in the order of R256. -/
def beforeState (c : Nat) : Bool := c == Ab.busy || c == Ab.lengthZero || c == Ab.type || c == Ab.range

/-- The abort code of a write by the order of R256; 0 where none applies. -/
def writeCode (s : State) (x : Sess) (o m : Nat) (data : List Byte) : Nat :=
  if (findObj o).isNone then Ab.noObject
  else if m = 0 then Ab.readOnly
  else
    match findMem o m with
    | none => Ab.noMember
    | some d =>
      let v := dataVal d.ty data
      let block := if d.acc = .rwg then 0 else blockCode s x o m v
      firstCode [codeIf (d.acc == .ro) Ab.readOnly, codeIf (levelBad s x o m d) Ab.accessLevel,
        codeIf (lockBad s o m d) Ab.safetyLocked, codeIf (busyBad s x o m d data) Ab.busy,
        codeIf (zeroBad o d data) Ab.lengthZero, codeIf (typeBad d.ty o m data) Ab.type,
        codeIf (if d.acc = .rwg then rangeBadRwg o m d v else rangeBad d v || rangeBadOwn s o m v) Ab.range,
        codeIf (beforeState block) block, codeIf (standbyBad s x o m || ownedBad s o m) Ab.state, block]

/-! ### Codes and challenges (R247, R384) -/

/-- A wrong code or a response that fails: five within 60 s lock ACCESS_CODE out for 60 s. -/
def noteWrong (s : State) (x : Sess) : State :=
  modSess s x fun r =>
    let l := recent s (secs 60) r.wrongAt ++ [s.clk]
    if 5 ≤ l.length then { r with wrongAt := [], lockUntil := some (after s.clk (secs 60)) } else { r with wrongAt := l }

/-- ACCESS_REQUEST: 0 gives the level up, 1 and 2 ask for it. -/
def askLevel (s : State) (x : Sess) (n : Nat) : State :=
  modSess s x fun r => if n = 0 then { r with level := 0, asked := none } else { r with asked := some (n, s.clk) }

/-- ACCESS_CODE: the level asked when the code is right. -/
def tryCode (s : State) (x : Sess) (code : Nat) : Nat × State :=
  let lvl := match (getSess s x).asked with
    | some p => p.1
    | none => 0
  let want := comN s 0x1011 lvl
  if want = 0 ∨ code = want then (0, modSess s x fun r => { r with level := lvl, asked := none })
  else (Ab.accessLevel, noteWrong s x)

/-- The signature of a response verifies over the challenge of the session followed by SERIAL. -/
def responseOk (s : State) (x : Sess) (sig : List Byte) : Bool :=
  match (getSess s x).chal with
  | some p => decide (s.clk < p.2) && !keyBlank s &&
      ecdsaOk (valBlob (committedVal s 0xB01002)) sig (sha256 (p.1 ++ Config.serial))
  | none => false

/-- SAFETY_RESPONSE: the challenge is spent. -/
def tryResponse (s : State) (x : Sess) (sig : List Byte) : Nat × State :=
  let ok := responseOk s x sig
  let s := modSess s x fun r => { r with chal := none }
  if ok then (0, modSess s x fun r => { r with level := 3 }) else (Ab.accessLevel, noteWrong s x)

/-! ### What a write does -/

/-- LEARN_RESET (R61): learning starts anew from LAT_INIT and REL_INIT; the polarity stays (R57). -/
def learnReset (s : State) (c : Nat) : State :=
  let l := circLearn s c
  let s := modCirc s c fun r => circFlag cfRestarted true { r with consec := 0 }
  setLearn s c ⟨Cfg.circLatInit s c, 1000, 0, Cfg.circRelInit s c, 0, l.polarity⟩

/-- A fan's command, and that of the PWM_IO of an EC fan (R191, R215, R217). -/
def fanOrIo (s : State) (o : Nat) : State :=
  if o < 0x6220 then
    match ecOfPwm s (o - 0x6200) with
    | some e => ioApply (fanCommand s (4 + e)) (o - 0x6200)
    | none => ioApply s (o - 0x6200)
  else fanCommand s (o - 0x8100)

/-- A command of an output channel is written; `sense` is the sense current of a valve's next profile start where
it is known. -/
def commandOp (s : State) (o m : Nat) (v : Int) (sense : Option Nat) : State :=
  let s := setCmd s o m v
  if o < 0x5308 then aoApply s (o - 0x5300)
  else if 0x7200 ≤ o ∧ o < 0x7210 then
    if m = 2 then propDrive s (o - 0x7200) v
    else
      match sense with
      | some c => vlvCommand s (o - 0x7200) v.toNat c
      | none => vlvCommandFree s (o - 0x7200) v.toNat
  else fanOrIo s o

/-- Frames of the request's own response that are still to be queued on controller `x`. -/
def ownResponse (s : State) (e : Env) (x : Nat) : Nat :=
  match e.sess with
  | .can y _ => if y = x ∧ e.dest ≠ 0 ∧ canFdEn s x then 1 else 0
  | _ => 0

/-- The number of the node that a session's SNAP_TRIGGER names in DETAIL (log entry 32). -/
def sessNode (x : Sess) : Nat :=
  match x with
  | .can _ n => n
  | _ => 0

/-- A write of 1 to a BOOL that acts on 1 only. -/
def onOne (v : Val) (s t : State) : State := if v = .num 1 then t else s

/-- An accepted write of chapters 11 and 12 and of the CAN controllers. -/
def applyComm (s : State) (e : Env) (o m : Nat) (v : Val) (direct : Bool) : State :=
  let n := valInt v
  if o = 0x1010 then askLevel s e.sess n.toNat
  else if o = 0x1011 then writeRw s (memKey o m) v
  else if o = 0x1040 then
    (match m with
     | 1 => imageKindOp s n.toNat
     | 3 => imageChunkOp s (valBlob v)
     | 4 => imageVerifyOp s n
     | _ =>
       if n ≠ 1 then s
       else if s.images.kind = 2 then imageJob s (if direct then e else { e with sess := .image })
       else activateFirmware s)
  else if o = 0x1041 then fwConfirmOp s n
  else if o < 0x1110 then sleepOp s (o - 0x1100) n (ownResponse s e (o - 0x1100))
  else if o < 0x1120 then onOne v s (recoverOp s (o - 0x1110))
  else if o < 0x1200 then
    (if m = 1 then txFrameOp s e.sess (o - 0x1120) (valBlob v) else txCancelOp s e.sess (o - 0x1120) n.toNat)
  else onOne v s (rxAckOp s ((o - 0x1200) / 64) ((o - 0x1200) % 64))

/-- An accepted write of the calendar, Loom and the loops. -/
def applyTime (s : State) (o m : Nat) (v : Val) : State :=
  let k := memKey o m
  if o = 0x2010 then (if m = 1 then calStep s (valNat v) else calSlewAdd s (valInt v))
  else if o < 0x3200 then writeRw s k v
  else if o < 0x3240 then circRefresh (writeRw s k v) (o - 0x3200)
  else if o < 0x3400 then onOne v s (learnReset s (o - 0x3240))
  else if o < 0x3600 then (if m = 25 then onOne v s (osLearnReset s (o - 0x3400)) else writeRw s k v)
  else if o < 0x3800 then armOp s (o - 0x3600) (valInt v)
  else if o < 0x4800 then writeRw s k v
  else if o < 0x4C00 then (if m = 14 then onOne v s (statsReset s (o - 0x4800)) else writeRw s k v)
  else if m = 9 then onOne v s (rcClear s (o - 0x4C00))
  else writeProfile s (o - 0x4C00) (valBlob v)

/-- An accepted write of the field blocks. -/
def applyField (s : State) (o m : Nat) (v : Val) (sense : Option Nat) : State :=
  if (cmdChannel o m).isSome then commandOp s o m (valInt v) sense
  else if o = 0x6000 then onOne v s (fwdRearm s)
  else if o < 0x7000 then onOne v s (ioDiagClear s (o - 0x6200))
  else if o < 0x7300 then onOne v s (vlvDiagClear s (o - 0x7200))
  else if o < 0x8000 then loadCard s (o - 0x7300) (valBlob v)
  else if o < 0x9000 then onOne v s (fanDiagClear s (o - 0x8100))
  else if o = 0x9000 then onOne v s (ledgerReset s)
  else if m = 1 then dispWrite s (valBlob v)
  else dispWriteRow s (m - 2) (valBlob v)

/-- An accepted write of the module-wide blocks. -/
def applyModule (s : State) (e : Env) (o m : Nat) (v : Val) : State :=
  if o < 0xB000 then onOne v s (thermClear s)
  else if o = 0xB000 then
    (match m with
     | 4 => onOne v s (safetyClear s)
     | 5 => onOne v s (restart s 6)
     | _ => onOne v s (failModule s sfTest))
  else if o < 0xC000 then (if m = 1 then safetyLock s (valInt v) else safetyPubkey s (valBlob v))
  else if o < 0xD000 then (if m = 1 then onOne v s (switchover s) else onOne v s (forceTakeover s))
  else if o = 0xD000 then snapFire s (valNat v) 0 (sessNode e.sess) false
  else if o < 0xD100 then
    (if m = 4 then onOne v s (snapRelease s (o - 0xD010))
     else snapArmFrame (snapArm s (o - 0xD010) (valNat v)) (o - 0xD010) (valNat v))
  else if o = 0xD100 then modSess s e.sess fun r => { r with cursor := valNat v }
  else startInvalidate s (valNat v)

/-- What an accepted write of an RW or WO member does. -/
def applyRw (s : State) (e : Env) (o m : Nat) (v : Val) (sense : Option Nat) (direct : Bool) : State :=
  if o < 0x2000 then applyComm s e o m v direct
  else if o < 0x5000 then applyTime s o m v
  else if o < 0xA000 then applyField s o m v sense
  else applyModule s e o m v

/-- A pending write of a session (R249). -/
def pendWrite (s : State) (x : Sess) (k : Nat) (v : Val) : State :=
  let lvl := sessLevel s x
  modSess s x fun r => { r with pending := Table.put r.pending k ⟨v, lvl⟩ }

/-- An accepted write: its code, which only the test of a code or a response can still make other than 0, and the state
after it. -/
def applyWrite (s : State) (e : Env) (o m : Nat) (data : List Byte) (sense : Option Nat) (direct : Bool) :
    Nat × State :=
  match findMem o m with
  | none => (0, s)
  | some d =>
    let v := dataVal d.ty data
    if d.acc = .rwg then (0, pendWrite s e.sess (memKey o m) v)
    else if o = 0x1010 ∧ m = 2 then tryCode s e.sess (valNat v)
    else if o = 0xB010 ∧ m = 4 then tryResponse s e.sess (valBlob v)
    else (0, applyRw s e o m v sense direct)

/-- A WRITE (R244, R256): refused with no effect, or carried out. -/
def writeOp (s : State) (e : Env) (o m : Nat) (data : List Byte) (sense : Option Nat) (direct : Bool) : Nat × State :=
  let c := writeCode s e.sess o m data
  if c = 0 then applyWrite s e o m data sense direct else (c, s)

end Sys2Proof.Machine
end

