-- ==== Sys2Proof/Machine/Services.lean ====
section
/-! DEFINITION. The services READ, WRITE, SEGMENT, BULK and EVENT, the FETCH transaction, and the timers of sessions
(12_host_port_and_services, R268–R283; 11_object_dictionary, R247, R253; 18_snapshot_and_log, R401). -/

namespace Sys2Proof.Machine

/-! ### READ (R244, R250, R256, R275) -/

/-- The record of the event log at a position is poisoned (R342). -/
def logPoisoned (s : State) (seq : Nat) : Bool := s.mram.poisonedLog.any fun p => p % 4096 == seq % 4096

/-- The record that a cursor reads: the first intact one from the cursor on (R401). -/
def logAt (s : State) (cursor : Nat) : Option LogRec :=
  if logNewest s < cursor then none
  else s.mram.log.find? fun r => decide (cursor ≤ r.seq) && !logPoisoned s r.seq

/-- A read of a member that acts: LOG_RECORD moves the cursor, RECORD acts as RX_ACK, SAFETY_CHALLENGE draws a new
challenge (R302, R384, R401). Any other read changes nothing. -/
def readAct (s : State) (x : Sess) (o m : Nat) (d : MemDef) : List Byte × State :=
  if o = 0xD100 ∧ m = 2 then
    let c := (getSess s x).cursor
    match logAt s c with
    | some r =>
      (recBytes r (decide (1 ≤ c) && decide (c < logOldest s)), modSess s x fun q => { q with cursor := r.seq + 1 })
    | none => ([], s)
  else if 0x1200 ≤ o ∧ o < 0x1280 ∧ m = 6 then
    (readBlob s o m, rxAckOp s ((o - 0x1200) / 64) ((o - 0x1200) % 64))
  else if o = 0xB010 ∧ m = 3 then drawChallenge s x
  else (valBytes d.ty (readVal s x o m d), s)

/-- The phase of start-up does not serve the read (R273). -/
def readPhaseBad (s : State) (o : Nat) : Bool := inRecovery s && !(o == 0x1000 || o == 0x1040 || o == 0x1041)

/-- DATA of a slot during its capture (R396). -/
def readBusy (s : State) (o m : Nat) : Bool :=
  readPhaseBad s o || (decide (0xD010 ≤ o) && decide (o < 0xD020) && m == 5 && (getSlot s (o - 0xD010)).st == 2)

/-- What a read finds absent: DATA of an EMPTY or ARMED slot, an empty LEDGER, a cursor above LOG_NEWEST. -/
def readStateBad (s : State) (x : Sess) (o m : Nat) : Bool :=
  (decide (0xD010 ≤ o) && decide (o < 0xD020) && m == 5 && decide ((getSlot s (o - 0xD010)).st ≤ 1)) ||
    (o == 0xE001 && m == 9 && s.mram.ledger.isEmpty) ||
    (o == 0xD100 && m == 2 && (logAt s (getSess s x).cursor).isNone)

/-- The bytes of a read that `readCode` accepts, and the state after it. Member 0 reads the highest member number
(R241). -/
def readBytes (s : State) (x : Sess) (o m : Nat) (pend : Bool) : List Byte × State :=
  match findObj o with
  | none => ([], s)
  | some ob =>
    if m = 0 then (bytes1 [ob.top], s)
    else
      match findMem o m with
      | none => ([], s)
      | some d =>
        match (getSess s x).pending.find? fun p => pend && p.1 == memKey o m with
        | some p => (valBytes d.ty p.2.val, s)
        | none => readAct s x o m d

/-- The abort code of a read by the order of R256; `room` is how many bytes the carrier's frame holds, none where a
SEGMENT carries them. -/
def readCode (s : State) (x : Sess) (o m : Nat) (pend : Bool) (room : Option Nat) : Nat :=
  match findObj o with
  | none => Ab.noObject
  | some _ =>
    if m = 0 then codeIf (readPhaseBad s o) Ab.busy
    else
      match findMem o m with
      | none => Ab.noMember
      | some d =>
        let big : Bool := match room with
          | some n => decide (n < (readBytes s x o m pend).1.length)
          | none => false
        firstCode [codeIf (d.acc == .wo) Ab.writeOnly, codeIf (d.level == 4) Ab.accessLevel,
          codeIf (readBusy s o m) Ab.busy, codeIf big Ab.range, codeIf (readStateBad s x o m) Ab.state]

/-- READ (R275). -/
def execRead (env : Env) (obj mem flags : Nat) (s : State) : Out :=
  .next (requestStatus s env 1 (leBytes 2 obj ++ bytes1 [mem, flags]) fun s =>
    let c := readCode s env.sess obj mem (flags % 2 == 1) (some (carrierMax env.sess - 2))
    if c = 0 then
      let r := readBytes s env.sess obj mem (flags % 2 == 1)
      (0, r.1, r.2)
    else (c, [], s))

/-! ### WRITE (R244, R256, R275) -/

/-- A write whose data does not fit the frame (R275). -/
def tooLong (e : Env) (data : List Byte) (c : Nat) : Nat :=
  if carrierMax e.sess < 4 + data.length ∧ (c = 0 ∨ c = Ab.range ∨ c = Ab.state ∨ c = Ab.storage) then Ab.range else c

/-- The write's answer follows when copy 1 is written (R287). -/
def answersLater (s : State) (o m : Nat) (data : List Byte) : Bool :=
  o == 0x1040 && m == 6 && data == bytes1 [1] && s.images.kind == 2

/-- The write restarts the module: SAFETY_RESET, or the activation of firmware (R288, R380). -/
def restarts (s : State) (o m : Nat) (data : List Byte) : Bool :=
  data == bytes1 [1] && ((o == 0xB000 && m == 5) || (o == 0x1040 && m == 6 && s.images.kind != 2))

/-- A WRITE request: `sense` is the sense current of a valve's profile start where the command brings it. A write that
restarts the module is not answered. -/
def requestWrite (s : State) (e : Env) (o m : Nat) (data : List Byte) (sense : Option Nat) : State :=
  request s e 2 (leBytes 2 o ++ bytes1 [m, 0] ++ data) fun s =>
    let c := tooLong e data (writeCode s e.sess o m data)
    if c ≠ 0 then (some (statusBytes c), s)
    else
      let r := applyWrite s e o m data sense true
      if restarts s o m data ∨ answersLater s o m data then (none, r.2) else (some (statusBytes r.1), r.2)

/-- WRITE (R244). -/
def execWrite (env : Env) (obj mem : Nat) (data : List Byte) (s : State) : Out :=
  .next (requestWrite s env obj mem data none)

/-! ### SEGMENT (R276) -/

def setSeg (s : State) (x : Sess) (g : Option Segment) : State := modSess s x fun r => { r with seg := g }

/-- The open transfer of a session; one with no request for 2 s is abandoned. -/
def openSeg (s : State) (x : Sess) : Option Segment :=
  match (getSess s x).seg with
  | some g => if s.clk ≤ after g.last (secs 2) then some g else none
  | none => none

/-- The bytes of an item: STR and BLOB preceded by their length. -/
def itemOf (o m : Nat) (l : List Byte) : List Byte :=
  match findMem o m with
  | some d => if d.ty = .str ∨ d.ty = .blob then leBytes 2 l.length ++ l else l
  | none => l

/-- The values of the items in list order: the first refusal, or the data. -/
def segRead (s : State) (x : Sess) : List SegItem → Nat × List Byte × State
  | [] => (0, [], s)
  | i :: t =>
    let c := readCode s x i.obj i.mem (i.flags % 2 == 1) none
    if c ≠ 0 then (c, [], s)
    else
      let r := readBytes s x i.obj i.mem (i.flags % 2 == 1)
      let n := segRead r.2 x t
      (n.1, itemOf i.obj i.mem r.1 ++ n.2.1, n.2.2)

/-- The most items of an INIT: 32, and 13 where a CAN frame holds it (R276, R281). -/
def itemsMax : Sess → Nat
  | .can _ _ => 13
  | _ => 32

/-- COUNT of an INIT: from 1 to the most that the carrier holds, and as many items. -/
def countBad (x : Sess) (count : Nat) (items : List SegItem) : Bool :=
  decide (count = 0) || decide (itemsMax x < count) || decide (items.length ≠ count)

/-- The bytes of an item list. -/
def itemsBytes (items : List SegItem) : List Byte := items.flatMap fun i => leBytes 2 i.obj ++ bytes1 [i.mem, i.flags]

/-- SEGMENT INIT_READ: every value at one instant; a refused item refuses the whole and leaves no transfer. -/
def execSegmentInitRead (env : Env) (count : Nat) (items : List SegItem) (s : State) : Out :=
  .next (requestStatus s env 5 (bytes1 [0, count, 0, 0] ++ leBytes 4 0 ++ itemsBytes items) fun s =>
    let s := setSeg s env.sess none
    let r := segRead s env.sess items
    let c := firstCode [codeIf (inRecovery s) Ab.busy, codeIf (countBad env.sess count items) Ab.range, r.1]
    if c = 0 then
      (0, leBytes 4 r.2.1.length, setSeg r.2.2 env.sess (some ⟨false, items, r.2.1.length, r.2.1, s.clk⟩))
    else (c, [], s))

/-- SEGMENT INIT_WRITE. -/
def execSegmentInitWrite (env : Env) (count total : Nat) (items : List SegItem) (s : State) : Out :=
  .next (requestStatus s env 5 (bytes1 [1, count, 0, 0] ++ leBytes 4 total ++ itemsBytes items) fun s =>
    let s := setSeg s env.sess none
    let c := firstCode [codeIf (inRecovery s || beforeRelease s) Ab.busy, codeIf (total == 0) Ab.lengthZero,
      codeIf (countBad env.sess count items || decide (131072 < total)) Ab.range]
    if c = 0 then (0, [], setSeg s env.sess (some ⟨true, items, total, [], s.clk⟩)) else (c, [], s))

/-- The payload of SEGMENT DATA: a COUNT when reading, the data when writing. -/
def segPayload (s : State) (x : Sess) (offset count : Nat) (data : List Byte) : List Byte :=
  let w : Bool := match openSeg s x with
    | some g => g.write
    | none => !data.isEmpty
  bytes1 [2] ++ leBytes 4 offset ++ if w then data else leBytes 2 count

/-- What refuses SEGMENT DATA on an open transfer. -/
def segDataBad (x : Sess) (g : Segment) (offset count : Nat) (data : List Byte) : Bool :=
  if g.write then decide (offset ≠ g.data.length) || decide (g.total < offset + data.length)
  else decide (count = 0) || decide (carrierMax x < 2 + count) || decide (g.data.length < offset + count)

/-- SEGMENT DATA. -/
def execSegmentData (env : Env) (offset count : Nat) (data : List Byte) (s : State) : Out :=
  .next (requestStatus s env 5 (segPayload s env.sess offset count data) fun s =>
    if inRecovery s then (Ab.busy, [], s)
    else
      match openSeg s env.sess with
      | none => (Ab.state, [], setSeg s env.sess none)
      | some g =>
        if segDataBad env.sess g offset count data then
          (Ab.range, [], setSeg s env.sess (some { g with last := s.clk }))
        else if g.write then
          (0, [], setSeg s env.sess (some { g with data := g.data ++ data, last := s.clk }))
        else (0, (g.data.drop offset).take count, setSeg s env.sess (some { g with last := s.clk })))

/-- The length of an item's data at the head of a run of bytes, and how many bytes stand before it. -/
def itemLen (o m : Nat) (l : List Byte) : Nat × Nat :=
  match findMem o m with
  | some d => if d.ty = .str ∨ d.ty = .blob then (leNat (l.take 2), 2) else (d.ty.size, 0)
  | none => (0, 0)

/-- The items with their data, and the bytes left over. An item short of data keeps what there is. -/
def segSplit : List SegItem → List Byte → List (Nat × Nat × List Byte) × List Byte
  | [], l => ([], l)
  | i :: t, l =>
    let n := itemLen i.obj i.mem l
    let r := segSplit t (l.drop (n.2 + n.1))
    ((i.obj, i.mem, if l.length < n.2 + n.1 then [] else (l.drop n.2).take n.1) :: r.1, r.2)

/-- An item's data is cut short. -/
def segShort : List SegItem → List Byte → List Bool
  | [], _ => []
  | i :: t, l =>
    let n := itemLen i.obj i.mem l
    decide (l.length < n.2 + n.1) :: segShort t (l.drop (n.2 + n.1))

/-- What refuses an item at END: R256, with TYPE for data cut short. -/
def itemCode (s : State) (x : Sess) (i : Nat × Nat × List Byte) (short : Bool) : Nat :=
  let c := writeCode s x i.1 i.2.1 i.2.2
  if short ∧ (c = 0 ∨ c = Ab.lengthZero ∨ c = Ab.range ∨ c = Ab.state ∨ c = Ab.storage) then Ab.type else c

/-- The first item that is refused: its index and its code. -/
def segRefused (s : State) (x : Sess) : Nat → List ((Nat × Nat × List Byte) × Bool) → Option (Nat × Nat)
  | _, [] => none
  | k, i :: t => if itemCode s x i.1 i.2 = 0 then segRefused s x (k + 1) t else some (k, itemCode s x i.1 i.2)

/-- The items applied one after the other; an item that an earlier one has made impossible refuses them all. -/
def segApply (e : Env) : Nat → List (Nat × Nat × List Byte) → State → Option (Nat × Nat) × State
  | _, [], s => (none, s)
  | k, i :: t, s =>
    let r := writeOp s e i.1 i.2.1 i.2.2 none false
    if r.1 = 0 then segApply e (k + 1) t r.2 else (some (k, r.1), r.2)

/-- The end of a write transfer: the refused item with its code, or the state with every item applied. -/
def segEndWrite (s : State) (e : Env) (g : Segment) : Option (Nat × Nat) × State :=
  let p := segSplit g.items g.data
  match segRefused s e.sess 0 (p.1.zip (segShort g.items g.data)) with
  | some f => (some f, s)
  | none =>
    if p.2 ≠ [] ∨ g.data.length ≠ g.total then (some (255, Ab.type), s)
    else
      let r := segApply e 0 p.1 s
      match r.1 with
      | none => r
      | some f =>
        (some f, match nth (0, 0, []) p.1 f.1 with
          | (o, m, d) => if (o = 0x1010 ∧ m = 2) ∨ (o = 0xB010 ∧ m = 4) then (writeOp s e o m d none false).2 else s)

/-- SEGMENT END: every item is checked before any is applied; INDEX is sent also on refusal. -/
def execSegmentEnd (env : Env) (s : State) : Out :=
  .next (request s env 5 (bytes1 [3]) fun s =>
    if inRecovery s then (some (statusBytes Ab.busy ++ bytes1 [255]), s)
    else
      match openSeg s env.sess with
      | none => (some (statusBytes Ab.state ++ bytes1 [255]), setSeg s env.sess none)
      | some g =>
        let s := setSeg s env.sess none
        if g.write then
          if beforeRelease s then (some (statusBytes Ab.busy ++ bytes1 [255]), s)
          else
            let r := segEndWrite s env g
            if r.2.power.phase = .reset then (none, r.2)
            else
              match r.1 with
              | none => (some (statusBytes 0 ++ bytes1 [255]), r.2)
              | some f => (some (statusBytes f.2 ++ bytes1 [f.1]), r.2)
        else (some (statusBytes 0 ++ bytes1 [255]), s))

/-- SEGMENT CANCEL. -/
def execSegmentCancel (env : Env) (s : State) : Out :=
  .next (requestStatus s env 5 (bytes1 [4]) fun s =>
    if inRecovery s then (Ab.busy, [], s) else (0, [], setSeg s env.sess none))

/-- SEGMENT_TIMEOUT: a transfer with no request for 2 s is abandoned. -/
def execSegmentTimeout (sess : Sess) (s : State) : Out :=
  .next (match (getSess s sess).seg with
    | some g => if passed s g.last (secs 2) then setSeg s sess none else s
    | none => s)

/-! ### The direct window (R277–R279, R353) -/

/-- The regions of the window. -/
inductive Window where
  | heddle
  | results
  | live
  | objects
  deriving DecidableEq, Repr

/-- The region of an offset. -/
def windowOf (off : Nat) : Option Window :=
  if off < 0x5500 then some .heddle
  else if 0x6000 ≤ off ∧ off < 0x6800 then some .results
  else if 0x6800 ≤ off ∧ off < 0x6810 then some .live
  else if 0x7000 ≤ off ∧ off < 0xB000 then some .objects
  else none

/-- COUNT, OFFSET and the last byte are in order. -/
def windowOk (x : Sess) (count offset : Nat) : Bool :=
  decide (4 ≤ count) && decide (count ≤ (match x with
    | .host => 504
    | _ => 52)) && count % 4 == 0 && offset % 4 == 0 && (windowOf offset).isSome &&
    windowOf offset == windowOf (offset + count - 1)

/-- One byte of the window: BLOCK_DATA of a heddle entry is not published (R352). -/
def windowByte (s : State) (a : Nat) : Byte :=
  if a < 0x5500 ∧ 32 ≤ a % 64 then Config.blockData (a / 64) (a % 64) s.dict.gen
  else if 0x6800 ≤ a ∧ a < 0x6808 then BitVec.ofNat 8 (warpNow s / 256 ^ (a - 0x6800))
  else if 0x6808 ≤ a ∧ a < 0x6810 then BitVec.ofNat 8 (s.cal.now / 256 ^ (a - 0x6808))
  else sramByte s a

/-- The bytes of the window. -/
def windowRead (s : State) (off n : Nat) : List Byte := (upTo n).map fun i => windowByte s (off + i)

/-- The low word of a 64-bit item: a result's STAMP, a live value, the timestamp of a receive object. -/
def isLowWord (off : Nat) : Bool :=
  match windowOf off with
  | some .results => off % 16 == 8
  | some .live => off % 8 == 0
  | some .objects => off % 128 == 8
  | _ => false

/-- The port of a session: its shadow word. -/
def portOf (x : Sess) : Nat :=
  match x with
  | .can c _ => 1 + c
  | _ => 0

/-- The shadow of a port. -/
def shadowOf (s : State) (p : Nat) : Option (Nat × Nat) :=
  (s.host.shadows.find? fun e => e.1 == p).map fun e => e.2

def setShadow (s : State) (p : Nat) (v : Option (Nat × Nat)) : State :=
  let l := s.host.shadows.filter fun e => e.1 ≠ p
  { s with host := { s.host with shadows := match v with
      | some w => l ++ [(p, w)]
      | none => l } }

/-- BULK_READ: a 4-byte read of a low word latches the high word for the port's next access (R279). -/
def execBulkRead (env : Env) (count offset : Nat) (s : State) : Out :=
  .next (requestStatus s env 6 (bytes1 [0, 0] ++ leBytes 2 count ++ leBytes 4 offset) fun s =>
    let p := portOf env.sess
    let sh := shadowOf s p
    let t := setShadow s p none
    if inRecovery s then (Ab.busy, [], s)
    else if !windowOk env.sess count offset then (Ab.range, [], t)
    else
      match (if count = 4 then sh.filter fun w => w.1 == offset else none) with
      | some w => (0, leBytes 4 w.2, t)
      | none =>
        (0, windowRead s offset count,
          if count = 4 ∧ isLowWord offset then setShadow t p (some (offset + 4, leNat (windowRead s (offset + 4) 4))) else t))

/-- A byte that a window write reaches: LIMIT_LO, LIMIT_HI and SAFE_VALUE (R353). -/
def windowWritable (a : Nat) : Bool := decide (a < 0x5500) && decide (8 ≤ a % 64) && decide (a % 64 < 20)

/-- A window write of the heddle table in SRAM; the caches keep what they hold until they are invalidated (R25). -/
def windowWrite (s : State) (off : Nat) (data : List Byte) : State :=
  forAll ((upTo data.length).filter fun i => windowWritable (off + i))
    (fun s i => sramWrite s (off + i) [nth 0#8 data i]) s

/-- What refuses a window write, in the order of R256. -/
def windowCode (s : State) (x : Sess) (count offset : Nat) (data : List Byte) : Nat :=
  firstCode [codeIf (match windowOf offset with
      | some .heddle | none => false
      | _ => true) Ab.readOnly,
    codeIf (decide (sessLevel s x < 2)) Ab.accessLevel, codeIf (safetyLocked s) Ab.safetyLocked,
    codeIf (beforeRelease s) Ab.busy, codeIf (decide (data.length ≠ count)) Ab.type,
    codeIf (!windowOk x count offset) Ab.range, codeIf (isStandby s) Ab.state]

/-- BULK_WRITE. -/
def execBulkWrite (env : Env) (count offset : Nat) (data : List Byte) (s : State) : Out :=
  .next (requestStatus s env 6 (bytes1 [1, 0] ++ leBytes 2 count ++ leBytes 4 offset ++ data) fun s =>
    if inRecovery s then (Ab.busy, [], s)
    else
      let s := setShadow s (portOf env.sess) none
      let c := windowCode s env.sess count offset data
      if c = 0 then (0, [], windowWrite s offset data) else (c, [], s))

/-! ### EVENT and FETCH (R271, R280) -/

/-- The event queue of a session, and its LOST count. -/
def eventsOf (s : State) (x : Sess) : List LogRec × Nat :=
  match x with
  | .host => (s.host.events, s.host.lost)
  | .can _ n => if n = Cfg.netEventNode s ∧ n ≠ 0 then (s.host.nodeEvents, s.host.nodeLost) else ([], 0)
  | _ => ([], 0)

/-- `n` records leave the session's queue, and LOST counts anew. -/
def eventsTake (s : State) (x : Sess) (n : Nat) : State :=
  match x with
  | .host => { s with host := { s.host with events := s.host.events.drop n, lost := 0 } }
  | .can _ c =>
    if c = Cfg.netEventNode s ∧ c ≠ 0 then
      { s with host := { s.host with nodeEvents := s.host.nodeEvents.drop n, nodeLost := 0 } }
    else s
  | _ => s

/-- EVENT (R280): the oldest MAX records; over CAN at most one. -/
def execEvent (env : Env) (max_ : Nat) (s : State) : Out :=
  .next (requestStatus s env 7 (bytes1 [max_]) fun s =>
    let host : Bool := env.sess == .host
    if inRecovery s then (Ab.busy, [], s)
    else if max_ = 0 ∨ (host = true ∧ 15 < max_) then (Ab.range, [], s)
    else
      let q := eventsOf s env.sess
      let n := min q.1.length (if host then max_ else 1)
      (0, bytes1 [n, min q.2 255, 0, 0] ++ (q.1.take n).flatMap fun r => recBytes r false, eventsTake s env.sess n))

/-- The frame that a FETCH offers: the oldest response, or an EMPTY frame, whose TAG the manual leaves open. -/
def fetchFrame (s : State) : List Byte × State :=
  match s.host.resp with
  | r :: _ => (r, s)
  | [] =>
    let v := takeFree s
    (hostFrame 0xC0 v.1 [], v.2)

/-- FETCH (R271): `clocked` bytes in all; the response leaves the queue when all of it has been clocked out. -/
def execFetch (frame : FrameCond) (clocked : Nat) (s : State) : Out :=
  .next (
    let s := { s with host := { s.host with miso := [] } }
    if !(isUp s || inRecovery s) then s
    else
      match frame with
      | .badCrc => { s with host := { s.host with crcErrors := s.host.crcErrors + 1 } }
      | .badForm => { s with host := { s.host with frameErrors := s.host.frameErrors + 1 } }
      | .ok =>
        let f := fetchFrame s
        let out := (f.1 ++ List.replicate (clocked - 6) 255#8).take (clocked - 6)
        let s := { f.2 with host := { f.2.host with miso := out } }
        if f.1.length + 6 ≤ clocked then { s with host := { s.host with resp := s.host.resp.drop 1 } } else s)

/-- HOST_PORT_RESET (R274, R401). -/
def execHostPortReset (s : State) : Out :=
  .next (
    let s := dropPending { s with host := { s.host with resp := [], events := [] } } .host
    modSess s .host fun r => { r with level := 0, seg := none, cursor := logOldest s })

/-! ### Timers of sessions (R247, R253) -/

/-- PENDING_TIMEOUT: the session has sent no request for so long. -/
def execPendingTimeout (sess : Sess) (s : State) : Out :=
  .next (if passed s (getSess s sess).lastReq (secs (Cfg.accPendingTimeout s)) then dropPending s sess else s)

/-- ACCESS_TIMEOUT: the level falls back to 0. -/
def execAccessTimeout (sess : Sess) (s : State) : Out :=
  .next (if passed s (getSess s sess).lastReq (secs (Cfg.accAccessTimeout s)) then
      modSess s sess fun r => { r with level := 0 }
    else s)

/-- The refusal of ACCESS_CODE ends after 60 s. -/
def execCodeLockoutEnd (sess : Sess) (s : State) : Out :=
  .next (match (getSess s sess).lockUntil with
    | some t => if t ≤ s.clk then modSess s sess fun r => { r with lockUntil := none } else s
    | none => s)

/-! ### Heartbeat (R283) -/

/-- The 16 bytes of a heartbeat. -/
def heartbeatBytes (s : State) : List Byte :=
  leBytes 4 schemaVersion ++ leBytes 4 (fwVersion s) ++
    bytes1 [roleShown s, warpCode s, s.dict.st,
      (if s.host.silent then 1 else 0) + (if s.images.mixed then 2 else 0) + if onTrial s then 4 else 0] ++
    leBytes 4 s.dict.gen

/-- A heartbeat on each controller enabled in HB_EN. -/
def heartbeatSend (s : State) : State :=
  forAll (upTo 2) (fun s x =>
    if (Cfg.netHbEn s).testBit x && canFdEn s x then
      canQueueHeartbeat s x (svcFrame 4 0x10 0 (Cfg.netNodeId s) (heartbeatBytes s))
    else s) s

/-- HEARTBEAT: every 1000 ms after operational. -/
def execHeartbeat (s : State) : Out :=
  .next (match s.host.hbAt with
    | some t =>
      if isUp s && due s t then heartbeatSend { s with host := { s.host with hbAt := some (after t (msecs 1000)) } } else s
    | none => s)

end Sys2Proof.Machine
end

