-- ==== Sys2Proof/Machine/Commands.lean ====
section
/-! DEFINITION. The commands that are a WRITE or a READ of one member: each is that request, with the effect that
`Writes` and `Services` give it. -/

namespace Sys2Proof.Machine

/-- ACCESS_REQUEST (R247). -/
def execAccessRequest (env : Env) (data : List Byte) (s : State) : Out := .next (requestWrite s env 0x1010 1 data none)

/-- ACCESS_CODE (R247). -/
def execAccessCode (env : Env) (data : List Byte) (s : State) : Out := .next (requestWrite s env 0x1010 2 data none)

/-- IMAGE_KIND (R286). -/
def execImageKind (env : Env) (data : List Byte) (s : State) : Out := .next (requestWrite s env 0x1040 1 data none)

/-- IMAGE_CHUNK (R286). -/
def execImageChunk (env : Env) (data : List Byte) (s : State) : Out := .next (requestWrite s env 0x1040 3 data none)

/-- IMAGE_VERIFY (R286). -/
def execImageVerify (env : Env) (data : List Byte) (s : State) : Out := .next (requestWrite s env 0x1040 4 data none)

/-- IMAGE_ACTIVATE (R286–R288). -/
def execImageActivate (env : Env) (data : List Byte) (s : State) : Out := .next (requestWrite s env 0x1040 6 data none)

/-- FW_CONFIRM (R288). -/
def execFwConfirm (env : Env) (data : List Byte) (s : State) : Out := .next (requestWrite s env 0x1041 6 data none)

/-- CAL_NOW (R41). -/
def execCalNow (env : Env) (data : List Byte) (s : State) : Out := .next (requestWrite s env 0x2010 1 data none)

/-- CAL_SLEW (R42). -/
def execCalSlew (env : Env) (data : List Byte) (s : State) : Out := .next (requestWrite s env 0x2010 2 data none)

/-- LEARN_RESET of a circuit (R61). -/
def execLearnReset (env : Env) (c : Nat) (data : List Byte) (s : State) : Out := .next (requestWrite s env (0x3240 + c) 10 data none)

/-- OVERRIDE of a circuit (R71). -/
def execOverride (env : Env) (c : Nat) (data : List Byte) (s : State) : Out := .next (requestWrite s env (0x3200 + c) 12 data none)

/-- ARM of a user event (R80). -/
def execArm (env : Env) (e : Nat) (data : List Byte) (s : State) : Out := .next (requestWrite s env (0x3600 + e) 9 data none)

/-- STATS_RESET of a loop (R97). -/
def execStatsReset (env : Env) (n : Nat) (data : List Byte) (s : State) : Out := .next (requestWrite s env (0x4800 + n) 14 data none)

/-- MODE of a loop (R113). -/
def execMode (env : Env) (n : Nat) (data : List Byte) (s : State) : Out := .next (requestWrite s env (0x4800 + n) 16 data none)

/-- MAN_OUT of a loop (R115). -/
def execManOut (env : Env) (n : Nat) (data : List Byte) (s : State) : Out := .next (requestWrite s env (0x4800 + n) 17 data none)

/-- RC_CLEAR of a loop (R128). -/
def execRcClear (env : Env) (n : Nat) (data : List Byte) (s : State) : Out := .next (requestWrite s env (0x4C00 + n) 9 data none)

/-- PROFILE of a loop (R129). -/
def execProfile (env : Env) (n : Nat) (data : List Byte) (s : State) : Out := .next (requestWrite s env (0x4C00 + n) 15 data none)

/-- OS_LEARN_RESET of a zone (R131). -/
def execOsLearnReset (env : Env) (z : Nat) (data : List Byte) (s : State) : Out := .next (requestWrite s env (0x3400 + z) 25 data none)

/-- CMD of an analogue output (R155). -/
def execAoCmd (env : Env) (a : Nat) (data : List Byte) (s : State) : Out := .next (requestWrite s env (0x5300 + a) 2 data none)

/-- PROP_CMD of a valve channel (R163). -/
def execPropCmd (env : Env) (v : Nat) (data : List Byte) (s : State) : Out := .next (requestWrite s env (0x7200 + v) 2 data none)

/-- DIAG_CLEAR of a valve channel (R186). -/
def execVlvDiagClear (env : Env) (v : Nat) (data : List Byte) (s : State) : Out := .next (requestWrite s env (0x7200 + v) 21 data none)

/-- CMD of an IO channel (R191). -/
def execIoCmd (env : Env) (i : Nat) (data : List Byte) (s : State) : Out := .next (requestWrite s env (0x6200 + i) 1 data none)

/-- DIAG_CLEAR of an IO channel (R197). -/
def execIoDiagClear (env : Env) (i : Nat) (data : List Byte) (s : State) : Out := .next (requestWrite s env (0x6200 + i) 9 data none)

/-- FWD_REARM (R203). -/
def execFwdRearm (env : Env) (data : List Byte) (s : State) : Out := .next (requestWrite s env 0x6000 2 data none)

/-- CMD of a fan (R217). -/
def execFanCmd (env : Env) (f : Nat) (data : List Byte) (s : State) : Out := .next (requestWrite s env (0x8100 + f) 1 data none)

/-- DIAG_CLEAR of a fan (R214). -/
def execFanDiagClear (env : Env) (f : Nat) (data : List Byte) (s : State) : Out := .next (requestWrite s env (0x8100 + f) 8 data none)

/-- IMAGE (R225, R226). -/
def execImage (env : Env) (data : List Byte) (s : State) : Out := .next (requestWrite s env 0x9010 1 data none)

/-- ROW of the image (R225, R226). -/
def execRow (env : Env) (r : Nat) (data : List Byte) (s : State) : Out := .next (requestWrite s env 0x9010 (2 + r) data none)

/-- LEDGER_RESET (R233). -/
def execLedgerReset (env : Env) (data : List Byte) (s : State) : Out := .next (requestWrite s env 0x9000 22 data none)

/-- INVALIDATE (R355). -/
def execInvalidate (env : Env) (data : List Byte) (s : State) : Out := .next (requestWrite s env 0xE010 1 data none)

/-- THERM_CLEAR (R366). -/
def execThermClear (env : Env) (data : List Byte) (s : State) : Out := .next (requestWrite s env 0xA040 4 data none)

/-- SAFETY_CLEAR (R380). -/
def execSafetyClear (env : Env) (data : List Byte) (s : State) : Out := .next (requestWrite s env 0xB000 4 data none)

/-- SAFETY_RESET (R380). -/
def execSafetyReset (env : Env) (data : List Byte) (s : State) : Out := .next (requestWrite s env 0xB000 5 data none)

/-- SAFETY_TEST (R388). -/
def execSafetyTest (env : Env) (data : List Byte) (s : State) : Out := .next (requestWrite s env 0xB000 9 data none)

/-- SAFETY_LOCK (R385). -/
def execSafetyLock (env : Env) (data : List Byte) (s : State) : Out := .next (requestWrite s env 0xB010 1 data none)

/-- SAFETY_PUBKEY (R383). -/
def execSafetyPubkey (env : Env) (data : List Byte) (s : State) : Out := .next (requestWrite s env 0xB010 2 data none)

/-- SAFETY_RESPONSE (R384). -/
def execSafetyResponse (env : Env) (data : List Byte) (s : State) : Out := .next (requestWrite s env 0xB010 4 data none)

/-- SWITCHOVER (R330). -/
def execSwitchover (env : Env) (data : List Byte) (s : State) : Out := .next (requestWrite s env 0xC002 1 data none)

/-- FORCE_TAKEOVER (R333). -/
def execForceTakeover (env : Env) (data : List Byte) (s : State) : Out := .next (requestWrite s env 0xC002 2 data none)

/-- TX_FRAME (R304). -/
def execTxFrame (env : Env) (x : Nat) (data : List Byte) (s : State) : Out := .next (requestWrite s env (0x1120 + x) 1 data none)

/-- TX_CANCEL (R305). -/
def execTxCancel (env : Env) (x : Nat) (data : List Byte) (s : State) : Out := .next (requestWrite s env (0x1120 + x) 3 data none)

/-- RX_ACK (R302). -/
def execRxAck (env : Env) (x o : Nat) (data : List Byte) (s : State) : Out := .next (requestWrite s env (0x1200 + 64 * x + o) 7 data none)

/-- RECOVER (R308). -/
def execRecover (env : Env) (x : Nat) (data : List Byte) (s : State) : Out := .next (requestWrite s env (0x1110 + x) 6 data none)

/-- SLEEP_REQ (R310). -/
def execSleepReq (env : Env) (x : Nat) (data : List Byte) (s : State) : Out := .next (requestWrite s env (0x1100 + x) 33 data none)

/-- SNAP_TRIGGER (R391). -/
def execSnapTrigger (env : Env) (data : List Byte) (s : State) : Out := .next (requestWrite s env 0xD000 1 data none)

/-- ARM_AT of a slot (R391). -/
def execArmAt (env : Env) (slot : Nat) (data : List Byte) (s : State) : Out := .next (requestWrite s env (0xD010 + slot) 3 data none)

/-- RELEASE of a slot (R395). -/
def execSnapRelease (env : Env) (slot : Nat) (data : List Byte) (s : State) : Out := .next (requestWrite s env (0xD010 + slot) 4 data none)

/-- CMD of a valve channel (R164); `sense` is the current the channel senses should a profile start (R178). -/
def execVlvCmd (env : Env) (v : Nat) (data : List Byte) (sense : Nat) (s : State) : Out :=
  .next (requestWrite s env (0x7200 + v) 1 data (some sense))

/-- CARD_IMAGE (R165, R170): no session of the carriers has its level; the module itself writes it from a
Wailuzan-signed image. -/
def execCardImage (env : Env) (j : Nat) (data : List Byte) (s : State) : Out :=
  .next (if env.sess = .image then
      (if j < 4 ∧ cardImageCode s j data = 0 then loadCard s j data else s)
    else requestWrite s env (0x7300 + j) 1 data none)

/-- A read of SAFETY_CHALLENGE (R384). -/
def execSafetyChallenge (env : Env) (s : State) : Out := execRead env 0xB010 3 0 s

/-- A read of RECORD (R302). -/
def execRecord (env : Env) (x o : Nat) (s : State) : Out := execRead env (0x1200 + 64 * x + o) 6 0 s

/-- A read of LOG_RECORD (R401). -/
def execLogRecord (env : Env) (s : State) : Out := execRead env 0xD100 2 0 s

end Sys2Proof.Machine
end

