-- ==== Sys2Proof/Machine/CanReceive.lean ====
section
/-! DEFINITION. A received CAN frame: the services it may ask for, the heartbeats and trigger frames of other nodes, and
the receive object that stores it (12_host_port_and_services, R281–R284; 13_can_fd, R298; 18_snapshot_and_log, R393). -/

namespace Sys2Proof.Machine

/-- The state that a meaning answers with. -/
def outState (s : State) : Out → State
  | .next t => t
  | _ => s

/-- The data length that a write of the member needs, where it is known: the rest of the frame is padding. -/
def wantedLen (s : State) (o m : Nat) (l : List Byte) : Option Nat :=
  match findMem o m with
  | none => none
  | some d =>
    if d.ty ≠ .str ∧ d.ty ≠ .blob then some d.ty.size
    else if o = 0x1120 ∨ o = 0x1121 then some (8 + txLen l)
    else if o = 0x9010 then some (if m = 1 then 72 else 12)
    else if 0x4C00 ≤ o ∧ o < 0x4D00 then some (4 * comN s o 4)
    else none

/-- The data of a WRITE without the padding of its frame (R281). -/
def unpad (s : State) (o m : Nat) (l : List Byte) : List Byte :=
  match wantedLen s o m l with
  | some n => if (canPad (List.replicate (5 + n) 0#8)).length = l.length + 5 then l.take n else l
  | none => l

/-- `n` items of a SEGMENT INIT. -/
def itemsOf : Nat → List Byte → List SegItem
  | n + 1, a :: b :: c :: d :: t => ⟨leNat [a, b], c.toNat, d.toNat⟩ :: itemsOf n t
  | _, _ => []

/-- A SEGMENT request of a CAN session; `p` is its payload. -/
def canSegment (s : State) (e : Env) (p : List Byte) : Out :=
  let n := (nth 0#8 p 1).toNat
  let items := itemsOf n (p.drop 8)
  match (nth 0#8 p 0).toNat with
  | 0 => execSegmentInitRead e n items s
  | 1 => execSegmentInitWrite e n (leNat ((p.drop 4).take 4)) items s
  | 2 =>
    let room := match openSeg s e.sess with
      | some g => g.total - g.data.length
      | none => 0
    execSegmentData e (leNat ((p.drop 1).take 4)) (leNat ((p.drop 5).take 2)) ((p.drop 5).take room) s
  | 3 => execSegmentEnd e s
  | 4 => execSegmentCancel e s
  | _ => .next s

/-- A request of a CAN session; `p` is the service payload. One too short for its fields is no request. -/
def canRequest (s : State) (e : Env) (svc : Nat) (p : List Byte) : Out :=
  let o := leNat (p.take 2)
  let m := (nth 0#8 p 2).toNat
  match svc with
  | 1 => if p.length < 4 then .next s else execRead e o m (nth 0#8 p 3).toNat s
  | 2 => if p.length < 4 then .next s else execWrite e o m (unpad s o m (p.drop 4)) s
  | 3 => execCommit e s
  | 4 => execAbort e s
  | 5 => canSegment s e p
  | 6 =>
    let count := leNat ((p.drop 2).take 2)
    let off := leNat ((p.drop 4).take 4)
    if p.length < 8 then .next s
    else if (nth 0#8 p 0).toNat = 0 then execBulkRead e count off s
    else if (nth 0#8 p 0).toNat = 1 then execBulkWrite e count off ((p.drop 8).take count) s
    else .next s
  | 7 => if p.isEmpty then .next s else execEvent e (nth 0#8 p 0).toNat s
  | _ => .next s

/-- A heartbeat of another node: it counts for the manager watch and shows the partner's role (R284, R320). -/
def canHeartbeat (s : State) (source : Nat) (p : List Byte) : State :=
  let s := if isUp s && source == Cfg.netManagerSrc s && decide (1 ≤ source) && decide (source ≤ 239) then managerHeard s else s
  peerHeartbeat s source (nth 0#8 p 8).toNat

/-- The frame is offered to the module's own services (R281). -/
def canServices (s : State) (x : Nat) (f : CanFrame) : State :=
  if f.ide && f.fdf && !f.rtr then
    let prio := f.id / 2 ^ 24
    let svc := f.id / 2 ^ 16 % 256
    let dest := f.id / 256 % 256
    let source := f.id % 256
    if prio = 2 ∧ svc = 0x20 then trigFrame s x dest source f.data
    else if prio = 4 ∧ svc = 0x10 then canHeartbeat s source f.data
    else if 8 ≤ prio ∧ prio ≤ 15 ∧ 1 ≤ svc ∧ svc ≤ 7 then
      outState s (canRequest s ⟨.can x source, (nth 0#8 f.data 0).toNat, .ok, prio, dest⟩ svc (f.data.drop 1))
    else s
  else s

/-- CAN_FRAME_RECEIVED (R298): the controller, the services, the receive objects, the end of the frame. A request that
restarts the module ends it there. -/
def execCanFrameReceived (x : Nat) (frame : RxFrame) (s : State) : Out :=
  .next (if x < 2 ∧ canHears (getCan s x) then
      let s := canServices (canReceived s x frame.frame) x frame.frame
      if s.power.phase = .reset then s else canFrameEnd (rxOffer s x frame.frame frame.age) x
    else s)

end Sys2Proof.Machine
end

