-- ==== Sys2Proof/Machine/LoomEvents.lean ====
section
/-! DEFINITION. Loom's events: the armed set, its commands, calendar events, time limits, user events, rule rounds and
zone decisions (03_loom_scheduler). -/

namespace Sys2Proof.Machine

/-! ### The armed set (R54–R56, R65–R67) -/

/-- A circuit's command may be placed now: it is due, no transition or minimum time holds it, and the module drives
its output. -/
def mayPlace (s : State) (c : Nat) : Bool :=
  let r := getCirc s c
  Cfg.circEnable s c && !r.placed && r.trans.isNone && decide (r.minUntil ≤ s.clk) &&
    Cfg.circOutput s c != 0xFFFF && drives s (Cfg.circOutput s c)

/-- Place the commands of the due circuits, ascending, from Warp time `from_` on. -/
def placeDue (s : State) (from_ : Nat) : State :=
  forAll (upTo 32) (fun s c =>
    match (getCirc s c).due with
    | some b => if mayPlace s c then circPlace s c from_ b else s
    | none => s) s

/-- The commands placed in cycle `n` or before leave their places: the cycle is announced for realignment (R66). -/
def unplaceCycle (s : State) (n : Nat) : State :=
  let gone := s.loom.building.filter fun a => decide (a.warp / 65536 ≤ n)
  let s := { s with loom := { s.loom with building := s.loom.building.filter fun a => !decide (a.warp / 65536 ≤ n) } }
  forAll gone (fun s a => match a.kind with
    | .close c | .open_ c => modCirc s c fun r => { r with placed := false }
    | .user _ => s) s

/-- The user events that enter the set of cycle `n` (R80), as commands: an event whose time lies before that cycle acts
at its start. -/
def userCmds (s : State) (n : Nat) : List ArmedCmd :=
  (upTo 64).filterMap fun e =>
    let r := getEvent s e
    match cmdChannel (r.target / 256) (r.target % 256) with
    | some h =>
      if r.st = 1 ∧ ¬ r.sealed ∧ actsInSet s r.domain r.action r.target ∧ r.whenWarp / 65536 ≤ n ∧ drives s h then
        some ⟨max r.whenWarp (n * 65536), h, .user e, 0, false, false⟩
      else none
    | none => none

/-- The order of an armed set: Warp time, then heddle entry (R55). -/
def armedLe (a b : ArmedCmd) : Bool := decide (a.warp < b.warp) || (a.warp == b.warp && decide (a.heddle ≤ b.heddle))

/-- The commands that fit a set: at most 256, of which at most 64 IO edges (R55, R200); and those that do not. -/
def fitSet : Nat → Nat → List ArmedCmd → List ArmedCmd × List ArmedCmd
  | _, _, [] => ([], [])
  | room, edges, a :: t =>
    let isIo := decide (a.heddle < 288)
    if room = 0 ∨ (isIo ∧ edges = 0) then
      let r := fitSet room edges t
      (r.1, a :: r.2)
    else
      let r := fitSet (room - 1) (if isIo then edges - 1 else edges) t
      (a :: r.1, r.2)

/-- A command that does not fit moves to the set of the next cycle, which starts at `from_` (R55). -/
def moveOver (from_ : Nat) (s : State) (a : ArmedCmd) : State :=
  let s := { s with loom := { s.loom with armOverflows := s.loom.armOverflows + 1 } }
  match a.kind with
  | .close c | .open_ c =>
    let b := decide (a.kind = .close c)
    modCirc (circPlace s c from_ b) c (circFlag cfLate true)
  | .user e => modEvent s e fun r => { r with late := true, whenWarp := from_ }

/-- A command of a user event is in a sealed set: it cannot be withdrawn (R80). -/
def sealUser (s : State) (a : ArmedCmd) : State :=
  match a.kind with
  | .user e => modEvent s e fun r => { r with sealed := true, late := r.late || decide (r.whenWarp < a.warp) }
  | _ => s

/-- Fill and seal the set of cycle `n`. -/
def sealSet (s : State) (n : Nat) : State :=
  let s := placeDue s (n * 65536)
  let mine := (s.loom.building.filter fun a => decide (a.warp / 65536 ≤ n)) ++ userCmds s n
  let fit := fitSet 256 64 (mine.mergeSort armedLe)
  let s := { s with loom := { s.loom with
    building := s.loom.building.filter fun a => !decide (a.warp / 65536 ≤ n)
    sealed_ := s.loom.sealed_ ++ fit.1, sealedCycle := n, armLoad := fit.1.length } }
  forAll fit.2 (moveOver ((n + 1) * 65536)) (forAll fit.1 sealUser s)

/-- Nothing is sealed into a cycle announced for realignment; its commands are placed in the next set (R66). -/
def sealNone (s : State) (n : Nat) : State :=
  let s := placeDue (unplaceCycle s n) ((n + 1) * 65536)
  { s with loom := { s.loom with sealedCycle := n, armLoad := 0 } }

/-- ARMED_SET_SEAL (R54): at phase ARM_CLOSE of a cycle, once. -/
def execArmedSetSeal (s : State) : Out :=
  let n := s.warp.cycle + 1
  .next (if Cfg.loomArmClose s ≤ warpNow s % 65536 ∧ s.loom.sealedCycle < n then
      (if s.warp.realignNext then sealNone s n else sealSet s n)
    else s)

/-! ### User events act (R80) -/

/-- An event is done, or LATE. -/
def eventEnd (s : State) (e : Nat) (late : Bool) : State :=
  modEvent s e fun r => { r with st := if late then 3 else 2, sealed := false, late := late }

/-- The bytes that VALUE of a rule or an event spells for a member, or the code of a value that does not fit (log
entry 34). -/
def valueBytes (t : MType) (v : Int) : Nat × List Byte :=
  if t = .str ∨ t = .blob then (Ab.type, [])
  else if t.size = 4 then (0, leBytes 4 (unsigned 32 v))
  else if fitsType t v then (0, leBytes t.size (unsigned (8 * t.size) v)) else (Ab.range, [])

/-- Write VALUE to TARGET in a session of the module's own: the code and the state. For a value that does not fit, the
conditions of R256 that stand before TYPE and RANGE come first. -/
def ownWrite (s : State) (x : Sess) (target : Nat) (v : Int) : Nat × State :=
  let o := target / 256
  let m := target % 256
  let e : Env := ⟨x, 0, .ok, 0, 0⟩
  match findMem o m with
  | none => writeOp s e o m [] none false
  | some d =>
    let b := valueBytes d.ty v
    if b.1 = 0 then writeOp s e o m b.2 none false
    else
      let c := writeCode s x o m b.2
      (if [Ab.noObject, Ab.noMember, Ab.readOnly, Ab.accessLevel, Ab.safetyLocked, Ab.busy].contains c then c else b.1, s)

/-- A refused write of a rule or an event is recorded (R78): number, code, TARGET. -/
def logOwnFail (s : State) (number code target : Nat) : State :=
  if code = 0 then s else logEvent s 0x0201 (leBytes 2 number ++ leBytes 2 code ++ leBytes 4 target)

/-- An event acts: it writes, or triggers a snapshot (R80, R391). -/
def eventAct (s : State) (e : Nat) (late : Bool) : State :=
  let r := getEvent s e
  let s := eventEnd s e late
  if r.action = 2 then snapFire s r.target 4 e late
  else
    let p := ownWrite s .events r.target r.value
    logOwnFail p.2 e p.1 r.target

/-- The event is turned into one of another domain, or acts (R53): a command of Loom goes into the first set not
sealed, a set-point to the next sample of its loop, anything else is done now. -/
def eventCalendar (s : State) (e : Nat) : State :=
  let r := getEvent s e
  let o := r.target / 256
  if actsInSet s 0 r.action r.target then
    modEvent s e fun r => { r with domain := 0, whenWarp := (max s.loom.sealedCycle s.warp.cycle + 1) * 65536 }
  else if r.action = 0 ∧ 0x4000 ≤ o ∧ o < 0x4100 ∧ r.target % 256 = 15 then
    modEvent s e fun r => { r with domain := 2, loop := o - 0x4000, sample := (getLoop s (o - 0x4000)).samples + 1 }
  else eventAct s e r.late

/-- USER_EVENT_ACT (R80): event e reaches its time in its domain and acts once. -/
def execUserEventAct (e : Nat) (s : State) : Out :=
  let r := getEvent s e
  .next (if r.st ≠ 1 ∨ 64 ≤ e then s
    else if r.domain = 0 then
      if ¬ actsInSet s r.domain r.action r.target ∧ r.whenWarp ≤ warpNow s then eventAct s e r.late else s
    else if r.domain = 1 then
      if s.cal.st ≠ 0 ∧ r.whenCal ≤ s.cal.now then eventCalendar s e else s
    else
      let l := getLoop s r.loop
      if r.sample ≤ l.samples then eventAct s e true
      else if l.due.isSome ∧ r.sample = l.samples + 1 then eventAct s e r.late
      else s)

/-! ### Armed commands act (R56) -/

/-- The circuit that owns a channel. -/
def ownerCircuit (s : State) (h : Nat) : Option Nat :=
  match ownerOf s h with
  | .loom c => some c
  | _ => none

/-- What VALUE commands on a channel of Loom: an IO is on above 0 (R191); a CMD word of a valve is off at 0 (R164). -/
def userOn (h : Nat) (v : Int) : Bool := if h < 288 then decide (0 < v) else decide (v ≠ 0)

/-- A user event's command on a channel of Loom: the circuit takes the state that the command gives it, with no
transition (log entry 33). -/
def userAct (s : State) (e : Nat) (a : ArmedCmd) : State :=
  let r := getEvent s e
  let s := eventEnd s e r.late
  match ownerCircuit s a.heddle with
  | some c => loomDrive (modCirc s c fun x => { x with st := if userOn a.heddle r.value then 2 else 0, trans := none })
      a.heddle (unsigned 32 r.value)
  | none => s

/-- A command of a circuit acts while the circuit is still the owner of its output (R18). -/
def circCmd (s : State) (c : Nat) (close : Bool) (a : ArmedCmd) : State :=
  if ownerCircuit s a.heddle = some c then circAct s c close (if close then 0xFFFFFFFF else 0) a
  else modCirc s c fun r => { r with placed := false }

/-- ARMED_COMMAND (R56): the first command of the sealed sets, at its Warp time. -/
def execArmedCommand (s : State) : Out :=
  .next (match s.loom.sealed_ with
    | [] => s
    | a :: t =>
      if a.warp ≤ warpNow s then
        let s := { s with loom := { s.loom with sealed_ := t } }
        match a.kind with
        | .close c => circCmd s c true a
        | .open_ c => circCmd s c false a
        | .user e => userAct s e a
      else s)

/-! ### Due by the calendar, time limits, storing -/

/-- CALENDAR_EVENT_DUE (R53, R69): a new switch instant of a circuit, or a user event. -/
def execCalendarEventDue (ev : CalEvent) (s : State) : Out :=
  .next (match ev with
    | .circuit c =>
      if c < 32 ∧ Cfg.circEnable s c ∧ s.cal.st ≠ 0 ∧
          (latestSwitch s (circEntries s c) (utcSec s)).map (fun x => x.at_) ≠ (getCirc s c).schedAt then
        circSchedule s c true
      else s
    | .user e =>
      let r := getEvent s e
      if r.st = 1 ∧ r.domain = 1 ∧ s.cal.st ≠ 0 ∧ r.whenCal ≤ s.cal.now then eventCalendar s e else s)

/-- TRANSITION_TIMEOUT (R59, R62): a transition ends on its time limit. A closure for which a seat never came ends at the
load-current start that has been seen (R60). -/
def execTransitionTimeout (c : Nat) (s : State) : Out :=
  .next (match (getCirc s c).trans with
    | some t =>
      if t.deadline ≤ s.clk then
        match t.load with
        | some w => closureFound s c (w - usToWt s (Cfg.circLoadDelay s c))
        | none => transEnd (modCirc s c fun r => circFlag cfExcluded true (circFlag cfNoClosure true r)) c
      else s
    | none => s)

/-- MIN_ON_OFF_EXPIRY (R59): the minimum time has passed; a request that waits proceeds. -/
def execMinOnOffExpiry (c : Nat) (s : State) : Out :=
  let r := getCirc s c
  .next (if r.minUntil ≠ 0 ∧ r.minUntil ≤ s.clk then circDirect (modCirc s c fun r => { r with minUntil := 0 }) c else s)

/-- Line `k` of the learned values is written (log entry 70). -/
def learnedWritten (s : State) (k : Nat) : State := mramWritten s (0x700000 + 32 * k) (0x700000 + 32 * k + 32)

/-- Store the learned values of the circuits that changed (R64). -/
def storeCircs (s : State) : State :=
  forAll (upTo 32) (fun s c =>
    let r := getCirc s c
    match r.dirtyAt, r.lrn with
    | some _, some l =>
      modCirc (learnedWritten { s with mram := { s.mram with circ := Table.put s.mram.circ c l } } c) c fun r => { r with dirtyAt := none }
    | _, _ => s) s

/-- Store the learned holds of the valves that changed (R176). -/
def storeValves (s : State) : State :=
  forAll (upTo 16) (fun s v =>
    let r := getVlv s v
    if r.learnDirty.isSome then
      modVlv (learnedWritten { s with mram := { s.mram with vlv := Table.put s.mram.vlv v (r.learned, r.learnedAt) } } (32 + v)) v
        fun r => { r with learnDirty := none }
    else s) s

/-- Store the learned rates of the zones that changed; initial rates are stored as none (R131). -/
def storeZones (s : State) : State :=
  forAll (upTo 64) (fun s z =>
    let r := getZone s z
    if r.dirtyAt.isSome then
      let l := match r.rates with
        | some p => Table.put s.mram.zones z p
        | none => Table.del s.mram.zones z
      modZone (learnedWritten { s with mram := { s.mram with zones := l } } (48 + z)) z fun r => { r with dirtyAt := none }
    else s) s

/-- LEARNED_PERSIST (R64, R131, R176): changed learned values are written to MRAM. -/
def execLearnedPersist (s : State) : Out := .next (storeZones (storeValves (storeCircs s)))

/-! ### Rules (R77–R79) -/

/-- The number of a rule operand; member 0 reads the highest member number of its object (R241). -/
def objVal (s : State) (w : Nat) : Int :=
  if w % 256 = 0 then
    match findObj (w / 256) with
    | some d => d.top
    | none => 0
  else valInt (readMember s .rules (w / 256) (w % 256))

/-- The comparison of R77 with the state `prev` of the last round. -/
def ruleCond (prev : Bool) (op : Nat) (a b hyst : Int) : Bool :=
  match op with
  | 0 => a == b
  | 1 => a != b
  | 2 => if prev then decide (a < b + hyst) else decide (a < b)
  | 3 => if prev then decide (b - hyst < a) else decide (b < a)
  | 4 => decide (0 ≤ b) && decide (b ≤ 63) && (unsigned 64 a).testBit b.toNat
  | _ => decide (0 ≤ b) && decide (b ≤ 63) && !(unsigned 64 a).testBit b.toNat

/-- Both operands of a rule. -/
def ruleOperands (s : State) (r : Nat) : Int × Int :=
  (objVal s (Cfg.ruleSubject s r),
    if Cfg.ruleOperandKind s r = 0 then Cfg.ruleValueB s r else objVal s (unsigned 32 (Cfg.ruleValueB s r)))

/-- The members that a standby's rules do not write: commands and loops of PAIRED channels, and the circuits and zones
of such (R322). -/
def pairedTarget (s : State) (o m : Nat) : Bool :=
  match cmdChannel o m with
  | some h => !isLocal s h
  | none =>
    if 0x3200 ≤ o ∧ o < 0x3280 then !isLocal s (Cfg.circOutput s (o % 32))
    else if 0x3400 ≤ o ∧ o < 0x3440 then !isLocalLoop s (Cfg.zoneLoop s (o - 0x3400))
    else if (0x4000 ≤ o ∧ o < 0x4100) ∨ (0x4800 ≤ o ∧ o < 0x4900) ∨ (0x4C00 ≤ o ∧ o < 0x4D00) then
      !isLocalLoop s (o % 256)
    else false

/-- What a rule does when it fires (R77). -/
def ruleAct (s : State) (r : Nat) : State :=
  let t := Cfg.ruleTarget s r
  let s := modRule s r fun x => { x with fires := x.fires + 1 }
  match Cfg.ruleAction s r with
  | 0 =>
    let p := ownWrite s .rules t (Cfg.ruleValue s r)
    logOwnFail p.2 r p.1 t
  | 1 =>
    let p := writeOp s ⟨.rules, 0, .ok, 0, 0⟩ (0x3600 + t) 9 (bytes1 [1]) none false
    logOwnFail p.2 r p.1 t
  | _ => snapFire s t 4 r false

/-- The rule acts on this module. -/
def ruleHere (s : State) (r : Nat) : Bool :=
  !(isStandby s && Cfg.ruleAction s r == 0 && pairedTarget s (Cfg.ruleTarget s r / 256) (Cfg.ruleTarget s r % 256))

/-- Evaluate one rule. -/
def ruleEval (s : State) (r : Nat) : State :=
  let x := getRule s r
  let p := ruleOperands s r
  let cond := ruleCond x.cond (Cfg.ruleOperator s r) p.1 p.2 (Cfg.ruleHyst s r)
  let since := if cond && !x.cond then s.clk else x.since
  let counted := cond && decide (after since (msecs (Cfg.ruleDelay s r)) ≤ s.clk)
  let s := modRule s r fun x => { x with cond := cond, since := since, counted := counted }
  let fires := match Cfg.ruleTrigger s r with
    | 0 => counted && !x.counted
    | 1 => !counted && x.counted
    | _ => counted != x.counted
  if fires && ruleHere s r then ruleAct s r else s

/-- The rule table in force is replaced, or starts anew: the states of the conditions count as false (R79). -/
def rulesStart (s : State) : State :=
  let s := if s.dict.waiting.contains .rules then
      syncDone .rules (forAll (upTo 512) (fun s r => takeObj s (0x3800 + r)) s)
    else s
  let s := forAll (upTo 512) (fun s r => modRule s r fun x => { x with cond := false, counted := false }) s
  { s with loom := { s.loom with freshRules := false } }

/-! ### Zones (R74–R76) -/

/-- An input of a zone reads this state: 0 OPEN, 1 CLOSED, 2 BREAK. -/
def zoneIn (s : State) (h : Nat) : Option Nat :=
  if 256 ≤ h ∧ h < 288 then some (ioInState (getIo s (h - 256))) else none

/-- Presence now (R74, R76). -/
def zonePresent (s : State) (z : Nat) : Bool :=
  match zoneIn s (Cfg.zoneOccInput s z) with
  | some st => st != 0
  | none => false

/-- Presence within OCC_HOLD: the input reads so now, or ceased to less than OCC_HOLD minutes ago (R74). -/
def zoneWithin (s : State) (z : Nat) : Bool :=
  let h := Cfg.zoneOccInput s z
  zonePresent s z ||
    (decide (256 ≤ h) && decide (h < 288) &&
      match (getIo s (h - 256)).presentAt with
      | some t => decide (s.clk < after t (secs (60 * Cfg.zoneOccHold s z)))
      | none => false)

/-- The mode of a zone: the first row of R74 that applies. -/
def zoneMode (s : State) (z : Nat) : Nat :=
  let r := getZone s z
  let occ := occupiedNow s (Cfg.zoneOccProgram s z)
  let within := zoneWithin s z
  if Cfg.zoneModeRequest s z ≠ 0 then Cfg.zoneModeRequest s z
  else if zoneIn s (Cfg.zoneOpenInput s z) = some 0 then 4
  else if occ ∧ (within ∨ Cfg.zoneOccInput s z = 0xFFFF) then 1
  else if occ then 2
  else if within then 1
  else if r.prestartAt ≠ 0 ∧ r.prestartAt ≤ s.cal.now then 5
  else 3

/-- The set-point of a mode. -/
def zoneSp (s : State) (z mode : Nat) : Int :=
  match mode with
  | 2 => Cfg.zoneSpStandby s z
  | 3 => Cfg.zoneSpSetback s z
  | 4 => Cfg.zoneSpProtect s z
  | _ => Cfg.zoneSpOccupied s z

/-- ZONE_INPUT_FAULT follows the inputs that read BREAK (R76). -/
def zoneAlarm (s : State) (z : Nat) : State :=
  if zoneIn s (Cfg.zoneOccInput s z) = some 2 ∨ zoneIn s (Cfg.zoneOpenInput s z) = some 2 then
    raiseAlarm (.zoneInputFault z) s
  else dropAlarm (.zoneInputFault z) s

/-- A prestart begins, or one that runs is spoilt when the zone leaves PRESTART for a mode that is neither OCCUPIED nor
STANDBY (R131). It learns the rate that R130 used. -/
def zonePre (s : State) (z old new_ : Nat) : State :=
  let r := getZone s z
  if new_ = 5 ∧ old ≠ 5 ∧ r.pre.isNone then
    modZone s z fun r => { r with pre := some ⟨r.prestartAt, r.tOcc, r.preHeat, none, false⟩ }
  else if old = 5 ∧ new_ ≠ 5 ∧ new_ ≠ 1 ∧ new_ ≠ 2 then
    modZone s z fun r => { r with pre := r.pre.map fun p => { p with bad := true } }
  else s

/-- Decide the mode of a zone and hand a new set-point to its loop (R74, R75). -/
def zoneDecide (s : State) (z : Nat) : State :=
  let s := zoneAlarm s z
  let old := getZone s z
  let mode := zoneMode s z
  let sp := zoneSp s z mode
  if old.mode = mode ∧ old.sp = sp then s
  else
    let s := modZone (zonePre s z old.mode mode) z fun r => { r with mode := mode, sp := sp }
    let n := Cfg.zoneLoop s z
    let s := if n < 256 then modLoop s n fun l => { l with loomSp := some (convPoint 16 (Cfg.loopPoint s n) sp) } else s
    sendMirror s (mirrorOfZone s z)

/-- The rules of a round, then its zones. A write that restarts the module ends the round. -/
def ruleRound (s : State) : State :=
  let s := if s.dict.waiting.contains .rules || s.loom.freshRules then rulesStart s else s
  let s := forAll (upTo 512) (fun s r => if released s && Cfg.ruleEnable s r then ruleEval s r else s) s
  forAll (upTo 64) (fun s z => if released s && Cfg.zoneEnable s z then zoneDecide s z else s) s

/-- RULE_ROUND (R79): every 10 ms. A round that lasted longer is counted, and the next starts when it ends. -/
def execRuleRound (overran : Bool) (s : State) : Out :=
  .next (if released s ∧ s.loom.nextRound ≤ s.clk then
      let s := ruleRound s
      if !released s then s
      else if overran then
        { s with loom := { s.loom with ruleOverruns := s.loom.ruleOverruns + 1, nextRound := s.clk } }
      else { s with loom := { s.loom with nextRound := after s.loom.nextRound (msecs 10) } }
    else s)

end Sys2Proof.Machine
end

