-- ==== Sys2Proof/Machine/WarpCycle.lean ====
section
/-! DEFINITION. The start of a mains cycle: lock states, realignment, alignment, the increment
(02_warp_timebase, R28–R37). -/

namespace Sys2Proof.Machine

/-! ### The state of the new cycle (R31) -/

/-- The code of a lock state (R51). -/
def lockCode (w : WarpState) : Nat :=
  match w with
  | .synthetic => 0
  | .acquiring => 1
  | .locked => 2
  | .holdover => 3

/-- WARP_STATE (R399). -/
def logWarp (s : State) (old new_ : WarpState) : State :=
  logEvent s 0x0101 (bytes1 [lockCode old, lockCode new_] ++ leBytes 2 (unsigned 16 s.warp.phaseErr) ++
    leBytes 4 (unsigned 32 s.warp.lastStep))

/-- A state change that was decided in the last cycle takes effect, with its record. On leaving LOCKED an alignment that
was asked for and not yet applied is dropped; the next lock asks again (R35; log entry 15). -/
def warpEnter (s : State) : State :=
  match s.warp.target with
  | none => s
  | some t =>
    let old := s.warp.ws
    let s := { s with warp := { s.warp with target := none } }
    if t = old then s
    else
      let s := { s with warp := { s.warp with
        ws := t, holdCycles := 0, goodZeros := 0, stepRun := 0, qual := if t = .acquiring then s.warp.qual else 0 } }
      let s := logWarp s old t
      if old = .locked then
        taintTransitions { s with warp := { s.warp with alignSent := none, alignCount := none } }
      else s

/-- The cycle that ends now is counted: its length, LOCKED cycles for grid discipline (R44), cycles without a
qualifying zero in HOLDOVER (R31). -/
def warpCount (s : State) : State :=
  let w := s.warp
  let s := { s with warp := { w with
    cycle := w.cycle + 1, frac := 0, cycleClocks := s.clk - w.startClk, startClk := s.clk, realigned := false
    wasRealigned := w.realigned, past := ⟨w.startClk, w.inc, w.cycle, w.ws⟩
    holdCycles := w.holdCycles + if w.ws = .holdover then 1 else 0 } }
  if w.ws = .locked then
    { s with cal := { s.cal with today_ := { s.cal.today_ with cycles := s.cal.today_.cycles + 1 } } }
  else s

/-- The committed group of 0x2001 takes effect; a change of PHASE_OFFSET in LOCKED or HOLDOVER makes this cycle a
realigned one (R34, R51). -/
def warpSync (s : State) : State :=
  if s.dict.waiting.contains .warp then
    let old := Cfg.warpPhaseOffset s
    let s := syncDone .warp (takeObj s 0x2001)
    if old ≠ Cfg.warpPhaseOffset s ∧ phaseTrue s then { s with warp := { s.warp with realignNext := true } } else s
  else s

/-! ### Length and increment (R28, R30, R32) -/

/-- Engine clocks of a cycle at 65 Hz and at 45 Hz. -/
def cycleMin : Nat := 6153847
def cycleMax : Nat := 8888888

/-- The new cycle is realigned: it ends at the first target zero at least half a nominal cycle after its start. A
module that was acquiring is LOCKED after it. -/
def warpRealign (s : State) : Nat × State :=
  let nom := nominalPeriod s
  let len := targetZero s (s.clk + nom / 2) - s.clk
  let s := { s with warp := { s.warp with
    realignNext := false, realigned := true, phaseSteps := s.warp.phaseSteps + 1
    lastStep := roundDiv (((len : Int) - nom) * 65536) nom
    target := if s.warp.ws = .acquiring then some .locked else s.warp.target } }
  (len, taintTransitions s)

/-- What the PLL adds to the measured period to take up the last phase error (R33): the part of the error, in engine clocks,
that PLL_BW lets it absorb in one cycle. A later zero than predicted (a positive error) stretches the cycle. An error
beyond STEP_THRESHOLD is not absorbed. -/
def pllCorrection (s : State) : Int :=
  let gain : Int := max 1 (min 65536 (Config.pllGain (Cfg.warpPllBw s)))
  if Cfg.warpStepThreshold s < s.warp.phaseErr.natAbs then 0
  else roundDiv (gain * s.warp.phaseErr * s.warp.period) (65536 * 65536)

/-- The length of a cycle that is not realigned: in LOCKED the measured period with the PLL's correction (R8, R27, R33), in
HOLDOVER the last measured period (R28). -/
def plainLength (s : State) : Nat :=
  match s.warp.ws with
  | .locked => max cycleMin (min cycleMax (s.warp.period + pllCorrection s).toNat)
  | .holdover => max cycleMin (min cycleMax s.warp.period)
  | _ => nominalPeriod s

/-- The length of the new cycle and its increment. The D-die receives it over the internal bus; the F-die, with its replica
brought to Warp, over the barrier link while that is up (R15, R16, R30). -/
def warpLength (s : State) : State :=
  let p := if s.warp.realignNext then warpRealign s else (plainLength s, s)
  let len := max 1 p.1
  let inc := (2 ^ 48 + len - 1) / len
  let s := { p.2 with warp := { p.2.warp with inc := inc, incD := inc } }
  if s.io.linkUp then { s with warp := { s.warp with incF := inc, replica := warpFine s, replicaAt := s.clk } } else s

/-! ### Alignment (R35, R37) -/

/-- Move the Warp times that a circuit holds by `d` wt: the command keeps its place in the cycle. -/
def circShift (d : Nat) (r : Circuit) : Circuit :=
  { r with
    trans := r.trans.map fun t => { t with
      cmdWarp := t.cmdWarp + d, zero := if t.targeted then t.zero + d else t.zero, seat := t.seat.map (· + d), load := t.load.map (· + d) }
    seatWarp := r.seatWarp.map (· + d), lowSince := r.lowSince.map (· + d) }

/-- A command of the circuit stands in a sealed set and has not acted. -/
def circIsSealed (s : State) (c : Nat) : Bool :=
  s.loom.sealed_.any fun a => a.kind == .close c || a.kind == .open_ c

/-- Everything that refers to the old count follows: the sealed set keeps its place, and commands of circuits that are
not sealed are placed anew. -/
def warpShift (s : State) (d : Nat) : State :=
  let move := fun a : ArmedCmd => { a with warp := a.warp + d, zero := if a.targeted then a.zero + d else a.zero }
  let s := { s with
    warp := { s.warp with cycle := s.warp.cycle + d / 65536 }
    loom := { s.loom with building := [], sealed_ := s.loom.sealed_.map move
                          sealedCycle := s.loom.sealedCycle + d / 65536 } }
  let s := forAll (upTo 32) (fun s c =>
    modCirc s c fun r => circShift d { r with placed := r.placed && circIsSealed s c }) s
  forAll (upTo 16) (fun s v => modVlv s v fun r => if r.pc.isSome then { r with startWarp := r.startWarp + d } else r) s

/-- An event or an ARM_AT whose Warp time is skipped: its time, and which it is. -/
inductive Skipped where
  | event (e : Nat)
  | slot (k : Nat)
  deriving DecidableEq, Repr

/-- The events and ARM_AT from Warp time `a` up to, not including, `b`, ascending. -/
def skippedSpan (s : State) (a b : Nat) : List Skipped :=
  let ev := (upTo 64).filterMap fun e =>
    let r := getEvent s e
    if r.st = 1 ∧ r.domain = 0 ∧ ¬ r.sealed ∧ a ≤ r.whenWarp ∧ r.whenWarp < b then some (r.whenWarp, Skipped.event e) else none
  let sl := (upTo 16).filterMap fun k =>
    let r := getSlot s k
    if r.armed ∧ a ≤ r.armAt ∧ r.armAt < b then some (r.armAt, Skipped.slot k) else none
  ((ev ++ sl).mergeSort fun x y => decide (x.1 ≤ y.1)).map fun x => x.2

/-- One of them acts at once and reads LATE; an event on a command of Loom does so without a set. -/
def skippedAct (s : State) (x : Skipped) : State :=
  match x with
  | .slot k => armReached s k true
  | .event e =>
    let r := getEvent s e
    if actsInSet s r.domain r.action r.target then
      match cmdChannel (r.target / 256) (r.target % 256) with
      | some h => userAct (modEvent s e fun r => { r with late := true }) e ⟨r.whenWarp, h, .user e, 0, false, false⟩
      | none => s
    else eventAct s e true

/-- The count moves to `n`: forward, or it is ALIGNED already, or BEHIND. -/
def warpAlignTo (s : State) (n : Nat) : State :=
  let c := s.warp.cycle
  let s := { s with warp := { s.warp with alignCount := none, alignSent := none } }
  if n < c then { s with warp := { s.warp with align := 2 } }
  else if n = c then { s with warp := { s.warp with align := 1 } }
  else
    let l := skippedSpan s (c * 65536) (n * 65536)
    let s := warpShift { s with warp := { s.warp with align := 1 } } ((n - c) * 65536)
    forAll l skippedAct (logWarp s .locked .locked)

/-- The count of the calendar epoch: whole nominal cycles since 2000-01-01 00:00 UTC, to the nearest. -/
def epochCount (s : State) : Nat := (roundDiv ((s.cal.now : Int) * Cfg.warpNominalFreq s) 65536).toNat

/-- The alignment at this cycle start: a standby adopts the count of the active module; a module in LOCKED that is
UNALIGNED follows ALIGN_SOURCE. -/
def warpAlign (s : State) : State :=
  if isStandby s then
    match s.warp.alignCount with
    | some n => warpAlignTo s n
    | none => s
  else if s.warp.ws ≠ .locked ∨ s.warp.align ≠ 0 ∨ !alignApplies s then s
  else if Cfg.warpAlignSource s = 0 then (if s.cal.st = 2 then warpAlignTo s (epochCount s) else s)
  else if Cfg.warpAlignSource s = Cfg.netNodeId s then { s with warp := { s.warp with align := 1 } }
  else
    match s.warp.alignCount with
    | some n => warpAlignTo s n
    | none => if s.warp.alignSent.isNone then alignSend s else s

/-- The measurement timers that restart with every cycle (R141). -/
def cycleTimers (s : State) : State :=
  forAll (upTo 8) (fun s m =>
    if Cfg.mtWarpSync s m then
      { s with meas := { s.meas with timers := Table.set (blank 0) s.meas.timers m (s.clk + Cfg.mtPeriod s m) } }
    else s) s

/-- The block keeps Warp: from reset release until the save is done. -/
def warpRuns (s : State) : Bool := s.power.phase ≠ .reset ∧ s.power.phase ≠ .done

/-- WARP_CYCLE_START (R28): the accumulator has come round. -/
def execWarpCycleStart (s : State) : Out :=
  .next (if warpRuns s ∧ 2 ^ 48 - 1 ≤ s.warp.frac then
      let s := warpLength (warpSync (warpEnter (warpCount s)))
      switchoverCycle (cycleTimers (warpAlign s))
    else s)

end Sys2Proof.Machine
end

