-- ==== Sys2Proof/Machine/ConfigResolution.lean ====
section
/-! DEFINITION. Step 5 of start-up: the configuration copies are resolved, the save area is restored, learned values,
profiles and the calendar are taken (11_object_dictionary, R260–R266; 19_power_and_holdup, R418; R39, R40, R50, R64,
R129). -/

namespace Sys2Proof.Machine

/-! ### The copies (R260, R265, R266) -/

/-- The schema of a stored copy is accepted: the running MAJOR, and no higher MINOR (R260). -/
def copySchemaOk (v : Nat) : Bool :=
  v / 65536 == schemaVersion / 65536 && decide (v / 256 % 256 ≤ schemaVersion / 256 % 256)

/-- A copy is intact (R265). -/
def copyIntact (c : CfgCopy) : Bool := c.intact && !c.blank && copySchemaOk c.schema

/-- The intact copies at the highest generation among the intact ones. -/
def topCopies (l : List CfgCopy) : List CfgCopy :=
  let ok := l.filter copyIntact
  let g := (ok.map fun c => c.gen).foldl max 0
  ok.filter fun c => c.gen == g

/-- Two copies of the list hold this content. -/
def twoHold (l : List CfgCopy) (t : Table Val) : Bool := decide (2 ≤ (l.filter fun c => c.content == t).length)

/-- What a resolution finds: CONFIG_STATE, generation, content. -/
structure Resolved where
  st : Nat
  gen : Nat
  content : Table Val
  deriving DecidableEq, Repr

/-- The member is of level 3, or is no member. -/
def levelThree (k : Nat) : Bool :=
  match findMem (k / 256) (k % 256) with
  | some d => d.level == 3
  | none => true

/-- The value that at least two of the copies hold for a member that is not of level 3, else its default (R266). -/
def majorityVal (l : List CfgCopy) (k : Nat) : Val :=
  let vs := l.map fun c => Table.getD dfltOf c.content k
  if levelThree k then dfltOf k
  else (vs.find? fun v => decide (2 ≤ (vs.filter fun w => w == v).length)).getD (dfltOf k)

/-- The members of a DIVERGENT configuration. -/
def majorityContent (l : List CfgCopy) : Table Val :=
  ((l.flatMap fun c => c.content.map fun p => p.1).eraseDups).foldl
    (fun t k => Table.set dfltOf t k (majorityVal l k)) []

/-- The table of R265. -/
def resolveCopies (l : List CfgCopy) : Resolved :=
  if l.all fun c => c.blank then ⟨0, 0, []⟩
  else
    match topCopies l with
    | [] => ⟨3, 0, []⟩
    | c :: t =>
      if t.all fun d => d.content == c.content then ⟨1, c.gen, c.content⟩
      else
        match (c :: t).find? fun d => decide ((c :: t).length = 3) && twoHold (c :: t) d.content with
        | some d => ⟨1, d.gen, d.content⟩
        | none => ⟨2, c.gen, majorityContent (c :: t)⟩

/-- The copy is the result. -/
def copyIs (r : Resolved) (c : CfgCopy) : Bool := copyIntact c && c.gen == r.gen && c.content == r.content

/-- Rewrite the copies that differ from a RESOLVED result, count them, and record the resolution (R265). -/
def repairCopies (s : State) (r : Resolved) : State :=
  let l := s.mram.copies
  let bad := fun c : CfgCopy => r.st == 1 && !copyIs r c
  let mask := (if bad (nth ⟨0, 0, false, false, []⟩ l 0) then 1 else 0) +
    (if bad (nth ⟨0, 0, false, false, []⟩ l 1) then 2 else 0) + if bad (nth ⟨0, 0, false, false, []⟩ l 2) then 4 else 0
  let n : Nat := (l.filter bad).length
  let s := { s with mram := { s.mram with
    copies := l.map fun c => if bad c then ⟨r.gen, schemaVersion, true, false, r.content⟩ else c
    cfgRepairs := s.mram.cfgRepairs + n } }
  let s := forAll ((upTo 3).filter fun k => mask.testBit k)
    (fun s k => mramWritten s (0x400000 + 0x80000 * k) (0x480000 + 0x80000 * k)) s
  logEvent s 0x0901 (bytes1 [r.st, mask, 0, 0] ++ leBytes 4 r.gen)

/-- The configuration comes into force (R262, R265). -/
def takeConfig (s : State) : State :=
  let r := resolveCopies s.mram.copies
  let found := s.mram.copies.map fun c => if copyIntact c then c.gen else 0
  let s := { s with dict := { s.dict with
    committed := r.content, force := r.content, gen := r.gen, st := r.st, copyGen := found } }
  let s := repairCopies s r
  if r.st = 2 then raiseAlarm .configDivergent s else if r.st = 3 then raiseAlarm .configLost s else s

/-! ### The calendar (R39, R40) -/

/-- The module has lost power before this start. -/
def powerLost (s : State) : Bool := s.power.resetCause = 0 ∨ s.power.resetCause = 1

/-- The tiers of the save area that can be restored. A line of it that was lost leaves none (log entry 35). -/
def saveTiers (s : State) : List Nat := if s.mram.save.lost then [] else s.mram.save.tiers

/-- A save area waits to be restored (R418). -/
def saveWaits (s : State) : Bool := s.mram.save.present && !s.mram.save.consumed

/-- The calendar after an outage: the RTC ran, or the save holds it, or it is UNSET. `vrtc` is VRTC_STATE, `rtcNow` what
the RTC holds. -/
def takeCalendar (s : State) (vrtc rtcNow : Nat) : State :=
  let s := { s with cal := { s.cal with vrtc := vrtc } }
  if !powerLost s then s
  else if vrtc = 1 then { s with cal := { s.cal with now := rtcNow } }
  else if saveWaits s && (saveTiers s).contains 1 && s.mram.save.calState != 0 then
    { s with cal := { s.cal with now := s.mram.save.calNow, acc := 0, st := 1 } }
  else { s with cal := { s.cal with now := 0, acc := 0, st := 0 } }

/-! ### The save area (R418, R419) -/

/-- Tier 1: the restart counts, where the module lost power. -/
def restoreCounts (s : State) : State :=
  let v := s.mram.save
  if (saveTiers s).contains 1 && powerLost s then
    { s with safety := { s.safety with autoTimes := v.autoTimes }
             therm := { s.therm with dRestarts := v.dTimes, lRestarts := v.lTimes } }
  else s

/-- Tier 3: learned values go to their MRAM homes, RW changes are to form a new generation. -/
def restoreLearned (s : State) : State :=
  let v := s.mram.save
  let s := { s with mram := { s.mram with
    circ := v.circ.foldl (fun t p => Table.put t p.1 p.2) s.mram.circ
    vlv := v.vlv.foldl (fun t p => Table.put t p.1 p.2) s.mram.vlv
    zones := v.zones.foldl (fun t p => match p.2 with
      | some r => Table.put t p.1 r
      | none => Table.del t p.1) s.mram.zones } }
  if configBad s then s else forAll v.rw (fun s p => writeRw s p.1 p.2) s

/-- Restore the tiers 0 to 3 of an area that is not consumed, and mark it consumed. -/
def restoreSave (s : State) : State :=
  if !saveWaits s then s
  else
    let ts := saveTiers s
    let s := restoreCounts s
    let s := if ts.contains 2 then { s with mram := { s.mram with disp := s.mram.save.disp } }
      else if s.mram.save.tiers.contains 2 then
        { s with mram := { s.mram with disp := { s.mram.disp with readable := false } } }
      else s
    let s := if ts.contains 3 then restoreLearned s else s
    let partial_ := !s.mram.save.complete || s.mram.save.lost
    let s := if partial_ then
        { s with power := { s.power with flags := Flag.set s.power.flags 4 true }
                 mram := { s.mram with lastSaveResult := 3 } }
      else s
    let s := if s.mram.save.imageCut then
        { s with images := { s.images with st := 0, err := 6 } }
      else s
    { s with mram := { s.mram with save := { s.mram.save with consumed := true, imageCut := false } } }

/-- Tier 4 may be applied (R418): RESET_CAUSE 1 or 3, a VALID calendar, OUTAGE within RESUME_WINDOW. -/
def resumeOk (s : State) : Bool :=
  let w := Cfg.powerResumeWindow s
  (saveTiers s).contains 4 && (s.power.resetCause == 1 || s.power.resetCause == 3) &&
    s.cal.st == 2 && w != 0 && decide (s.power.outage ≤ w * 1000)

/-- Apply tier 4 to the channels of `p`: commands of dictionary-owned outputs, OVERRIDE 3 and 4, what is left of MIN_ON
and MIN_OFF. -/
def resumeApply (s : State) (p : Nat → Bool) : State :=
  let r := s.mram.save.restart
  let mine := fun k : Nat => match cmdChannel (k / 256) (k % 256) with
    | some h => p h && ownerOf s h == .dict
    | none => false
  let s := forAll (r.cmds.filter fun q => mine q.1) (fun s q => setCmd s (q.1 / 256) (q.1 % 256) (valInt q.2)) s
  forAll (r.circuits.filter fun q => p (Cfg.circOutput s q.1)) (fun s q =>
    let s := if 3 ≤ q.2.1 then setRw s (memKey (0x3200 + q.1) 12) (.num q.2.1) else s
    modCirc s q.1 fun c => { c with minUntil := if q.2.2 = 0 then 0 else s.clk + q.2.2 }) s

/-- Tier 4 at step 5: on a paired module for LOCAL channels, the others when it has become active. -/
def restoreResume (s : State) (waits : Bool) : State :=
  if waits && resumeOk s then
    let s := resumeApply s fun h => !s.pair.en || isLocal s h
    { s with power := { s.power with flags := Flag.set s.power.flags 5 true } }
  else s

/-- BROWNOUT while three saves within 60 s stand in tier 1 (R419). -/
def brownoutFollow (s : State) : State :=
  { s with power := { s.power with
      flags := Flag.set s.power.flags 3 (decide (3 ≤ s.mram.save.saveTimes.length)) } }

/-- The time from the trigger of the save to the reset release of this start, ms: what the RTC says has passed since the trigger,
less what has passed since the release. -/
def outageMs (s : State) : Nat :=
  (s.cal.now - s.mram.save.calAt) * 1000 / 65536 - (s.clk - s.power.releaseClk) / clkPerMs

/-- OUTAGE (R421): from the trigger of the save to the restart, as the RTC measured it; unknown where no save waits or the RTC
did not run (log entry 90). -/
def takeOutage (s : State) (waits : Bool) (vrtc : Nat) : State :=
  { s with power := { s.power with
      outage := if waits ∧ (¬ powerLost s ∨ vrtc = 1) ∧ s.cal.st = 2 then min (outageMs s) 0xFFFFFFFF else 0xFFFFFFFF } }

/-! ### What the blocks take (R39, R50, R64, R83, R129, R141) -/

/-- Learned values of circuits, valves and zones from MRAM (R64, R131, R176). -/
def loadLearned (s : State) : State :=
  let s := forAll s.mram.circ (fun s p => modCirc s p.1 fun r => { r with lrn := some p.2 }) s
  let s := forAll s.mram.vlv (fun s p => modVlv s p.1 fun r => { r with learned := p.2.1, learnedAt := p.2.2 }) s
  forAll s.mram.zones (fun s p => modZone s p.1 fun r => { r with rates := some p.2 }) s

/-- The profiles of the enabled loops: the stored one where its tag is the committed tag, else zero (R129). -/
def loadProfiles (s : State) : State :=
  forAll ((upTo 256).filter fun n => Cfg.loopEnable s n && Cfg.rcRcEnable s n) (fun s n =>
    modLoop s n fun l =>
      let z := rcRetag s n true l.rc
      match s.mram.profiles.find? fun p => p.loop == n with
      | some p =>
        if p.kind = z.kind ∧ p.cycles = z.cycles ∧ p.bins = z.bins ∧ 1 ≤ z.kind then
          { l with rc := { z with profile := p.values, saved := p.savedAt } }
        else { l with rc := z }
      | none => { l with rc := z }) s

/-- The measurement timers count from here (R141). -/
def startTimers (s : State) : State :=
  forAll (upTo 8) (fun s m =>
    { s with meas := { s.meas with
      timers := Table.set (blank 0) s.meas.timers m (s.clk + Cfg.mtPeriod s m) } }) s

/-- The settings that take effect at start-up only (R335). -/
def takePair (s : State) : State :=
  { s with pair := { s.pair with en := Cfg.pairPairEn s, pairId := Cfg.pairPairId s, peerNode := Cfg.pairPeerNode s } }

/-- CONFIG_RESOLUTION (R265): the resolution, the save area, what the blocks load, the heddle table, the astronomical
events. The AO pins leave high impedance (R410). `rtcSec` and `rtcFrac` are the seconds and the 1/65536 s of the RTC. -/
def execConfigResolution (vrtc rtcSec rtcFrac : Nat) (s : State) : Out :=
  .next (if s.power.phase = .config then
      let waits := saveWaits s
      let s := takeConfig s
      let s := takeOutage (takeCalendar s vrtc (rtcSec * 65536 + rtcFrac % 65536)) waits vrtc
      let s := takePair (restoreSave s)
      let s := brownoutFollow (restoreResume s waits)
      let s := startTimers (loadProfiles (loadLearned s))
      let s := heddleAll (latchSafe (poolAssign s))
      aoApplyAll (astroCompute { s with power := { s.power with phase := .warp } })
    else s)

end Sys2Proof.Machine
end

