-- ==== Sys2Proof/Machine/Power.lean ====
section
/-! DEFINITION. Reset, start-up, output release, hold-up and the Bobbin save (19_power_and_holdup; R288, R348–R350). -/

namespace Sys2Proof.Machine

def modPower (s : State) (f : Power → Power) : State := { s with power := f s.power }

/-! ### Reset (R406, R417, R420) -/

/-- The cause of a start after a loss of power: a save is pending, or not. -/
def powerOnCause (s : State) : Nat := if saveWaits s then 1 else 0

/-- The module leaves reset: Warp starts at count 0, phase 0 (R31), and the cursor of the host session at the oldest
record (R401). -/
def leaveReset (s : State) : State :=
  let s := modPower s fun p => { p with phase := .boot, resetCause := p.nextCause, releaseClk := s.clk }
  modSess { s with warp := {} } .host fun r => { r with cursor := logOldest s }

/-- RESET_RELEASE (R406, R417): VIN has been good for 20 ms with RESET_N high. A module in DONE restarts. -/
def execResetRelease (s : State) : Out :=
  .next (if !s.power.resetN then s
    else if s.power.phase = .reset then leaveReset s
    else if s.power.phase = .done then leaveReset (resetState s 3)
    else s)

/-- RESET_N (R406): the pin changes, or is seen at `level`. Once it has been low for 10 µs it resets the module; a save
that has started completes first (R413). -/
def execResetN (level : Bool) (s : State) : Out :=
  let held : Bool := match s.power.resetLowAt with
    | some t => passed s t (usecs 10)
    | none => false
  let s := modPower s fun p => { p with
    resetN := level, resetLowAt := if level then none else some (p.resetLowAt.getD s.clk) }
  .next (if held ∧ s.power.phase ≠ .saving ∧ s.power.phase ≠ .reset then restart s 2 else s)

/-- The tiers that a save cut short has written: how many is a free value (log entry 8). -/
def cutSave (s : State) : State :=
  if s.power.phase ≠ .saving then s
  else
    let p := takeFree s
    let v := p.2.mram.save
    { p.2 with mram := { p.2.mram with save := { v with tiers := v.tiers.take (p.1 % (v.tiers.length + 1)) } } }

/-- POWER_LOSS (R406): VHOLD below 9 V. MRAM and the RTC domain alone go on. -/
def execPowerLoss (s : State) : Out :=
  let s := tearCopy (cutSave s)
  .next { resetState s (powerOnCause s) with therm := {}, safety := {} }

/-! ### Steps 1 and 2 (R139, R288, R407) -/

/-- A TRIAL slot that began to start and did not reach operational gives way to the other slot (R288). -/
def trialStep (s : State) : State :=
  if onTrial s then
    if s.mram.trialTried then
      let s := rollback s
      { s with mram := { s.mram with trialTried := false } }
    else { s with mram := { s.mram with trialTried := true } }
  else { s with mram := { s.mram with trialTried := false } }

/-- BOOT_ROM_DONE (R407): the boot control word is read, and VREF is enabled. -/
def execBootRomDone (s : State) : Out :=
  .next (if s.power.phase = .boot then
      let s := modPower (trialStep s) fun p => { p with phase := .signature }
      { s with meas := { s.meas with
        refState := 1, refClk := s.clk, refGood := 0, nextRound := s.clk
        scanDue := after s.clk (msecs (Cfg.measCScanPeriod s)) } }
    else s)

/-- The lines of firmware slot `k` that cannot be read are recorded, as offsets in the slot (R342). -/
def slotUnread (s : State) (k : Nat) (bad : List Nat) : State :=
  forAll bad (fun s o => poisonMram s (0x200000 * k + lineOf (o % 0x200000))) s

/-- SIGNATURE_CHECK_DONE (R407): the boot slot verifies, or the other one does, or the boot ROM stays in recovery. `badBoot` and
`badOther` are the lines that the boot ROM found unreadable in the boot slot and in the other one (log entry 95). -/
def execSignatureCheckDone (badBoot badOther : List Nat) (s : State) : Out :=
  .next (if s.power.phase ≠ .signature then s
    else
    let s := slotUnread (slotUnread s (otherSlot s) badOther) s.mram.bootSlot badBoot
    if slotVerifies s s.mram.bootSlot then modPower s fun p => { p with phase := .repairMap }
    else if slotVerifies s (otherSlot s) then
      let s := rollback s
      modPower { s with mram := { s.mram with trialTried := false } } fun p => { p with phase := .repairMap, fallback := true }
    else modPower s fun p => { p with phase := .recovery })

/-! ### Step 3: the repair map (R348, R350) -/

/-- The intact copies at the highest intact generation. -/
def topMaps (l : List MapCopy) : List MapCopy :=
  let ok := l.filter fun c => c.intact
  let g := (ok.map fun c => c.gen).foldl max 0
  ok.filter fun c => c.gen == g

/-- The same map and ledger. -/
def sameMap (a b : MapCopy) : Bool := a.map == b.map && a.ledger == b.ledger

/-- The copy that a resolution takes, where one is decided. -/
def pickMap (l : List MapCopy) : Option MapCopy :=
  match topMaps l with
  | [] => none
  | c :: t =>
    if t.all (sameMap c) then some c
    else (c :: t).find? fun d => decide ((c :: t).length = 3) && decide (2 ≤ ((c :: t).filter (sameMap d)).length)

/-- Append what is not there yet. -/
def joinList {α : Type} [BEq α] (a b : List α) : List α := a ++ b.filter fun x => !a.contains x

/-- Spares assigned anew, in order, to the defects of each bank: `n` spares a bank. -/
def respare (l : List (Nat × Nat × Nat × Nat)) : List (Nat × Nat × Nat × Nat) :=
  let keys := (l.map fun c => (c.1, c.2.1, c.2.2.1)).eraseDups
  keys.foldl (fun acc k => acc ++ [(k.1, k.2.1, k.2.2, (acc.filter fun c => c.1 == k.1 && c.2.1 == k.2.1).length)]) []

/-- Those within the `n` spares of their bank, and the others. -/
def splitSpares (n : Nat → Nat) (l : List (Nat × Nat × Nat × Nat)) :
    List (Nat × Nat × Nat × Nat) × List (Nat × Nat × Nat × Nat) :=
  (l.filter fun c => decide (c.2.2.2 < n c.1), l.filter fun c => !decide (c.2.2.2 < n c.1))

/-- The union of the defects of some maps: columns beyond the spares of a bank are erased, moves start again. -/
def mergeMaps (l : List RepairMap) : RepairMap :=
  let cols := splitSpares (fun _ => 2) (respare (l.flatMap fun m => m.cols))
  let rows := (splitSpares spareRows (respare (l.flatMap fun m => m.rows))).1
  { cols := cols.1, rows := rows
    erased := ((l.flatMap fun m => m.erased) ++ cols.2.map fun c => (c.1, c.2.1, c.2.2.1)).eraseDups
    lanes := (l.flatMap fun m => m.lanes).eraseDups
    moving := (cols.1.map fun c => (c.1, c.2.1, c.2.2.1, true)) ++ rows.map fun c => (c.1, c.2.1, c.2.2.1, false) }

/-- The lanes take their state from the map (R350). -/
def lanesFromMap (s : State) : State :=
  forAll s.mem.map.lanes (fun s i =>
    let spare := spareFree s
    let s := modLane s i fun l => { l with retired := true }
    let e := s.engine
    { s with engine := { e with
      first := if e.first = i ∧ spare then 2 else e.first
      second := if e.second = i ∧ spare then 2 else e.second
      degraded := true } }) s

/-- Take a map with its ledger and generation. -/
def useMap (s : State) (m : RepairMap) (ledger : List LedgerEntry) (gen st : Nat) : State :=
  refreshMapFlags { s with
    mem := { s.mem with map := m, repairGen := gen, repairState := st }, mram := { s.mram with ledger := ledger } }

/-- The table of R348. Without an intact copy the map starts empty and is rebuilt by the self-test. -/
def resolveMaps (s : State) : State :=
  let l := s.mram.maps
  match pickMap l with
  | some c =>
    let s := useMap s c.map c.ledger c.gen 0
    mramWritten { s with mram := { s.mram with maps := l.map fun _ => c } } 0x780000 0x78C000
  | none =>
    match topMaps l with
    | [] =>
      let s := useMap s {} [] ((l.map fun c => c.gen).foldl max 0) 2
      memFlag s memRebuilt true
    | c :: t =>
      let s := useMap s (mergeMaps ((c :: t).map fun d => d.map)) (t.foldl (fun a d => joinList a d.ledger) c.ledger |>.take 512)
        c.gen 1
      writeMap (memFlag s memMerged true)

/-- REPAIR_MAP_RESOLVE (R348, R350). -/
def execRepairMapResolve (s : State) : Out :=
  .next (if s.power.phase = .repairMap then
      modPower (lanesFromMap (resolveMaps s)) fun p => { p with phase := .memTest }
    else s)

/-! ### Step 4: the self-test (R345, R349) -/

/-- The failing cells of a memory as hits. -/
def failHits (k : MemKind) (l : List (Nat × Nat)) : List Hit :=
  (l.filter fun f => decide (f.2 < 36)).map fun f => ⟨k, lineOf (f.1 % 0x800000), f.2⟩

/-- The lines with more failing symbols than can be corrected (R340): a defective row, and in MRAM a poisoned line. -/
def deadLines (s : State) (hits : List Hit) : State :=
  forAll ((hits.map fun h => (h.mem, h.line)).eraseDups) (fun s p =>
    let m := memNo p.1
    let er := erasedNow s m (lineBank p.2)
    let n : Nat := ((hits.filter fun h => h.mem == p.1 && h.line == p.2 && !er.contains h.col).map fun h => h.col).eraseDups.length
    if 2 * n + er.length ≤ 4 then s
    else if m = 1 then poisonLine s 1 p.2 1
    else defectRow s 0 (lineBank p.2) (lineRow p.2) 1) s

/-- What the failing cells of one memory lead to. -/
def testMemory (s : State) (hits : List Hit) : State := classify (deadLines s hits) hits hits 1

/-- MEMORY_SELF_TEST (R349): the cells that failed, as line offset and symbol column; step 4 ends, and the scrubber
starts. A capacitor not measured by then is INSUFFICIENT (R411). -/
def execMemorySelfTest (sramFails mramFails : List (Nat × Nat)) (s : State) : Out :=
  .next (if s.power.phase = .memTest then
      let had := Flag.get s.mem.flags memExhausted
      let s := testMemory (testMemory s (failHits .sram sramFails)) (failHits .mram mramFails)
      let s := if s.mem.repairState = 2 then writeMap s else s
      let s := if s.power.holdupState = 2 then
          raiseAlarm .holdupInsufficient (modPower s fun p => { p with flags := Flag.set p.flags 0 true })
        else s
      let s := { s with mem := { s.mem with
          scrubbing := true, scrubPos := 0, passStart := s.clk, passMoves := s.mem.map.moving, filled := [] } }
      modPower s fun p => { p with
        phase := .config
        stepFailed := p.stepFailed || (!had && Flag.get s.mem.flags memExhausted && Flag.get s.safety.failures sfMemory) }
    else s)

/-! ### The hold-up capacitor (R411, R412) -/

/-- HOLDUP_MEASUREMENT (R411): in step 4, and at 03:30 local. -/
def execHoldupMeasurement (s : State) : Out :=
  .next (if s.power.measuring.isNone ∧
      (s.power.phase = .memTest ∨ (isUp s ∧ s.cal.st ≠ 0 ∧ localSec s / 60 % 1440 = 210)) then
      modPower s fun p => { p with measuring := some s.clk }
    else s)

/-- HOLDUP_STATE (R412). -/
def holdupClass (c esr : Nat) : Nat :=
  if 330 ≤ c ∧ esr ≤ 500 then 0 else if 100 ≤ c ∧ esr ≤ 2000 then 1 else 2

/-- HOLDUP_ESR in mΩ: the step in VHOLD at onset (µV) divided by the current (µA), within the U16 (R411; log entry 89). -/
def holdupEsrOf (step current : Nat) : Nat :=
  if current = 0 then 65535 else min (roundDiv ((step * 1000 : Nat) : Int) current).toNat 65535

/-- HOLDUP_C in µF: the charge drawn (nC) divided by the fall in VHOLD after the step (µV), within the U16 (R411; log
entry 89). -/
def holdupCapOf (charge fall : Nat) : Nat :=
  if fall = 0 then 65535 else min (roundDiv ((charge * 1000 : Nat) : Int) fall).toNat 65535

/-- HOLDUP_MEASURE_END (R411, R412): after 2 ms, from what ADC B has measured. -/
def execHoldupMeasureEnd (onset : HoldupOnset) (drain : HoldupDrain) (s : State) : Out :=
  .next (match s.power.measuring with
    | some t =>
      if passed s t (msecs 2) then
        let c := holdupCapOf drain.charge drain.fall
        let r := holdupEsrOf onset.step onset.current
        let st := holdupClass c r
        let s := modPower s fun p => { p with
          measuring := none, holdupC := c, holdupEsr := r, holdupEnergy := (roundDiv ((c : Int) * 875) 1000).toNat
          holdupState := st, flags := Flag.set p.flags 0 (st != 0) }
        if st = 2 then raiseAlarm .holdupInsufficient s else dropAlarm .holdupInsufficient s
      else s
    | none => s)

/-! ### Step 6, operational (R407, R408) -/

/-- WARP_STEP_END (R407): at LOCKED, or at 230 ms. -/
def execWarpStepEnd (s : State) : Out :=
  let bound := msecs (if s.power.fallback then 262 else 230)
  .next (if s.power.phase = .warp ∧ (s.warp.ws = .locked ∨ passed s s.power.releaseClk bound) then
      modPower s fun p => { p with stepDone := true }
    else s)

/-- Why output release is withheld: HOLD_REASON (R409). -/
def holdReasonOf (s : State) : Nat :=
  if s.therm.lState = 2 then 1 else if Flag.get s.power.flags 3 then 2 else 0

/-- The START record (R408). -/
def logStart (s : State) : State :=
  let ms := (s.clk - s.power.releaseClk) / clkPerMs
  logEvent s 0x1001 (bytes1 [s.power.resetCause, s.mram.bootSlot, s.dict.st, s.mem.repairState, s.power.holdupState,
    lockCode s.warp.ws] ++ leBytes 2 (min ms 65535))

/-- A TRIAL slot that has reached operational waits for FW_CONFIRM, or is confirmed at once (R288). -/
def trialUp (s : State) : State :=
  let s := { s with mram := { s.mram with trialTried := false } }
  if onTrial s then
    if Cfg.fwConfirmTime s = 0 then fwConfirmOp s 1
    else { s with images := { s.images with confirmUntil := some (after s.clk (secs (Cfg.fwConfirmTime s))) } }
  else s

/-- A paired module begins to decide its role (R319). -/
def decideStart (s : State) : State := roleDecide (modPair s fun p => { p with deciding := some s.clk })

/-- OPERATIONAL (R407, R408): the dictionary services open, the controllers enter OP_MODE, the first heartbeat and the
START record are queued; a paired module that is not held begins to decide its role. -/
def execOperational (s : State) : Out :=
  .next (if s.power.phase = .warp ∧ s.power.stepDone then
      let r := holdReasonOf s
      let held := decide (r ≠ 0) || s.power.stepFailed
      let s := modPower s fun p => { p with phase := if held then .held else .operational, holdReason := r }
      let s := forAll (upTo 2) (fun s x => canEnter (modCan s x fun c => { c with lowPower := false }) x) s
      let s := heartbeatSend { s with host := { s.host with
        hbAt := some (after s.clk (msecs 1000)), managerAt := s.clk } }
      let s := trialUp (logStart s)
      let s := modPair s fun p => { p with nextAlive := s.clk }
      if s.pair.en && !held then decideStart s else s
    else s)

/-! ### Step 7: output release (R409) -/

/-- The field side: the watchdog is armed and the committed modes are applied (R206). -/
def releaseField (s : State) : State :=
  forAll (upTo 32) ioTakeMode { s with io := { s.io with fwd := 1, lastRefresh := s.clk } }

/-- A loop that starts at output release has taken part since reset: every result since reset counts (R92). -/
def loopRelease (s : State) (n : Nat) : State := modLoop (loopBegin s n) n fun l => { l with enableClk := 0 }

/-- The enabled loops start (R107). -/
def releaseLoops (s : State) : State := forAll ((upTo 256).filter fun n => Cfg.loopEnable s n) loopRelease s

/-- Loom makes the circuits due, and the first rule round is due (R73, R79). -/
def releaseLoom (s : State) : State :=
  let s := forAll ((upTo 32).filter fun c => Cfg.circEnable s c) (fun s c => circSchedule s c false) s
  { s with loom := { s.loom with nextRound := s.clk, freshRules := true } }

/-- The supervisor begins to check, and its pins start (R381, R382). -/
def releaseSafety (s : State) : State :=
  safePinsStart { s with safety := { s.safety with
    st := if s.safety.st = 0 then 1 else s.safety.st, windowAt := s.clk, coresDone := [], nextCheck := s.clk } }

/-- Output release, on one engine clock. -/
def release (s : State) : State :=
  let s := modPower s fun p => { p with phase := .released, startTime := (s.clk - p.releaseClk) / clkPerMs }
  let s := if s.pair.en && s.pair.role == 1 && Flag.get s.power.flags 5 then resumeApply s fun h => !isLocal s h else s
  let s := releaseLoom (releaseLoops (releaseField s))
  let s := forAll (upTo 4) bankRefresh (applyAll (releaseSafety s))
  if isStandby s then dispTristate s else dispStart s

/-- OUTPUT_RELEASE (R319, R409): a paired module first decides its role. -/
def execOutputRelease (s : State) : Out :=
  .next (if s.power.phase ≠ .operational then s
    else if s.pair.en ∧ s.pair.role = 0 then (if s.pair.deciding.isNone then decideStart s else s)
    else release s)

/-! ### The Bobbin save (R264, R286, R412–R416, R419, R420) -/

/-- The tiers that a save writes: by the phase of start-up, and by HOLDUP_STATE (R412, R420). -/
def planTiers (s : State) : List Nat :=
  if 2 ≤ s.power.holdupState then [0, 1]
  else if s.power.holdupState = 1 ∨ s.power.phase ≠ .released then [0, 1, 2, 3]
  else [0, 1, 2, 3, 4]

/-- The persistent RW members that differ from what the copies would give (tier 3). -/
def unsavedRw (s : State) : List (Nat × Val) :=
  if configBad s then []
  else
    let now_ := configOf s.dict.committed
    let was := (resolveCopies s.mram.copies).content
    let keys := (diffKeys was now_).filter fun k => match findMem (k / 256) (k % 256) with
      | some d => d.acc != .rwg
      | none => false
    keys.map fun k => (k, Table.getD dfltOf now_ k)

/-- The commands of dictionary-owned outputs (tier 4). A switched valve that is off is kept as off. -/
def restartCmds (s : State) : List (Nat × Val) :=
  (outEntries.filter fun h => ownerOf s h == .dict).map fun h =>
    let k := cmdMember s h
    let off := decide (288 ≤ h) && decide (h < 304) && k.2 == 1 && !(getVlv s (h - 288)).cmdOn
    (memKey k.1 k.2, if off then .num 0 else .num (cfgI s k.1 k.2))

/-- OVERRIDE 3 and 4, and what is left of MIN_ON and MIN_OFF (tier 4). -/
def restartCircs (s : State) : List (Nat × Nat × Nat) :=
  (upTo 32).filterMap fun c =>
    let o := Cfg.circOverride s c
    let o := if 3 ≤ o then o else 0
    let left := (getCirc s c).minUntil - s.clk
    if Cfg.circEnable s c ∧ (o ≠ 0 ∨ left ≠ 0) then some (c, o, left) else none

/-- What the save area receives (R415). -/
def saveContents (s : State) (disp : DispRec) : SaveArea :=
  let v := s.mram.save
  { v with
    present := true, complete := false, consumed := false, lost := false, seq := v.seq + 1
    warpAt := warpNow s, calAt := s.cal.now, holdupState := s.power.holdupState, tiers := planTiers s
    calNow := s.cal.now, calState := s.cal.st, warpCycle := s.warp.cycle
    saveTimes := (if Flag.get s.power.flags 3 then v.saveTimes else recent s (secs 60) v.saveTimes) ++ [s.clk], autoTimes := s.safety.autoTimes
    dTimes := s.therm.dRestarts, lTimes := s.therm.lRestarts, disp := disp
    circ := (upTo 32).filterMap fun c => match (getCirc s c).dirtyAt, (getCirc s c).lrn with
      | some _, some l => some (c, l)
      | _, _ => none
    vlv := (upTo 16).filterMap fun n =>
      if (getVlv s n).learnDirty.isSome then some (n, (getVlv s n).learned, (getVlv s n).learnedAt) else none
    zones := (upTo 64).filterMap fun z => if (getZone s z).dirtyAt.isSome then some (z, (getZone s z).rates) else none
    rw := unsavedRw s, restart := ⟨restartCmds s, restartCircs s⟩
    imageCut := decide (s.images.st = 1) || decide (s.images.st = 2) }

/-- The third save within 60 s sets BROWNOUT (R419). -/
def brownoutSet (s : State) : State :=
  if 3 ≤ s.mram.save.saveTimes.length then modPower s fun p => { p with flags := Flag.set p.flags 3 true } else s

/-- The display at the trigger; what it records goes into tier 2. With PAIR_EN its pins go high impedance
100 µs later (R416). -/
def saveDisplay (s : State) : DispRec × State :=
  let old := s.mram.disp
  let s := dispSave s (decide (s.power.holdupState ≠ 0))
  let r := s.mram.disp
  let s := { s with mram := { s.mram with disp := old } }
  (r, if s.pair.en then modDisp s fun d => { d with hizAt := some (after s.clk (usecs 100)) } else s)

/-- Everything stops at the trigger: outputs off, transceivers in low power, scrubber, copy and image load stopped, SAFE
pins low (R414). -/
def saveStop (s : State) : State :=
  let s := modPower s fun p => { p with phase := .saving, measuring := none, sagClk := s.clk, sagCal := s.cal.now }
  let s := forAll (upTo 2) (fun s x => modCan s x fun c => { c with onBus := 0, lowPower := true }) s
  let s := { s with
    mem := { s.mem with scrubbing := false }
    dict := { s.dict with job := none, jobs := [] }
    images := { s.images with st := if s.images.st = 1 ∨ s.images.st = 2 then 0 else s.images.st }
    safety := { s.safety with safeA := false, safeB := false, faultN := false } }
  forAll (upTo 4) bankRefresh (applyAll (forAll (upTo 4) fanStop s))

/-- The save from its trigger on. -/
def saveBegin (s : State) : State :=
  let p := saveDisplay (tearCopy (pairGiveUp s))
  let s := p.2
  let s := mramWritten { s with mram := { s.mram with save := saveContents s p.1, saves := s.mram.saves + 1 } } 0x740000 0x780000
  flushLog (saveStop (brownoutSet s))

/-- VIN_SAG (R413, R420): two consecutive VIN conversions below 16 V. Before the end of step 5 no save starts, and the
module restarts. -/
def execVinSag (s : State) : Out :=
  .next (if s.power.vinRun < 2 then s
    else
      match s.power.phase with
      | .warp | .operational | .released | .held => saveBegin s
      | .boot | .signature | .repairMap | .memTest | .config | .recovery => restart s (powerOnCause s)
      | .reset | .saving | .done | .dieHold => s)

/-- SAVE_DONE (R414): the last tier is written; the header is marked complete, VREF is disabled, and the cores and
engines halt. -/
def execSaveDone (bytes : Nat) (s : State) : Out :=
  .next (if s.power.phase = .saving then
      let full := decide (s.mram.save.tiers = [0, 1, 2, 3, 4])
      let s := modPower s fun p => { p with phase := .done }
      { s with
        meas := { s.meas with refState := 0 }
        mram := { s.mram with
          save := { s.mram.save with complete := true }
          lastSaveAt := s.power.sagCal, lastSaveTime := min ((s.clk - s.power.sagClk) / clkPerUs) 65535
          lastSaveBytes := bytes, lastSaveResult := if full then 1 else 2 } }
    else s)

/-- BROWNOUT_CLEAR (R419): VIN has stayed at 18 V or above for 10 s; BROWNOUT and the count of saves clear. -/
def execBrownoutClear (s : State) : Out :=
  let good : Bool := match s.power.vin18Since with
    | some t => passed s t (secs 10)
    | none => false
  .next (if Flag.get s.power.flags 3 ∧ good ∧ isUp s then
      let s := { s with mram := { s.mram with save := { s.mram.save with saveTimes := [] } } }
      modPower s fun p => { p with
        flags := Flag.set p.flags 3 false
        phase := if p.phase = .held ∧ p.holdReason = 2 ∧ ¬ p.stepFailed then .operational else p.phase
        holdReason := if p.holdReason = 2 then 0 else p.holdReason }
    else s)

end Sys2Proof.Machine
end

