-- ==== Sys2Proof/Machine/Tick.lean ====
section
/-! DEFINITION. One engine clock: Warp's accumulator and the calendar advance (R28, R42–R44). -/

namespace Sys2Proof.Machine

/-- Warp advances by its increment and stands at the end of the cycle until the next one starts (R28,
R29). The F-die's replica runs on at the increment it was sent last (R16). -/
def warpTick (w : Warp) : Warp :=
  { w with frac := min (w.frac + w.inc) (2 ^ 48 - 1), replica := w.replica + w.incF }

/-- What an engine clock adds to the calendar, in units of which `calUnit` make 1/65536 s: the corrected
rate, and 500 ppm more or less while a slew is left (R42, R43). -/
def calRate (c : Cal) : Nat :=
  let r : Int := 100000000 + c.tempCorr + c.gridCorr
  (if 0 < c.slewLeft then r + 50000 else if c.slewLeft < 0 then r - 50000 else r).toNat

/-- SLEW_LEFT goes toward 0 as the slew is worked off. -/
def slewTick (c : Cal) : Cal :=
  if c.slewLeft = 0 then c
  else if c.slewAcc + 50000 < calUnit then { c with slewAcc := c.slewAcc + 50000 }
  else
    { c with slewAcc := c.slewAcc + 50000 - calUnit
             slewLeft := if 0 < c.slewLeft then c.slewLeft - 1 else c.slewLeft + 1 }

/-- RTC time of the present day in LOCKED, with TEMP_CORR and without GRID_CORR (R44). -/
def gridTick (locked : Bool) (c : Cal) : Cal :=
  if !locked then c
  else
    let a := c.gridAcc + (100000000 + c.tempCorr).toNat
    if a < calUnit then { c with gridAcc := a }
    else { c with gridAcc := a - calUnit, today_ := { c.today_ with locked := c.today_.locked + 1 } }

/-- The calendar advances by one engine clock. -/
def calTick (locked : Bool) (c : Cal) : Cal :=
  let a := c.acc + calRate c
  let c := if a < calUnit then { c with acc := a } else { c with acc := a - calUnit, now := c.now + 1 }
  gridTick locked (slewTick c)

/-- One engine clock passes. -/
def tick (s : State) : State :=
  { s with clk := s.clk + 1, warp := warpTick s.warp, cal := calTick (decide (s.warp.ws = .locked)) s.cal }

end Sys2Proof.Machine
end

