-- ==== Sys2Proof/Machine/Dispatch.lean ====
section
/-! DEFINITION. The meaning of each command, one arm for each constructor. -/

namespace Sys2Proof.Machine

def exec (i : Instr) (s : State) : Host.Outcome State Fault Refusal :=
  match i with
  | .read env obj mem flags => Sys2Proof.Machine.execRead env obj mem flags s
  | .write env obj mem data => Sys2Proof.Machine.execWrite env obj mem data s
  | .commit env => Sys2Proof.Machine.execCommit env s
  | .abort env => Sys2Proof.Machine.execAbort env s
  | .segmentInitRead env count items => Sys2Proof.Machine.execSegmentInitRead env count items s
  | .segmentInitWrite env count total items => Sys2Proof.Machine.execSegmentInitWrite env count total items s
  | .segmentData env offset count data => Sys2Proof.Machine.execSegmentData env offset count data s
  | .segmentEnd env => Sys2Proof.Machine.execSegmentEnd env s
  | .segmentCancel env => Sys2Proof.Machine.execSegmentCancel env s
  | .segmentTimeout sess => Sys2Proof.Machine.execSegmentTimeout sess s
  | .bulkRead env count offset => Sys2Proof.Machine.execBulkRead env count offset s
  | .bulkWrite env count offset data => Sys2Proof.Machine.execBulkWrite env count offset data s
  | .event env max => Sys2Proof.Machine.execEvent env max s
  | .fetch frame clocked => Sys2Proof.Machine.execFetch frame clocked s
  | .hostPortReset => Sys2Proof.Machine.execHostPortReset s
  | .pendingTimeout sess => Sys2Proof.Machine.execPendingTimeout sess s
  | .accessRequest env data => Sys2Proof.Machine.execAccessRequest env data s
  | .accessCode env data => Sys2Proof.Machine.execAccessCode env data s
  | .codeLockoutEnd sess => Sys2Proof.Machine.execCodeLockoutEnd sess s
  | .accessTimeout sess => Sys2Proof.Machine.execAccessTimeout sess s
  | .copyWriteComplete ok => Sys2Proof.Machine.execCopyWriteComplete ok s
  | .persistentRwGeneration => Sys2Proof.Machine.execPersistentRwGeneration s
  | .imageKind env data => Sys2Proof.Machine.execImageKind env data s
  | .imageChunk env data => Sys2Proof.Machine.execImageChunk env data s
  | .imageVerify env data => Sys2Proof.Machine.execImageVerify env data s
  | .verifyComplete => Sys2Proof.Machine.execVerifyComplete s
  | .imageActivate env data => Sys2Proof.Machine.execImageActivate env data s
  | .fwConfirm env data => Sys2Proof.Machine.execFwConfirm env data s
  | .confirmTimeout => Sys2Proof.Machine.execConfirmTimeout s
  | .heartbeat => Sys2Proof.Machine.execHeartbeat s
  | .hostTimeout => Sys2Proof.Machine.execHostTimeout s
  | .warpCycleStart => Sys2Proof.Machine.execWarpCycleStart s
  | .mainsZero period ampl err => Sys2Proof.Machine.execMainsZero period ampl err s
  | .zeroMissing => Sys2Proof.Machine.execZeroMissing s
  | .holdoverExpiry => Sys2Proof.Machine.execHoldoverExpiry s
  | .alignResponse warpNow => Sys2Proof.Machine.execAlignResponse warpNow s
  | .alignRetry => Sys2Proof.Machine.execAlignRetry s
  | .clockFailure cause => Sys2Proof.Machine.execClockFailure cause s
  | .calNow env data => Sys2Proof.Machine.execCalNow env data s
  | .calSlew env data => Sys2Proof.Machine.execCalSlew env data s
  | .gridEvaluation => Sys2Proof.Machine.execGridEvaluation s
  | .astroComputation => Sys2Proof.Machine.execAstroComputation s
  | .crystalCompensation => Sys2Proof.Machine.execCrystalCompensation s
  | .armedSetSeal => Sys2Proof.Machine.execArmedSetSeal s
  | .armedCommand => Sys2Proof.Machine.execArmedCommand s
  | .calendarEventDue ev => Sys2Proof.Machine.execCalendarEventDue ev s
  | .transitionTimeout c => Sys2Proof.Machine.execTransitionTimeout c s
  | .minOnOffExpiry c => Sys2Proof.Machine.execMinOnOffExpiry c s
  | .learnedPersist => Sys2Proof.Machine.execLearnedPersist s
  | .learnReset env c data => Sys2Proof.Machine.execLearnReset env c data s
  | .override env c data => Sys2Proof.Machine.execOverride env c data s
  | .ruleRound overran => Sys2Proof.Machine.execRuleRound overran s
  | .arm env e data => Sys2Proof.Machine.execArm env e data s
  | .userEventAct e => Sys2Proof.Machine.execUserEventAct e s
  | .sampleTimer n => Sys2Proof.Machine.execSampleTimer n s
  | .warpSample n => Sys2Proof.Machine.execWarpSample n s
  | .loopSample n err => Sys2Proof.Machine.execLoopSample n err s
  | .laneTest lane ok => Sys2Proof.Machine.execLaneTest lane ok s
  | .statsReset env n data => Sys2Proof.Machine.execStatsReset env n data s
  | .mode env n data => Sys2Proof.Machine.execMode env n data s
  | .manOut env n data => Sys2Proof.Machine.execManOut env n data s
  | .rcClear env n data => Sys2Proof.Machine.execRcClear env n data s
  | .profile env n data => Sys2Proof.Machine.execProfile env n data s
  | .profileSave => Sys2Proof.Machine.execProfileSave s
  | .optimumStart => Sys2Proof.Machine.execOptimumStart s
  | .prestartTimeout z => Sys2Proof.Machine.execPrestartTimeout z s
  | .osLearnReset env z data => Sys2Proof.Machine.execOsLearnReset env z data s
  | .mtExpiry m => Sys2Proof.Machine.execMtExpiry m s
  | .conversionDue t => Sys2Proof.Machine.execConversionDue t s
  | .conversionStart adc => Sys2Proof.Machine.execConversionStart adc s
  | .continuousSlot pos => Sys2Proof.Machine.execContinuousSlot pos s
  | .conversionComplete adc l lB raw rawB => Sys2Proof.Machine.execConversionComplete adc l lB raw rawB s
  | .housekeepingRound => Sys2Proof.Machine.execHousekeepingRound s
  | .aiScan => Sys2Proof.Machine.execAiScan s
  | .shuntTrip k => Sys2Proof.Machine.execShuntTrip k s
  | .shuntReclose k => Sys2Proof.Machine.execShuntReclose k s
  | .aiClampEvent k driven => Sys2Proof.Machine.execAiClampEvent k driven s
  | .recoveringEnd k => Sys2Proof.Machine.execRecoveringEnd k s
  | .noiseMeasurement noiseA noiseB => Sys2Proof.Machine.execNoiseMeasurement noiseA noiseB s
  | .aoCmd env a data => Sys2Proof.Machine.execAoCmd env a data s
  | .aoFault a kind => Sys2Proof.Machine.execAoFault a kind s
  | .aoStatusClear a => Sys2Proof.Machine.execAoStatusClear a s
  | .vlvCmd env v data sense => Sys2Proof.Machine.execVlvCmd env v data sense s
  | .propCmd env v data => Sys2Proof.Machine.execPropCmd env v data s
  | .pulseExpiry v => Sys2Proof.Machine.execPulseExpiry v s
  | .cardStart v => Sys2Proof.Machine.execCardStart v s
  | .cardNop v => Sys2Proof.Machine.execCardNop v s
  | .cardRail v => Sys2Proof.Machine.execCardRail v s
  | .cardDecay v => Sys2Proof.Machine.execCardDecay v s
  | .cardChop v => Sys2Proof.Machine.execCardChop v s
  | .cardDrive v => Sys2Proof.Machine.execCardDrive v s
  | .cardOff v => Sys2Proof.Machine.execCardOff v s
  | .cardGrant v => Sys2Proof.Machine.execCardGrant v s
  | .cardRelease v => Sys2Proof.Machine.execCardRelease v s
  | .cardWait v => Sys2Proof.Machine.execCardWait v s
  | .cardWseat v => Sys2Proof.Machine.execCardWseat v s
  | .cardWcmd v => Sys2Proof.Machine.execCardWcmd v s
  | .cardWdrop v => Sys2Proof.Machine.execCardWdrop v s
  | .cardSeatcfg v => Sys2Proof.Machine.execCardSeatcfg v s
  | .cardMarkh v => Sys2Proof.Machine.execCardMarkh v s
  | .cardJmp v => Sys2Proof.Machine.execCardJmp v s
  | .cardJcmd v => Sys2Proof.Machine.execCardJcmd v s
  | .cardJlt v current => Sys2Proof.Machine.execCardJlt v current s
  | .cardJrlt v => Sys2Proof.Machine.execCardJrlt v s
  | .cardLstep v => Sys2Proof.Machine.execCardLstep v s
  | .cardLsave v => Sys2Proof.Machine.execCardLsave v s
  | .cardFlag v => Sys2Proof.Machine.execCardFlag v s
  | .cardEnd v => Sys2Proof.Machine.execCardEnd v s
  | .budgetGranted b => Sys2Proof.Machine.execBudgetGranted b s
  | .waitExpiry v => Sys2Proof.Machine.execWaitExpiry v s
  | .seatDetected v stamp eCoil eMag => Sys2Proof.Machine.execSeatDetected v stamp eCoil eMag s
  | .wseatTimeout v => Sys2Proof.Machine.execWseatTimeout v s
  | .dropoutDetected v => Sys2Proof.Machine.execDropoutDetected v s
  | .wdropTimeout v => Sys2Proof.Machine.execWdropTimeout v s
  | .decayComplete v => Sys2Proof.Machine.execDecayComplete v s
  | .chopperPeriodStart v => Sys2Proof.Machine.execChopperPeriodStart v s
  | .chopperOffEdge v => Sys2Proof.Machine.execChopperOffEdge v s
  | .learnWindowGrant v => Sys2Proof.Machine.execLearnWindowGrant v s
  | .wait5200Expiry v => Sys2Proof.Machine.execWait5200Expiry v s
  | .coilResMeasured v milliohm => Sys2Proof.Machine.execCoilResMeasured v milliohm s
  | .channelTrip v => Sys2Proof.Machine.execChannelTrip v s
  | .bankTrip b => Sys2Proof.Machine.execBankTrip b s
  | .offStateTest v openOff shortGnd shortSupply => Sys2Proof.Machine.execOffStateTest v openOff shortGnd shortSupply s
  | .onStateDiag v kind present => Sys2Proof.Machine.execOnStateDiag v kind present s
  | .vlvDiagClear env v data => Sys2Proof.Machine.execVlvDiagClear env v data s
  | .cardImage env j data => Sys2Proof.Machine.execCardImage env j data s
  | .ioInputSample io millivolt microamp => Sys2Proof.Machine.execIoInputSample io millivolt microamp s
  | .ioFilterExpiry io => Sys2Proof.Machine.execIoFilterExpiry io s
  | .tachEdge io => Sys2Proof.Machine.execTachEdge io s
  | .ioCmd env io data => Sys2Proof.Machine.execIoCmd env io data s
  | .ioCurrentLimit io current => Sys2Proof.Machine.execIoCurrentLimit io current s
  | .ioThermalShutdown io => Sys2Proof.Machine.execIoThermalShutdown io s
  | .ioThermalRestart io => Sys2Proof.Machine.execIoThermalRestart io s
  | .groupShed g currents => Sys2Proof.Machine.execGroupShed g currents s
  | .groupReinstate g => Sys2Proof.Machine.execGroupReinstate g s
  | .ioOutputDiag io kind present => Sys2Proof.Machine.execIoOutputDiag io kind present s
  | .ioDiagClear env io data => Sys2Proof.Machine.execIoDiagClear env io data s
  | .barrierFrame crcOk power => Sys2Proof.Machine.execBarrierFrame crcOk power s
  | .barrierLinkDown => Sys2Proof.Machine.execBarrierLinkDown s
  | .fwdRefresh => Sys2Proof.Machine.execFwdRefresh s
  | .fwdTrip => Sys2Proof.Machine.execFwdTrip s
  | .barrierSupplyLoss => Sys2Proof.Machine.execBarrierSupplyLoss s
  | .fwdRearm env data => Sys2Proof.Machine.execFwdRearm env data s
  | .supplyLost g => Sys2Proof.Machine.execSupplyLost g s
  | .supplyReturn g => Sys2Proof.Machine.execSupplyReturn g s
  | .ioModeChangeEnd io => Sys2Proof.Machine.execIoModeChangeEnd io s
  | .pwmPeriodStart k => Sys2Proof.Machine.execPwmPeriodStart k s
  | .pwmCentre k => Sys2Proof.Machine.execPwmCentre k s
  | .fanCmd env f data => Sys2Proof.Machine.execFanCmd env f data s
  | .speedEvaluation f measured => Sys2Proof.Machine.execSpeedEvaluation f measured s
  | .listenEnd k locked forward speed => Sys2Proof.Machine.execListenEnd k locked forward speed s
  | .zeroVectorEnd k => Sys2Proof.Machine.execZeroVectorEnd k s
  | .alignEnd k => Sys2Proof.Machine.execAlignEnd k s
  | .observerLock k => Sys2Proof.Machine.execObserverLock k s
  | .startAttemptFail k => Sys2Proof.Machine.execStartAttemptFail k s
  | .pauseEnd k => Sys2Proof.Machine.execPauseEnd k s
  | .blockedRestEnd k => Sys2Proof.Machine.execBlockedRestEnd k s
  | .phaseTrip k => Sys2Proof.Machine.execPhaseTrip k s
  | .lockLost k => Sys2Proof.Machine.execLockLost k s
  | .fanRestart k => Sys2Proof.Machine.execFanRestart k s
  | .ecTachLoss e mean => Sys2Proof.Machine.execEcTachLoss e mean s
  | .tableRead f => Sys2Proof.Machine.execTableRead f s
  | .fanDiagClear env f data => Sys2Proof.Machine.execFanDiagClear env f data s
  | .frameStart => Sys2Proof.Machine.execFrameStart s
  | .rowSlot => Sys2Proof.Machine.execRowSlot s
  | .displayBandEval => Sys2Proof.Machine.execDisplayBandEval s
  | .image env data => Sys2Proof.Machine.execImage env data s
  | .row env r data => Sys2Proof.Machine.execRow env r data s
  | .updateRoundStart => Sys2Proof.Machine.execUpdateRoundStart s
  | .updateRoundEnd => Sys2Proof.Machine.execUpdateRoundEnd s
  | .ledgerReset env data => Sys2Proof.Machine.execLedgerReset env data s
  | .vlcdFault millivolt => Sys2Proof.Machine.execVlcdFault millivolt s
  | .dispModeSwitchEnd => Sys2Proof.Machine.execDispModeSwitchEnd s
  | .scrubRead errs => Sys2Proof.Machine.execScrubRead errs s
  | .correctedWriteback mem offset => Sys2Proof.Machine.execCorrectedWriteback mem offset s
  | .heddleRewrite entry => Sys2Proof.Machine.execHeddleRewrite entry s
  | .spareMoveComplete => Sys2Proof.Machine.execSpareMoveComplete s
  | .invalidate env data => Sys2Proof.Machine.execInvalidate env data s
  | .invalidationComplete => Sys2Proof.Machine.execInvalidationComplete s
  | .thermalEvaluation => Sys2Proof.Machine.execThermalEvaluation s
  | .dieRestart die => Sys2Proof.Machine.execDieRestart die s
  | .thermClear env data => Sys2Proof.Machine.execThermClear env data s
  | .readbackCheck readings => Sys2Proof.Machine.execReadbackCheck readings s
  | .checkpoint core inOrder last => Sys2Proof.Machine.execCheckpoint core inOrder last s
  | .watchdogExpiry => Sys2Proof.Machine.execWatchdogExpiry s
  | .safeToggle => Sys2Proof.Machine.execSafeToggle s
  | .autoRestart => Sys2Proof.Machine.execAutoRestart s
  | .safetyClear env data => Sys2Proof.Machine.execSafetyClear env data s
  | .safetyReset env data => Sys2Proof.Machine.execSafetyReset env data s
  | .safetyTest env data => Sys2Proof.Machine.execSafetyTest env data s
  | .safetyLock env data => Sys2Proof.Machine.execSafetyLock env data s
  | .safetyPubkey env data => Sys2Proof.Machine.execSafetyPubkey env data s
  | .safetyChallenge env => Sys2Proof.Machine.execSafetyChallenge env s
  | .challengeExpiry sess => Sys2Proof.Machine.execChallengeExpiry sess s
  | .safetyResponse env data => Sys2Proof.Machine.execSafetyResponse env data s
  | .aliveTimer => Sys2Proof.Machine.execAliveTimer s
  | .alive lane crcOk info => Sys2Proof.Machine.execAlive lane crcOk info s
  | .mirror lane crcOk items => Sys2Proof.Machine.execMirror lane crcOk items s
  | .mirrorSend heddles => Sys2Proof.Machine.execMirrorSend heddles s
  | .config lane crcOk gen changes => Sys2Proof.Machine.execConfig lane crcOk gen changes s
  | .join lane crcOk part => Sys2Proof.Machine.execJoin lane crcOk part s
  | .relinquish lane crcOk => Sys2Proof.Machine.execRelinquish lane crcOk s
  | .taken lane crcOk => Sys2Proof.Machine.execTaken lane crcOk s
  | .selvedgeLaneDown lane => Sys2Proof.Machine.execSelvedgeLaneDown lane s
  | .selvedgeLinkDown => Sys2Proof.Machine.execSelvedgeLinkDown s
  | .selRoleToggle => Sys2Proof.Machine.execSelRoleToggle s
  | .selPeerEdge => Sys2Proof.Machine.execSelPeerEdge s
  | .selPeerIdle => Sys2Proof.Machine.execSelPeerIdle s
  | .roleDecisionTimeout => Sys2Proof.Machine.execRoleDecisionTimeout s
  | .dualActive => Sys2Proof.Machine.execDualActive s
  | .peerHeartbeat node role => Sys2Proof.Machine.execPeerHeartbeat node role s
  | .takeover => Sys2Proof.Machine.execTakeover s
  | .switchover env data => Sys2Proof.Machine.execSwitchover env data s
  | .takenTimeout => Sys2Proof.Machine.execTakenTimeout s
  | .forceTakeover env data => Sys2Proof.Machine.execForceTakeover env data s
  | .txFrame env x data => Sys2Proof.Machine.execTxFrame env x data s
  | .txCancel env x data => Sys2Proof.Machine.execTxCancel env x data s
  | .canTxComplete x => Sys2Proof.Machine.execCanTxComplete x s
  | .canFrameReceived x frame => Sys2Proof.Machine.execCanFrameReceived x frame s
  | .rxAck env x o data => Sys2Proof.Machine.execRxAck env x o data s
  | .record env x o => Sys2Proof.Machine.execRecord env x o s
  | .canError x kind transmitting amount => Sys2Proof.Machine.execCanError x kind transmitting amount s
  | .busoffHoldoffEnd x => Sys2Proof.Machine.execBusoffHoldoffEnd x s
  | .recover env x data => Sys2Proof.Machine.execRecover env x data s
  | .busOffRecovered x => Sys2Proof.Machine.execBusOffRecovered x s
  | .loneRetry x => Sys2Proof.Machine.execLoneRetry x s
  | .rateCandidateTimer x => Sys2Proof.Machine.execRateCandidateTimer x s
  | .reintegrationDone x => Sys2Proof.Machine.execReintegrationDone x s
  | .urgentDiscard x => Sys2Proof.Machine.execUrgentDiscard x s
  | .txDomTimeout x => Sys2Proof.Machine.execTxDomTimeout x s
  | .sleepReq env x data => Sys2Proof.Machine.execSleepReq env x data s
  | .sleepEntry x => Sys2Proof.Machine.execSleepEntry x s
  | .dominantWake x nanoseconds => Sys2Proof.Machine.execDominantWake x nanoseconds s
  | .wakeFrame x frame => Sys2Proof.Machine.execWakeFrame x frame s
  | .wakeErrorCount x error => Sys2Proof.Machine.execWakeErrorCount x error s
  | .trxOvertemp x hot => Sys2Proof.Machine.execTrxOvertemp x hot s
  | .canTriggerFrame x dest source data => Sys2Proof.Machine.execCanTriggerFrame x dest source data s
  | .snapTrigger env data => Sys2Proof.Machine.execSnapTrigger env data s
  | .trigInEdge rising => Sys2Proof.Machine.execTrigInEdge rising s
  | .armAt env slot data => Sys2Proof.Machine.execArmAt env slot data s
  | .armAtReached slot => Sys2Proof.Machine.execArmAtReached slot s
  | .captureCopyComplete => Sys2Proof.Machine.execCaptureCopyComplete s
  | .trigOutEnd => Sys2Proof.Machine.execTrigOutEnd s
  | .snapRelease env slot data => Sys2Proof.Machine.execSnapRelease env slot data s
  | .logWrite => Sys2Proof.Machine.execLogWrite s
  | .logRecord env => Sys2Proof.Machine.execLogRecord env s
  | .resetRelease => Sys2Proof.Machine.execResetRelease s
  | .resetN level => Sys2Proof.Machine.execResetN level s
  | .powerLoss => Sys2Proof.Machine.execPowerLoss s
  | .bootRomDone => Sys2Proof.Machine.execBootRomDone s
  | .signatureCheckDone badBoot badOther => Sys2Proof.Machine.execSignatureCheckDone badBoot badOther s
  | .repairMapResolve => Sys2Proof.Machine.execRepairMapResolve s
  | .memorySelfTest sramFails mramFails => Sys2Proof.Machine.execMemorySelfTest sramFails mramFails s
  | .configResolution vrtc rtcSec rtcFrac => Sys2Proof.Machine.execConfigResolution vrtc rtcSec rtcFrac s
  | .warpStepEnd => Sys2Proof.Machine.execWarpStepEnd s
  | .operational => Sys2Proof.Machine.execOperational s
  | .outputRelease => Sys2Proof.Machine.execOutputRelease s
  | .holdupMeasurement => Sys2Proof.Machine.execHoldupMeasurement s
  | .holdupMeasureEnd onset drain => Sys2Proof.Machine.execHoldupMeasureEnd onset drain s
  | .vinSag => Sys2Proof.Machine.execVinSag s
  | .saveDone bytes => Sys2Proof.Machine.execSaveDone bytes s
  | .brownoutClear => Sys2Proof.Machine.execBrownoutClear s
  | .slewEnd => Sys2Proof.Machine.execSlewEnd s

end Sys2Proof.Machine
end

