-- ==== Sys2Proof/WellFormed.lean ====
section
/-! DEFINITION. Well-formed commands: every operand that names a unit, a session, a tag or an identifier lies in the range
the manual gives it. Operands that only the environment knows (a current, a stamp, a temperature) and data fields are not
limited here: what is wrong with them is answered by the rules themselves. -/

namespace Sys2Proof

/-- A session of R246: two controllers, 256 source nodes each (R281). -/
def Sess.wf : Sess → Bool
  | .can x node => decide (x < 2) && decide (node < 256)
  | .host | .rules | .events | .selvedge | .image => true

/-- TAG is a byte (R269), PRIORITY has 5 bits and DEST 8 (R281). -/
def Env.wf (e : Env) : Bool := e.sess.wf && decide (e.tag < 256) && decide (e.prio < 32) && decide (e.dest < 256)

/-- An 11-bit or 29-bit identifier, and at most 64 data bytes (R301). -/
def CanFrame.wf (f : CanFrame) : Bool :=
  decide (f.id < if f.ide then 2 ^ 29 else 2 ^ 11) && decide (f.data.length ≤ 64) && decide (f.len ≤ 64)

/-- A circuit or a user event (R69, R80). -/
def CalEvent.wf : CalEvent → Bool
  | .circuit c => decide (c < 32)
  | .user e => decide (e < 64)

/-- The ranges of the operands of each command. -/
def Instr.wf : Instr → Bool
  | .read env obj mem flags => env.wf && decide (obj < 65536) && decide (mem < 256) && decide (flags < 256)
  | .write env obj mem _ => env.wf && decide (obj < 65536) && decide (mem < 256)
  | .commit env => env.wf
  | .abort env => env.wf
  | .segmentInitRead env count _ => env.wf && decide (count < 256)
  | .segmentInitWrite env count total _ => env.wf && decide (count < 256) && decide (total < 2 ^ 32)
  | .segmentData env offset count _ => env.wf && decide (offset < 2 ^ 32) && decide (count < 65536)
  | .segmentEnd env => env.wf
  | .segmentCancel env => env.wf
  | .segmentTimeout sess => sess.wf
  | .bulkRead env count offset => env.wf && decide (count < 65536) && decide (offset < 2 ^ 32)
  | .bulkWrite env count offset _ => env.wf && decide (count < 65536) && decide (offset < 2 ^ 32)
  | .event env max => env.wf && decide (max < 256)
  | .fetch _ _ => true
  | .hostPortReset => true
  | .pendingTimeout sess => sess.wf
  | .accessRequest env _ => env.wf
  | .accessCode env _ => env.wf
  | .codeLockoutEnd sess => sess.wf
  | .accessTimeout sess => sess.wf
  | .copyWriteComplete _ => true
  | .persistentRwGeneration => true
  | .imageKind env _ => env.wf
  | .imageChunk env _ => env.wf
  | .imageVerify env _ => env.wf
  | .verifyComplete => true
  | .imageActivate env _ => env.wf
  | .fwConfirm env _ => env.wf
  | .confirmTimeout => true
  | .heartbeat => true
  | .hostTimeout => true
  | .warpCycleStart => true
  | .mainsZero _ _ _ => true
  | .zeroMissing => true
  | .holdoverExpiry => true
  | .alignResponse warpNow => decide (warpNow < 2 ^ 64)
  | .alignRetry => true
  | .clockFailure _ => true
  | .calNow env _ => env.wf
  | .calSlew env _ => env.wf
  | .gridEvaluation => true
  | .astroComputation => true
  | .crystalCompensation => true
  | .armedSetSeal => true
  | .armedCommand => true
  | .calendarEventDue ev => ev.wf
  | .transitionTimeout c => decide (c < 32)
  | .minOnOffExpiry c => decide (c < 32)
  | .learnedPersist => true
  | .learnReset env c _ => env.wf && decide (c < 32)
  | .override env c _ => env.wf && decide (c < 32)
  | .ruleRound _ => true
  | .arm env e _ => env.wf && decide (e < 64)
  | .userEventAct e => decide (e < 64)
  | .sampleTimer n => decide (n < 256)
  | .warpSample n => decide (n < 256)
  | .loopSample n _ => decide (n < 256)
  | .laneTest lane _ => decide (lane < 3)
  | .statsReset env n _ => env.wf && decide (n < 256)
  | .mode env n _ => env.wf && decide (n < 256)
  | .manOut env n _ => env.wf && decide (n < 256)
  | .rcClear env n _ => env.wf && decide (n < 256)
  | .profile env n _ => env.wf && decide (n < 256)
  | .profileSave => true
  | .optimumStart => true
  | .prestartTimeout z => decide (z < 64)
  | .osLearnReset env z _ => env.wf && decide (z < 64)
  | .mtExpiry m => decide (m < 8)
  | .conversionDue t => decide (t < 32)
  | .conversionStart _ => true
  | .continuousSlot pos => decide (pos < 3200)
  | .conversionComplete _ _ _ _ _ => true
  | .housekeepingRound => true
  | .aiScan => true
  | .shuntTrip k => decide (k < 24)
  | .shuntReclose k => decide (k < 24)
  | .aiClampEvent k _ => decide (k < 24)
  | .recoveringEnd k => decide (k < 24)
  | .noiseMeasurement _ _ => true
  | .aoCmd env a _ => env.wf && decide (a < 8)
  | .aoFault a _ => decide (a < 8)
  | .aoStatusClear a => decide (a < 8)
  | .vlvCmd env v _ _ => env.wf && decide (v < 16)
  | .propCmd env v _ => env.wf && decide (v < 16)
  | .pulseExpiry v => decide (v < 16)
  | .cardStart v => decide (v < 16)
  | .cardNop v => decide (v < 16)
  | .cardRail v => decide (v < 16)
  | .cardDecay v => decide (v < 16)
  | .cardChop v => decide (v < 16)
  | .cardDrive v => decide (v < 16)
  | .cardOff v => decide (v < 16)
  | .cardGrant v => decide (v < 16)
  | .cardRelease v => decide (v < 16)
  | .cardWait v => decide (v < 16)
  | .cardWseat v => decide (v < 16)
  | .cardWcmd v => decide (v < 16)
  | .cardWdrop v => decide (v < 16)
  | .cardSeatcfg v => decide (v < 16)
  | .cardMarkh v => decide (v < 16)
  | .cardJmp v => decide (v < 16)
  | .cardJcmd v => decide (v < 16)
  | .cardJlt v _ => decide (v < 16)
  | .cardJrlt v => decide (v < 16)
  | .cardLstep v => decide (v < 16)
  | .cardLsave v => decide (v < 16)
  | .cardFlag v => decide (v < 16)
  | .cardEnd v => decide (v < 16)
  | .budgetGranted b => decide (b < 4)
  | .waitExpiry v => decide (v < 16)
  | .seatDetected v _ _ _ => decide (v < 16)
  | .wseatTimeout v => decide (v < 16)
  | .dropoutDetected v => decide (v < 16)
  | .wdropTimeout v => decide (v < 16)
  | .decayComplete v => decide (v < 16)
  | .chopperPeriodStart v => decide (v < 16)
  | .chopperOffEdge v => decide (v < 16)
  | .learnWindowGrant v => decide (v < 16)
  | .wait5200Expiry v => decide (v < 16)
  | .coilResMeasured v _ => decide (v < 16)
  | .channelTrip v => decide (v < 16)
  | .bankTrip b => decide (b < 4)
  | .offStateTest v _ _ _ => decide (v < 16)
  | .onStateDiag v _ _ => decide (v < 16)
  | .vlvDiagClear env v _ => env.wf && decide (v < 16)
  | .cardImage env j _ => env.wf && decide (j < 4)
  | .ioInputSample io _ _ => decide (io < 32)
  | .ioFilterExpiry io => decide (io < 32)
  | .tachEdge io => decide (io < 32)
  | .ioCmd env io _ => env.wf && decide (io < 32)
  | .ioCurrentLimit io _ => decide (io < 32)
  | .ioThermalShutdown io => decide (io < 32)
  | .ioThermalRestart io => decide (io < 32)
  | .groupShed g _ => decide (g < 4)
  | .groupReinstate g => decide (g < 4)
  | .ioOutputDiag io _ _ => decide (io < 32)
  | .ioDiagClear env io _ => env.wf && decide (io < 32)
  | .barrierFrame _ _ => true
  | .barrierLinkDown => true
  | .fwdRefresh => true
  | .fwdTrip => true
  | .barrierSupplyLoss => true
  | .fwdRearm env _ => env.wf
  | .supplyLost g => decide (g < 4)
  | .supplyReturn g => decide (g < 4)
  | .ioModeChangeEnd io => decide (io < 32)
  | .pwmPeriodStart k => decide (k < 4)
  | .pwmCentre k => decide (k < 4)
  | .fanCmd env f _ => env.wf && decide (f < 12)
  | .speedEvaluation f _ => decide (f < 12)
  | .listenEnd k _ _ _ => decide (k < 4)
  | .zeroVectorEnd k => decide (k < 4)
  | .alignEnd k => decide (k < 4)
  | .observerLock k => decide (k < 4)
  | .startAttemptFail k => decide (k < 4)
  | .pauseEnd k => decide (k < 4)
  | .blockedRestEnd k => decide (k < 4)
  | .phaseTrip k => decide (k < 4)
  | .lockLost k => decide (k < 4)
  | .fanRestart k => decide (k < 4)
  | .ecTachLoss e _ => decide (e < 8)
  | .tableRead f => decide (f < 12)
  | .fanDiagClear env f _ => env.wf && decide (f < 12)
  | .frameStart => true
  | .rowSlot => true
  | .displayBandEval => true
  | .image env _ => env.wf
  | .row env r _ => env.wf && decide (r < 8)
  | .updateRoundStart => true
  | .updateRoundEnd => true
  | .ledgerReset env _ => env.wf
  | .vlcdFault _ => true
  | .dispModeSwitchEnd => true
  | .scrubRead _ => true
  | .correctedWriteback _ offset => decide (offset < 2 ^ 32)
  | .heddleRewrite entry => decide (entry < 340)
  | .spareMoveComplete => true
  | .invalidate env _ => env.wf
  | .invalidationComplete => true
  | .thermalEvaluation => true
  | .dieRestart die => decide (die < 2)
  | .thermClear env _ => env.wf
  | .readbackCheck _ => true
  | .checkpoint core _ _ => decide (core < 4)
  | .watchdogExpiry => true
  | .safeToggle => true
  | .autoRestart => true
  | .safetyClear env _ => env.wf
  | .safetyReset env _ => env.wf
  | .safetyTest env _ => env.wf
  | .safetyLock env _ => env.wf
  | .safetyPubkey env _ => env.wf
  | .safetyChallenge env => env.wf
  | .challengeExpiry sess => sess.wf
  | .safetyResponse env _ => env.wf
  | .aliveTimer => true
  | .alive lane _ _ => decide (lane < 2)
  | .mirror lane _ _ => decide (lane < 2)
  | .mirrorSend _ => true
  | .config lane _ _ _ => decide (lane < 2)
  | .join lane _ _ => decide (lane < 2)
  | .relinquish lane _ => decide (lane < 2)
  | .taken lane _ => decide (lane < 2)
  | .selvedgeLaneDown lane => decide (lane < 2)
  | .selvedgeLinkDown => true
  | .selRoleToggle => true
  | .selPeerEdge => true
  | .selPeerIdle => true
  | .roleDecisionTimeout => true
  | .dualActive => true
  | .peerHeartbeat node role => decide (node < 240) && decide (role < 256)
  | .takeover => true
  | .switchover env _ => env.wf
  | .takenTimeout => true
  | .forceTakeover env _ => env.wf
  | .txFrame env x _ => env.wf && decide (x < 2)
  | .txCancel env x _ => env.wf && decide (x < 2)
  | .canTxComplete x => decide (x < 2)
  | .canFrameReceived x frame => decide (x < 2) && frame.frame.wf
  | .rxAck env x o _ => env.wf && decide (x < 2) && decide (o < 64)
  | .record env x o => env.wf && decide (x < 2) && decide (o < 64)
  | .canError x _ _ _ => decide (x < 2)
  | .busoffHoldoffEnd x => decide (x < 2)
  | .recover env x _ => env.wf && decide (x < 2)
  | .busOffRecovered x => decide (x < 2)
  | .loneRetry x => decide (x < 2)
  | .rateCandidateTimer x => decide (x < 2)
  | .reintegrationDone x => decide (x < 2)
  | .urgentDiscard x => decide (x < 2)
  | .txDomTimeout x => decide (x < 2)
  | .sleepReq env x _ => env.wf && decide (x < 2)
  | .sleepEntry x => decide (x < 2)
  | .dominantWake x _ => decide (x < 2)
  | .wakeFrame x frame => decide (x < 2) && frame.wf
  | .wakeErrorCount x _ => decide (x < 2)
  | .trxOvertemp x _ => decide (x < 2)
  | .canTriggerFrame x dest source _ => decide (x < 2) && decide (dest < 256) && decide (source < 256)
  | .snapTrigger env _ => env.wf
  | .trigInEdge _ => true
  | .armAt env slot _ => env.wf && decide (slot < 16)
  | .armAtReached slot => decide (slot < 16)
  | .captureCopyComplete => true
  | .trigOutEnd => true
  | .snapRelease env slot _ => env.wf && decide (slot < 16)
  | .logWrite => true
  | .logRecord env => env.wf
  | .resetRelease => true
  | .resetN _ => true
  | .powerLoss => true
  | .bootRomDone => true
  | .signatureCheckDone _ _ => true
  | .repairMapResolve => true
  | .memorySelfTest _ _ => true
  | .configResolution vrtc _ _ => decide (vrtc < 3)
  | .warpStepEnd => true
  | .operational => true
  | .outputRelease => true
  | .holdupMeasurement => true
  | .holdupMeasureEnd .. => true
  | .vinSag => true
  | .saveDone _ => true
  | .brownoutClear => true
  | .slewEnd => true

end Sys2Proof
end

