-- ==== Sys2Proof/Safety.lean ====
section
/-! DEFINITION. What counts as a safe run of the block: no command stops it, and the memories and the queues of the
module keep the form the manual gives them. -/

namespace Sys2Proof.Machine

/-- A step of the block answers a next state. -/
def StepsOn (s : State) : Prop := ∃ t, step s = .next t

/-- The SRAM is in canonical form: addresses strictly rising, no listed byte equal to what an unlisted address reads. -/
def SramCanonical (s : State) : Prop := Table.wf sramDefault s.mem.sram = true

/-- The card memories are in canonical form. -/
def CardsCanonical (s : State) : Prop := Table.wf (blank 0#32) s.valve.cards = true

/-- The records that the log ring holds (R400). -/
def ringSize : Nat := 4096

/-- The records that the log queue (R400) and an event queue (R280) hold. -/
def queueSize : Nat := 64

/-- The memories are canonical, and the log ring (R400), the log queue (R400) and the event queues (R280) hold no more
records than the manual gives them. -/
structure Sound (s : State) : Prop where
  sram : SramCanonical s
  cards : CardsCanonical s
  ring : s.mram.log.length ≤ ringSize
  queue : s.snap.queue.length ≤ queueSize
  hostEvents : s.host.events.length ≤ queueSize
  nodeEvents : s.host.nodeEvents.length ≤ queueSize

/-- The parts of the state. -/
inductive Block where
  | clk
  | free
  | power
  | warp
  | cal
  | loom
  | engine
  | meas
  | valve
  | io
  | fans
  | disp
  | dict
  | host
  | images
  | can
  | pair
  | mem
  | therm
  | safety
  | snap
  | mram
  | alarms
  | pending
  deriving DecidableEq, Repr

/-- Two states agree on a part. -/
def Block.same (s t : State) : Block → Prop
  | .clk => t.clk = s.clk
  | .free => t.free = s.free
  | .power => t.power = s.power
  | .warp => t.warp = s.warp
  | .cal => t.cal = s.cal
  | .loom => t.loom = s.loom
  | .engine => t.engine = s.engine
  | .meas => t.meas = s.meas
  | .valve => t.valve = s.valve
  | .io => t.io = s.io
  | .fans => t.fans = s.fans
  | .disp => t.disp = s.disp
  | .dict => t.dict = s.dict
  | .host => t.host = s.host
  | .images => t.images = s.images
  | .can => t.can = s.can
  | .pair => t.pair = s.pair
  | .mem => t.mem = s.mem
  | .therm => t.therm = s.therm
  | .safety => t.safety = s.safety
  | .snap => t.snap = s.snap
  | .mram => t.mram = s.mram
  | .alarms => t.alarms = s.alarms
  | .pending => t.pending = s.pending

/-- `t` differs from `s` in no part but those of `l`. -/
def Within (l : List Block) (s t : State) : Prop := ∀ b, b ∉ l → b.same s t

/-- Of an indexed part, `t` differs from `s` at index `k` only. -/
def OthersKept {α : Type} (get : State → Nat → α) (s t : State) (k : Nat) : Prop := ∀ j, j ≠ k → get t j = get s j

/-- Every part that a command can write: all but the engine clock and the queue of commands. -/
def writable : List Block := [.free, .power, .warp, .cal, .loom, .engine, .meas, .valve, .io, .fans, .disp, .dict, .host,
  .images, .can, .pair, .mem, .therm, .safety, .snap, .mram, .alarms]

/-- The parts of the state that a command may write. Those that carry out dictionary writes of any kind, or restart the
module, may write any. -/
def blocksOf : Instr → List Block
  | .warpStepEnd | .holdupMeasurement => [.power]
  | .mainsZero .. | .zeroMissing | .holdoverExpiry | .alignResponse .. => [.warp]
  | .gridEvaluation | .astroComputation | .slewEnd => [.cal]
  | .armedSetSeal | .transitionTimeout .. | .minOnOffExpiry .. | .optimumStart | .prestartTimeout .. => [.loom]
  | .sampleTimer .. | .warpSample .. => [.engine]
  | .mtExpiry .. | .conversionDue .. | .conversionStart .. | .continuousSlot .. | .housekeepingRound | .aiScan
  | .shuntTrip .. | .shuntReclose .. | .aiClampEvent .. | .recoveringEnd .. | .noiseMeasurement .. | .aoFault ..
  | .aoStatusClear .. | .pwmCentre .. => [.meas]
  | .cardNop .. | .cardRail .. | .cardDecay .. | .cardChop .. | .cardDrive .. | .cardOff .. | .cardGrant ..
  | .cardRelease .. | .cardWait .. | .cardWseat .. | .cardWcmd .. | .cardWdrop .. | .cardSeatcfg .. | .cardMarkh ..
  | .cardJmp .. | .cardJcmd .. | .cardJlt .. | .cardJrlt .. | .cardLstep .. | .cardLsave .. | .cardFlag ..
  | .waitExpiry .. | .wseatTimeout .. | .dropoutDetected .. | .wdropTimeout .. | .decayComplete ..
  | .learnWindowGrant .. | .wait5200Expiry .. | .coilResMeasured .. | .offStateTest .. | .onStateDiag .. => [.valve]
  | .ioCurrentLimit .. | .ioOutputDiag .. | .fwdRefresh => [.io]
  | .listenEnd .. | .zeroVectorEnd .. | .alignEnd .. | .observerLock .. | .pauseEnd .. | .blockedRestEnd ..
  | .lockLost .. => [.fans]
  | .rowSlot | .displayBandEval | .vlcdFault .. => [.disp]
  | .segmentTimeout .. | .pendingTimeout .. | .codeLockoutEnd .. | .accessTimeout .. | .persistentRwGeneration
  | .challengeExpiry .. => [.dict]
  | .verifyComplete => [.images]
  | .loneRetry .. | .rateCandidateTimer .. | .urgentDiscard .. | .txDomTimeout .. => [.can]
  | .aliveTimer | .mirrorSend .. | .relinquish .. | .selvedgeLaneDown .. | .selvedgeLinkDown | .selRoleToggle
  | .selPeerIdle | .roleDecisionTimeout => [.pair]
  | .heddleRewrite .. | .invalidationComplete => [.mem]
  | .safeToggle => [.safety]
  | .trigOutEnd => [.snap]
  | .fetch .. => [.free, .host]
  | .brownoutClear => [.power, .mram]
  | .holdupMeasureEnd .. => [.power, .alarms]
  | .alignRetry => [.warp, .can]
  | .crystalCompensation => [.cal, .therm]
  | .ioFilterExpiry .. => [.engine, .io]
  | .chopperPeriodStart .. | .chopperOffEdge .. => [.meas, .valve]
  | .pwmPeriodStart .. => [.meas, .fans]
  | .budgetGranted .. => [.valve, .dict]
  | .ioThermalRestart .. | .groupReinstate .. | .ioModeChangeEnd .. => [.io, .mem]
  | .supplyLost .. => [.io, .snap]
  | .fanRestart .. => [.fans, .mem]
  | .startAttemptFail .. => [.fans, .snap]
  | .ecTachLoss .. => [.fans, .alarms]
  | .hostPortReset => [.dict, .host]
  | .config .. => [.dict, .pair]
  | .heartbeat => [.host, .can]
  | .busoffHoldoffEnd .. | .sleepEntry .. | .wakeFrame .. | .wakeErrorCount .. | .trxOvertemp ..
  | .canTriggerFrame .. | .trigInEdge .. | .armAtReached .. | .captureCopyComplete => [.can, .snap]
  | .spareMoveComplete => [.mem, .mram]
  | .seatDetected .. => [.free, .loom, .valve]
  | .dominantWake .. => [.free, .can, .snap]
  | .bootRomDone | .saveDone .. => [.power, .meas, .mram]
  | .cardStart .. => [.valve, .dict, .mem]
  | .fwdTrip | .barrierSupplyLoss => [.io, .mem, .safety]
  | .groupShed .. | .supplyReturn .. => [.io, .mem, .snap]
  | .frameStart | .updateRoundStart => [.disp, .dict, .pair]
  | .canTxComplete .. | .canError .. | .busOffRecovered .. | .reintegrationDone .. => [.dict, .can, .snap]
  | .pulseExpiry .. | .cardEnd .. => [.free, .valve, .dict, .mem]
  | .tableRead .. => [.free, .io, .fans, .mem]
  | .repairMapResolve => [.power, .engine, .mem, .mram]
  | .barrierFrame .. => [.warp, .engine, .io, .mem]
  | .learnedPersist => [.loom, .valve, .mem, .mram]
  | .tachEdge .. => [.engine, .io, .fans, .alarms]
  | .profileSave => [.engine, .pair, .mem, .mram]
  | .updateRoundEnd => [.disp, .pair, .mem, .mram]
  | .dispModeSwitchEnd => [.disp, .dict, .pair, .mem, .mram]
  | .logWrite => [.host, .pair, .mem, .snap, .mram]
  | .armedCommand => [.free, .loom, .valve, .io, .dict, .mem]
  | .hostTimeout => [.free, .io, .fans, .host, .mem, .snap]
  | .signatureCheckDone .. => [.power, .loom, .engine, .valve, .mem, .mram]
  | .speedEvaluation .. => [.free, .engine, .meas, .io, .fans, .dict, .mem]
  | .read .. | .commit .. | .abort .. | .segmentInitRead .. | .segmentInitWrite .. | .segmentData ..
  | .segmentCancel .. | .bulkRead .. | .bulkWrite .. | .event .. | .safetyChallenge .. | .record .. | .logRecord .. =>
    [.free, .io, .fans, .dict, .host, .can, .mem, .snap]
  | .channelTrip .. | .bankTrip .. | .ioThermalShutdown .. | .phaseTrip .. =>
    [.free, .meas, .valve, .io, .fans, .dict, .can, .mem, .safety, .snap]
  | .taken .. | .selPeerEdge => [.free, .loom, .meas, .valve, .io, .fans, .disp, .dict, .pair, .mem, .mram]
  | .ioInputSample .. => [.free, .engine, .meas, .valve, .io, .fans, .dict, .can, .mem, .safety, .snap]
  | .clockFailure .. | .barrierLinkDown | .readbackCheck .. | .checkpoint .. | .watchdogExpiry =>
    [.free, .meas, .valve, .io, .fans, .dict, .can, .pair, .mem, .safety, .snap]
  | .mirror .. | .join .. => [.cal, .loom, .engine, .valve, .disp, .dict, .host, .pair, .mem, .snap, .mram]
  | .dualActive | .peerHeartbeat .. | .takenTimeout =>
    [.free, .loom, .meas, .valve, .io, .fans, .disp, .dict, .pair, .mem, .snap, .mram]
  | .correctedWriteback .. => [.free, .meas, .valve, .io, .fans, .dict, .can, .pair, .mem, .safety, .snap, .mram]
  | .alive .. => [.free, .warp, .loom, .meas, .valve, .io, .fans, .disp, .dict, .images, .pair, .mem, .mram]
  | .takeover => [.free, .loom, .engine, .meas, .valve, .io, .fans, .disp, .dict, .pair, .mem, .snap, .mram]
  | .laneTest .. => [.free, .engine, .meas, .valve, .io, .fans, .dict, .can, .pair, .mem, .safety, .snap, .mram]
  | .outputRelease =>
    [.free, .power, .loom, .engine, .meas, .valve, .io, .fans, .disp, .dict, .pair, .mem, .safety, .mram]
  | .loopSample .. | .scrubRead .. =>
    [.free, .loom, .engine, .meas, .valve, .io, .fans, .dict, .can, .pair, .mem, .safety, .snap, .mram]
  | .conversionComplete .. =>
    [.free, .power, .loom, .engine, .meas, .valve, .io, .fans, .dict, .can, .mem, .therm, .safety, .snap, .alarms]
  | .configResolution .. =>
    [.power, .cal, .loom, .engine, .meas, .valve, .dict, .images, .pair, .mem, .therm, .safety, .snap, .mram, .alarms]
  | .memorySelfTest .. =>
    [.free, .power, .loom, .engine, .meas, .valve, .io, .fans, .dict, .can, .pair, .mem, .safety, .snap, .mram, .alarms]
  | .operational =>
    [.free, .power, .loom, .meas, .valve, .io, .fans, .disp, .dict, .host, .images, .can, .pair, .mem, .snap, .mram]
  | .thermalEvaluation =>
    [.free, .power, .meas, .valve, .io, .fans, .disp, .dict, .host, .can, .pair, .mem, .therm, .safety, .snap, .mram,
      .alarms]
  | .copyWriteComplete .. =>
    [.free, .cal, .loom, .engine, .meas, .valve, .io, .fans, .disp, .dict, .host, .can, .pair, .mem, .safety, .snap,
      .mram, .alarms]
  | .write .. | .segmentEnd .. | .accessRequest .. | .accessCode .. | .imageKind .. | .imageChunk ..
  | .imageVerify .. | .imageActivate .. | .fwConfirm .. | .confirmTimeout | .warpCycleStart | .calNow ..
  | .calSlew .. | .calendarEventDue .. | .learnReset .. | .override .. | .ruleRound .. | .arm .. | .userEventAct ..
  | .statsReset .. | .mode .. | .manOut .. | .rcClear .. | .profile .. | .osLearnReset .. | .aoCmd .. | .vlvCmd ..
  | .propCmd .. | .vlvDiagClear .. | .cardImage .. | .ioCmd .. | .ioDiagClear .. | .fwdRearm .. | .fanCmd ..
  | .fanDiagClear .. | .image .. | .row .. | .ledgerReset .. | .invalidate .. | .dieRestart .. | .thermClear ..
  | .autoRestart | .safetyClear .. | .safetyReset .. | .safetyTest .. | .safetyLock .. | .safetyPubkey ..
  | .safetyResponse .. | .switchover .. | .forceTakeover .. | .txFrame .. | .txCancel .. | .canFrameReceived ..
  | .rxAck .. | .recover .. | .sleepReq .. | .snapTrigger .. | .armAt .. | .snapRelease .. | .resetRelease
  | .resetN .. | .powerLoss | .vinSag => writable

/-! ### Conditions that the statements name -/

/-- The loop's due sample is the next that the engine serves, on its set in force. -/
def sampleRuns (s : State) (n : Nat) : Prop :=
  n < 256 ∧ (getLoop s n).due ≠ none ∧ released s = true ∧ loopIdle s n = false ∧ servedNext s n = true ∧
    SyncUnit.loop n ∉ s.dict.waiting

/-- PV_SOURCE gives results, and has given one that the loop may evaluate (R92). -/
def pvGood (s : State) (n : Nat) : Prop :=
  let v := readSrc s (Cfg.loopPvSource s n)
  v.given_ = true ∧ v.valid = true ∧ (getLoop s n).enableClk ≤ v.atClk ∧ srcSilent s (Cfg.loopPvSource s n) = false

/-- A request reaches the services and does not repeat its session's previous one. -/
structure Served (s : State) (e : Env) (svc : Nat) (payload : List Byte) : Prop where
  reaches : (arrives s e svc).1 = true
  fresh : isDuplicate (touch (arrives s e svc).2 e.sess) e (bytes1 [svc] ++ payload) = none

/-- The state in which a served request is carried out: it has arrived, its session has been heard and remembers it. -/
def heard (s : State) (e : Env) (svc : Nat) (payload : List Byte) : State :=
  notePrev (touch (arrives s e svc).2 e.sess) e (bytes1 [svc] ++ payload)

/-- The payload of a READ and that of a WRITE. -/
def readPayload (o m flags : Nat) : List Byte := leBytes 2 o ++ bytes1 [m, flags]
def writePayload (o m : Nat) (data : List Byte) : List Byte := leBytes 2 o ++ bytes1 [m, 0] ++ data
def initPayload (op count total : Nat) (items : List SegItem) : List Byte :=
  bytes1 [op, count, 0, 0] ++ leBytes 4 total ++ itemsBytes items

/-- The request that a command is: its envelope, service and payload. A CARD_IMAGE of the module itself is none. -/
def requestOf (s : State) : Instr → Option (Env × Nat × List Byte)
  | .read e o m f => some (e, 1, readPayload o m f)
  | .safetyChallenge e => some (e, 1, readPayload 0xB010 3 0)
  | .record e x o => some (e, 1, readPayload (0x1200 + 64 * x + o) 6 0)
  | .logRecord e => some (e, 1, readPayload 0xD100 2 0)
  | .write e o m d => some (e, 2, writePayload o m d)
  | .commit e => some (e, 3, [])
  | .abort e => some (e, 4, [])
  | .segmentInitRead e n l => some (e, 5, initPayload 0 n 0 l)
  | .segmentInitWrite e n t l => some (e, 5, initPayload 1 n t l)
  | .segmentData e off n d => some (e, 5, segPayload s e.sess off n d)
  | .segmentEnd e => some (e, 5, bytes1 [3])
  | .segmentCancel e => some (e, 5, bytes1 [4])
  | .bulkRead e n off => some (e, 6, bytes1 [0, 0] ++ leBytes 2 n ++ leBytes 4 off)
  | .bulkWrite e n off d => some (e, 6, bytes1 [1, 0] ++ leBytes 2 n ++ leBytes 4 off ++ d)
  | .event e n => some (e, 7, bytes1 [n])
  | .accessRequest e d => some (e, 2, writePayload 0x1010 1 d)
  | .accessCode e d => some (e, 2, writePayload 0x1010 2 d)
  | .imageKind e d => some (e, 2, writePayload 0x1040 1 d)
  | .imageChunk e d => some (e, 2, writePayload 0x1040 3 d)
  | .imageVerify e d => some (e, 2, writePayload 0x1040 4 d)
  | .imageActivate e d => some (e, 2, writePayload 0x1040 6 d)
  | .fwConfirm e d => some (e, 2, writePayload 0x1041 6 d)
  | .calNow e d => some (e, 2, writePayload 0x2010 1 d)
  | .calSlew e d => some (e, 2, writePayload 0x2010 2 d)
  | .learnReset e c d => some (e, 2, writePayload (0x3240 + c) 10 d)
  | .override e c d => some (e, 2, writePayload (0x3200 + c) 12 d)
  | .arm e v d => some (e, 2, writePayload (0x3600 + v) 9 d)
  | .statsReset e n d => some (e, 2, writePayload (0x4800 + n) 14 d)
  | .mode e n d => some (e, 2, writePayload (0x4800 + n) 16 d)
  | .manOut e n d => some (e, 2, writePayload (0x4800 + n) 17 d)
  | .rcClear e n d => some (e, 2, writePayload (0x4C00 + n) 9 d)
  | .profile e n d => some (e, 2, writePayload (0x4C00 + n) 15 d)
  | .osLearnReset e z d => some (e, 2, writePayload (0x3400 + z) 25 d)
  | .aoCmd e a d => some (e, 2, writePayload (0x5300 + a) 2 d)
  | .propCmd e v d => some (e, 2, writePayload (0x7200 + v) 2 d)
  | .vlvCmd e v d _ => some (e, 2, writePayload (0x7200 + v) 1 d)
  | .vlvDiagClear e v d => some (e, 2, writePayload (0x7200 + v) 21 d)
  | .cardImage e j d => if e.sess = .image then none else some (e, 2, writePayload (0x7300 + j) 1 d)
  | .ioCmd e i d => some (e, 2, writePayload (0x6200 + i) 1 d)
  | .ioDiagClear e i d => some (e, 2, writePayload (0x6200 + i) 9 d)
  | .fwdRearm e d => some (e, 2, writePayload 0x6000 2 d)
  | .fanCmd e f d => some (e, 2, writePayload (0x8100 + f) 1 d)
  | .fanDiagClear e f d => some (e, 2, writePayload (0x8100 + f) 8 d)
  | .image e d => some (e, 2, writePayload 0x9010 1 d)
  | .row e r d => some (e, 2, writePayload 0x9010 (2 + r) d)
  | .ledgerReset e d => some (e, 2, writePayload 0x9000 22 d)
  | .invalidate e d => some (e, 2, writePayload 0xE010 1 d)
  | .thermClear e d => some (e, 2, writePayload 0xA040 4 d)
  | .safetyClear e d => some (e, 2, writePayload 0xB000 4 d)
  | .safetyReset e d => some (e, 2, writePayload 0xB000 5 d)
  | .safetyTest e d => some (e, 2, writePayload 0xB000 9 d)
  | .safetyLock e d => some (e, 2, writePayload 0xB010 1 d)
  | .safetyPubkey e d => some (e, 2, writePayload 0xB010 2 d)
  | .safetyResponse e d => some (e, 2, writePayload 0xB010 4 d)
  | .switchover e d => some (e, 2, writePayload 0xC002 1 d)
  | .forceTakeover e d => some (e, 2, writePayload 0xC002 2 d)
  | .txFrame e x d => some (e, 2, writePayload (0x1120 + x) 1 d)
  | .txCancel e x d => some (e, 2, writePayload (0x1120 + x) 3 d)
  | .rxAck e x o d => some (e, 2, writePayload (0x1200 + 64 * x + o) 7 d)
  | .recover e x d => some (e, 2, writePayload (0x1110 + x) 6 d)
  | .sleepReq e x d => some (e, 2, writePayload (0x1100 + x) 33 d)
  | .snapTrigger e d => some (e, 2, writePayload 0xD000 1 d)
  | .armAt e k d => some (e, 2, writePayload (0xD010 + k) 3 d)
  | .snapRelease e k d => some (e, 2, writePayload (0xD010 + k) 4 d)
  | _ => none

/-- A WRITE that is served and that no condition of R256 refuses. -/
structure WriteGoes (s : State) (e : Env) (o m : Nat) (data : List Byte) : Prop where
  served : Served s e 2 (writePayload o m data)
  accepted : tooLong e data (writeCode (heard s e 2 (writePayload o m data)) e.sess o m data) = 0

/-- The state in which an accepted WRITE is carried out. -/
def writing (s : State) (e : Env) (o m : Nat) (data : List Byte) : State := heard s e 2 (writePayload o m data)

end Sys2Proof.Machine
end

