-- ==== Sys2Proof/Certificates/Slice0/Obligations.lean ====
section
/-! DEFINITION. The statements for the provers: what commands do to the registers, the queues and the outputs of the module,
chapter by chapter, what every command leaves alone, and the form that every step keeps. -/

open Sys2Proof Sys2Proof.Machine

/-! ### The queue of commands -/

/-- A step takes the command at the front of the queue and runs it with the queue's rest. It rests on choices of the model: log
entry 1. -/
def Obligations.StepRunsTheFrontCommand : Prop :=
  ∀ (s : State) (c : Instr) (rest : List Instr), s.pending = c :: rest → step s = exec c { s with pending := rest }

/-- No command stops the block: whatever the state, the command at the front runs to a next state with the queue's rest, and no
engine clock passes. As many steps as commands wait empty the queue, in which no engine clock passes. It rests on choices of the
model: log entry 5. -/
def Obligations.EveryCommandCompletesAndTheQueueDrains : Prop :=
  (∀ (s : State) (c : Instr) (rest : List Instr), s.pending = c :: rest →
     ∃ t, step s = .next t ∧ t.pending = rest ∧ t.clk = s.clk) ∧
  (∀ s : State, ∃ t, Sys2Proof.core.run s.pending.length s = .next t ∧ t.pending = [] ∧ t.clk = s.clk)

/-- With no command waiting one engine clock passes (DESIGN CHOICE, log entry 5): the clock counts, Warp's phase does not fall
and stays within its cycle, and nothing but the clock, Warp and the calendar changes. It rests on choices of the model: log
entry 5. -/
def Obligations.AnIdleStepIsOneEngineClock : Prop :=
  ∀ s : State, s.pending = [] → s.warp.frac < 2 ^ 48 →
    ∃ t, step s = .next t ∧ t.clk = s.clk + 1 ∧ Within [.clk, .warp, .cal] s t ∧
      s.warp.frac ≤ t.warp.frac ∧ t.warp.frac < 2 ^ 48 ∧ t.warp.cycle = s.warp.cycle

/-- Each command leaves every part of the state alone that the manual does not let it write. It rests on choices of the model:
log entry 6. -/
def Obligations.CommandsWriteOnlyTheirBlocks : Prop :=
  ∀ (c : Instr) (s t : State), exec c s = .next t → Within (blocksOf c) s t

/-- At reset the memories are canonical and the queues within their sizes. It rests on choices of the model: log entries 2 and 4.
-/
def Obligations.ResetIsSound : Prop :=
  Sound State.reset

/-- Every step keeps the memories canonical and the queues within their sizes. It rests on choices of the model: log entry 4. -/
def Obligations.StepsKeepTheMachineSound : Prop :=
  ∀ s t : State, Sound s → step s = .next t → Sound t

/-! ### Warp and calendar (02_warp_timebase) -/

/-- MAINS_ZERO (R31, R33): the amplitude, the error and the instant are kept, and the lock state to enter follows from the
state, the amplitude, the period and the error; zeros that return after HOLDOVER_CYCLES decide nothing. Completes: MAINS_ZERO. It
rests on choices of the model: log entries 12 and 13. -/
def Obligations.MainsZeroDecidesTheLockState : Prop :=
  ∀ (s : State) (period ampl : Nat) (err : Int), s.meas.refState = 2 →
    ∃ t, exec (.mainsZero period ampl err) s = .next t ∧
      t.warp.ws = s.warp.ws ∧ t.warp.ampl = ampl ∧ t.warp.phaseErr = err ∧ t.warp.zeroClk = s.clk ∧
      (s.warp.ws = .synthetic → Cfg.warpMinAmpl s ≤ ampl → t.warp.target = some .acquiring) ∧
      (s.warp.ws = .synthetic → ampl < Cfg.warpMinAmpl s → t.warp.target = s.warp.target) ∧
      (s.warp.ws = .acquiring → s.warp.realignNext = false → s.warp.realigned = false →
        if Cfg.warpMinAmpl s ≤ ampl ∧ periodOk period = true ∧ periodsNear s.warp.lastPeriod period = true then
          t.warp.qual = s.warp.qual + 1 ∧ (t.warp.realignNext = true ↔ 8 ≤ s.warp.qual + 1)
        else t.warp.target = some .synthetic ∧ t.warp.qual = 0) ∧
      (s.warp.ws = .locked → ampl < Cfg.warpMinAmpl s ∨ periodOk period = false → t.warp.target = some .holdover) ∧
      (s.warp.ws = .locked → Cfg.warpMinAmpl s ≤ ampl → periodOk period = true →
        Cfg.warpStepThreshold s < err.natAbs → s.warp.stepRun = 1 → t.warp.realignNext = true) ∧
      (s.warp.ws = .holdover → s.warp.holdCycles < Cfg.warpHoldoverCycles s → s.warp.target ≠ some .synthetic →
        Cfg.warpMinAmpl s ≤ ampl →
        (Cfg.warpStepThreshold s < err.natAbs → t.warp.target = some .acquiring) ∧
        (err.natAbs ≤ Cfg.warpStepThreshold s → 1 ≤ s.warp.goodZeros → t.warp.target = some .locked)) ∧
      (s.warp.ws = .holdover → Cfg.warpHoldoverCycles s ≤ s.warp.holdCycles → t.warp.target = s.warp.target)

/-- ZERO_MISSING, HOLDOVER_EXPIRY and WARP_CYCLE_START (R28, R31): a zero missing by more than 8192 wt leads to HOLDOVER,
HOLDOVER_CYCLES without a zero to SYNTHETIC, and a cycle start counts the cycle and enters the state; the increment crosses the
barrier link only while that is up (R15). ALIGN_RETRY and
ALIGN_RESPONSE (R35): an unaligned module asks the source node, and a response within 8 ms gives it the count to adopt, which
differs from its own by the nearest whole number of cycles. Completes: ZERO_MISSING, HOLDOVER_EXPIRY, WARP_CYCLE_START,
ALIGN_RETRY, ALIGN_RESPONSE. It rests on choices of the model: log entries 11 and 15. -/
def Obligations.WarpCyclesAndAlignment : Prop :=
  (∀ s : State, s.warp.ws = .locked →
    s.warp.period * (65536 + 8192) < (s.clk - s.warp.zeroClk) * 65536 →
    ∃ t, exec .zeroMissing s = .next t ∧ t.warp.target = some .holdover ∧ t.warp.ws = .locked) ∧
  (∀ s : State, s.warp.ws = .holdover → Cfg.warpHoldoverCycles s ≤ s.warp.holdCycles →
    ∃ t, exec .holdoverExpiry s = .next t ∧ t.warp.target = some .synthetic ∧ t.warp.ws = .holdover) ∧
  (∀ s : State, s.power.phase ≠ .reset → s.power.phase ≠ .done → 2 ^ 48 - 1 ≤ s.warp.frac →
    isStandby s = false → s.warp.align ≠ 0 → s.pair.switchAsked = false →
    ∃ t, exec .warpCycleStart s = .next t ∧ t.warp.cycle = s.warp.cycle + 1 ∧ t.warp.frac = 0 ∧
      t.warp.startClk = s.clk ∧ t.warp.cycleClocks = s.clk - s.warp.startClk ∧
      t.warp.ws = s.warp.target.getD s.warp.ws ∧ t.warp.incD = t.warp.inc ∧
      (s.io.linkUp = true → t.warp.incF = t.warp.inc) ∧ (s.io.linkUp = false → t.warp.incF = s.warp.incF)) ∧
  (∀ s : State, s.warp.ws = .locked → s.warp.align = 0 → alignByNode s = true → s.warp.alignCount = none →
    (∀ c, s.warp.alignSent = some c → after c (secs 1) ≤ s.clk) →
    ∃ t, exec .alignRetry s = .next t ∧ t.warp.alignSent = some s.clk ∧ t.warp.align = 0) ∧
  (∀ (s : State) (c w : Nat), s.warp.alignSent = some c → s.warp.align = 0 → alignByNode s = true →
    s.clk ≤ after c (msecs 8) →
    ∃ t, exec (.alignResponse w) s = .next t ∧ t.warp.alignSent = none ∧
      t.warp.alignCount = some ((s.warp.cycle : Int) + 1 + roundDiv ((w : Int) - warpNow s) 65536).toNat)

/-- GRID_EVALUATION (R44): at 00:00 UTC the window moves on by the day, GRID_CORR moves toward GRID_TARGET by at most 50, and
GRID_TARGET stays where the coverage is below 95 %; with GRID_DISC_EN 0 GRID_CORR becomes 0. ASTRO_COMPUTATION,
CRYSTAL_COMPENSATION and SLEW_END (R42, R50, R367): the events of today and tomorrow by the local date, TEMP_CORR of the value
in use of TS0, and no slew in progress. Completes: GRID_EVALUATION, ASTRO_COMPUTATION, CRYSTAL_COMPENSATION, SLEW_END. It rests
on choices of the model: log entries 8 and 18. -/
def Obligations.CalendarEvaluations : Prop :=
  (∀ s : State, s.cal.st ≠ 0 → utcSec s % 86400 = 0 → s.cal.gridDay ≠ (utcSec s / 86400).toNat →
     ∃ t, exec .gridEvaluation s = .next t ∧ t.cal.gridDay = (utcSec s / 86400).toNat ∧ t.cal.today_ = {} ∧
       t.cal.now = s.cal.now ∧
       (Cfg.gridGridDiscEn s = false → t.cal.gridCorr = 0) ∧
       (Cfg.gridGridDiscEn s = true → (t.cal.gridCorr - s.cal.gridCorr).natAbs ≤ 50) ∧
       (Cfg.gridGridDiscEn s = true →
         100 * (gridSums (lastN (Cfg.gridGridWindow s) (lastN 28 (s.cal.days ++ [s.cal.today_])))).2 <
           95 * (Cfg.gridGridWindow s * 86400 * 65536) →
         t.cal.gridTarget = s.cal.gridTarget)) ∧
  (∀ s : State, s.cal.st ≠ 0 → s.cal.astroAsked = true →
    ∃ t, exec .astroComputation s = .next t ∧ t.cal.today.date = (localSec s / 86400).toNat ∧
      t.cal.tomorrow.date = (localSec s / 86400).toNat + 1 ∧ t.cal.astroAsked = false ∧ t.cal.now = s.cal.now) ∧
  (∀ s : State, s.therm.nextTemp ≤ s.clk →
    ∃ t, exec .crystalCompensation s = .next t ∧ t.cal.tempCorr = tempCorrOf s (getSensor s 0).value ∧
      t.therm.nextTemp = after s.clk (secs 1) ∧ t.cal.gridCorr = s.cal.gridCorr) ∧
  (∀ s : State, s.cal.slewLeft = 0 →
    ∃ t, exec .slewEnd s = .next t ∧ t.cal.slewLeft = 0 ∧ t.cal.slewAcc = 0 ∧ t.cal.now = s.cal.now)

/-! ### Loom (03_loom_scheduler, 05_loop_modes) -/

/-- ARMED_SET_SEAL (R54, R55, R66, R200): past ARM_CLOSE the coming cycle's set is sealed once, with at most 256 commands, at
most 64 of them IO edges, in the order of Warp time and heddle entry; nothing is sealed into a cycle announced for realignment.
ARMED_COMMAND (R18, R56, R59): at its Warp time the first sealed command acts once: a command of the circuit that owns the
channel starts its transition, and a targeted closure holds the polarity of the zero it was placed for (R57); any other is
withdrawn. Completes: ARMED_SET_SEAL, ARMED_COMMAND. It rests on choices of the model: log entries 25 and 33. -/
def Obligations.ArmedSetsAndTheirCommands : Prop :=
  (∀ s : State, Cfg.loomArmClose s ≤ warpNow s % 65536 → s.loom.sealedCycle < s.warp.cycle + 1 →
     ∃ (t : State) (new : List ArmedCmd), exec .armedSetSeal s = .next t ∧ t.loom.sealedCycle = s.warp.cycle + 1 ∧
       t.loom.sealed_ = s.loom.sealed_ ++ new ∧ t.loom.armLoad = new.length ∧ new.length ≤ 256 ∧
       (new.filter fun a => decide (a.heddle < 288)).length ≤ 64 ∧ new.Pairwise (fun a b => armedLe a b = true) ∧
       (s.warp.realignNext = true → new = [])) ∧
  (∀ (s : State) (a : ArmedCmd) (rest : List ArmedCmd), s.loom.sealed_ = a :: rest → a.warp ≤ warpNow s →
     ∃ t, exec .armedCommand s = .next t ∧ t.loom.sealed_ = rest ∧
       (∀ c, a.kind = .close c ∨ a.kind = .open_ c → ownerCircuit s a.heddle = some c →
         (getCirc t c).st = (if a.kind = .close c then 1 else 3) ∧ (getCirc t c).due = none ∧
         (getCirc t c).placed = false ∧ OthersKept getCirc s t c ∧
         ∃ tr, (getCirc t c).trans = some tr ∧ tr.close = decide (a.kind = .close c) ∧ tr.cmdWarp = a.warp ∧
           tr.zero = a.zero ∧ tr.targeted = a.targeted ∧ tr.deadline = s.clk + transLimit s c) ∧
       (∀ c, a.kind = .close c → a.targeted = true → ownerCircuit s a.heddle = some c →
         (getCirc t c).lrn.map (fun l => l.polarity) = some (some a.positive)) ∧
       (∀ c, a.kind = .close c ∨ a.kind = .open_ c → ownerCircuit s a.heddle ≠ some c →
         t.valve = s.valve ∧ t.io = s.io ∧ (getCirc t c).placed = false ∧ (getCirc t c).st = (getCirc s c).st) ∧
       (∀ e, a.kind = .user e → (getEvent t e).st = if (getEvent s e).late then 3 else 2))

/-- TRANSITION_TIMEOUT and MIN_ON_OFF_EXPIRY (R59, R60, R62): a transition past its limit ends in the state it led to, flagged
and teaching nothing; a closure whose seat never came ends in the load-current start that has been seen, and the minimum time of
a circuit ends. A circuit that drives no channel moves straight to the state it is asked for when its minimum time ends (R452).
Completes: TRANSITION_TIMEOUT, MIN_ON_OFF_EXPIRY. It rests on choices of the model: log entry 24. -/
def Obligations.CircuitsEndTheirTransitions : Prop :=
  (∀ (s : State) (c w : Nat) (tr : Trans), (getCirc s c).trans = some tr → tr.deadline ≤ s.clk →
    Cfg.circOutput s c ≠ 0xFFFF → tr.close = true → tr.load = some w →
    ∃ t, exec (.transitionTimeout c) s = .next t ∧ (getCirc t c).trans = none ∧ (getCirc t c).st = 2 ∧
      (getCirc t c).minUntil = after s.clk (secs (Cfg.circMinOn s c)) ∧
      Flag.get (getCirc t c).flags cfNoClosure = false ∧ OthersKept getCirc s t c) ∧
  (∀ (s : State) (c : Nat) (tr : Trans), (getCirc s c).trans = some tr → tr.deadline ≤ s.clk → Cfg.circOutput s c ≠ 0xFFFF →
    tr.load = none →
    ∃ t, exec (.transitionTimeout c) s = .next t ∧ (getCirc t c).trans = none ∧
      (getCirc t c).st = (if tr.close then 2 else 0) ∧
      (getCirc t c).minUntil = after s.clk (secs (if tr.close then Cfg.circMinOn s c else Cfg.circMinOff s c)) ∧
      Flag.get (getCirc t c).flags cfNoClosure = true ∧ Flag.get (getCirc t c).flags cfExcluded = true ∧
      (getCirc t c).lrn = (getCirc s c).lrn ∧ OthersKept getCirc s t c) ∧
  (∀ (s : State) (c : Nat), (getCirc s c).minUntil ≠ 0 → (getCirc s c).minUntil ≤ s.clk →
    (Cfg.circOutput s c ≠ 0xFFFF ∨ (getCirc s c).due = none) →
    ∃ t, exec (.minOnOffExpiry c) s = .next t ∧ (getCirc t c).minUntil = 0 ∧ (getCirc t c).st = (getCirc s c).st ∧
      OthersKept getCirc s t c) ∧
  (∀ (s : State) (c : Nat) (b : Bool), (getCirc s c).minUntil ≠ 0 → (getCirc s c).minUntil ≤ s.clk →
     Cfg.circOutput s c = 0xFFFF → (getCirc s c).due = some b →
     ∃ t, exec (.minOnOffExpiry c) s = .next t ∧ (getCirc t c).st = (if b then 2 else 0) ∧ (getCirc t c).due = none ∧
       (getCirc t c).minUntil = after s.clk (secs (if b then Cfg.circMinOn s c else Cfg.circMinOff s c)) ∧
       OthersKept getCirc s t c)

/-- LEARNED_PERSIST (R64, R131, R176): what circuits, valves and zones have learned since the last store is stored, and nothing
waits to be stored after it. CALENDAR_EVENT_DUE (R69, R71): at a new switch instant the circuit takes its action as the
scheduled state. OPTIMUM_START and PRESTART_TIMEOUT (R130, R131): at second 0 of a local minute PRESTART_AT of each zone is
computed anew unless the calendar has reached it, and a prestart that runs an hour beyond the start of its occupied period ends.
Completes: LEARNED_PERSIST, CALENDAR_EVENT_DUE, OPTIMUM_START, PRESTART_TIMEOUT. It rests on choices of the model: log entries
21, 23 and 27. -/
def Obligations.LearningScheduleAndOptimumStart : Prop :=
  (∀ s : State, ∃ t, exec .learnedPersist s = .next t ∧
     (∀ c < 32, ∀ l, (getCirc s c).dirtyAt ≠ none → (getCirc s c).lrn = some l →
       (∀ d, Table.getD d t.mram.circ c = l) ∧ (getCirc t c).dirtyAt = none) ∧
     (∀ v < 16, (getVlv s v).learnDirty ≠ none →
       (∀ d, Table.getD d t.mram.vlv v = ((getVlv s v).learned, (getVlv s v).learnedAt)) ∧ (getVlv t v).learnDirty = none) ∧
     (∀ z < 64, (getZone s z).dirtyAt ≠ none → (∀ d, Table.getD d t.mram.zones z = ((getZone s z).rates).getD (d z)) ∧
       (getZone t z).dirtyAt = none) ∧
     (∀ c, (getCirc t c).lrn = (getCirc s c).lrn) ∧ (∀ z, (getZone t z).rates = (getZone s z).rates)) ∧
  (∀ (s : State) (c : Nat) (x : SwitchAt), c < 32 → Cfg.circEnable s c = true → s.cal.st ≠ 0 →
     latestSwitch s (circEntries s c) (utcSec s) = some x → (getCirc s c).schedAt ≠ some x.at_ →
     ∃ t, exec (.calendarEventDue (.circuit c)) s = .next t ∧ (getCirc t c).schedAt = some x.at_ ∧
       (getCirc t c).sched = some x.on ∧ OthersKept getCirc s t c) ∧
  (∀ s : State, localSec s % 60 = 0 →
    ∃ t, exec .optimumStart s = .next t ∧
      ∀ z < 64, Cfg.zoneEnable s z = true →
        let r := getZone s z
        let frozen := r.prestartAt ≠ 0 ∧ r.prestartAt ≤ s.cal.now ∧ s.cal.now < r.tOcc
        (frozen → getZone t z = r) ∧
        (¬ frozen → getZone t z = { r with
          prestartAt := (prestartAt s z).1, tOcc := (prestartAt s z).2, preHeat := prestartHeats s z }) ∧
        (¬ frozen → Cfg.zoneOsEnable s z = false ∨ s.cal.st = 0 → (getZone t z).prestartAt = 0)) ∧
  (∀ (s : State) (z : Nat) (p : Prestart), (getZone s z).pre = some p → p.tOcc + 3600 * 65536 ≤ s.cal.now →
    ∃ t, exec (.prestartTimeout z) s = .next t ∧ (getZone t z).pre = none ∧ OthersKept getZone s t z ∧
      (p.bad = true → (getZone t z).rates = (getZone s z).rates))

/-- USER_EVENT_ACT (R80, R391): an armed event acts once, done or LATE: a trigger of a snapshot in the mains-phase domain at or
after its Warp time, in the calendar domain at or after its calendar time, in the sample domain at its sample; a calendar event
on a set-point waits for the next sample of the loop. RULE_ROUND (R74, R75, R79): with no rule enabled a round hands each zone
its mode and set-point, and the next round is due 10 ms later, or at once after a round that lasted longer, which is counted. A
rule of ACTION 2 fires at the edge that TRIGGER names of a condition that has held for DELAY (R77). Completes:
USER_EVENT_ACT, RULE_ROUND. It rests on choices of the model: log entries 26 and 34. -/
def Obligations.UserEventsAndRules : Prop :=
  (∀ (s : State) (e : Nat), e < 64 → (getEvent s e).st = 1 → (getEvent s e).action = 2 →
    ((getEvent s e).domain = 0 ∧ (getEvent s e).whenWarp ≤ warpNow s ∨
      (getEvent s e).domain = 1 ∧ s.cal.st ≠ 0 ∧ (getEvent s e).whenCal ≤ s.cal.now ∨
      (getEvent s e).domain = 2 ∧ (getEvent s e).sample ≤ (getLoop s (getEvent s e).loop).samples) →
    ∃ t, exec (.userEventAct e) s = .next t ∧
      (getEvent t e).st = (if (getEvent s e).late ∨ (getEvent s e).domain = 2 then 3 else 2) ∧ OthersKept getEvent s t e) ∧
  (∀ (s : State) (e n : Nat), e < 64 → n < 256 → (getEvent s e).st = 1 → (getEvent s e).action = 0 →
    (getEvent s e).domain = 1 → s.cal.st ≠ 0 → (getEvent s e).whenCal ≤ s.cal.now →
    (getEvent s e).target = (0x4000 + n) * 256 + 15 →
    ∃ t, exec (.userEventAct e) s = .next t ∧ (getEvent t e).st = 1 ∧ (getEvent t e).domain = 2 ∧ (getEvent t e).loop = n ∧
      (getEvent t e).sample = (getLoop s n).samples + 1 ∧ OthersKept getEvent s t e) ∧
  (∀ (s : State) (overran : Bool), released s = true → s.loom.nextRound ≤ s.clk →
     SyncUnit.rules ∉ s.dict.waiting → s.loom.freshRules = false → (∀ r < 512, Cfg.ruleEnable s r = false) →
     ∃ t, exec (.ruleRound overran) s = .next t ∧
       t.loom.nextRound = (if overran then s.clk else after s.loom.nextRound (msecs 10)) ∧
       t.loom.ruleOverruns = s.loom.ruleOverruns + (if overran then 1 else 0) ∧
       ∀ z < 64, Cfg.zoneEnable s z = true →
         (Cfg.zoneModeRequest s z ≠ 0 → (getZone t z).mode = Cfg.zoneModeRequest s z) ∧
         (Cfg.zoneModeRequest s z = 0 → zoneIn s (Cfg.zoneOpenInput s z) = some 0 → (getZone t z).mode = 4) ∧
         (getZone t z).sp = zoneSp s z (getZone t z).mode) ∧
  (∀ (s : State) (r : Nat), let c := ruleCond (getRule s r).cond (Cfg.ruleOperator s r) (ruleOperands s r).1 (ruleOperands s r).2 (Cfg.ruleHyst s r)
     let since := if c && !(getRule s r).cond then s.clk else (getRule s r).since
     let counts := c && decide (after since (msecs (Cfg.ruleDelay s r)) ≤ s.clk)
     Cfg.ruleAction s r = 2 →
     (getRule (ruleEval s r) r).cond = c ∧ (getRule (ruleEval s r) r).counted = counts ∧
       (getRule (ruleEval s r) r).fires = (getRule s r).fires +
         (match Cfg.ruleTrigger s r with
          | 0 => if counts && !(getRule s r).counted then 1 else 0
          | 1 => if !counts && (getRule s r).counted then 1 else 0
          | _ => if counts != (getRule s r).counted then 1 else 0) ∧
       OthersKept getRule s (ruleEval s r) r)

/-! ### Control engine and loop modes (04_control_engine, 05_loop_modes) -/

/-- SAMPLE_TIMER and WARP_SAMPLE (R91, R93): a sample of the loop falls due; one that had not started is discarded and counted.
Completes: SAMPLE_TIMER, WARP_SAMPLE. -/
def Obligations.SamplesFallDue : Prop :=
  (∀ (s : State) (n : Nat), released s = true → Cfg.loopTrigger s n = 1 → loopIdle s n = false → (getLoop s n).nextTimer ≤ s.clk →
    ∃ t, exec (.sampleTimer n) s = .next t ∧ (getLoop t n).due = some ⟨s.clk, false⟩ ∧
      (getLoop t n).nextTimer = after (getLoop s n).nextTimer (usecs (Cfg.loopSamplePeriod s n)) ∧
      (getLoop t n).overruns = (getLoop s n).overruns + (if (getLoop s n).due.isSome then 1 else 0) ∧
      (getLoop t n).samples = (getLoop s n).samples ∧ OthersKept getLoop s t n) ∧
  (∀ (s : State) (n : Nat), released s = true → Cfg.loopTrigger s n = 2 → loopIdle s n = false →
    s.warp.cycle % Cfg.loopWarpDiv s n = 0 → Cfg.loopWarpPhase s n ≤ warpNow s % 65536 →
    (getLoop s n).warpDone ≠ some s.warp.cycle →
    ∃ t, exec (.warpSample n) s = .next t ∧ (getLoop t n).due = some ⟨s.clk, false⟩ ∧
      (getLoop t n).warpDone = some s.warp.cycle ∧
      (getLoop t n).overruns = (getLoop s n).overruns + (if (getLoop s n).due.isSome then 1 else 0) ∧
      OthersKept getLoop s t n)

/-- LOOP_SAMPLE (R86, R92, R113, R115, R121): on lanes that agree a sample takes PV, its output lies within OUT_MIN and OUT_MAX,
in MANUAL it is MAN_OUT or, on the way into MANUAL, the last output; without a valid PV it is counted and nothing moves.
Completes: LOOP_SAMPLE. It rests on choices of the model: log entries 42 and 50. -/
def Obligations.SamplesOfALoop : Prop :=
  (∀ (s : State) (n : Nat) (err : LaneErr), sampleRuns s n → pvGood s n → isStandby s = false → err.p = {} → err.q = {} →
    Cfg.loopOutMin s n ≤ Cfg.loopOutMax s n →
    let v := readSrc s (Cfg.loopPvSource s n)
    ∃ t, exec (.loopSample n err) s = .next t ∧ (getLoop t n).pv = convPoint v.point (Cfg.loopPoint s n) v.value ∧
      (getLoop t n).samples = (getLoop s n).samples + 1 ∧ (getLoop t n).modeActive = nextMode s n ∧
      (getLoop t n).lastSampleClk = s.clk ∧ (getLoop t n).handover = none ∧ Flag.get (getLoop t n).flags lfPvInvalid = false ∧
      (nextMode s n = 1 ∨ nextMode s n = 2 →
        Cfg.loopOutMin s n ≤ (getLoop t n).out ∧ (getLoop t n).out ≤ Cfg.loopOutMax s n) ∧
      (nextMode s n = 0 → (getLoop s n).modeActive = 0 → (getLoop t n).out = Cfg.lmManOut s n) ∧
      (nextMode s n = 0 → (getLoop s n).modeActive ≠ 0 → (getLoop t n).out = (getLoop s n).out)) ∧
  (∀ (s : State) (n : Nat) (err : LaneErr), sampleRuns s n → (readSrc s (Cfg.loopPvSource s n)).valid = false →
    ∃ t, exec (.loopSample n err) s = .next t ∧ (getLoop t n).due = none ∧ (getLoop t n).samples = (getLoop s n).samples + 1 ∧
      Flag.get (getLoop t n).flags lfPvInvalid = true ∧ (getLoop t n).pv = (getLoop s n).pv ∧ (getLoop t n).sp = (getLoop s n).sp ∧
      (getLoop t n).out = (getLoop s n).out ∧ (getLoop t n).hist = (getLoop s n).hist ∧ OthersKept getLoop s t n)

/-- The sample at which a loop goes from CASCADE to AUTO (R116): the loop's sp is written to SETPOINT and to SP_RAMP, and the
set-point does not step. -/
def Obligations.HandOverFromCascadeKeepsTheSetPoint : Prop :=
  ∀ (s : State) (n : Nat) (err : LaneErr), sampleRuns s n → pvGood s n → isStandby s = false → err.p = {} → err.q = {} →
    (getLoop s n).modeActive = 2 → nextMode s n = 1 → (getLoop s n).rampFromPv = false → (getLoop s n).loomSp = none →
    ∃ t, exec (.loopSample n err) s = .next t ∧ committedVal t (memKey (0x4000 + n) 15) = .num (getLoop s n).sp ∧
      (getLoop t n).spRamp = (getLoop s n).sp ∧ (getLoop t n).sp = (getLoop s n).sp

/-- A lane's fault (R100, R101): LANE_TEST with a wrong result counts a fault; the first opens the window, and a second within
LANE_WINDOW retires the lane, the spare taking its place. PROFILE_SAVE (R129): at a full UTC hour the profile of each loop that
stores one is copied, with the time of the copy. Completes: LANE_TEST, PROFILE_SAVE. It rests on choices of the model: log entry
8. -/
def Obligations.LanesAndProfiles : Prop :=
  (∀ (s : State) (i : Nat), i < 3 →
    ∃ t, exec (.laneTest i true) s = .next t ∧ (getLane t i).lastTest = s.clk ∧ (getLane t i).faults = (getLane s i).faults ∧
      t.engine.loops = s.engine.loops) ∧
  (∀ (s : State) (i : Nat), i < 3 → (getLane s i).retired = false → (getLane s i).firstFault = none →
    ∃ t, exec (.laneTest i false) s = .next t ∧ (getLane t i).faults = (getLane s i).faults + 1 ∧
      (getLane t i).firstFault = some s.clk ∧ (getLane t i).retired = false) ∧
  (∀ (s : State) (i c : Nat), i < 3 → (getLane s i).retired = false → s.engine.degraded = false →
    (getLane s i).firstFault = some c → s.clk ≤ after c (secs (Cfg.engineLaneWindow s)) →
    ∃ t, exec (.laneTest i false) s = .next t ∧ (getLane t i).retired = true ∧
      (getLane t i).faults = (getLane s i).faults + 1) ∧
  (∀ (s : State) (n : Nat), s.cal.st ≠ 0 → utcSec s % 3600 = 0 → n ∈ storedLoops s →
     ∃ t, exec .profileSave s = .next t ∧ (getLoop t n).rc.saved = s.cal.now ∧ (getLoop t n).rc.profile = (getLoop s n).rc.profile ∧
       (⟨n, (getLoop s n).rc.kind, (getLoop s n).rc.cycles, (getLoop s n).rc.bins, (getLoop s n).rc.profile, s.cal.now⟩ :
         StoredProfile) ∈ t.mram.profiles)

/-! ### Measurement (06_measurement) -/

/-- MT_EXPIRY and CONVERSION_DUE (R141–R143): a timer's expiry is counted by every entry that names it and its conversions
become due after DELAY; then they wait on their converters, or are dropped and counted where four wait. CONVERSION_START (R142,
R143, R145, R146, R151): a free converter takes the earliest due conversion, 40 engine clocks later where a precharge precedes
it; two converters that an entry names start on one clock; ADC B first makes up a continuous conversion displaced from its slot;
ADC C takes the next channel of its round. Completes: MT_EXPIRY, CONVERSION_DUE, CONVERSION_START. It rests on choices of the
model: log entry 6. -/
def Obligations.TriggersAndConverters : Prop :=
  (∀ (s : State) (m : Nat), m < 8 → measOn s = true → Table.getD (blank 0) s.meas.timers m ≤ s.clk →
    ∃ t, exec (.mtExpiry m) s = .next t ∧
      Table.getD (blank 0) t.meas.timers m = Table.getD (blank 0) s.meas.timers m + Cfg.mtPeriod s m ∧
      (∀ e < 32, (getTrig t e).count = (getTrig s e).count + (if Cfg.trigSource s e = m then 1 else 0)) ∧
      t.meas.coming = s.meas.coming ++ (((upTo 32).filter fun e => Cfg.trigSource s e == m).map fun e => (e, s.clk + Cfg.trigDelay s e))) ∧
  (∀ (s : State) (e at_ : Nat) (rest : List (Nat × Nat)), s.meas.coming = (e, at_) :: rest → at_ ≤ s.clk →
    Cfg.trigChanA s e ≠ 0xFFFF → Cfg.trigChanB s e ≠ 0xFFFF →
    ∃ t, exec (.conversionDue e) s = .next t ∧ t.meas.coming = rest ∧
      (4 ≤ (s.meas.queue.filter (qUses .a)).length ∨ 4 ≤ (s.meas.queue.filter (qUses .b)).length →
        t.meas.queue = s.meas.queue ∧ t.meas.trigLost = s.meas.trigLost + 1) ∧
      ((s.meas.queue.filter (qUses .a)).length < 4 → (s.meas.queue.filter (qUses .b)).length < 4 →
        t.meas.queue = s.meas.queue ++ [⟨e, at_, Cfg.trigChanA s e, Cfg.trigChanB s e, false⟩] ∧
          t.meas.trigLost = s.meas.trigLost)) ∧
  (∀ (s : State) (q : QConv), measOn s = true → s.meas.runA = none → s.meas.runB = none → s.meas.queue = [q] →
    q.chanA ≠ 0xFFFF → q.check = false → q.chanB = 0xFFFF ∨ contNext s = none →
    ∃ t, exec (.conversionStart .a) s = .next t ∧ t.meas.queue = [] ∧ t.meas.preA = false ∧
      (q.chanB = 0xFFFF → t.meas.runB = none ∧
        ∃ r, t.meas.runA = some r ∧ r.chan = q.chanA ∧ r.entry = q.entry ∧ r.start = s.clk + (if s.meas.preA then 40 else 0)) ∧
      (q.chanB ≠ 0xFFFF → ∃ a b, t.meas.runA = some a ∧ t.meas.runB = some b ∧ a.chan = q.chanA ∧ b.chan = q.chanB ∧
        a.start = b.start ∧ a.start = s.clk + (if s.meas.preA ∨ s.meas.preB then 40 else 0))) ∧
  (∀ (s : State) (w : ContWait) (c : Nat), measOn s = true → s.meas.runB = none → contNext s = some w →
    slotChan s w.pos = some c →
    ∃ t, exec (.conversionStart .b) s = .next t ∧ t.meas.contWait = s.meas.contWait.drop 1 ∧ t.meas.queue = s.meas.queue ∧
      ∃ x, t.meas.runB = some x ∧ x.chan = c ∧ x.cont = true ∧ x.start = s.clk + (if s.meas.preB then 40 else 0)) ∧
  (∀ (s : State) (c : Nat) (r : List Nat), measOn s = true → s.meas.runC = none → s.meas.cQueue = c :: r →
    ∃ t, exec (.conversionStart .c) s = .next t ∧ t.meas.cQueue = r ∧
      ∃ x, t.meas.runC = some x ∧ x.chan = c ∧ x.start = s.clk)

/-- CONVERSION_COMPLETE (R147–R150, R453): 1600 engine clocks after its start a conversion of ADC C delivers its record: the
value, the code, the next sequence number, and the end of its acquisition as the stamp. 200 after its start one of an AI input
does, on the set that was in force at its start: beyond the range the ends of the format, in range the scaled value and a code of
the linear mapping. Completes: CONVERSION_COMPLETE. It rests on choices of the model: log entry 54. -/
def Obligations.ConversionsDeliverTheirRecord : Prop :=
  (∀ (s : State) (r : ConvRun) (l lB raw rawB : Int), s.meas.runC = some r → r.start + 1600 ≤ s.clk → 0x400 ≤ r.chan →
    (fieldTemp (r.chan - 0x400) = true → s.io.linkUp = true) →
    ∃ t, exec (.conversionComplete .c l lB raw rawB) s = .next t ∧ t.meas.runC = none ∧
      let x := getRec t (chanRec r.chan)
      x.present = true ∧ x.value = sat32 l ∧ (x.raw : Int) = raw % 65536 ∧ x.seq = ((getRec s (chanRec r.chan)).seq + 1) % 256 ∧
      x.stampClk = r.start + 400 ∧ x.atClk = s.clk ∧
      (s.meas.refState = 2 → r.delayed = false → phaseTrueAt s (r.start + 400) = true → x.flags = 0)) ∧
  (∀ (s : State) (r : ConvRun) (k : Nat) (l lB raw rawB : Int), s.meas.runA = some r → r.start + 200 ≤ s.clk →
    r.paired = false → k < 24 → r.chan = 308 + k → r.set.mode = 1 → r.set.sensor = 0 →
    ∃ t, exec (.conversionComplete .a l lB raw rawB) s = .next t ∧ t.meas.runA = none ∧
      let x := getRec t k
      x.seq = ((getRec s k).seq + 1) % 256 ∧ x.stampClk = r.start + 80 ∧
      (l < -32768 → x.value = s32Min ∧ x.raw = 0 ∧ t.meas.preA = true) ∧
      (688128 < l → x.value = s32Max ∧ x.raw = 0xFFFF ∧ t.meas.preA = true) ∧
      (-32768 ≤ l → l ≤ 688128 → x.value = sat32 (roundDiv (r.set.gain * l) 65536 + r.set.offset) ∧
        1 ≤ x.raw ∧ x.raw ≤ 0xFFFE ∧ (raw = 0 → (x.raw : Int) = 1 + roundDiv ((l + 32768) * 65533) 720896)))

/-- CONTINUOUS_SLOT, HOUSEKEEPING_ROUND and AI_SCAN (R144–R146): a slot's conversion starts at its position unless a triggered
one comes first; a round queues its channels every 10 ms, and after it the scanned inputs when a scan is due. SHUNT_TRIP,
SHUNT_RECLOSE, AI_CLAMP_EVENT and RECOVERING_END (R136, R151): a shunt opens and recloses after 100 ms, and its input settles
for 1 ms; the neighbours of a clamped input settle 50 µs after it. NOISE_MEASUREMENT, AO_FAULT and AO_STATUS_CLEAR (R154, R156):
the noise ratios and their flag above 1.4, and the status of an analogue output, which keeps its command. Completes:
CONTINUOUS_SLOT, HOUSEKEEPING_ROUND, AI_SCAN, SHUNT_TRIP, SHUNT_RECLOSE, AI_CLAMP_EVENT, RECOVERING_END, NOISE_MEASUREMENT,
AO_FAULT, AO_STATUS_CLEAR. It rests on choices of the model: log entries 6, 53, 54 and 55. -/
def Obligations.FramesInputsAndOutputs : Prop :=
  (∀ (s : State) (pos c : Nat), slotChan s pos = some c → measOn s = true → (s.clk - s.power.releaseClk) % 3200 = pos →
    ∃ t, exec (.continuousSlot pos) s = .next t ∧
      (trigKnown s (s.clk + 200) = true ∨ s.meas.runB ≠ none ∨ s.meas.contWait ≠ [] →
        t.meas.contWait = s.meas.contWait ++ [⟨pos, s.clk, trigKnown s (s.clk + 200)⟩] ∧ t.meas.runB = s.meas.runB) ∧
      (trigKnown s (s.clk + 200) = false → s.meas.runB = none → s.meas.contWait = [] →
        ∃ r, t.meas.runB = some r ∧ r.chan = c ∧ r.cont = true ∧ r.start = s.clk + (if s.meas.preB then 40 else 0))) ∧
  (∀ s : State, measOn s = true → s.meas.nextRound ≤ s.clk →
    ∃ t, exec .housekeepingRound s = .next t ∧ t.meas.nextRound = after s.meas.nextRound (msecs 10) ∧ t.meas.scanAsked = false ∧
      ∃ ai, t.meas.cQueue = s.meas.cQueue ++ roundChans ++ ai ∧
        (s.meas.scanAsked = false → s.clk < s.meas.scanDue → ai = []) ∧
        (s.meas.scanAsked = true ∨ s.meas.scanDue ≤ s.clk → ∀ k < 24, (308 + k ∈ ai ↔ Cfg.aiCScan s k = true ∧ Cfg.aiAiMode s k ≠ 0))) ∧
  (∀ s : State, measOn s = true → s.meas.scanDue ≤ s.clk →
    ∃ t, exec .aiScan s = .next t ∧ t.meas.scanAsked = true ∧ t.meas.scanDue = after s.meas.scanDue (msecs (Cfg.measCScanPeriod s))) ∧
  (∀ (s : State) (k : Nat), k < 24 → Cfg.aiAiMode s k = 3 → (getAi s k).shuntOpen = false →
    ∃ t, exec (.shuntTrip k) s = .next t ∧ (getAi t k).shuntOpen = true ∧ (getAi t k).shuntAt = s.clk ∧ OthersKept getAi s t k) ∧
  (∀ (s : State) (k : Nat), k < 24 → (getAi s k).shuntOpen = true → after (getAi s k).shuntAt (msecs 100) ≤ s.clk →
    ∃ t, exec (.shuntReclose k) s = .next t ∧ (getAi t k).shuntOpen = false ∧ OthersKept getAi s t k ∧
      ∃ u, (getAi t k).recovering = some u ∧ after s.clk (msecs 1) ≤ u) ∧
  (∀ (s : State) (k : Nat), k < 24 →
    ∃ t, exec (.aiClampEvent k true) s = .next t ∧ (getAi t k).clamped = true ∧ OthersKept getAi s t k) ∧
  (∀ (s : State) (k : Nat), 0 < k → k < 23 → (getAi s k).clamped = true →
    ∃ t, exec (.aiClampEvent k false) s = .next t ∧ (getAi t k).clamped = false ∧
      (∀ j, j = k - 1 ∨ j = k + 1 → ∃ u, (getAi t j).recovering = some u ∧ after s.clk (usecs 50) ≤ u) ∧
      ∀ j, j ≠ k → j ≠ k - 1 → j ≠ k + 1 → getAi t j = getAi s j) ∧
  (∀ (s : State) (k u : Nat), (getAi s k).recovering = some u → u ≤ s.clk →
    ∃ t, exec (.recoveringEnd k) s = .next t ∧ (getAi t k).recovering = none ∧ OthersKept getAi s t k) ∧
  (∀ (s : State) (x y : NoiseSum), noiseDue s = true →
    let a := noiseFactor 0 (converterKelvin s) x
    let b := noiseFactor 1 (converterKelvin s) y
    ∃ t, exec (.noiseMeasurement x y) s = .next t ∧ t.meas.noiseA = a ∧ t.meas.noiseB = b ∧
      (t.meas.noiseExcess = true ↔ 14 * 65536 < a * 10 ∨ 14 * 65536 < b * 10) ∧ t.meas.recs = s.meas.recs) ∧
  (∀ (s : State) (a : Nat) (k : AoFault), a < 8 → Cfg.aoAoMode s a = (if k = .open_ then 2 else 1) →
    ∃ t, exec (.aoFault a k) s = .next t ∧ (getAo t a).status = (if k = .open_ then 1 else 2) ∧
      (getAo t a).applied = (getAo s a).applied ∧ OthersKept getAo s t a) ∧
  (∀ (s : State) (a : Nat), a < 8 →
    ∃ t, exec (.aoStatusClear a) s = .next t ∧ (getAo t a).status = 0 ∧ (getAo t a).applied = (getAo s a).applied ∧
      OthersKept getAo s t a)

/-! ### Jacquard: cards and channels (07_valve_drive) -/

/-- NOP, RAIL, DECAY, CHOP, SEATCFG, MARKH and FLAG (R166, R168, R169, R173, R174): in its channel's issue slot the card goes
on at the next address with the instruction's setting; a RAIL waits for the next DRIVE, a CHOP of a conducting channel for the
next chopper period. JMP, JCMD, JLT and JRLT (R169): the card jumps to TGT when the condition holds, else goes on at the next
address. Completes: NOP, RAIL, DECAY, CHOP, SEATCFG, MARKH, FLAG, JMP, JCMD, JLT, JRLT. It rests on choices of the model: log
entry 63. -/
def Obligations.CardSettingsAndJumps : Prop :=
  (∀ (s : State) (v w : Nat),
     (vlvAt s v 0x00 = some w → ∃ t, exec (.cardNop v) s = .next t ∧ (getVlv t v).pc = (getVlv s v).pc.map (· + 1) ∧
       (getVlv t v).st = (getVlv s v).st ∧ (getVlv t v).ref = (getVlv s v).ref ∧ OthersKept getVlv s t v) ∧
     (vlvAt s v 0x01 = some w → ∃ t, exec (.cardRail v) s = .next t ∧ (getVlv t v).pc = (getVlv s v).pc.map (· + 1) ∧
       (getVlv t v).railNext = vlvOperand (getVlv s v) w % 2 ∧ (getVlv t v).rail = (getVlv s v).rail ∧
       (getVlv t v).ref = (getVlv s v).ref ∧ OthersKept getVlv s t v) ∧
     (vlvAt s v 0x02 = some w → ∃ t, exec (.cardDecay v) s = .next t ∧ (getVlv t v).pc = (getVlv s v).pc.map (· + 1) ∧
       (getVlv t v).decayMode = vlvOperand (getVlv s v) w % 4 ∧ (getVlv t v).clamp = vlvOperand (getVlv s v) w / 4 % 4 ∧
       (getVlv t v).demoted = false ∧ OthersKept getVlv s t v) ∧
     (vlvAt s v 0x03 = some w → ∃ t, exec (.cardChop v) s = .next t ∧ (getVlv t v).pc = (getVlv s v).pc.map (· + 1) ∧
       ((getVlv s v).conducting = true → (getVlv t v).chop = (getVlv s v).chop ∧
         (getVlv t v).chopPending = some (vlvOperand (getVlv s v) w % 512)) ∧
       ((getVlv s v).conducting = false → (getVlv t v).chop = vlvOperand (getVlv s v) w % 512) ∧ OthersKept getVlv s t v) ∧
     (vlvAt s v 0x0C = some w → ∃ t, exec (.cardSeatcfg v) s = .next t ∧ (getVlv t v).pc = (getVlv s v).pc.map (· + 1) ∧
       (getVlv t v).det.armed = true ∧ ((getVlv t v).det.drop = true ↔ 32768 ≤ vlvOperand (getVlv s v) w % 65536) ∧
       (getVlv t v).det.threshold = vlvOperand (getVlv s v) w % 256 ∧
       (getVlv t v).det.blankUntil = s.clk + vlvOperand (getVlv s v) w % 65536 / 256 % 128 * usecs 10 ∧
       OthersKept getVlv s t v) ∧
     (vlvAt s v 0x0D = some w → ∃ t, exec (.cardMarkh v) s = .next t ∧ (getVlv t v).pc = (getVlv s v).pc.map (· + 1) ∧
       (getVlv t v).holdEntry = wTgt w ∧ OthersKept getVlv s t v) ∧
     (vlvAt s v 0x16 = some w → ∃ t, exec (.cardFlag v) s = .next t ∧ (getVlv t v).pc = (getVlv s v).pc.map (· + 1) ∧
       (vlvOperand (getVlv s v) w % 16 = 0 → Flag.get (getVlv t v).flags fNoSeat = true) ∧
       (vlvOperand (getVlv s v) w % 16 = 1 → Flag.get (getVlv t v).flags fLearnFloor = true) ∧ OthersKept getVlv s t v)) ∧
  (∀ (s : State) (v w current : Nat),
     (vlvAt s v 0x10 = some w → ∃ t, exec (.cardJmp v) s = .next t ∧ (getVlv t v).pc = some (wTgt w) ∧
       (getVlv t v).ref = (getVlv s v).ref ∧ OthersKept getVlv s t v) ∧
     (vlvAt s v 0x11 = some w → ∃ t, exec (.cardJcmd v) s = .next t ∧ (getVlv t v).pc =
       (if vlvCmdOn s v = decide (vlvOperand (getVlv s v) w % 2 = 1) then some (wTgt w) else (getVlv s v).pc.map (· + 1)) ∧
       (getVlv t v).ref = (getVlv s v).ref ∧ OthersKept getVlv s t v) ∧
     (vlvAt s v 0x12 = some w → ∃ t, exec (.cardJlt v current) s = .next t ∧ (getVlv t v).pc =
       (if current < vlvOperand (getVlv s v) w then some (wTgt w) else (getVlv s v).pc.map (· + 1)) ∧
       (getVlv t v).ref = (getVlv s v).ref ∧ OthersKept getVlv s t v) ∧
     (vlvAt s v 0x13 = some w → ∃ t, exec (.cardJrlt v) s = .next t ∧ (getVlv t v).pc =
       (if (getVlv s v).ref < vlvOperand (getVlv s v) w then some (wTgt w) else (getVlv s v).pc.map (· + 1)) ∧
       (getVlv t v).ref = (getVlv s v).ref ∧ OthersKept getVlv s t v))

/-- WAIT, WSEAT, WCMD and WDROP, and the ends of their waits (R169): a card that waits stays at its address until the time has
passed, the command is off, the seat or the dropout is found; a seat or a dropout that fails to come leads to TGT. SEAT_DETECTED
(R60, R173, R175): the stamp of the seat, the time from the card start, and the energies of SEAT_PH, whose ratio is
ENERGY_FACTOR. Completes: WAIT, WSEAT, WCMD, WDROP, WAIT_EXPIRY, WSEAT_TIMEOUT, WDROP_TIMEOUT, DROPOUT_DETECTED, SEAT_DETECTED.
It rests on choices of the model: log entry 63. -/
def Obligations.CardWaitsAndSeats : Prop :=
  (∀ (s : State) (v w : Nat),
    (vlvAt s v 0x08 = some w → ∃ t, exec (.cardWait v) s = .next t ∧ (getVlv t v).pc = (getVlv s v).pc ∧
      (getVlv t v).wait = .time (s.clk + vlvTime (getVlv s v) w) ∧ OthersKept getVlv s t v) ∧
    (vlvAt s v 0x09 = some w → (getVlv s v).det.drop = false → ∃ t, exec (.cardWseat v) s = .next t ∧
      (getVlv t v).pc = (getVlv s v).pc ∧ (getVlv t v).wait = .seat (s.clk + vlvTime (getVlv s v) w) (wTgt w) ∧
      OthersKept getVlv s t v) ∧
    (vlvAt s v 0x0A = some w → ∃ t, exec (.cardWcmd v) s = .next t ∧ OthersKept getVlv s t v ∧
      (vlvCmdOn s v = true → (getVlv t v).pc = (getVlv s v).pc ∧ (getVlv t v).wait = .cmdOff) ∧
      (vlvCmdOn s v = false → (getVlv t v).pc = (getVlv s v).pc.map (· + 1) ∧ (getVlv t v).wait = .none)) ∧
    (vlvAt s v 0x0B = some w → ∃ t, exec (.cardWdrop v) s = .next t ∧ (getVlv t v).pc = (getVlv s v).pc ∧
      (getVlv t v).wait = .drop (s.clk + vlvTime (getVlv s v) w) (wTgt w) ∧ OthersKept getVlv s t v)) ∧
  (∀ (s : State) (v u a : Nat), v < 16 → u ≤ s.clk →
    ((getVlv s v).wait = .time u → ∃ t, exec (.waitExpiry v) s = .next t ∧ (getVlv t v).wait = .none ∧
      (getVlv t v).pc = (getVlv s v).pc.map (· + 1) ∧ OthersKept getVlv s t v) ∧
    ((getVlv s v).wait = .seat u a → ∃ t, exec (.wseatTimeout v) s = .next t ∧ (getVlv t v).wait = .none ∧
      (getVlv t v).pc = some a ∧ OthersKept getVlv s t v) ∧
    ((getVlv s v).wait = .drop u a → ∃ t, exec (.wdropTimeout v) s = .next t ∧ (getVlv t v).wait = .none ∧
      (getVlv t v).pc = some a ∧ OthersKept getVlv s t v)) ∧
  (∀ (s : State) (v u a : Nat), v < 16 → (getVlv s v).wait = .drop u a → (getVlv s v).det.drop = true →
    (getVlv s v).det.blankUntil ≤ s.clk →
    ∃ t, exec (.dropoutDetected v) s = .next t ∧ (getVlv t v).dropRef = (getVlv s v).ref ∧ (getVlv t v).det.drop = false ∧
      (getVlv t v).pc = (getVlv s v).pc.map (· + 1) ∧ (getVlv t v).wait = .none ∧ OthersKept getVlv s t v) ∧
  (∀ (s : State) (v u a stamp eCoil eMag : Nat), v < 16 → (getVlv s v).wait = .seat u a → (getVlv s v).det.armed = true →
     (getVlv s v).det.drop = false → afterBlank s (getVlv s v).det stamp = true → (getVlv s v).learning = false →
     ∃ t, exec (.seatDetected v stamp eCoil eMag) s = .next t ∧ (getVlv t v).seatStamp = stamp ∧
       (getVlv t v).pc = (getVlv s v).pc.map (· + 1) ∧ (getVlv t v).wait = .none ∧
       (getVlv t v).pullinTime = (wtToUs s ((stamp : Int) - (getVlv s v).startWarp)).toNat ∧
       ((getVlv s v).card = 0x110 → (getVlv s v).coilRes ≠ 0 → eMag ≠ 0 →
         (getVlv t v).eCoil = eCoil ∧ (getVlv t v).eMag = eMag ∧
           (getVlv t v).energyFactor = roundDiv (eCoil * 65536) eMag) ∧
       ((getVlv s v).card = 0x110 → (getVlv s v).coilRes = 0 → (getVlv t v).energyFactor = 0) ∧
       OthersKept getVlv s t v)

/-- DRIVE and GRANT (R178, R181): a level within the share, or that fits PEAK_LIMIT before an empty queue, is taken at once; any
other waits in the bank's queue, behind the older requests and those of its clock with a lower channel. RELEASE, LSTEP and OFF
let the share go. BUDGET_GRANTED (R181): the head of the queue is granted while it fits; while it does not, no later request
overtakes it. Completes: DRIVE, GRANT, RELEASE, LSTEP, OFF, BUDGET_GRANTED. It rests on choices of the model: log entry 63. -/
def Obligations.CardsDriveWithinTheBudget : Prop :=
  (∀ (s : State) (v w : Nat), let c := getVlv s v
     let level := vlvOperand c w
     (vlvAt s v 0x04 = some w →
       (level ≤ c.share ∨ ((getBank s (vlvBank v)).queue = [] ∧ fitsBudget s v level = true) →
         ∃ t, exec (.cardDrive v) s = .next t ∧ (getVlv t v).ref = level ∧ (getVlv t v).pc = c.pc.map (· + 1) ∧
           (getBank t (vlvBank v)).queue = (getBank s (vlvBank v)).queue) ∧
       (c.share < level → (getBank s (vlvBank v)).queue ≠ [] ∨ fitsBudget s v level = false →
         ∃ t, exec (.cardDrive v) s = .next t ∧ (getVlv t v).ref = c.ref ∧ (getVlv t v).pc = c.pc ∧
           (getVlv t v).wait = .drive level ∧
           (getBank t (vlvBank v)).queue = queueRequest (getBank s (vlvBank v)).queue ⟨v, level, s.clk⟩)) ∧
     (vlvAt s v 0x06 = some w →
       ((getBank s (vlvBank v)).queue = [] → fitsBudget s v level = true →
         ∃ t, exec (.cardGrant v) s = .next t ∧ (getVlv t v).share = level ∧ (getVlv t v).pc = c.pc.map (· + 1) ∧
           (c.st = .waitGrant → (getVlv t v).st = .pullin) ∧ OthersKept getVlv s t v) ∧
       ((getBank s (vlvBank v)).queue ≠ [] ∨ fitsBudget s v level = false →
         ∃ t, exec (.cardGrant v) s = .next t ∧ (getVlv t v).share = c.share ∧ (getVlv t v).wait = .grant level ∧
           (getBank t (vlvBank v)).queue = queueRequest (getBank s (vlvBank v)).queue ⟨v, level, s.clk⟩)) ∧
     (vlvAt s v 0x07 = some w →
       ∃ t, exec (.cardRelease v) s = .next t ∧ (getVlv t v).pc = c.pc.map (· + 1) ∧
         (c.learning = false → (getVlv t v).share = c.ref) ∧
         (c.st = .pullin ∨ c.st = .waitGrant → (getVlv t v).st = .hold) ∧ OthersKept getVlv s t v) ∧
     (vlvAt s v 0x14 = some w →
       ∃ t, exec (.cardLstep v) s = .next t ∧ (getVlv t v).pc = c.pc.map (· + 1) ∧ (getVlv t v).ref = c.ref - level ∧
         (c.learning = false → c.st = .hold → (getVlv t v).share = c.ref - level)) ∧
     (vlvAt s v 0x05 = some w →
       ∃ t, exec (.cardOff v) s = .next t ∧ (getVlv t v).st = .decay ∧ (getVlv t v).ref = 0 ∧ (getVlv t v).share = 0 ∧
         (getVlv t v).conducting = false ∧ (getVlv t v).lowSide = false ∧ (getVlv t v).wait = .decayed ∧
         (getVlv t v).offAt = some s.clk)) ∧
  (∀ (s : State) (r : GrantReq) (l : Nat), vlvBank r.v < 4 → (getBank s (vlvBank r.v)).queue = [r] → fitsBudget s r.v r.level = true →
    (getVlv s r.v).wait = .grant l →
    ∃ t, exec (.budgetGranted (vlvBank r.v)) s = .next t ∧ (getBank t (vlvBank r.v)).queue = [] ∧ (getVlv t r.v).share = l ∧
      (getVlv t r.v).pc = (getVlv s r.v).pc.map (· + 1) ∧ Flag.get (getVlv t r.v).flags fPullinDelayed = true ∧
      ((getVlv s r.v).st = .waitGrant → (getVlv t r.v).st = .pullin) ∧
      (getBank t (vlvBank r.v)).waits = (getBank s (vlvBank r.v)).waits + 1 ∧ OthersKept getVlv s t r.v) ∧
  (∀ (s : State) (b : Nat) (r : GrantReq) (rest : List GrantReq), b < 4 → (getBank s b).queue = r :: rest →
    fitsBudget s r.v r.level = false → exec (.budgetGranted b) s = .next s) ∧
  (∀ (q : List GrantReq) (r x : GrantReq), (∀ y ∈ q, y.at_ < r.at_ ∨ y.v < r.v) →
    queueRequest q r = q ++ [r] ∧ (x.at_ = r.at_ → r.v < x.v → queueRequest (q ++ [x]) r = q ++ [r, x]))

/-- END, LSAVE, DECAY_COMPLETE, LEARN_WINDOW_GRANT and COIL_RES_MEASURED (R169, R175–R177): a channel card's END turns the
channel off; the card of a learning window gives the channel back to its own card, and 1.25 × DROP_REF, at most 1500 mA, is
learned. Completes: END, LSAVE, DECAY_COMPLETE, LEARN_WINDOW_GRANT, COIL_RES_MEASURED. It rests on choices of the model: log
entry 63. -/
def Obligations.CardsEndAndLearn : Prop :=
  ∀ (s : State) (v w : Nat), let c := getVlv s v
    (vlvAt s v 0x3F = some w → c.learning = true →
      ∃ t, exec (.cardEnd v) s = .next t ∧ (getVlv t v).st = .hold ∧ (getVlv t v).learning = false ∧ (getVlv t v).share = c.ref ∧
        (getVlv t v).pc = some (afterWcmd s v - 1)) ∧
    (vlvAt s v 0x3F = some w → c.learning = false → c.mode = 1 → comN s (0x7100 + v) 1 = 1 →
      ∃ t, exec (.cardEnd v) s = .next t ∧ (getVlv t v).st = .off ∧ (getVlv t v).pc = none ∧ (getVlv t v).ref = 0 ∧
        (getVlv t v).share = 0 ∧ (getVlv t v).conducting = false) ∧
    (vlvAt s v 0x15 = some w →
      ∃ t, exec (.cardLsave v) s = .next t ∧ (getVlv t v).pc = c.pc.map (· + 1) ∧
        (getVlv t v).learned = setNth c.learned c.band (min 1500 (roundDiv (5 * c.dropRef) 4).toNat) ∧
        (getVlv t v).learnedAt = s.cal.now ∧ Flag.get (getVlv t v).flags fLearnDone = true ∧ OthersKept getVlv s t v) ∧
    (v < 16 → c.wait = .decayed →
      ∃ t, exec (.decayComplete v) s = .next t ∧ (getVlv t v).wait = .none ∧ (getVlv t v).returning = false ∧
        (getVlv t v).pc = c.pc.map (· + 1)) ∧
    (v < 16 → mayLearn s v = true →
      ∃ t, exec (.learnWindowGrant v) s = .next t ∧ (getVlv t v).st = .learn ∧ (getVlv t v).learning = true ∧
        (getVlv t v).pc = some 0x130 ∧ (getVlv t v).share = nth 0 c.params 0 ∧ OthersKept getVlv s t v) ∧
    (v < 16 → c.st = .hold → after c.holdSince (msecs 100) ≤ s.clk →
      ∃ t, exec (.coilResMeasured v w) s = .next t ∧ (getVlv t v).coilRes = w ∧ OthersKept getVlv s t v)

/-- CARD_START, WAIT_5200_EXPIRY and PULSE_EXPIRY (R164, R166, R178, R184): a card starts at its start address on the committed
set, which it latches; a timed pulse counts from there, and its end is an off command. CHOPPER_PERIOD_START and CHOPPER_OFF_EDGE
(R454): a period turns the low side on and emits the on-edge, the off-edge turns it off after 0.5 µs of blanking; each edge
triggers the entries that name it. Completes: CARD_START, WAIT_5200_EXPIRY, PULSE_EXPIRY, CHOPPER_PERIOD_START,
CHOPPER_OFF_EDGE. It rests on choices of the model: log entries 6, 60 and 63. -/
def Obligations.CardsStartAndChop : Prop :=
  (∀ (s : State) (v u : Nat), v < 16 → (getVlv s v).startDue = some u → u ≤ s.clk → s.clk % 4 = v % 4 →
    (getVlv s v).st = .off → (getVlv s v).mode = 1 → vlvBlocked s v = false →
    ∃ t, exec (.cardStart v) s = .next t ∧ (getVlv t v).st = .waitGrant ∧ (getVlv t v).pc = some (comN s (0x7100 + v) 2) ∧
      (getVlv t v).startDue = none ∧ (getVlv t v).share = 0 ∧ (getVlv t v).ref = 0 ∧ (getVlv t v).startClk = s.clk ∧
      (getVlv t v).startWarp = warpNow s ∧ (getVlv t v).actuations = (getVlv s v).actuations + 1 ∧
      (∀ ms, (getVlv s v).pulseMs = some ms → (getVlv t v).pulseEnd = some (after s.clk (msecs ms)))) ∧
  (∀ (s : State) (v u : Nat), v < 16 → (getVlv s v).st = .wait5200 → (getVlv s v).startDue = some u → u ≤ s.clk →
    ∃ t, exec (.wait5200Expiry v) s = .next t ∧ (getVlv t v).st = .off ∧ (getVlv t v).startDue = some s.clk ∧
      OthersKept getVlv s t v) ∧
  (∀ (s : State) (v u : Nat), v < 16 → (getVlv s v).pulseEnd = some u → u ≤ s.clk → (getVlv s v).mode = 1 →
    vlvBlocked s v = false → isSafe s (288 + v) = false → (getVlv s v).st = .hold → (getVlv s v).wait = .cmdOff →
    (getVlv s v).leaving = false →
    ∃ t, exec (.pulseExpiry v) s = .next t ∧ (getVlv t v).cmdOn = false ∧ (getVlv t v).pulseEnd = none ∧
      (getVlv t v).pc = some (afterWcmd s v) ∧ (getVlv t v).wait = .none) ∧
  (∀ (s : State) (v : Nat), v < 16 → (getVlv s v).conducting = true → (getVlv s v).chopNext ≤ s.clk →
    ∃ t, exec (.chopperPeriodStart v) s = .next t ∧ (getVlv t v).chopAt = s.clk ∧ (getVlv t v).returning = false ∧
      (vlvWants s v = true → (getVlv t v).lowSide = true) ∧
      (∀ f, (getVlv s v).chopPending = some f → (getVlv t v).chop = f ∧ (getVlv t v).chopPending = none) ∧
      ∀ e < 32, (getTrig t e).count = (getTrig s e).count + (if Cfg.trigSource s e = 0x20 + v then 1 else 0)) ∧
  (∀ (s : State) (v : Nat), v < 16 → (getVlv s v).conducting = true → (getVlv s v).lowSide = true →
    (getVlv s v).chopAt + 200 ≤ s.clk →
    ∃ t, exec (.chopperOffEdge v) s = .next t ∧ (getVlv t v).lowSide = false ∧
      ∀ e < 32, (getTrig t e).count = (getTrig s e).count + (if Cfg.trigSource s e = 0x30 + v then 1 else 0))

/-- CHANNEL_TRIP, BANK_TRIP, OFF_STATE_TEST and ON_STATE_DIAG (R185, R186): a tripped channel is in FAULT with its low side off
and its share 0; a bank trip opens the switch; a finding sets its bit in DIAG. Completes: CHANNEL_TRIP, BANK_TRIP,
OFF_STATE_TEST, ON_STATE_DIAG. It rests on choices of the model: log entry 6. -/
def Obligations.ValveTripsAndDiagnostics : Prop :=
  (∀ (s : State) (v : Nat), v < 16 → (getVlv s v).conducting = true → isRelevant s (288 + v) = false →
    ∃ t, exec (.channelTrip v) s = .next t ∧ (getVlv t v).st = .fault ∧ (getVlv t v).pc = none ∧ (getVlv t v).ref = 0 ∧
      (getVlv t v).share = 0 ∧ (getVlv t v).conducting = false ∧ (getVlv t v).tripAt = s.clk ∧
      Flag.get (getVlv t v).diag dShortSupplyOn = true ∧
      (2 ≤ (recent s (secs 10) (getVlv s v).trips).length → Flag.get (getVlv t v).diag dLatched = true)) ∧
  (∀ (s : State) (b : Nat), b < 4 → (∀ v ∈ bankChans b, isRelevant s (288 + v) = false) →
    ∃ t, exec (.bankTrip b) s = .next t ∧ (getBank t b).trips = (getBank s b).trips + 1 ∧ (getBank t b).tripped = true ∧
      (getBank t b).rail = 2 ∧
      ∀ v ∈ bankChans b, (getVlv t v).st = .fault ∧ (getVlv t v).ref = 0 ∧ Flag.get (getVlv t v).diag dBankOc = true) ∧
  (∀ (s : State) (v : Nat) (openOff shortGnd shortSupply : Bool), v < 16 → (getBank s (vlvBank v)).testing.contains v = true →
    ∃ t, exec (.offStateTest v openOff shortGnd shortSupply) s = .next t ∧ (getVlv t v).testedAt = s.clk ∧
      (openOff = true → Flag.get (getVlv t v).diag dOpenOff = true) ∧
      (shortGnd = true → Flag.get (getVlv t v).diag dShortGndOff = true) ∧
      (getBank t (vlvBank v)).testing = (getBank s (vlvBank v)).testing.filter (fun u => u ≠ v)) ∧
  (∀ (s : State) (v : Nat) (k : OnDiag), v < 16 → (getVlv s v).conducting = true →
    ∃ t, exec (.onStateDiag v k true) s = .next t ∧
      Flag.get (getVlv t v).diag (if k = .openOn then dOpenOn else dShortGndOn) = true ∧
      (k = .shortGnd → vlvCutOn s v = true → v ∈ (getBank t (vlvBank v)).cutBy ∧ (getVlv t v).conducting = false))

/-! ### Field I/O (08_field_io) -/

/-- IO_INPUT_SAMPLE, IO_FILTER_EXPIRY and TACH_EDGE (R192–R194): above 11 V an input is CLOSED, below 5.5 V it is not; a class
changes the state when it has differed for FILTER, with the stamp of its first sample; TACH_FREQ is that of four periods.
All of it crosses the barrier link while that is up (R15). IO_CURRENT_LIMIT, IO_THERMAL_SHUTDOWN and IO_THERMAL_RESTART (R196, R197): an output regulates at its applied limit; a shutdown
turns the stage off and the eighth within 60 s latches; cooled, it may turn on again. Completes: IO_INPUT_SAMPLE,
IO_FILTER_EXPIRY, TACH_EDGE, IO_CURRENT_LIMIT, IO_THERMAL_SHUTDOWN, IO_THERMAL_RESTART. It rests on choices of the model: log
entries 6, 8 and 64. -/
def Obligations.InputsAndOutputs : Prop :=
  (∀ (s : State) (i : Nat) (mv : Int) (ua : Nat), i < 32 → pinsLive s = true → (getIo s i).mode = 1 → (getIo s i).hizUntil = none →
    isRelevant s (256 + i) = false →
    ∃ t, exec (.ioInputSample i mv ua) s = .next t ∧ (getIo t i).far.state = (getIo s i).far.state ∧
      (getIo t i).far.current = ua ∧
      (s.io.linkUp = true → (getIo t i).inState = (getIo s i).far.state ∧ (getIo t i).inCurrent = ua) ∧
      (s.io.linkUp = false → (getIo t i).inState = (getIo s i).inState ∧ (getIo t i).inCurrent = (getIo s i).inCurrent) ∧
      (11000 < mv → (getIo t i).raw = 1) ∧
      (mv < 5500 → Cfg.ioWbEn s i = false → (getIo t i).raw = 0) ∧
      (mv < 5500 → Cfg.ioWbEn s i = true → (ua < 100 → (getIo t i).raw = 2) ∧ (200 ≤ ua → ua ≤ 1000 → (getIo t i).raw = 0)) ∧
      ((getIo t i).raw = (getIo s i).far.state → (getIo t i).differSince = none) ∧
      ((getIo t i).raw ≠ (getIo s i).far.state → (getIo s i).differSince = none → (getIo t i).differSince = some s.clk ∧
        (getIo t i).differWarp = warpField s) ∧ OthersKept getIo s t i) ∧
  (∀ (s : State) (i u : Nat), i < 32 → (getIo s i).mode = 1 → (getIo s i).differSince = some u → u + Cfg.ioFilter s i * 40000 ≤ s.clk →
    ∃ t, exec (.ioFilterExpiry i) s = .next t ∧ (getIo t i).far.state = (getIo s i).raw ∧
      (getIo t i).far.stamp = (getIo s i).differWarp ∧ (getIo t i).far.edges = (getIo s i).far.edges + 1 ∧
      (s.io.linkUp = true → (getIo t i).inState = (getIo s i).raw ∧ (getIo t i).edgeStamp = (getIo s i).differWarp ∧
        (getIo t i).edges = (getIo s i).far.edges + 1) ∧
      (s.io.linkUp = false → (getIo t i).inState = (getIo s i).inState ∧ (getIo t i).edges = (getIo s i).edges) ∧
      (getIo t i).differSince = none ∧ OthersKept getIo s t i) ∧
  (∀ (s : State) (i a b c d : Nat), i < 32 → pinsLive s = true → (getIo s i).mode = 4 → (getIo s i).hizUntil = none →
    (getIo s i).tachTimes = [a, b, c, d] →
    let f := roundDiv (secs 4 * 65536) (s.clk - a : Nat)
    ∃ t, exec (.tachEdge i) s = .next t ∧ (getIo t i).far.edges = (getIo s i).far.edges + 1 ∧ (getIo t i).far.freq = f ∧
      (getIo t i).tachTimes = [a, b, c, d, s.clk] ∧
      (s.io.linkUp = true → (getIo t i).edges = (getIo s i).far.edges + 1 ∧ (getIo t i).tachFreq = f) ∧
      (s.io.linkUp = false → (getIo t i).edges = (getIo s i).edges ∧ (getIo t i).tachFreq = (getIo s i).tachFreq) ∧
      OthersKept getIo s t i) ∧
  (∀ (s : State) (i : Nat) (current : Int), i < 32 → (getIo s i).on = true → (getGroup s (ioGroupOf i)).lost = false →
    let lim := roundDiv (ioLimit s i * 65536) 10
    ∃ t, exec (.ioCurrentLimit i current) s = .next t ∧ (getIo t i).outCurrent = min current lim ∧
      (Flag.get (getIo t i).status ioInLimit = true ↔ lim ≤ current) ∧ OthersKept getIo s t i) ∧
  (∀ (s : State) (i : Nat), i < 32 → (getIo s i).on = true → isRelevant s (256 + i) = false → isSafe s (256 + i) = false →
    (getIo s i).lastCmdOff = false →
    ∃ t, exec (.ioThermalShutdown i) s = .next t ∧ (getIo t i).on = false ∧ (getIo t i).applied = 0 ∧
      Flag.get (getIo t i).status ioThermalOff = true ∧
      ((getGroup s (ioGroupOf i)).lost = false → 7 ≤ (recent s (secs 60) (getIo s i).thermTimes).length →
        Flag.get (getIo t i).status ioOverloadLatched = true) ∧ OthersKept getIo s t i) ∧
  (∀ (s : State) (i : Nat), i < 32 → Flag.get (getIo s i).status ioThermalOff = true →
    ∃ t, exec (.ioThermalRestart i) s = .next t ∧ Flag.get (getIo t i).status ioThermalOff = false ∧ OthersKept getIo s t i)

/-- GROUP_SHED and GROUP_REINSTATE (R198): a group above 3 A sheds its channel of the highest current that is not
safety-relevant; after 1 s below 2.7 A the lowest-numbered shed channel comes back, one every 100 ms. IO_OUTPUT_DIAG,
SUPPLY_LOST, SUPPLY_RETURN and IO_MODE_CHANGE_END (R199, R205, R206): the informing diagnostics, the supply of a group, and the
new mode of a pin after its high impedance. Completes: GROUP_SHED, GROUP_REINSTATE, IO_OUTPUT_DIAG, SUPPLY_LOST, SUPPLY_RETURN,
IO_MODE_CHANGE_END. It rests on choices of the model: log entries 6 and 65. -/
def Obligations.GroupsAndSupplies : Prop :=
  (∀ (s : State) (g : Nat) (l : List Int), g < 4 → released s = true → (getGroup s g).lost = false → (getGroup s g).shedAt = none →
    3 * 65536 < l.foldl (· + ·) 0 → (∃ j < 8, (getIo s (8 * g + j)).on = true ∧ isRelevant s (256 + (8 * g + j)) = false) →
    ∃ (t : State) (j : Nat), exec (.groupShed g l) s = .next t ∧ j < 8 ∧ (getIo s (8 * g + j)).on = true ∧
      isRelevant s (256 + (8 * g + j)) = false ∧
      (∀ k < 8, (getIo s (8 * g + k)).on = true → isRelevant s (256 + (8 * g + k)) = false → nth 0 l k ≤ nth 0 l j) ∧
      Flag.get (getIo t (8 * g + j)).status ioShed = true ∧ (getGroup t g).sheds = (getGroup s g).sheds + 1 ∧
      (getGroup t g).shedAt = some s.clk) ∧
  (∀ (s : State) (g i u : Nat), g < 4 → (getGroup s g).lowSince = some u → after u (secs 1) ≤ s.clk →
    (getGroup s g).nextReinstate ≤ s.clk → 8 * g ≤ i → i < 8 * g + 8 →
    let back := fun i => Flag.get (getIo s i).status ioShed && !Flag.get (getIo s i).status ioShedLatched && !(getIo s i).lastCmdOff
    back i = true → (∀ j, 8 * g ≤ j → j < i → back j = false) →
    ∃ t, exec (.groupReinstate g) s = .next t ∧ Flag.get (getIo t i).status ioShed = false ∧
      (getGroup t g).nextReinstate = after s.clk (msecs 100) ∧ OthersKept getIo s t i) ∧
  (∀ (s : State) (i : Nat), i < 32 → isOutMode (getIo s i).mode = true → pinsLive s = true → (getIo s i).on = true →
    ∃ t, exec (.ioOutputDiag i .openLoad true) s = .next t ∧ Flag.get (getIo t i).status ioOpenLoad = true ∧
      (getIo t i).on = true ∧ OthersKept getIo s t i) ∧
  (∀ (s : State) (i : Nat), i < 32 → isOutMode (getIo s i).mode = true → pinsLive s = true → (getIo s i).on = false →
    isStandby s = false →
    ∃ t, exec (.ioOutputDiag i .shortLplus true) s = .next t ∧ Flag.get (getIo t i).status ioShortLplus = true ∧
      (getIo t i).on = false ∧ OthersKept getIo s t i) ∧
  (∀ (s : State) (g : Nat), g < 4 → supplyWatched s = true → (getGroup s g).lost = false →
    ∃ t, exec (.supplyLost g) s = .next t ∧ (getGroup t g).lost = true ∧ (∀ j < 8, (getIo t (8 * g + j)).outCurrent = 0) ∧
      (∀ j < 8, isOutMode (getIo s (8 * g + j)).mode = true → Flag.get (getIo t (8 * g + j)).status ioSupplyLost = true) ∧
      (s.snap.queue.length < 64 → ∃ r, t.snap.queue = s.snap.queue ++ [r] ∧ r.type = 0x0601 ∧ r.payload = bytes1 [g, 0])) ∧
  (∀ (s : State) (g : Nat), g < 4 → supplyWatched s = true → (getGroup s g).lost = true →
    ∃ t, exec (.supplyReturn g) s = .next t ∧ (getGroup t g).lost = false ∧
      (∀ j < 8, Flag.get (getIo t (8 * g + j)).status ioSupplyLost = false) ∧
      (s.snap.queue.length < 64 → ∃ r, t.snap.queue = s.snap.queue ++ [r] ∧ r.type = 0x0601 ∧ r.payload = bytes1 [g, 1])) ∧
  (∀ (s : State) (i u : Nat), i < 32 → (getIo s i).hizUntil = some u → u ≤ s.clk →
    ∃ t, exec (.ioModeChangeEnd i) s = .next t ∧ (getIo t i).mode = Cfg.ioIoMode s i ∧ (getIo t i).hizUntil = none ∧
      (Cfg.ioIoMode s i = 1 → (getIo t i).hiZ = true) ∧ OthersKept getIo s t i)

/-- BARRIER_FRAME, BARRIER_LINK_DOWN and FWD_REFRESH (R201, R203): the tenth valid frame in a row brings the link up; without
one for 3 ms it is down, the inputs are STALE and the module fails; refreshes reach the F-die while the link is up. FWD_TRIP and
BARRIER_SUPPLY_LOSS (R202): the F-die is TRIPPED and every output is off with WD_OFF. Completes: BARRIER_FRAME,
BARRIER_LINK_DOWN, FWD_REFRESH, FWD_TRIP, BARRIER_SUPPLY_LOSS. It rests on choices of the model: log entries 6 and 64. -/
def Obligations.TheBarrierLinkAndTheFieldWatchdog : Prop :=
  (∀ (s : State) (power : Nat), s.power.phase ≠ .reset →
    (∃ t, exec (.barrierFrame false power) s = .next t ∧ t.io.linkErrors = s.io.linkErrors + 1 ∧ t.io.validRun = 0 ∧
      t.io.linkUp = s.io.linkUp) ∧
    (∃ t, exec (.barrierFrame true power) s = .next t ∧ t.io.validRun = s.io.validRun + 1 ∧ t.io.lastValid = s.clk ∧
      t.io.power = power ∧ (t.io.linkUp = true ↔ s.io.linkUp = true ∨ 9 ≤ s.io.validRun) ∧
      (s.io.linkUp = false → 9 ≤ s.io.validRun → ∀ i < 32, Flag.get (getIo t i).status ioStale = false))) ∧
  (∀ s : State, s.io.linkUp = true → after s.io.lastValid (msecs 3) ≤ s.clk →
    ∃ t, exec .barrierLinkDown s = .next t ∧ t.io.linkUp = false ∧ t.io.validRun = 0 ∧ t.safety.st = 3 ∧
      Flag.get t.safety.failures sfBarrier = true) ∧
  (∀ s : State, s.io.linkUp = false → linkUndeclared s = true →
    ∃ t, exec .barrierLinkDown s = .next t ∧ t.io.linkUp = false ∧ t.safety.st = 3 ∧
      Flag.get t.safety.failures sfBarrier = true) ∧
  (∀ s : State, s.io.linkUp = true → s.clk < after s.io.lastValid (usecs 20) → s.safety.watchdogBad = false → s.power.phase ≠ .reset →
    s.power.phase ≠ .dieHold → s.power.phase ≠ .done →
    ∃ t, exec .fwdRefresh s = .next t ∧ t.io.lastRefresh = s.clk ∧ t.io.fwd = s.io.fwd ∧
      (after s.io.lastRefresh (msecs (Cfg.fwdFwdTime s)) ≤ s.clk → t.io.refreshSince = some s.clk)) ∧
  (∀ (s : State) (c : Instr), s.io.fwd = 1 →
     c = .barrierSupplyLoss ∨ (c = .fwdTrip ∧ after s.io.lastRefresh (msecs (Cfg.fwdFwdTime s)) ≤ s.clk) →
     ∃ t, exec c s = .next t ∧ t.io.fwd = 2 ∧ t.io.fwdTrips = s.io.fwdTrips + 1 ∧ t.io.refreshSince = none ∧
       ∀ i < 32, isOutMode (getIo s i).mode = true →
         Flag.get (getIo t i).status ioWdOff = true ∧ (getIo t i).on = false ∧ (getIo t i).applied = 0)

/-! ### Fans (09_fan_drive) -/

/-- LISTEN_END, ZERO_VECTOR_END, ALIGN_END and OBSERVER_LOCK (R212): the start sequence from LISTEN to RUN. START_ATTEMPT_FAIL,
PAUSE_END and BLOCKED_REST_END (R213): a failed attempt pauses, then retries with more current capped at the applied limit;
after the third retry the fan is FAN_BLOCKED and listens again after 60 s. Completes: LISTEN_END, ZERO_VECTOR_END, ALIGN_END,
OBSERVER_LOCK, START_ATTEMPT_FAIL, PAUSE_END, BLOCKED_REST_END. It rests on choices of the model: log entry 6. -/
def Obligations.FanStartSequence : Prop :=
  (∀ (s : State) (k : Nat), k < 4 → let c := getFan s k
     (∀ (locked forward : Bool) (v : Int), c.st = 1 → c.zeroVec = false →
       ∃ t, exec (.listenEnd k locked forward v) s = .next t ∧ OthersKept getFan s t k ∧
         (locked = true → forward = true → 655360 < v → (getFan t k).st = 4 ∧ (getFan t k).fine = v * fineUnit) ∧
         (locked = true → forward = false → after c.stepClk (msecs 100) ≤ s.clk →
           (getFan t k).st = 1 ∧ (getFan t k).zeroVec = true) ∧
         (locked = false → after c.stepClk (msecs 100) ≤ s.clk → (getFan t k).st = 2 ∧ (getFan t k).stepClk = s.clk)) ∧
     (c.st = 1 → c.zeroVec = true →
       ∃ t, exec (.zeroVectorEnd k) s = .next t ∧ (getFan t k).st = 2 ∧ (getFan t k).zeroVec = false ∧ OthersKept getFan s t k) ∧
     (c.st = 2 → after c.stepClk (msecs 200) ≤ s.clk →
       ∃ t, exec (.alignEnd k) s = .next t ∧ (getFan t k).st = 3 ∧ (getFan t k).stepClk = s.clk ∧ OthersKept getFan s t k) ∧
     (c.st = 3 → after c.stepClk (msecs (Cfg.dfanOlRampTime s k)) ≤ s.clk →
       ∃ t, exec (.observerLock k) s = .next t ∧ (getFan t k).st = 4 ∧ (getFan t k).fine = fine10 ∧ (getFan t k).retry = 0 ∧
         Flag.get (getFan t k).flags fanBlocked = false)) ∧
  (∀ (s : State) (k : Nat), k < 4 → let c := getFan s k
     (c.st = 3 → c.locked = false → after c.stepClk (secs 2) ≤ s.clk → c.retry < 3 →
       ∃ t, exec (.startAttemptFail k) s = .next t ∧ (getFan t k).st = 5 ∧ (getFan t k).bridgeOn = false ∧ OthersKept getFan s t k) ∧
     (c.st = 3 → c.locked = false → after c.stepClk (secs 2) ≤ s.clk → 3 ≤ c.retry →
       ∃ t, exec (.startAttemptFail k) s = .next t ∧ (getFan t k).st = 6 ∧ (getFan t k).bridgeOn = false ∧
         Flag.get (getFan t k).flags fanBlocked = true) ∧
     (c.st = 5 → after c.stepClk (msecs 500) ≤ s.clk →
       ∃ t, exec (.pauseEnd k) s = .next t ∧ (getFan t k).st = 2 ∧ (getFan t k).retry = c.retry + 1 ∧
         (getFan t k).attempts = c.attempts + 1 ∧ (getFan t k).iStart ≤ fanLimit s k ∧ OthersKept getFan s t k) ∧
     (c.st = 6 → after c.stepClk (secs 60) ≤ s.clk →
       ∃ t, exec (.blockedRestEnd k) s = .next t ∧ (getFan t k).st = 1 ∧ (getFan t k).retry = 0 ∧ OthersKept getFan s t k))

/-- PHASE_TRIP, LOCK_LOST and FAN_RESTART (R211, R214): the bridge turns off, the third trip within 60 s latches it, and a fan
that is wanted starts again after 1 s. Completes: PHASE_TRIP, LOCK_LOST, FAN_RESTART. It rests on choices of the model: log
entry 6. -/
def Obligations.FanTripsAndRestarts : Prop :=
  ∀ (s : State) (k : Nat), k < 4 → let c := getFan s k
    (c.bridgeOn = true → isRelevant s (304 + k) = false →
      ∃ t, exec (.phaseTrip k) s = .next t ∧ (getFan t k).bridgeOn = false ∧ (getFan t k).fine = 0 ∧
        (2 ≤ (recent s (secs 60) c.trips).length →
          (getFan t k).st = 7 ∧ Flag.get (getFan t k).flags fanOcLatched = true ∧ Flag.get (getFan t k).flags fanFailed = true) ∧
        ((recent s (secs 60) c.trips).length < 2 → (getFan t k).st = 0 ∧ (getFan t k).restartAt = some (after s.clk (secs 1)))) ∧
    (c.st = 4 →
      ∃ t, exec (.lockLost k) s = .next t ∧ (getFan t k).st = 0 ∧ (getFan t k).bridgeOn = false ∧
        Flag.get (getFan t k).flags fanLockLost = true ∧ (getFan t k).restartAt = some (after s.clk (secs 1)) ∧ OthersKept getFan s t k) ∧
    (∀ u, c.restartAt = some u → u ≤ s.clk → c.st = 0 →
      let w := fanWanted (fanFetch s k).2 k (fanFetch s k).1
      ∃ t, exec (.fanRestart k) s = .next t ∧ (getFan t k).restartAt = none ∧
        (0 < w → (getFan t k).st = 1 ∧ (getFan t k).attempts = c.attempts + 1) ∧
        (w ≤ 0 → (getFan t k).st = 0) ∧ OthersKept getFan s t k)

/-- SPEED_EVALUATION, TABLE_READ and EC_TACH_LOSS (R215–R217, R220): the measured speed becomes a result of the fan, an EC fan
at rest has duty 0, the table gives a speed from a valid temperature, and a lost tach is a wire or a failed fan by its current.
PWM_PERIOD_START and PWM_CENTRE (R141, R210): what reached the shadow before this clock passes to the bridge, and each event
triggers the entries that name it. Completes: SPEED_EVALUATION, TABLE_READ, EC_TACH_LOSS, PWM_PERIOD_START, PWM_CENTRE. It rests
on choices of the model: log entries 6, 44 and 96. -/
def Obligations.FanSpeedsAndPwm : Prop :=
  (∀ (s : State) (f : Nat) (m : Int), f < 4 → released s = true → SyncUnit.fan f ∉ s.dict.waiting →
    ∃ t, exec (.speedEvaluation f m) s = .next t ∧ (getFan t f).speed = m ∧ (getFan t f).lastEval = s.clk ∧
      (getRec t (0x808 + f)).value = m ∧ (getRec t (0x808 + f)).present = true ∧
      (getRec t (0x808 + f)).seq = ((getRec s (0x808 + f)).seq + 1) % 256) ∧
  (∀ (s : State) (e : Nat) (m : Int), e < 8 → released s = true → SyncUnit.fan (4 + e) ∉ s.dict.waiting →
    ∃ t, exec (.speedEvaluation (4 + e) m) s = .next t ∧ (getFan t (4 + e)).lastEval = s.clk ∧
      (getFan t (4 + e)).speed = ecSpeed s e ∧
      ((getFan t (4 + e)).fine ≤ 0 → (getFan t (4 + e)).st = 0 ∧ (getFan t (4 + e)).duty = 0) ∧
      (0 < (getFan t (4 + e)).fine → (getFan t (4 + e)).st = 4)) ∧
  (∀ (s : State) (f : Nat), f < 12 → (getFan s f).table = true → after (getFan s f).tableAt (secs 1) ≤ s.clk →
    ∃ t, exec (.tableRead f) s = .next t ∧ (getFan t f).tableAt = s.clk ∧
      let r := getRec s (Cfg.fanTempSrc s f - 308)
      let ok := 308 ≤ Cfg.fanTempSrc s f ∧ Cfg.fanTempSrc s f ≤ 331 ∧ recValid r
      (ok → (getFan t f).tableSpeed = tableGo r.value ((upTo 8).map (tablePt s f)) ∧
        Flag.get (getFan t f).flags fanTempSrcFault = false) ∧
      (¬ ok → (getFan t f).tableSpeed = roundDiv ((tablePt s f 7).2 * 65536) 10 ∧
        Flag.get (getFan t f).flags fanTempSrcFault = true)) ∧
  (∀ (s : State) (e : Nat) (mean : Int), e < 8 → released s = true → 256 ≤ Cfg.ecTachIo s e → Cfg.ecTachIo s e < 288 →
    0 < (getFan s (4 + e)).fine → after (getFan s (4 + e)).roseAt (secs (Cfg.ecSpinupTime s e)) ≤ s.clk →
    after (getIo s (Cfg.ecTachIo s e - 256)).lastEdge (ecPeriods s e 2) ≤ s.clk →
    Flag.get (getFan s (4 + e)).flags fanTachWire = false → Flag.get (getFan s (4 + e)).flags fanFailed = false →
    let runs := Cfg.ecSupplySrc s e ≠ 0xFFFF ∧ Cfg.ecSupMin s e ≤ supplyMean s e mean ∧ supplyMean s e mean ≤ Cfg.ecSupMax s e
    ∃ t, exec (.ecTachLoss e mean) s = .next t ∧
      (runs → Flag.get (getFan t (4 + e)).flags fanTachWire = true ∧ Alarm.tachWire (4 + e) ∈ t.alarms) ∧
      (¬ runs → Flag.get (getFan t (4 + e)).flags fanFailed = true ∧ t.alarms = s.alarms)) ∧
  (∀ (s : State) (k : Nat), k < 4 → isUp s = true →
     (∃ t, exec (.pwmPeriodStart k) s = .next t ∧
       (getFan t k).bridge = (if (getFan s k).shadowAt = s.clk then (getFan s k).shadowOld else (getFan s k).shadow) ∧ OthersKept getFan s t k ∧
       ∀ e < 32, (getTrig t e).count = (getTrig s e).count + (if Cfg.trigSource s e = 0x14 + k then 1 else 0)) ∧
     (∃ t, exec (.pwmCentre k) s = .next t ∧ t.fans = s.fans ∧
       ∀ e < 32, (getTrig t e).count = (getTrig s e).count + (if Cfg.trigSource s e = 0x10 + k then 1 else 0)))

/-! ### Display (10_segment_display) -/

/-- FRAME_START, ROW_SLOT and VLCD_FAULT (R226–R228): a frame takes the pending image over and is the next of the superframe of
three; row slots follow one another; VLCD outside ±5 % sets its flag. UPDATE_ROUND_START and UPDATE_ROUND_END (R231–R233, R236):
10 ms after the first difference a round drives each segment that differs from its level to the new one; its end records ledgers
and image. DISPLAY_BAND_EVAL and DISP_MODE_SWITCH_END (R234, R238): the band of the mean temperature of the L-die, with 3 K of
hysteresis; 20 ms after a COMMIT of DISP_MODE the new mode starts. Completes: FRAME_START, ROW_SLOT, VLCD_FAULT,
UPDATE_ROUND_START, UPDATE_ROUND_END, DISPLAY_BAND_EVAL, DISP_MODE_SWITCH_END. It rests on choices of the model: log entry 6. -/
def Obligations.TheDisplay : Prop :=
  (∀ s : State, s.disp.mode = 1 → s.disp.st = 1 → s.disp.frameClk + frameLen s ≤ s.clk →
    ∃ t, exec .frameStart s = .next t ∧ t.disp.frame = (s.disp.frame + 1) % 3 ∧ t.disp.slot = 0 ∧
      t.disp.frameClk = s.disp.frameClk + frameLen s ∧ t.disp.shown = s.disp.pending ∧ t.disp.pending = s.disp.pending ∧
      t.disp.dirtySince = none ∧ t.disp.bandInUse = s.disp.band ∧ t.disp.ledger = s.disp.ledger) ∧
  (∀ s : State, s.disp.mode = 1 → s.disp.st = 1 → s.disp.slot + 1 < 2 * Cfg.dispComCount s → slotStart s (s.disp.slot + 1) ≤ s.clk →
    ∃ t, exec .rowSlot s = .next t ∧ t.disp.slot = s.disp.slot + 1 ∧ t.disp.shown = s.disp.shown ∧ t.disp.latched = s.disp.latched) ∧
  (∀ (s : State) (mv : Nat), s.disp.mode = 1 → s.disp.st = 1 → vlcdSet s < 20 * ((mv : Int) - vlcdSet s).natAbs →
    ∃ t, exec (.vlcdFault mv) s = .next t ∧ Flag.get t.disp.flags dfVlcdFault = true ∧ t.disp.vlcd = mv ∧
      t.disp.shown = s.disp.shown) ∧
  (∀ (s : State) (u : Nat), s.disp.dirtySince = some u → s.disp.mode = 2 → s.disp.st = 1 → after u (msecs 10) ≤ s.clk →
    SyncUnit.display ∉ s.dict.waiting →
    ∃ (t : State) (r : Round), exec .updateRoundStart s = .next t ∧ t.disp.st = 2 ∧ t.disp.rounds = s.disp.rounds + 1 ∧
      t.disp.shown = s.disp.pending ∧ t.disp.dirtySince = none ∧ t.disp.round = some r ∧ r.start = s.clk ∧ r.replay = false ∧
      (∀ w ∈ r.waves, w.seg < Cfg.dispSegCount s ∧ w.a = levelOf s.disp.shown 0 w.seg ∧ w.b = levelOf s.disp.pending 0 w.seg) ∧
      (∀ g < Cfg.dispSegCount s, levelOf s.disp.shown 0 g ≠ levelOf s.disp.pending 0 g → ∃ w ∈ r.waves, w.seg = g) ∧
      t.disp.ledger = s.disp.ledger) ∧
  (∀ (s : State) (r : Round), s.disp.round = some r → r.start + r.length ≤ s.clk →
    ∃ t, exec .updateRoundEnd s = .next t ∧ t.disp.round = none ∧ t.disp.st = 1 ∧ t.disp.shown = s.disp.shown ∧
      t.mram.disp.ledger = t.disp.ledger ∧ t.mram.disp.shown = s.disp.shown ∧ t.mram.disp.interrupted = [] ∧
      (∀ g, (∀ w ∈ r.waves, w.seg ≠ g) → ledgerOf t g = ledgerOf s g) ∧
      (∀ w, r.waves = [w] → w.settled = false →
        ledgerOf t w.seg = clampInt (-32767) 32767 (ledgerOf s w.seg + waveSum (waveLen w) w.pulses)) ∧
      (∀ w, r.waves = [w] → w.settled = true → ledgerOf t w.seg = ledgerOf s w.seg)) ∧
  (∀ s : State, isUp s = true → s.disp.nextBand ≤ s.clk → Cfg.dispTempSrc s < 308 ∨ 331 < Cfg.dispTempSrc s → s.disp.band ≤ 3 →
    ∃ t, exec .displayBandEval s = .next t ∧ t.disp.nextBand = after s.clk (secs 1) ∧ t.disp.band ≤ 3 ∧
      (t.disp.band < 3 → lDieMean s < dbandEdge s (t.disp.band + 1)) ∧
      (0 < t.disp.band → dbandEdge s t.disp.band - q16 3 ≤ lDieMean s) ∧
      Flag.get t.disp.flags dfTempSrcFault = false ∧ t.disp.shown = s.disp.shown) ∧
  (∀ (s : State) (u : Nat), s.disp.switchUntil = some u → u ≤ s.clk → SyncUnit.display ∉ s.dict.waiting →
    ∃ t, exec .dispModeSwitchEnd s = .next t ∧ t.disp.mode = Cfg.dispDispMode s ∧ t.disp.switchUntil = none ∧ t.disp.hiZ = false ∧
      (Cfg.dispDispMode s = 0 → t.disp.st = 0) ∧
      (Cfg.dispDispMode s ≠ 0 → s.therm.dState ≠ 0 → t.disp.st = 3) ∧
      (Cfg.dispDispMode s = 1 → s.therm.dState = 0 → t.disp.st = 1 ∧ t.disp.frame = 0))

/-! ### Memory (15_memory_and_repair) -/

/-- The SRAM returns what was last written, byte by byte, and a write changes no other byte and keeps the canonical form (R337).
HEDDLE_REWRITE (R342, R352, R354): a poisoned entry holds again what the committed configuration gives it, no other byte changes,
and the caches keep what they hold.
SCRUB_READ (R340, R341, R343): the pass moves on line by line and counts when it ends; a correctable line waits for its
write-back, one with more errors than the code corrects is poisoned. CORRECTED_WRITEBACK, SPARE_MOVE_COMPLETE and
INVALIDATION_COMPLETE (R341, R347, R355): a corrected line is counted and waits no longer; the moves end and the map is written;
the invalidated entries leave every cache. Completes: HEDDLE_REWRITE, SCRUB_READ, CORRECTED_WRITEBACK, SPARE_MOVE_COMPLETE,
INVALIDATION_COMPLETE. It rests on choices of the model: log entries 4, 84, 85 and 86. -/
def Obligations.TheMemory : Prop :=
  (∀ (s : State) (a : Nat) (l : List Byte),
     sramRead (sramWrite s a l) a l.length = l ∧
     (∀ b, b < a ∨ a + l.length ≤ b → sramByte (sramWrite s a l) b = sramByte s b) ∧
     (SramCanonical s → SramCanonical (sramWrite s a l))) ∧
  (∀ (s : State) (e : Nat), e ∈ s.mem.heddleBad →
     ∃ t, exec (.heddleRewrite e) s = .next t ∧ sramRead t (e * 64) 64 = heddleBytes s e ∧ e ∉ t.mem.heddleBad ∧
       e * 64 ∉ t.mem.poisonS ∧ e * 64 + 32 ∉ t.mem.poisonS ∧
       (∀ a, a < e * 64 ∨ e * 64 + 64 ≤ a → sramByte t a = sramByte s a) ∧
       t.mem.caches = s.mem.caches) ∧
  (∀ s : State, s.mem.scrubbing = true →
    ∃ t, exec (.scrubRead []) s = .next t ∧ t.mem.sram = s.mem.sram ∧
      (s.mem.scrubPos + 32 < 0x1000000 → t.mem.scrubPos = s.mem.scrubPos + 32 ∧ t.mem.passes = s.mem.passes) ∧
      (0x1000000 ≤ s.mem.scrubPos + 32 → t.mem.scrubPos = 0 ∧ t.mem.passes = s.mem.passes + 1 ∧
        t.mem.lastPass = (s.clk - s.mem.passStart) / clkPerMs ∧ t.mem.passStart = s.clk)) ∧
  (∀ (s : State) (c : Nat), s.mem.scrubbing = true → c < 36 → s.mem.scrubPos < 0x800000 →
    erasedNow s 0 (lineBank s.mem.scrubPos) = [] →
    ∃ t, exec (.scrubRead [c]) s = .next t ∧ t.mem.writebacks = s.mem.writebacks ++ [⟨.sram, s.mem.scrubPos, c⟩] ∧
      t.mem.poisonS = s.mem.poisonS ∧ t.mem.sramUncorrectable = s.mem.sramUncorrectable) ∧
  (∀ (s : State) (a b c k : Nat), s.mem.scrubbing = true → a < 36 → b < 36 → c < 36 → a ≠ b → a ≠ c → b ≠ c →
    s.mem.scrubPos < 0x5500 → erasedNow s 0 (lineBank s.mem.scrubPos) = [] → s.mem.scrubPos ∉ s.mem.poisonS →
    rowRepaired s 0 (lineBank s.mem.scrubPos) (lineRow s.mem.scrubPos) = false →
    freeSpare s.mem.map.rows 0 (lineBank s.mem.scrubPos) 16 = some k →
    ∃ t, exec (.scrubRead [a, b, c]) s = .next t ∧ s.mem.scrubPos ∈ t.mem.poisonS ∧
      t.mem.sramUncorrectable = s.mem.sramUncorrectable + 1 ∧ s.mem.scrubPos / 64 ∈ t.mem.heddleBad ∧
      (0, lineBank s.mem.scrubPos, lineRow s.mem.scrubPos, k) ∈ t.mem.map.rows) ∧
  (∀ (s : State) (off : Nat), s.mem.prevHits = [] → s.mem.hits.length < 3 →
    ∃ t, exec (.correctedWriteback .sram off) s = .next t ∧ t.mem.sramCorrected = s.mem.sramCorrected + 1 ∧
      t.mem.mramCorrected = s.mem.mramCorrected ∧
      ∀ h, h ∈ t.mem.writebacks ↔ h ∈ s.mem.writebacks ∧ ¬ (h.mem = .sram ∧ h.line = lineOf off)) ∧
  (∀ s : State, (∃ m ∈ s.mem.map.moving, m ∈ s.mem.filled) →
    let left := s.mem.map.moving.filter fun m => !s.mem.filled.contains m
    ∃ t, exec .spareMoveComplete s = .next t ∧ t.mem.map.moving = left ∧ Flag.get t.mem.flags memMove = !left.isEmpty ∧
      t.mem.repairGen = s.mem.repairGen + 1 ∧ t.mram.maps = List.replicate 3 ⟨t.mem.repairGen, true, t.mem.map, s.mram.ledger⟩) ∧
  (∀ s : State, s.mem.invState = 1 →
    ∃ t, exec .invalidationComplete s = .next t ∧ t.mem.invState = 2 ∧ t.mem.sram = s.mem.sram ∧
      ∀ c ∈ t.mem.caches, ∀ p ∈ c, p.1 < s.mem.invFirst ∨ s.mem.invFirst + s.mem.invCount ≤ p.1)

/-! ### Thermal management and functional safety (16_thermal, 17_functional_safety) -/

/-- READBACK_CHECK (R375): each safety-relevant output is compared every 1 ms; an agreement ends the run of disagreements, and
the fourth of a run fails the channel, which takes its safe state. A failure of the module, and CLOCK_FAILURE (R38, R378, R382):
every output is held at its safe state, and SAFE_A, SAFE_B and FAULT_N are low. A clock failure is one, and so in LOCKED is a
cycle outside what 45 to 65 Hz allows that was not realigned; any other cycle is none. Completes: READBACK_CHECK, CLOCK_FAILURE. It
rests on choices of the model: log entries 28 and 88. -/
def Obligations.ReadbackAndModuleFailures : Prop :=
  (∀ (s : State) (h : Nat), released s = true → s.safety.nextCheck ≤ s.clk → h ∈ outEntries → isRelevant s h = true →
     let r := getSafe s (safeChan h)
     (∃ t, exec (.readbackCheck []) s = .next t ∧ t.safety.nextCheck = after s.clk (msecs 1) ∧ t.safety.st = s.safety.st ∧
       (getSafe t (safeChan h)).badRun = 0 ∧ (getSafe t (safeChan h)).okRun = min 100 (r.okRun + 1)) ∧
     (∀ x, readbackAgrees s h x = false → r.badRun < 3 → ∃ t, exec (.readbackCheck [(h, x)]) s = .next t ∧ t.safety.st = s.safety.st ∧
       (getSafe t (safeChan h)).badRun = r.badRun + 1 ∧ (getSafe t (safeChan h)).okRun = 0 ∧
       (getSafe t (safeChan h)).active = r.active) ∧
     (∀ x, readbackAgrees s h x = false → r.badRun = 3 → s.safety.st = 1 → ∃ t, exec (.readbackCheck [(h, x)]) s = .next t ∧ t.safety.st = 2 ∧
       Flag.get t.safety.failures sfOutput = true ∧ (getSafe t (safeChan h)).active = true ∧
       Flag.get (getSafe t (safeChan h)).causes sfOutput = true)) ∧
  (∀ (s : State) (bit : Nat), s.safety.st ≠ 3 → bit < 16 → let t := failModule s bit
    t.safety.st = 3 ∧ t.safety.safeA = false ∧ t.safety.safeB = false ∧ t.safety.faultN = false ∧ t.safety.stopAt = s.clk ∧
      Flag.get t.safety.failures bit = true ∧ ∀ h ∈ outEntries, isSafe t h = true) ∧
  (∀ (s : State) (c : ClockFail), c ≠ .cycleRange → s.safety.st ≠ 3 →
    ∃ t, exec (.clockFailure c) s = .next t ∧ t.safety.st = 3 ∧ Flag.get t.safety.failures sfClock = true ∧ t.warp = s.warp) ∧
  (∀ s : State, s.warp.ws = .locked → s.warp.wasRealigned = false → periodOk s.warp.cycleClocks = false → s.safety.st ≠ 3 →
    ∃ t, exec (.clockFailure .cycleRange) s = .next t ∧ t.safety.st = 3 ∧ Flag.get t.safety.failures sfClock = true) ∧
  (∀ s : State, s.warp.ws ≠ .locked ∨ s.warp.wasRealigned = true ∨ periodOk s.warp.cycleClocks = true →
    exec (.clockFailure .cycleRange) s = .next s)

/-- THERMAL_EVALUATION and DIE_RESTART (R359, R364–R366): a round leaves each domain at a step of 0 to 3; a die above its limit
is shut down, 165 °C on the D-die and 150 °C on the L-die; a D-die that has cooled runs again. CHECKPOINT and WATCHDOG_EXPIRY
(R377): a core that passes its sequence in order counts in the window; a window all four cores passed is followed by the next;
one out of order, or a window not passed, is an expiry and a failure of the module. SAFE_TOGGLE and AUTO_RESTART (R380, R381):
SAFE_A changes every 500 µs with SAFE_B its complement; 1 s after SAFE_STOP the module restarts, at most three times in 24 h.
Completes: THERMAL_EVALUATION, DIE_RESTART, CHECKPOINT, WATCHDOG_EXPIRY, SAFE_TOGGLE, AUTO_RESTART. It rests on choices of the
model: log entries 6, 97 and 28. -/
def Obligations.ThermalRoundsAndSupervisorTimers : Prop :=
  (∀ s : State, s.therm.roundDone = true →
    ∃ t, exec .thermalEvaluation s = .next t ∧ t.therm.roundDone = false ∧ (∀ d < 8, domainStep t d ≤ 3) ∧
      (∀ i, 4 ≤ i → i < 10 → 165 * 65536 ≤ (getSensor t i).cmp → t.therm.dState ≠ 0) ∧
      (∀ i < 4, 150 * 65536 ≤ (getSensor t i).cmp → t.power.phase = .dieHold)) ∧
  (∀ s : State, s.therm.dState = 1 → dieCool s 1 = true →
    ∃ t, exec (.dieRestart 1) s = .next t ∧ t.therm.dState = 0 ∧
      t.therm.dRestarts = recent s (secs 3600) s.therm.dRestarts ++ [s.clk]) ∧
  (∀ s : State, s.power.phase = .dieHold → dieCool s 0 = true →
    ∃ t, exec (.dieRestart 0) s = .next t ∧ t.power.phase = .reset ∧ t.power.nextCause = 8) ∧
  (∀ s : State, s.safety.st ≠ 0 → s.safety.watchdogBad = false →
     (∀ core < 4, core ∉ s.safety.coresDone → windowOver s = false →
       ∃ t, exec (.checkpoint core true true) s = .next t ∧ t.safety.coresDone = s.safety.coresDone ++ [core] ∧
         t.safety.st = s.safety.st) ∧
     (∀ core < 4, ∀ last, ∃ t, exec (.checkpoint core false last) s = .next t ∧ t.safety.watchdogBad = true ∧ t.safety.st = 3 ∧
       Flag.get t.safety.failures sfWatchdog = true) ∧
     (windowOver s = true → coresPassed s = true →
       ∃ t, exec .watchdogExpiry s = .next t ∧ t.safety.windowAt = after s.safety.windowAt (msecs 10) ∧ t.safety.coresDone = [] ∧
         t.safety.st = s.safety.st) ∧
     (windowOver s = true → coresPassed s = false →
       ∃ t, exec .watchdogExpiry s = .next t ∧ t.safety.watchdogBad = true ∧ t.safety.st = 3 ∧
         Flag.get t.safety.failures sfWatchdog = true)) ∧
  (∀ s : State, safeToggles s = true → s.safety.nextToggle ≤ s.clk →
    ∃ t, exec .safeToggle s = .next t ∧ t.safety.safeA = !s.safety.safeA ∧ t.safety.safeB = s.safety.safeA ∧
      t.safety.nextToggle = after s.safety.nextToggle (usecs 500) ∧ t.safety.st = s.safety.st) ∧
  (∀ s : State, s.safety.st = 3 → Cfg.safetyAutoRestart s = true → after s.safety.stopAt (secs 1) ≤ s.clk →
    (recent s (secs 86400) s.safety.autoTimes).length < 3 → isUp s = true →
    ∃ t, exec .autoRestart s = .next t ∧ t.power.phase = .reset ∧ t.power.nextCause = 7)

/-! ### Selvedge and the pair (14_selvedge_pair) -/

/-- ALIVE_TIMER, SELVEDGE_LANE_DOWN, SELVEDGE_LINK_DOWN and ALIVE (R317): frames every 50 µs on both lanes; a lane without a
valid frame for 200 µs is down, the link after 1 ms on both; the fourth valid frame in a row brings a lane up. SEL_ROLE_TOGGLE,
SEL_PEER_EDGE and SEL_PEER_IDLE (R318): the role line toggles every 5 µs; four edges with no gap above 20 µs read as
PEER_ACTIVE, 100 µs without an edge as PEER_IDLE. Completes: ALIVE_TIMER, SELVEDGE_LANE_DOWN, SELVEDGE_LINK_DOWN, ALIVE,
SEL_ROLE_TOGGLE, SEL_PEER_EDGE, SEL_PEER_IDLE. It rests on choices of the model: log entry 6. -/
def Obligations.LanesAndRoleLines : Prop :=
  (∀ s : State, pairOn s = true → s.pair.nextAlive ≤ s.clk →
    ∃ t, exec .aliveTimer s = .next t ∧ t.pair.nextAlive = after s.clk (usecs 50) ∧ t.pair.sent.alive = s.pair.sent.alive + 1 ∧
      t.pair.sent.info = some (aliveInfo s) ∧
      t.pair.lane0.txSeq = (s.pair.lane0.txSeq + 1) % 256 ∧ t.pair.lane1.txSeq = (s.pair.lane1.txSeq + 1) % 256 ∧
      t.pair.role = s.pair.role) ∧
  (∀ (s : State) (lane : Nat), lane < 2 → (getSel s lane).up = true → after (getSel s lane).lastValid (usecs 200) ≤ s.clk →
    ∃ t, exec (.selvedgeLaneDown lane) s = .next t ∧ (getSel t lane).up = false ∧ (getSel t (1 - lane)) = getSel s (1 - lane) ∧
      t.pair.linkUp = s.pair.linkUp ∧
      Flag.get t.pair.flags pfLaneDegraded = (getSel s (1 - lane)).up) ∧
  (∀ s : State, s.pair.linkUp = true → after s.pair.lane0.lastValid (msecs 1) ≤ s.clk → after s.pair.lane1.lastValid (msecs 1) ≤ s.clk →
    ∃ t, exec .selvedgeLinkDown s = .next t ∧ t.pair.linkUp = false ∧ t.pair.st = 5 ∧ t.pair.role = s.pair.role ∧
      t.pair.lane0.up = false ∧ t.pair.lane1.up = false) ∧
  (∀ (s : State) (lane : Nat) (info : AliveInfo), pairOn s = true → lane < 2 →
    (∃ t, exec (.alive lane false info) s = .next t ∧ t.pair.errors = s.pair.errors + 1 ∧ (getSel t lane).run = 0 ∧
      t.pair.peer = s.pair.peer ∧ t.pair.role = s.pair.role) ∧
    (s.pair.linkUp = false → s.pair.lane0.up = false → s.pair.lane1.up = false → (getSel s lane).run < 3 →
      ∃ t, exec (.alive lane true info) s = .next t ∧ t.pair.peer = some info ∧ (getSel t lane).lastValid = s.clk ∧
        (getSel t lane).run = (getSel s lane).run + 1 ∧ t.pair.linkUp = false ∧ t.pair.role = s.pair.role)) ∧
  (∀ s : State, s.pair.toggling = true → s.pair.nextToggle ≤ s.clk →
    ∃ t, exec .selRoleToggle s = .next t ∧ t.pair.selRole = !s.pair.selRole ∧
      t.pair.nextToggle = after s.pair.nextToggle (usecs 5) ∧ t.pair.role = s.pair.role) ∧
  (∀ s : State, s.pair.peerActive = false →
    (s.clk ≤ after s.pair.lastEdge (usecs 20) → s.pair.edgeRun = 3 → s.pair.deciding = none →
      ∃ t, exec .selPeerEdge s = .next t ∧ t.pair.peerActive = true ∧ t.pair.peerActiveSince = s.clk ∧ t.pair.lastEdge = s.clk) ∧
    (after s.pair.lastEdge (usecs 20) < s.clk → s.pair.edgeRun ≠ 0 →
      ∃ t, exec .selPeerEdge s = .next t ∧ t.pair.peerActive = false ∧ t.pair.edgeRun = 1 ∧ t.pair.lastEdge = s.clk)) ∧
  (∀ s : State, s.pair.peerActive = true → after s.pair.lastEdge (usecs 100) ≤ s.clk →
    ∃ t, exec .selPeerIdle s = .next t ∧ t.pair.peerActive = false ∧ t.pair.edgeRun = 0 ∧ t.pair.role = s.pair.role ∧
      (s.pair.role ≠ 2 → t.pair.flags = s.pair.flags))

/-- ROLE_DECISION_TIMEOUT, DUAL_ACTIVE and PEER_HEARTBEAT (R319, R320): without a partner for 100 ms the module is active alone;
of two active modules the one with the higher NODE_ID returns to standby. RELINQUISH, TAKEOVER, TAKEN and TAKEN_TIMEOUT (R326,
R327, R330): a READY standby that reads PEER_IDLE takes the active role after a RELINQUISH or with the link down; the module
that has handed its role over is a standby from TAKEN on, or active again 5 ms later while the line is idle. MIRROR,
MIRROR_SEND, JOIN and CONFIG (R321, R324, R334): the standby keeps the mirrored state of loops and channels; the active module
sends an item of each named channel; the last part of a join makes the standby READY; a forwarded change is acknowledged.
Completes: ROLE_DECISION_TIMEOUT, DUAL_ACTIVE, PEER_HEARTBEAT, RELINQUISH, TAKEOVER, TAKEN, TAKEN_TIMEOUT, MIRROR, MIRROR_SEND,
JOIN, CONFIG. It rests on choices of the model: log entries 6, 29 and 81. -/
def Obligations.RolesAndMirrors : Prop :=
  (∀ (s : State) (u : Nat), s.pair.deciding = some u → pairOn s = true → after u (msecs 100) ≤ s.clk →
    ∃ t, exec .roleDecisionTimeout s = .next t ∧ t.pair.role = 1 ∧ t.pair.toggling = true ∧ t.pair.deciding = none ∧
      Flag.get t.pair.flags pfPeerAbsent = true) ∧
  (∀ (s : State) (node role : Nat) (c : Instr), activeAlone s = true → node = s.pair.peerNode → role = 1 →
    c = .peerHeartbeat node role ∨ (c = .dualActive ∧ s.pair.peerActive = true ∧ after s.pair.peerActiveSince (usecs 20) ≤ s.clk) →
    ∃ t, exec c s = .next t ∧ Flag.get t.pair.flags pfDualActive = true ∧
      (Cfg.netNodeId s ≤ node → t.pair.role = 1) ∧
      (node < Cfg.netNodeId s → t.pair.role = 3 ∧ t.pair.toggling = false ∧ t.pair.selRole = false)) ∧
  (∀ (s : State) (lane : Nat), pairOn s = true → lane < 2 → isStandby s = true →
    ∃ t, exec (.relinquish lane true) s = .next t ∧ t.pair.peerGone = true ∧ t.pair.role = s.pair.role ∧
      (∀ p, t.pair.peer = some p → p.role = 3)) ∧
  (∀ s : State, pairOn s = true → s.pair.role = 2 → Cfg.pairTakeoverEn s = true → s.pair.peerActive = false →
    s.pair.peerGone = true ∨ s.pair.linkUp = false →
    ∃ t, exec .takeover s = .next t ∧ t.pair.role = 1 ∧ t.pair.toggling = true ∧
      t.mram.switchovers = s.mram.switchovers + 1 ∧ t.pair.lastTime = clkToUs (s.clk - s.pair.lastEdge) ∧
      t.pair.lastCause = (if plannedBy s then 3 else if s.pair.peerGone then 1 else 2)) ∧
  (∀ (s : State) (lane : Nat), pairOn s = true → lane < 2 → s.pair.handing ≠ none →
    ∃ t, exec (.taken lane true) s = .next t ∧ t.pair.role = 3 ∧ t.pair.handing = none ∧ t.pair.toggling = false ∧
      t.disp.hiZ = true) ∧
  (∀ (s : State) (u : Nat), s.pair.handing = some u → after u (msecs 5) ≤ s.clk →
    ∃ t, exec .takenTimeout s = .next t ∧ t.pair.handing = none ∧
      (s.pair.peerActive = true → t.pair.role = 3) ∧
      (s.pair.peerActive = false → t.pair.role = s.pair.role ∧ t.pair.toggling = true ∧
        t.pair.nextToggle = after s.clk (usecs 5))) ∧
  (∀ (s : State) (lane n mode act : Nat) (u ramp man term : Int), pairOn s = true → lane < 2 → isStandby s = true → s.pair.linkUp = true →
    s.pair.st ≠ 4 →
    ∃ t, exec (.mirror lane true [.loop n u ramp mode man act term]) s = .next t ∧ t.pair.mirrorAt = some s.clk ∧
      Table.getD (blank {}) t.pair.mirror.loops n = ⟨u, ramp, mode, man, act, term⟩ ∧
      (∀ k, k ≠ n → Table.getD (blank {}) t.pair.mirror.loops k = Table.getD (blank {}) s.pair.mirror.loops k) ∧
      t.pair.mirror.channels = s.pair.mirror.channels ∧ t.engine = s.engine) ∧
  (∀ (s : State) (h : Nat), mirrors s = true → isOutEntry h = true → isLocal s h = false →
    ∃ t, exec (.mirrorSend [h]) s = .next t ∧ (∃ x ∈ t.pair.sent.mirrors, x.item = mirrorOfChan s h ∧ x.stamp = warpNow s) ∧
      (s.pair.nextCal ≤ s.clk → t.pair.nextCal = after s.clk (secs 1) ∧
        ∃ x ∈ t.pair.sent.mirrors, x.item = MirrorItem.calendar s.cal.now s.cal.st ∧ x.stamp = warpNow s)) ∧
  (∀ (s : State) (lane : Nat), pairOn s = true → lane < 2 → isStandby s = true → s.pair.linkUp = true → s.pair.st = 2 →
    s.pair.joinStep = 4 →
    ∃ t, exec (.join lane true (.mirror [])) s = .next t ∧ t.pair.role = 2 ∧ t.pair.st = 3 ∧ t.pair.joinStep = 0) ∧
  (∀ (s : State) (lane gen : Nat) (l : List (Nat × Val)), pairOn s = true → lane < 2 → isStandby s = true → s.pair.linkUp = true →
    s.pair.st = 3 → s.dict.job = none →
    ∃ (t : State) (j : CopyJob), exec (.config lane true gen l) s = .next t ∧ t.pair.sent.acks = s.pair.sent.acks + 1 ∧
      t.dict.job = some j ∧ j.gen = gen ∧ j.content = overlay (baseContent s) (foreign l) ∧ j.for_ = .partner)

/-! ### CAN (13_can_fd) -/

/-- CAN_TX_COMPLETE, CAN_ERROR and URGENT_DISCARD (R303, R306–R309): the frame on the bus counts as sent and leaves its queue;
an ACK error adds 8 to TEC unless error-passive; above 255 the controller is bus-off; a reception error adds to REC.
BUSOFF_HOLDOFF_END, BUS_OFF_RECOVERED and REINTEGRATION_DONE (R296, R297, R308): the way back to the bus, and the state that
OP_MODE leads to. Completes: CAN_TX_COMPLETE, CAN_ERROR, URGENT_DISCARD, BUSOFF_HOLDOFF_END, BUS_OFF_RECOVERED,
REINTEGRATION_DONE. It rests on choices of the model: log entries 6, 20 and 75. -/
def Obligations.CanFramesAndControllers : Prop :=
  (∀ (s : State) (x : Nat) (it : TxItem), x < 2 → canActive (getCan s x) = true → (getCan s x).onBus = 2 →
    (getCan s x).fifo.head? = some it → SyncUnit.can x ∉ s.dict.waiting →
    ∃ t, exec (.canTxComplete x) s = .next t ∧ (getCan t x).sent = (getCan s x).sent + 1 ∧ (getCan t x).tec = (getCan s x).tec - 1 ∧
      (getCan t x).lastSent = some it.frame ∧ (getCan t x).fifo = (getCan s x).fifo.drop 1 ∧
      Flag.get (getCan t x).flags canNoPeer = false ∧ OthersKept getCan s t x) ∧
  (∀ (s : State) (x n : Nat), x < 2 → canActive (getCan s x) = true → SyncUnit.can x ∉ s.dict.waiting →
    let add := if (getCan s x).st = 3 then 0 else 8
    ((getCan s x).tec + add ≤ 255 →
      ∃ t, exec (.canError x .ack true n) s = .next t ∧ (getCan t x).tec = (getCan s x).tec + add ∧ (getCan t x).lastError = 5 ∧
        (getCan t x).ackRun = (getCan s x).ackRun + 1 ∧
        (15 ≤ (getCan s x).ackRun → Flag.get (getCan t x).flags canNoPeer = true) ∧
        (getCan t x).st = (if (getCan s x).tec + add ≤ 127 ∧ (getCan s x).rec_ ≤ 127 then 2 else 3)) ∧
    (255 < (getCan s x).tec + add →
      ∃ t, exec (.canError x .ack true n) s = .next t ∧ (getCan t x).busoffs = (getCan s x).busoffs + 1 ∧
        Flag.get (getCan t x).flags canBusOffSeen = true ∧ (getCan t x).onBus = 0 ∧
        (getCan t x).st = (if canBusoffHoldoff s x = 0 ∧ canBusoffManual s x = false then 5 else 4))) ∧
  (∀ (s : State) (x n : Nat) (k : CanErrKind), x < 2 → canActive (getCan s x) = true → SyncUnit.can x ∉ s.dict.waiting →
    ∃ t, exec (.canError x k false n) s = .next t ∧ (getCan t x).rec_ = min 255 ((getCan s x).rec_ + n) ∧
      (getCan t x).tec = (getCan s x).tec ∧ (getCan t x).lastError = canErrCode k) ∧
  (∀ (s : State) (x : Nat), (getCan s x).onBus = 0 →
    ∃ t, exec (.urgentDiscard x) s = .next t ∧
      (getCan t x).urgent = (getCan s x).urgent.filter (fun u => decide (s.clk < u.discardAt)) ∧
      (getCan t x).urgentExpired + (getCan t x).urgent.length = (getCan s x).urgentExpired + (getCan s x).urgent.length ∧
      OthersKept getCan s t x) ∧
  (∀ (s : State) (x : Nat), (getCan s x).st = 4 → canBusoffManual s x = false → (getCan s x).holdUntil ≤ s.clk →
    ∃ t, exec (.busoffHoldoffEnd x) s = .next t ∧ (getCan t x).st = 5 ∧ OthersKept getCan s t x) ∧
  (∀ (s : State) (x : Nat), (getCan s x).st = 5 → SyncUnit.can x ∉ s.dict.waiting →
    ∃ t, exec (.busOffRecovered x) s = .next t ∧ (canOpMode s x = 1 → (getCan t x).st = 2) ∧
      (canOpMode s x = 2 → (getCan t x).st = 6) ∧ (canOpMode s x = 3 → (getCan t x).st = 7) ∧
      (getCan t x).tec = 0 ∧ (getCan t x).rec_ = 0 ∧
      (getCan t x).fifo = (getCan s x).fifo ∧ OthersKept getCan s t x) ∧
  (∀ (s : State) (x : Nat), (getCan s x).st = 1 → (getCan s x).lowPower = false → SyncUnit.can x ∉ s.dict.waiting →
    ∃ t, exec (.reintegrationDone x) s = .next t ∧ OthersKept getCan s t x ∧
      (canOpMode s x = 1 → (getCan t x).st = if (getCan s x).tec ≤ 127 ∧ (getCan s x).rec_ ≤ 127 then 2 else 3) ∧
      (canOpMode s x = 2 → (getCan t x).st = 6) ∧
      (canOpMode s x = 3 → (getCan t x).st = 7 ∧ (getCan t x).abdResult = 0xFF ∧ (getCan t x).abdIndex = 0))

/-- LONE_RETRY and RATE_CANDIDATE_TIMER (R297, R309): a lone controller tries its head frame once a second; a rate that does not
match within 1 s gives way to the next candidate, and the last to the first. SLEEP_ENTRY, DOMINANT_WAKE, WAKE_FRAME and
WAKE_ERROR_COUNT (R310, R311): a controller sleeps when what was queued is sent or after 100 ms; a dominant state of 5 µs, a
matching frame or 32 frame errors wake it to re-integrate; below 0.5 µs nothing does. TX_DOM_TIMEOUT and TRX_OVERTEMP (R292,
R312): the transceiver releases the bus and flags it; at 175 °C it goes to low power, and cooled it returns and the controller
re-integrates. Completes: LONE_RETRY, RATE_CANDIDATE_TIMER, SLEEP_ENTRY, DOMINANT_WAKE, WAKE_FRAME, WAKE_ERROR_COUNT,
TX_DOM_TIMEOUT, TRX_OVERTEMP. It rests on choices of the model: log entries 6, 8 and 20. -/
def Obligations.CanRetriesSleepAndTransceiver : Prop :=
  (∀ (s : State) (x : Nat), canActive (getCan s x) = true → canLoneMode s x = 1 → Flag.get (getCan s x).flags canNoPeer = true →
    (getCan s x).onBus = 0 → (getCan s x).nextRetry ≤ s.clk → (getCan s x).urgent = [] → (getCan s x).fifo ≠ [] →
    ∃ t, exec (.loneRetry x) s = .next t ∧ (getCan t x).onBus = 2 ∧ (getCan t x).nextRetry = after s.clk (secs 1) ∧
      (getCan t x).fifo = (getCan s x).fifo ∧ OthersKept getCan s t x) ∧
  (∀ (s : State) (x : Nat), (getCan s x).st = 7 → Flag.get (getCan s x).flags canAbdFound = false →
    after (getCan s x).abdSince (secs 1) ≤ s.clk →
    ∃ t, exec (.rateCandidateTimer x) s = .next t ∧ (getCan t x).abdSince = s.clk ∧ (getCan t x).abdGood = 0 ∧
      (getCan t x).abdIndex = (if (getCan s x).abdIndex + 1 < canAbdCount s x then (getCan s x).abdIndex + 1 else 0) ∧
      OthersKept getCan s t x) ∧
  (∀ (s : State) (x u : Nat), (getCan s x).sleepFrom = some u → after u (msecs 100) ≤ s.clk →
    ∃ t, exec (.sleepEntry x) s = .next t ∧ (getCan t x).st = 8 ∧ (getCan t x).lowPower = true ∧ (getCan t x).sleepFrom = none ∧
      (getCan t x).fifo = (getCan s x).fifo ∧ OthersKept getCan s t x) ∧
  (∀ (s : State) (x n : Nat), (getCan s x).st = 8 → cfgN s (0x1100 + x) 26 = 0 →
    (5000 ≤ n → ∃ t, exec (.dominantWake x n) s = .next t ∧ (getCan t x).st = 1 ∧ (getCan t x).wakeCause = 1 ∧
      (getCan t x).lowPower = false ∧ OthersKept getCan s t x) ∧
    (n < 500 → exec (.dominantWake x n) s = .next s) ∧
    (500 ≤ n → n < 5000 → ∃ t, exec (.dominantWake x n) s = .next t ∧ ((getCan t x).st = 1 ∨ (getCan t x).st = 8) ∧
      OthersKept getCan s t x)) ∧
  (∀ (s : State) (x : Nat) (f : CanFrame), (getCan s x).st = 8 → cfgN s (0x1100 + x) 26 = 1 → f.fdf = false →
    (isWakeFrame s x f = true → ∃ t, exec (.wakeFrame x f) s = .next t ∧ (getCan t x).st = 1 ∧ (getCan t x).wakeCause = 2) ∧
    (isWakeFrame s x f = false → ∃ t, exec (.wakeFrame x f) s = .next t ∧ (getCan t x).st = 8 ∧
      (getCan t x).wakeErrors = (getCan s x).wakeErrors - 1)) ∧
  (∀ (s : State) (x : Nat), (getCan s x).st = 8 → cfgN s (0x1100 + x) 26 = 1 →
    ((getCan s x).wakeErrors < 31 → ∃ t, exec (.wakeErrorCount x true) s = .next t ∧ (getCan t x).st = 8 ∧
      (getCan t x).wakeErrors = (getCan s x).wakeErrors + 1) ∧
    (31 ≤ (getCan s x).wakeErrors → ∃ t, exec (.wakeErrorCount x true) s = .next t ∧ (getCan t x).st = 1 ∧
      (getCan t x).wakeCause = 3)) ∧
  (∀ (s : State) (x : Nat), x < 2 → (getCan s x).lowPower = false →
    ∃ t, exec (.txDomTimeout x) s = .next t ∧ Flag.get (getCan t x).flags canTxDom = true ∧ (getCan t x).st = (getCan s x).st ∧
      OthersKept getCan s t x) ∧
  (∀ (s : State) (x : Nat), x < 2 →
    ∃ t, exec (.trxOvertemp x true) s = .next t ∧ (getCan t x).lowPower = true ∧ (getCan t x).onBus = 0 ∧
      Flag.get (getCan t x).flags canTrxHot = true ∧ OthersKept getCan s t x) ∧
  (∀ (s : State) (x : Nat), x < 2 → Flag.get (getCan s x).flags canTrxHot = true → isUp s = true → canOpMode s x ≠ 0 →
    (getCan s x).st ≠ 4 → (getCan s x).st ≠ 5 → (getCan s x).st ≠ 8 →
    ∃ t, exec (.trxOvertemp x false) s = .next t ∧ (getCan t x).lowPower = false ∧ (getCan t x).st = 1 ∧
      Flag.get (getCan t x).flags canTrxHot = false ∧ OthersKept getCan s t x)

/-- CAN_FRAME_RECEIVED (R298–R300): the lowest-numbered matching object stores the frame: a LAST_VALUE object overwrites, with
LOST for one not read, a PRIORITY_BUFFER keeps four; a frame that matches none is discarded and counted. Completes:
CAN_FRAME_RECEIVED. It rests on choices of the model: log entry 20. -/
def Obligations.ReceiveObjectsStoreFrames : Prop :=
  ∀ (s : State) (x : Nat) (fr : RxFrame), x < 2 → canActive (getCan s x) = true → fr.frame.fdf = false →
    SyncUnit.can x ∉ s.dict.waiting → s.power.phase ≠ .reset →
    let f := fr.frame
    (∀ o < 64, rxMatches s x o f = true → (∀ p < o, rxMatches s x p f = false) →
      let ob := getObj (getCan s x) o
      (rxMode s x o = 1 → ∃ (t : State) (r : RxRec), exec (.canFrameReceived x fr) s = .next t ∧
        (getObj (getCan t x) o).recs = [r] ∧ r.frame = f ∧ r.newdat = true ∧ r.seq = (ob.seq + 1) % 256 ∧
        r.stamp = warpAt s (s.clk - fr.age) ∧
        (r.lost = true ↔ ∃ p l, ob.recs = p :: l ∧ p.newdat = true) ∧
        (getCan t x).rxFrames = (getCan s x).rxFrames + 1) ∧
      (rxMode s x o = 2 → ob.recs.length < 4 → ∃ (t : State) (r : RxRec), exec (.canFrameReceived x fr) s = .next t ∧
        (getObj (getCan t x) o).recs = ob.recs ++ [r] ∧ r.frame = f ∧ r.seq = (ob.seq + 1) % 256) ∧
      (rxMode s x o = 2 → 4 ≤ ob.recs.length → ∃ t, exec (.canFrameReceived x fr) s = .next t ∧
        (getObj (getCan t x) o).recs.length = ob.recs.length ∧ (getCan t x).rxDiscarded = (getCan s x).rxDiscarded + 1 ∧
        Flag.get (getCan t x).flags canRxOver = true)) ∧
    ((∀ o < 64, rxMatches s x o f = false) → ∃ t, exec (.canFrameReceived x fr) s = .next t ∧
      (getCan t x).rxDiscarded = (getCan s x).rxDiscarded + 1 ∧ (getCan t x).objs = (getCan s x).objs)

/-! ### Snapshots and the log (18_snapshot_and_log) -/

/-- TRIG_OUT (R394) and TRIG_OUT_END: while TRIG_OUT_EN is 1 it is high for 10 µs from every capture clock but those of SOURCE 2; it is low from
reset until output release. -/
def Obligations.TrigOutFollowsEveryCapture : Prop :=
  (∀ (s : State) (slot source trigAt detail : Nat) (delayed late merged : Bool),
    let t := snapCapture s slot source trigAt detail delayed late merged
    (Cfg.snapTrigOutEn s = true → released s = true → source ≠ 2 →
      t.snap.trigOut = true ∧ t.snap.trigOutUntil = after s.clk (usecs 10)) ∧
    (Cfg.snapTrigOutEn s = false ∨ released s = false ∨ source = 2 →
      t.snap.trigOut = s.snap.trigOut ∧ t.snap.trigOutUntil = s.snap.trigOutUntil)) ∧
  (∀ s : State, s.snap.trigOut = true → s.snap.trigOutUntil ≤ s.clk →
    ∃ t, exec .trigOutEnd s = .next t ∧ t.snap.trigOut = false) ∧
  (∀ s : State, s.clk < s.snap.trigOutUntil → exec .trigOutEnd s = .next s) ∧
  State.reset.snap.trigOut = false ∧ (∀ (s : State) (cause : Nat), (restart s cause).snap.trigOut = false)

/-- TRIG_IN_EDGE, CAN_TRIGGER_FRAME and ARM_AT_REACHED (R391, R393): a trigger on an empty slot, with no copy running, captures
on this clock with its SOURCE; KIND 1 arms the slot. CAPTURE_COPY_COMPLETE, TRIG_OUT_END and LOG_WRITE (R392, R394, R400): the
slots of a latch are FULL when their copy ends; the pulse lasts 10 µs; the oldest queued record takes the next sequence number
and its place in the ring of 4096. Completes: TRIG_IN_EDGE, CAN_TRIGGER_FRAME, ARM_AT_REACHED, CAPTURE_COPY_COMPLETE,
TRIG_OUT_END, LOG_WRITE. It rests on choices of the model: log entries 6, 93 and 94. -/
def Obligations.TriggersCapturesAndTheLog : Prop :=
  (∀ (s : State) (rising : Bool), isUp s = true → Cfg.snapTrigInMode s = 3 ∨ Cfg.snapTrigInMode s = (if rising then 1 else 2) →
    Cfg.snapTrigInSlot s < 16 → (getSlot s (Cfg.snapTrigInSlot s)).st = 0 → snapCopying s = false →
    ∃ t, exec (.trigInEdge rising) s = .next t ∧ (getSlot t (Cfg.snapTrigInSlot s)).st = 2 ∧
      (getSlot t (Cfg.snapTrigInSlot s)).source = 2 ∧ (getSlot t (Cfg.snapTrigInSlot s)).atClk = s.clk ∧
      OthersKept getSlot s t (Cfg.snapTrigInSlot s)) ∧
  (∀ (s : State) (x dest source slot : Nat), x < 2 → (Cfg.snapCanTrigEn s).testBit x = true → trigDest s dest = true → isUp s = true →
    canHears (getCan s x) = true → slot < 16 →
    ((getSlot s slot).st = 0 → snapCopying s = false →
      ∃ t, exec (.canTriggerFrame x dest source (bytes1 [slot, 0])) s = .next t ∧ (getSlot t slot).st = 2 ∧
        (getSlot t slot).source = 1 ∧ (getSlot t slot).atClk = s.clk ∧ OthersKept getSlot s t slot) ∧
    (∀ w, warpNow s < w → w < 2 ^ 64 → (getSlot s slot).st = 0 →
      ∃ t, exec (.canTriggerFrame x dest source (bytes1 [slot, 1] ++ (leBytes 8 w ++ bytes1 [0, 0]))) s = .next t ∧
        (getSlot t slot).st = 1 ∧ (getSlot t slot).armed = true ∧ (getSlot t slot).armAt = w ∧ OthersKept getSlot s t slot)) ∧
  (∀ (s : State) (slot : Nat), slot < 16 → (getSlot s slot).armed = true → (getSlot s slot).armAt ≤ warpNow s →
    (getSlot s slot).st = 1 → snapCopying s = false →
    ∃ t, exec (.armAtReached slot) s = .next t ∧ (getSlot t slot).st = 2 ∧ (getSlot t slot).source = 5 ∧
      (getSlot t slot).armed = false ∧ OthersKept getSlot s t slot) ∧
  (∀ (s : State), snapCopying s = true → s.snap.delayed = [] →
    ∃ t, exec .captureCopyComplete s = .next t ∧
      ∀ k < 16, (getSlot t k).st = (if (getSlot s k).st = 2 then 3 else (getSlot s k).st) ∧ (getSlot t k).data = (getSlot s k).data) ∧
  (∀ s : State, s.snap.trigOut = true → s.snap.trigOutUntil ≤ s.clk →
    ∃ t, exec .trigOutEnd s = .next t ∧ t.snap.trigOut = false ∧ t.snap.slots = s.snap.slots) ∧
  (∀ (s : State) (r : LogRec) (q : List LogRec), s.snap.queue = r :: q →
    ∃ (t : State) (w : LogRec), exec .logWrite s = .next t ∧ t.snap.queue = q ∧ t.mram.log = lastN 4096 (s.mram.log ++ [w]) ∧
      w.seq = s.mram.nextSeq ∧ w.type = r.type ∧ w.payload = r.payload ∧ t.mram.nextSeq = s.mram.nextSeq + 1 ∧
      (Cfg.hostEventEn s = true → s.host.events.length < 64 → t.host.events = s.host.events ++ [w]))

/-! ### Requests and the dictionary (11_object_dictionary, 12_host_port_and_services) -/

/-- Every request: one that does not reach the services leaves only its error count (R270, R273); the session's previous
request sent again gets the response kept for it and is not carried out again (R272). It rests on choices of the model: log
entries 6 and 79. -/
def Obligations.RequestsReachTheServicesOnce : Prop :=
  ∀ (s : State) (c : Instr) (e : Env) (svc : Nat) (payload : List Byte), requestOf s c = some (e, svc, payload) →
    ((arrives s e svc).1 = false → exec c s = .next (arrives s e svc).2) ∧
    (e.sess = .host → isUp s = true → e.frame = .badCrc →
      exec c s = .next { s with host := { s.host with miso := [], crcErrors := s.host.crcErrors + 1 } }) ∧
    (e.sess = .host → isUp s = true → e.frame = .badForm →
      exec c s = .next { s with host := { s.host with miso := [], frameErrors := s.host.frameErrors + 1 } }) ∧
    (e.sess = .host → isUp s = true → e.frame = .ok → 8 ≤ s.host.resp.length →
      exec c s = .next { s with host := { s.host with miso := [], overruns := s.host.overruns + 1 } }) ∧
    (∀ x n, e.sess = .can x n → canAddressed s x e svc = false → exec c s = .next s) ∧
    (∀ resp, (arrives s e svc).1 = true →
      let h := touch (arrives s e svc).2 e.sess
      isDuplicate h e (bytes1 [svc] ++ payload) = some resp →
      exec c s = .next (if resp = [] then h else sendResponse h e svc resp))

/-- READ, and the reads that act: a refused READ is answered with its code and has no effect; a READ of a member that does not
act is answered with the value and has no effect; SAFETY_CHALLENGE draws 16 fresh bytes valid for 30 s (R384), RECORD acts as
RX_ACK (R302), LOG_RECORD moves the session's cursor past the record (R401). Completes: READ, SAFETY_CHALLENGE, RECORD,
LOG_RECORD. It rests on choices of the model: log entries 8 and 76. -/
def Obligations.ReadsAnswerTheValue : Prop :=
  (∀ (s : State) (e : Env) (o m f : Nat), Served s e 1 (readPayload o m f) →
    let h := heard s e 1 (readPayload o m f)
    let c := readCode h e.sess o m (decide (f % 2 = 1)) (some (carrierMax e.sess - 2))
    (c ≠ 0 → exec (.read e o m f) s = .next (answer h e 1 (statusBytes c))) ∧
    (c = 0 → ¬ (o = 0xD100 ∧ m = 2) → ¬ (0x1200 ≤ o ∧ o < 0x1280 ∧ m = 6) → ¬ (o = 0xB010 ∧ m = 3) →
      exec (.read e o m f) s =
        .next (answer h e 1 (statusBytes 0 ++ (readBytes h e.sess o m (decide (f % 2 = 1))).1)))) ∧
  (∀ (s : State) (e : Env), Served s e 1 (readPayload 0xB010 3 0) →
    let h := heard s e 1 (readPayload 0xB010 3 0)
    readCode h e.sess 0xB010 3 false (some (carrierMax e.sess - 2)) = 0 →
    ∃ t, exec (.safetyChallenge e) s = .next t ∧
      (getSess t e.sess).chal = some ((upTo 16).map fun i => Config.randomByte (h.free + i), after s.clk (secs 30)) ∧
      t.free = h.free + 16) ∧
  (∀ (s : State) (e : Env) (x o : Nat), x < 2 → o < 64 → Served s e 1 (readPayload (0x1200 + 64 * x + o) 6 0) →
    let h := heard s e 1 (readPayload (0x1200 + 64 * x + o) 6 0)
    readCode h e.sess (0x1200 + 64 * x + o) 6 false (some (carrierMax e.sess - 2)) = 0 →
    exec (.record e x o) s =
      .next (answer (rxAckOp h x o) e 1 (statusBytes 0 ++ rxBytes (getObj (getCan s x) o)))) ∧
  (∀ (s : State) (e : Env) (r : LogRec), Served s e 1 (readPayload 0xD100 2 0) →
    let h := heard s e 1 (readPayload 0xD100 2 0)
    readCode h e.sess 0xD100 2 false (some (carrierMax e.sess - 2)) = 0 →
    logAt h (getSess h e.sess).cursor = some r →
    ∃ t, exec (.logRecord e) s = .next t ∧ (getSess t e.sess).cursor = r.seq + 1 ∧ t.mram = s.mram)

/-- WRITE (R244, R249, R256): a refused one is answered with its code and has no effect; one of a member of a consistency
group joins the session's pending set and leaves the committed value; one of a session's LOG_CURSOR moves it; a member of an
open group is held against the other sessions. Completes: WRITE. It rests on choices of the model: log entries 31, 38 and 74.
-/
def Obligations.WritesAreRefusedOrPending : Prop :=
  (∀ (s : State) (e : Env) (o m : Nat) (data : List Byte), Served s e 2 (writePayload o m data) →
    let h := writing s e o m data
    let c := tooLong e data (writeCode h e.sess o m data)
    c ≠ 0 → exec (.write e o m data) s = .next (answer h e 2 (statusBytes c))) ∧
  (∀ (s : State) (e : Env) (o m : Nat) (data : List Byte) (d : MemDef), findMem o m = some d → d.acc = .rwg →
    WriteGoes s e o m data →
    ∃ t, exec (.write e o m data) s = .next t ∧ t.dict.committed = s.dict.committed ∧ t.dict.force = s.dict.force ∧
      (getSess t e.sess).pending = Table.put (getSess (writing s e o m data) e.sess).pending (memKey o m)
        ⟨dataVal d.ty data, sessLevel (writing s e o m data) e.sess⟩) ∧
  (∀ (s : State) (e : Env) (data : List Byte), WriteGoes s e 0xD100 1 data →
    ∃ t, exec (.write e 0xD100 1 data) s = .next t ∧ (getSess t e.sess).cursor = leNat data) ∧
  (∀ (s : State) (x : Sess) (o m : Nat) (d : MemDef) (g : Nat) (data : List Byte), findMem o m = some d → m ≠ 0 →
    d.acc = .rwg → groupOf o = some g → lockBad s o m d = false → heldByOther s x g = true → writeCode s x o m data = Ab.busy)

/-- COMMIT, ABORT and the copies (R251, R253, R263): a COMMIT that a check of the set refuses is answered and leaves the
pending set; an accepted one begins a generation above the last, which copy 1 brings into force; ABORT empties the pending
set; the changed RW members become a generation of their own. Completes: COMMIT, ABORT, COPY_WRITE_COMPLETE,
PERSISTENT_RW_GENERATION. It rests on choices of the model: log entries 6 and 8. -/
def Obligations.CommitsBecomeGenerations : Prop :=
  (∀ (s : State) (e : Env) (f : Fail), Served s e 3 [] →
    let h := heard s e 3 []
    inRecovery s = false → beforeRelease s = false → configBad s = false →
    commitFail h (commitProposal h (openPending h e.sess)) = some f →
    exec (.commit e) s = .next (answer h e 3 (statusBytes f.code ++ (leBytes 2 f.obj ++ bytes1 [f.mem, 0])))) ∧
  (∀ (s : State) (e : Env), Served s e 3 [] →
    let h := heard s e 3 []
    let pend := openPending h e.sess
    inRecovery s = false → beforeRelease s = false → configBad s = false →
    commitFail h (commitProposal h pend) = none → pend ≠ [] → genFull h = false → s.dict.job = none →
    ∃ t, exec (.commit e) s = .next t ∧ t.dict.committed = s.dict.committed ∧ t.dict.gen = s.dict.gen ∧
      ∃ j, t.dict.job = some j ∧ j.gen = nextGen h ∧ j.copy = 0 ∧ j.changed = pend.map fun w => w.1) ∧
  (∀ (s : State) (e : Env), Served s e 4 [] → inRecovery s = false →
    ∃ t, exec (.abort e) s = .next t ∧ (getSess t e.sess).pending = [] ∧ t.dict.committed = s.dict.committed) ∧
  (∀ (s : State) (j : CopyJob), s.dict.job = some j → j.copy = 0 →
    ∃ t, exec (.copyWriteComplete true) s = .next t ∧ t.dict.job = some { j with copy := 1 } ∧
      t.mram.copies = setNth s.mram.copies 0 ⟨j.gen, schemaVersion, true, false, j.content⟩ ∧
      t.dict.committed = s.dict.committed ∧ t.dict.gen = s.dict.gen) ∧
  (∀ (s : State) (j : CopyJob), s.dict.job = some j → j.copy = 1 →
    ∃ u, exec (.copyWriteComplete true) s = .next (jobDone u j) ∧ Within [.dict, .mem, .mram] s u ∧
      u.dict.job = some { j with copy := 2 } ∧ u.dict.committed = s.dict.committed ∧
      u.mram.copies = setNth s.mram.copies 1 ⟨j.gen, schemaVersion, true, false, j.content⟩) ∧
  (∀ (s : State) (j : CopyJob), s.dict.job = some j → j.copy = 2 → s.dict.jobs = [] →
    ∃ t, exec (.copyWriteComplete true) s = .next t ∧ t.dict.job = none ∧
      t.mram.copies = setNth s.mram.copies 2 ⟨j.gen, schemaVersion, true, false, j.content⟩) ∧
  (∀ (s : State) (j : CopyJob), s.dict.job = some j → j.copy < 2 → s.dict.jobs = [] →
    ∃ t, exec (.copyWriteComplete false) s = .next t ∧ t.dict.job = none ∧ t.dict.gen = s.dict.gen ∧
      t.dict.committed = s.dict.committed) ∧
  (∀ (s : State) (k : Nat), s.dict.rwDirty = some k → configBad s = false → genFull s = false → s.dict.job = none →
    ∃ t, exec .persistentRwGeneration s = .next t ∧ t.dict.rwDirty = none ∧
      ∃ j, t.dict.job = some j ∧ j.gen = nextGen s ∧ j.for_ = .rw)

/-- SEGMENT (R276): an INIT opens the session's transfer, DATA moves it on, END applies a whole write, CANCEL and 2 s without
a request close it. Completes: SEGMENT_INIT_READ, SEGMENT_INIT_WRITE, SEGMENT_DATA, SEGMENT_END, SEGMENT_CANCEL,
SEGMENT_TIMEOUT. It rests on choices of the model: log entries 6 and 79. -/
def Obligations.SegmentsCarryTransfers : Prop :=
  (∀ (s : State) (e : Env) (n : Nat) (items : List SegItem), Served s e 5 (initPayload 0 n 0 items) →
    let h := setSeg (heard s e 5 (initPayload 0 n 0 items)) e.sess none
    inRecovery s = false → countBad e.sess n items = false → (segRead h e.sess items).1 = 0 →
    ∃ t, exec (.segmentInitRead e n items) s = .next t ∧
      (getSess t e.sess).seg = some ⟨false, items, (segRead h e.sess items).2.1.length, (segRead h e.sess items).2.1, s.clk⟩) ∧
  (∀ (s : State) (e : Env) (n total : Nat) (items : List SegItem), Served s e 5 (initPayload 1 n total items) →
    inRecovery s = false → beforeRelease s = false → countBad e.sess n items = false → 1 ≤ total → total ≤ 131072 →
    ∃ t, exec (.segmentInitWrite e n total items) s = .next t ∧
      (getSess t e.sess).seg = some ⟨true, items, total, [], s.clk⟩) ∧
  (∀ (s : State) (e : Env) (off n : Nat) (data : List Byte) (g : Segment), (getSess s e.sess).seg = some g →
    s.clk ≤ after g.last (secs 2) → inRecovery s = false → Served s e 5 (segPayload s e.sess off n data) →
    ∃ t, exec (.segmentData e off n data) s = .next t ∧
      (getSess t e.sess).seg = some { g with
        data := if g.write = true ∧ segDataBad e.sess g off n data = false then g.data ++ data else g.data
        last := s.clk }) ∧
  (∀ (s : State) (e : Env) (g : Segment), (getSess s e.sess).seg = some g → s.clk ≤ after g.last (secs 2) →
    inRecovery s = false → Served s e 5 (bytes1 [3]) → g.write = false →
    ∃ t, exec (.segmentEnd e) s = .next t ∧ (getSess t e.sess).seg = none ∧ t.dict.committed = s.dict.committed) ∧
  (∀ (s : State) (e : Env) (g : Segment) (u : State), (getSess s e.sess).seg = some g →
    s.clk ≤ after g.last (secs 2) → inRecovery s = false → beforeRelease s = false → Served s e 5 (bytes1 [3]) →
    g.write = true → segEndWrite (setSeg (heard s e 5 (bytes1 [3])) e.sess none) e g = (none, u) → u.power.phase ≠ .reset →
    exec (.segmentEnd e) s = .next (answer u e 5 (statusBytes 0 ++ bytes1 [255]))) ∧
  (∀ (s : State) (e : Env), Served s e 5 (bytes1 [4]) → inRecovery s = false →
    ∃ t, exec (.segmentCancel e) s = .next t ∧ (getSess t e.sess).seg = none) ∧
  (∀ (s : State) (x : Sess) (g : Segment), (getSess s x).seg = some g → after g.last (secs 2) ≤ s.clk →
    ∃ t, exec (.segmentTimeout x) s = .next t ∧ (getSess t x).seg = none ∧ (getSess t x).pending = (getSess s x).pending)

/-- The direct window (R277–R279, R353): BULK_READ answers the bytes of the window; a 4-byte read of a low word keeps the high
word for the port's next access; BULK_WRITE stores only the bytes that a window write reaches. Completes: BULK_READ,
BULK_WRITE. It rests on choices of the model: log entries 8 and 74. -/
def Obligations.TheWindowReadsAndWrites : Prop :=
  (∀ (s : State) (e : Env) (n off : Nat), Served s e 6 (bytes1 [0, 0] ++ leBytes 2 n ++ leBytes 4 off) →
    let h := heard s e 6 (bytes1 [0, 0] ++ leBytes 2 n ++ leBytes 4 off)
    inRecovery s = false → windowOk e.sess n off = true → 4 < n →
    exec (.bulkRead e n off) s =
      .next (answer (setShadow h (portOf e.sess) none) e 6 (statusBytes 0 ++ windowRead h off n))) ∧
  (∀ (s : State) (e : Env) (off : Nat), Served s e 6 (bytes1 [0, 0] ++ leBytes 2 4 ++ leBytes 4 off) →
    let h := heard s e 6 (bytes1 [0, 0] ++ leBytes 2 4 ++ leBytes 4 off)
    inRecovery s = false → windowOk e.sess 4 off = true → isLowWord off = true → shadowOf s (portOf e.sess) = none →
    ∃ t, exec (.bulkRead e 4 off) s = .next t ∧
      shadowOf t (portOf e.sess) = some (off + 4, leNat (windowRead h (off + 4) 4))) ∧
  (∀ (s : State) (e : Env) (n off : Nat) (data : List Byte),
    Served s e 6 (bytes1 [1, 0] ++ leBytes 2 n ++ leBytes 4 off ++ data) →
    let h := setShadow (heard s e 6 (bytes1 [1, 0] ++ leBytes 2 n ++ leBytes 4 off ++ data)) (portOf e.sess) none
    inRecovery s = false → windowCode h e.sess n off data = 0 →
    ∃ t, exec (.bulkWrite e n off data) s = .next t ∧
      (∀ a, sramByte t a = if off ≤ a ∧ a < off + n ∧ windowWritable a = true then nth 0#8 data (a - off)
        else sramByte h a)) ∧
  (∀ (s : State) (e : Env) (n off : Nat) (data : List Byte),
    Served s e 6 (bytes1 [1, 0] ++ leBytes 2 n ++ leBytes 4 off ++ data) →
    let h := setShadow (heard s e 6 (bytes1 [1, 0] ++ leBytes 2 n ++ leBytes 4 off ++ data)) (portOf e.sess) none
    inRecovery s = false → windowCode h e.sess n off data ≠ 0 →
    exec (.bulkWrite e n off data) s = .next (answer h e 6 (statusBytes (windowCode h e.sess n off data))))

/-- HOST_PORT_RESET (R274): when HOST_CS_N rises after 1 ms low with no HOST_SCK edge, the response queue and the event queue
are empty, an open SEGMENT transfer is abandoned, the host session's pending set is discarded and its level is 0. Completes:
HOST_PORT_RESET. -/
def Obligations.HostPortResetEmptiesThePort : Prop :=
  ∀ s : State, ∃ t, exec .hostPortReset s = .next t ∧ t.host.resp = [] ∧ t.host.events = [] ∧
    (getSess t .host).pending = [] ∧ (getSess t .host).level = 0 ∧ (getSess t .host).seg = none ∧
    t.dict.dropped = s.dict.dropped + (if (getSess s .host).pending = [] then 0 else 1) ∧ Within [.dict, .host] s t

/-- EVENT and FETCH (R271, R280), and the heartbeat and the manager watch (R283, R284): EVENT hands over and removes the
oldest records; FETCH takes a response away once it has been clocked out whole. The timers of sessions and of images:
PENDING_TIMEOUT discards and counts the pending set (R253), ACCESS_TIMEOUT takes the level (R247), the lockout ends (R247), a
challenge expires (R384); a verification ends VALID or INVALID (R286) and an unconfirmed slot gives way to the other one
(R288). Completes: EVENT, FETCH, HEARTBEAT, HOST_TIMEOUT, PENDING_TIMEOUT, ACCESS_TIMEOUT, CODE_LOCKOUT_END, CHALLENGE_EXPIRY,
VERIFY_COMPLETE, CONFIRM_TIMEOUT. It rests on choices of the model: log entries 6, 9, 30 and 71. -/
def Obligations.TheHostPortAndItsTimers : Prop :=
  (∀ (s : State) (e : Env) (n : Nat), e.sess = .host → Served s e 7 (bytes1 [n]) → inRecovery s = false →
    1 ≤ n → n ≤ 15 →
    let h := heard s e 7 (bytes1 [n])
    exec (.event e n) s =
      .next (answer { h with host := { h.host with events := h.host.events.drop n, lost := 0 } } e 7
        (statusBytes 0 ++ (bytes1 [min h.host.events.length n, min h.host.lost 255, 0, 0] ++
          (h.host.events.take n).flatMap fun r => recBytes r false)))) ∧
  (∀ (s : State) (r : List Byte) (rest : List (List Byte)) (n : Nat), isUp s = true → s.host.resp = r :: rest →
    r.length + 6 ≤ n →
    ∃ t, exec (.fetch .ok n) s = .next t ∧ t.host.resp = rest ∧ t.host.miso.take r.length = r ∧ t.free = s.free) ∧
  (∀ (s : State) (r : List Byte) (rest : List (List Byte)) (n : Nat), isUp s = true → s.host.resp = r :: rest →
    n < r.length + 6 →
    ∃ t, exec (.fetch .ok n) s = .next t ∧ t.host.resp = r :: rest ∧ t.host.miso = r.take (n - 6)) ∧
  (∀ (s : State) (n : Nat), isUp s = true →
    exec (.fetch .badCrc n) s = .next { s with host := { s.host with miso := [], crcErrors := s.host.crcErrors + 1 } } ∧
    exec (.fetch .badForm n) s =
      .next { s with host := { s.host with miso := [], frameErrors := s.host.frameErrors + 1 } }) ∧
  (∀ (s : State) (d : Nat), isUp s = true → s.host.hbAt = some d → d ≤ s.clk →
    ∃ t, exec .heartbeat s = .next t ∧ t.host.hbAt = some (after d (msecs 1000))) ∧
  (∀ s : State, isUp s = true → s.host.silent = false → after s.host.managerAt (secs (Cfg.netHostTimeout s)) ≤ s.clk →
    ∃ t, exec .hostTimeout s = .next t ∧ t.host.silent = true ∧
      ∀ f, f < 12 → Cfg.fanTableEn s f = true → (getFan t f).table = true) ∧
  (∀ (s : State) (x : Sess), after (getSess s x).lastReq (secs (Cfg.accPendingTimeout s)) ≤ s.clk →
    ∃ t, exec (.pendingTimeout x) s = .next t ∧ (getSess t x).pending = [] ∧
      t.dict.dropped = s.dict.dropped + (if (getSess s x).pending = [] then 0 else 1) ∧
      OthersKept (fun s k => Table.getD (blank {}) s.dict.sessions k) s t (sessKey x)) ∧
  (∀ (s : State) (x : Sess), after (getSess s x).lastReq (secs (Cfg.accAccessTimeout s)) ≤ s.clk →
    ∃ t, exec (.accessTimeout x) s = .next t ∧ (getSess t x).level = 0 ∧ (getSess t x).pending = (getSess s x).pending ∧
      OthersKept (fun s k => Table.getD (blank {}) s.dict.sessions k) s t (sessKey x)) ∧
  (∀ (s : State) (x : Sess) (u : Nat), (getSess s x).lockUntil = some u →
    ∃ t, exec (.codeLockoutEnd x) s = .next t ∧ (getSess t x).lockUntil = if u ≤ s.clk then none else some u) ∧
  (∀ (s : State) (x : Sess) (l : List Byte) (u : Nat), (getSess s x).chal = some (l, u) →
    ∃ t, exec (.challengeExpiry x) s = .next t ∧ (getSess t x).chal = if u ≤ s.clk then none else some (l, u)) ∧
  (∀ s : State, s.images.st = 2 →
    ∃ t, exec .verifyComplete s = .next t ∧ t.images.err = imageError s ∧
      t.images.st = (if imageError s = 0 then 3 else 4) ∧ t.images.staged = s.images.staged) ∧
  (∀ (s : State) (u : Nat), s.images.confirmUntil = some u → u ≤ s.clk →
    ∃ t, exec .confirmTimeout s = .next t ∧ t.power.phase = .reset ∧ t.power.nextCause = 5 ∧
      t.mram.bootSlot = otherSlot s ∧ t.mram.rollbacks = s.mram.rollbacks + 1)

/-! ### Writes that act -/

/-- Writes that act on sessions, images and firmware (R247, R286–R288): ACCESS_REQUEST keeps the level asked for, and 0 gives
the level up; ACCESS_CODE grants it where the code is right, else the fifth wrong one within 60 s locks the session out;
IMAGE_KIND begins a load, IMAGE_CHUNK appends to it, IMAGE_VERIFY starts its check; IMAGE_ACTIVATE restarts on the other slot,
in TRIAL, or begins a generation with the content of a configuration image; FW_CONFIRM ends the trial. Completes:
ACCESS_REQUEST, ACCESS_CODE, IMAGE_KIND, IMAGE_CHUNK, IMAGE_VERIFY, IMAGE_ACTIVATE, FW_CONFIRM. It rests on choices of the
model: log entries 8, 71, 72 and 73. -/
def Obligations.AccessAndImageWrites : Prop :=
  (∀ (s : State) (e : Env) (data : List Byte), WriteGoes s e 0x1010 1 data →
    ∃ t, exec (.accessRequest e data) s = .next t ∧
      (leNat data = 0 → (getSess t e.sess).level = 0 ∧ (getSess t e.sess).asked = none) ∧
      (leNat data ≠ 0 → (getSess t e.sess).asked = some (leNat data, s.clk) ∧
        (getSess t e.sess).level = (getSess (writing s e 0x1010 1 data) e.sess).level)) ∧
  (∀ (s : State) (e : Env) (data : List Byte) (lvl at_ : Nat), WriteGoes s e 0x1010 2 data →
    (getSess s e.sess).asked = some (lvl, at_) →
    ∃ t, exec (.accessCode e data) s = .next t ∧
      if comN s 0x1011 lvl = 0 ∨ leNat data = comN s 0x1011 lvl then
        (getSess t e.sess).level = lvl ∧ (getSess t e.sess).asked = none
      else (getSess t e.sess).level = (getSess (writing s e 0x1010 2 data) e.sess).level ∧
        (5 ≤ (recent s (secs 60) (getSess s e.sess).wrongAt).length + 1 →
          (getSess t e.sess).lockUntil = some (after s.clk (secs 60)))) ∧
  (∀ (s : State) (e : Env) (data : List Byte), WriteGoes s e 0x1040 1 data →
    ∃ t, exec (.imageKind e data) s = .next t ∧
      t.images = { s.images with kind := leNat data, staged := [], st := 1, err := 0 }) ∧
  (∀ (s : State) (e : Env) (data : List Byte), WriteGoes s e 0x1040 3 data →
    ∃ t, exec (.imageChunk e data) s = .next t ∧ t.images = { s.images with staged := s.images.staged ++ data }) ∧
  (∀ (s : State) (e : Env), WriteGoes s e 0x1040 4 (bytes1 [1]) →
    ∃ t, exec (.imageVerify e (bytes1 [1])) s = .next t ∧
      t.images = { s.images with st := 2 }) ∧
  (∀ (s : State) (e : Env), WriteGoes s e 0x1040 6 (bytes1 [1]) → s.images.kind ≠ 2 →
    ∃ t, exec (.imageActivate e (bytes1 [1])) s = .next t ∧ t.power.phase = .reset ∧ t.power.nextCause = 4 ∧
      t.mram.bootSlot = otherSlot s ∧ t.mram.slotState = setNth s.mram.slotState (otherSlot s) 3) ∧
  (∀ (s : State) (e : Env), WriteGoes s e 0x1040 6 (bytes1 [1]) → s.images.kind = 2 → s.dict.job = none →
    ∃ t, exec (.imageActivate e (bytes1 [1])) s = .next t ∧ t.dict.gen = s.dict.gen ∧
      ∃ j, t.dict.job = some j ∧ j.for_ = .image e ∧ j.copy = 0 ∧ j.content = imageContent s.images.staged) ∧
  (∀ (s : State) (e : Env), WriteGoes s e 0x1041 6 (bytes1 [1]) → onTrial s = true →
    ∃ t, exec (.fwConfirm e (bytes1 [1])) s = .next t ∧ t.images.confirmUntil = none ∧
      t.mram.slotState = setNth s.mram.slotState s.mram.bootSlot 1)

/-- Writes that act on the calendar and on Loom (R41, R42, R57, R61, R71, R80, R131): CAL_NOW sets the calendar, CAL_SLEW adds
to the slew, LEARN_RESET starts learning from LAT_INIT and REL_INIT, OVERRIDE takes its value, ARM arms an event or cancels
it, OS_LEARN_RESET forgets the rates of a zone. On the loops (R97, R113, R115, R128, R129): STATS_RESET clears the statistics,
MODE and MAN_OUT take their values and act at the next sample, RC_CLEAR and PROFILE wait for it. Completes: CAL_NOW, CAL_SLEW,
LEARN_RESET, OVERRIDE, ARM, OS_LEARN_RESET, STATS_RESET, MODE, MAN_OUT, RC_CLEAR, PROFILE. It rests on choices of the model:
log entries 16 and 50. -/
def Obligations.CalendarLoomAndLoopWrites : Prop :=
  (∀ (s : State) (e : Env) (data : List Byte), WriteGoes s e 0x2010 1 data →
    ∃ t, exec (.calNow e data) s = .next t ∧ t.cal = { s.cal with
      now := leNat data, acc := 0, st := 2, slewLeft := 0, slewAcc := 0, steps := s.cal.steps + 1, astroAsked := true }) ∧
  (∀ (s : State) (e : Env) (data : List Byte), WriteGoes s e 0x2010 2 data →
    ∃ t, exec (.calSlew e data) s = .next t ∧ t.cal.slewLeft = s.cal.slewLeft + signed 32 (leNat data) ∧
      t.cal.now = s.cal.now ∧ t.cal.st = s.cal.st) ∧
  (∀ (s : State) (e : Env) (c : Nat), c < 32 → WriteGoes s e (0x3240 + c) 10 (bytes1 [1]) →
    ∃ t, exec (.learnReset e c (bytes1 [1])) s = .next t ∧
      circLearn t c = ⟨Cfg.circLatInit s c, 1000, 0, Cfg.circRelInit s c, 0, (circLearn s c).polarity⟩) ∧
  (∀ (s : State) (e : Env) (c : Nat) (data : List Byte), c < 32 → WriteGoes s e (0x3200 + c) 12 data →
    ∃ t, exec (.override e c data) s = .next t ∧ committedVal t (memKey (0x3200 + c) 12) = .num (leNat data)) ∧
  (∀ (s : State) (e : Env) (v : Nat), v < 64 → WriteGoes s e (0x3600 + v) 9 (bytes1 [1]) →
    ∃ t, exec (.arm e v (bytes1 [1])) s = .next t ∧ (getEvent t v).st = 1 ∧ (getEvent t v).sealed = false ∧
      committedVal t (memKey (0x3600 + v) 9) = .num 1 ∧ OthersKept getEvent s t v) ∧
  (∀ (s : State) (e : Env) (v : Nat), v < 64 → WriteGoes s e (0x3600 + v) 9 (bytes1 [0]) → (getEvent s v).st = 1 →
    ∃ t, exec (.arm e v (bytes1 [0])) s = .next t ∧ getEvent t v = { getEvent s v with st := 4 } ∧
      OthersKept getEvent s t v) ∧
  (∀ (s : State) (e : Env) (z : Nat), z < 64 → WriteGoes s e (0x3400 + z) 25 (bytes1 [1]) →
    ∃ t, exec (.osLearnReset e z (bytes1 [1])) s = .next t ∧ (getZone t z).rates = none ∧ OthersKept getZone s t z) ∧
  (∀ (s : State) (e : Env) (n : Nat), n < 256 → WriteGoes s e (0x4800 + n) 14 (bytes1 [1]) →
    ∃ t, exec (.statsReset e n (bytes1 [1])) s = .next t ∧ OthersKept getLoop s t n ∧
      getLoop t n = { getLoop s n with
        minDelay := 0xFFFFFFFF, maxDelay := 0, overruns := 0, delayExcess := 0, retries := 0 }) ∧
  (∀ (s : State) (e : Env) (n : Nat) (data : List Byte), n < 256 → WriteGoes s e (0x4800 + n) 16 data →
    ∃ t, exec (.mode e n data) s = .next t ∧ committedVal t (memKey (0x4800 + n) 16) = .num (leNat data) ∧
      t.engine = s.engine) ∧
  (∀ (s : State) (e : Env) (n : Nat) (data : List Byte), n < 256 → WriteGoes s e (0x4800 + n) 17 data →
    ∃ t, exec (.manOut e n data) s = .next t ∧
      committedVal t (memKey (0x4800 + n) 17) = .num (signed 32 (leNat data)) ∧
      comI s (0x4000 + n) 11 ≤ signed 32 (leNat data) ∧ signed 32 (leNat data) ≤ comI s (0x4000 + n) 12 ∧
      t.engine = s.engine) ∧
  (∀ (s : State) (e : Env) (n : Nat), n < 256 → WriteGoes s e (0x4C00 + n) 9 (bytes1 [1]) →
    ∃ t, exec (.rcClear e n (bytes1 [1])) s = .next t ∧ OthersKept getLoop s t n ∧
      getLoop t n = { getLoop s n with rc := { (getLoop s n).rc with clear := true, newProfile := none } }) ∧
  (∀ (s : State) (e : Env) (n : Nat) (data : List Byte), n < 256 → WriteGoes s e (0x4C00 + n) 15 data →
    ∃ t, exec (.profile e n data) s = .next t ∧ OthersKept getLoop s t n ∧
      getLoop t n = { getLoop s n with rc := { (getLoop s n).rc with newProfile := some (s32List data) } })

/-- Commands of output channels, AO_CMD, PROP_CMD, VLV_CMD, IO_CMD and FAN_CMD (R18, R155, R163, R164, R191, R217): the
command member takes the value, and its channel follows it. VLV_DIAG_CLEAR, IO_DIAG_CLEAR and FAN_DIAG_CLEAR clear the
diagnostics of their channels (R186, R197, R198, R214), FWD_REARM re-arms the field watchdog (R203), and CARD_IMAGE loads a
card and changes nothing else (R165). Completes: AO_CMD, PROP_CMD, VLV_CMD, IO_CMD, FAN_CMD, VLV_DIAG_CLEAR, IO_DIAG_CLEAR,
FWD_REARM, FAN_DIAG_CLEAR, CARD_IMAGE. It rests on choices of the model: log entries 45, 60 and 61. -/
def Obligations.ChannelCommandsAndClears : Prop :=
  (∀ (s : State) (e : Env) (a : Nat) (data : List Byte), a < 8 → WriteGoes s e (0x5300 + a) 2 data →
    ∃ t, exec (.aoCmd e a data) s = .next t ∧ committedVal t (memKey (0x5300 + a) 2) = .num (signed 32 (leNat data)) ∧
      t.meas = (aoApply (setCmd (writing s e (0x5300 + a) 2 data) (0x5300 + a) 2 (signed 32 (leNat data))) a).meas) ∧
  (∀ (s : State) (e : Env) (v : Nat) (data : List Byte), v < 16 → WriteGoes s e (0x7200 + v) 2 data →
    ∃ t, exec (.propCmd e v data) s = .next t ∧
      committedVal t (memKey (0x7200 + v) 2) = .num (signed 32 (leNat data)) ∧ t.valve = (propDrive (setCmd
        (writing s e (0x7200 + v) 2 data) (0x7200 + v) 2 (signed 32 (leNat data))) v (signed 32 (leNat data))).valve) ∧
  (∀ (s : State) (e : Env) (v sense : Nat) (data : List Byte), v < 16 → WriteGoes s e (0x7200 + v) 1 data →
    ∃ t, exec (.vlvCmd e v data sense) s = .next t ∧ committedVal t (memKey (0x7200 + v) 1) = .num (leNat data) ∧
      t.valve = (vlvCommand (setCmd (writing s e (0x7200 + v) 1 data) (0x7200 + v) 1 (leNat data)) v (leNat data) sense).valve) ∧
  (∀ (s : State) (e : Env) (i : Nat) (data : List Byte), i < 32 → WriteGoes s e (0x6200 + i) 1 data →
    ecOfPwm s i = none →
    ∃ t, exec (.ioCmd e i data) s = .next t ∧ committedVal t (memKey (0x6200 + i) 1) = .num (signed 32 (leNat data)) ∧
      t.io = (ioApply (setRw (writing s e (0x6200 + i) 1 data) (memKey (0x6200 + i) 1) (.num (signed 32 (leNat data)))) i).io) ∧
  (∀ (s : State) (e : Env) (f : Nat) (data : List Byte), f < 4 → WriteGoes s e (0x8100 + f) 1 data →
    ∃ t, exec (.fanCmd e f data) s = .next t ∧ committedVal t (memKey (0x8100 + f) 1) = .num (signed 32 (leNat data)) ∧
      t.fans = (fanCommand (setCmd (writing s e (0x8100 + f) 1 data) (0x8100 + f) 1 (signed 32 (leNat data))) f).fans) ∧
  (∀ (s : State) (e : Env) (v : Nat), v < 16 → WriteGoes s e (0x7200 + v) 21 (bytes1 [1]) →
    (getBank s (vlvBank v)).cutBy.contains v = false →
    ∃ t, exec (.vlvDiagClear e v (bytes1 [1])) s = .next t ∧ (getVlv t v) = { getVlv s v with diag := 0 } ∧
      OthersKept getVlv s t v) ∧
  (∀ (s : State) (e : Env) (i : Nat), i < 32 → WriteGoes s e (0x6200 + i) 9 (bytes1 [1]) →
    ∃ t, exec (.ioDiagClear e i (bytes1 [1])) s = .next t ∧
      Flag.get (getIo t i).status ioOverloadLatched = false ∧ Flag.get (getIo t i).status ioShedLatched = false) ∧
  (∀ (s : State) (e : Env), WriteGoes s e 0x6000 2 (bytes1 [1]) → s.io.fwd = 2 →
    ∃ t, exec (.fwdRearm e (bytes1 [1])) s = .next t ∧ t.io.fwd = 1) ∧
  (∀ (s : State) (e : Env) (f : Nat), f < 12 → WriteGoes s e (0x8100 + f) 8 (bytes1 [1]) →
    (getFan (writing s e (0x8100 + f) 8 (bytes1 [1])) f).st = 7 →
    ∃ t, exec (.fanDiagClear e f (bytes1 [1])) s = .next t ∧ (getFan t f).st = 0 ∧ (getFan t f).trips = [] ∧
      Flag.get (getFan t f).flags fanOcLatched = false ∧ Flag.get (getFan t f).flags fanFailed = false) ∧
  (∀ (s : State) (e : Env) (j : Nat) (data : List Byte), e.sess = .image → j < 4 → cardImageCode s j data = 0 →
    ∃ t, exec (.cardImage e j data) s = .next t ∧ Within [.valve] s t ∧ (∀ v, getVlv t v = getVlv s v) ∧
      (∀ k, k < imageCount data → cardWord t j (imageStart data + k) = nth 0 (imageWords (data.drop 4)) k) ∧
      (∀ a, a < imageStart data ∨ imageStart data + imageCount data ≤ a → a < 0x100 → cardWord t j a = cardWord s j a)) ∧
  (∀ (s : State) (e : Env) (j : Nat) (data : List Byte), e.sess ≠ .image →
    exec (.cardImage e j data) s = exec (.write e (0x7300 + j) 1 data) s)

/-- Writes to the display and the memory (R225, R226, R233, R355): IMAGE and ROW change the pending image, LEDGER_RESET
empties the ledger, INVALIDATE names the entries to invalidate. To thermal, safety and the pair (R330, R333, R366, R380,
R383–R385, R388): THERM_CLEAR ends the latched states, SAFETY_CLEAR a fault whose causes are gone, SAFETY_RESET restarts the
module, SAFETY_TEST stops it, SAFETY_LOCK and SAFETY_PUBKEY take their values, SAFETY_RESPONSE spends the challenge and grants
level 3 where it verifies; SWITCHOVER asks for the hand-over, FORCE_TAKEOVER takes the role. Completes: IMAGE, ROW,
LEDGER_RESET, INVALIDATE, THERM_CLEAR, SAFETY_CLEAR, SAFETY_RESET, SAFETY_TEST, SAFETY_LOCK, SAFETY_PUBKEY, SAFETY_RESPONSE,
SWITCHOVER, FORCE_TAKEOVER. It rests on choices of the model: log entries 9, 28, 29 and 91. -/
def Obligations.DisplaySafetyAndPairWrites : Prop :=
  (∀ (s : State) (e : Env) (data : List Byte), WriteGoes s e 0x9010 1 data →
    ∃ t, exec (.image e data) s = .next t ∧ t.disp.pending = data ∧ t.disp.shown = s.disp.shown ∧
      (t.disp.dirtySince = none ↔ data = s.disp.shown)) ∧
  (∀ (s : State) (e : Env) (r : Nat) (data : List Byte), r < 6 → WriteGoes s e 0x9010 (2 + r) data →
    ∃ t, exec (.row e r data) s = .next t ∧
      t.disp.pending = s.disp.pending.take (12 * r) ++ data ++ s.disp.pending.drop (12 * r + 12)) ∧
  (∀ (s : State) (e : Env), WriteGoes s e 0x9000 22 (bytes1 [1]) →
    ∃ t, exec (.ledgerReset e (bytes1 [1])) s = .next t ∧ t.disp.ledger = [] ∧ t.mram.disp.ledger = [] ∧
      Flag.get t.disp.flags dfLedgerHigh = false) ∧
  (∀ (s : State) (e : Env) (data : List Byte), WriteGoes s e 0xE010 1 data →
    ∃ t, exec (.invalidate e data) s = .next t ∧ t.mem.invState = 1 ∧ t.mem.invFirst = leNat data % 65536 ∧
      t.mem.invCount = leNat data / 65536) ∧
  (∀ (s : State) (e : Env), WriteGoes s e 0xA040 4 (bytes1 [1]) →
    ∃ t, exec (.thermClear e (bytes1 [1])) s = .next t ∧ t.therm.dRestarts = [] ∧ t.therm.lRestarts = [] ∧
      t.therm.dState = (if s.therm.dState = 2 then 1 else s.therm.dState) ∧
      t.therm.lState = (if s.therm.lState = 2 then 0 else s.therm.lState)) ∧
  (∀ (s : State) (e : Env), WriteGoes s e 0xB000 4 (bytes1 [1]) →
    (∀ h ∈ outEntries, (getSafe s (safeChan h)).active = false) → (∀ p ∈ s.engine.loops, p.2.stopped = false) →
    ∃ t, exec (.safetyClear e (bytes1 [1])) s = .next t ∧ t.safety.failures = 0 ∧ t.safety.inputs = [] ∧
      t.safety.st = (if s.safety.st = 2 then 1 else s.safety.st)) ∧
  (∀ (s : State) (e : Env), WriteGoes s e 0xB000 5 (bytes1 [1]) →
    ∃ t, exec (.safetyReset e (bytes1 [1])) s = .next t ∧ t.power.phase = .reset ∧ t.power.nextCause = 6 ∧
      t.clk = s.clk) ∧
  (∀ (s : State) (e : Env), WriteGoes s e 0xB000 9 (bytes1 [1]) → s.safety.st ≠ 3 →
    ∃ t, exec (.safetyTest e (bytes1 [1])) s = .next t ∧ t.safety.st = 3 ∧ t.safety.safeA = false ∧
      t.safety.safeB = false ∧ t.safety.faultN = false ∧ t.safety.stopAt = s.clk) ∧
  (∀ (s : State) (e : Env) (data : List Byte), WriteGoes s e 0xB010 1 data →
    ∃ t, exec (.safetyLock e data) s = .next t ∧ committedVal t 0xB01001 = .num (leNat data)) ∧
  (∀ (s : State) (e : Env) (data : List Byte), WriteGoes s e 0xB010 2 data →
    ∃ t, exec (.safetyPubkey e data) s = .next t ∧ committedVal t 0xB01002 = .bytes data) ∧
  (∀ (s : State) (e : Env) (data : List Byte), WriteGoes s e 0xB010 4 data →
    ∃ t, exec (.safetyResponse e data) s = .next t ∧ (getSess t e.sess).chal = none ∧
      (getSess t e.sess).level = (if responseOk s e.sess data = true then 3
        else (getSess (writing s e 0xB010 4 data) e.sess).level)) ∧
  (∀ (s : State) (e : Env), WriteGoes s e 0xC002 1 (bytes1 [1]) →
    ∃ t, exec (.switchover e (bytes1 [1])) s = .next t ∧ t.pair.switchAsked = true ∧ t.pair.role = s.pair.role) ∧
  (∀ (s : State) (e : Env), WriteGoes s e 0xC002 2 (bytes1 [1]) →
    ∃ t, exec (.forceTakeover e (bytes1 [1])) s = .next t ∧ t.pair.role = 1 ∧ t.pair.selRole = true ∧
      t.pair.lastCause = 4 ∧ t.mram.switchovers = s.mram.switchovers + 1)

/-- Writes to the CAN controllers and the snapshots (R302, R304, R305, R308, R310, R391, R395): TX_FRAME queues a frame under
the next handle, TX_CANCEL takes a waiting one out, RX_ACK acknowledges a record, RECOVER ends the hold-off after bus-off,
SLEEP_REQ asks for sleep or wakes the controller; SNAP_TRIGGER captures on this clock, ARM_AT arms a slot, SNAP_RELEASE
empties it. Completes: TX_FRAME, TX_CANCEL, RX_ACK, RECOVER, SLEEP_REQ, SNAP_TRIGGER, ARM_AT, SNAP_RELEASE. It rests on
choices of the model: log entries 20, 32, 77 and 93. -/
def Obligations.CanAndSnapshotWrites : Prop :=
  (∀ (s : State) (e : Env) (x : Nat) (data : List Byte), x < 2 → WriteGoes s e (0x1120 + x) 1 data →
    ∃ t, exec (.txFrame e x data) s = .next t ∧
      Table.getD (blank 0) (getSess t e.sess).handles x = (getCan s x).nextHandle ∧
      (getCan t x).nextHandle = (if (getCan s x).nextHandle = 65535 then 1 else (getCan s x).nextHandle + 1) ∧
      (⟨(getCan s x).nextHandle, .user, txFrameOf data⟩ : TxItem) ∈ (getCan t x).fifo) ∧
  (∀ (s : State) (e : Env) (x : Nat) (data : List Byte), x < 2 → WriteGoes s e (0x1120 + x) 3 data →
    (getCan s x).onBus ≠ 2 →
    ∃ t, exec (.txCancel e x data) s = .next t ∧
      (∀ i ∈ (getCan t x).fifo, i.kind = .user → i.handle ≠ leNat data) ∧
      Table.getD (blank 0) (getSess t e.sess).cancels x =
        if ((getCan s x).fifo.any fun i => i.kind == .user && i.handle == leNat data) = true then 0 else 2) ∧
  (∀ (s : State) (e : Env) (x o : Nat), x < 2 → o < 64 → WriteGoes s e (0x1200 + 64 * x + o) 7 (bytes1 [1]) →
    ∃ t, exec (.rxAck e x o (bytes1 [1])) s = .next t ∧ getObj (getCan t x) o =
      if rxMode s x o = 1 then
        { getObj (getCan s x) o with recs := (getObj (getCan s x) o).recs.map fun r => { r with newdat := false } }
      else { getObj (getCan s x) o with recs := (getObj (getCan s x) o).recs.drop 1 }) ∧
  (∀ (s : State) (e : Env) (x : Nat), x < 2 → WriteGoes s e (0x1110 + x) 6 (bytes1 [1]) →
    ∃ t, exec (.recover e x (bytes1 [1])) s = .next t ∧ (getCan s x).st = 4 ∧ (getCan t x).st = 5) ∧
  (∀ (s : State) (e : Env) (x : Nat), x < 2 → WriteGoes s e (0x1100 + x) 33 (bytes1 [1]) →
    ∃ t, exec (.sleepReq e x (bytes1 [1])) s = .next t ∧ (getCan t x).sleepFrom = some s.clk ∧
      (getCan t x).sleepUpTo = (getCan s x).fifo.length + ownResponse s e x) ∧
  (∀ (s : State) (e : Env) (x : Nat), x < 2 → WriteGoes s e (0x1100 + x) 33 (bytes1 [0]) → (getCan s x).st = 8 →
    ∃ t, exec (.sleepReq e x (bytes1 [0])) s = .next t ∧ (getCan t x).st = 1 ∧ (getCan t x).wakeCause = 4) ∧
  (∀ (s : State) (e : Env) (data : List Byte), WriteGoes s e 0xD000 1 data → (getSlot s (leNat data)).st = 0 →
    (∀ k, k < 16 → (getSlot s k).st ≠ 2) →
    ∃ t, exec (.snapTrigger e data) s = .next t ∧ (getSlot t (leNat data)).st = 2 ∧
      (getSlot t (leNat data)).atClk = s.clk ∧ (getSlot t (leNat data)).source = 0) ∧
  (∀ (s : State) (e : Env) (k : Nat) (data : List Byte), k < 16 → WriteGoes s e (0xD010 + k) 3 data →
    warpNow s < leNat data → (getSlot s k).st ≤ 1 →
    ∃ t, exec (.armAt e k data) s = .next t ∧ (getSlot t k).st = 1 ∧ (getSlot t k).armAt = leNat data ∧
      (getSlot t k).armed = true) ∧
  (∀ (s : State) (e : Env) (k : Nat), k < 16 → WriteGoes s e (0xD010 + k) 4 (bytes1 [1]) → (getSlot s k).st = 3 →
    ∃ t, exec (.snapRelease e k (bytes1 [1])) s = .next t ∧ (getSlot t k).data = [] ∧
      (getSlot t k).st = if (getSlot s k).armed then 1 else 0)

/-! ### Power, start-up and hold-up (19_power_and_holdup) -/

/-- RESET_RELEASE, RESET_N and POWER_LOSS (R406, R417): a release starts the boot ROM with the cause that the reset left;
RESET_N low for 10 µs resets a module that is not saving; a loss of power keeps MRAM and the clock alone. HOLDUP_MEASUREMENT,
HOLDUP_MEASURE_END and BROWNOUT_CLEAR (R411, R412, R419): 2 ms after it begins a measurement gives the capacitance, the ESR
and the state of the hold-up capacitor; 10 s of good VIN end BROWNOUT. Completes: RESET_RELEASE, RESET_N, POWER_LOSS,
HOLDUP_MEASUREMENT, HOLDUP_MEASURE_END, BROWNOUT_CLEAR. It rests on choices of the model: log entries 6, 7, 8 and 89. -/
def Obligations.ResetsAndThePowerSupply : Prop :=
  (∀ s : State, s.power.resetN = true → s.power.phase = .reset →
    ∃ t, exec .resetRelease s = .next t ∧ t.power.phase = .boot ∧ t.power.resetCause = s.power.nextCause ∧
      t.power.releaseClk = s.clk ∧ t.warp = {} ∧ t.mram = s.mram ∧ t.cal = s.cal) ∧
  (∀ s : State, s.power.resetN = true → s.power.phase = .done →
    ∃ t, exec .resetRelease s = .next t ∧ t.power.phase = .boot ∧ t.power.resetCause = 3 ∧ t.mram = s.mram) ∧
  (∀ s : State, s.power.resetN = false → exec .resetRelease s = .next s) ∧
  (∀ (s : State) (c : Nat), s.power.resetLowAt = some c → after c (usecs 10) ≤ s.clk → s.power.phase ≠ .saving →
    s.power.phase ≠ .reset →
    ∃ t, exec (.resetN false) s = .next t ∧ t.power.phase = .reset ∧ t.power.nextCause = 2 ∧ t.power.resetN = false ∧
      t.clk = s.clk) ∧
  (∀ (s : State) (b : Bool), s.power.resetLowAt = none →
    ∃ t, exec (.resetN b) s = .next t ∧ Within [.power] s t ∧ t.power.resetN = b ∧ t.power.phase = s.power.phase ∧
      t.power.resetLowAt = if b then none else some s.clk) ∧
  (∀ s : State, s.power.phase ≠ .saving →
    ∃ t, exec .powerLoss s = .next t ∧ t.power.phase = .reset ∧ t.power.nextCause = powerOnCause (tearCopy s) ∧
      t.mram.save = s.mram.save ∧ t.mram.log = s.mram.log ∧ t.cal.now = s.cal.now ∧ t.engine = State.reset.engine ∧
      t.loom = State.reset.loom) ∧
  (∀ s : State, s.power.measuring = none → s.power.phase = .memTest →
    ∃ t, exec .holdupMeasurement s = .next t ∧ t.power = { s.power with measuring := some s.clk }) ∧
  (∀ (s : State) (d : Nat) (onset : HoldupOnset) (drain : HoldupDrain), s.power.measuring = some d →
    after d (msecs 2) ≤ s.clk →
    let c := holdupCapOf drain.charge drain.fall
    let r := holdupEsrOf onset.step onset.current
    ∃ t, exec (.holdupMeasureEnd onset drain) s = .next t ∧ t.power.measuring = none ∧ t.power.holdupC = c ∧
      t.power.holdupEsr = r ∧
      t.power.holdupState = (if 330 ≤ c ∧ r ≤ 500 then 0 else if 100 ≤ c ∧ r ≤ 2000 then 1 else 2) ∧
      (Flag.get t.power.flags 0 = true ↔ t.power.holdupState ≠ 0) ∧ Within [.power, .alarms] s t) ∧
  (∀ (s : State) (d : Nat), Flag.get s.power.flags 3 = true → isUp s = true → s.power.vin18Since = some d →
    after d (secs 10) ≤ s.clk →
    ∃ t, exec .brownoutClear s = .next t ∧ Flag.get t.power.flags 3 = false ∧ t.mram.save.saveTimes = [] ∧
      (s.power.phase = .held → s.power.holdReason = 2 → s.power.stepFailed = false →
        t.power.phase = .operational ∧ t.power.holdReason = 0))

/-- Steps 1 to 3 of start-up (R288, R348, R407): the boot ROM ends in the signature check, which takes the boot slot, or the
other slot with the later bounds, or stays in recovery; the repair map comes from the copies. Steps 4 and 5 of start-up (R349,
R265, R410, R418, R421): a clean self-test ends step 4 and starts the scrubber; the configuration is resolved, a save that
waits is consumed, the pair settings are taken, and step 6 begins. Step 6 and output release (R407–R409, R319, R381): step 6
ends at LOCKED or at its bound; the module is then operational, or held with its reason; release starts the outputs, or a
paired module decides its role first. Completes: BOOT_ROM_DONE, SIGNATURE_CHECK_DONE, REPAIR_MAP_RESOLVE, MEMORY_SELF_TEST,
CONFIG_RESOLUTION, WARP_STEP_END, OPERATIONAL, OUTPUT_RELEASE. It rests on choices of the model: log entries 6, 37, 71, 90 and
95. -/
def Obligations.StartUpStepByStep : Prop :=
  (∀ s : State, s.power.phase = .boot →
    ∃ t, exec .bootRomDone s = .next t ∧ t.power.phase = .signature ∧ t.meas.refState = 1 ∧ t.meas.refClk = s.clk ∧
      (onTrial s = true → s.mram.trialTried = true → t.mram.bootSlot = otherSlot s) ∧
      (onTrial s = true → s.mram.trialTried = false → t.mram.bootSlot = s.mram.bootSlot ∧ t.mram.trialTried = true) ∧
      (onTrial s = false → t.mram.bootSlot = s.mram.bootSlot ∧ t.mram.trialTried = false)) ∧
  (∀ (s : State) (bad badOther : List Nat), s.power.phase = .signature →
    let u := slotUnread (slotUnread s (otherSlot s) badOther) s.mram.bootSlot bad
    ∃ t, exec (.signatureCheckDone bad badOther) s = .next t ∧
      (slotVerifies u s.mram.bootSlot = true → t.power.phase = .repairMap ∧ t.mram = u.mram) ∧
      (slotVerifies u s.mram.bootSlot = false → slotVerifies u (otherSlot s) = true →
        t.power.phase = .repairMap ∧ t.power.fallback = true ∧ t.mram.bootSlot = otherSlot s) ∧
      (slotVerifies u s.mram.bootSlot = false → slotVerifies u (otherSlot s) = false →
        t.power.phase = .recovery ∧ t.mram = u.mram)) ∧
  (∀ (s : State) (c : MapCopy), s.power.phase = .repairMap → pickMap s.mram.maps = some c →
    ∃ t, exec .repairMapResolve s = .next t ∧ t.power.phase = .memTest ∧ t.mem.map = c.map ∧ t.mem.repairGen = c.gen ∧
      t.mem.repairState = 0 ∧ t.mram.ledger = c.ledger ∧ t.mram.maps = s.mram.maps.map fun _ => c) ∧
  (∀ s : State, s.power.phase = .repairMap → topMaps s.mram.maps = [] →
    ∃ t, exec .repairMapResolve s = .next t ∧ t.power.phase = .memTest ∧ t.mem.map = {} ∧ t.mem.repairState = 2 ∧
      t.mram.ledger = []) ∧
  (∀ s : State, s.power.phase = .memTest → s.mem.repairState ≠ 2 → s.power.holdupState ≠ 2 →
    s.power.stepFailed = false →
    ∃ t, exec (.memorySelfTest [] []) s = .next t ∧ t.power.phase = .config ∧ t.mem.scrubbing = true ∧
      t.mem.scrubPos = 0 ∧ t.mem.passStart = s.clk ∧ t.power.stepFailed = false ∧ t.mram.ledger = s.mram.ledger) ∧
  (∀ (s : State) (a b : List (Nat × Nat)), s.power.phase = .memTest →
    ∃ t, exec (.memorySelfTest a b) s = .next t ∧ t.power.phase = .config ∧ t.mem.scrubbing = true) ∧
  (∀ (s : State) (v n o : Nat), s.power.phase = .config →
    ∃ t, exec (.configResolution v n o) s = .next t ∧ t.power.phase = .warp ∧ t.cal.vrtc = v ∧
      (saveWaits s = true → t.mram.save.consumed = true) ∧ t.power.releaseClk = s.power.releaseClk) ∧
  (∀ (s : State) (v n o : Nat), s.power.phase ≠ .config → exec (.configResolution v n o) s = .next s) ∧
  (∀ s : State, s.power.phase = .warp →
    s.warp.ws = .locked ∨ after s.power.releaseClk (msecs (if s.power.fallback then 262 else 230)) ≤ s.clk →
    ∃ t, exec .warpStepEnd s = .next t ∧ t.power = { s.power with stepDone := true }) ∧
  (∀ s : State, s.power.phase = .warp → s.power.stepDone = true → holdReasonOf s = 0 → s.power.stepFailed = false →
    s.pair.en = false →
    ∃ t, exec .operational s = .next t ∧ t.power.phase = .operational ∧ t.power.holdReason = 0 ∧
      t.host.hbAt = some (after s.clk (msecs 1000)) ∧ t.host.managerAt = s.clk ∧ t.mram.trialTried = false) ∧
  (∀ s : State, s.power.phase = .warp → s.power.stepDone = true → holdReasonOf s ≠ 0 ∨ s.power.stepFailed = true →
    ∃ t, exec .operational s = .next t ∧ t.power.phase = .held ∧ t.power.holdReason = holdReasonOf s) ∧
  (∀ s : State, s.power.phase = .operational → s.pair.en = false →
    ∃ t, exec .outputRelease s = .next t ∧ t.power.phase = .released ∧
      t.power.startTime = (s.clk - s.power.releaseClk) / clkPerMs ∧
      t.safety.st = (if s.safety.st = 0 then 1 else s.safety.st) ∧ t.io.fwd = 1 ∧ t.io.lastRefresh = s.clk ∧
      t.loom.nextRound = s.clk) ∧
  (∀ s : State, s.power.phase = .operational → s.pair.en = true → s.pair.role = 0 → s.pair.deciding ≠ none →
    exec .outputRelease s = .next s) ∧
  (∀ s : State, s.power.phase ≠ .operational → exec .outputRelease s = .next s)

/-- The Bobbin save (R412–R416, R419, R420): two low VIN conversions stop the outputs and fill the save area; before the end
of step 5 the module restarts instead; the last tier completes the save. Completes: VIN_SAG, SAVE_DONE. It rests on choices of
the model: log entries 6, 35 and 92. -/
def Obligations.TheSaveIsWritten : Prop :=
  (∀ s : State, s.power.vinRun < 2 → exec .vinSag s = .next s) ∧
  (∀ s : State, 2 ≤ s.power.vinRun → s.power.phase = .released ∨ s.power.phase = .operational ∨ s.power.phase = .held →
    ∃ t, exec .vinSag s = .next t ∧ t.power.phase = .saving ∧ t.power.sagClk = s.clk ∧ t.mram.save.present = true ∧
      t.mram.save.complete = false ∧ t.mram.save.consumed = false ∧ t.mram.save.seq = s.mram.save.seq + 1 ∧
      t.mram.save.calNow = s.cal.now ∧ t.mram.save.warpCycle = s.warp.cycle ∧ t.mram.saves = s.mram.saves + 1 ∧
      t.mram.save.tiers = planTiers s ∧ t.dict.job = none ∧ t.dict.jobs = [] ∧ t.mem.scrubbing = false ∧
      t.safety.safeA = false ∧ t.safety.safeB = false) ∧
  (∀ s : State, 2 ≤ s.power.vinRun → s.power.phase = .boot ∨ s.power.phase = .signature ∨ s.power.phase = .repairMap ∨
      s.power.phase = .memTest ∨ s.power.phase = .config ∨ s.power.phase = .recovery →
    ∃ t, exec .vinSag s = .next t ∧ t.power.phase = .reset ∧ t.mram.save = s.mram.save) ∧
  (∀ (s : State) (n : Nat), s.power.phase = .saving →
    ∃ t, exec (.saveDone n) s = .next t ∧ t.power.phase = .done ∧ t.meas.refState = 0 ∧ t.mram.save.complete = true ∧
      t.mram.lastSaveBytes = n ∧ t.mram.lastSaveAt = s.power.sagCal ∧
      t.mram.lastSaveResult = (if s.mram.save.tiers = [0, 1, 2, 3, 4] then 1 else 2)) ∧
  (∀ (s : State) (n : Nat), s.power.phase ≠ .saving → exec (.saveDone n) s = .next s)

/-- A sag of VIN before output release (R420): before the end of step 5 it starts no save, the module restarts, and the save
area stays as it is; from step 6 until release the save has tiers 0 to 3, or those that an INSUFFICIENT capacitor leaves
(R412). -/
def Obligations.ASagDuringStartUp : Prop :=
  (∀ s : State, 2 ≤ s.power.vinRun → s.power.phase = .boot ∨ s.power.phase = .signature ∨ s.power.phase = .repairMap ∨
      s.power.phase = .memTest ∨ s.power.phase = .config →
    ∃ t, exec .vinSag s = .next t ∧ t.power.phase = .reset ∧ t.mram.save = s.mram.save ∧ t.power.resetN = s.power.resetN) ∧
  (∀ s : State, s.power.phase = .reset → s.power.resetN = true →
    ∃ t, exec .resetRelease s = .next t ∧ t.power.phase = .boot ∧ t.mram.save = s.mram.save) ∧
  (∀ s : State, s.power.phase = .reset →
    ∃ t, exec .powerLoss s = .next t ∧ t.power.phase = .reset ∧ t.mram.save = s.mram.save) ∧
  (∀ s : State, 2 ≤ s.power.vinRun → s.power.phase = .warp ∨ s.power.phase = .operational ∨ s.power.phase = .held →
    ∃ t, exec .vinSag s = .next t ∧ t.power.phase = .saving ∧
      t.mram.save.tiers = if s.power.holdupState < 2 then [0, 1, 2, 3] else [0, 1])
end

