-- ==== Sys2Proof/Laws/Dispatch.lean ====
section
/-! SUPPORT. The meaning of each command, by name. -/

namespace Sys2Proof.Machine

@[simp] theorem exec_read (env : Env) (obj mem flags : Nat) (s : State) :
    exec (.read env obj mem flags) s = execRead env obj mem flags s := rfl

@[simp] theorem exec_write (env : Env) (obj mem : Nat) (data : List Byte) (s : State) :
    exec (.write env obj mem data) s = execWrite env obj mem data s := rfl

@[simp] theorem exec_commit (env : Env) (s : State) : exec (.commit env) s = execCommit env s := rfl

@[simp] theorem exec_abort (env : Env) (s : State) : exec (.abort env) s = execAbort env s := rfl

@[simp] theorem exec_segmentInitRead (env : Env) (count : Nat) (items : List SegItem) (s : State) :
    exec (.segmentInitRead env count items) s = execSegmentInitRead env count items s := rfl

@[simp] theorem exec_segmentInitWrite (env : Env) (count total : Nat) (items : List SegItem) (s : State) :
    exec (.segmentInitWrite env count total items) s = execSegmentInitWrite env count total items s := rfl

@[simp] theorem exec_segmentData (env : Env) (offset count : Nat) (data : List Byte) (s : State) :
    exec (.segmentData env offset count data) s = execSegmentData env offset count data s := rfl

@[simp] theorem exec_segmentEnd (env : Env) (s : State) : exec (.segmentEnd env) s = execSegmentEnd env s := rfl

@[simp] theorem exec_segmentCancel (env : Env) (s : State) :
    exec (.segmentCancel env) s = execSegmentCancel env s := rfl

@[simp] theorem exec_segmentTimeout (sess : Sess) (s : State) :
    exec (.segmentTimeout sess) s = execSegmentTimeout sess s := rfl

@[simp] theorem exec_bulkRead (env : Env) (count offset : Nat) (s : State) :
    exec (.bulkRead env count offset) s = execBulkRead env count offset s := rfl

@[simp] theorem exec_bulkWrite (env : Env) (count offset : Nat) (data : List Byte) (s : State) :
    exec (.bulkWrite env count offset data) s = execBulkWrite env count offset data s := rfl

@[simp] theorem exec_event (env : Env) (max : Nat) (s : State) : exec (.event env max) s = execEvent env max s := rfl

@[simp] theorem exec_fetch (frame : FrameCond) (clocked : Nat) (s : State) :
    exec (.fetch frame clocked) s = execFetch frame clocked s := rfl

@[simp] theorem exec_hostPortReset (s : State) : exec .hostPortReset s = execHostPortReset s := rfl

@[simp] theorem exec_pendingTimeout (sess : Sess) (s : State) :
    exec (.pendingTimeout sess) s = execPendingTimeout sess s := rfl

@[simp] theorem exec_accessRequest (env : Env) (data : List Byte) (s : State) :
    exec (.accessRequest env data) s = execAccessRequest env data s := rfl

@[simp] theorem exec_accessCode (env : Env) (data : List Byte) (s : State) :
    exec (.accessCode env data) s = execAccessCode env data s := rfl

@[simp] theorem exec_codeLockoutEnd (sess : Sess) (s : State) :
    exec (.codeLockoutEnd sess) s = execCodeLockoutEnd sess s := rfl

@[simp] theorem exec_accessTimeout (sess : Sess) (s : State) :
    exec (.accessTimeout sess) s = execAccessTimeout sess s := rfl

@[simp] theorem exec_copyWriteComplete (ok : Bool) (s : State) :
    exec (.copyWriteComplete ok) s = execCopyWriteComplete ok s := rfl

@[simp] theorem exec_persistentRwGeneration (s : State) :
    exec .persistentRwGeneration s = execPersistentRwGeneration s := rfl

@[simp] theorem exec_imageKind (env : Env) (data : List Byte) (s : State) :
    exec (.imageKind env data) s = execImageKind env data s := rfl

@[simp] theorem exec_imageChunk (env : Env) (data : List Byte) (s : State) :
    exec (.imageChunk env data) s = execImageChunk env data s := rfl

@[simp] theorem exec_imageVerify (env : Env) (data : List Byte) (s : State) :
    exec (.imageVerify env data) s = execImageVerify env data s := rfl

@[simp] theorem exec_verifyComplete (s : State) : exec .verifyComplete s = execVerifyComplete s := rfl

@[simp] theorem exec_imageActivate (env : Env) (data : List Byte) (s : State) :
    exec (.imageActivate env data) s = execImageActivate env data s := rfl

@[simp] theorem exec_fwConfirm (env : Env) (data : List Byte) (s : State) :
    exec (.fwConfirm env data) s = execFwConfirm env data s := rfl

@[simp] theorem exec_confirmTimeout (s : State) : exec .confirmTimeout s = execConfirmTimeout s := rfl

@[simp] theorem exec_heartbeat (s : State) : exec .heartbeat s = execHeartbeat s := rfl

@[simp] theorem exec_hostTimeout (s : State) : exec .hostTimeout s = execHostTimeout s := rfl

@[simp] theorem exec_warpCycleStart (s : State) : exec .warpCycleStart s = execWarpCycleStart s := rfl

@[simp] theorem exec_mainsZero (period ampl : Nat) (err : Int) (s : State) :
    exec (.mainsZero period ampl err) s = execMainsZero period ampl err s := rfl

@[simp] theorem exec_zeroMissing (s : State) : exec .zeroMissing s = execZeroMissing s := rfl

@[simp] theorem exec_holdoverExpiry (s : State) : exec .holdoverExpiry s = execHoldoverExpiry s := rfl

@[simp] theorem exec_alignResponse (warpNow : Nat) (s : State) :
    exec (.alignResponse warpNow) s = execAlignResponse warpNow s := rfl

@[simp] theorem exec_alignRetry (s : State) : exec .alignRetry s = execAlignRetry s := rfl

@[simp] theorem exec_clockFailure (cause : ClockFail) (s : State) :
    exec (.clockFailure cause) s = execClockFailure cause s := rfl

@[simp] theorem exec_calNow (env : Env) (data : List Byte) (s : State) :
    exec (.calNow env data) s = execCalNow env data s := rfl

@[simp] theorem exec_calSlew (env : Env) (data : List Byte) (s : State) :
    exec (.calSlew env data) s = execCalSlew env data s := rfl

@[simp] theorem exec_gridEvaluation (s : State) : exec .gridEvaluation s = execGridEvaluation s := rfl

@[simp] theorem exec_astroComputation (s : State) : exec .astroComputation s = execAstroComputation s := rfl

@[simp] theorem exec_crystalCompensation (s : State) : exec .crystalCompensation s = execCrystalCompensation s := rfl

@[simp] theorem exec_armedSetSeal (s : State) : exec .armedSetSeal s = execArmedSetSeal s := rfl

@[simp] theorem exec_armedCommand (s : State) : exec .armedCommand s = execArmedCommand s := rfl

@[simp] theorem exec_calendarEventDue (ev : CalEvent) (s : State) :
    exec (.calendarEventDue ev) s = execCalendarEventDue ev s := rfl

@[simp] theorem exec_transitionTimeout (c : Nat) (s : State) :
    exec (.transitionTimeout c) s = execTransitionTimeout c s := rfl

@[simp] theorem exec_minOnOffExpiry (c : Nat) (s : State) : exec (.minOnOffExpiry c) s = execMinOnOffExpiry c s := rfl

@[simp] theorem exec_learnedPersist (s : State) : exec .learnedPersist s = execLearnedPersist s := rfl

@[simp] theorem exec_learnReset (env : Env) (c : Nat) (data : List Byte) (s : State) :
    exec (.learnReset env c data) s = execLearnReset env c data s := rfl

@[simp] theorem exec_override (env : Env) (c : Nat) (data : List Byte) (s : State) :
    exec (.override env c data) s = execOverride env c data s := rfl

@[simp] theorem exec_ruleRound (overran : Bool) (s : State) :
    exec (.ruleRound overran) s = execRuleRound overran s := rfl

@[simp] theorem exec_arm (env : Env) (e : Nat) (data : List Byte) (s : State) :
    exec (.arm env e data) s = execArm env e data s := rfl

@[simp] theorem exec_userEventAct (e : Nat) (s : State) : exec (.userEventAct e) s = execUserEventAct e s := rfl

@[simp] theorem exec_sampleTimer (n : Nat) (s : State) : exec (.sampleTimer n) s = execSampleTimer n s := rfl

@[simp] theorem exec_warpSample (n : Nat) (s : State) : exec (.warpSample n) s = execWarpSample n s := rfl

@[simp] theorem exec_loopSample (n : Nat) (err : LaneErr) (s : State) :
    exec (.loopSample n err) s = execLoopSample n err s := rfl

@[simp] theorem exec_laneTest (lane : Nat) (ok : Bool) (s : State) :
    exec (.laneTest lane ok) s = execLaneTest lane ok s := rfl

@[simp] theorem exec_statsReset (env : Env) (n : Nat) (data : List Byte) (s : State) :
    exec (.statsReset env n data) s = execStatsReset env n data s := rfl

@[simp] theorem exec_mode (env : Env) (n : Nat) (data : List Byte) (s : State) :
    exec (.mode env n data) s = execMode env n data s := rfl

@[simp] theorem exec_manOut (env : Env) (n : Nat) (data : List Byte) (s : State) :
    exec (.manOut env n data) s = execManOut env n data s := rfl

@[simp] theorem exec_rcClear (env : Env) (n : Nat) (data : List Byte) (s : State) :
    exec (.rcClear env n data) s = execRcClear env n data s := rfl

@[simp] theorem exec_profile (env : Env) (n : Nat) (data : List Byte) (s : State) :
    exec (.profile env n data) s = execProfile env n data s := rfl

@[simp] theorem exec_profileSave (s : State) : exec .profileSave s = execProfileSave s := rfl

@[simp] theorem exec_optimumStart (s : State) : exec .optimumStart s = execOptimumStart s := rfl

@[simp] theorem exec_prestartTimeout (z : Nat) (s : State) :
    exec (.prestartTimeout z) s = execPrestartTimeout z s := rfl

@[simp] theorem exec_osLearnReset (env : Env) (z : Nat) (data : List Byte) (s : State) :
    exec (.osLearnReset env z data) s = execOsLearnReset env z data s := rfl

@[simp] theorem exec_mtExpiry (m : Nat) (s : State) : exec (.mtExpiry m) s = execMtExpiry m s := rfl

@[simp] theorem exec_conversionDue (t : Nat) (s : State) : exec (.conversionDue t) s = execConversionDue t s := rfl

@[simp] theorem exec_conversionStart (adc : Adc) (s : State) :
    exec (.conversionStart adc) s = execConversionStart adc s := rfl

@[simp] theorem exec_continuousSlot (pos : Nat) (s : State) :
    exec (.continuousSlot pos) s = execContinuousSlot pos s := rfl

@[simp] theorem exec_conversionComplete (adc : Adc) (l lB raw rawB : Int) (s : State) :
    exec (.conversionComplete adc l lB raw rawB) s = execConversionComplete adc l lB raw rawB s := rfl

@[simp] theorem exec_housekeepingRound (s : State) : exec .housekeepingRound s = execHousekeepingRound s := rfl

@[simp] theorem exec_aiScan (s : State) : exec .aiScan s = execAiScan s := rfl

@[simp] theorem exec_shuntTrip (k : Nat) (s : State) : exec (.shuntTrip k) s = execShuntTrip k s := rfl

@[simp] theorem exec_shuntReclose (k : Nat) (s : State) : exec (.shuntReclose k) s = execShuntReclose k s := rfl

@[simp] theorem exec_aiClampEvent (k : Nat) (driven : Bool) (s : State) :
    exec (.aiClampEvent k driven) s = execAiClampEvent k driven s := rfl

@[simp] theorem exec_recoveringEnd (k : Nat) (s : State) : exec (.recoveringEnd k) s = execRecoveringEnd k s := rfl

@[simp] theorem exec_noiseMeasurement (noiseA noiseB : NoiseSum) (s : State) :
    exec (.noiseMeasurement noiseA noiseB) s = execNoiseMeasurement noiseA noiseB s := rfl

@[simp] theorem exec_aoCmd (env : Env) (a : Nat) (data : List Byte) (s : State) :
    exec (.aoCmd env a data) s = execAoCmd env a data s := rfl

@[simp] theorem exec_aoFault (a : Nat) (kind : AoFault) (s : State) :
    exec (.aoFault a kind) s = execAoFault a kind s := rfl

@[simp] theorem exec_aoStatusClear (a : Nat) (s : State) : exec (.aoStatusClear a) s = execAoStatusClear a s := rfl

@[simp] theorem exec_vlvCmd (env : Env) (v : Nat) (data : List Byte) (sense : Nat) (s : State) :
    exec (.vlvCmd env v data sense) s = execVlvCmd env v data sense s := rfl

@[simp] theorem exec_propCmd (env : Env) (v : Nat) (data : List Byte) (s : State) :
    exec (.propCmd env v data) s = execPropCmd env v data s := rfl

@[simp] theorem exec_pulseExpiry (v : Nat) (s : State) : exec (.pulseExpiry v) s = execPulseExpiry v s := rfl

@[simp] theorem exec_cardStart (v : Nat) (s : State) : exec (.cardStart v) s = execCardStart v s := rfl

@[simp] theorem exec_cardNop (v : Nat) (s : State) : exec (.cardNop v) s = execCardNop v s := rfl

@[simp] theorem exec_cardRail (v : Nat) (s : State) : exec (.cardRail v) s = execCardRail v s := rfl

@[simp] theorem exec_cardDecay (v : Nat) (s : State) : exec (.cardDecay v) s = execCardDecay v s := rfl

@[simp] theorem exec_cardChop (v : Nat) (s : State) : exec (.cardChop v) s = execCardChop v s := rfl

@[simp] theorem exec_cardDrive (v : Nat) (s : State) : exec (.cardDrive v) s = execCardDrive v s := rfl

@[simp] theorem exec_cardOff (v : Nat) (s : State) : exec (.cardOff v) s = execCardOff v s := rfl

@[simp] theorem exec_cardGrant (v : Nat) (s : State) : exec (.cardGrant v) s = execCardGrant v s := rfl

@[simp] theorem exec_cardRelease (v : Nat) (s : State) : exec (.cardRelease v) s = execCardRelease v s := rfl

@[simp] theorem exec_cardWait (v : Nat) (s : State) : exec (.cardWait v) s = execCardWait v s := rfl

@[simp] theorem exec_cardWseat (v : Nat) (s : State) : exec (.cardWseat v) s = execCardWseat v s := rfl

@[simp] theorem exec_cardWcmd (v : Nat) (s : State) : exec (.cardWcmd v) s = execCardWcmd v s := rfl

@[simp] theorem exec_cardWdrop (v : Nat) (s : State) : exec (.cardWdrop v) s = execCardWdrop v s := rfl

@[simp] theorem exec_cardSeatcfg (v : Nat) (s : State) : exec (.cardSeatcfg v) s = execCardSeatcfg v s := rfl

@[simp] theorem exec_cardMarkh (v : Nat) (s : State) : exec (.cardMarkh v) s = execCardMarkh v s := rfl

@[simp] theorem exec_cardJmp (v : Nat) (s : State) : exec (.cardJmp v) s = execCardJmp v s := rfl

@[simp] theorem exec_cardJcmd (v : Nat) (s : State) : exec (.cardJcmd v) s = execCardJcmd v s := rfl

@[simp] theorem exec_cardJlt (v current : Nat) (s : State) :
    exec (.cardJlt v current) s = execCardJlt v current s := rfl

@[simp] theorem exec_cardJrlt (v : Nat) (s : State) : exec (.cardJrlt v) s = execCardJrlt v s := rfl

@[simp] theorem exec_cardLstep (v : Nat) (s : State) : exec (.cardLstep v) s = execCardLstep v s := rfl

@[simp] theorem exec_cardLsave (v : Nat) (s : State) : exec (.cardLsave v) s = execCardLsave v s := rfl

@[simp] theorem exec_cardFlag (v : Nat) (s : State) : exec (.cardFlag v) s = execCardFlag v s := rfl

@[simp] theorem exec_cardEnd (v : Nat) (s : State) : exec (.cardEnd v) s = execCardEnd v s := rfl

@[simp] theorem exec_budgetGranted (b : Nat) (s : State) : exec (.budgetGranted b) s = execBudgetGranted b s := rfl

@[simp] theorem exec_waitExpiry (v : Nat) (s : State) : exec (.waitExpiry v) s = execWaitExpiry v s := rfl

@[simp] theorem exec_seatDetected (v stamp eCoil eMag : Nat) (s : State) :
    exec (.seatDetected v stamp eCoil eMag) s = execSeatDetected v stamp eCoil eMag s := rfl

@[simp] theorem exec_wseatTimeout (v : Nat) (s : State) : exec (.wseatTimeout v) s = execWseatTimeout v s := rfl

@[simp] theorem exec_dropoutDetected (v : Nat) (s : State) :
    exec (.dropoutDetected v) s = execDropoutDetected v s := rfl

@[simp] theorem exec_wdropTimeout (v : Nat) (s : State) : exec (.wdropTimeout v) s = execWdropTimeout v s := rfl

@[simp] theorem exec_decayComplete (v : Nat) (s : State) : exec (.decayComplete v) s = execDecayComplete v s := rfl

@[simp] theorem exec_chopperPeriodStart (v : Nat) (s : State) :
    exec (.chopperPeriodStart v) s = execChopperPeriodStart v s := rfl

@[simp] theorem exec_chopperOffEdge (v : Nat) (s : State) : exec (.chopperOffEdge v) s = execChopperOffEdge v s := rfl

@[simp] theorem exec_learnWindowGrant (v : Nat) (s : State) :
    exec (.learnWindowGrant v) s = execLearnWindowGrant v s := rfl

@[simp] theorem exec_wait5200Expiry (v : Nat) (s : State) : exec (.wait5200Expiry v) s = execWait5200Expiry v s := rfl

@[simp] theorem exec_coilResMeasured (v milliohm : Nat) (s : State) :
    exec (.coilResMeasured v milliohm) s = execCoilResMeasured v milliohm s := rfl

@[simp] theorem exec_channelTrip (v : Nat) (s : State) : exec (.channelTrip v) s = execChannelTrip v s := rfl

@[simp] theorem exec_bankTrip (b : Nat) (s : State) : exec (.bankTrip b) s = execBankTrip b s := rfl

@[simp] theorem exec_offStateTest (v : Nat) (openOff shortGnd shortSupply : Bool) (s : State) :
    exec (.offStateTest v openOff shortGnd shortSupply) s = execOffStateTest v openOff shortGnd shortSupply s := rfl

@[simp] theorem exec_onStateDiag (v : Nat) (kind : OnDiag) (present : Bool) (s : State) :
    exec (.onStateDiag v kind present) s = execOnStateDiag v kind present s := rfl

@[simp] theorem exec_vlvDiagClear (env : Env) (v : Nat) (data : List Byte) (s : State) :
    exec (.vlvDiagClear env v data) s = execVlvDiagClear env v data s := rfl

@[simp] theorem exec_cardImage (env : Env) (j : Nat) (data : List Byte) (s : State) :
    exec (.cardImage env j data) s = execCardImage env j data s := rfl

@[simp] theorem exec_ioInputSample (io : Nat) (millivolt : Int) (microamp : Nat) (s : State) :
    exec (.ioInputSample io millivolt microamp) s = execIoInputSample io millivolt microamp s := rfl

@[simp] theorem exec_ioFilterExpiry (io : Nat) (s : State) :
    exec (.ioFilterExpiry io) s = execIoFilterExpiry io s := rfl

@[simp] theorem exec_tachEdge (io : Nat) (s : State) : exec (.tachEdge io) s = execTachEdge io s := rfl

@[simp] theorem exec_ioCmd (env : Env) (io : Nat) (data : List Byte) (s : State) :
    exec (.ioCmd env io data) s = execIoCmd env io data s := rfl

@[simp] theorem exec_ioCurrentLimit (io : Nat) (current : Int) (s : State) :
    exec (.ioCurrentLimit io current) s = execIoCurrentLimit io current s := rfl

@[simp] theorem exec_ioThermalShutdown (io : Nat) (s : State) :
    exec (.ioThermalShutdown io) s = execIoThermalShutdown io s := rfl

@[simp] theorem exec_ioThermalRestart (io : Nat) (s : State) :
    exec (.ioThermalRestart io) s = execIoThermalRestart io s := rfl

@[simp] theorem exec_groupShed (g : Nat) (currents : List Int) (s : State) :
    exec (.groupShed g currents) s = execGroupShed g currents s := rfl

@[simp] theorem exec_groupReinstate (g : Nat) (s : State) : exec (.groupReinstate g) s = execGroupReinstate g s := rfl

@[simp] theorem exec_ioOutputDiag (io : Nat) (kind : IoDiag) (present : Bool) (s : State) :
    exec (.ioOutputDiag io kind present) s = execIoOutputDiag io kind present s := rfl

@[simp] theorem exec_ioDiagClear (env : Env) (io : Nat) (data : List Byte) (s : State) :
    exec (.ioDiagClear env io data) s = execIoDiagClear env io data s := rfl

@[simp] theorem exec_barrierFrame (crcOk : Bool) (power : Nat) (s : State) :
    exec (.barrierFrame crcOk power) s = execBarrierFrame crcOk power s := rfl

@[simp] theorem exec_barrierLinkDown (s : State) : exec .barrierLinkDown s = execBarrierLinkDown s := rfl

@[simp] theorem exec_fwdRefresh (s : State) : exec .fwdRefresh s = execFwdRefresh s := rfl

@[simp] theorem exec_fwdTrip (s : State) : exec .fwdTrip s = execFwdTrip s := rfl

@[simp] theorem exec_barrierSupplyLoss (s : State) : exec .barrierSupplyLoss s = execBarrierSupplyLoss s := rfl

@[simp] theorem exec_fwdRearm (env : Env) (data : List Byte) (s : State) :
    exec (.fwdRearm env data) s = execFwdRearm env data s := rfl

@[simp] theorem exec_supplyLost (g : Nat) (s : State) : exec (.supplyLost g) s = execSupplyLost g s := rfl

@[simp] theorem exec_supplyReturn (g : Nat) (s : State) : exec (.supplyReturn g) s = execSupplyReturn g s := rfl

@[simp] theorem exec_ioModeChangeEnd (io : Nat) (s : State) :
    exec (.ioModeChangeEnd io) s = execIoModeChangeEnd io s := rfl

@[simp] theorem exec_pwmPeriodStart (k : Nat) (s : State) : exec (.pwmPeriodStart k) s = execPwmPeriodStart k s := rfl

@[simp] theorem exec_pwmCentre (k : Nat) (s : State) : exec (.pwmCentre k) s = execPwmCentre k s := rfl

@[simp] theorem exec_fanCmd (env : Env) (f : Nat) (data : List Byte) (s : State) :
    exec (.fanCmd env f data) s = execFanCmd env f data s := rfl

@[simp] theorem exec_speedEvaluation (f : Nat) (measured : Int) (s : State) :
    exec (.speedEvaluation f measured) s = execSpeedEvaluation f measured s := rfl

@[simp] theorem exec_listenEnd (k : Nat) (locked forward : Bool) (speed : Int) (s : State) :
    exec (.listenEnd k locked forward speed) s = execListenEnd k locked forward speed s := rfl

@[simp] theorem exec_zeroVectorEnd (k : Nat) (s : State) : exec (.zeroVectorEnd k) s = execZeroVectorEnd k s := rfl

@[simp] theorem exec_alignEnd (k : Nat) (s : State) : exec (.alignEnd k) s = execAlignEnd k s := rfl

@[simp] theorem exec_observerLock (k : Nat) (s : State) : exec (.observerLock k) s = execObserverLock k s := rfl

@[simp] theorem exec_startAttemptFail (k : Nat) (s : State) :
    exec (.startAttemptFail k) s = execStartAttemptFail k s := rfl

@[simp] theorem exec_pauseEnd (k : Nat) (s : State) : exec (.pauseEnd k) s = execPauseEnd k s := rfl

@[simp] theorem exec_blockedRestEnd (k : Nat) (s : State) : exec (.blockedRestEnd k) s = execBlockedRestEnd k s := rfl

@[simp] theorem exec_phaseTrip (k : Nat) (s : State) : exec (.phaseTrip k) s = execPhaseTrip k s := rfl

@[simp] theorem exec_lockLost (k : Nat) (s : State) : exec (.lockLost k) s = execLockLost k s := rfl

@[simp] theorem exec_fanRestart (k : Nat) (s : State) : exec (.fanRestart k) s = execFanRestart k s := rfl

@[simp] theorem exec_ecTachLoss (e : Nat) (mean : Int) (s : State) :
    exec (.ecTachLoss e mean) s = execEcTachLoss e mean s := rfl

@[simp] theorem exec_tableRead (f : Nat) (s : State) : exec (.tableRead f) s = execTableRead f s := rfl

@[simp] theorem exec_fanDiagClear (env : Env) (f : Nat) (data : List Byte) (s : State) :
    exec (.fanDiagClear env f data) s = execFanDiagClear env f data s := rfl

@[simp] theorem exec_frameStart (s : State) : exec .frameStart s = execFrameStart s := rfl

@[simp] theorem exec_rowSlot (s : State) : exec .rowSlot s = execRowSlot s := rfl

@[simp] theorem exec_displayBandEval (s : State) : exec .displayBandEval s = execDisplayBandEval s := rfl

@[simp] theorem exec_image (env : Env) (data : List Byte) (s : State) :
    exec (.image env data) s = execImage env data s := rfl

@[simp] theorem exec_row (env : Env) (r : Nat) (data : List Byte) (s : State) :
    exec (.row env r data) s = execRow env r data s := rfl

@[simp] theorem exec_updateRoundStart (s : State) : exec .updateRoundStart s = execUpdateRoundStart s := rfl

@[simp] theorem exec_updateRoundEnd (s : State) : exec .updateRoundEnd s = execUpdateRoundEnd s := rfl

@[simp] theorem exec_ledgerReset (env : Env) (data : List Byte) (s : State) :
    exec (.ledgerReset env data) s = execLedgerReset env data s := rfl

@[simp] theorem exec_vlcdFault (millivolt : Nat) (s : State) :
    exec (.vlcdFault millivolt) s = execVlcdFault millivolt s := rfl

@[simp] theorem exec_dispModeSwitchEnd (s : State) : exec .dispModeSwitchEnd s = execDispModeSwitchEnd s := rfl

@[simp] theorem exec_scrubRead (errs : List Nat) (s : State) : exec (.scrubRead errs) s = execScrubRead errs s := rfl

@[simp] theorem exec_correctedWriteback (mem : MemKind) (offset : Nat) (s : State) :
    exec (.correctedWriteback mem offset) s = execCorrectedWriteback mem offset s := rfl

@[simp] theorem exec_heddleRewrite (entry : Nat) (s : State) :
    exec (.heddleRewrite entry) s = execHeddleRewrite entry s := rfl

@[simp] theorem exec_spareMoveComplete (s : State) : exec .spareMoveComplete s = execSpareMoveComplete s := rfl

@[simp] theorem exec_invalidate (env : Env) (data : List Byte) (s : State) :
    exec (.invalidate env data) s = execInvalidate env data s := rfl

@[simp] theorem exec_invalidationComplete (s : State) : exec .invalidationComplete s = execInvalidationComplete s := rfl

@[simp] theorem exec_thermalEvaluation (s : State) : exec .thermalEvaluation s = execThermalEvaluation s := rfl

@[simp] theorem exec_dieRestart (die : Nat) (s : State) : exec (.dieRestart die) s = execDieRestart die s := rfl

@[simp] theorem exec_thermClear (env : Env) (data : List Byte) (s : State) :
    exec (.thermClear env data) s = execThermClear env data s := rfl

@[simp] theorem exec_readbackCheck (readings : List (Nat × Int)) (s : State) :
    exec (.readbackCheck readings) s = execReadbackCheck readings s := rfl

@[simp] theorem exec_checkpoint (core : Nat) (inOrder last : Bool) (s : State) :
    exec (.checkpoint core inOrder last) s = execCheckpoint core inOrder last s := rfl

@[simp] theorem exec_watchdogExpiry (s : State) : exec .watchdogExpiry s = execWatchdogExpiry s := rfl

@[simp] theorem exec_safeToggle (s : State) : exec .safeToggle s = execSafeToggle s := rfl

@[simp] theorem exec_autoRestart (s : State) : exec .autoRestart s = execAutoRestart s := rfl

@[simp] theorem exec_safetyClear (env : Env) (data : List Byte) (s : State) :
    exec (.safetyClear env data) s = execSafetyClear env data s := rfl

@[simp] theorem exec_safetyReset (env : Env) (data : List Byte) (s : State) :
    exec (.safetyReset env data) s = execSafetyReset env data s := rfl

@[simp] theorem exec_safetyTest (env : Env) (data : List Byte) (s : State) :
    exec (.safetyTest env data) s = execSafetyTest env data s := rfl

@[simp] theorem exec_safetyLock (env : Env) (data : List Byte) (s : State) :
    exec (.safetyLock env data) s = execSafetyLock env data s := rfl

@[simp] theorem exec_safetyPubkey (env : Env) (data : List Byte) (s : State) :
    exec (.safetyPubkey env data) s = execSafetyPubkey env data s := rfl

@[simp] theorem exec_safetyChallenge (env : Env) (s : State) :
    exec (.safetyChallenge env) s = execSafetyChallenge env s := rfl

@[simp] theorem exec_challengeExpiry (sess : Sess) (s : State) :
    exec (.challengeExpiry sess) s = execChallengeExpiry sess s := rfl

@[simp] theorem exec_safetyResponse (env : Env) (data : List Byte) (s : State) :
    exec (.safetyResponse env data) s = execSafetyResponse env data s := rfl

@[simp] theorem exec_aliveTimer (s : State) : exec .aliveTimer s = execAliveTimer s := rfl

@[simp] theorem exec_alive (lane : Nat) (crcOk : Bool) (info : AliveInfo) (s : State) :
    exec (.alive lane crcOk info) s = execAlive lane crcOk info s := rfl

@[simp] theorem exec_mirror (lane : Nat) (crcOk : Bool) (items : List MirrorItem) (s : State) :
    exec (.mirror lane crcOk items) s = execMirror lane crcOk items s := rfl

@[simp] theorem exec_mirrorSend (heddles : List Nat) (s : State) :
    exec (.mirrorSend heddles) s = execMirrorSend heddles s := rfl

@[simp] theorem exec_config (lane : Nat) (crcOk : Bool) (gen : Nat) (changes : List (Nat × Val)) (s : State) :
    exec (.config lane crcOk gen changes) s = execConfig lane crcOk gen changes s := rfl

@[simp] theorem exec_join (lane : Nat) (crcOk : Bool) (part : JoinPart) (s : State) :
    exec (.join lane crcOk part) s = execJoin lane crcOk part s := rfl

@[simp] theorem exec_relinquish (lane : Nat) (crcOk : Bool) (s : State) :
    exec (.relinquish lane crcOk) s = execRelinquish lane crcOk s := rfl

@[simp] theorem exec_taken (lane : Nat) (crcOk : Bool) (s : State) :
    exec (.taken lane crcOk) s = execTaken lane crcOk s := rfl

@[simp] theorem exec_selvedgeLaneDown (lane : Nat) (s : State) :
    exec (.selvedgeLaneDown lane) s = execSelvedgeLaneDown lane s := rfl

@[simp] theorem exec_selvedgeLinkDown (s : State) : exec .selvedgeLinkDown s = execSelvedgeLinkDown s := rfl

@[simp] theorem exec_selRoleToggle (s : State) : exec .selRoleToggle s = execSelRoleToggle s := rfl

@[simp] theorem exec_selPeerEdge (s : State) : exec .selPeerEdge s = execSelPeerEdge s := rfl

@[simp] theorem exec_selPeerIdle (s : State) : exec .selPeerIdle s = execSelPeerIdle s := rfl

@[simp] theorem exec_roleDecisionTimeout (s : State) : exec .roleDecisionTimeout s = execRoleDecisionTimeout s := rfl

@[simp] theorem exec_dualActive (s : State) : exec .dualActive s = execDualActive s := rfl

@[simp] theorem exec_peerHeartbeat (node role : Nat) (s : State) :
    exec (.peerHeartbeat node role) s = execPeerHeartbeat node role s := rfl

@[simp] theorem exec_takeover (s : State) : exec .takeover s = execTakeover s := rfl

@[simp] theorem exec_switchover (env : Env) (data : List Byte) (s : State) :
    exec (.switchover env data) s = execSwitchover env data s := rfl

@[simp] theorem exec_takenTimeout (s : State) : exec .takenTimeout s = execTakenTimeout s := rfl

@[simp] theorem exec_forceTakeover (env : Env) (data : List Byte) (s : State) :
    exec (.forceTakeover env data) s = execForceTakeover env data s := rfl

@[simp] theorem exec_txFrame (env : Env) (x : Nat) (data : List Byte) (s : State) :
    exec (.txFrame env x data) s = execTxFrame env x data s := rfl

@[simp] theorem exec_txCancel (env : Env) (x : Nat) (data : List Byte) (s : State) :
    exec (.txCancel env x data) s = execTxCancel env x data s := rfl

@[simp] theorem exec_canTxComplete (x : Nat) (s : State) : exec (.canTxComplete x) s = execCanTxComplete x s := rfl

@[simp] theorem exec_canFrameReceived (x : Nat) (frame : RxFrame) (s : State) :
    exec (.canFrameReceived x frame) s = execCanFrameReceived x frame s := rfl

@[simp] theorem exec_rxAck (env : Env) (x o : Nat) (data : List Byte) (s : State) :
    exec (.rxAck env x o data) s = execRxAck env x o data s := rfl

@[simp] theorem exec_record (env : Env) (x o : Nat) (s : State) : exec (.record env x o) s = execRecord env x o s := rfl

@[simp] theorem exec_canError (x : Nat) (kind : CanErrKind) (transmitting : Bool) (amount : Nat) (s : State) :
    exec (.canError x kind transmitting amount) s = execCanError x kind transmitting amount s := rfl

@[simp] theorem exec_busoffHoldoffEnd (x : Nat) (s : State) :
    exec (.busoffHoldoffEnd x) s = execBusoffHoldoffEnd x s := rfl

@[simp] theorem exec_recover (env : Env) (x : Nat) (data : List Byte) (s : State) :
    exec (.recover env x data) s = execRecover env x data s := rfl

@[simp] theorem exec_busOffRecovered (x : Nat) (s : State) :
    exec (.busOffRecovered x) s = execBusOffRecovered x s := rfl

@[simp] theorem exec_loneRetry (x : Nat) (s : State) : exec (.loneRetry x) s = execLoneRetry x s := rfl

@[simp] theorem exec_rateCandidateTimer (x : Nat) (s : State) :
    exec (.rateCandidateTimer x) s = execRateCandidateTimer x s := rfl

@[simp] theorem exec_reintegrationDone (x : Nat) (s : State) :
    exec (.reintegrationDone x) s = execReintegrationDone x s := rfl

@[simp] theorem exec_urgentDiscard (x : Nat) (s : State) : exec (.urgentDiscard x) s = execUrgentDiscard x s := rfl

@[simp] theorem exec_txDomTimeout (x : Nat) (s : State) : exec (.txDomTimeout x) s = execTxDomTimeout x s := rfl

@[simp] theorem exec_sleepReq (env : Env) (x : Nat) (data : List Byte) (s : State) :
    exec (.sleepReq env x data) s = execSleepReq env x data s := rfl

@[simp] theorem exec_sleepEntry (x : Nat) (s : State) : exec (.sleepEntry x) s = execSleepEntry x s := rfl

@[simp] theorem exec_dominantWake (x nanoseconds : Nat) (s : State) :
    exec (.dominantWake x nanoseconds) s = execDominantWake x nanoseconds s := rfl

@[simp] theorem exec_wakeFrame (x : Nat) (frame : CanFrame) (s : State) :
    exec (.wakeFrame x frame) s = execWakeFrame x frame s := rfl

@[simp] theorem exec_wakeErrorCount (x : Nat) (error : Bool) (s : State) :
    exec (.wakeErrorCount x error) s = execWakeErrorCount x error s := rfl

@[simp] theorem exec_trxOvertemp (x : Nat) (hot : Bool) (s : State) :
    exec (.trxOvertemp x hot) s = execTrxOvertemp x hot s := rfl

@[simp] theorem exec_canTriggerFrame (x dest source : Nat) (data : List Byte) (s : State) :
    exec (.canTriggerFrame x dest source data) s = execCanTriggerFrame x dest source data s := rfl

@[simp] theorem exec_snapTrigger (env : Env) (data : List Byte) (s : State) :
    exec (.snapTrigger env data) s = execSnapTrigger env data s := rfl

@[simp] theorem exec_trigInEdge (rising : Bool) (s : State) :
    exec (.trigInEdge rising) s = execTrigInEdge rising s := rfl

@[simp] theorem exec_armAt (env : Env) (slot : Nat) (data : List Byte) (s : State) :
    exec (.armAt env slot data) s = execArmAt env slot data s := rfl

@[simp] theorem exec_armAtReached (slot : Nat) (s : State) :
    exec (.armAtReached slot) s = execArmAtReached slot s := rfl

@[simp] theorem exec_captureCopyComplete (s : State) : exec .captureCopyComplete s = execCaptureCopyComplete s := rfl

@[simp] theorem exec_trigOutEnd (s : State) : exec .trigOutEnd s = execTrigOutEnd s := rfl

@[simp] theorem exec_snapRelease (env : Env) (slot : Nat) (data : List Byte) (s : State) :
    exec (.snapRelease env slot data) s = execSnapRelease env slot data s := rfl

@[simp] theorem exec_logWrite (s : State) : exec .logWrite s = execLogWrite s := rfl

@[simp] theorem exec_logRecord (env : Env) (s : State) : exec (.logRecord env) s = execLogRecord env s := rfl

@[simp] theorem exec_resetRelease (s : State) : exec .resetRelease s = execResetRelease s := rfl

@[simp] theorem exec_resetN (level : Bool) (s : State) : exec (.resetN level) s = execResetN level s := rfl

@[simp] theorem exec_powerLoss (s : State) : exec .powerLoss s = execPowerLoss s := rfl

@[simp] theorem exec_bootRomDone (s : State) : exec .bootRomDone s = execBootRomDone s := rfl

@[simp] theorem exec_signatureCheckDone (badBoot badOther : List Nat) (s : State) :
    exec (.signatureCheckDone badBoot badOther) s = execSignatureCheckDone badBoot badOther s := rfl

@[simp] theorem exec_repairMapResolve (s : State) : exec .repairMapResolve s = execRepairMapResolve s := rfl

@[simp] theorem exec_memorySelfTest (sramFails mramFails : List (Nat × Nat)) (s : State) :
    exec (.memorySelfTest sramFails mramFails) s = execMemorySelfTest sramFails mramFails s := rfl

@[simp] theorem exec_configResolution (vrtc rtcSec rtcFrac : Nat) (s : State) :
    exec (.configResolution vrtc rtcSec rtcFrac) s = execConfigResolution vrtc rtcSec rtcFrac s := rfl

@[simp] theorem exec_warpStepEnd (s : State) : exec .warpStepEnd s = execWarpStepEnd s := rfl

@[simp] theorem exec_operational (s : State) : exec .operational s = execOperational s := rfl

@[simp] theorem exec_outputRelease (s : State) : exec .outputRelease s = execOutputRelease s := rfl

@[simp] theorem exec_holdupMeasurement (s : State) : exec .holdupMeasurement s = execHoldupMeasurement s := rfl

@[simp] theorem exec_holdupMeasureEnd (onset : HoldupOnset) (drain : HoldupDrain) (s : State) :
    exec (.holdupMeasureEnd onset drain) s = execHoldupMeasureEnd onset drain s := rfl

@[simp] theorem exec_vinSag (s : State) : exec .vinSag s = execVinSag s := rfl

@[simp] theorem exec_saveDone (bytes : Nat) (s : State) : exec (.saveDone bytes) s = execSaveDone bytes s := rfl

@[simp] theorem exec_brownoutClear (s : State) : exec .brownoutClear s = execBrownoutClear s := rfl

@[simp] theorem exec_slewEnd (s : State) : exec .slewEnd s = execSlewEnd s := rfl

end Sys2Proof.Machine
end

