-- ==== Sys2Proof/Laws/Flags.lean ====
section
/-! SUPPORT. Bits of a flag register: what setting one changes. -/

namespace Sys2Proof.Machine

/-- A bit that has been set to `b` reads `b`. -/
theorem Flag.get_set_self (f : Flags) {i : Nat} (b : Bool) (h : i < 16) : Flag.get (Flag.set f i b) i = b := by
  cases b
  · simp [Flag.get, Flag.set, h]
  · simp [Flag.get, Flag.set, h]

/-- Setting a bit leaves every other bit. -/
theorem Flag.get_set_other (f : Flags) {i j : Nat} (b : Bool) (h : j ≠ i) :
    Flag.get (Flag.set f i b) j = Flag.get f j := by
  cases b
  · simp only [Flag.get, Flag.set, Bool.false_eq_true, if_false]
    rw [BitVec.getLsbD_and, BitVec.getLsbD_not, BitVec.getLsbD_shiftLeft]
    by_cases hj : j < 16
    · by_cases hl : j < i
      · simp [hj, hl]
      · simp only [hj, hl, decide_true, Bool.true_and, decide_false, Bool.not_false]
        have : j - i ≠ 0 := by omega
        simp [BitVec.getLsbD_one, this]
    · simp [BitVec.getLsbD_of_ge _ _ (by omega : 16 ≤ j)]
  · simp only [Flag.get, Flag.set, if_true]
    rw [BitVec.getLsbD_or, BitVec.getLsbD_shiftLeft]
    by_cases hj : j < 16
    · by_cases hl : j < i
      · simp [hj, hl]
      · have : j - i ≠ 0 := by omega
        simp [BitVec.getLsbD_one, this]
    · simp [hj]

end Sys2Proof.Machine
end

