-- ==== Sys2Proof/Laws/Table.lean ====
section
/-! SUPPORT. Sparse tables: what a write changes, and that every operation keeps the canonical form. -/

namespace Sys2Proof.Machine

variable {α : Type}

theorem Table.getD_put_self (d : Nat → α) (t : Table α) (k : Nat) (v : α) : Table.getD d (Table.put t k v) k = v := by
  induction t with
  | nil => simp [Table.put, Table.getD]
  | cons e t ih =>
    obtain ⟨j, w⟩ := e
    simp only [Table.put]
    split
    · simp [Table.getD]
    · split
      · simp [Table.getD]
      · simp only [Table.getD]
        split
        · omega
        · exact ih

theorem Table.getD_put_other (d : Nat → α) (t : Table α) {j k : Nat} (v : α) (h : j ≠ k) :
    Table.getD d (Table.put t k v) j = Table.getD d t j := by
  induction t with
  | nil => simp [Table.put, Table.getD, Ne.symm h]
  | cons e t ih =>
    obtain ⟨i, w⟩ := e
    simp only [Table.put]
    split
    · simp [Table.getD, Ne.symm h]
    · split
      · next e => subst e; simp [Table.getD, Ne.symm h]
      · simp only [Table.getD]; split <;> simp_all

theorem Table.above_put (t : Table α) (i k : Nat) (v : α) :
    Table.above i (Table.put t k v) = (decide (i < k) && Table.above i t) := by
  induction t with
  | nil => simp [Table.put, Table.above]
  | cons e t ih =>
    obtain ⟨j, w⟩ := e
    simp only [Table.put]
    split
    · simp [Table.above]
    · split
      · next e => subst e; simp [Table.above]
      · simp only [Table.above, ih]; cases decide (i < j) <;> simp

theorem Table.above_trans {i j : Nat} (t : Table α) (h : i ≤ j) (ha : Table.above j t = true) : Table.above i t = true := by
  induction t with
  | nil => rfl
  | cons e t ih =>
    simp only [Table.above, Bool.and_eq_true, decide_eq_true_eq] at ha ⊢
    exact ⟨by omega, ih ha.2⟩

/-- An address below every listed one reads as the default. -/
theorem Table.getD_above (d : Nat → α) (t : Table α) {i k : Nat} (h : i ≤ k) (ha : Table.above k t = true) :
    Table.getD d t i = d i := by
  induction t with
  | nil => rfl
  | cons e t ih =>
    simp only [Table.above, Bool.and_eq_true, decide_eq_true_eq] at ha
    simp only [Table.getD]
    split
    · omega
    · exact ih ha.2

variable [DecidableEq α]

theorem Table.wf_put (d : Nat → α) (t : Table α) (k : Nat) {v : α} (hv : v ≠ d k) (h : Table.wf d t = true) :
    Table.wf d (Table.put t k v) = true := by
  induction t with
  | nil => simp [Table.put, Table.wf, Table.above, hv]
  | cons e t ih =>
    obtain ⟨j, w⟩ := e
    simp only [Table.wf, Bool.and_eq_true, decide_eq_true_eq] at h
    simp only [Table.put]
    split
    · next hk =>
      have ha := Table.above_trans t (Nat.le_of_lt hk) h.1.1
      simp [Table.wf, Table.above, h, hk, hv, ha]
    · split
      · next e => subst e; simp [Table.wf, h, hv]
      · have : j < k := by omega
        simp [Table.wf, Table.above_put, h, ih h.2, this]

omit [DecidableEq α] in
theorem Table.above_del (t : Table α) (i k : Nat) (h : Table.above i t = true) : Table.above i (Table.del t k) = true := by
  induction t with
  | nil => rfl
  | cons e t ih =>
    obtain ⟨j, w⟩ := e
    simp only [Table.above, Bool.and_eq_true] at h
    simp only [Table.del]
    split
    · exact ih h.2
    · simp [Table.above, h, ih h.2]

theorem Table.wf_del (d : Nat → α) (t : Table α) (k : Nat) (h : Table.wf d t = true) : Table.wf d (Table.del t k) = true := by
  induction t with
  | nil => rfl
  | cons e t ih =>
    obtain ⟨j, w⟩ := e
    simp only [Table.wf, Bool.and_eq_true] at h
    simp only [Table.del]
    split
    · exact ih h.2
    · simp [Table.wf, h, ih h.2, Table.above_del t j k h.1.1]

theorem Table.wf_set (d : Nat → α) (t : Table α) (k : Nat) (v : α) (h : Table.wf d t = true) :
    Table.wf d (Table.set d t k v) = true := by
  unfold Table.set
  split
  · exact Table.wf_del d t k h
  · next hv => exact Table.wf_put d t k hv h

theorem Table.wf_modify (d : Nat → α) (t : Table α) (k : Nat) (f : α → α) (h : Table.wf d t = true) :
    Table.wf d (Table.modify d t k f) = true := Table.wf_set d t k _ h

theorem Table.wf_setRun (d : Nat → α) (l : List α) (t : Table α) (k : Nat) (h : Table.wf d t = true) :
    Table.wf d (Table.setRun d t k l) = true := by
  induction l generalizing t k with
  | nil => exact h
  | cons v l ih => exact ih _ _ (Table.wf_set d t k v h)

omit [DecidableEq α] in
theorem Table.getD_del_other (d : Nat → α) (t : Table α) {j k : Nat} (h : j ≠ k) :
    Table.getD d (Table.del t k) j = Table.getD d t j := by
  induction t with
  | nil => rfl
  | cons e t ih =>
    obtain ⟨i, w⟩ := e
    simp only [Table.del]
    split
    · next e => subst e; simp [Table.getD, Ne.symm h, ih]
    · simp only [Table.getD]; split <;> simp_all

omit [DecidableEq α] in
theorem Table.getD_del_self (d : Nat → α) (t : Table α) (k : Nat) : Table.getD d (Table.del t k) k = d k := by
  induction t with
  | nil => rfl
  | cons e t ih =>
    obtain ⟨j, w⟩ := e
    simp only [Table.del]
    split
    · exact ih
    · next e => simp only [Table.getD, e, if_false]; exact ih

/-- A read after a write to the same key gives the value written. -/
theorem Table.getD_set_self (d : Nat → α) (t : Table α) (k : Nat) (v : α) : Table.getD d (Table.set d t k v) k = v := by
  unfold Table.set
  split
  · next hv => rw [Table.getD_del_self d t k, hv]
  · exact Table.getD_put_self d t k v

/-- A write leaves every other key alone. -/
theorem Table.getD_set_other (d : Nat → α) (t : Table α) {j k : Nat} (v : α) (h : j ≠ k) :
    Table.getD d (Table.set d t k v) j = Table.getD d t j := by
  unfold Table.set
  split
  · exact Table.getD_del_other d t h
  · exact Table.getD_put_other d t v h

theorem Table.getD_modify_self (d : Nat → α) (t : Table α) (k : Nat) (f : α → α) :
    Table.getD d (Table.modify d t k f) k = f (Table.getD d t k) := Table.getD_set_self d t k _

theorem Table.getD_modify_other (d : Nat → α) (t : Table α) {j k : Nat} (f : α → α) (h : j ≠ k) :
    Table.getD d (Table.modify d t k f) j = Table.getD d t j := Table.getD_set_other d t _ h

/-- A read after a write. -/
theorem Table.getD_modify (d : Nat → α) (t : Table α) (j k : Nat) (f : α → α) :
    Table.getD d (Table.modify d t k f) j = if j = k then f (Table.getD d t k) else Table.getD d t j := by
  split
  · next e => rw [e]; exact Table.getD_modify_self d t k f
  · next e => exact Table.getD_modify_other d t f e

/-- A run of writes leaves every key outside it alone. -/
theorem Table.getD_setRun_other (d : Nat → α) (l : List α) (t : Table α) (k : Nat) {j : Nat}
    (h : j < k ∨ k + l.length ≤ j) : Table.getD d (Table.setRun d t k l) j = Table.getD d t j := by
  induction l generalizing t k with
  | nil => rfl
  | cons v l ih =>
    simp only [List.length_cons] at h
    simp only [Table.setRun]
    rw [ih _ _ (by omega), Table.getD_set_other d t v (by omega)]

/-- A run of writes gives each key of it its value. -/
theorem Table.getD_setRun_in (d : Nat → α) (l : List α) (t : Table α) (k : Nat) {i : Nat}
    (hi : i < l.length) : Table.getD d (Table.setRun d t k l) (k + i) = l[i] := by
  induction l generalizing t k i with
  | nil => exact absurd hi (Nat.not_lt_zero i)
  | cons v l ih =>
    simp only [Table.setRun]
    cases i with
    | zero => rw [Table.getD_setRun_other d l _ _ (by omega), Nat.add_zero, Table.getD_set_self d t k v]; rfl
    | succ i =>
      have := ih (Table.set d t k v) (k + 1) (i := i) (by simpa using hi)
      simpa [Nat.add_assoc, Nat.add_comm 1 i] using this

end Sys2Proof.Machine
end

