-- ==== Sys2Proof/Laws/Keeps.lean ====
section
/-! SUPPORT. What no operation of the module touches: the queue of waiting commands and the engine clock; and that every
operation keeps the memories and the queues sound. -/

namespace Sys2Proof.Machine

/-- `t` has the queue and the clock of `s`, and it is sound if `s` is. -/
structure Keeps (s t : State) : Prop where
  pending : t.pending = s.pending
  clk : t.clk = s.clk
  sound : Sound s → Sound t

/-- An outcome is a next state that keeps `s`. -/
def Goes (s : State) (o : Out) : Prop := ∃ t, o = .next t ∧ Keeps s t

theorem Keeps.refl (s : State) : Keeps s s := ⟨rfl, rfl, id⟩

theorem Keeps.trans {s t u : State} (h : Keeps s t) (k : Keeps t u) : Keeps s u :=
  ⟨k.pending.trans h.pending, k.clk.trans h.clk, fun x => k.sound (h.sound x)⟩

theorem keeps_next {s t : State} (h : Keeps s t) : Goes s (.next t) := ⟨t, rfl, h⟩

/-- The parts of a state that `Keeps` speaks of. -/
def Parts (s : State) (pending : List Instr) (clk : Nat) (sram : Table Byte) (cards : Table (BitVec 32))
    (ring queue hostEvents nodeEvents : List LogRec) : Prop :=
  pending = s.pending ∧ clk = s.clk ∧ (Sound s → Table.wf sramDefault sram = true ∧ Table.wf (blank 0#32) cards = true ∧
    ring.length ≤ ringSize ∧ queue.length ≤ queueSize ∧ hostEvents.length ≤ queueSize ∧ nodeEvents.length ≤ queueSize)

theorem Keeps.iff_parts {s t : State} : Keeps s t ↔ Parts s t.pending t.clk t.mem.sram t.valve.cards t.mram.log
    t.snap.queue t.host.events t.host.nodeEvents :=
  ⟨fun h => ⟨h.pending, h.clk, fun x => let k := h.sound x; ⟨k.sram, k.cards, k.ring, k.queue, k.hostEvents, k.nodeEvents⟩⟩,
   fun h => ⟨h.1, h.2.1, fun x => let k := h.2.2 x; ⟨k.1, k.2.1, k.2.2.1, k.2.2.2.1, k.2.2.2.2.1, k.2.2.2.2.2⟩⟩⟩

theorem Keeps.parts {s t : State} (h : Keeps s t) : Parts s t.pending t.clk t.mem.sram t.valve.cards t.mram.log
    t.snap.queue t.host.events t.host.nodeEvents := Keeps.iff_parts.mp h

/-- A state written out keeps `s` when its parts do. -/
theorem keeps_mk (s : State) (clk free power warp cal loom engine meas valve io fans disp dict host images can pair mem
    therm safety snap mram alarms pending) :
    Keeps s (State.mk clk free power warp cal loom engine meas valve io fans disp dict host images can pair mem therm
      safety snap mram alarms pending) =
    Parts s pending clk mem.sram valve.cards mram.log snap.queue host.events host.nodeEvents :=
  propext Keeps.iff_parts

theorem forAll_keeps {α : Type} {s₀ : State} (l : List α) (f : State → α → State) (s : State)
    (hf : ∀ s x, Keeps s₀ s → Keeps s₀ (f s x)) (h : Keeps s₀ s) : Keeps s₀ (forAll l f s) := by
  unfold forAll
  induction l generalizing s with
  | nil => exact h
  | cons x l ih => exact ih _ (hf s x h)

theorem ite_keeps {s₀ : State} {p : Prop} [Decidable p] {a b : State} (ha : Keeps s₀ a) (hb : Keeps s₀ b) :
    Keeps s₀ (if p then a else b) := by split <;> assumption

theorem ite_keeps_snd {α : Type} {s₀ : State} {p : Prop} [Decidable p] {a b : α × State} (ha : Keeps s₀ a.2)
    (hb : Keeps s₀ b.2) : Keeps s₀ (if p then a else b).2 := by split <;> assumption

theorem ite_keeps_thd {α β : Type} {s₀ : State} {p : Prop} [Decidable p] {a b : α × β × State} (ha : Keeps s₀ a.2.2)
    (hb : Keeps s₀ b.2.2) : Keeps s₀ (if p then a else b).2.2 := by split <;> assumption

theorem ite_keeps_out {s₀ : State} {p : Prop} [Decidable p] {a b : Out} (ha : Goes s₀ a) (hb : Goes s₀ b) :
    Goes s₀ (if p then a else b) := by split <;> assumption

end Sys2Proof.Machine
end

