-- ==== Sys2Proof/Laws/KeepsOps.lean ====
section
/-! SUPPORT. Each operation keeps the queue of commands, the engine clock and a sound machine: the shared operations. -/

namespace Sys2Proof.Machine

variable {s₀ : State}

/-! ### Ops -/

theorem modCirc_keeps (s : State) (c : Nat) (f : Circuit → Circuit) (hk : Keeps s₀ s) :
    Keeps s₀ (modCirc s c f) := by
  unfold modCirc
  dsimp only
  with_reducible repeat' (first | assumption | (simp only [↓keeps_mk]; apply Keeps.parts))

theorem modZone_keeps (s : State) (z : Nat) (f : Zone → Zone) (hk : Keeps s₀ s) :
    Keeps s₀ (modZone s z f) := by
  unfold modZone
  dsimp only
  with_reducible repeat' (first | assumption | (simp only [↓keeps_mk]; apply Keeps.parts))

theorem modEvent_keeps (s : State) (e : Nat) (f : UEvent → UEvent) (hk : Keeps s₀ s) :
    Keeps s₀ (modEvent s e f) := by
  unfold modEvent
  dsimp only
  with_reducible repeat' (first | assumption | (simp only [↓keeps_mk]; apply Keeps.parts))

theorem modRule_keeps (s : State) (r : Nat) (f : RuleRt → RuleRt) (hk : Keeps s₀ s) :
    Keeps s₀ (modRule s r f) := by
  unfold modRule
  dsimp only
  with_reducible repeat' (first | assumption | (simp only [↓keeps_mk]; apply Keeps.parts))

theorem modLoop_keeps (s : State) (n : Nat) (f : LoopRt → LoopRt) (hk : Keeps s₀ s) :
    Keeps s₀ (modLoop s n f) := by
  unfold modLoop
  dsimp only
  with_reducible repeat' (first | assumption | (simp only [↓keeps_mk]; apply Keeps.parts))

theorem setRec_keeps (s : State) (k : Nat) (r : ResRec) (hk : Keeps s₀ s) :
    Keeps s₀ (setRec s k r) := by
  unfold setRec
  dsimp only
  with_reducible repeat' (first | assumption | (simp only [↓keeps_mk]; apply Keeps.parts))

theorem modTrig_keeps (s : State) (t : Nat) (f : TrigRt → TrigRt) (hk : Keeps s₀ s) :
    Keeps s₀ (modTrig s t f) := by
  unfold modTrig
  dsimp only
  with_reducible repeat' (first | assumption | (simp only [↓keeps_mk]; apply Keeps.parts))

theorem modAi_keeps (s : State) (k : Nat) (f : AiRt → AiRt) (hk : Keeps s₀ s) :
    Keeps s₀ (modAi s k f) := by
  unfold modAi
  dsimp only
  with_reducible repeat' (first | assumption | (simp only [↓keeps_mk]; apply Keeps.parts))

theorem modAo_keeps (s : State) (a : Nat) (f : AoRt → AoRt) (hk : Keeps s₀ s) :
    Keeps s₀ (modAo s a f) := by
  unfold modAo
  dsimp only
  with_reducible repeat' (first | assumption | (simp only [↓keeps_mk]; apply Keeps.parts))

theorem modVlv_keeps (s : State) (v : Nat) (f : VlvRt → VlvRt) (hk : Keeps s₀ s) :
    Keeps s₀ (modVlv s v f) := by
  unfold modVlv
  dsimp only
  with_reducible repeat' (first | assumption | (simp only [↓keeps_mk]; apply Keeps.parts))

theorem modBank_keeps (s : State) (b : Nat) (f : Bank → Bank) (hk : Keeps s₀ s) :
    Keeps s₀ (modBank s b f) := by
  unfold modBank
  dsimp only
  with_reducible repeat' (first | assumption | (simp only [↓keeps_mk]; apply Keeps.parts))

theorem modIo_keeps (s : State) (i : Nat) (f : IoRt → IoRt) (hk : Keeps s₀ s) :
    Keeps s₀ (modIo s i f) := by
  unfold modIo
  dsimp only
  with_reducible repeat' (first | assumption | (simp only [↓keeps_mk]; apply Keeps.parts))

theorem modGroup_keeps (s : State) (g : Nat) (f : IoGroup → IoGroup) (hk : Keeps s₀ s) :
    Keeps s₀ (modGroup s g f) := by
  unfold modGroup
  dsimp only
  with_reducible repeat' (first | assumption | (simp only [↓keeps_mk]; apply Keeps.parts))

theorem modFan_keeps (s : State) (f : Nat) (g : FanRt → FanRt) (hk : Keeps s₀ s) :
    Keeps s₀ (modFan s f g) := by
  unfold modFan
  with_reducible repeat' (first | assumption | (simp only [↓keeps_mk]; apply Keeps.parts))

theorem modCan_keeps (s : State) (x : Nat) (f : CanRt → CanRt) (hk : Keeps s₀ s) :
    Keeps s₀ (modCan s x f) := by
  unfold modCan
  with_reducible repeat' (first | assumption | (simp only [↓keeps_mk]; apply Keeps.parts))

theorem modSensor_keeps (s : State) (i : Nat) (f : Sensor → Sensor) (hk : Keeps s₀ s) :
    Keeps s₀ (modSensor s i f) := by
  unfold modSensor
  dsimp only
  with_reducible repeat' (first | assumption | (simp only [↓keeps_mk]; apply Keeps.parts))

theorem modSafe_keeps (s : State) (c : Nat) (f : SafeRt → SafeRt) (hk : Keeps s₀ s) :
    Keeps s₀ (modSafe s c f) := by
  unfold modSafe
  dsimp only
  with_reducible repeat' (first | assumption | (simp only [↓keeps_mk]; apply Keeps.parts))

theorem modSlot_keeps (s : State) (k : Nat) (f : SnapSlot → SnapSlot) (hk : Keeps s₀ s) :
    Keeps s₀ (modSlot s k f) := by
  unfold modSlot
  dsimp only
  with_reducible repeat' (first | assumption | (simp only [↓keeps_mk]; apply Keeps.parts))

theorem modSess_keeps (s : State) (x : Sess) (f : SessRec → SessRec) (hk : Keeps s₀ s) :
    Keeps s₀ (modSess s x f) := by
  unfold modSess
  dsimp only
  with_reducible repeat' (first | assumption | (simp only [↓keeps_mk]; apply Keeps.parts))

theorem setForce_keeps (s : State) (key : Nat) (v : Val) (hk : Keeps s₀ s) :
    Keeps s₀ (setForce s key v) := by
  unfold setForce
  dsimp only
  with_reducible repeat' (first | assumption | (simp only [↓keeps_mk]; apply Keeps.parts))

theorem setCommitted_keeps (s : State) (key : Nat) (v : Val) (hk : Keeps s₀ s) :
    Keeps s₀ (setCommitted s key v) := by
  unfold setCommitted
  dsimp only
  with_reducible repeat' (first | assumption | (simp only [↓keeps_mk]; apply Keeps.parts))

theorem setRw_keeps (s : State) (key : Nat) (v : Val) (hk : Keeps s₀ s) :
    Keeps s₀ (setRw s key v) := by
  unfold setRw
  with_reducible repeat' (first | assumption | apply setForce_keeps | apply setCommitted_keeps)

theorem takeFree_keeps (s : State) (hk : Keeps s₀ s) :
    Keeps s₀ (takeFree s).2 := by
  unfold takeFree
  dsimp only
  with_reducible repeat' (first | assumption | (simp only [↓keeps_mk]; apply Keeps.parts))

theorem raiseAlarm_keeps (a : Alarm) (s : State) (hk : Keeps s₀ s) :
    Keeps s₀ (raiseAlarm a s) := by
  unfold raiseAlarm
  with_reducible repeat' (first | assumption | apply ite_keeps | apply ite_keeps_snd | apply ite_keeps_thd | (simp only [↓keeps_mk]; apply Keeps.parts))

theorem dropAlarm_keeps (a : Alarm) (s : State) (hk : Keeps s₀ s) :
    Keeps s₀ (dropAlarm a s) := by
  unfold dropAlarm
  with_reducible repeat' (first | assumption | (simp only [↓keeps_mk]; apply Keeps.parts))

theorem queueRec_keeps (s : State) (type flags warpAt calAt : Nat) (payload : List Byte) (hk : Keeps s₀ s) :
    Keeps s₀ (queueRec s type flags warpAt calAt payload) := by
  unfold queueRec
  split
  · rw [keeps_mk]; exact hk.parts
  · next h =>
    rw [keeps_mk]
    refine ⟨hk.pending, hk.clk, fun x => ?_⟩
    have k := hk.sound x
    refine ⟨k.sram, k.cards, k.ring, ?_, k.hostEvents, k.nodeEvents⟩
    simp only [List.length_append, List.length_singleton, queueSize]
    omega

theorem logEvent_keeps (s : State) (type : Nat) (payload : List Byte) (hk : Keeps s₀ s) :
    Keeps s₀ (logEvent s type payload) := by
  unfold logEvent
  with_reducible repeat' (first | assumption | apply queueRec_keeps)

theorem pushCapped_length (q : List LogRec) (r : LogRec) (h : q.length ≤ queueSize) :
    (pushCapped q r).1.length ≤ queueSize := by
  unfold queueSize at *
  unfold pushCapped
  split <;> simp <;> omega

theorem pushHostEvent_keeps (s : State) (r : LogRec) (hk : Keeps s₀ s) : Keeps s₀ (pushHostEvent s r) := by
  unfold pushHostEvent
  rw [keeps_mk]
  refine ⟨hk.pending, hk.clk, fun x => ?_⟩
  have k := hk.sound x
  exact ⟨k.sram, k.cards, k.ring, k.queue, pushCapped_length _ r k.hostEvents, k.nodeEvents⟩

theorem pushNodeEvent_keeps (s : State) (r : LogRec) (hk : Keeps s₀ s) : Keeps s₀ (pushNodeEvent s r) := by
  unfold pushNodeEvent
  rw [keeps_mk]
  refine ⟨hk.pending, hk.clk, fun x => ?_⟩
  have k := hk.sound x
  exact ⟨k.sram, k.cards, k.ring, k.queue, k.hostEvents, pushCapped_length _ r k.nodeEvents⟩

theorem mramWritten_keeps (s : State) (lo hi : Nat) (hk : Keeps s₀ s) :
    Keeps s₀ (mramWritten s lo hi) := by
  unfold mramWritten
  dsimp only
  with_reducible repeat' (first | assumption | (simp only [↓keeps_mk]; apply Keeps.parts))

theorem ring_length (l : List LogRec) : (lastN 4096 l).length ≤ ringSize := by
  simp only [lastN, List.length_drop, ringSize]
  omega

theorem writeRec_keeps (s : State) (r : LogRec) (hk : Keeps s₀ s) : Keeps s₀ (writeRec s r) := by
  have h : Keeps s₀ { s with mram := { s.mram with
      log := lastN 4096 (s.mram.log ++ [{ r with seq := s.mram.nextSeq }])
      nextSeq := s.mram.nextSeq + 1
      poisonedLog := s.mram.poisonedLog.filter fun p => p % 4096 ≠ s.mram.nextSeq % 4096 } } := by
    rw [keeps_mk]
    dsimp only
    refine ⟨hk.pending, hk.clk, fun x => ?_⟩
    have k := hk.sound x
    have hl := ring_length (s.mram.log ++ [{ r with seq := s.mram.nextSeq }])
    exact ⟨k.sram, k.cards, hl, k.queue, k.hostEvents, k.nodeEvents⟩
  unfold writeRec
  have hw := mramWritten_keeps _ (0x720000 + 32 * (s.mram.nextSeq % 4096)) (0x720000 + 32 * (s.mram.nextSeq % 4096) + 32) h
  exact ite_keeps (pushNodeEvent_keeps _ _ (ite_keeps (pushHostEvent_keeps _ _ hw) hw))
    (ite_keeps (pushHostEvent_keeps _ _ hw) hw)

theorem flushLog_keeps (s : State) (hk : Keeps s₀ s) : Keeps s₀ (flushLog s) := by
  unfold flushLog
  refine forAll_keeps _ _ _ (fun s r h => writeRec_keeps s r h) ?_
  rw [keeps_mk]
  refine ⟨hk.pending, hk.clk, fun x => ?_⟩
  have k := hk.sound x
  exact ⟨k.sram, k.cards, k.ring, Nat.zero_le _, k.hostEvents, k.nodeEvents⟩

/-! ### DispOps -/

theorem modDisp_keeps (s : State) (f : Disp → Disp) (hk : Keeps s₀ s) :
    Keeps s₀ (modDisp s f) := by
  unfold modDisp
  with_reducible repeat' (first | assumption | (simp only [↓keeps_mk]; apply Keeps.parts))

theorem ledgerAdd_keeps (s : State) (g : Nat) (v : Int) (hk : Keeps s₀ s) :
    Keeps s₀ (ledgerAdd s g v) := by
  unfold ledgerAdd
  dsimp only
  with_reducible repeat' (first | assumption | apply modDisp_keeps)

theorem ledgerFollow_keeps (s : State) (hk : Keeps s₀ s) :
    Keeps s₀ (ledgerFollow s) := by
  unfold ledgerFollow
  with_reducible repeat' (first | assumption | apply modDisp_keeps)

theorem roundLedgers_keeps (s : State) (r : Round) (n : Nat) (p : SegWave → Bool) (hk : Keeps s₀ s) :
    Keeps s₀ (roundLedgers s r n p) := by
  unfold roundLedgers
  dsimp only
  with_reducible repeat' (first | assumption | apply ledgerAdd_keeps | apply ledgerFollow_keeps | apply modDisp_keeps | apply ite_keeps | apply ite_keeps_snd | apply ite_keeps_thd | refine forAll_keeps _ _ _ (fun _ _ _ => ?_) ?_)

theorem ledgerSettle_keeps (s : State) (hk : Keeps s₀ s) :
    Keeps s₀ (ledgerSettle s) := by
  unfold ledgerSettle
  dsimp only
  with_reducible repeat' (first | assumption | apply roundLedgers_keeps | split)

/-! ### Heddle -/

theorem sramWrite_keeps (s : State) (a : Nat) (l : List Byte) (hk : Keeps s₀ s) : Keeps s₀ (sramWrite s a l) := by
  unfold sramWrite
  rw [keeps_mk]
  refine ⟨hk.pending, hk.clk, fun x => ?_⟩
  have k := hk.sound x
  exact ⟨Table.wf_setRun _ l _ a k.sram, k.cards, k.ring, k.queue, k.hostEvents, k.nodeEvents⟩

theorem refreshPoison_keeps (s : State) (hk : Keeps s₀ s) :
    Keeps s₀ (refreshPoison s) := by
  unfold refreshPoison
  dsimp only
  with_reducible repeat' (first | assumption | (simp only [↓keeps_mk]; apply Keeps.parts))

theorem clearPoison_keeps (s : State) (a : Nat) (hk : Keeps s₀ s) :
    Keeps s₀ (clearPoison s a) := by
  unfold clearPoison
  dsimp only
  with_reducible repeat' (first | assumption | apply refreshPoison_keeps | (simp only [↓keeps_mk]; apply Keeps.parts))

theorem heddleStore_keeps (s : State) (e : Nat) (hk : Keeps s₀ s) :
    Keeps s₀ (heddleStore s e) := by
  unfold heddleStore
  with_reducible repeat' (first | assumption | apply clearPoison_keeps | apply sramWrite_keeps | apply ite_keeps | apply ite_keeps_snd | apply ite_keeps_thd | (simp only [↓keeps_mk]; apply Keeps.parts))

theorem heddleRewriteEntry_keeps (s : State) (e : Nat) (hk : Keeps s₀ s) :
    Keeps s₀ (heddleRewriteEntry s e) := by
  unfold heddleRewriteEntry
  dsimp only
  with_reducible repeat' (first | assumption | apply heddleStore_keeps | apply ite_keeps | apply ite_keeps_snd | apply ite_keeps_thd | (simp only [↓keeps_mk]; apply Keeps.parts))

theorem heddleFetch_keeps (s : State) (eng e : Nat) (hk : Keeps s₀ s) :
    Keeps s₀ (heddleFetch s eng e).2 := by
  unfold heddleFetch
  dsimp only
  with_reducible repeat' (first | assumption | (simp only [↓keeps_mk]; apply Keeps.parts) | split)

/-! ### IoOps -/

theorem ioNoteCommand_keeps (s : State) (i : Nat) (entry : List Byte) (hk : Keeps s₀ s) :
    Keeps s₀ (ioNoteCommand s i entry) := by
  unfold ioNoteCommand
  dsimp only
  with_reducible repeat' (first | assumption | apply modIo_keeps)

theorem groupFollow_keeps (s : State) (g : Nat) (hk : Keeps s₀ s) :
    Keeps s₀ (groupFollow s g) := by
  unfold groupFollow
  dsimp only
  with_reducible repeat' (first | assumption | apply modGroup_keeps)

theorem ioPin_keeps (s : State) (i : Nat) (v : Int) (hiZ : Bool) (hk : Keeps s₀ s) :
    Keeps s₀ (ioPin s i v hiZ) := by
  unfold ioPin
  dsimp only
  with_reducible repeat' (first | assumption | apply modIo_keeps | apply groupFollow_keeps)

theorem ioApply_keeps (s : State) (i : Nat) (hk : Keeps s₀ s) :
    Keeps s₀ (ioApply s i) := by
  unfold ioApply
  dsimp only
  with_reducible repeat' (first | assumption | apply ioPin_keeps | apply modIo_keeps | apply heddleFetch_keeps | apply ioNoteCommand_keeps | apply ite_keeps)

theorem ioApplyAll_keeps (s : State) (hk : Keeps s₀ s) :
    Keeps s₀ (ioApplyAll s) := by
  unfold ioApplyAll
  with_reducible repeat' (first | assumption | apply ioApply_keeps | refine forAll_keeps _ _ _ (fun _ _ _ => ?_) ?_)

theorem aoApply_keeps (s : State) (a : Nat) (hk : Keeps s₀ s) :
    Keeps s₀ (aoApply s a) := by
  unfold aoApply
  dsimp only
  with_reducible repeat' (first | assumption | apply modAo_keeps | apply heddleFetch_keeps | apply ite_keeps)

theorem aoApplyAll_keeps (s : State) (hk : Keeps s₀ s) :
    Keeps s₀ (aoApplyAll s) := by
  unfold aoApplyAll
  with_reducible repeat' (first | assumption | apply aoApply_keeps | refine forAll_keeps _ _ _ (fun _ _ _ => ?_) ?_)

/-! ### ValveOps -/

theorem vlvConduct_keeps (s : State) (v : Nat) (hk : Keeps s₀ s) :
    Keeps s₀ (vlvConduct s v) := by
  unfold vlvConduct
  dsimp only
  with_reducible repeat' (first | assumption | apply modVlv_keeps)

theorem vlvDemote_keeps (s : State) (v : Nat) (hk : Keeps s₀ s) :
    Keeps s₀ (vlvDemote s v) := by
  unfold vlvDemote
  with_reducible repeat' (first | assumption | apply modVlv_keeps | apply ite_keeps)

theorem vlvDecay_keeps (s : State) (v : Nat) (hk : Keeps s₀ s) :
    Keeps s₀ (vlvDecay s v) := by
  unfold vlvDecay
  dsimp only
  with_reducible repeat' (first | assumption | apply modVlv_keeps | apply ite_keeps)

theorem bankRefresh_keeps (s : State) (b : Nat) (hk : Keeps s₀ s) :
    Keeps s₀ (bankRefresh s b) := by
  unfold bankRefresh
  dsimp only
  with_reducible repeat' (first | assumption | apply vlvConduct_keeps | apply vlvDemote_keeps | apply modBank_keeps | refine forAll_keeps _ _ _ (fun _ _ _ => ?_) ?_)

theorem askBudget_keeps (s : State) (v level : Nat) (hk : Keeps s₀ s) :
    Keeps s₀ (askBudget s v level).2 := by
  unfold askBudget
  dsimp only
  with_reducible repeat' (first | assumption | apply modBank_keeps | apply ite_keeps | apply ite_keeps_snd)

theorem dropRequest_keeps (s : State) (v : Nat) (hk : Keeps s₀ s) :
    Keeps s₀ (dropRequest s v) := by
  unfold dropRequest
  with_reducible repeat' (first | assumption | apply modBank_keeps)

theorem takeObj_keeps (s : State) (o : Nat) (hk : Keeps s₀ s) :
    Keeps s₀ (takeObj s o) := by
  unfold takeObj
  with_reducible repeat' (first | assumption | apply setForce_keeps | apply ite_keeps | apply ite_keeps_snd | apply ite_keeps_thd | refine forAll_keeps _ _ _ (fun _ _ _ => ?_) ?_ | split)

theorem syncDone_keeps (u : SyncUnit) (s : State) (hk : Keeps s₀ s) :
    Keeps s₀ (syncDone u s) := by
  unfold syncDone
  dsimp only
  with_reducible repeat' (first | assumption | (simp only [↓keeps_mk]; apply Keeps.parts))

theorem vlvTakeSet_keeps (s : State) (v : Nat) (hk : Keeps s₀ s) :
    Keeps s₀ (vlvTakeSet s v) := by
  unfold vlvTakeSet
  dsimp only
  with_reducible repeat' (first | assumption | apply syncDone_keeps | apply takeObj_keeps | apply modVlv_keeps)

theorem vlvForceOff_keeps (s : State) (v : Nat) (hk : Keeps s₀ s) :
    Keeps s₀ (vlvForceOff s v) := by
  unfold vlvForceOff
  dsimp only
  with_reducible repeat' (first | assumption | apply modVlv_keeps | apply dropRequest_keeps | apply bankRefresh_keeps)

theorem vlvStartAt_keeps (s : State) (v t : Nat) (hk : Keeps s₀ s) :
    Keeps s₀ (vlvStartAt s v t) := by
  unfold vlvStartAt
  with_reducible repeat' (first | assumption | apply modVlv_keeps)

theorem vlvStartRows_keeps (s : State) (v : Nat) (hk : Keeps s₀ s) :
    Keeps s₀ (vlvStartRows s v) := by
  unfold vlvStartRows
  dsimp only
  with_reducible repeat' (first | assumption | apply modVlv_keeps | apply vlvStartAt_keeps | apply ite_keeps)

theorem vlvBegin_keeps (s : State) (v band : Nat) (hk : Keeps s₀ s) :
    Keeps s₀ (vlvBegin s v band) := by
  unfold vlvBegin
  dsimp only
  with_reducible repeat' (first | assumption | apply vlvTakeSet_keeps | apply heddleFetch_keeps | apply modVlv_keeps)

theorem vlvResume_keeps (s : State) (v a : Nat) (hk : Keeps s₀ s) :
    Keeps s₀ (vlvResume s v a) := by
  unfold vlvResume
  with_reducible repeat' (first | assumption | apply modVlv_keeps)

theorem vlvLeave_keeps (s : State) (v : Nat) (hk : Keeps s₀ s) :
    Keeps s₀ (vlvLeave s v) := by
  unfold vlvLeave
  with_reducible repeat' (first | assumption | apply modVlv_keeps | apply vlvResume_keeps | apply dropRequest_keeps | apply ite_keeps)

theorem vlvReenter_keeps (s : State) (v : Nat) (hk : Keeps s₀ s) :
    Keeps s₀ (vlvReenter s v) := by
  unfold vlvReenter
  with_reducible repeat' (first | assumption | apply modVlv_keeps)

theorem learnAbandon_keeps (s : State) (v : Nat) (hk : Keeps s₀ s) :
    Keeps s₀ (learnAbandon s v) := by
  unfold learnAbandon
  dsimp only
  with_reducible repeat' (first | assumption | apply vlvResume_keeps | apply bankRefresh_keeps | apply modVlv_keeps | apply ite_keeps)

theorem vlvExtend_keeps (s : State) (v : Nat) (pulse : Option Nat) (hk : Keeps s₀ s) :
    Keeps s₀ (vlvExtend s v pulse) := by
  unfold vlvExtend
  dsimp only
  with_reducible repeat' (first | assumption | apply modVlv_keeps)

theorem vlvOff_keeps (s : State) (v : Nat) (hk : Keeps s₀ s) :
    Keeps s₀ (vlvOff s v) := by
  unfold vlvOff
  dsimp only
  with_reducible repeat' (first | assumption | apply modVlv_keeps | apply vlvLeave_keeps | apply ite_keeps | apply ite_keeps_snd | apply ite_keeps_thd | split)

theorem vlvOn_keeps (s : State) (v : Nat) (pulse : Option Nat) (sense : Nat) (hk : Keeps s₀ s) :
    Keeps s₀ (vlvOn s v pulse sense) := by
  unfold vlvOn
  dsimp only
  with_reducible repeat' (first | assumption | apply modVlv_keeps | apply vlvExtend_keeps | apply vlvStartRows_keeps | apply vlvStartAt_keeps | apply vlvReenter_keeps | apply ite_keeps | apply ite_keeps_snd | apply ite_keeps_thd | split)

theorem vlvNote_keeps (s : State) (v : Nat) (cmd : Nat) (hk : Keeps s₀ s) :
    Keeps s₀ (vlvNote s v cmd) := by
  unfold vlvNote
  with_reducible repeat' (first | assumption | apply modVlv_keeps)

theorem vlvAct_keeps (s : State) (v cmd sense : Nat) (hk : Keeps s₀ s) :
    Keeps s₀ (vlvAct s v cmd sense) := by
  unfold vlvAct
  dsimp only
  with_reducible repeat' (first | assumption | apply vlvNote_keeps | apply vlvOff_keeps | apply vlvOn_keeps | apply bankRefresh_keeps | apply ite_keeps)

theorem vlvActFree_keeps (s : State) (v cmd : Nat) (hk : Keeps s₀ s) :
    Keeps s₀ (vlvActFree s v cmd) := by
  unfold vlvActFree
  dsimp only
  with_reducible repeat' (first | assumption | apply takeFree_keeps | apply vlvAct_keeps)

theorem propApply_keeps (s : State) (v ref : Nat) (hk : Keeps s₀ s) :
    Keeps s₀ (propApply s v ref) := by
  unfold propApply
  dsimp only
  with_reducible repeat' (first | assumption | apply vlvTakeSet_keeps | apply modBank_keeps | apply modVlv_keeps | apply bankRefresh_keeps | apply vlvDecay_keeps | apply ite_keeps)

theorem propSet_keeps (s : State) (v ref : Nat) (hk : Keeps s₀ s) :
    Keeps s₀ (propSet s v ref) := by
  unfold propSet
  dsimp only
  with_reducible repeat' (first | assumption | apply modVlv_keeps | apply propApply_keeps | apply dropRequest_keeps | apply modBank_keeps | apply askBudget_keeps | apply ite_keeps)

theorem propCommand_keeps (s : State) (v : Nat) (q : Int) (hk : Keeps s₀ s) :
    Keeps s₀ (propCommand s v q) := by
  unfold propCommand
  with_reducible repeat' (first | assumption | apply propSet_keeps | apply heddleFetch_keeps | apply ite_keeps)

theorem vlvSyncMode_keeps (s : State) (v : Nat) (hk : Keeps s₀ s) :
    Keeps s₀ (vlvSyncMode s v) := by
  unfold vlvSyncMode
  dsimp only
  with_reducible repeat' (first | assumption | apply modVlv_keeps | apply vlvActFree_keeps | apply propCommand_keeps | apply ite_keeps)

theorem vlvSettle_keeps (s : State) (v : Nat) (hk : Keeps s₀ s) :
    Keeps s₀ (vlvSettle s v) := by
  unfold vlvSettle
  dsimp only
  with_reducible repeat' (first | assumption | apply vlvSyncMode_keeps | apply vlvTakeSet_keeps | apply ite_keeps)

theorem vlvCommand_keeps (s : State) (v cmd sense : Nat) (hk : Keeps s₀ s) :
    Keeps s₀ (vlvCommand s v cmd sense) := by
  unfold vlvCommand
  with_reducible repeat' (first | assumption | apply vlvSettle_keeps | apply vlvAct_keeps)

theorem vlvCommandFree_keeps (s : State) (v cmd : Nat) (hk : Keeps s₀ s) :
    Keeps s₀ (vlvCommandFree s v cmd) := by
  unfold vlvCommandFree
  with_reducible repeat' (first | assumption | apply vlvSettle_keeps | apply vlvActFree_keeps)

theorem vlvForceRest_keeps (s : State) (v : Nat) (hk : Keeps s₀ s) :
    Keeps s₀ (vlvForceRest s v) := by
  unfold vlvForceRest
  with_reducible repeat' (first | assumption | apply vlvSyncMode_keeps | apply vlvTakeSet_keeps | apply vlvForceOff_keeps)

theorem propDrive_keeps (s : State) (v : Nat) (q : Int) (hk : Keeps s₀ s) :
    Keeps s₀ (propDrive s v q) := by
  unfold propDrive
  with_reducible repeat' (first | assumption | apply vlvSyncMode_keeps | apply propCommand_keeps)

theorem vlvSafeHold_keeps (s : State) (v : Nat) (hk : Keeps s₀ s) :
    Keeps s₀ (vlvSafeHold s v) := by
  unfold vlvSafeHold
  dsimp only
  with_reducible repeat' (first | assumption | apply modVlv_keeps | apply dropRequest_keeps | apply learnAbandon_keeps | apply ite_keeps | apply ite_keeps_snd | apply ite_keeps_thd | split)

theorem vlvSafeOn_keeps (s : State) (v : Nat) (hk : Keeps s₀ s) :
    Keeps s₀ (vlvSafeOn s v) := by
  unfold vlvSafeOn
  dsimp only
  with_reducible repeat' (first | assumption | apply learnAbandon_keeps | apply takeFree_keeps | apply vlvOn_keeps | apply bankRefresh_keeps | apply modVlv_keeps | apply ite_keeps)

theorem vlvTakeSafe_keeps (s : State) (v : Nat) (hk : Keeps s₀ s) :
    Keeps s₀ (vlvTakeSafe s v) := by
  unfold vlvTakeSafe
  dsimp only
  with_reducible repeat' (first | assumption | apply vlvSafeHold_keeps | apply propSet_keeps | apply vlvSafeOn_keeps | apply vlvForceRest_keeps | apply ite_keeps)

theorem vlvTakeOwner_keeps (s : State) (v : Nat) (hk : Keeps s₀ s) :
    Keeps s₀ (vlvTakeOwner s v) := by
  unfold vlvTakeOwner
  dsimp only
  with_reducible repeat' (first | assumption | apply propDrive_keeps | apply bankRefresh_keeps | apply vlvStartRows_keeps | apply vlvSettle_keeps | apply vlvOff_keeps | apply ite_keeps)

theorem vlvTakeUp_keeps (s : State) (v : Nat) (hk : Keeps s₀ s) :
    Keeps s₀ (vlvTakeUp s v) := by
  unfold vlvTakeUp
  dsimp only
  with_reducible repeat' (first | assumption | apply vlvSyncMode_keeps | apply vlvForceRest_keeps | apply heddleFetch_keeps | apply vlvTakeSafe_keeps | apply vlvTakeOwner_keeps | apply ite_keeps)

theorem vlvTakeUpAll_keeps (s : State) (hk : Keeps s₀ s) :
    Keeps s₀ (vlvTakeUpAll s) := by
  unfold vlvTakeUpAll
  with_reducible repeat' (first | assumption | apply vlvTakeUp_keeps | refine forAll_keeps _ _ _ (fun _ _ _ => ?_) ?_)

theorem vlvTrip_keeps (s : State) (v diag : Nat) (hk : Keeps s₀ s) :
    Keeps s₀ (vlvTrip s v diag) := by
  unfold vlvTrip
  dsimp only
  with_reducible repeat' (first | assumption | apply vlvForceOff_keeps | apply modVlv_keeps)

theorem vlvCutoff_keeps (s : State) (v : Nat) (hk : Keeps s₀ s) :
    Keeps s₀ (vlvCutoff s v) := by
  unfold vlvCutoff
  dsimp only
  with_reducible repeat' (first | assumption | apply modBank_keeps | apply bankRefresh_keeps | apply ite_keeps)

/-! ### FanOps -/

theorem limitFollow_keeps (s : State) (k : Nat) (hk : Keeps s₀ s) :
    Keeps s₀ (limitFollow s k) := by
  unfold limitFollow
  with_reducible repeat' (first | assumption | apply modFan_keeps)

theorem shadowSet_keeps (s : State) (k : Nat) (d q : Int) (hk : Keeps s₀ s) :
    Keeps s₀ (shadowSet s k d q) := by
  unfold shadowSet
  dsimp only
  with_reducible repeat' (first | assumption | apply takeFree_keeps | apply modFan_keeps)

theorem shadowRegulate_keeps (s : State) (k : Nat) (hk : Keeps s₀ s) :
    Keeps s₀ (shadowRegulate s k) := by
  unfold shadowRegulate
  dsimp only
  with_reducible repeat' (first | assumption | apply takeFree_keeps | apply shadowSet_keeps)

theorem fanListen_keeps (s : State) (k : Nat) (hk : Keeps s₀ s) :
    Keeps s₀ (fanListen s k) := by
  unfold fanListen
  with_reducible repeat' (first | assumption | apply modFan_keeps)

theorem fanAlign_keeps (s : State) (k : Nat) (hk : Keeps s₀ s) :
    Keeps s₀ (fanAlign s k) := by
  unfold fanAlign
  dsimp only
  with_reducible repeat' (first | assumption | apply limitFollow_keeps | apply modFan_keeps)

theorem fanRun_keeps (s : State) (k : Nat) (fine : Int) (hk : Keeps s₀ s) :
    Keeps s₀ (fanRun s k fine) := by
  unfold fanRun
  with_reducible repeat' (first | assumption | apply limitFollow_keeps | apply modFan_keeps)

theorem fanStop_keeps (s : State) (k : Nat) (hk : Keeps s₀ s) :
    Keeps s₀ (fanStop s k) := by
  unfold fanStop
  with_reducible repeat' (first | assumption | apply modFan_keeps)

theorem directStep_keeps (s : State) (k dt : Nat) (entry : List Byte) (hk : Keeps s₀ s) :
    Keeps s₀ (directStep s k dt entry) := by
  unfold directStep
  dsimp only
  with_reducible repeat' (first | assumption | apply fanStop_keeps | apply shadowRegulate_keeps | apply modFan_keeps | apply fanListen_keeps | apply fanRun_keeps | apply ite_keeps)

theorem ecStep_keeps (s : State) (e dt : Nat) (entry : List Byte) (hk : Keeps s₀ s) :
    Keeps s₀ (ecStep s e dt entry) := by
  unfold ecStep
  dsimp only
  with_reducible repeat' (first | assumption | apply modFan_keeps | apply ioApply_keeps | apply ite_keeps)

theorem refreshBoost_keeps (s : State) (hk : Keeps s₀ s) :
    Keeps s₀ (refreshBoost s) := by
  unfold refreshBoost
  with_reducible repeat' (first | assumption | apply modFan_keeps | refine forAll_keeps _ _ _ (fun _ _ _ => ?_) ?_)

theorem fanFetch_keeps (s : State) (f : Nat) (hk : Keeps s₀ s) :
    Keeps s₀ (fanFetch s f).2 := by
  unfold fanFetch
  dsimp only
  with_reducible repeat' (first | assumption | apply heddleFetch_keeps | apply ite_keeps | apply ite_keeps_snd)

theorem fanUpdate_keeps (s : State) (f : Nat) (hk : Keeps s₀ s) :
    Keeps s₀ (fanUpdate s f) := by
  unfold fanUpdate
  dsimp only
  with_reducible repeat' (first | assumption | apply fanFetch_keeps | apply modFan_keeps | apply limitFollow_keeps | apply directStep_keeps | apply ecStep_keeps | apply refreshBoost_keeps | apply ite_keeps)

theorem fanUpdateAll_keeps (s : State) (hk : Keeps s₀ s) :
    Keeps s₀ (fanUpdateAll s) := by
  unfold fanUpdateAll
  with_reducible repeat' (first | assumption | apply fanUpdate_keeps | refine forAll_keeps _ _ _ (fun _ _ _ => ?_) ?_)

theorem fanTakeSet_keeps (s : State) (f : Nat) (hk : Keeps s₀ s) :
    Keeps s₀ (fanTakeSet s f) := by
  unfold fanTakeSet
  dsimp only
  with_reducible repeat' (first | assumption | apply takeObj_keeps | apply setForce_keeps | apply syncDone_keeps | apply ite_keeps | apply ite_keeps_snd | apply ite_keeps_thd | refine forAll_keeps _ _ _ (fun _ _ _ => ?_) ?_)

theorem fanReadTable_keeps (s : State) (f : Nat) (hk : Keeps s₀ s) :
    Keeps s₀ (fanReadTable s f) := by
  unfold fanReadTable
  dsimp only
  with_reducible repeat' (first | assumption | apply modFan_keeps)

theorem fansEnterTable_keeps (s : State) (hk : Keeps s₀ s) :
    Keeps s₀ (fansEnterTable s) := by
  unfold fansEnterTable
  dsimp only
  with_reducible repeat' (first | assumption | apply fanReadTable_keeps | apply modFan_keeps | apply fanUpdate_keeps | apply ite_keeps | apply ite_keeps_snd | apply ite_keeps_thd | refine forAll_keeps _ _ _ (fun _ _ _ => ?_) ?_)

theorem fanLeaveTable_keeps (s : State) (f : Nat) (hk : Keeps s₀ s) :
    Keeps s₀ (fanLeaveTable s f) := by
  unfold fanLeaveTable
  with_reducible repeat' (first | assumption | apply modFan_keeps)

theorem fansEndSilence_keeps (s : State) (hk : Keeps s₀ s) :
    Keeps s₀ (fansEndSilence s) := by
  unfold fansEndSilence
  with_reducible repeat' (first | assumption | apply fanUpdate_keeps | apply fanLeaveTable_keeps | apply ite_keeps | apply ite_keeps_snd | apply ite_keeps_thd | refine forAll_keeps _ _ _ (fun _ _ _ => ?_) ?_)

/-! ### DictOps -/

theorem clearPending_keeps (s : State) (x : Sess) (hk : Keeps s₀ s) :
    Keeps s₀ (clearPending s x) := by
  unfold clearPending
  with_reducible repeat' (first | assumption | apply modSess_keeps)

theorem dropPending_keeps (s : State) (x : Sess) (hk : Keeps s₀ s) :
    Keeps s₀ (dropPending s x) := by
  unfold dropPending
  dsimp only
  with_reducible repeat' (first | assumption | apply clearPending_keeps | apply ite_keeps | apply ite_keeps_snd | apply ite_keeps_thd | (simp only [↓keeps_mk]; apply Keeps.parts))

theorem dropCanPending_keeps (s : State) (x : Nat) (hk : Keeps s₀ s) :
    Keeps s₀ (dropCanPending s x) := by
  unfold dropCanPending
  with_reducible repeat' (first | assumption | apply dropPending_keeps | refine forAll_keeps _ _ _ (fun _ _ _ => ?_) ?_)

theorem startJob_keeps (s : State) (j : CopyJob) (hk : Keeps s₀ s) :
    Keeps s₀ (startJob s j) := by
  unfold startJob
  dsimp only
  with_reducible repeat' (first | assumption | (simp only [↓keeps_mk]; apply Keeps.parts) | split)

theorem markRw_keeps (s : State) (hk : Keeps s₀ s) :
    Keeps s₀ (markRw s) := by
  unfold markRw
  dsimp only
  with_reducible repeat' (first | assumption | apply ite_keeps | apply ite_keeps_snd | apply ite_keeps_thd | (simp only [↓keeps_mk]; apply Keeps.parts) | split)

theorem writeRw_keeps (s : State) (key : Nat) (v : Val) (hk : Keeps s₀ s) :
    Keeps s₀ (writeRw s key v) := by
  unfold writeRw
  dsimp only
  with_reducible repeat' (first | assumption | apply setRw_keeps | apply markRw_keeps | apply ite_keeps)

/-! ### CanOps -/

theorem canSetState_keeps (s : State) (x st : Nat) (hk : Keeps s₀ s) :
    Keeps s₀ (canSetState s x st) := by
  unfold canSetState
  dsimp only
  with_reducible repeat' (first | assumption | apply modCan_keeps | apply logEvent_keeps | apply ite_keeps)

theorem canFollow_keeps (s : State) (x : Nat) (hk : Keeps s₀ s) :
    Keeps s₀ (canFollow s x) := by
  unfold canFollow
  dsimp only
  with_reducible repeat' (first | assumption | apply canSetState_keeps | apply ite_keeps)

theorem canOffer_keeps (s : State) (x : Nat) (hk : Keeps s₀ s) :
    Keeps s₀ (canOffer s x) := by
  unfold canOffer
  dsimp only
  with_reducible repeat' (first | assumption | apply modCan_keeps | apply ite_keeps)

theorem canQueue_keeps (s : State) (x : Nat) (it : TxItem) (hk : Keeps s₀ s) :
    Keeps s₀ (canQueue s x it) := by
  unfold canQueue
  dsimp only
  with_reducible repeat' (first | assumption | apply canOffer_keeps | apply modCan_keeps | apply ite_keeps)

theorem canQueueHeartbeat_keeps (s : State) (x : Nat) (f : CanFrame) (hk : Keeps s₀ s) :
    Keeps s₀ (canQueueHeartbeat s x f) := by
  unfold canQueueHeartbeat
  dsimp only
  with_reducible repeat' (first | assumption | apply modCan_keeps | apply canQueue_keeps | apply ite_keeps)

theorem canQueueUrgent_keeps (s : State) (x : Nat) (f : CanFrame) (discardAt : Nat) (hk : Keeps s₀ s) :
    Keeps s₀ (canQueueUrgent s x f discardAt) := by
  unfold canQueueUrgent
  dsimp only
  with_reducible repeat' (first | assumption | apply canOffer_keeps | apply modCan_keeps | apply ite_keeps)

theorem canExpire_keeps (s : State) (x : Nat) (hk : Keeps s₀ s) :
    Keeps s₀ (canExpire s x) := by
  unfold canExpire
  dsimp only
  with_reducible repeat' (first | assumption | apply modCan_keeps)

theorem canEnterMode_keeps (s : State) (x : Nat) (hk : Keeps s₀ s) :
    Keeps s₀ (canEnterMode s x) := by
  unfold canEnterMode
  with_reducible repeat' (first | assumption | apply canSetState_keeps | apply modCan_keeps | split)

theorem canEnter_keeps (s : State) (x : Nat) (hk : Keeps s₀ s) :
    Keeps s₀ (canEnter s x) := by
  unfold canEnter
  dsimp only
  with_reducible repeat' (first | assumption | apply modCan_keeps | apply canSetState_keeps | apply ite_keeps)

theorem canTakeSet_keeps (s : State) (x : Nat) (hk : Keeps s₀ s) :
    Keeps s₀ (canTakeSet s x) := by
  unfold canTakeSet
  dsimp only
  with_reducible repeat' (first | assumption | apply takeObj_keeps | apply syncDone_keeps | apply canEnter_keeps | apply ite_keeps | apply ite_keeps_snd | apply ite_keeps_thd | refine forAll_keeps _ _ _ (fun _ _ _ => ?_) ?_)

theorem canSync_keeps (s : State) (x : Nat) (hk : Keeps s₀ s) :
    Keeps s₀ (canSync s x) := by
  unfold canSync
  with_reducible repeat' (first | assumption | apply canTakeSet_keeps | apply ite_keeps)

theorem canFrameEnd_keeps (s : State) (x : Nat) (hk : Keeps s₀ s) :
    Keeps s₀ (canFrameEnd s x) := by
  unfold canFrameEnd
  dsimp only
  with_reducible repeat' (first | assumption | apply canTakeSet_keeps | apply canOffer_keeps | apply canExpire_keeps | apply ite_keeps)

theorem canBusOff_keeps (s : State) (x : Nat) (hk : Keeps s₀ s) :
    Keeps s₀ (canBusOff s x) := by
  unfold canBusOff
  dsimp only
  with_reducible repeat' (first | assumption | apply modCan_keeps | apply dropCanPending_keeps | apply canSetState_keeps | apply ite_keeps)

theorem canWake_keeps (s : State) (x cause : Nat) (hk : Keeps s₀ s) :
    Keeps s₀ (canWake s x cause) := by
  unfold canWake
  dsimp only
  with_reducible repeat' (first | assumption | apply modCan_keeps | apply canSetState_keeps)

theorem rxPut_keeps (s : State) (x o : Nat) (ob : RxObj) (hk : Keeps s₀ s) :
    Keeps s₀ (rxPut s x o ob) := by
  unfold rxPut
  dsimp only
  with_reducible repeat' (first | assumption | apply modCan_keeps | apply clearPoison_keeps | apply sramWrite_keeps | refine forAll_keeps _ _ _ (fun _ _ _ => ?_) ?_)

theorem rxStore_keeps (s : State) (x o : Nat) (f : CanFrame) (age : Nat) (hk : Keeps s₀ s) :
    Keeps s₀ (rxStore s x o f age) := by
  unfold rxStore
  dsimp only
  with_reducible repeat' (first | assumption | apply rxPut_keeps | apply pushHostEvent_keeps | apply modCan_keeps | apply ite_keeps)

theorem rxAckOp_keeps (s : State) (x o : Nat) (hk : Keeps s₀ s) :
    Keeps s₀ (rxAckOp s x o) := by
  unfold rxAckOp
  dsimp only
  with_reducible repeat' (first | assumption | apply rxPut_keeps | apply ite_keeps)

theorem rxOffer_keeps (s : State) (x : Nat) (f : CanFrame) (age : Nat) (hk : Keeps s₀ s) :
    Keeps s₀ (rxOffer s x f age) := by
  unfold rxOffer
  with_reducible repeat' (first | assumption | apply rxStore_keeps | apply modCan_keeps | split)

/-! ### CanEvents -/

theorem execCanTxComplete_keeps (x : Nat) (s : State) (hk : Keeps s₀ s) :
    Goes s₀ (execCanTxComplete x s) := by
  unfold execCanTxComplete
  dsimp only
  with_reducible repeat' (first | assumption | apply modCan_keeps | apply canFrameEnd_keeps | apply canFollow_keeps | apply ite_keeps | apply ite_keeps_snd | apply ite_keeps_thd | apply ite_keeps_out | apply keeps_next)

theorem execCanError_keeps (x : Nat) (kind : CanErrKind) (transmitting : Bool) (amount : Nat) (s : State) (hk : Keeps s₀ s) :
    Goes s₀ (execCanError x kind transmitting amount s) := by
  unfold execCanError
  dsimp only
  with_reducible repeat' (first | assumption | apply modCan_keeps | apply canBusOff_keeps | apply canFrameEnd_keeps | apply canFollow_keeps | apply ite_keeps | apply ite_keeps_snd | apply ite_keeps_thd | apply ite_keeps_out | apply keeps_next)

theorem execBusoffHoldoffEnd_keeps (x : Nat) (s : State) (hk : Keeps s₀ s) :
    Goes s₀ (execBusoffHoldoffEnd x s) := by
  unfold execBusoffHoldoffEnd
  dsimp only
  with_reducible repeat' (first | assumption | apply canSetState_keeps | apply ite_keeps | apply ite_keeps_snd | apply ite_keeps_thd | apply ite_keeps_out | apply keeps_next)

theorem execBusOffRecovered_keeps (x : Nat) (s : State) (hk : Keeps s₀ s) :
    Goes s₀ (execBusOffRecovered x s) := by
  unfold execBusOffRecovered
  dsimp only
  with_reducible repeat' (first | assumption | apply modCan_keeps | apply canFrameEnd_keeps | apply canEnterMode_keeps | apply ite_keeps | apply ite_keeps_snd | apply ite_keeps_thd | apply ite_keeps_out | apply keeps_next)

theorem execLoneRetry_keeps (x : Nat) (s : State) (hk : Keeps s₀ s) :
    Goes s₀ (execLoneRetry x s) := by
  unfold execLoneRetry
  dsimp only
  with_reducible repeat' (first | assumption | apply modCan_keeps | apply ite_keeps | apply ite_keeps_snd | apply ite_keeps_thd | apply ite_keeps_out | apply keeps_next)

theorem execRateCandidateTimer_keeps (x : Nat) (s : State) (hk : Keeps s₀ s) :
    Goes s₀ (execRateCandidateTimer x s) := by
  unfold execRateCandidateTimer
  dsimp only
  with_reducible repeat' (first | assumption | apply modCan_keeps | apply ite_keeps | apply ite_keeps_snd | apply ite_keeps_thd | apply ite_keeps_out | apply keeps_next)

theorem execReintegrationDone_keeps (x : Nat) (s : State) (hk : Keeps s₀ s) :
    Goes s₀ (execReintegrationDone x s) := by
  unfold execReintegrationDone
  dsimp only
  with_reducible repeat' (first | assumption | apply canFrameEnd_keeps | apply canEnterMode_keeps | apply ite_keeps | apply ite_keeps_snd | apply ite_keeps_thd | apply ite_keeps_out | apply keeps_next)

theorem execUrgentDiscard_keeps (x : Nat) (s : State) (hk : Keeps s₀ s) :
    Goes s₀ (execUrgentDiscard x s) := by
  unfold execUrgentDiscard
  with_reducible repeat' (first | assumption | apply canExpire_keeps | apply keeps_next)

theorem execTxDomTimeout_keeps (x : Nat) (s : State) (hk : Keeps s₀ s) :
    Goes s₀ (execTxDomTimeout x s) := by
  unfold execTxDomTimeout
  with_reducible repeat' (first | assumption | apply modCan_keeps | apply ite_keeps | apply ite_keeps_snd | apply ite_keeps_thd | apply ite_keeps_out | apply keeps_next)

theorem execSleepEntry_keeps (x : Nat) (s : State) (hk : Keeps s₀ s) :
    Goes s₀ (execSleepEntry x s) := by
  unfold execSleepEntry
  dsimp only
  with_reducible repeat' (first | assumption | apply modCan_keeps | apply canSetState_keeps | apply ite_keeps | apply ite_keeps_snd | apply ite_keeps_thd | apply ite_keeps_out | apply keeps_next | split)

theorem execDominantWake_keeps (x nanoseconds : Nat) (s : State) (hk : Keeps s₀ s) :
    Goes s₀ (execDominantWake x nanoseconds s) := by
  unfold execDominantWake
  dsimp only
  with_reducible repeat' (first | assumption | apply canWake_keeps | apply takeFree_keeps | apply ite_keeps | apply ite_keeps_snd | apply ite_keeps_thd | apply ite_keeps_out | apply keeps_next)

theorem execWakeFrame_keeps (x : Nat) (frame : CanFrame) (s : State) (hk : Keeps s₀ s) :
    Goes s₀ (execWakeFrame x frame s) := by
  unfold execWakeFrame
  with_reducible repeat' (first | assumption | apply canWake_keeps | apply modCan_keeps | apply ite_keeps | apply ite_keeps_snd | apply ite_keeps_thd | apply ite_keeps_out | apply keeps_next)

theorem execWakeErrorCount_keeps (x : Nat) (error : Bool) (s : State) (hk : Keeps s₀ s) :
    Goes s₀ (execWakeErrorCount x error s) := by
  unfold execWakeErrorCount
  dsimp only
  with_reducible repeat' (first | assumption | apply modCan_keeps | apply canWake_keeps | apply ite_keeps | apply ite_keeps_snd | apply ite_keeps_thd | apply ite_keeps_out | apply keeps_next)

theorem execTrxOvertemp_keeps (x : Nat) (hot : Bool) (s : State) (hk : Keeps s₀ s) :
    Goes s₀ (execTrxOvertemp x hot s) := by
  unfold execTrxOvertemp
  dsimp only
  with_reducible repeat' (first | assumption | apply modCan_keeps | apply canEnter_keeps | apply ite_keeps | apply ite_keeps_snd | apply ite_keeps_thd | apply ite_keeps_out | apply keeps_next)

/-! ### EngineOps -/

theorem modLane_keeps (s : State) (i : Nat) (f : Lane → Lane) (hk : Keeps s₀ s) :
    Keeps s₀ (modLane s i f) := by
  unfold modLane
  dsimp only
  with_reducible repeat' (first | assumption | apply ite_keeps | apply ite_keeps_snd | apply ite_keeps_thd | (simp only [↓keeps_mk]; apply Keeps.parts))

theorem poolTakeOne_keeps (s : State) (n : Nat) (hk : Keeps s₀ s) :
    Keeps s₀ (poolTakeOne s n) := by
  unfold poolTakeOne
  dsimp only
  with_reducible repeat' (first | assumption | apply modLoop_keeps | split)

theorem poolTake_keeps (s : State) (n k : Nat) (hk : Keeps s₀ s) :
    Keeps s₀ (poolTake s n k) := by
  unfold poolTake
  with_reducible repeat' (first | assumption | apply poolTakeOne_keeps | refine forAll_keeps _ _ _ (fun _ _ _ => ?_) ?_)

theorem poolAssign_keeps (s : State) (hk : Keeps s₀ s) :
    Keeps s₀ (poolAssign s) := by
  unfold poolAssign
  dsimp only
  with_reducible repeat' (first | assumption | apply modLoop_keeps | apply poolTake_keeps | apply ite_keeps | apply ite_keeps_snd | apply ite_keeps_thd | refine forAll_keeps _ _ _ (fun _ _ _ => ?_) ?_)

theorem loopBegin_keeps (s : State) (n : Nat) (hk : Keeps s₀ s) :
    Keeps s₀ (loopBegin s n) := by
  unfold loopBegin
  dsimp only
  with_reducible repeat' (first | assumption | apply modLoop_keeps)

theorem loopTakeSet_keeps (s : State) (n : Nat) (hk : Keeps s₀ s) :
    Keeps s₀ (loopTakeSet s n) := by
  unfold loopTakeSet
  dsimp only
  with_reducible repeat' (first | assumption | apply takeObj_keeps | apply syncDone_keeps | apply modLoop_keeps | apply loopBegin_keeps | apply ite_keeps | apply ite_keeps_snd | apply ite_keeps_thd | refine forAll_keeps _ _ _ (fun _ _ _ => ?_) ?_)

theorem loopDue_keeps (s : State) (n endClk : Nat) (result : Bool) (hk : Keeps s₀ s) :
    Keeps s₀ (loopDue s n endClk result) := by
  unfold loopDue
  with_reducible repeat' (first | assumption | apply modLoop_keeps | apply ite_keeps)

theorem resultDue_keeps (s : State) (code endClk : Nat) (hk : Keeps s₀ s) :
    Keeps s₀ (resultDue s code endClk) := by
  unfold resultDue
  with_reducible repeat' (first | assumption | apply loopDue_keeps | refine forAll_keeps _ _ _ (fun _ _ _ => ?_) ?_)

/-! ### LoomOps -/

theorem setLearn_keeps (s : State) (c : Nat) (l : CircLearn) (hk : Keeps s₀ s) :
    Keeps s₀ (setLearn s c l) := by
  unfold setLearn
  with_reducible repeat' (first | assumption | apply modCirc_keeps)

theorem circWithdraw_keeps (s : State) (c : Nat) (hk : Keeps s₀ s) :
    Keeps s₀ (circWithdraw s c) := by
  unfold circWithdraw
  dsimp only
  with_reducible repeat' (first | assumption | apply modCirc_keeps | apply ite_keeps | apply ite_keeps_snd | apply ite_keeps_thd | (simp only [↓keeps_mk]; apply Keeps.parts))

theorem circDirect_keeps (s : State) (c : Nat) (hk : Keeps s₀ s) :
    Keeps s₀ (circDirect s c) := by
  unfold circDirect
  dsimp only
  with_reducible repeat' (first | assumption | apply modCirc_keeps | apply ite_keeps | apply ite_keeps_snd | apply ite_keeps_thd | split)

theorem circAsk_keeps (s : State) (c : Nat) (b : Bool) (hk : Keeps s₀ s) :
    Keeps s₀ (circAsk s c b) := by
  unfold circAsk
  dsimp only
  with_reducible repeat' (first | assumption | apply modCirc_keeps | apply circWithdraw_keeps | apply circDirect_keeps | apply ite_keeps)

theorem circRefresh_keeps (s : State) (c : Nat) (hk : Keeps s₀ s) :
    Keeps s₀ (circRefresh s c) := by
  unfold circRefresh
  with_reducible repeat' (first | assumption | apply circAsk_keeps | apply ite_keeps | apply ite_keeps_snd | apply ite_keeps_thd | split)

theorem placeNext_keeps (s : State) (c : Nat) (hk : Keeps s₀ s) :
    Keeps s₀ (placeNext s c) := by
  unfold placeNext
  dsimp only
  with_reducible repeat' (first | assumption | apply modCirc_keeps | apply ite_keeps | apply ite_keeps_snd | apply ite_keeps_thd | (simp only [↓keeps_mk]; apply Keeps.parts))

theorem bankSettle_keeps (b n : Nat) (s : State) (hk : Keeps s₀ s) :
    Keeps s₀ (bankSettle b n s) := by
  induction n generalizing s with
  | zero => exact hk
  | succ n ih =>
    unfold bankSettle
    split
    · with_reducible exact hk
    · exact ih _ (placeNext_keeps _ _ hk)

theorem circPlace_keeps (s : State) (c from_ : Nat) (b : Bool) (hk : Keeps s₀ s) :
    Keeps s₀ (circPlace s c from_ b) := by
  unfold circPlace
  dsimp only
  with_reducible repeat' (first | assumption | apply modCirc_keeps | apply bankSettle_keeps | apply ite_keeps | apply ite_keeps_snd | apply ite_keeps_thd | (simp only [↓keeps_mk]; apply Keeps.parts))

theorem transStart_keeps (s : State) (c : Nat) (close : Bool) (a : ArmedCmd) (hk : Keeps s₀ s) :
    Keeps s₀ (transStart s c close a) := by
  unfold transStart
  dsimp only
  with_reducible repeat' (first | assumption | apply modCirc_keeps | apply setLearn_keeps | apply ite_keeps)

theorem transEnd_keeps (s : State) (c : Nat) (hk : Keeps s₀ s) :
    Keeps s₀ (transEnd s c) := by
  unfold transEnd
  dsimp only
  with_reducible repeat' (first | assumption | apply modCirc_keeps | apply circRefresh_keeps | apply ite_keeps | apply ite_keeps_snd | apply ite_keeps_thd | split)

theorem taintTransitions_keeps (s : State) (hk : Keeps s₀ s) :
    Keeps s₀ (taintTransitions s) := by
  unfold taintTransitions
  with_reducible repeat' (first | assumption | apply modCirc_keeps | apply ite_keeps | apply ite_keeps_snd | apply ite_keeps_thd | refine forAll_keeps _ _ _ (fun _ _ _ => ?_) ?_)

theorem closureFound_keeps (s : State) (c stamp : Nat) (hk : Keeps s₀ s) :
    Keeps s₀ (closureFound s c stamp) := by
  unfold closureFound
  dsimp only
  with_reducible repeat' (first | assumption | apply modCirc_keeps | apply setLearn_keeps | apply transEnd_keeps | apply ite_keeps | apply ite_keeps_snd | apply ite_keeps_thd | split)

theorem releaseFound_keeps (s : State) (c stamp : Nat) (hk : Keeps s₀ s) :
    Keeps s₀ (releaseFound s c stamp) := by
  unfold releaseFound
  dsimp only
  with_reducible repeat' (first | assumption | apply modCirc_keeps | apply setLearn_keeps | apply transEnd_keeps | apply ite_keeps | apply ite_keeps_snd | apply ite_keeps_thd | split)

theorem noteSeatToLoad_keeps (s : State) (c seat load : Nat) (hk : Keeps s₀ s) :
    Keeps s₀ (noteSeatToLoad s c seat load) := by
  unfold noteSeatToLoad
  with_reducible repeat' (first | assumption | apply modCirc_keeps)

theorem loomSeat_keeps (s : State) (v stamp : Nat) (delayed : Bool) (hk : Keeps s₀ s) :
    Keeps s₀ (loomSeat s v stamp delayed) := by
  unfold loomSeat
  dsimp only
  with_reducible repeat' (first | assumption | apply modCirc_keeps | apply closureFound_keeps | apply noteSeatToLoad_keeps | apply ite_keeps | apply ite_keeps_snd | apply ite_keeps_thd | refine forAll_keeps _ _ _ (fun _ _ _ => ?_) ?_ | split)

theorem loadStart_keeps (s : State) (c stamp : Nat) (hk : Keeps s₀ s) :
    Keeps s₀ (loadStart s c stamp) := by
  unfold loadStart
  dsimp only
  with_reducible repeat' (first | assumption | apply modCirc_keeps | apply closureFound_keeps | apply ite_keeps | apply ite_keeps_snd | apply ite_keeps_thd | split)

theorem loadCrossing_keeps (s : State) (c : Nat) (pos : Bool) (mag : Int) (at_ : Nat) (hk : Keeps s₀ s) :
    Keeps s₀ (loadCrossing s c pos mag at_) := by
  unfold loadCrossing
  dsimp only
  with_reducible repeat' (first | assumption | apply modCirc_keeps | apply setLearn_keeps | apply ite_keeps)

theorem loadSample_keeps (s : State) (c : Nat) (v : Int) (stamp : Nat) (hk : Keeps s₀ s) :
    Keeps s₀ (loadSample s c v stamp) := by
  unfold loadSample
  dsimp only
  with_reducible repeat' (first | assumption | apply loadStart_keeps | apply noteSeatToLoad_keeps | apply loadCrossing_keeps | apply modCirc_keeps | apply releaseFound_keeps | apply ite_keeps | apply ite_keeps_snd | apply ite_keeps_thd | split)

theorem loomLoad_keeps (s : State) (k : Nat) (v : Int) (stamp : Nat) (hk : Keeps s₀ s) :
    Keeps s₀ (loomLoad s k v stamp) := by
  unfold loomLoad
  with_reducible repeat' (first | assumption | apply loadSample_keeps | refine forAll_keeps _ _ _ (fun _ _ _ => ?_) ?_)

theorem loomDrive_keeps (s : State) (h word : Nat) (hk : Keeps s₀ s) :
    Keeps s₀ (loomDrive s h word) := by
  unfold loomDrive
  with_reducible repeat' (first | assumption | apply ioApply_keeps | apply vlvCommandFree_keeps | apply ite_keeps)

theorem circAct_keeps (s : State) (c : Nat) (close : Bool) (word : Nat) (a : ArmedCmd) (hk : Keeps s₀ s) :
    Keeps s₀ (circAct s c close word a) := by
  unfold circAct
  with_reducible repeat' (first | assumption | apply loomDrive_keeps | apply transStart_keeps)

/-! ### SnapOps -/

theorem snapSendFrame_keeps (s : State) (payload : List Byte) (hk : Keeps s₀ s) :
    Keeps s₀ (snapSendFrame s payload) := by
  unfold snapSendFrame
  with_reducible repeat' (first | assumption | apply canQueueUrgent_keeps | apply ite_keeps | apply ite_keeps_snd | apply ite_keeps_thd | refine forAll_keeps _ _ _ (fun _ _ _ => ?_) ?_)

theorem snapPulse_keeps (s : State) (hk : Keeps s₀ s) :
    Keeps s₀ (snapPulse s) := by
  unfold snapPulse
  dsimp only
  with_reducible repeat' (first | assumption | apply ite_keeps | apply ite_keeps_snd | apply ite_keeps_thd | (simp only [↓keeps_mk]; apply Keeps.parts))

theorem snapCapture_keeps (s : State) (slot source trigAt detail : Nat) (delayed late merged : Bool) (hk : Keeps s₀ s) :
    Keeps s₀ (snapCapture s slot source trigAt detail delayed late merged) := by
  unfold snapCapture
  dsimp only
  with_reducible repeat' (first | assumption | apply modSlot_keeps | apply logEvent_keeps | apply snapPulse_keeps | apply snapSendFrame_keeps | apply ite_keeps)

theorem snapDrop_keeps (s : State) (slot source : Nat) (late : Bool) (hk : Keeps s₀ s) :
    Keeps s₀ (snapDrop s slot source late) := by
  unfold snapDrop
  dsimp only
  with_reducible repeat' (first | assumption | apply queueRec_keeps | (simp only [↓keeps_mk]; apply Keeps.parts))

theorem snapMergeRec_keeps (s : State) (slot : Nat) (hk : Keeps s₀ s) :
    Keeps s₀ (snapMergeRec s slot) := by
  unfold snapMergeRec
  rw [keeps_mk]
  refine ⟨hk.pending, hk.clk, fun x => ?_⟩
  have k := hk.sound x
  exact ⟨k.sram, k.cards, k.ring, Nat.le_trans (Nat.le_of_eq (List.length_map _)) k.queue, k.hostEvents, k.nodeEvents⟩

theorem snapMerge_keeps (s : State) (slot source detail : Nat) (hk : Keeps s₀ s) :
    Keeps s₀ (snapMerge s slot source detail) := by
  unfold snapMerge
  dsimp only
  with_reducible repeat' (first | assumption | apply snapMergeRec_keeps | apply modSlot_keeps | apply snapPulse_keeps | apply snapSendFrame_keeps | apply ite_keeps)

theorem snapFire_keeps (s : State) (slot source detail : Nat) (late : Bool) (hk : Keeps s₀ s) :
    Keeps s₀ (snapFire s slot source detail late) := by
  unfold snapFire
  dsimp only
  with_reducible repeat' (first | assumption | apply snapMerge_keeps | apply snapDrop_keeps | apply snapCapture_keeps | apply ite_keeps | apply ite_keeps_snd | apply ite_keeps_thd | (simp only [↓keeps_mk]; apply Keeps.parts) | split)

theorem snapArm_keeps (s : State) (slot at_ : Nat) (hk : Keeps s₀ s) :
    Keeps s₀ (snapArm s slot at_) := by
  unfold snapArm
  dsimp only
  with_reducible repeat' (first | assumption | apply modSlot_keeps | apply snapFire_keeps | apply ite_keeps)

theorem snapArmFrame_keeps (s : State) (slot at_ : Nat) (hk : Keeps s₀ s) :
    Keeps s₀ (snapArmFrame s slot at_) := by
  unfold snapArmFrame
  with_reducible repeat' (first | assumption | apply snapSendFrame_keeps)

theorem snapRelease_keeps (s : State) (slot : Nat) (hk : Keeps s₀ s) :
    Keeps s₀ (snapRelease s slot) := by
  unfold snapRelease
  with_reducible repeat' (first | assumption | apply modSlot_keeps)

/-! ### PairOps -/

theorem pairFlag_keeps (s : State) (i : Nat) (b : Bool) (hk : Keeps s₀ s) :
    Keeps s₀ (pairFlag s i b) := by
  unfold pairFlag
  dsimp only
  with_reducible repeat' (first | assumption | (simp only [↓keeps_mk]; apply Keeps.parts))

theorem noteLoss_keeps (s : State) (n : Nat) (hk : Keeps s₀ s) :
    Keeps s₀ (noteLoss s n) := by
  unfold noteLoss
  dsimp only
  with_reducible repeat' (first | assumption | apply pairFlag_keeps | apply ite_keeps | apply ite_keeps_snd | apply ite_keeps_thd | (simp only [↓keeps_mk]; apply Keeps.parts))

theorem sendMirror_keeps (s : State) (i : MirrorItem) (hk : Keeps s₀ s) :
    Keeps s₀ (sendMirror s i) := by
  unfold sendMirror
  dsimp only
  with_reducible repeat' (first | assumption | apply noteLoss_keeps | apply ite_keeps | apply ite_keeps_snd | apply ite_keeps_thd | (simp only [↓keeps_mk]; apply Keeps.parts))

theorem translate_keeps (s : State) (l : List (Nat × Val)) (hk : Keeps s₀ s) :
    Keeps s₀ (translate s l).2 := by
  unfold translate
  dsimp only
  with_reducible repeat' (first | assumption | apply noteLoss_keeps)

theorem sendConfig_keeps (s : State) (gen : Nat) (changes : List (Nat × Val)) (hk : Keeps s₀ s) :
    Keeps s₀ (sendConfig s gen changes) := by
  unfold sendConfig
  dsimp only
  with_reducible repeat' (first | assumption | apply translate_keeps | apply ite_keeps | apply ite_keeps_snd | apply ite_keeps_thd | (simp only [↓keeps_mk]; apply Keeps.parts))

theorem logRole_keeps (s : State) (old new_ : Nat) (dual : Bool) (hk : Keeps s₀ s) :
    Keeps s₀ (logRole s old new_ dual) := by
  unfold logRole
  with_reducible repeat' (first | assumption | apply logEvent_keeps)

theorem pairGiveUp_keeps (s : State) (hk : Keeps s₀ s) :
    Keeps s₀ (pairGiveUp s) := by
  unfold pairGiveUp
  dsimp only
  with_reducible repeat' (first | assumption | apply ite_keeps | apply ite_keeps_snd | apply ite_keeps_thd | (simp only [↓keeps_mk]; apply Keeps.parts))

/-! ### SafetyOps -/

theorem applyOut_keeps (s : State) (h : Nat) (hk : Keeps s₀ s) :
    Keeps s₀ (applyOut s h) := by
  unfold applyOut
  with_reducible repeat' (first | assumption | apply ioApply_keeps | apply vlvTakeUp_keeps | apply fanUpdate_keeps | apply aoApply_keeps | apply ite_keeps)

theorem applyAll_keeps (s : State) (hk : Keeps s₀ s) :
    Keeps s₀ (applyAll s) := by
  unfold applyAll
  with_reducible repeat' (first | assumption | apply applyOut_keeps | refine forAll_keeps _ _ _ (fun _ _ _ => ?_) ?_)

theorem safeMark_keeps (bit : Nat) (s : State) (h : Nat) (hk : Keeps s₀ s) :
    Keeps s₀ (safeMark bit s h) := by
  unfold safeMark
  dsimp only
  with_reducible repeat' (first | assumption | apply modSafe_keeps)

theorem faultNFollow_keeps (s : State) (hk : Keeps s₀ s) :
    Keeps s₀ (faultNFollow s) := by
  unfold faultNFollow
  dsimp only
  with_reducible repeat' (first | assumption | (simp only [↓keeps_mk]; apply Keeps.parts))

theorem safeRecord_keeps (s : State) (bit scope chan loop : Nat) (hk : Keeps s₀ s) :
    Keeps s₀ (safeRecord s bit scope chan loop) := by
  unfold safeRecord
  dsimp only
  with_reducible repeat' (first | assumption | apply logEvent_keeps | (simp only [↓keeps_mk]; apply Keeps.parts))

theorem safeSnap_keeps (s : State) (bit : Nat) (hk : Keeps s₀ s) :
    Keeps s₀ (safeSnap s bit) := by
  unfold safeSnap
  with_reducible repeat' (first | assumption | apply snapFire_keeps)

theorem failModule_keeps (s : State) (bit : Nat) (hk : Keeps s₀ s) :
    Keeps s₀ (failModule s bit) := by
  unfold failModule
  dsimp only
  with_reducible repeat' (first | assumption | apply safeRecord_keeps | apply pairGiveUp_keeps | apply safeMark_keeps | apply safeSnap_keeps | apply applyAll_keeps | apply ite_keeps | apply ite_keeps_snd | apply ite_keeps_thd | refine forAll_keeps _ _ _ (fun _ _ _ => ?_) ?_ | (simp only [↓keeps_mk]; apply Keeps.parts))

theorem failChannels_keeps (s : State) (bit : Nat) (hs : List Nat) (loop : Nat) (hk : Keeps s₀ s) :
    Keeps s₀ (failChannels s bit hs loop) := by
  unfold failChannels
  dsimp only
  with_reducible repeat' (first | assumption | apply safeRecord_keeps | apply safeMark_keeps | apply safeSnap_keeps | apply applyOut_keeps | apply faultNFollow_keeps | apply ite_keeps | apply ite_keeps_snd | apply ite_keeps_thd | refine forAll_keeps _ _ _ (fun _ _ _ => ?_) ?_ | (simp only [↓keeps_mk]; apply Keeps.parts))

theorem safeDeviate_keeps (s : State) (p : Nat → Bool) (hk : Keeps s₀ s) :
    Keeps s₀ (safeDeviate s p) := by
  unfold safeDeviate
  with_reducible repeat' (first | assumption | apply modSafe_keeps | refine forAll_keeps _ _ _ (fun _ _ _ => ?_) ?_)

theorem safeRelease_keeps (s : State) (h : Nat) (hk : Keeps s₀ s) :
    Keeps s₀ (safeRelease s h) := by
  unfold safeRelease
  with_reducible repeat' (first | assumption | apply applyOut_keeps | apply modSafe_keeps)

theorem latchSafe_keeps (s : State) (hk : Keeps s₀ s) :
    Keeps s₀ (latchSafe s) := by
  unfold latchSafe
  dsimp only
  with_reducible repeat' (first | assumption | (simp only [↓keeps_mk]; apply Keeps.parts))

theorem failInput_keeps (s : State) (code : Nat) (hk : Keeps s₀ s) :
    Keeps s₀ (failInput s code) := by
  unfold failInput
  dsimp only
  with_reducible repeat' (first | assumption | apply modLoop_keeps | apply failChannels_keeps | apply ite_keeps | apply ite_keeps_snd | apply ite_keeps_thd | refine forAll_keeps _ _ _ (fun _ _ _ => ?_) ?_ | (simp only [↓keeps_mk]; apply Keeps.parts))

/-! ### MeasOps -/

theorem triggerEvent_keeps (s : State) (src : Nat) (hk : Keeps s₀ s) :
    Keeps s₀ (triggerEvent s src) := by
  unfold triggerEvent
  dsimp only
  with_reducible repeat' (first | assumption | apply modTrig_keeps | refine forAll_keeps _ _ _ (fun _ _ _ => ?_) ?_ | (simp only [↓keeps_mk]; apply Keeps.parts))

theorem putRec_keeps (s : State) (key : Nat) (r : ResRec) (hk : Keeps s₀ s) :
    Keeps s₀ (putRec s key r) := by
  unfold putRec
  dsimp only
  with_reducible repeat' (first | assumption | apply setRec_keeps | apply clearPoison_keeps | apply sramWrite_keeps)

/-! ### MemOps -/

theorem memFlag_keeps (s : State) (i : Nat) (b : Bool) (hk : Keeps s₀ s) :
    Keeps s₀ (memFlag s i b) := by
  unfold memFlag
  dsimp only
  with_reducible repeat' (first | assumption | (simp only [↓keeps_mk]; apply Keeps.parts))

theorem addLedger_keeps (s : State) (memory kind origin bank index spare : Nat) (hk : Keeps s₀ s) :
    Keeps s₀ (addLedger s memory kind origin bank index spare) := by
  unfold addLedger
  dsimp only
  with_reducible repeat' (first | assumption | apply memFlag_keeps | apply ite_keeps | apply ite_keeps_snd | apply ite_keeps_thd | (simp only [↓keeps_mk]; apply Keeps.parts))

theorem logRepair_keeps (s : State) (hk : Keeps s₀ s) :
    Keeps s₀ (logRepair s) := by
  unfold logRepair
  with_reducible repeat' (first | assumption | apply logEvent_keeps | split)

theorem writeMap_keeps (s : State) (hk : Keeps s₀ s) :
    Keeps s₀ (writeMap s) := by
  unfold writeMap
  dsimp only
  with_reducible repeat' (first | assumption | apply mramWritten_keeps | (simp only [↓keeps_mk]; apply Keeps.parts))

theorem refreshMapFlags_keeps (s : State) (hk : Keeps s₀ s) :
    Keeps s₀ (refreshMapFlags s) := by
  unfold refreshMapFlags
  with_reducible repeat' (first | assumption | apply memFlag_keeps)

theorem exhausted_keeps (s : State) (m bank index origin : Nat) (hk : Keeps s₀ s) :
    Keeps s₀ (exhausted s m bank index origin) := by
  unfold exhausted
  dsimp only
  with_reducible repeat' (first | assumption | apply logRepair_keeps | apply addLedger_keeps | apply memFlag_keeps | apply writeMap_keeps | apply failModule_keeps | apply ite_keeps)

theorem defectColumn_keeps (s : State) (m bank col origin : Nat) (hk : Keeps s₀ s) :
    Keeps s₀ (defectColumn s m bank col origin) := by
  unfold defectColumn
  dsimp only
  with_reducible repeat' (first | assumption | apply writeMap_keeps | apply refreshMapFlags_keeps | apply logRepair_keeps | apply addLedger_keeps | apply exhausted_keeps | apply ite_keeps | apply ite_keeps_snd | apply ite_keeps_thd | (simp only [↓keeps_mk]; apply Keeps.parts) | split)

theorem defectRow_keeps (s : State) (m bank row origin : Nat) (hk : Keeps s₀ s) :
    Keeps s₀ (defectRow s m bank row origin) := by
  unfold defectRow
  dsimp only
  with_reducible repeat' (first | assumption | apply writeMap_keeps | apply refreshMapFlags_keeps | apply logRepair_keeps | apply addLedger_keeps | apply exhausted_keeps | apply ite_keeps | apply ite_keeps_snd | apply ite_keeps_thd | (simp only [↓keeps_mk]; apply Keeps.parts) | split)

theorem dropLearned_keeps (s : State) (line : Nat) (hk : Keeps s₀ s) :
    Keeps s₀ (dropLearned s line) := by
  unfold dropLearned
  dsimp only
  with_reducible repeat' (first | assumption | apply modCirc_keeps | apply modVlv_keeps | apply modZone_keeps | apply ite_keeps | apply ite_keeps_snd | apply ite_keeps_thd | (simp only [↓keeps_mk]; apply Keeps.parts))

theorem dropProfile_keeps (s : State) (slot : Nat) (hk : Keeps s₀ s) :
    Keeps s₀ (dropProfile s slot) := by
  unfold dropProfile
  dsimp only
  with_reducible repeat' (first | assumption | apply modLoop_keeps | (simp only [↓keeps_mk]; apply Keeps.parts) | split)

theorem rewriteCopy_keeps (s : State) (k : Nat) (hk : Keeps s₀ s) :
    Keeps s₀ (rewriteCopy s k) := by
  unfold rewriteCopy
  dsimp only
  with_reducible repeat' (first | assumption | apply mramWritten_keeps | (simp only [↓keeps_mk]; apply Keeps.parts))

theorem poisonMram_keeps (s : State) (off : Nat) (hk : Keeps s₀ s) :
    Keeps s₀ (poisonMram s off) := by
  unfold poisonMram
  dsimp only
  with_reducible repeat' (first | assumption | apply rewriteCopy_keeps | apply dropProfile_keeps | apply dropLearned_keeps | apply ite_keeps | apply ite_keeps_snd | apply ite_keeps_thd | (simp only [↓keeps_mk]; apply Keeps.parts))

theorem poisonSram_keeps (s : State) (off : Nat) (hk : Keeps s₀ s) :
    Keeps s₀ (poisonSram s off) := by
  unfold poisonSram
  dsimp only
  with_reducible repeat' (first | assumption | apply setRec_keeps | apply failModule_keeps | apply ite_keeps | apply ite_keeps_snd | apply ite_keeps_thd | refine forAll_keeps _ _ _ (fun _ _ _ => ?_) ?_ | (simp only [↓keeps_mk]; apply Keeps.parts))

theorem poisonLine_keeps (s : State) (m off origin : Nat) (hk : Keeps s₀ s) :
    Keeps s₀ (poisonLine s m off origin) := by
  unfold poisonLine
  dsimp only
  with_reducible repeat' (first | assumption | apply addLedger_keeps | apply refreshPoison_keeps | apply defectRow_keeps | apply poisonSram_keeps | apply poisonMram_keeps | apply ite_keeps | apply ite_keeps_snd | apply ite_keeps_thd | (simp only [↓keeps_mk]; apply Keeps.parts))

theorem classify_keeps (s : State) (hits news : List Hit) (origin : Nat) (hk : Keeps s₀ s) :
    Keeps s₀ (classify s hits news origin) := by
  unfold classify
  dsimp only
  with_reducible repeat' (first | assumption | apply defectColumn_keeps | apply defectRow_keeps | apply ite_keeps | apply ite_keeps_snd | apply ite_keeps_thd | refine forAll_keeps _ _ _ (fun _ _ _ => ?_) ?_)

theorem hardCell_keeps (s : State) (h : Hit) (origin : Nat) (hk : Keeps s₀ s) :
    Keeps s₀ (hardCell s h origin) := by
  unfold hardCell
  dsimp only
  with_reducible repeat' (first | assumption | apply defectRow_keeps | apply ite_keeps | apply ite_keeps_snd | apply ite_keeps_thd | (simp only [↓keeps_mk]; apply Keeps.parts))

theorem retireLane_keeps (s : State) (i : Nat) (hk : Keeps s₀ s) :
    Keeps s₀ (retireLane s i) := by
  unfold retireLane
  dsimp only
  with_reducible repeat' (first | assumption | apply modLane_keeps | apply logEvent_keeps | apply writeMap_keeps | apply addLedger_keeps | apply ite_keeps | apply ite_keeps_snd | apply ite_keeps_thd | (simp only [↓keeps_mk]; apply Keeps.parts))

theorem laneFault_keeps (s : State) (i : Nat) (hk : Keeps s₀ s) :
    Keeps s₀ (laneFault s i) := by
  unfold laneFault
  dsimp only
  with_reducible repeat' (first | assumption | apply modLane_keeps | apply failModule_keeps | apply retireLane_keeps | apply ite_keeps | apply ite_keeps_snd | apply ite_keeps_thd | (simp only [↓keeps_mk]; apply Keeps.parts) | split)

/-! ### Memory -/

theorem scrubOn_keeps (s : State) (hk : Keeps s₀ s) :
    Keeps s₀ (scrubOn s) := by
  unfold scrubOn
  dsimp only
  with_reducible repeat' (first | assumption | apply ite_keeps | apply ite_keeps_snd | apply ite_keeps_thd | (simp only [↓keeps_mk]; apply Keeps.parts))

theorem execScrubRead_keeps (errs : List Nat) (s : State) (hk : Keeps s₀ s) :
    Goes s₀ (execScrubRead errs s) := by
  unfold execScrubRead
  dsimp only
  with_reducible repeat' (first | assumption | apply scrubOn_keeps | apply poisonLine_keeps | apply ite_keeps | apply ite_keeps_snd | apply ite_keeps_thd | apply ite_keeps_out | apply keeps_next | (simp only [↓keeps_mk]; apply Keeps.parts))

theorem execCorrectedWriteback_keeps (mem : MemKind) (offset : Nat) (s : State) (hk : Keeps s₀ s) :
    Goes s₀ (execCorrectedWriteback mem offset s) := by
  unfold execCorrectedWriteback
  dsimp only
  with_reducible repeat' (first | assumption | apply hardCell_keeps | apply classify_keeps | apply ite_keeps | apply ite_keeps_snd | apply ite_keeps_thd | apply ite_keeps_out | apply keeps_next | refine forAll_keeps _ _ _ (fun _ _ _ => ?_) ?_ | (simp only [↓keeps_mk]; apply Keeps.parts))

theorem execHeddleRewrite_keeps (entry : Nat) (s : State) (hk : Keeps s₀ s) :
    Goes s₀ (execHeddleRewrite entry s) := by
  unfold execHeddleRewrite
  dsimp only
  with_reducible repeat' (first | assumption | apply heddleStore_keeps | apply ite_keeps | apply ite_keeps_snd | apply ite_keeps_thd | apply ite_keeps_out | apply keeps_next | (simp only [↓keeps_mk]; apply Keeps.parts))

theorem execSpareMoveComplete_keeps (s : State) (hk : Keeps s₀ s) :
    Goes s₀ (execSpareMoveComplete s) := by
  unfold execSpareMoveComplete
  dsimp only
  with_reducible repeat' (first | assumption | apply writeMap_keeps | apply refreshMapFlags_keeps | apply ite_keeps | apply ite_keeps_snd | apply ite_keeps_thd | apply ite_keeps_out | apply keeps_next | (simp only [↓keeps_mk]; apply Keeps.parts))

theorem startInvalidate_keeps (s : State) (w : Nat) (hk : Keeps s₀ s) :
    Keeps s₀ (startInvalidate s w) := by
  unfold startInvalidate
  dsimp only
  with_reducible repeat' (first | assumption | (simp only [↓keeps_mk]; apply Keeps.parts))

theorem execInvalidationComplete_keeps (s : State) (hk : Keeps s₀ s) :
    Goes s₀ (execInvalidationComplete s) := by
  unfold execInvalidationComplete
  dsimp only
  with_reducible repeat' (first | assumption | apply ite_keeps | apply ite_keeps_snd | apply ite_keeps_thd | apply ite_keeps_out | apply keeps_next | (simp only [↓keeps_mk]; apply Keeps.parts))

end Sys2Proof.Machine
end

