-- ==== Sys2Proof/Laws/KeepsUnits.lean ====
section
/-! SUPPORT. Each operation keeps the queue of commands, the engine clock and a sound machine: the zones, the loops, the calendar and Warp. -/

namespace Sys2Proof.Machine

variable {s₀ : State}

/-! ### Zones -/

theorem prestartEnd_keeps (s : State) (z : Nat) (end_ : Nat) (pv : Int) (hk : Keeps s₀ s) :
    Keeps s₀ (prestartEnd s z end_ pv) := by
  unfold prestartEnd
  dsimp only
  with_reducible repeat' (first | assumption | apply modZone_keeps | apply ite_keeps | apply ite_keeps_snd | apply ite_keeps_thd | split)

theorem zoneSample_keeps (s : State) (n : Nat) (valid : Bool) (hk : Keeps s₀ s) :
    Keeps s₀ (zoneSample s n valid) := by
  unfold zoneSample
  dsimp only
  with_reducible repeat' (first | assumption | apply modZone_keeps | apply prestartEnd_keeps | apply ite_keeps | apply ite_keeps_snd | apply ite_keeps_thd | refine forAll_keeps _ _ _ (fun _ _ _ => ?_) ?_ | split)

theorem execOptimumStart_keeps (s : State) (hk : Keeps s₀ s) :
    Goes s₀ (execOptimumStart s) := by
  unfold execOptimumStart
  dsimp only
  with_reducible repeat' (first | assumption | apply modZone_keeps | apply ite_keeps | apply ite_keeps_snd | apply ite_keeps_thd | apply ite_keeps_out | apply keeps_next | refine forAll_keeps _ _ _ (fun _ _ _ => ?_) ?_)

theorem execPrestartTimeout_keeps (z : Nat) (s : State) (hk : Keeps s₀ s) :
    Goes s₀ (execPrestartTimeout z s) := by
  unfold execPrestartTimeout
  with_reducible repeat' (first | assumption | apply prestartEnd_keeps | apply ite_keeps | apply ite_keeps_snd | apply ite_keeps_thd | apply ite_keeps_out | apply keeps_next | split)

theorem osLearnReset_keeps (s : State) (z : Nat) (hk : Keeps s₀ s) :
    Keeps s₀ (osLearnReset s z) := by
  unfold osLearnReset
  with_reducible repeat' (first | assumption | apply modZone_keeps)

/-! ### Loops -/

theorem execSampleTimer_keeps (n : Nat) (s : State) (hk : Keeps s₀ s) :
    Goes s₀ (execSampleTimer n s) := by
  unfold execSampleTimer
  dsimp only
  with_reducible repeat' (first | assumption | apply modLoop_keeps | apply loopDue_keeps | apply ite_keeps | apply ite_keeps_snd | apply ite_keeps_thd | apply ite_keeps_out | apply keeps_next)

theorem execWarpSample_keeps (n : Nat) (s : State) (hk : Keeps s₀ s) :
    Goes s₀ (execWarpSample n s) := by
  unfold execWarpSample
  with_reducible repeat' (first | assumption | apply loopDue_keeps | apply modLoop_keeps | apply ite_keeps | apply ite_keeps_snd | apply ite_keeps_thd | apply ite_keeps_out | apply keeps_next)

theorem loopFault_keeps (s : State) (n : Nat) (hk : Keeps s₀ s) :
    Keeps s₀ (loopFault s n) := by
  unfold loopFault
  dsimp only
  with_reducible repeat' (first | assumption | apply modLoop_keeps | apply failChannels_keeps | refine forAll_keeps _ _ _ (fun _ _ _ => ?_) ?_)

theorem loopDrive_keeps (s : State) (n : Nat) (u : Int) (hk : Keeps s₀ s) :
    Keeps s₀ (loopDrive s n u) := by
  unfold loopDrive
  dsimp only
  with_reducible repeat' (first | assumption | apply ioApply_keeps | apply propDrive_keeps | apply vlvCommandFree_keeps | apply fanUpdate_keeps | apply aoApply_keeps | apply ite_keeps)

theorem outputApplied_keeps (s : State) (a : AxisOut) (hk : Keeps s₀ s) :
    Keeps s₀ (outputApplied s a) := by
  unfold outputApplied
  dsimp only
  with_reducible repeat' (first | assumption | apply modLoop_keeps | apply resultDue_keeps)

theorem axisApply_keeps (s : State) (k : Nat) (hk : Keeps s₀ s) :
    Keeps s₀ (axisApply s k) := by
  unfold axisApply
  dsimp only
  with_reducible repeat' (first | assumption | apply modFan_keeps | apply shadowSet_keeps | apply outputApplied_keeps | apply ite_keeps | apply ite_keeps_snd | apply ite_keeps_thd | refine forAll_keeps _ _ _ (fun _ _ _ => ?_) ?_)

theorem axisTake_keeps (s : State) (k : Nat) (a : AxisOut) (hk : Keeps s₀ s) :
    Keeps s₀ (axisTake s k a) := by
  unfold axisTake
  dsimp only
  with_reducible repeat' (first | assumption | apply modFan_keeps | apply axisApply_keeps | apply ite_keeps)

theorem outputGo_keeps (s : State) (a : AxisOut) (hk : Keeps s₀ s) :
    Keeps s₀ (outputGo s a) := by
  unfold outputGo
  dsimp only
  with_reducible repeat' (first | assumption | apply outputApplied_keeps | apply axisTake_keeps | apply ite_keeps | apply ite_keeps_snd | apply ite_keeps_thd | refine forAll_keeps _ _ _ (fun _ _ _ => ?_) ?_)

theorem sampleInvalid_keeps (s : State) (n : Nat) (hk : Keeps s₀ s) :
    Keeps s₀ (sampleInvalid s n) := by
  unfold sampleInvalid
  dsimp only
  with_reducible repeat' (first | assumption | apply modLoop_keeps | apply zoneSample_keeps)

theorem sampleStandby_keeps (s : State) (n : Nat) (pv : Int) (hk : Keeps s₀ s) :
    Keeps s₀ (sampleStandby s n pv) := by
  unfold sampleStandby
  dsimp only
  with_reducible repeat' (first | assumption | apply modLoop_keeps)

theorem sampleApply_keeps (s : State) (n : Nat) (m : ModeStep) (x : EvalOut) (v : SrcVal) (d : DueSample) (pv sp e u : Int) (r : RampSt) (retried stale held : Bool) (hk : Keeps s₀ s) :
    Keeps s₀ (sampleApply s n m x v d pv sp e u r retried stale held) := by
  unfold sampleApply
  dsimp only
  with_reducible repeat' (first | assumption | apply modLoop_keeps | apply outputGo_keeps | apply zoneSample_keeps | apply loopDrive_keeps)

theorem sampleEval_keeps (s : State) (n : Nat) (err : LaneErr) (v : SrcVal) (d : DueSample) (pv : Int) (hk : Keeps s₀ s) :
    Keeps s₀ (sampleEval s n err v d pv) := by
  unfold sampleEval
  dsimp only
  with_reducible repeat' (first | assumption | apply writeRw_keeps | apply modLoop_keeps | apply loopFault_keeps | apply sampleApply_keeps | apply laneFault_keeps | apply ite_keeps | apply ite_keeps_snd | apply ite_keeps_thd | refine forAll_keeps _ _ _ (fun _ _ _ => ?_) ?_ | split)

theorem execLoopSample_keeps (n : Nat) (err : LaneErr) (s : State) (hk : Keeps s₀ s) :
    Goes s₀ (execLoopSample n err s) := by
  unfold execLoopSample
  dsimp only
  with_reducible repeat' (first | assumption | apply heddleFetch_keeps | apply loopTakeSet_keeps | apply sampleInvalid_keeps | apply sampleStandby_keeps | apply sampleEval_keeps | apply ite_keeps | apply ite_keeps_snd | apply ite_keeps_thd | apply ite_keeps_out | apply keeps_next | split)

theorem execLaneTest_keeps (lane : Nat) (ok : Bool) (s : State) (hk : Keeps s₀ s) :
    Goes s₀ (execLaneTest lane ok s) := by
  unfold execLaneTest
  dsimp only
  with_reducible repeat' (first | assumption | apply modLane_keeps | apply laneFault_keeps | apply ite_keeps | apply ite_keeps_snd | apply ite_keeps_thd | apply ite_keeps_out | apply keeps_next)

theorem statsReset_keeps (s : State) (n : Nat) (hk : Keeps s₀ s) :
    Keeps s₀ (statsReset s n) := by
  unfold statsReset
  with_reducible repeat' (first | assumption | apply modLoop_keeps)

theorem rcClear_keeps (s : State) (n : Nat) (hk : Keeps s₀ s) :
    Keeps s₀ (rcClear s n) := by
  unfold rcClear
  dsimp only
  with_reducible repeat' (first | assumption | apply modLoop_keeps)

theorem writeProfile_keeps (s : State) (n : Nat) (l : List Byte) (hk : Keeps s₀ s) :
    Keeps s₀ (writeProfile s n l) := by
  unfold writeProfile
  dsimp only
  with_reducible repeat' (first | assumption | apply modLoop_keeps)

theorem execProfileSave_keeps (s : State) (hk : Keeps s₀ s) :
    Goes s₀ (execProfileSave s) := by
  unfold execProfileSave
  dsimp only
  with_reducible repeat' (first | assumption | apply mramWritten_keeps | apply modLoop_keeps | apply sendMirror_keeps | apply ite_keeps | apply ite_keeps_snd | apply ite_keeps_thd | apply ite_keeps_out | apply keeps_next | refine forAll_keeps _ _ _ (fun _ _ _ => ?_) ?_ | (simp only [↓keeps_mk]; apply Keeps.parts))

/-! ### Calendar -/

theorem calStep_keeps (s : State) (v : Nat) (hk : Keeps s₀ s) :
    Keeps s₀ (calStep s v) := by
  unfold calStep
  dsimp only
  with_reducible repeat' (first | assumption | apply logEvent_keeps | apply modZone_keeps | refine forAll_keeps _ _ _ (fun _ _ _ => ?_) ?_ | (simp only [↓keeps_mk]; apply Keeps.parts))

theorem calSlewAdd_keeps (s : State) (v : Int) (hk : Keeps s₀ s) :
    Keeps s₀ (calSlewAdd s v) := by
  unfold calSlewAdd
  dsimp only
  with_reducible repeat' (first | assumption | apply ite_keeps | apply ite_keeps_snd | apply ite_keeps_thd | (simp only [↓keeps_mk]; apply Keeps.parts))

theorem execSlewEnd_keeps (s : State) (hk : Keeps s₀ s) :
    Goes s₀ (execSlewEnd s) := by
  unfold execSlewEnd
  dsimp only
  with_reducible repeat' (first | assumption | apply ite_keeps | apply ite_keeps_snd | apply ite_keeps_thd | apply ite_keeps_out | apply keeps_next | (simp only [↓keeps_mk]; apply Keeps.parts))

theorem execGridEvaluation_keeps (s : State) (hk : Keeps s₀ s) :
    Goes s₀ (execGridEvaluation s) := by
  unfold execGridEvaluation
  dsimp only
  with_reducible repeat' (first | assumption | apply ite_keeps | apply ite_keeps_snd | apply ite_keeps_thd | apply ite_keeps_out | apply keeps_next | (simp only [↓keeps_mk]; apply Keeps.parts))

theorem astroCompute_keeps (s : State) (hk : Keeps s₀ s) :
    Keeps s₀ (astroCompute s) := by
  unfold astroCompute
  dsimp only
  with_reducible repeat' (first | assumption | apply ite_keeps | apply ite_keeps_snd | apply ite_keeps_thd | (simp only [↓keeps_mk]; apply Keeps.parts))

theorem execAstroComputation_keeps (s : State) (hk : Keeps s₀ s) :
    Goes s₀ (execAstroComputation s) := by
  unfold execAstroComputation
  dsimp only
  with_reducible repeat' (first | assumption | apply astroCompute_keeps | apply ite_keeps | apply ite_keeps_snd | apply ite_keeps_thd | apply ite_keeps_out | apply keeps_next)

theorem execCrystalCompensation_keeps (s : State) (hk : Keeps s₀ s) :
    Goes s₀ (execCrystalCompensation s) := by
  unfold execCrystalCompensation
  dsimp only
  with_reducible repeat' (first | assumption | apply ite_keeps | apply ite_keeps_snd | apply ite_keeps_thd | apply ite_keeps_out | apply keeps_next | (simp only [↓keeps_mk]; apply Keeps.parts))

/-! ### Warp -/

theorem execMainsZero_keeps (period ampl : Nat) (err : Int) (s : State) (hk : Keeps s₀ s) :
    Goes s₀ (execMainsZero period ampl err s) := by
  unfold execMainsZero
  dsimp only
  with_reducible repeat' (first | assumption | apply ite_keeps | apply ite_keeps_snd | apply ite_keeps_thd | apply ite_keeps_out | apply keeps_next | (simp only [↓keeps_mk]; apply Keeps.parts))

theorem execZeroMissing_keeps (s : State) (hk : Keeps s₀ s) :
    Goes s₀ (execZeroMissing s) := by
  unfold execZeroMissing
  dsimp only
  with_reducible repeat' (first | assumption | apply ite_keeps | apply ite_keeps_snd | apply ite_keeps_thd | apply ite_keeps_out | apply keeps_next | (simp only [↓keeps_mk]; apply Keeps.parts) | split)

theorem execHoldoverExpiry_keeps (s : State) (hk : Keeps s₀ s) :
    Goes s₀ (execHoldoverExpiry s) := by
  unfold execHoldoverExpiry
  dsimp only
  with_reducible repeat' (first | assumption | apply ite_keeps | apply ite_keeps_snd | apply ite_keeps_thd | apply ite_keeps_out | apply keeps_next | (simp only [↓keeps_mk]; apply Keeps.parts))

theorem alignSend_keeps (s : State) (hk : Keeps s₀ s) :
    Keeps s₀ (alignSend s) := by
  unfold alignSend
  dsimp only
  with_reducible repeat' (first | assumption | apply canQueue_keeps | apply ite_keeps | apply ite_keeps_snd | apply ite_keeps_thd | refine forAll_keeps _ _ _ (fun _ _ _ => ?_) ?_ | (simp only [↓keeps_mk]; apply Keeps.parts))

theorem execAlignRetry_keeps (s : State) (hk : Keeps s₀ s) :
    Goes s₀ (execAlignRetry s) := by
  unfold execAlignRetry
  dsimp only
  with_reducible repeat' (first | assumption | apply alignSend_keeps | apply ite_keeps | apply ite_keeps_snd | apply ite_keeps_thd | apply ite_keeps_out | apply keeps_next)

theorem execAlignResponse_keeps (warpNow_ : Nat) (s : State) (hk : Keeps s₀ s) :
    Goes s₀ (execAlignResponse warpNow_ s) := by
  unfold execAlignResponse
  dsimp only
  with_reducible repeat' (first | assumption | apply ite_keeps | apply ite_keeps_snd | apply ite_keeps_thd | apply ite_keeps_out | apply keeps_next | (simp only [↓keeps_mk]; apply Keeps.parts) | split)

theorem execClockFailure_keeps (cause : ClockFail) (s : State) (hk : Keeps s₀ s) :
    Goes s₀ (execClockFailure cause s) := by
  unfold execClockFailure
  with_reducible repeat' (first | assumption | apply failModule_keeps | apply ite_keeps | apply ite_keeps_snd | apply ite_keeps_thd | apply ite_keeps_out | apply keeps_next | split)

end Sys2Proof.Machine
end

