-- ==== Sys2Proof/Laws/KeepsDrives.lean ====
section
/-! SUPPORT. Each operation keeps the queue of commands, the engine clock and a sound machine: the valves, the field I/O and the fans. -/

namespace Sys2Proof.Machine

variable {s₀ : State}

/-! ### Valves -/

theorem vlvNext_keeps (s : State) (v : Nat) (hk : Keeps s₀ s) :
    Keeps s₀ (vlvNext s v) := by
  unfold vlvNext
  with_reducible repeat' (first | assumption | apply modVlv_keeps)

theorem vlvJump_keeps (s : State) (v a : Nat) (hk : Keeps s₀ s) :
    Keeps s₀ (vlvJump s v a) := by
  unfold vlvJump
  with_reducible repeat' (first | assumption | apply modVlv_keeps)

theorem vlvWaitOn_keeps (s : State) (v : Nat) (w : VlvWait) (hk : Keeps s₀ s) :
    Keeps s₀ (vlvWaitOn s v w) := by
  unfold vlvWaitOn
  with_reducible repeat' (first | assumption | apply modVlv_keeps)

theorem vlvRefresh_keeps (s : State) (v : Nat) (hk : Keeps s₀ s) :
    Keeps s₀ (vlvRefresh s v) := by
  unfold vlvRefresh
  with_reducible repeat' (first | assumption | apply bankRefresh_keeps)

theorem detSeat_keeps (s : State) (v : Nat) (hk : Keeps s₀ s) :
    Keeps s₀ (detSeat s v) := by
  unfold detSeat
  with_reducible repeat' (first | assumption | apply modVlv_keeps)

theorem vlvRefTo_keeps (s : State) (v level : Nat) (hk : Keeps s₀ s) :
    Keeps s₀ (vlvRefTo s v level) := by
  unfold vlvRefTo
  dsimp only
  with_reducible repeat' (first | assumption | apply modVlv_keeps | apply vlvDecay_keeps | apply ite_keeps)

theorem vlvDrive_keeps (s : State) (v level : Nat) (hk : Keeps s₀ s) :
    Keeps s₀ (vlvDrive s v level) := by
  unfold vlvDrive
  dsimp only
  with_reducible repeat' (first | assumption | apply modVlv_keeps | apply vlvRefresh_keeps | apply vlvNext_keeps | apply vlvRefTo_keeps)

theorem execCardStart_keeps (v : Nat) (s : State) (hk : Keeps s₀ s) :
    Goes s₀ (execCardStart v s) := by
  unfold execCardStart
  dsimp only
  with_reducible repeat' (first | assumption | apply modBank_keeps | apply vlvBegin_keeps | apply vlvRefresh_keeps | apply modVlv_keeps | apply ite_keeps | apply ite_keeps_snd | apply ite_keeps_thd | apply ite_keeps_out | apply keeps_next | split)

theorem execPulseExpiry_keeps (v : Nat) (s : State) (hk : Keeps s₀ s) :
    Goes s₀ (execPulseExpiry v s) := by
  unfold execPulseExpiry
  with_reducible repeat' (first | assumption | apply vlvCommand_keeps | apply ite_keeps | apply ite_keeps_snd | apply ite_keeps_thd | apply ite_keeps_out | apply keeps_next | split)

theorem execWait5200Expiry_keeps (v : Nat) (s : State) (hk : Keeps s₀ s) :
    Goes s₀ (execWait5200Expiry v s) := by
  unfold execWait5200Expiry
  dsimp only
  with_reducible repeat' (first | assumption | apply modVlv_keeps | apply ite_keeps | apply ite_keeps_snd | apply ite_keeps_thd | apply ite_keeps_out | apply keeps_next | split)

theorem execCardNop_keeps (v : Nat) (s : State) (hk : Keeps s₀ s) :
    Goes s₀ (execCardNop v s) := by
  unfold execCardNop
  with_reducible repeat' (first | assumption | apply vlvNext_keeps | apply keeps_next | split)

theorem execCardRail_keeps (v : Nat) (s : State) (hk : Keeps s₀ s) :
    Goes s₀ (execCardRail v s) := by
  unfold execCardRail
  with_reducible repeat' (first | assumption | apply modVlv_keeps | apply vlvNext_keeps | apply keeps_next | split)

theorem execCardDecay_keeps (v : Nat) (s : State) (hk : Keeps s₀ s) :
    Goes s₀ (execCardDecay v s) := by
  unfold execCardDecay
  with_reducible repeat' (first | assumption | apply modVlv_keeps | apply vlvNext_keeps | apply keeps_next | split)

theorem execCardChop_keeps (v : Nat) (s : State) (hk : Keeps s₀ s) :
    Goes s₀ (execCardChop v s) := by
  unfold execCardChop
  with_reducible repeat' (first | assumption | apply modVlv_keeps | apply vlvNext_keeps | apply ite_keeps | apply ite_keeps_snd | apply ite_keeps_thd | apply ite_keeps_out | apply keeps_next | split)

theorem execCardDrive_keeps (v : Nat) (s : State) (hk : Keeps s₀ s) :
    Goes s₀ (execCardDrive v s) := by
  unfold execCardDrive
  dsimp only
  with_reducible repeat' (first | assumption | apply vlvDrive_keeps | apply askBudget_keeps | apply modVlv_keeps | apply vlvWaitOn_keeps | apply ite_keeps | apply ite_keeps_snd | apply ite_keeps_thd | apply ite_keeps_out | apply keeps_next | split)

theorem execCardOff_keeps (v : Nat) (s : State) (hk : Keeps s₀ s) :
    Goes s₀ (execCardOff v s) := by
  unfold execCardOff
  dsimp only
  with_reducible repeat' (first | assumption | apply modVlv_keeps | apply vlvWaitOn_keeps | apply vlvRefresh_keeps | apply vlvDecay_keeps | apply keeps_next | split)

theorem execDecayComplete_keeps (v : Nat) (s : State) (hk : Keeps s₀ s) :
    Goes s₀ (execDecayComplete v s) := by
  unfold execDecayComplete
  dsimp only
  with_reducible repeat' (first | assumption | apply modVlv_keeps | apply vlvRefresh_keeps | apply vlvNext_keeps | apply ite_keeps | apply ite_keeps_snd | apply ite_keeps_thd | apply ite_keeps_out | apply keeps_next)

theorem execCardGrant_keeps (v : Nat) (s : State) (hk : Keeps s₀ s) :
    Goes s₀ (execCardGrant v s) := by
  unfold execCardGrant
  dsimp only
  with_reducible repeat' (first | assumption | apply askBudget_keeps | apply modVlv_keeps | apply vlvNext_keeps | apply vlvWaitOn_keeps | apply ite_keeps | apply ite_keeps_snd | apply ite_keeps_thd | apply ite_keeps_out | apply keeps_next | split)

theorem execCardRelease_keeps (v : Nat) (s : State) (hk : Keeps s₀ s) :
    Goes s₀ (execCardRelease v s) := by
  unfold execCardRelease
  with_reducible repeat' (first | assumption | apply modVlv_keeps | apply vlvNext_keeps | apply ite_keeps | apply ite_keeps_snd | apply ite_keeps_thd | apply ite_keeps_out | apply keeps_next | split)

theorem execCardWait_keeps (v : Nat) (s : State) (hk : Keeps s₀ s) :
    Goes s₀ (execCardWait v s) := by
  unfold execCardWait
  with_reducible repeat' (first | assumption | apply vlvWaitOn_keeps | apply keeps_next | split)

theorem execWaitExpiry_keeps (v : Nat) (s : State) (hk : Keeps s₀ s) :
    Goes s₀ (execWaitExpiry v s) := by
  unfold execWaitExpiry
  with_reducible repeat' (first | assumption | apply vlvNext_keeps | apply ite_keeps | apply ite_keeps_snd | apply ite_keeps_thd | apply ite_keeps_out | apply keeps_next | split)

theorem execCardWseat_keeps (v : Nat) (s : State) (hk : Keeps s₀ s) :
    Goes s₀ (execCardWseat v s) := by
  unfold execCardWseat
  dsimp only
  with_reducible repeat' (first | assumption | apply detSeat_keeps | apply vlvWaitOn_keeps | apply ite_keeps | apply ite_keeps_snd | apply ite_keeps_thd | apply ite_keeps_out | apply keeps_next | split)

theorem execCardWcmd_keeps (v : Nat) (s : State) (hk : Keeps s₀ s) :
    Goes s₀ (execCardWcmd v s) := by
  unfold execCardWcmd
  with_reducible repeat' (first | assumption | apply modVlv_keeps | apply vlvWaitOn_keeps | apply vlvNext_keeps | apply ite_keeps | apply ite_keeps_snd | apply ite_keeps_thd | apply ite_keeps_out | apply keeps_next | split)

theorem execCardWdrop_keeps (v : Nat) (s : State) (hk : Keeps s₀ s) :
    Goes s₀ (execCardWdrop v s) := by
  unfold execCardWdrop
  with_reducible repeat' (first | assumption | apply vlvWaitOn_keeps | apply keeps_next | split)

theorem execCardSeatcfg_keeps (v : Nat) (s : State) (hk : Keeps s₀ s) :
    Goes s₀ (execCardSeatcfg v s) := by
  unfold execCardSeatcfg
  with_reducible repeat' (first | assumption | apply modVlv_keeps | apply vlvNext_keeps | apply keeps_next | split)

theorem execCardMarkh_keeps (v : Nat) (s : State) (hk : Keeps s₀ s) :
    Goes s₀ (execCardMarkh v s) := by
  unfold execCardMarkh
  with_reducible repeat' (first | assumption | apply modVlv_keeps | apply vlvNext_keeps | apply keeps_next | split)

theorem execCardJmp_keeps (v : Nat) (s : State) (hk : Keeps s₀ s) :
    Goes s₀ (execCardJmp v s) := by
  unfold execCardJmp
  with_reducible repeat' (first | assumption | apply vlvJump_keeps | apply keeps_next | split)

theorem execCardJcmd_keeps (v : Nat) (s : State) (hk : Keeps s₀ s) :
    Goes s₀ (execCardJcmd v s) := by
  unfold execCardJcmd
  with_reducible repeat' (first | assumption | apply vlvJump_keeps | apply vlvNext_keeps | apply ite_keeps | apply ite_keeps_snd | apply ite_keeps_thd | apply ite_keeps_out | apply keeps_next | split)

theorem execCardJlt_keeps (v current : Nat) (s : State) (hk : Keeps s₀ s) :
    Goes s₀ (execCardJlt v current s) := by
  unfold execCardJlt
  with_reducible repeat' (first | assumption | apply vlvJump_keeps | apply vlvNext_keeps | apply ite_keeps | apply ite_keeps_snd | apply ite_keeps_thd | apply ite_keeps_out | apply keeps_next | split)

theorem execCardJrlt_keeps (v : Nat) (s : State) (hk : Keeps s₀ s) :
    Goes s₀ (execCardJrlt v s) := by
  unfold execCardJrlt
  with_reducible repeat' (first | assumption | apply vlvJump_keeps | apply vlvNext_keeps | apply ite_keeps | apply ite_keeps_snd | apply ite_keeps_thd | apply ite_keeps_out | apply keeps_next | split)

theorem execCardLstep_keeps (v : Nat) (s : State) (hk : Keeps s₀ s) :
    Goes s₀ (execCardLstep v s) := by
  unfold execCardLstep
  dsimp only
  with_reducible repeat' (first | assumption | apply modVlv_keeps | apply vlvNext_keeps | apply vlvRefresh_keeps | apply vlvRefTo_keeps | apply ite_keeps | apply ite_keeps_snd | apply ite_keeps_thd | apply ite_keeps_out | apply keeps_next | split)

theorem execCardLsave_keeps (v : Nat) (s : State) (hk : Keeps s₀ s) :
    Goes s₀ (execCardLsave v s) := by
  unfold execCardLsave
  with_reducible repeat' (first | assumption | apply modVlv_keeps | apply vlvNext_keeps | apply keeps_next | split)

theorem execCardFlag_keeps (v : Nat) (s : State) (hk : Keeps s₀ s) :
    Goes s₀ (execCardFlag v s) := by
  unfold execCardFlag
  with_reducible repeat' (first | assumption | apply modVlv_keeps | apply vlvNext_keeps | apply keeps_next | split)

theorem vlvRest_keeps (s : State) (v : Nat) (hk : Keeps s₀ s) :
    Keeps s₀ (vlvRest s v) := by
  unfold vlvRest
  dsimp only
  with_reducible repeat' (first | assumption | apply modVlv_keeps | apply vlvSyncMode_keeps | apply vlvTakeSet_keeps | apply vlvRefresh_keeps)

theorem execCardEnd_keeps (v : Nat) (s : State) (hk : Keeps s₀ s) :
    Goes s₀ (execCardEnd v s) := by
  unfold execCardEnd
  with_reducible repeat' (first | assumption | apply vlvRefresh_keeps | apply modVlv_keeps | apply vlvRest_keeps | apply ite_keeps | apply ite_keeps_snd | apply ite_keeps_thd | apply ite_keeps_out | apply keeps_next | split)

theorem grantHead_keeps (s : State) (r : GrantReq) (hk : Keeps s₀ s) :
    Keeps s₀ (grantHead s r) := by
  unfold grantHead
  dsimp only
  with_reducible repeat' (first | assumption | apply dropRequest_keeps | apply modBank_keeps | apply modVlv_keeps | apply vlvNext_keeps | apply vlvDrive_keeps | apply propApply_keeps | apply ite_keeps | apply ite_keeps_snd | apply ite_keeps_thd | split)

theorem grantLoop_keeps (b n : Nat) (s : State) (hk : Keeps s₀ s) : Keeps s₀ (grantLoop b n s) := by
  induction n generalizing s with
  | zero => exact hk
  | succ n ih =>
    unfold grantLoop
    split
    · with_reducible exact hk
    · split
      · exact ih _ (grantHead_keeps _ _ hk)
      · with_reducible exact hk

theorem execBudgetGranted_keeps (b : Nat) (s : State) (hk : Keeps s₀ s) :
    Goes s₀ (execBudgetGranted b s) := by
  unfold execBudgetGranted
  with_reducible repeat' (first | assumption | apply grantLoop_keeps | apply ite_keeps | apply ite_keeps_snd | apply ite_keeps_thd | apply ite_keeps_out | apply keeps_next)

theorem vlvEnergy_keeps (s : State) (v eCoil eMag : Nat) (hk : Keeps s₀ s) :
    Keeps s₀ (vlvEnergy s v eCoil eMag) := by
  unfold vlvEnergy
  dsimp only
  with_reducible repeat' (first | assumption | apply modVlv_keeps | apply takeFree_keeps | apply ite_keeps | apply ite_keeps_snd)

theorem execSeatDetected_keeps (v stamp eCoil eMag : Nat) (s : State) (hk : Keeps s₀ s) :
    Goes s₀ (execSeatDetected v stamp eCoil eMag s) := by
  unfold execSeatDetected
  dsimp only
  with_reducible repeat' (first | assumption | apply modVlv_keeps | apply vlvNext_keeps | apply vlvEnergy_keeps | apply loomSeat_keeps | apply ite_keeps | apply ite_keeps_snd | apply ite_keeps_thd | apply ite_keeps_out | apply keeps_next | split)

theorem execWseatTimeout_keeps (v : Nat) (s : State) (hk : Keeps s₀ s) :
    Goes s₀ (execWseatTimeout v s) := by
  unfold execWseatTimeout
  with_reducible repeat' (first | assumption | apply vlvJump_keeps | apply ite_keeps | apply ite_keeps_snd | apply ite_keeps_thd | apply ite_keeps_out | apply keeps_next | split)

theorem execDropoutDetected_keeps (v : Nat) (s : State) (hk : Keeps s₀ s) :
    Goes s₀ (execDropoutDetected v s) := by
  unfold execDropoutDetected
  dsimp only
  with_reducible repeat' (first | assumption | apply detSeat_keeps | apply vlvNext_keeps | apply modVlv_keeps | apply ite_keeps | apply ite_keeps_snd | apply ite_keeps_thd | apply ite_keeps_out | apply keeps_next | split)

theorem execWdropTimeout_keeps (v : Nat) (s : State) (hk : Keeps s₀ s) :
    Goes s₀ (execWdropTimeout v s) := by
  unfold execWdropTimeout
  with_reducible repeat' (first | assumption | apply vlvJump_keeps | apply ite_keeps | apply ite_keeps_snd | apply ite_keeps_thd | apply ite_keeps_out | apply keeps_next | split)

theorem execChopperPeriodStart_keeps (v : Nat) (s : State) (hk : Keeps s₀ s) :
    Goes s₀ (execChopperPeriodStart v s) := by
  unfold execChopperPeriodStart
  dsimp only
  with_reducible repeat' (first | assumption | apply modVlv_keeps | apply triggerEvent_keeps | apply vlvRefresh_keeps | apply ite_keeps | apply ite_keeps_snd | apply ite_keeps_thd | apply ite_keeps_out | apply keeps_next)

theorem execChopperOffEdge_keeps (v : Nat) (s : State) (hk : Keeps s₀ s) :
    Goes s₀ (execChopperOffEdge v s) := by
  unfold execChopperOffEdge
  dsimp only
  with_reducible repeat' (first | assumption | apply vlvDecay_keeps | apply modVlv_keeps | apply triggerEvent_keeps | apply vlvRefresh_keeps | apply ite_keeps | apply ite_keeps_snd | apply ite_keeps_thd | apply ite_keeps_out | apply keeps_next)

theorem execLearnWindowGrant_keeps (v : Nat) (s : State) (hk : Keeps s₀ s) :
    Goes s₀ (execLearnWindowGrant v s) := by
  unfold execLearnWindowGrant
  with_reducible repeat' (first | assumption | apply modVlv_keeps | apply ite_keeps | apply ite_keeps_snd | apply ite_keeps_thd | apply ite_keeps_out | apply keeps_next)

theorem execCoilResMeasured_keeps (v milliohm : Nat) (s : State) (hk : Keeps s₀ s) :
    Goes s₀ (execCoilResMeasured v milliohm s) := by
  unfold execCoilResMeasured
  dsimp only
  with_reducible repeat' (first | assumption | apply modVlv_keeps | apply ite_keeps | apply ite_keeps_snd | apply ite_keeps_thd | apply ite_keeps_out | apply keeps_next)

theorem reportTrip_keeps (s : State) (h : Nat) (hk : Keeps s₀ s) :
    Keeps s₀ (reportTrip s h) := by
  unfold reportTrip
  with_reducible repeat' (first | assumption | apply failChannels_keeps | apply ite_keeps)

theorem execChannelTrip_keeps (v : Nat) (s : State) (hk : Keeps s₀ s) :
    Goes s₀ (execChannelTrip v s) := by
  unfold execChannelTrip
  with_reducible repeat' (first | assumption | apply reportTrip_keeps | apply vlvTakeSet_keeps | apply vlvTrip_keeps | apply ite_keeps | apply ite_keeps_snd | apply ite_keeps_thd | apply ite_keeps_out | apply keeps_next)

theorem execBankTrip_keeps (b : Nat) (s : State) (hk : Keeps s₀ s) :
    Goes s₀ (execBankTrip b s) := by
  unfold execBankTrip
  dsimp only
  with_reducible repeat' (first | assumption | apply modBank_keeps | apply vlvTakeSet_keeps | apply vlvTrip_keeps | apply reportTrip_keeps | apply ite_keeps | apply ite_keeps_snd | apply ite_keeps_thd | apply ite_keeps_out | apply keeps_next | refine forAll_keeps _ _ _ (fun _ _ _ => ?_) ?_)

theorem testEnd_keeps (s : State) (v : Nat) (hk : Keeps s₀ s) :
    Keeps s₀ (testEnd s v) := by
  unfold testEnd
  dsimp only
  with_reducible repeat' (first | assumption | apply modBank_keeps | apply vlvRefresh_keeps)

theorem execOffStateTest_keeps (v : Nat) (openOff shortGnd shortSupply : Bool) (s : State) (hk : Keeps s₀ s) :
    Goes s₀ (execOffStateTest v openOff shortGnd shortSupply s) := by
  unfold execOffStateTest
  dsimp only
  with_reducible repeat' (first | assumption | apply modVlv_keeps | apply testEnd_keeps | apply vlvCutoff_keeps | apply ite_keeps | apply ite_keeps_snd | apply ite_keeps_thd | apply ite_keeps_out | apply keeps_next)

theorem execOnStateDiag_keeps (v : Nat) (kind : OnDiag) (present : Bool) (s : State) (hk : Keeps s₀ s) :
    Goes s₀ (execOnStateDiag v kind present s) := by
  unfold execOnStateDiag
  with_reducible repeat' (first | assumption | apply modVlv_keeps | apply vlvCutoff_keeps | apply ite_keeps | apply ite_keeps_snd | apply ite_keeps_thd | apply ite_keeps_out | apply keeps_next | split)

theorem vlvDiagClear_keeps (s : State) (v : Nat) (hk : Keeps s₀ s) :
    Keeps s₀ (vlvDiagClear s v) := by
  unfold vlvDiagClear
  dsimp only
  with_reducible repeat' (first | assumption | apply modVlv_keeps | apply modBank_keeps | apply vlvRefresh_keeps | apply ite_keeps)

theorem loadCard_keeps (s : State) (j : Nat) (l : List Byte) (hk : Keeps s₀ s) : Keeps s₀ (loadCard s j l) := by
  unfold loadCard
  dsimp only
  rw [keeps_mk]
  refine ⟨hk.pending, hk.clk, fun x => ?_⟩
  have k := hk.sound x
  exact ⟨k.sram, Table.wf_setRun _ _ _ _ k.cards, k.ring, k.queue, k.hostEvents, k.nodeEvents⟩

/-! ### FieldIo -/

theorem inputCheck_keeps (s : State) (i : Nat) (hk : Keeps s₀ s) :
    Keeps s₀ (inputCheck s i) := by
  unfold inputCheck
  with_reducible repeat' (first | assumption | apply failInput_keeps | apply ite_keeps | apply ite_keeps_snd | apply ite_keeps_thd | split)

theorem ioReads_keeps (s : State) (i : Nat) (f : IoRt → IoRt) (hk : Keeps s₀ s) :
    Keeps s₀ (ioReads s i f) := by
  unfold ioReads
  dsimp only
  with_reducible repeat' (first | assumption | apply modIo_keeps)

theorem ioCross_keeps (s : State) (i : Nat) (hk : Keeps s₀ s) :
    Keeps s₀ (ioCross s i) := by
  unfold ioCross
  dsimp only
  with_reducible repeat' (first | assumption | apply ioReads_keeps | apply resultDue_keeps | apply modIo_keeps | apply ite_keeps)

theorem execIoInputSample_keeps (i : Nat) (millivolt : Int) (microamp : Nat) (s : State) (hk : Keeps s₀ s) :
    Goes s₀ (execIoInputSample i millivolt microamp s) := by
  unfold execIoInputSample
  dsimp only
  with_reducible repeat' (first | assumption | apply modIo_keeps | apply inputCheck_keeps | apply ioCross_keeps | apply ite_keeps | apply ite_keeps_snd | apply ite_keeps_thd | apply ite_keeps_out | apply keeps_next)

theorem execIoFilterExpiry_keeps (i : Nat) (s : State) (hk : Keeps s₀ s) :
    Goes s₀ (execIoFilterExpiry i s) := by
  unfold execIoFilterExpiry
  dsimp only
  with_reducible repeat' (first | assumption | apply ioCross_keeps | apply modIo_keeps | apply ite_keeps | apply ite_keeps_snd | apply ite_keeps_thd | apply ite_keeps_out | apply keeps_next | split)

theorem ecTachBack_keeps (s : State) (e gap : Nat) (hk : Keeps s₀ s) :
    Keeps s₀ (ecTachBack s e gap) := by
  unfold ecTachBack
  dsimp only
  with_reducible repeat' (first | assumption | apply refreshBoost_keeps | apply dropAlarm_keeps | apply modFan_keeps | apply ite_keeps)

theorem execTachEdge_keeps (i : Nat) (s : State) (hk : Keeps s₀ s) :
    Goes s₀ (execTachEdge i s) := by
  unfold execTachEdge
  dsimp only
  with_reducible repeat' (first | assumption | apply ioCross_keeps | apply modIo_keeps | apply ecTachBack_keeps | apply ite_keeps | apply ite_keeps_snd | apply ite_keeps_thd | apply ite_keeps_out | apply keeps_next | split)

theorem execIoCurrentLimit_keeps (i : Nat) (current : Int) (s : State) (hk : Keeps s₀ s) :
    Goes s₀ (execIoCurrentLimit i current s) := by
  unfold execIoCurrentLimit
  dsimp only
  with_reducible repeat' (first | assumption | apply modIo_keeps | apply groupFollow_keeps | apply ite_keeps | apply ite_keeps_snd | apply ite_keeps_thd | apply ite_keeps_out | apply keeps_next)

theorem execIoThermalShutdown_keeps (i : Nat) (s : State) (hk : Keeps s₀ s) :
    Goes s₀ (execIoThermalShutdown i s) := by
  unfold execIoThermalShutdown
  dsimp only
  with_reducible repeat' (first | assumption | apply modIo_keeps | apply reportTrip_keeps | apply ioApply_keeps | apply ite_keeps | apply ite_keeps_snd | apply ite_keeps_thd | apply ite_keeps_out | apply keeps_next)

theorem execIoThermalRestart_keeps (i : Nat) (s : State) (hk : Keeps s₀ s) :
    Goes s₀ (execIoThermalRestart i s) := by
  unfold execIoThermalRestart
  with_reducible repeat' (first | assumption | apply ioApply_keeps | apply modIo_keeps | apply ite_keeps | apply ite_keeps_snd | apply ite_keeps_thd | apply ite_keeps_out | apply keeps_next)

theorem execGroupShed_keeps (g : Nat) (currents : List Int) (s : State) (hk : Keeps s₀ s) :
    Goes s₀ (execGroupShed g currents s) := by
  unfold execGroupShed
  dsimp only
  with_reducible repeat' (first | assumption | apply modIo_keeps | apply modGroup_keeps | apply logEvent_keeps | apply ioApply_keeps | apply ite_keeps | apply ite_keeps_snd | apply ite_keeps_thd | apply ite_keeps_out | apply keeps_next | refine forAll_keeps _ _ _ (fun _ _ _ => ?_) ?_ | split)

theorem execGroupReinstate_keeps (g : Nat) (s : State) (hk : Keeps s₀ s) :
    Goes s₀ (execGroupReinstate g s) := by
  unfold execGroupReinstate
  dsimp only
  with_reducible repeat' (first | assumption | apply modIo_keeps | apply modGroup_keeps | apply ioApply_keeps | apply ite_keeps | apply ite_keeps_snd | apply ite_keeps_thd | apply ite_keeps_out | apply keeps_next | split)

theorem execIoOutputDiag_keeps (i : Nat) (kind : IoDiag) (present : Bool) (s : State) (hk : Keeps s₀ s) :
    Goes s₀ (execIoOutputDiag i kind present s) := by
  unfold execIoOutputDiag
  dsimp only
  with_reducible repeat' (first | assumption | apply modIo_keeps | apply ite_keeps | apply ite_keeps_snd | apply ite_keeps_thd | apply ite_keeps_out | apply keeps_next | split)

theorem ioDiagClear_keeps (s : State) (i : Nat) (hk : Keeps s₀ s) :
    Keeps s₀ (ioDiagClear s i) := by
  unfold ioDiagClear
  with_reducible repeat' (first | assumption | apply ioApply_keeps | apply modIo_keeps)

theorem setStale_keeps (s : State) (b : Bool) (hk : Keeps s₀ s) :
    Keeps s₀ (setStale s b) := by
  unfold setStale
  with_reducible repeat' (first | assumption | apply ioReads_keeps | apply ite_keeps | apply ite_keeps_snd | apply ite_keeps_thd | refine forAll_keeps _ _ _ (fun _ _ _ => ?_) ?_)

theorem replicaSync_keeps (s : State) (hk : Keeps s₀ s) :
    Keeps s₀ (replicaSync s) := by
  unfold replicaSync
  dsimp only
  with_reducible repeat' (first | assumption | (simp only [↓keeps_mk]; apply Keeps.parts))

theorem linkBack_keeps (s : State) (hk : Keeps s₀ s) :
    Keeps s₀ (linkBack s) := by
  unfold linkBack
  dsimp only
  with_reducible repeat' (first | assumption | apply setStale_keeps | apply replicaSync_keeps | apply ioCross_keeps | apply ioApplyAll_keeps | apply ite_keeps | apply ite_keeps_snd | apply ite_keeps_thd | refine forAll_keeps _ _ _ (fun _ _ _ => ?_) ?_ | (simp only [↓keeps_mk]; apply Keeps.parts))

theorem execBarrierFrame_keeps (crcOk : Bool) (power : Nat) (s : State) (hk : Keeps s₀ s) :
    Goes s₀ (execBarrierFrame crcOk power s) := by
  unfold execBarrierFrame
  dsimp only
  with_reducible repeat' (first | assumption | apply linkBack_keeps | apply replicaSync_keeps | apply ite_keeps | apply ite_keeps_snd | apply ite_keeps_thd | apply ite_keeps_out | apply keeps_next | (simp only [↓keeps_mk]; apply Keeps.parts))

theorem execBarrierLinkDown_keeps (s : State) (hk : Keeps s₀ s) :
    Goes s₀ (execBarrierLinkDown s) := by
  unfold execBarrierLinkDown
  dsimp only
  with_reducible repeat' (first | assumption | apply failModule_keeps | apply setStale_keeps | apply ite_keeps | apply ite_keeps_snd | apply ite_keeps_thd | apply ite_keeps_out | apply keeps_next | (simp only [↓keeps_mk]; apply Keeps.parts))

theorem execFwdRefresh_keeps (s : State) (hk : Keeps s₀ s) :
    Goes s₀ (execFwdRefresh s) := by
  unfold execFwdRefresh
  dsimp only
  with_reducible repeat' (first | assumption | apply ite_keeps | apply ite_keeps_snd | apply ite_keeps_thd | apply ite_keeps_out | apply keeps_next | (simp only [↓keeps_mk]; apply Keeps.parts))

theorem fwdTripOp_keeps (s : State) (hk : Keeps s₀ s) :
    Keeps s₀ (fwdTripOp s) := by
  unfold fwdTripOp
  dsimp only
  with_reducible repeat' (first | assumption | apply modIo_keeps | apply ioApplyAll_keeps | apply safeDeviate_keeps | apply ite_keeps | apply ite_keeps_snd | apply ite_keeps_thd | refine forAll_keeps _ _ _ (fun _ _ _ => ?_) ?_ | (simp only [↓keeps_mk]; apply Keeps.parts))

theorem execFwdTrip_keeps (s : State) (hk : Keeps s₀ s) :
    Goes s₀ (execFwdTrip s) := by
  unfold execFwdTrip
  with_reducible repeat' (first | assumption | apply fwdTripOp_keeps | apply ite_keeps | apply ite_keeps_snd | apply ite_keeps_thd | apply ite_keeps_out | apply keeps_next)

theorem execBarrierSupplyLoss_keeps (s : State) (hk : Keeps s₀ s) :
    Goes s₀ (execBarrierSupplyLoss s) := by
  unfold execBarrierSupplyLoss
  with_reducible repeat' (first | assumption | apply fwdTripOp_keeps | apply ite_keeps | apply ite_keeps_snd | apply ite_keeps_thd | apply ite_keeps_out | apply keeps_next)

theorem fwdRearm_keeps (s : State) (hk : Keeps s₀ s) :
    Keeps s₀ (fwdRearm s) := by
  unfold fwdRearm
  dsimp only
  with_reducible repeat' (first | assumption | apply ioApplyAll_keeps | apply modIo_keeps | apply ite_keeps | apply ite_keeps_snd | apply ite_keeps_thd | refine forAll_keeps _ _ _ (fun _ _ _ => ?_) ?_ | (simp only [↓keeps_mk]; apply Keeps.parts))

theorem groupMark_keeps (s : State) (g : Nat) (b : Bool) (hk : Keeps s₀ s) :
    Keeps s₀ (groupMark s g b) := by
  unfold groupMark
  dsimp only
  with_reducible repeat' (first | assumption | apply modIo_keeps | apply ite_keeps | apply ite_keeps_snd | apply ite_keeps_thd | refine forAll_keeps _ _ _ (fun _ _ _ => ?_) ?_)

theorem execSupplyLost_keeps (g : Nat) (s : State) (hk : Keeps s₀ s) :
    Goes s₀ (execSupplyLost g s) := by
  unfold execSupplyLost
  dsimp only
  with_reducible repeat' (first | assumption | apply modGroup_keeps | apply modIo_keeps | apply logEvent_keeps | apply groupMark_keeps | apply groupFollow_keeps | apply ite_keeps | apply ite_keeps_snd | apply ite_keeps_thd | apply ite_keeps_out | apply keeps_next | refine forAll_keeps _ _ _ (fun _ _ _ => ?_) ?_)

theorem execSupplyReturn_keeps (g : Nat) (s : State) (hk : Keeps s₀ s) :
    Goes s₀ (execSupplyReturn g s) := by
  unfold execSupplyReturn
  dsimp only
  with_reducible repeat' (first | assumption | apply modGroup_keeps | apply logEvent_keeps | apply groupMark_keeps | apply ioApply_keeps | apply ite_keeps | apply ite_keeps_snd | apply ite_keeps_thd | apply ite_keeps_out | apply keeps_next | refine forAll_keeps _ _ _ (fun _ _ _ => ?_) ?_)

theorem ioTakeMode_keeps (s : State) (i : Nat) (hk : Keeps s₀ s) :
    Keeps s₀ (ioTakeMode s i) := by
  unfold ioTakeMode
  dsimp only
  with_reducible repeat' (first | assumption | apply ioReads_keeps | apply ioApply_keeps)

theorem ioNoBreak_keeps (s : State) (i : Nat) (hk : Keeps s₀ s) :
    Keeps s₀ (ioNoBreak s i) := by
  unfold ioNoBreak
  dsimp only
  with_reducible repeat' (first | assumption | apply modIo_keeps | apply ioReads_keeps | apply ite_keeps)

theorem execIoModeChangeEnd_keeps (i : Nat) (s : State) (hk : Keeps s₀ s) :
    Goes s₀ (execIoModeChangeEnd i s) := by
  unfold execIoModeChangeEnd
  with_reducible repeat' (first | assumption | apply ioTakeMode_keeps | apply ite_keeps | apply ite_keeps_snd | apply ite_keeps_thd | apply ite_keeps_out | apply keeps_next | split)

theorem ioTakeSet_keeps (s : State) (hk : Keeps s₀ s) :
    Keeps s₀ (ioTakeSet s) := by
  unfold ioTakeSet
  dsimp only
  with_reducible repeat' (first | assumption | apply takeObj_keeps | apply ioApply_keeps | apply ioNoBreak_keeps | apply modIo_keeps | apply ite_keeps | apply ite_keeps_snd | apply ite_keeps_thd | refine forAll_keeps _ _ _ (fun _ _ _ => ?_) ?_)

/-! ### Fans -/

theorem execPwmPeriodStart_keeps (k : Nat) (s : State) (hk : Keeps s₀ s) :
    Goes s₀ (execPwmPeriodStart k s) := by
  unfold execPwmPeriodStart
  with_reducible repeat' (first | assumption | apply triggerEvent_keeps | apply modFan_keeps | apply ite_keeps | apply ite_keeps_snd | apply ite_keeps_thd | apply ite_keeps_out | apply keeps_next)

theorem execPwmCentre_keeps (k : Nat) (s : State) (hk : Keeps s₀ s) :
    Goes s₀ (execPwmCentre k s) := by
  unfold execPwmCentre
  with_reducible repeat' (first | assumption | apply triggerEvent_keeps | apply ite_keeps | apply ite_keeps_snd | apply ite_keeps_thd | apply ite_keeps_out | apply keeps_next)

theorem fanCommand_keeps (s : State) (f : Nat) (hk : Keeps s₀ s) :
    Keeps s₀ (fanCommand s f) := by
  unfold fanCommand
  dsimp only
  with_reducible repeat' (first | assumption | apply fanLeaveTable_keeps | apply fanUpdate_keeps | apply ite_keeps)

theorem noteSupply_keeps (s : State) (e : Nat) (hk : Keeps s₀ s) :
    Keeps s₀ (noteSupply s e) := by
  unfold noteSupply
  dsimp only
  with_reducible repeat' (first | assumption | apply modFan_keeps | apply ite_keeps)

theorem execSpeedEvaluation_keeps (f : Nat) (measured : Int) (s : State) (hk : Keeps s₀ s) :
    Goes s₀ (execSpeedEvaluation f measured s) := by
  unfold execSpeedEvaluation
  dsimp only
  with_reducible repeat' (first | assumption | apply fanTakeSet_keeps | apply modFan_keeps | apply fanUpdate_keeps | apply resultDue_keeps | apply setRec_keeps | apply noteSupply_keeps | apply ite_keeps | apply ite_keeps_snd | apply ite_keeps_thd | apply ite_keeps_out | apply keeps_next)

theorem execListenEnd_keeps (k : Nat) (locked forward : Bool) (speed : Int) (s : State) (hk : Keeps s₀ s) :
    Goes s₀ (execListenEnd k locked forward speed s) := by
  unfold execListenEnd
  dsimp only
  with_reducible repeat' (first | assumption | apply fanRun_keeps | apply modFan_keeps | apply fanAlign_keeps | apply ite_keeps | apply ite_keeps_snd | apply ite_keeps_thd | apply ite_keeps_out | apply keeps_next)

theorem execZeroVectorEnd_keeps (k : Nat) (s : State) (hk : Keeps s₀ s) :
    Goes s₀ (execZeroVectorEnd k s) := by
  unfold execZeroVectorEnd
  with_reducible repeat' (first | assumption | apply fanAlign_keeps | apply ite_keeps | apply ite_keeps_snd | apply ite_keeps_thd | apply ite_keeps_out | apply keeps_next)

theorem execAlignEnd_keeps (k : Nat) (s : State) (hk : Keeps s₀ s) :
    Goes s₀ (execAlignEnd k s) := by
  unfold execAlignEnd
  with_reducible repeat' (first | assumption | apply modFan_keeps | apply ite_keeps | apply ite_keeps_snd | apply ite_keeps_thd | apply ite_keeps_out | apply keeps_next)

theorem execObserverLock_keeps (k : Nat) (s : State) (hk : Keeps s₀ s) :
    Goes s₀ (execObserverLock k s) := by
  unfold execObserverLock
  dsimp only
  with_reducible repeat' (first | assumption | apply modFan_keeps | apply refreshBoost_keeps | apply fanRun_keeps | apply ite_keeps | apply ite_keeps_snd | apply ite_keeps_thd | apply ite_keeps_out | apply keeps_next)

theorem execStartAttemptFail_keeps (k : Nat) (s : State) (hk : Keeps s₀ s) :
    Goes s₀ (execStartAttemptFail k s) := by
  unfold execStartAttemptFail
  dsimp only
  with_reducible repeat' (first | assumption | apply modFan_keeps | apply refreshBoost_keeps | apply logEvent_keeps | apply ite_keeps | apply ite_keeps_snd | apply ite_keeps_thd | apply ite_keeps_out | apply keeps_next)

theorem execPauseEnd_keeps (k : Nat) (s : State) (hk : Keeps s₀ s) :
    Goes s₀ (execPauseEnd k s) := by
  unfold execPauseEnd
  with_reducible repeat' (first | assumption | apply fanAlign_keeps | apply modFan_keeps | apply ite_keeps | apply ite_keeps_snd | apply ite_keeps_thd | apply ite_keeps_out | apply keeps_next)

theorem execBlockedRestEnd_keeps (k : Nat) (s : State) (hk : Keeps s₀ s) :
    Goes s₀ (execBlockedRestEnd k s) := by
  unfold execBlockedRestEnd
  with_reducible repeat' (first | assumption | apply fanListen_keeps | apply ite_keeps | apply ite_keeps_snd | apply ite_keeps_thd | apply ite_keeps_out | apply keeps_next)

theorem execPhaseTrip_keeps (k : Nat) (s : State) (hk : Keeps s₀ s) :
    Goes s₀ (execPhaseTrip k s) := by
  unfold execPhaseTrip
  dsimp only
  with_reducible repeat' (first | assumption | apply fanStop_keeps | apply modFan_keeps | apply reportTrip_keeps | apply refreshBoost_keeps | apply ite_keeps | apply ite_keeps_snd | apply ite_keeps_thd | apply ite_keeps_out | apply keeps_next)

theorem execLockLost_keeps (k : Nat) (s : State) (hk : Keeps s₀ s) :
    Goes s₀ (execLockLost k s) := by
  unfold execLockLost
  with_reducible repeat' (first | assumption | apply modFan_keeps | apply fanStop_keeps | apply ite_keeps | apply ite_keeps_snd | apply ite_keeps_thd | apply ite_keeps_out | apply keeps_next)

theorem execFanRestart_keeps (k : Nat) (s : State) (hk : Keeps s₀ s) :
    Goes s₀ (execFanRestart k s) := by
  unfold execFanRestart
  dsimp only
  with_reducible repeat' (first | assumption | apply modFan_keeps | apply fanFetch_keeps | apply fanListen_keeps | apply ite_keeps | apply ite_keeps_snd | apply ite_keeps_thd | apply ite_keeps_out | apply keeps_next | split)

theorem execEcTachLoss_keeps (e : Nat) (mean : Int) (s : State) (hk : Keeps s₀ s) :
    Goes s₀ (execEcTachLoss e mean s) := by
  unfold execEcTachLoss
  dsimp only
  with_reducible repeat' (first | assumption | apply modFan_keeps | apply raiseAlarm_keeps | apply refreshBoost_keeps | apply ite_keeps | apply ite_keeps_snd | apply ite_keeps_thd | apply ite_keeps_out | apply keeps_next)

theorem execTableRead_keeps (f : Nat) (s : State) (hk : Keeps s₀ s) :
    Goes s₀ (execTableRead f s) := by
  unfold execTableRead
  with_reducible repeat' (first | assumption | apply fanUpdate_keeps | apply fanReadTable_keeps | apply ite_keeps | apply ite_keeps_snd | apply ite_keeps_thd | apply ite_keeps_out | apply keeps_next)

theorem fanDiagClear_keeps (s : State) (f : Nat) (hk : Keeps s₀ s) :
    Keeps s₀ (fanDiagClear s f) := by
  unfold fanDiagClear
  with_reducible repeat' (first | assumption | apply refreshBoost_keeps | apply modFan_keeps)

end Sys2Proof.Machine
end

