-- ==== Sys2Proof/Laws/KeepsEvents.lean ====
section
/-! SUPPORT. Each operation keeps the queue of commands, the engine clock and a sound machine: the display, the supervision, the pair, the snapshots, the images and the measurement. -/

namespace Sys2Proof.Machine

variable {s₀ : State}

/-! ### Display -/

theorem dispWrite_keeps (s : State) (img : List Byte) (hk : Keeps s₀ s) :
    Keeps s₀ (dispWrite s img) := by
  unfold dispWrite
  with_reducible repeat' (first | assumption | apply modDisp_keeps)

theorem dispWriteRow_keeps (s : State) (r : Nat) (l : List Byte) (hk : Keeps s₀ s) :
    Keeps s₀ (dispWriteRow s r l) := by
  unfold dispWriteRow
  with_reducible repeat' (first | assumption | apply dispWrite_keeps)

theorem dispTakeSet_keeps (s : State) (hk : Keeps s₀ s) :
    Keeps s₀ (dispTakeSet s) := by
  unfold dispTakeSet
  with_reducible repeat' (first | assumption | apply ledgerFollow_keeps | apply syncDone_keeps | apply takeObj_keeps | refine forAll_keeps _ _ _ (fun _ _ _ => ?_) ?_)

theorem dispSync_keeps (s : State) (hk : Keeps s₀ s) :
    Keeps s₀ (dispSync s) := by
  unfold dispSync
  with_reducible repeat' (first | assumption | apply dispTakeSet_keeps | apply ite_keeps)

theorem frameBegin_keeps (s : State) (start frame : Nat) (negativeFirst : Bool) (hk : Keeps s₀ s) :
    Keeps s₀ (frameBegin s start frame negativeFirst) := by
  unfold frameBegin
  dsimp only
  with_reducible repeat' (first | assumption | apply dispSync_keeps | apply modDisp_keeps | apply sendMirror_keeps | apply ite_keeps)

theorem execFrameStart_keeps (s : State) (hk : Keeps s₀ s) :
    Goes s₀ (execFrameStart s) := by
  unfold execFrameStart
  with_reducible repeat' (first | assumption | apply frameBegin_keeps | apply ite_keeps | apply ite_keeps_snd | apply ite_keeps_thd | apply ite_keeps_out | apply keeps_next)

theorem execRowSlot_keeps (s : State) (hk : Keeps s₀ s) :
    Goes s₀ (execRowSlot s) := by
  unfold execRowSlot
  with_reducible repeat' (first | assumption | apply modDisp_keeps | apply ite_keeps | apply ite_keeps_snd | apply ite_keeps_thd | apply ite_keeps_out | apply keeps_next)

theorem execVlcdFault_keeps (millivolt : Nat) (s : State) (hk : Keeps s₀ s) :
    Goes s₀ (execVlcdFault millivolt s) := by
  unfold execVlcdFault
  with_reducible repeat' (first | assumption | apply modDisp_keeps | apply ite_keeps | apply ite_keeps_snd | apply ite_keeps_thd | apply ite_keeps_out | apply keeps_next)

theorem dispStore_keeps (s : State) (cut : List (Nat × Nat × Nat)) (hk : Keeps s₀ s) :
    Keeps s₀ (dispStore s cut) := by
  unfold dispStore
  dsimp only
  with_reducible repeat' (first | assumption | apply mramWritten_keeps | (simp only [↓keeps_mk]; apply Keeps.parts))

theorem dispOutcome_keeps (s : State) (n : Nat) (hk : Keeps s₀ s) :
    Keeps s₀ (dispOutcome s n) := by
  unfold dispOutcome
  dsimp only
  with_reducible repeat' (first | assumption | apply modDisp_keeps | (simp only [↓keeps_mk]; apply Keeps.parts))

theorem roundBegin_keeps (s : State) (waves : List SegWave) (routed replay : Bool) (hk : Keeps s₀ s) :
    Keeps s₀ (roundBegin s waves routed replay) := by
  unfold roundBegin
  dsimp only
  with_reducible repeat' (first | assumption | apply modDisp_keeps | apply sendMirror_keeps | apply ite_keeps)

theorem execUpdateRoundStart_keeps (s : State) (hk : Keeps s₀ s) :
    Goes s₀ (execUpdateRoundStart s) := by
  unfold execUpdateRoundStart
  dsimp only
  with_reducible repeat' (first | assumption | apply dispSync_keeps | apply modDisp_keeps | apply roundBegin_keeps | apply ite_keeps | apply ite_keeps_snd | apply ite_keeps_thd | apply ite_keeps_out | apply keeps_next | split)

theorem execUpdateRoundEnd_keeps (s : State) (hk : Keeps s₀ s) :
    Goes s₀ (execUpdateRoundEnd s) := by
  unfold execUpdateRoundEnd
  dsimp only
  with_reducible repeat' (first | assumption | apply roundLedgers_keeps | apply modDisp_keeps | apply sendMirror_keeps | apply dispStore_keeps | apply ite_keeps | apply ite_keeps_snd | apply ite_keeps_thd | apply ite_keeps_out | apply keeps_next | split)

theorem ledgerReset_keeps (s : State) (hk : Keeps s₀ s) :
    Keeps s₀ (ledgerReset s) := by
  unfold ledgerReset
  dsimp only
  with_reducible repeat' (first | assumption | apply ledgerFollow_keeps | apply modDisp_keeps | apply ledgerSettle_keeps | apply sendMirror_keeps | (simp only [↓keeps_mk]; apply Keeps.parts))

theorem execDisplayBandEval_keeps (s : State) (hk : Keeps s₀ s) :
    Goes s₀ (execDisplayBandEval s) := by
  unfold execDisplayBandEval
  dsimp only
  with_reducible repeat' (first | assumption | apply modDisp_keeps | apply ite_keeps | apply ite_keeps_snd | apply ite_keeps_thd | apply ite_keeps_out | apply keeps_next)

theorem dispRestore_keeps (s : State) (hk : Keeps s₀ s) :
    Keeps s₀ (dispRestore s) := by
  unfold dispRestore
  dsimp only
  with_reducible repeat' (first | assumption | apply modDisp_keeps | apply ite_keeps)

theorem dispBegin_keeps (s : State) (hk : Keeps s₀ s) :
    Keeps s₀ (dispBegin s) := by
  unfold dispBegin
  dsimp only
  with_reducible repeat' (first | assumption | apply dispSync_keeps | apply ledgerFollow_keeps | apply modDisp_keeps | apply dispStore_keeps | apply frameBegin_keeps | apply sendMirror_keeps | apply roundBegin_keeps | apply ite_keeps)

theorem dispStart_keeps (s : State) (hk : Keeps s₀ s) :
    Keeps s₀ (dispStart s) := by
  unfold dispStart
  dsimp only
  with_reducible repeat' (first | assumption | apply dispSync_keeps | apply dispBegin_keeps | apply dispRestore_keeps | apply ite_keeps)

theorem roundCut_keeps (s : State) (r : Round) (hk : Keeps s₀ s) :
    Keeps s₀ (roundCut s r) := by
  unfold roundCut
  dsimp only
  with_reducible repeat' (first | assumption | apply dispStore_keeps | apply roundLedgers_keeps)

theorem dispStop_keeps (s : State) (loss : Bool) (hk : Keeps s₀ s) :
    Keeps s₀ (dispStop s loss) := by
  unfold dispStop
  dsimp only
  with_reducible repeat' (first | assumption | apply dispOutcome_keeps | apply roundCut_keeps | apply modDisp_keeps | apply ite_keeps | apply ite_keeps_snd | apply ite_keeps_thd | (simp only [↓keeps_mk]; apply Keeps.parts) | split)

theorem dispSave_keeps (s : State) (weak : Bool) (hk : Keeps s₀ s) :
    Keeps s₀ (dispSave s weak) := by
  unfold dispSave
  dsimp only
  with_reducible repeat' (first | assumption | apply roundLedgers_keeps | apply dispOutcome_keeps | apply dispStore_keeps | apply modDisp_keeps | apply dispStop_keeps | apply ite_keeps | apply ite_keeps_snd | apply ite_keeps_thd | split)

theorem dispSuspend_keeps (s : State) (hk : Keeps s₀ s) :
    Keeps s₀ (dispSuspend s) := by
  unfold dispSuspend
  dsimp only
  with_reducible repeat' (first | assumption | apply dispStop_keeps | apply modDisp_keeps | apply sendMirror_keeps | apply ite_keeps)

theorem dispTristate_keeps (s : State) (hk : Keeps s₀ s) :
    Keeps s₀ (dispTristate s) := by
  unfold dispTristate
  dsimp only
  with_reducible repeat' (first | assumption | apply dispStop_keeps | apply modDisp_keeps)

theorem dispCommit_keeps (s : State) (hk : Keeps s₀ s) :
    Keeps s₀ (dispCommit s) := by
  unfold dispCommit
  dsimp only
  with_reducible repeat' (first | assumption | apply dispTakeSet_keeps | apply dispStop_keeps | apply modDisp_keeps | apply ite_keeps)

theorem execDispModeSwitchEnd_keeps (s : State) (hk : Keeps s₀ s) :
    Goes s₀ (execDispModeSwitchEnd s) := by
  unfold execDispModeSwitchEnd
  with_reducible repeat' (first | assumption | apply dispStart_keeps | apply ite_keeps | apply ite_keeps_snd | apply ite_keeps_thd | apply ite_keeps_out | apply keeps_next | split)

/-! ### Restart -/

theorem tearCopy_keeps (s : State) (hk : Keeps s₀ s) :
    Keeps s₀ (tearCopy s) := by
  unfold tearCopy
  dsimp only
  with_reducible repeat' (first | assumption | (simp only [↓keeps_mk]; apply Keeps.parts) | split)

theorem resetState_keeps (s : State) (cause : Nat) (hk : Keeps s₀ s) : Keeps s₀ (resetState s cause) := by
  unfold resetState
  rw [keeps_mk]
  refine ⟨hk.pending, hk.clk, fun x => ?_⟩
  exact ⟨rfl, rfl, (hk.sound x).ring, Nat.zero_le _, Nat.zero_le _, Nat.zero_le _⟩

theorem restart_keeps (s : State) (cause : Nat) (hk : Keeps s₀ s) :
    Keeps s₀ (restart s cause) := by
  unfold restart
  with_reducible repeat' (first | assumption | apply resetState_keeps | apply tearCopy_keeps | apply pairGiveUp_keeps)

/-! ### Thermal -/

theorem thermFlag_keeps (i : Nat) (b : Bool) (s : State) (hk : Keeps s₀ s) :
    Keeps s₀ (thermFlag i b s) := by
  unfold thermFlag
  dsimp only
  with_reducible repeat' (first | assumption | (simp only [↓keeps_mk]; apply Keeps.parts))

theorem logSensor_keeps (s : State) (i st : Nat) (hk : Keeps s₀ s) :
    Keeps s₀ (logSensor s i st) := by
  unfold logSensor
  with_reducible repeat' (first | assumption | apply logEvent_keeps)

theorem judge_keeps (dev : List (Nat × Int)) (use : List Int) (s0 s : State) (i : Nat) (hk : Keeps s₀ s0) (hk1 : Keeps s₀ s) :
    Keeps s₀ (judge dev use s0 s i) := by
  unfold judge
  dsimp only
  with_reducible repeat' (first | assumption | apply modSensor_keeps | apply raiseAlarm_keeps | apply logSensor_keeps | apply dropAlarm_keeps | apply ite_keeps | apply ite_keeps_snd | apply ite_keeps_thd | split)

theorem brokenValue_keeps (s0 : State) (use : List Int) (s : State) (i : Nat) (hk : Keeps s₀ s0) (hk1 : Keeps s₀ s) :
    Keeps s₀ (brokenValue s0 use s i) := by
  unfold brokenValue
  dsimp only
  with_reducible repeat' (first | assumption | apply modSensor_keeps | apply ite_keeps | apply ite_keeps_snd | apply ite_keeps_thd | split)

theorem followOff_keeps (s : State) (i j : Nat) (hk : Keeps s₀ s) :
    Keeps s₀ (followOff s i j) := by
  unfold followOff
  dsimp only
  with_reducible repeat' (first | assumption | apply ite_keeps | apply ite_keeps_snd | apply ite_keeps_thd | (simp only [↓keeps_mk]; apply Keeps.parts))

theorem followCmp_keeps (s : State) (i : Nat) (hk : Keeps s₀ s) :
    Keeps s₀ (followCmp s i) := by
  unfold followCmp
  dsimp only
  with_reducible repeat' (first | assumption | apply modSensor_keeps)

theorem followDisagree_keeps (s : State) (hk : Keeps s₀ s) :
    Keeps s₀ (followDisagree s) := by
  unfold followDisagree
  dsimp only
  with_reducible repeat' (first | assumption | apply thermFlag_keeps | apply ite_keeps | apply ite_keeps_snd | apply ite_keeps_thd | (simp only [↓keeps_mk]; apply Keeps.parts))

theorem sensorsRound_keeps (s : State) (hk : Keeps s₀ s) :
    Keeps s₀ (sensorsRound s) := by
  unfold sensorsRound
  dsimp only
  with_reducible repeat' (first | assumption | apply judge_keeps | apply brokenValue_keeps | apply followOff_keeps | apply followDisagree_keeps | apply followCmp_keeps | apply thermFlag_keeps | refine forAll_keeps _ _ _ (fun _ _ _ => ?_) ?_)

theorem followRise_keeps (s : State) (i : Nat) (hk : Keeps s₀ s) :
    Keeps s₀ (followRise s i) := by
  unfold followRise
  with_reducible repeat' (first | assumption | apply modSensor_keeps)

theorem followGroup_keeps (s : State) (g : Nat) (hk : Keeps s₀ s) :
    Keeps s₀ (followGroup s g) := by
  unfold followGroup
  dsimp only
  with_reducible repeat' (first | assumption | apply thermFlag_keeps | apply logSensor_keeps | apply ite_keeps | apply ite_keeps_snd | apply ite_keeps_thd | (simp only [↓keeps_mk]; apply Keeps.parts))

theorem dStagesOff_keeps (s : State) (hk : Keeps s₀ s) :
    Keeps s₀ (dStagesOff s) := by
  unfold dStagesOff
  dsimp only
  with_reducible repeat' (first | assumption | apply vlvTakeUp_keeps | apply bankRefresh_keeps | apply dispSuspend_keeps | apply fanStop_keeps | refine forAll_keeps _ _ _ (fun _ _ _ => ?_) ?_)

theorem logShutdown_keeps (s : State) (die i : Nat) (hk : Keeps s₀ s) :
    Keeps s₀ (logShutdown s die i) := by
  unfold logShutdown
  dsimp only
  with_reducible repeat' (first | assumption | apply logEvent_keeps | (simp only [↓keeps_mk]; apply Keeps.parts))

theorem shutdownD_keeps (s : State) (i : Nat) (hk : Keeps s₀ s) :
    Keeps s₀ (shutdownD s i) := by
  unfold shutdownD
  dsimp only
  with_reducible repeat' (first | assumption | apply thermFlag_keeps | apply logShutdown_keeps | apply dStagesOff_keeps | apply safeDeviate_keeps | apply failModule_keeps | apply snapFire_keeps | apply ite_keeps | apply ite_keeps_snd | apply ite_keeps_thd | (simp only [↓keeps_mk]; apply Keeps.parts))

theorem aoDeviate_keeps (s : State) (hk : Keeps s₀ s) :
    Keeps s₀ (aoDeviate s) := by
  unfold aoDeviate
  with_reducible repeat' (first | assumption | apply modSafe_keeps | refine forAll_keeps _ _ _ (fun _ _ _ => ?_) ?_)

theorem shutdownL_keeps (s : State) (i : Nat) (hk : Keeps s₀ s) :
    Keeps s₀ (shutdownL s i) := by
  unfold shutdownL
  dsimp only
  with_reducible repeat' (first | assumption | apply thermFlag_keeps | apply logShutdown_keeps | apply aoDeviate_keeps | apply safeDeviate_keeps | apply failModule_keeps | apply flushLog_keeps | apply dispStop_keeps | apply fanStop_keeps | apply modDisp_keeps | apply modCan_keeps | apply bankRefresh_keeps | apply applyAll_keeps | refine forAll_keeps _ _ _ (fun _ _ _ => ?_) ?_ | (simp only [↓keeps_mk]; apply Keeps.parts))

theorem shutRound_keeps (s : State) (hk : Keeps s₀ s) :
    Keeps s₀ (shutRound s) := by
  unfold shutRound
  dsimp only
  with_reducible repeat' (first | assumption | apply shutdownD_keeps | apply shutdownL_keeps | apply ite_keeps)

theorem followStep_keeps (s : State) (d : Nat) (hk : Keeps s₀ s) :
    Keeps s₀ (followStep s d) := by
  unfold followStep
  dsimp only
  with_reducible repeat' (first | assumption | apply ite_keeps | apply ite_keeps_snd | apply ite_keeps_thd | (simp only [↓keeps_mk]; apply Keeps.parts))

theorem stepsApply_keeps (s : State) (hk : Keeps s₀ s) :
    Keeps s₀ (stepsApply s) := by
  unfold stepsApply
  dsimp only
  with_reducible repeat' (first | assumption | apply learnAbandon_keeps | apply ioApplyAll_keeps | apply bankRefresh_keeps | apply ite_keeps | apply ite_keeps_snd | apply ite_keeps_thd | refine forAll_keeps _ _ _ (fun _ _ _ => ?_) ?_)

theorem stepsRound_keeps (s : State) (hk : Keeps s₀ s) :
    Keeps s₀ (stepsRound s) := by
  unfold stepsRound
  dsimp only
  with_reducible repeat' (first | assumption | apply followStep_keeps | apply thermFlag_keeps | apply stepsApply_keeps | apply ite_keeps | apply ite_keeps_snd | apply ite_keeps_thd | refine forAll_keeps _ _ _ (fun _ _ _ => ?_) ?_)

theorem bandsRound_keeps (s : State) (hk : Keeps s₀ s) :
    Keeps s₀ (bandsRound s) := by
  unfold bandsRound
  with_reducible repeat' (first | assumption | apply modBank_keeps | refine forAll_keeps _ _ _ (fun _ _ _ => ?_) ?_)

theorem thermSync_keeps (s : State) (hk : Keeps s₀ s) :
    Keeps s₀ (thermSync s) := by
  unfold thermSync
  with_reducible repeat' (first | assumption | apply syncDone_keeps | apply takeObj_keeps | apply ite_keeps | apply ite_keeps_snd | apply ite_keeps_thd | refine forAll_keeps _ _ _ (fun _ _ _ => ?_) ?_)

theorem execThermalEvaluation_keeps (s : State) (hk : Keeps s₀ s) :
    Goes s₀ (execThermalEvaluation s) := by
  unfold execThermalEvaluation
  dsimp only
  with_reducible repeat' (first | assumption | apply thermSync_keeps | apply sensorsRound_keeps | apply followGroup_keeps | apply followRise_keeps | apply shutRound_keeps | apply bandsRound_keeps | apply stepsRound_keeps | apply ite_keeps | apply ite_keeps_snd | apply ite_keeps_thd | apply ite_keeps_out | apply keeps_next | refine forAll_keeps _ _ _ (fun _ _ _ => ?_) ?_ | (simp only [↓keeps_mk]; apply Keeps.parts))

theorem execDieRestart_keeps (die : Nat) (s : State) (hk : Keeps s₀ s) :
    Goes s₀ (execDieRestart die s) := by
  unfold execDieRestart
  dsimp only
  with_reducible repeat' (first | assumption | apply fanUpdate_keeps | apply vlvTakeUpAll_keeps | apply dispTristate_keeps | apply dispStart_keeps | apply restart_keeps | apply ite_keeps | apply ite_keeps_snd | apply ite_keeps_thd | apply ite_keeps_out | apply keeps_next | refine forAll_keeps _ _ _ (fun _ _ _ => ?_) ?_ | (simp only [↓keeps_mk]; apply Keeps.parts))

theorem thermClear_keeps (s : State) (hk : Keeps s₀ s) :
    Keeps s₀ (thermClear s) := by
  unfold thermClear
  dsimp only
  with_reducible repeat' (first | assumption | apply thermFlag_keeps | apply ite_keeps | apply ite_keeps_snd | apply ite_keeps_thd | (simp only [↓keeps_mk]; apply Keeps.parts))

/-! ### SafetyEvents -/

theorem readbackOne_keeps (disagree : List Nat) (s : State) (h : Nat) (hk : Keeps s₀ s) :
    Keeps s₀ (readbackOne disagree s h) := by
  unfold readbackOne
  dsimp only
  with_reducible repeat' (first | assumption | apply modSafe_keeps | apply failChannels_keeps | apply vlvCutoff_keeps | apply failModule_keeps | apply ite_keeps)

theorem execReadbackCheck_keeps (readings : List (Nat × Int)) (s : State) (hk : Keeps s₀ s) :
    Goes s₀ (execReadbackCheck readings s) := by
  unfold execReadbackCheck
  dsimp only
  with_reducible repeat' (first | assumption | apply readbackOne_keeps | apply ite_keeps | apply ite_keeps_snd | apply ite_keeps_thd | apply ite_keeps_out | apply keeps_next | refine forAll_keeps _ _ _ (fun _ _ _ => ?_) ?_ | (simp only [↓keeps_mk]; apply Keeps.parts))

theorem watchdogFail_keeps (s : State) (hk : Keeps s₀ s) :
    Keeps s₀ (watchdogFail s) := by
  unfold watchdogFail
  dsimp only
  with_reducible repeat' (first | assumption | apply failModule_keeps | (simp only [↓keeps_mk]; apply Keeps.parts))

theorem windowNext_keeps (s : State) (hk : Keeps s₀ s) :
    Keeps s₀ (windowNext s) := by
  unfold windowNext
  dsimp only
  with_reducible repeat' (first | assumption | (simp only [↓keeps_mk]; apply Keeps.parts))

theorem execCheckpoint_keeps (core : Nat) (inOrder last : Bool) (s : State) (hk : Keeps s₀ s) :
    Goes s₀ (execCheckpoint core inOrder last s) := by
  unfold execCheckpoint
  dsimp only
  with_reducible repeat' (first | assumption | apply windowNext_keeps | apply watchdogFail_keeps | apply ite_keeps | apply ite_keeps_snd | apply ite_keeps_thd | apply ite_keeps_out | apply keeps_next | (simp only [↓keeps_mk]; apply Keeps.parts))

theorem execWatchdogExpiry_keeps (s : State) (hk : Keeps s₀ s) :
    Goes s₀ (execWatchdogExpiry s) := by
  unfold execWatchdogExpiry
  with_reducible repeat' (first | assumption | apply windowNext_keeps | apply watchdogFail_keeps | apply ite_keeps | apply ite_keeps_snd | apply ite_keeps_thd | apply ite_keeps_out | apply keeps_next)

theorem execSafeToggle_keeps (s : State) (hk : Keeps s₀ s) :
    Goes s₀ (execSafeToggle s) := by
  unfold execSafeToggle
  dsimp only
  with_reducible repeat' (first | assumption | apply ite_keeps | apply ite_keeps_snd | apply ite_keeps_thd | apply ite_keeps_out | apply keeps_next | (simp only [↓keeps_mk]; apply Keeps.parts))

theorem safePinsStart_keeps (s : State) (hk : Keeps s₀ s) :
    Keeps s₀ (safePinsStart s) := by
  unfold safePinsStart
  dsimp only
  with_reducible repeat' (first | assumption | apply faultNFollow_keeps | apply ite_keeps | apply ite_keeps_snd | apply ite_keeps_thd | (simp only [↓keeps_mk]; apply Keeps.parts))

theorem execAutoRestart_keeps (s : State) (hk : Keeps s₀ s) :
    Goes s₀ (execAutoRestart s) := by
  unfold execAutoRestart
  dsimp only
  with_reducible repeat' (first | assumption | apply restart_keeps | apply ite_keeps | apply ite_keeps_snd | apply ite_keeps_thd | apply ite_keeps_out | apply keeps_next | (simp only [↓keeps_mk]; apply Keeps.parts))

theorem safetyClear_keeps (s : State) (hk : Keeps s₀ s) :
    Keeps s₀ (safetyClear s) := by
  unfold safetyClear
  dsimp only
  with_reducible repeat' (first | assumption | apply modSafe_keeps | apply loopBegin_keeps | apply faultNFollow_keeps | apply applyOut_keeps | apply ite_keeps | apply ite_keeps_snd | apply ite_keeps_thd | refine forAll_keeps _ _ _ (fun _ _ _ => ?_) ?_ | (simp only [↓keeps_mk]; apply Keeps.parts))

theorem safetyLock_keeps (s : State) (v : Int) (hk : Keeps s₀ s) :
    Keeps s₀ (safetyLock s v) := by
  unfold safetyLock
  with_reducible repeat' (first | assumption | apply logEvent_keeps | apply writeRw_keeps | apply ite_keeps)

theorem safetyPubkey_keeps (s : State) (l : List Byte) (hk : Keeps s₀ s) :
    Keeps s₀ (safetyPubkey s l) := by
  unfold safetyPubkey
  with_reducible repeat' (first | assumption | apply logEvent_keeps | apply writeRw_keeps)

theorem execChallengeExpiry_keeps (sess : Sess) (s : State) (hk : Keeps s₀ s) :
    Goes s₀ (execChallengeExpiry sess s) := by
  unfold execChallengeExpiry
  with_reducible repeat' (first | assumption | apply modSess_keeps | apply ite_keeps | apply ite_keeps_snd | apply ite_keeps_thd | apply ite_keeps_out | apply keeps_next | split)

theorem drawChallenge_keeps (s : State) (x : Sess) (hk : Keeps s₀ s) :
    Keeps s₀ (drawChallenge s x).2 := by
  unfold drawChallenge
  dsimp only
  with_reducible repeat' (first | assumption | apply modSess_keeps | (simp only [↓keeps_mk]; apply Keeps.parts))

/-! ### PairEvents -/

theorem modPair_keeps (s : State) (f : Pair → Pair) (hk : Keeps s₀ s) :
    Keeps s₀ (modPair s f) := by
  unfold modPair
  with_reducible repeat' (first | assumption | (simp only [↓keeps_mk]; apply Keeps.parts))

theorem modSel_keeps (s : State) (lane : Nat) (f : SelLane → SelLane) (hk : Keeps s₀ s) :
    Keeps s₀ (modSel s lane f) := by
  unfold modSel
  with_reducible repeat' (first | assumption | apply modPair_keeps | apply ite_keeps)

theorem laneFollow_keeps (s : State) (hk : Keeps s₀ s) :
    Keeps s₀ (laneFollow s) := by
  unfold laneFollow
  with_reducible repeat' (first | assumption | apply pairFlag_keeps)

theorem linkFrame_keeps (s : State) (lane : Nat) (crcOk : Bool) (hk : Keeps s₀ s) :
    Keeps s₀ (linkFrame s lane crcOk) := by
  unfold linkFrame
  with_reducible repeat' (first | assumption | apply modSel_keeps | apply modPair_keeps | apply ite_keeps)

theorem dropPairedArms_keeps (s : State) (hk : Keeps s₀ s) :
    Keeps s₀ (dropPairedArms s) := by
  unfold dropPairedArms
  dsimp only
  with_reducible repeat' (first | assumption | apply modCirc_keeps | apply ite_keeps | apply ite_keeps_snd | apply ite_keeps_thd | refine forAll_keeps _ _ _ (fun _ _ _ => ?_) ?_ | (simp only [↓keeps_mk]; apply Keeps.parts))

theorem becomeStandby_keeps (s : State) (hk : Keeps s₀ s) :
    Keeps s₀ (becomeStandby s) := by
  unfold becomeStandby
  dsimp only
  with_reducible repeat' (first | assumption | apply modPair_keeps | apply dispTristate_keeps | apply applyAll_keeps | apply dropPairedArms_keeps)

theorem becomeActive_keeps (s : State) (absent : Bool) (hk : Keeps s₀ s) :
    Keeps s₀ (becomeActive s absent) := by
  unfold becomeActive
  dsimp only
  with_reducible repeat' (first | assumption | apply modPair_keeps | apply pairFlag_keeps | apply ite_keeps)

theorem roleDecide_keeps (s : State) (hk : Keeps s₀ s) :
    Keeps s₀ (roleDecide s) := by
  unfold roleDecide
  with_reducible repeat' (first | assumption | apply becomeStandby_keeps | apply becomeActive_keeps | apply ite_keeps | apply ite_keeps_snd | apply ite_keeps_thd | split)

theorem execRoleDecisionTimeout_keeps (s : State) (hk : Keeps s₀ s) :
    Goes s₀ (execRoleDecisionTimeout s) := by
  unfold execRoleDecisionTimeout
  with_reducible repeat' (first | assumption | apply becomeActive_keeps | apply ite_keeps | apply ite_keeps_snd | apply ite_keeps_thd | apply ite_keeps_out | apply keeps_next | split)

theorem dualFound_keeps (s : State) (node : Nat) (hk : Keeps s₀ s) :
    Keeps s₀ (dualFound s node) := by
  unfold dualFound
  dsimp only
  with_reducible repeat' (first | assumption | apply pairFlag_keeps | apply logRole_keeps | apply becomeStandby_keeps | apply ite_keeps)

theorem execDualActive_keeps (s : State) (hk : Keeps s₀ s) :
    Goes s₀ (execDualActive s) := by
  unfold execDualActive
  with_reducible repeat' (first | assumption | apply dualFound_keeps | apply ite_keeps | apply ite_keeps_snd | apply ite_keeps_thd | apply ite_keeps_out | apply keeps_next)

theorem peerHeartbeat_keeps (s : State) (node role : Nat) (hk : Keeps s₀ s) :
    Keeps s₀ (peerHeartbeat s node role) := by
  unfold peerHeartbeat
  with_reducible repeat' (first | assumption | apply dualFound_keeps | apply ite_keeps)

theorem execPeerHeartbeat_keeps (node role : Nat) (s : State) (hk : Keeps s₀ s) :
    Goes s₀ (execPeerHeartbeat node role s) := by
  unfold execPeerHeartbeat
  with_reducible repeat' (first | assumption | apply peerHeartbeat_keeps | apply keeps_next)

theorem execSelRoleToggle_keeps (s : State) (hk : Keeps s₀ s) :
    Goes s₀ (execSelRoleToggle s) := by
  unfold execSelRoleToggle
  with_reducible repeat' (first | assumption | apply modPair_keeps | apply ite_keeps | apply ite_keeps_snd | apply ite_keeps_thd | apply ite_keeps_out | apply keeps_next)

theorem execSelPeerEdge_keeps (s : State) (hk : Keeps s₀ s) :
    Goes s₀ (execSelPeerEdge s) := by
  unfold execSelPeerEdge
  dsimp only
  with_reducible repeat' (first | assumption | apply modPair_keeps | apply roleDecide_keeps | apply ite_keeps | apply ite_keeps_snd | apply ite_keeps_thd | apply ite_keeps_out | apply keeps_next)

theorem roleLineCheck_keeps (s : State) (hk : Keeps s₀ s) :
    Keeps s₀ (roleLineCheck s) := by
  unfold roleLineCheck
  with_reducible repeat' (first | assumption | apply pairFlag_keeps | apply ite_keeps | apply ite_keeps_snd | apply ite_keeps_thd | split)

theorem execSelPeerIdle_keeps (s : State) (hk : Keeps s₀ s) :
    Goes s₀ (execSelPeerIdle s) := by
  unfold execSelPeerIdle
  with_reducible repeat' (first | assumption | apply roleLineCheck_keeps | apply modPair_keeps | apply ite_keeps | apply ite_keeps_snd | apply ite_keeps_thd | apply ite_keeps_out | apply keeps_next)

theorem execAliveTimer_keeps (s : State) (hk : Keeps s₀ s) :
    Goes s₀ (execAliveTimer s) := by
  unfold execAliveTimer
  dsimp only
  with_reducible repeat' (first | assumption | apply modSel_keeps | apply modPair_keeps | apply ite_keeps | apply ite_keeps_snd | apply ite_keeps_thd | apply ite_keeps_out | apply keeps_next)

theorem joinParts_keeps (s : State) (hk : Keeps s₀ s) :
    Keeps s₀ (joinParts s).2 := by
  unfold joinParts
  dsimp only
  with_reducible repeat' (first | assumption | apply translate_keeps)

theorem sendJoin_keeps (s : State) (hk : Keeps s₀ s) :
    Keeps s₀ (sendJoin s) := by
  unfold sendJoin
  dsimp only
  with_reducible repeat' (first | assumption | apply joinParts_keeps | apply modPair_keeps | apply ite_keeps)

theorem mixedFollow_keeps (s : State) (info : AliveInfo) (hk : Keeps s₀ s) :
    Keeps s₀ (mixedFollow s info) := by
  unfold mixedFollow
  dsimp only
  with_reducible repeat' (first | assumption | apply ite_keeps | apply ite_keeps_snd | apply ite_keeps_thd | (simp only [↓keeps_mk]; apply Keeps.parts))

theorem countFollow_keeps (s : State) (info : AliveInfo) (hk : Keeps s₀ s) :
    Keeps s₀ (countFollow s info) := by
  unfold countFollow
  dsimp only
  with_reducible repeat' (first | assumption | apply ite_keeps | apply ite_keeps_snd | apply ite_keeps_thd | (simp only [↓keeps_mk]; apply Keeps.parts))

theorem stateFollow_keeps (s : State) (info : AliveInfo) (hk : Keeps s₀ s) :
    Keeps s₀ (stateFollow s info) := by
  unfold stateFollow
  dsimp only
  with_reducible repeat' (first | assumption | apply modPair_keeps | apply sendJoin_keeps | apply ite_keeps)

theorem execAlive_keeps (lane : Nat) (crcOk : Bool) (info : AliveInfo) (s : State) (hk : Keeps s₀ s) :
    Goes s₀ (execAlive lane crcOk info s) := by
  unfold execAlive
  dsimp only
  with_reducible repeat' (first | assumption | apply linkFrame_keeps | apply modSel_keeps | apply laneFollow_keeps | apply modPair_keeps | apply roleLineCheck_keeps | apply roleDecide_keeps | apply countFollow_keeps | apply stateFollow_keeps | apply mixedFollow_keeps | apply ite_keeps | apply ite_keeps_snd | apply ite_keeps_thd | apply ite_keeps_out | apply keeps_next)

theorem execSelvedgeLaneDown_keeps (lane : Nat) (s : State) (hk : Keeps s₀ s) :
    Goes s₀ (execSelvedgeLaneDown lane s) := by
  unfold execSelvedgeLaneDown
  with_reducible repeat' (first | assumption | apply laneFollow_keeps | apply modSel_keeps | apply ite_keeps | apply ite_keeps_snd | apply ite_keeps_thd | apply ite_keeps_out | apply keeps_next)

theorem execSelvedgeLinkDown_keeps (s : State) (hk : Keeps s₀ s) :
    Goes s₀ (execSelvedgeLinkDown s) := by
  unfold execSelvedgeLinkDown
  dsimp only
  with_reducible repeat' (first | assumption | apply laneFollow_keeps | apply modSel_keeps | apply modPair_keeps | apply ite_keeps | apply ite_keeps_snd | apply ite_keeps_thd | apply ite_keeps_out | apply keeps_next)

theorem mirProfile_keeps (s : State) (n kind cycles bins : Nat) (values : List Int) (hk : Keeps s₀ s) :
    Keeps s₀ (mirProfile s n kind cycles bins values) := by
  unfold mirProfile
  dsimp only
  with_reducible repeat' (first | assumption | apply modLoop_keeps | apply ite_keeps | apply ite_keeps_snd | apply ite_keeps_thd | (simp only [↓keeps_mk]; apply Keeps.parts))

theorem mirDisplay_keeps (s : State) (shown : List Byte) (ledger : List Int) (running : List (Nat × Nat × Nat)) (hk : Keeps s₀ s) :
    Keeps s₀ (mirDisplay s shown ledger running) := by
  unfold mirDisplay
  with_reducible repeat' (first | assumption | apply ledgerFollow_keeps | apply modDisp_keeps)

theorem mirCalendar_keeps (s : State) (join : Bool) (now : Nat) (hk : Keeps s₀ s) :
    Keeps s₀ (mirCalendar s join now) := by
  unfold mirCalendar
  dsimp only
  with_reducible repeat' (first | assumption | apply calStep_keeps | apply calSlewAdd_keeps | apply ite_keeps | apply ite_keeps_snd | apply ite_keeps_thd | (simp only [↓keeps_mk]; apply Keeps.parts))

theorem mirrorTake_keeps (join : Bool) (s : State) (i : MirrorItem) (hk : Keeps s₀ s) :
    Keeps s₀ (mirrorTake join s i) := by
  unfold mirrorTake
  dsimp only
  with_reducible repeat' (first | assumption | apply modPair_keeps | apply setLearn_keeps | apply modCirc_keeps | apply setRw_keeps | apply modZone_keeps | apply modVlv_keeps | apply mirProfile_keeps | apply mirDisplay_keeps | apply mirCalendar_keeps | apply writeRec_keeps | apply ite_keeps | apply ite_keeps_snd | apply ite_keeps_thd | split)

theorem execMirror_keeps (lane : Nat) (crcOk : Bool) (items : List MirrorItem) (s : State) (hk : Keeps s₀ s) :
    Goes s₀ (execMirror lane crcOk items s) := by
  unfold execMirror
  dsimp only
  with_reducible repeat' (first | assumption | apply linkFrame_keeps | apply mirrorTake_keeps | apply modPair_keeps | apply ite_keeps | apply ite_keeps_snd | apply ite_keeps_thd | apply ite_keeps_out | apply keeps_next | refine forAll_keeps _ _ _ (fun _ _ _ => ?_) ?_)

theorem sendChanged_keeps (s : State) (i : MirrorItem) (hk : Keeps s₀ s) :
    Keeps s₀ (sendChanged s i) := by
  unfold sendChanged
  with_reducible repeat' (first | assumption | apply sendMirror_keeps | apply ite_keeps)

theorem sendLoop_keeps (s : State) (n : Nat) (hk : Keeps s₀ s) :
    Keeps s₀ (sendLoop s n) := by
  unfold sendLoop
  dsimp only
  with_reducible repeat' (first | assumption | apply sendMirror_keeps | apply modPair_keeps | apply ite_keeps)

theorem sendChanges_keeps (s : State) (hk : Keeps s₀ s) :
    Keeps s₀ (sendChanges s) := by
  unfold sendChanges
  with_reducible repeat' (first | assumption | apply sendChanged_keeps | refine forAll_keeps _ _ _ (fun _ _ _ => ?_) ?_)

theorem execMirrorSend_keeps (heddles : List Nat) (s : State) (hk : Keeps s₀ s) :
    Goes s₀ (execMirrorSend heddles s) := by
  unfold execMirrorSend
  dsimp only
  with_reducible repeat' (first | assumption | apply sendLoop_keeps | apply sendMirror_keeps | apply sendChanges_keeps | apply modPair_keeps | apply ite_keeps | apply ite_keeps_snd | apply ite_keeps_thd | apply ite_keeps_out | apply keeps_next | refine forAll_keeps _ _ _ (fun _ _ _ => ?_) ?_)

theorem execRelinquish_keeps (lane : Nat) (crcOk : Bool) (s : State) (hk : Keeps s₀ s) :
    Goes s₀ (execRelinquish lane crcOk s) := by
  unfold execRelinquish
  dsimp only
  with_reducible repeat' (first | assumption | apply linkFrame_keeps | apply modPair_keeps | apply ite_keeps | apply ite_keeps_snd | apply ite_keeps_thd | apply ite_keeps_out | apply keeps_next)

theorem takeLoop_keeps (s : State) (n : Nat) (m : MirLoop) (hk : Keeps s₀ s) :
    Keeps s₀ (takeLoop s n m) := by
  unfold takeLoop
  dsimp only
  with_reducible repeat' (first | assumption | apply setRw_keeps | apply modLoop_keeps)

theorem takeCircuit_keeps (s : State) (c : Nat) (hk : Keeps s₀ s) :
    Keeps s₀ (takeCircuit s c) := by
  unfold takeCircuit
  dsimp only
  with_reducible repeat' (first | assumption | apply modCirc_keeps | apply transStart_keeps | apply ite_keeps)

theorem takeHold_keeps (s : State) (v band : Nat) (hk : Keeps s₀ s) :
    Keeps s₀ (takeHold s v band) := by
  unfold takeHold
  dsimp only
  with_reducible repeat' (first | assumption | apply vlvBegin_keeps | apply bankRefresh_keeps | apply modVlv_keeps)

theorem takeValve_keeps (s : State) (v : Nat) (m : MirChan) (hk : Keeps s₀ s) :
    Keeps s₀ (takeValve s v m) := by
  unfold takeValve
  dsimp only
  with_reducible repeat' (first | assumption | apply modVlv_keeps | apply takeHold_keeps | apply vlvStartAt_keeps | apply ite_keeps)

theorem takeChannel_keeps (s : State) (h : Nat) (m : MirChan) (hk : Keeps s₀ s) :
    Keeps s₀ (takeChannel s h m) := by
  unfold takeChannel
  dsimp only
  with_reducible repeat' (first | assumption | apply setRw_keeps | apply vlvSyncMode_keeps | apply takeValve_keeps | apply applyOut_keeps | apply ite_keeps | apply ite_keeps_snd | apply ite_keeps_thd | split)

theorem takeRole_keeps (s : State) (cause : Nat) (hk : Keeps s₀ s) :
    Keeps s₀ (takeRole s cause) := by
  unfold takeRole
  dsimp only
  with_reducible repeat' (first | assumption | apply modPair_keeps | apply pairFlag_keeps | apply logRole_keeps | apply ite_keeps | apply ite_keeps_snd | apply ite_keeps_thd | (simp only [↓keeps_mk]; apply Keeps.parts))

theorem takeOutputs_keeps (s : State) (hk : Keeps s₀ s) :
    Keeps s₀ (takeOutputs s) := by
  unfold takeOutputs
  dsimp only
  with_reducible repeat' (first | assumption | apply takeLoop_keeps | apply takeCircuit_keeps | apply takeChannel_keeps | apply dispBegin_keeps | refine forAll_keeps _ _ _ (fun _ _ _ => ?_) ?_ | (simp only [↓keeps_mk]; apply Keeps.parts))

theorem execTakeover_keeps (s : State) (hk : Keeps s₀ s) :
    Goes s₀ (execTakeover s) := by
  unfold execTakeover
  dsimp only
  with_reducible repeat' (first | assumption | apply takeOutputs_keeps | apply takeRole_keeps | apply modPair_keeps | apply ite_keeps | apply ite_keeps_snd | apply ite_keeps_thd | apply ite_keeps_out | apply keeps_next)

theorem switchover_keeps (s : State) (hk : Keeps s₀ s) :
    Keeps s₀ (switchover s) := by
  unfold switchover
  dsimp only
  with_reducible repeat' (first | assumption | apply sendMirror_keeps | apply modPair_keeps | refine forAll_keeps _ _ _ (fun _ _ _ => ?_) ?_)

theorem switchoverCycle_keeps (s : State) (hk : Keeps s₀ s) :
    Keeps s₀ (switchoverCycle s) := by
  unfold switchoverCycle
  with_reducible repeat' (first | assumption | apply modPair_keeps | apply ite_keeps)

theorem execTaken_keeps (lane : Nat) (crcOk : Bool) (s : State) (hk : Keeps s₀ s) :
    Goes s₀ (execTaken lane crcOk s) := by
  unfold execTaken
  dsimp only
  with_reducible repeat' (first | assumption | apply linkFrame_keeps | apply becomeStandby_keeps | apply ite_keeps | apply ite_keeps_snd | apply ite_keeps_thd | apply ite_keeps_out | apply keeps_next)

theorem execTakenTimeout_keeps (s : State) (hk : Keeps s₀ s) :
    Goes s₀ (execTakenTimeout s) := by
  unfold execTakenTimeout
  with_reducible repeat' (first | assumption | apply becomeStandby_keeps | apply logRole_keeps | apply modPair_keeps | apply ite_keeps | apply ite_keeps_snd | apply ite_keeps_thd | apply ite_keeps_out | apply keeps_next | split)

theorem forceTakeover_keeps (s : State) (hk : Keeps s₀ s) :
    Keeps s₀ (forceTakeover s) := by
  unfold forceTakeover
  dsimp only
  with_reducible repeat' (first | assumption | apply takeRole_keeps | apply loopBegin_keeps | apply dispStart_keeps | apply applyAll_keeps | refine forAll_keeps _ _ _ (fun _ _ _ => ?_) ?_ | (simp only [↓keeps_mk]; apply Keeps.parts))

theorem partnerJob_keeps (s : State) (gen : Nat) (content : Table Val) (hk : Keeps s₀ s) :
    Keeps s₀ (partnerJob s gen content) := by
  unfold partnerJob
  with_reducible repeat' (first | assumption | apply startJob_keeps)

theorem execConfig_keeps (lane : Nat) (crcOk : Bool) (gen : Nat) (changes : List (Nat × Val)) (s : State) (hk : Keeps s₀ s) :
    Goes s₀ (execConfig lane crcOk gen changes s) := by
  unfold execConfig
  dsimp only
  with_reducible repeat' (first | assumption | apply linkFrame_keeps | apply partnerJob_keeps | apply modPair_keeps | apply ite_keeps | apply ite_keeps_snd | apply ite_keeps_thd | apply ite_keeps_out | apply keeps_next)

theorem partTake_keeps (s : State) (part : JoinPart) (hk : Keeps s₀ s) :
    Keeps s₀ (partTake s part) := by
  unfold partTake
  dsimp only
  with_reducible repeat' (first | assumption | apply partnerJob_keeps | apply mirrorTake_keeps | apply modPair_keeps | refine forAll_keeps _ _ _ (fun _ _ _ => ?_) ?_ | split)

theorem execJoin_keeps (lane : Nat) (crcOk : Bool) (part : JoinPart) (s : State) (hk : Keeps s₀ s) :
    Goes s₀ (execJoin lane crcOk part s) := by
  unfold execJoin
  dsimp only
  with_reducible repeat' (first | assumption | apply linkFrame_keeps | apply partTake_keeps | apply modPair_keeps | apply ite_keeps | apply ite_keeps_snd | apply ite_keeps_thd | apply ite_keeps_out | apply keeps_next)

/-! ### SnapEvents -/

theorem trigFrame_keeps (s : State) (x dest source : Nat) (data : List Byte) (hk : Keeps s₀ s) :
    Keeps s₀ (trigFrame s x dest source data) := by
  unfold trigFrame
  dsimp only
  with_reducible repeat' (first | assumption | apply snapFire_keeps | apply snapArm_keeps | apply ite_keeps)

theorem execCanTriggerFrame_keeps (x dest source : Nat) (data : List Byte) (s : State) (hk : Keeps s₀ s) :
    Goes s₀ (execCanTriggerFrame x dest source data s) := by
  unfold execCanTriggerFrame
  with_reducible repeat' (first | assumption | apply trigFrame_keeps | apply ite_keeps | apply ite_keeps_snd | apply ite_keeps_thd | apply ite_keeps_out | apply keeps_next)

theorem execTrigInEdge_keeps (rising : Bool) (s : State) (hk : Keeps s₀ s) :
    Goes s₀ (execTrigInEdge rising s) := by
  unfold execTrigInEdge
  dsimp only
  with_reducible repeat' (first | assumption | apply snapFire_keeps | apply ite_keeps | apply ite_keeps_snd | apply ite_keeps_thd | apply ite_keeps_out | apply keeps_next)

theorem armReached_keeps (s : State) (slot : Nat) (late : Bool) (hk : Keeps s₀ s) :
    Keeps s₀ (armReached s slot late) := by
  unfold armReached
  with_reducible repeat' (first | assumption | apply snapFire_keeps | apply modSlot_keeps)

theorem execArmAtReached_keeps (slot : Nat) (s : State) (hk : Keeps s₀ s) :
    Goes s₀ (execArmAtReached slot s) := by
  unfold execArmAtReached
  dsimp only
  with_reducible repeat' (first | assumption | apply armReached_keeps | apply ite_keeps | apply ite_keeps_snd | apply ite_keeps_thd | apply ite_keeps_out | apply keeps_next)

theorem snapLater_keeps (s : State) (t : SnapTrig) (hk : Keeps s₀ s) :
    Keeps s₀ (snapLater s t) := by
  unfold snapLater
  with_reducible repeat' (first | assumption | apply snapMerge_keeps | apply snapCapture_keeps | apply ite_keeps)

theorem execCaptureCopyComplete_keeps (s : State) (hk : Keeps s₀ s) :
    Goes s₀ (execCaptureCopyComplete s) := by
  unfold execCaptureCopyComplete
  dsimp only
  with_reducible repeat' (first | assumption | apply modSlot_keeps | apply snapLater_keeps | apply ite_keeps | apply ite_keeps_snd | apply ite_keeps_thd | apply ite_keeps_out | apply keeps_next | refine forAll_keeps _ _ _ (fun _ _ _ => ?_) ?_ | (simp only [↓keeps_mk]; apply Keeps.parts))

theorem execTrigOutEnd_keeps (s : State) (hk : Keeps s₀ s) :
    Goes s₀ (execTrigOutEnd s) := by
  unfold execTrigOutEnd
  dsimp only
  with_reducible repeat' (first | assumption | apply ite_keeps | apply ite_keeps_snd | apply ite_keeps_thd | apply ite_keeps_out | apply keeps_next | (simp only [↓keeps_mk]; apply Keeps.parts))

theorem execLogWrite_keeps (s : State) (hk : Keeps s₀ s) : Goes s₀ (execLogWrite s) := by
  unfold execLogWrite
  refine keeps_next ?_
  split
  · exact hk
  · next r q hq =>
    refine sendMirror_keeps _ _ (writeRec_keeps _ _ ?_)
    rw [keeps_mk]
    refine ⟨hk.pending, hk.clk, fun x => ?_⟩
    have k := hk.sound x
    have hl : q.length ≤ queueSize := by
      have h := k.queue
      rw [hq, List.length_cons] at h
      omega
    exact ⟨k.sram, k.cards, k.ring, hl, k.hostEvents, k.nodeEvents⟩

/-! ### CanCmds -/

theorem canLocalWakeUp_keeps (s : State) (x : Nat) (hk : Keeps s₀ s) :
    Keeps s₀ (canLocalWakeUp s x) := by
  unfold canLocalWakeUp
  with_reducible repeat' (first | assumption | apply canWake_keeps | apply ite_keeps)

theorem txFrameOp_keeps (s : State) (sess : Sess) (x : Nat) (l : List Byte) (hk : Keeps s₀ s) :
    Keeps s₀ (txFrameOp s sess x l) := by
  unfold txFrameOp
  dsimp only
  with_reducible repeat' (first | assumption | apply modCan_keeps | apply modSess_keeps | apply canQueue_keeps | apply canLocalWakeUp_keeps | apply ite_keeps)

theorem txCancelOp_keeps (s : State) (sess : Sess) (x h : Nat) (hk : Keeps s₀ s) :
    Keeps s₀ (txCancelOp s sess x h) := by
  unfold txCancelOp
  dsimp only
  with_reducible repeat' (first | assumption | apply modSess_keeps | apply modCan_keeps | apply ite_keeps)

theorem recoverOp_keeps (s : State) (x : Nat) (hk : Keeps s₀ s) :
    Keeps s₀ (recoverOp s x) := by
  unfold recoverOp
  with_reducible repeat' (first | assumption | apply canSetState_keeps)

theorem sleepOp_keeps (s : State) (x : Nat) (v : Int) (extra : Nat) (hk : Keeps s₀ s) :
    Keeps s₀ (sleepOp s x v extra) := by
  unfold sleepOp
  dsimp only
  with_reducible repeat' (first | assumption | apply setRw_keeps | apply modCan_keeps | apply canLocalWakeUp_keeps | apply ite_keeps)

theorem abdMatched_keeps (s : State) (x : Nat) (hk : Keeps s₀ s) :
    Keeps s₀ (abdMatched s x) := by
  unfold abdMatched
  dsimp only
  with_reducible repeat' (first | assumption | apply modCan_keeps | apply canSetState_keeps | apply startJob_keeps | apply ite_keeps)

theorem recAfter_keeps (s : State) (x : Nat) (hk : Keeps s₀ s) :
    Keeps s₀ (recAfter s x) := by
  unfold recAfter
  dsimp only
  with_reducible repeat' (first | assumption | apply modCan_keeps | apply takeFree_keeps | apply ite_keeps)

theorem canReceived_keeps (s : State) (x : Nat) (f : CanFrame) (hk : Keeps s₀ s) :
    Keeps s₀ (canReceived s x f) := by
  unfold canReceived
  dsimp only
  with_reducible repeat' (first | assumption | apply modCan_keeps | apply abdMatched_keeps | apply canFollow_keeps | apply recAfter_keeps | apply ite_keeps)

/-! ### Images -/

theorem modImages_keeps (s : State) (f : Images → Images) (hk : Keeps s₀ s) :
    Keeps s₀ (modImages s f) := by
  unfold modImages
  with_reducible repeat' (first | assumption | (simp only [↓keeps_mk]; apply Keeps.parts))

theorem imageKindOp_keeps (s : State) (kind : Nat) (hk : Keeps s₀ s) :
    Keeps s₀ (imageKindOp s kind) := by
  unfold imageKindOp
  with_reducible repeat' (first | assumption | apply modImages_keeps)

theorem stageSlot_keeps (s : State) (hk : Keeps s₀ s) :
    Keeps s₀ (stageSlot s) := by
  unfold stageSlot
  dsimp only
  with_reducible repeat' (first | assumption | apply mramWritten_keeps | (simp only [↓keeps_mk]; apply Keeps.parts))

theorem imageChunkOp_keeps (s : State) (l : List Byte) (hk : Keeps s₀ s) :
    Keeps s₀ (imageChunkOp s l) := by
  unfold imageChunkOp
  dsimp only
  with_reducible repeat' (first | assumption | apply modImages_keeps | apply stageSlot_keeps | apply mramWritten_keeps | apply ite_keeps)

theorem imageVerifyOp_keeps (s : State) (v : Int) (hk : Keeps s₀ s) :
    Keeps s₀ (imageVerifyOp s v) := by
  unfold imageVerifyOp
  with_reducible repeat' (first | assumption | apply modImages_keeps | apply ite_keeps)

theorem execVerifyComplete_keeps (s : State) (hk : Keeps s₀ s) :
    Goes s₀ (execVerifyComplete s) := by
  unfold execVerifyComplete
  dsimp only
  with_reducible repeat' (first | assumption | apply modImages_keeps | apply ite_keeps | apply ite_keeps_snd | apply ite_keeps_thd | apply ite_keeps_out | apply keeps_next)

theorem activateFirmware_keeps (s : State) (hk : Keeps s₀ s) :
    Keeps s₀ (activateFirmware s) := by
  unfold activateFirmware
  dsimp only
  with_reducible repeat' (first | assumption | apply restart_keeps | (simp only [↓keeps_mk]; apply Keeps.parts))

theorem fwConfirmOp_keeps (s : State) (v : Int) (hk : Keeps s₀ s) :
    Keeps s₀ (fwConfirmOp s v) := by
  unfold fwConfirmOp
  dsimp only
  with_reducible repeat' (first | assumption | apply ite_keeps | apply ite_keeps_snd | apply ite_keeps_thd | (simp only [↓keeps_mk]; apply Keeps.parts))

theorem rollback_keeps (s : State) (hk : Keeps s₀ s) :
    Keeps s₀ (rollback s) := by
  unfold rollback
  dsimp only
  with_reducible repeat' (first | assumption | (simp only [↓keeps_mk]; apply Keeps.parts))

theorem execConfirmTimeout_keeps (s : State) (hk : Keeps s₀ s) :
    Goes s₀ (execConfirmTimeout s) := by
  unfold execConfirmTimeout
  dsimp only
  with_reducible repeat' (first | assumption | apply restart_keeps | apply ite_keeps | apply ite_keeps_snd | apply ite_keeps_thd | apply ite_keeps_out | apply keeps_next | (simp only [↓keeps_mk]; apply Keeps.parts) | split)

/-! ### Respond -/

theorem svcQueue_keeps (s : State) (x : Nat) (kind : TxKind) (f : CanFrame) (hk : Keeps s₀ s) :
    Keeps s₀ (svcQueue s x kind f) := by
  unfold svcQueue
  with_reducible repeat' (first | assumption | apply canQueue_keeps | apply ite_keeps)

theorem sendResponse_keeps (s : State) (e : Env) (svc : Nat) (payload : List Byte) (hk : Keeps s₀ s) :
    Keeps s₀ (sendResponse s e svc payload) := by
  unfold sendResponse
  dsimp only
  with_reducible repeat' (first | assumption | apply svcQueue_keeps | apply ite_keeps | apply ite_keeps_snd | apply ite_keeps_thd | (simp only [↓keeps_mk]; apply Keeps.parts) | split)

theorem notePrev_keeps (s : State) (e : Env) (bytes : List Byte) (hk : Keeps s₀ s) :
    Keeps s₀ (notePrev s e bytes) := by
  unfold notePrev
  with_reducible repeat' (first | assumption | apply modSess_keeps)

theorem answer_keeps (s : State) (e : Env) (svc : Nat) (payload : List Byte) (hk : Keeps s₀ s) :
    Keeps s₀ (answer s e svc payload) := by
  unfold answer
  dsimp only
  with_reducible repeat' (first | assumption | apply modSess_keeps | apply sendResponse_keeps)

theorem managerHeard_keeps (s : State) (hk : Keeps s₀ s) :
    Keeps s₀ (managerHeard s) := by
  unfold managerHeard
  dsimp only
  with_reducible repeat' (first | assumption | apply fansEndSilence_keeps | apply logEvent_keeps | apply ite_keeps | apply ite_keeps_snd | apply ite_keeps_thd | (simp only [↓keeps_mk]; apply Keeps.parts))

theorem execHostTimeout_keeps (s : State) (hk : Keeps s₀ s) :
    Goes s₀ (execHostTimeout s) := by
  unfold execHostTimeout
  dsimp only
  with_reducible repeat' (first | assumption | apply fansEnterTable_keeps | apply logEvent_keeps | apply ite_keeps | apply ite_keeps_snd | apply ite_keeps_thd | apply ite_keeps_out | apply keeps_next | (simp only [↓keeps_mk]; apply Keeps.parts))

theorem arrives_keeps (s : State) (e : Env) (svc : Nat) (hk : Keeps s₀ s) :
    Keeps s₀ (arrives s e svc).2 := by
  unfold arrives
  dsimp only
  with_reducible repeat' (first | assumption | apply ite_keeps | apply ite_keeps_snd | apply ite_keeps_thd | (simp only [↓keeps_mk]; apply Keeps.parts) | split)

theorem sessExpire_keeps (s : State) (x : Sess) (hk : Keeps s₀ s) :
    Keeps s₀ (sessExpire s x) := by
  unfold sessExpire
  dsimp only
  with_reducible repeat' (first | assumption | apply dropPending_keeps | apply modSess_keeps | apply ite_keeps)

theorem touch_keeps (s : State) (x : Sess) (hk : Keeps s₀ s) :
    Keeps s₀ (touch s x) := by
  unfold touch
  dsimp only
  with_reducible repeat' (first | assumption | apply sessExpire_keeps | apply modSess_keeps | apply managerHeard_keeps | apply ite_keeps)

theorem repeatAnswer_keeps (s : State) (e : Env) (svc : Nat) (resp : List Byte) (hk : Keeps s₀ s) :
    Keeps s₀ (repeatAnswer s e svc resp) := by
  unfold repeatAnswer
  with_reducible repeat' (first | assumption | apply sendResponse_keeps | apply ite_keeps)

theorem runRequest_keeps (s : State) (e : Env) (svc : Nat) (run : State → Option (List Byte) × State)
    (hk : Keeps s₀ s) (hrun : ∀ s, Keeps s₀ s → Keeps s₀ (run s).2) : Keeps s₀ (runRequest s e svc run) := by
  have hr := hrun s hk
  unfold runRequest
  dsimp only
  split
  · exact answer_keeps _ _ _ _ hr
  · exact hr

theorem serve_keeps (s : State) (e : Env) (svc : Nat) (bytes : List Byte) (run : State → Option (List Byte) × State)
    (hk : Keeps s₀ s) (hrun : ∀ s, Keeps s₀ s → Keeps s₀ (run s).2) : Keeps s₀ (serve s e svc bytes run) := by
  unfold serve
  split
  · exact repeatAnswer_keeps _ _ _ _ hk
  · exact runRequest_keeps _ _ _ _ (notePrev_keeps _ _ _ hk) hrun

theorem request_keeps (s : State) (e : Env) (svc : Nat) (payload : List Byte) (run : State → Option (List Byte) × State)
    (hk : Keeps s₀ s) (hrun : ∀ s, Keeps s₀ s → Keeps s₀ (run s).2) : Keeps s₀ (request s e svc payload run) := by
  have ha := arrives_keeps s e svc hk
  unfold request
  exact ite_keeps (serve_keeps _ _ _ _ _ (touch_keeps _ _ ha) hrun) ha

theorem requestStatus_keeps (s : State) (e : Env) (svc : Nat) (payload : List Byte) (run : State → Nat × List Byte × State)
    (hk : Keeps s₀ s) (hrun : ∀ s, Keeps s₀ s → Keeps s₀ (run s).2.2) :
    Keeps s₀ (requestStatus s e svc payload run) :=
  request_keeps s e svc payload _ hk hrun

/-! ### Measure -/

theorem noteVin_keeps (s : State) (cont : Bool) (v : Int) (hk : Keeps s₀ s) :
    Keeps s₀ (noteVin s cont v) := by
  unfold noteVin
  dsimp only
  with_reducible repeat' (first | assumption | apply ite_keeps | apply ite_keeps_snd | apply ite_keeps_thd | (simp only [↓keeps_mk]; apply Keeps.parts))

theorem bridgeFollow_keeps (s : State) (k : Nat) (hk : Keeps s₀ s) :
    Keeps s₀ (bridgeFollow s k) := by
  unfold bridgeFollow
  with_reducible repeat' (first | assumption | apply modFan_keeps)

theorem noteVdrv_keeps (s : State) (v : Int) (hk : Keeps s₀ s) :
    Keeps s₀ (noteVdrv s v) := by
  unfold noteVdrv
  dsimp only
  with_reducible repeat' (first | assumption | apply bridgeFollow_keeps | apply bankRefresh_keeps | apply ite_keeps | apply ite_keeps_snd | apply ite_keeps_thd | refine forAll_keeps _ _ _ (fun _ _ _ => ?_) ?_ | (simp only [↓keeps_mk]; apply Keeps.parts))

theorem noteVref_keeps (s : State) (v : Int) (hk : Keeps s₀ s) :
    Keeps s₀ (noteVref s v) := by
  unfold noteVref
  dsimp only
  with_reducible repeat' (first | assumption | apply raiseAlarm_keeps | apply dropAlarm_keeps | apply ite_keeps | apply ite_keeps_snd | apply ite_keeps_thd | (simp only [↓keeps_mk]; apply Keeps.parts))

theorem noteFanCurrent_keeps (s : State) (c : Nat) (v : Int) (hk : Keeps s₀ s) :
    Keeps s₀ (noteFanCurrent s c v) := by
  unfold noteFanCurrent
  dsimp only
  with_reducible repeat' (first | assumption | apply limitFollow_keeps | apply modFan_keeps)

theorem noteInternal_keeps (s : State) (adc : Adc) (cont : Bool) (c : Nat) (v : Int) (hk : Keeps s₀ s) :
    Keeps s₀ (noteInternal s adc cont c v) := by
  unfold noteInternal
  dsimp only
  with_reducible repeat' (first | assumption | apply noteVin_keeps | apply noteVdrv_keeps | apply bankRefresh_keeps | apply noteVref_keeps | apply noteFanCurrent_keeps | apply modSensor_keeps | apply ite_keeps | apply ite_keeps_snd | apply ite_keeps_thd | refine forAll_keeps _ _ _ (fun _ _ _ => ?_) ?_ | (simp only [↓keeps_mk]; apply Keeps.parts))

theorem deliver_keeps (s : State) (adc : Adc) (cont : Bool) (code : Nat) (r : ResRec) (hk : Keeps s₀ s) :
    Keeps s₀ (deliver s adc cont code r) := by
  unfold deliver
  dsimp only
  with_reducible repeat' (first | assumption | apply putRec_keeps | apply loomLoad_keeps | apply noteInternal_keeps | apply resultDue_keeps | apply ite_keeps)

theorem setPre_keeps (s : State) (adc : Adc) (b : Bool) (hk : Keeps s₀ s) :
    Keeps s₀ (setPre s adc b) := by
  unfold setPre
  dsimp only
  with_reducible repeat' (first | assumption | (simp only [↓keeps_mk]; apply Keeps.parts) | split)

theorem crossCheck_keeps (s : State) (k : Nat) (ra rb : ResRec) (hk : Keeps s₀ s) :
    Keeps s₀ (crossCheck s k ra rb) := by
  unfold crossCheck
  dsimp only
  with_reducible repeat' (first | assumption | apply putRec_keeps | apply deliver_keeps | apply modAi_keeps | apply failInput_keeps | apply ite_keeps | apply ite_keeps_snd | apply ite_keeps_thd | split)

theorem fanTransform_keeps (s : State) (entry : Nat) (r : ResRec) (hk : Keeps s₀ s) :
    Keeps s₀ (fanTransform s entry r) := by
  unfold fanTransform
  dsimp only
  with_reducible repeat' (first | assumption | apply takeFree_keeps | apply setRec_keeps | apply resultDue_keeps | refine forAll_keeps _ _ _ (fun _ _ _ => ?_) ?_)

theorem execMtExpiry_keeps (m : Nat) (s : State) (hk : Keeps s₀ s) :
    Goes s₀ (execMtExpiry m s) := by
  unfold execMtExpiry
  dsimp only
  with_reducible repeat' (first | assumption | apply triggerEvent_keeps | apply ite_keeps | apply ite_keeps_snd | apply ite_keeps_thd | apply ite_keeps_out | apply keeps_next | (simp only [↓keeps_mk]; apply Keeps.parts))

theorem execConversionDue_keeps (t : Nat) (s : State) (hk : Keeps s₀ s) :
    Goes s₀ (execConversionDue t s) := by
  unfold execConversionDue
  dsimp only
  with_reducible repeat' (first | assumption | apply ite_keeps | apply ite_keeps_snd | apply ite_keeps_thd | apply ite_keeps_out | apply keeps_next | (simp only [↓keeps_mk]; apply Keeps.parts))

theorem startTriggered_keeps (s : State) (q : QConv) (hk : Keeps s₀ s) :
    Keeps s₀ (startTriggered s q) := by
  unfold startTriggered
  dsimp only
  with_reducible repeat' (first | assumption | apply modTrig_keeps | apply ite_keeps | apply ite_keeps_snd | apply ite_keeps_thd | (simp only [↓keeps_mk]; apply Keeps.parts))

theorem startCont_keeps (s : State) (code : Nat) (hk : Keeps s₀ s) :
    Keeps s₀ (startCont s code) := by
  unfold startCont
  dsimp only
  with_reducible repeat' (first | assumption | apply ite_keeps | apply ite_keeps_snd | apply ite_keeps_thd | (simp only [↓keeps_mk]; apply Keeps.parts))

theorem startWaiting_keeps (s : State) (w : ContWait) (hk : Keeps s₀ s) :
    Keeps s₀ (startWaiting s w) := by
  unfold startWaiting
  dsimp only
  with_reducible repeat' (first | assumption | apply startCont_keeps | (simp only [↓keeps_mk]; apply Keeps.parts) | split)

theorem execConversionStart_keeps (adc : Adc) (s : State) (hk : Keeps s₀ s) :
    Goes s₀ (execConversionStart adc s) := by
  unfold execConversionStart
  dsimp only
  with_reducible repeat' (first | assumption | apply startWaiting_keeps | apply startTriggered_keeps | apply ite_keeps | apply ite_keeps_snd | apply ite_keeps_thd | apply ite_keeps_out | apply keeps_next | (simp only [↓keeps_mk]; apply Keeps.parts) | split)

theorem execContinuousSlot_keeps (pos : Nat) (s : State) (hk : Keeps s₀ s) :
    Goes s₀ (execContinuousSlot pos s) := by
  unfold execContinuousSlot
  dsimp only
  with_reducible repeat' (first | assumption | apply startCont_keeps | apply ite_keeps | apply ite_keeps_snd | apply ite_keeps_thd | apply ite_keeps_out | apply keeps_next | (simp only [↓keeps_mk]; apply Keeps.parts) | split)

theorem completeB_keeps (s : State) (r : ConvRun) (l raw : Int) (hk : Keeps s₀ s) :
    Keeps s₀ (completeB s r l raw) := by
  unfold completeB
  dsimp only
  with_reducible repeat' (first | assumption | apply deliver_keeps | apply setPre_keeps | (simp only [↓keeps_mk]; apply Keeps.parts))

theorem completeA_keeps (s : State) (r : ConvRun) (l lB raw rawB : Int) (hk : Keeps s₀ s) :
    Keeps s₀ (completeA s r l lB raw rawB) := by
  unfold completeA
  dsimp only
  with_reducible repeat' (first | assumption | apply setPre_keeps | apply deliver_keeps | apply crossCheck_keeps | apply fanTransform_keeps | apply ite_keeps | apply ite_keeps_snd | apply ite_keeps_thd | (simp only [↓keeps_mk]; apply Keeps.parts) | split)

theorem execConversionComplete_keeps (adc : Adc) (l lB raw rawB : Int) (s : State) (hk : Keeps s₀ s) :
    Goes s₀ (execConversionComplete adc l lB raw rawB s) := by
  unfold execConversionComplete
  dsimp only
  with_reducible repeat' (first | assumption | apply completeA_keeps | apply completeB_keeps | apply deliver_keeps | apply ite_keeps | apply ite_keeps_snd | apply ite_keeps_thd | apply ite_keeps_out | apply keeps_next | (simp only [↓keeps_mk]; apply Keeps.parts) | split)

theorem scanFollow_keeps (s : State) (hk : Keeps s₀ s) :
    Keeps s₀ (scanFollow s) := by
  unfold scanFollow
  dsimp only
  with_reducible repeat' (first | assumption | apply ite_keeps | apply ite_keeps_snd | apply ite_keeps_thd | (simp only [↓keeps_mk]; apply Keeps.parts))

theorem execHousekeepingRound_keeps (s : State) (hk : Keeps s₀ s) :
    Goes s₀ (execHousekeepingRound s) := by
  unfold execHousekeepingRound
  dsimp only
  with_reducible repeat' (first | assumption | apply scanFollow_keeps | apply ite_keeps | apply ite_keeps_snd | apply ite_keeps_thd | apply ite_keeps_out | apply keeps_next | (simp only [↓keeps_mk]; apply Keeps.parts))

theorem execAiScan_keeps (s : State) (hk : Keeps s₀ s) :
    Goes s₀ (execAiScan s) := by
  unfold execAiScan
  with_reducible repeat' (first | assumption | apply scanFollow_keeps | apply ite_keeps | apply ite_keeps_snd | apply ite_keeps_thd | apply ite_keeps_out | apply keeps_next)

theorem execShuntTrip_keeps (k : Nat) (s : State) (hk : Keeps s₀ s) :
    Goes s₀ (execShuntTrip k s) := by
  unfold execShuntTrip
  with_reducible repeat' (first | assumption | apply modAi_keeps | apply ite_keeps | apply ite_keeps_snd | apply ite_keeps_thd | apply ite_keeps_out | apply keeps_next)

theorem recoverUntil_keeps (s : State) (k t : Nat) (hk : Keeps s₀ s) :
    Keeps s₀ (recoverUntil s k t) := by
  unfold recoverUntil
  with_reducible repeat' (first | assumption | apply modAi_keeps)

theorem execShuntReclose_keeps (k : Nat) (s : State) (hk : Keeps s₀ s) :
    Goes s₀ (execShuntReclose k s) := by
  unfold execShuntReclose
  with_reducible repeat' (first | assumption | apply recoverUntil_keeps | apply modAi_keeps | apply ite_keeps | apply ite_keeps_snd | apply ite_keeps_thd | apply ite_keeps_out | apply keeps_next)

theorem execAiClampEvent_keeps (k : Nat) (driven : Bool) (s : State) (hk : Keeps s₀ s) :
    Goes s₀ (execAiClampEvent k driven s) := by
  unfold execAiClampEvent
  dsimp only
  with_reducible repeat' (first | assumption | apply modAi_keeps | apply recoverUntil_keeps | apply ite_keeps | apply ite_keeps_snd | apply ite_keeps_thd | apply ite_keeps_out | apply keeps_next)

theorem execRecoveringEnd_keeps (k : Nat) (s : State) (hk : Keeps s₀ s) :
    Goes s₀ (execRecoveringEnd k s) := by
  unfold execRecoveringEnd
  with_reducible repeat' (first | assumption | apply modAi_keeps | apply ite_keeps | apply ite_keeps_snd | apply ite_keeps_thd | apply ite_keeps_out | apply keeps_next | split)

theorem execNoiseMeasurement_keeps (noiseA noiseB : NoiseSum) (s : State) (hk : Keeps s₀ s) :
    Goes s₀ (execNoiseMeasurement noiseA noiseB s) := by
  unfold execNoiseMeasurement
  dsimp only
  with_reducible repeat' (first | assumption | apply ite_keeps | apply ite_keeps_snd | apply ite_keeps_thd | apply ite_keeps_out | apply keeps_next | (simp only [↓keeps_mk]; apply Keeps.parts))

theorem execAoFault_keeps (a : Nat) (kind : AoFault) (s : State) (hk : Keeps s₀ s) :
    Goes s₀ (execAoFault a kind s) := by
  unfold execAoFault
  with_reducible repeat' (first | assumption | apply modAo_keeps | apply ite_keeps | apply ite_keeps_snd | apply ite_keeps_thd | apply ite_keeps_out | apply keeps_next | split)

theorem execAoStatusClear_keeps (a : Nat) (s : State) (hk : Keeps s₀ s) :
    Goes s₀ (execAoStatusClear a s) := by
  unfold execAoStatusClear
  with_reducible repeat' (first | assumption | apply modAo_keeps | apply ite_keeps | apply ite_keeps_snd | apply ite_keeps_thd | apply ite_keeps_out | apply keeps_next)

end Sys2Proof.Machine
end

