-- ==== Sys2Proof/Laws/KeepsServices.lean ====
section
/-! SUPPORT. Each operation keeps the queue of commands, the engine clock and a sound machine: the services, the received frames and the Loom. -/

namespace Sys2Proof.Machine

variable {s₀ : State}

/-! ### Commit -/

theorem circSchedule_keeps (s : State) (c : Nat) (event : Bool) (hk : Keeps s₀ s) :
    Keeps s₀ (circSchedule s c event) := by
  unfold circSchedule
  dsimp only
  with_reducible repeat' (first | assumption | apply circRefresh_keeps | apply modCirc_keeps | apply writeRw_keeps | apply ite_keeps | apply ite_keeps_snd | apply ite_keeps_thd | split)

theorem addWait_keeps (s : State) (u : SyncUnit) (hk : Keeps s₀ s) :
    Keeps s₀ (addWait s u) := by
  unfold addWait
  dsimp only
  with_reducible repeat' (first | assumption | apply ite_keeps | apply ite_keeps_snd | apply ite_keeps_thd | (simp only [↓keeps_mk]; apply Keeps.parts))

theorem forceKeys_keeps (s : State) (keys : List Nat) (hk : Keeps s₀ s) :
    Keeps s₀ (forceKeys s keys) := by
  unfold forceKeys
  with_reducible repeat' (first | assumption | apply setForce_keeps | refine forAll_keeps _ _ _ (fun _ _ _ => ?_) ?_)

theorem circSync_keeps (s : State) (c : Nat) (keys : List Nat) (hk : Keeps s₀ s) :
    Keeps s₀ (circSync s c keys) := by
  unfold circSync
  dsimp only
  with_reducible repeat' (first | assumption | apply forceKeys_keeps | apply circWithdraw_keeps | apply modCirc_keeps | apply circSchedule_keeps | apply ite_keeps)

theorem loopSync_keeps (s : State) (n : Nat) (keys : List Nat) (hk : Keeps s₀ s) :
    Keeps s₀ (loopSync s n keys) := by
  unfold loopSync
  dsimp only
  with_reducible repeat' (first | assumption | apply loopTakeSet_keeps | apply loopBegin_keeps | apply addWait_keeps | apply ite_keeps)

theorem convsMove_keeps (s : State) (hk : Keeps s₀ s) :
    Keeps s₀ (convsMove s) := by
  unfold convsMove
  dsimp only
  with_reducible repeat' (first | assumption | (simp only [↓keeps_mk]; apply Keeps.parts))

theorem measSync_keeps (s : State) (keys : List Nat) (hk : Keeps s₀ s) :
    Keeps s₀ (measSync s keys) := by
  unfold measSync
  dsimp only
  with_reducible repeat' (first | assumption | apply convsMove_keeps | apply forceKeys_keeps | apply recoverUntil_keeps | apply ite_keeps | apply ite_keeps_snd | apply ite_keeps_thd | refine forAll_keeps _ _ _ (fun _ _ _ => ?_) ?_ | (simp only [↓keeps_mk]; apply Keeps.parts))

theorem valveSync_keeps (s : State) (keys : List Nat) (hk : Keeps s₀ s) :
    Keeps s₀ (valveSync s keys) := by
  unfold valveSync
  dsimp only
  with_reducible repeat' (first | assumption | apply forceKeys_keeps | apply vlvSyncMode_keeps | apply vlvTakeSet_keeps | apply addWait_keeps | apply bandsRound_keeps | apply ite_keeps | apply ite_keeps_snd | apply ite_keeps_thd | refine forAll_keeps _ _ _ (fun _ _ _ => ?_) ?_)

theorem fanSync_keeps (s : State) (hk : Keeps s₀ s) :
    Keeps s₀ (fanSync s) := by
  unfold fanSync
  dsimp only
  with_reducible repeat' (first | assumption | apply addWait_keeps | apply fanTakeSet_keeps | apply ite_keeps | apply ite_keeps_snd | apply ite_keeps_thd | refine forAll_keeps _ _ _ (fun _ _ _ => ?_) ?_)

theorem canGroupSync_keeps (s : State) (x : Nat) (hk : Keeps s₀ s) :
    Keeps s₀ (canGroupSync s x) := by
  unfold canGroupSync
  dsimp only
  with_reducible repeat' (first | assumption | apply addWait_keeps | apply canTakeSet_keeps | apply canSync_keeps | apply ite_keeps)

theorem groupSync_keeps (s : State) (keys : List Nat) (g : Nat) (hk : Keeps s₀ s) :
    Keeps s₀ (groupSync s keys g) := by
  unfold groupSync
  dsimp only
  with_reducible repeat' (first | assumption | apply addWait_keeps | apply circSync_keeps | apply loopSync_keeps | apply canGroupSync_keeps | apply measSync_keeps | apply ioTakeSet_keeps | apply valveSync_keeps | apply fanSync_keeps | apply dispCommit_keeps | apply forceKeys_keeps | apply circSchedule_keeps | apply ite_keeps | apply ite_keeps_snd | apply ite_keeps_thd | refine forAll_keeps _ _ _ (fun _ _ _ => ?_) ?_ | (simp only [↓keeps_mk]; apply Keeps.parts))

theorem heddleAll_keeps (s : State) (hk : Keeps s₀ s) :
    Keeps s₀ (heddleAll s) := by
  unfold heddleAll
  with_reducible repeat' (first | assumption | apply heddleRewriteEntry_keeps | refine forAll_keeps _ _ _ (fun _ _ _ => ?_) ?_)

theorem setCmd_keeps (s : State) (o m : Nat) (v : Int) (hk : Keeps s₀ s) :
    Keeps s₀ (setCmd s o m v) := by
  unfold setCmd
  with_reducible repeat' (first | assumption | apply setRw_keeps)

theorem keepCommand_keeps (old : State) (s : State) (h : Nat) (hk : Keeps s₀ old) (hk1 : Keeps s₀ s) :
    Keeps s₀ (keepCommand old s h) := by
  unfold keepCommand
  dsimp only
  with_reducible repeat' (first | assumption | apply setCmd_keeps | apply ite_keeps | apply ite_keeps_snd | apply ite_keeps_thd | split)

theorem takeCommand_keeps (old : State) (s : State) (h : Nat) (hk : Keeps s₀ old) (hk1 : Keeps s₀ s) :
    Keeps s₀ (takeCommand old s h) := by
  unfold takeCommand
  with_reducible repeat' (first | assumption | apply modLoop_keeps | apply ite_keeps | apply ite_keeps_snd | apply ite_keeps_thd | split)

theorem rwEffect_keeps (s : State) (key : Nat) (hk : Keeps s₀ s) :
    Keeps s₀ (rwEffect s key) := by
  unfold rwEffect
  with_reducible repeat' (first | assumption | apply circRefresh_keeps | apply ite_keeps)

theorem takeContent_keeps (s : State) (content : Table Val) (keys : List Nat) (stored : Bool) (hk : Keeps s₀ s) :
    Keeps s₀ (takeContent s content keys stored) := by
  unfold takeContent
  dsimp only
  with_reducible repeat' (first | assumption | apply setCommitted_keeps | apply rwEffect_keeps | apply setRw_keeps | apply ite_keeps | apply ite_keeps_snd | apply ite_keeps_thd | refine forAll_keeps _ _ _ (fun _ _ _ => ?_) ?_ | split)

theorem commitEffect_keeps (s : State) (j : CopyJob) (hk : Keeps s₀ s) :
    Keeps s₀ (commitEffect s j) := by
  unfold commitEffect
  dsimp only
  with_reducible repeat' (first | assumption | apply takeContent_keeps | apply takeCommand_keeps | apply keepCommand_keeps | apply groupSync_keeps | apply latchSafe_keeps | apply poolAssign_keeps | apply heddleAll_keeps | apply heddleRewriteEntry_keeps | apply applyOut_keeps | apply sendConfig_keeps | apply ite_keeps | apply ite_keeps_snd | apply ite_keeps_thd | refine forAll_keeps _ _ _ (fun _ _ _ => ?_) ?_ | (simp only [↓keeps_mk]; apply Keeps.parts))

theorem leaveBad_keeps (s : State) (hk : Keeps s₀ s) :
    Keeps s₀ (leaveBad s) := by
  unfold leaveBad
  dsimp only
  with_reducible repeat' (first | assumption | apply dropAlarm_keeps | apply applyAll_keeps | apply ite_keeps | apply ite_keeps_snd | apply ite_keeps_thd | (simp only [↓keeps_mk]; apply Keeps.parts))

theorem commitFields_keeps (s : State) (f : Option (Nat × Nat)) (hk : Keeps s₀ s) :
    Keeps s₀ (commitFields s f).2 := by
  unfold commitFields
  dsimp only
  with_reducible repeat' (first | assumption | apply takeFree_keeps | split)

theorem commitRefused_keeps (s : State) (code : Nat) (f : Option (Nat × Nat)) (hk : Keeps s₀ s) :
    Keeps s₀ (commitRefused s code f).2 := by
  unfold commitRefused
  dsimp only
  with_reducible repeat' (first | assumption | apply commitFields_keeps)

theorem commitDone_keeps (s : State) (hk : Keeps s₀ s) :
    Keeps s₀ (commitDone s).2 := by
  unfold commitDone
  dsimp only
  with_reducible repeat' (first | assumption | apply commitFields_keeps)

theorem commitOp_keeps (s : State) (e : Env) (hk : Keeps s₀ s) :
    Keeps s₀ (commitOp s e).2 := by
  unfold commitOp
  dsimp only
  with_reducible repeat' (first | assumption | apply commitRefused_keeps | apply commitDone_keeps | apply startJob_keeps | apply ite_keeps | apply ite_keeps_snd | apply ite_keeps_thd | split)

theorem execCommit_keeps (e : Env) (s : State) (hk : Keeps s₀ s) :
    Goes s₀ (execCommit e s) := by
  unfold execCommit
  with_reducible repeat' (first | assumption | apply request_keeps | apply commitOp_keeps | apply keeps_next | (intro _ _; try dsimp only))

theorem execAbort_keeps (e : Env) (s : State) (hk : Keeps s₀ s) :
    Goes s₀ (execAbort e s) := by
  unfold execAbort
  with_reducible repeat' (first | assumption | apply ite_keeps_thd | apply requestStatus_keeps | apply clearPending_keeps | apply ite_keeps | apply ite_keeps_snd | apply ite_keeps_out | apply keeps_next | (intro _ _; try dsimp only))

theorem putCopy_keeps (s : State) (k : Nat) (c : CfgCopy) (hk : Keeps s₀ s) :
    Keeps s₀ (putCopy s k c) := by
  unfold putCopy
  dsimp only
  with_reducible repeat' (first | assumption | apply mramWritten_keeps | (simp only [↓keeps_mk]; apply Keeps.parts))

theorem nextJob_keeps (s : State) (hk : Keeps s₀ s) :
    Keeps s₀ (nextJob s) := by
  unfold nextJob
  dsimp only
  with_reducible repeat' (first | assumption | (simp only [↓keeps_mk]; apply Keeps.parts) | split)

theorem settlePending_keeps (s : State) (x : Sess) (j : CopyJob) (hk : Keeps s₀ s) :
    Keeps s₀ (settlePending s x j) := by
  unfold settlePending
  with_reducible repeat' (first | assumption | apply modSess_keeps)

theorem jobDone_keeps (s : State) (j : CopyJob) (hk : Keeps s₀ s) :
    Keeps s₀ (jobDone s j) := by
  unfold jobDone
  dsimp only
  with_reducible repeat' (first | assumption | apply leaveBad_keeps | apply commitEffect_keeps | apply settlePending_keeps | apply commitDone_keeps | apply answer_keeps | split)

theorem jobFailed_keeps (s : State) (j : CopyJob) (hk : Keeps s₀ s) :
    Keeps s₀ (jobFailed s j) := by
  unfold jobFailed
  dsimp only
  with_reducible repeat' (first | assumption | apply commitRefused_keeps | apply answer_keeps | (simp only [↓keeps_mk]; apply Keeps.parts) | split)

theorem execCopyWriteComplete_keeps (ok : Bool) (s : State) (hk : Keeps s₀ s) :
    Goes s₀ (execCopyWriteComplete ok s) := by
  unfold execCopyWriteComplete
  dsimp only
  with_reducible repeat' (first | assumption | apply putCopy_keeps | apply jobDone_keeps | apply nextJob_keeps | apply jobFailed_keeps | apply ite_keeps | apply ite_keeps_snd | apply ite_keeps_thd | apply ite_keeps_out | apply keeps_next | (simp only [↓keeps_mk]; apply Keeps.parts) | split)

theorem execPersistentRwGeneration_keeps (s : State) (hk : Keeps s₀ s) :
    Goes s₀ (execPersistentRwGeneration s) := by
  unfold execPersistentRwGeneration
  dsimp only
  with_reducible repeat' (first | assumption | apply startJob_keeps | apply ite_keeps | apply ite_keeps_snd | apply ite_keeps_thd | apply ite_keeps_out | apply keeps_next | (simp only [↓keeps_mk]; apply Keeps.parts) | split)

theorem loadCards_keeps (s : State) (l : List Byte) (hk : Keeps s₀ s) :
    Keeps s₀ (loadCards s l) := by
  unfold loadCards
  with_reducible repeat' (first | assumption | apply loadCard_keeps | refine forAll_keeps _ _ _ (fun _ _ _ => ?_) ?_)

theorem imageJob_keeps (s : State) (e : Env) (hk : Keeps s₀ s) :
    Keeps s₀ (imageJob s e) := by
  unfold imageJob
  dsimp only
  with_reducible repeat' (first | assumption | apply startJob_keeps | apply loadCards_keeps)

/-! ### Writes -/

theorem armOp_keeps (s : State) (e : Nat) (v : Int) (hk : Keeps s₀ s) :
    Keeps s₀ (armOp s e v) := by
  unfold armOp
  dsimp only
  with_reducible repeat' (first | assumption | apply setRw_keeps | apply syncDone_keeps | apply takeObj_keeps | apply modEvent_keeps | apply ite_keeps)

theorem noteWrong_keeps (s : State) (x : Sess) (hk : Keeps s₀ s) :
    Keeps s₀ (noteWrong s x) := by
  unfold noteWrong
  dsimp only
  with_reducible repeat' (first | assumption | apply modSess_keeps)

theorem askLevel_keeps (s : State) (x : Sess) (n : Nat) (hk : Keeps s₀ s) :
    Keeps s₀ (askLevel s x n) := by
  unfold askLevel
  with_reducible repeat' (first | assumption | apply modSess_keeps)

theorem tryCode_keeps (s : State) (x : Sess) (code : Nat) (hk : Keeps s₀ s) :
    Keeps s₀ (tryCode s x code).2 := by
  unfold tryCode
  dsimp only
  with_reducible repeat' (first | assumption | apply modSess_keeps | apply noteWrong_keeps | apply ite_keeps | apply ite_keeps_snd)

theorem tryResponse_keeps (s : State) (x : Sess) (sig : List Byte) (hk : Keeps s₀ s) :
    Keeps s₀ (tryResponse s x sig).2 := by
  unfold tryResponse
  dsimp only
  with_reducible repeat' (first | assumption | apply modSess_keeps | apply noteWrong_keeps | apply ite_keeps | apply ite_keeps_snd)

theorem learnReset_keeps (s : State) (c : Nat) (hk : Keeps s₀ s) :
    Keeps s₀ (learnReset s c) := by
  unfold learnReset
  dsimp only
  with_reducible repeat' (first | assumption | apply modCirc_keeps | apply setLearn_keeps)

theorem fanOrIo_keeps (s : State) (o : Nat) (hk : Keeps s₀ s) :
    Keeps s₀ (fanOrIo s o) := by
  unfold fanOrIo
  with_reducible repeat' (first | assumption | apply ioApply_keeps | apply fanCommand_keeps | apply ite_keeps | apply ite_keeps_snd | apply ite_keeps_thd | split)

theorem commandOp_keeps (s : State) (o m : Nat) (v : Int) (sense : Option Nat) (hk : Keeps s₀ s) :
    Keeps s₀ (commandOp s o m v sense) := by
  unfold commandOp
  dsimp only
  with_reducible repeat' (first | assumption | apply setCmd_keeps | apply aoApply_keeps | apply propDrive_keeps | apply vlvCommand_keeps | apply vlvCommandFree_keeps | apply fanOrIo_keeps | apply ite_keeps | apply ite_keeps_snd | apply ite_keeps_thd | split)

theorem onOne_keeps (v : Val) (s t : State) (hk : Keeps s₀ s) (hk1 : Keeps s₀ t) :
    Keeps s₀ (onOne v s t) := by
  unfold onOne
  with_reducible repeat' (first | assumption | apply ite_keeps)

theorem applyComm_keeps (s : State) (e : Env) (o m : Nat) (v : Val) (direct : Bool) (hk : Keeps s₀ s) :
    Keeps s₀ (applyComm s e o m v direct) := by
  unfold applyComm
  dsimp only
  with_reducible repeat' (first | assumption | apply askLevel_keeps | apply writeRw_keeps | apply imageKindOp_keeps | apply imageChunkOp_keeps | apply imageVerifyOp_keeps | apply imageJob_keeps | apply activateFirmware_keeps | apply fwConfirmOp_keeps | apply sleepOp_keeps | apply onOne_keeps | apply recoverOp_keeps | apply txFrameOp_keeps | apply txCancelOp_keeps | apply rxAckOp_keeps | apply ite_keeps | apply ite_keeps_snd | apply ite_keeps_thd | split)

theorem applyTime_keeps (s : State) (o m : Nat) (v : Val) (hk : Keeps s₀ s) :
    Keeps s₀ (applyTime s o m v) := by
  unfold applyTime
  dsimp only
  with_reducible repeat' (first | assumption | apply calStep_keeps | apply calSlewAdd_keeps | apply writeRw_keeps | apply circRefresh_keeps | apply onOne_keeps | apply learnReset_keeps | apply osLearnReset_keeps | apply armOp_keeps | apply statsReset_keeps | apply rcClear_keeps | apply writeProfile_keeps | apply ite_keeps)

theorem applyField_keeps (s : State) (o m : Nat) (v : Val) (sense : Option Nat) (hk : Keeps s₀ s) :
    Keeps s₀ (applyField s o m v sense) := by
  unfold applyField
  with_reducible repeat' (first | assumption | apply commandOp_keeps | apply onOne_keeps | apply fwdRearm_keeps | apply ioDiagClear_keeps | apply vlvDiagClear_keeps | apply loadCard_keeps | apply fanDiagClear_keeps | apply ledgerReset_keeps | apply dispWrite_keeps | apply dispWriteRow_keeps | apply ite_keeps)

theorem applyModule_keeps (s : State) (e : Env) (o m : Nat) (v : Val) (hk : Keeps s₀ s) :
    Keeps s₀ (applyModule s e o m v) := by
  unfold applyModule
  with_reducible repeat' (first | assumption | apply onOne_keeps | apply thermClear_keeps | apply safetyClear_keeps | apply restart_keeps | apply failModule_keeps | apply safetyLock_keeps | apply safetyPubkey_keeps | apply switchover_keeps | apply forceTakeover_keeps | apply snapFire_keeps | apply snapRelease_keeps | apply snapArmFrame_keeps | apply snapArm_keeps | apply modSess_keeps | apply startInvalidate_keeps | apply ite_keeps | apply ite_keeps_snd | apply ite_keeps_thd | split)

theorem applyRw_keeps (s : State) (e : Env) (o m : Nat) (v : Val) (sense : Option Nat) (direct : Bool) (hk : Keeps s₀ s) :
    Keeps s₀ (applyRw s e o m v sense direct) := by
  unfold applyRw
  with_reducible repeat' (first | assumption | apply applyComm_keeps | apply applyTime_keeps | apply applyField_keeps | apply applyModule_keeps | apply ite_keeps)

theorem pendWrite_keeps (s : State) (x : Sess) (k : Nat) (v : Val) (hk : Keeps s₀ s) :
    Keeps s₀ (pendWrite s x k v) := by
  unfold pendWrite
  dsimp only
  with_reducible repeat' (first | assumption | apply modSess_keeps)

theorem applyWrite_keeps (s : State) (e : Env) (o m : Nat) (data : List Byte) (sense : Option Nat) (direct : Bool) (hk : Keeps s₀ s) :
    Keeps s₀ (applyWrite s e o m data sense direct).2 := by
  unfold applyWrite
  dsimp only
  with_reducible repeat' (first | assumption | apply pendWrite_keeps | apply tryCode_keeps | apply tryResponse_keeps | apply applyRw_keeps | apply ite_keeps | apply ite_keeps_snd | apply ite_keeps_thd | split)

theorem writeOp_keeps (s : State) (e : Env) (o m : Nat) (data : List Byte) (sense : Option Nat) (direct : Bool) (hk : Keeps s₀ s) :
    Keeps s₀ (writeOp s e o m data sense direct).2 := by
  unfold writeOp
  dsimp only
  with_reducible repeat' (first | assumption | apply applyWrite_keeps | apply ite_keeps | apply ite_keeps_snd)

/-! ### Services -/

theorem readAct_keeps (s : State) (x : Sess) (o m : Nat) (d : MemDef) (hk : Keeps s₀ s) :
    Keeps s₀ (readAct s x o m d).2 := by
  unfold readAct
  dsimp only
  with_reducible repeat' (first | assumption | apply modSess_keeps | apply rxAckOp_keeps | apply drawChallenge_keeps | apply ite_keeps | apply ite_keeps_snd | apply ite_keeps_thd | split)

theorem readBytes_keeps (s : State) (x : Sess) (o m : Nat) (pend : Bool) (hk : Keeps s₀ s) :
    Keeps s₀ (readBytes s x o m pend).2 := by
  unfold readBytes
  with_reducible repeat' (first | assumption | apply readAct_keeps | apply ite_keeps | apply ite_keeps_snd | apply ite_keeps_thd | split)

theorem execRead_keeps (env : Env) (obj mem flags : Nat) (s : State) (hk : Keeps s₀ s) :
    Goes s₀ (execRead env obj mem flags s) := by
  unfold execRead
  dsimp only
  with_reducible repeat' (first | assumption | apply ite_keeps_thd | apply requestStatus_keeps | apply readBytes_keeps | apply ite_keeps | apply ite_keeps_snd | apply ite_keeps_out | apply keeps_next | (intro _ _; try dsimp only))

theorem requestWrite_keeps (s : State) (e : Env) (o m : Nat) (data : List Byte) (sense : Option Nat) (hk : Keeps s₀ s) :
    Keeps s₀ (requestWrite s e o m data sense) := by
  unfold requestWrite
  dsimp only
  with_reducible repeat' (first | assumption | apply ite_keeps_snd | apply request_keeps | apply applyWrite_keeps | apply ite_keeps | apply ite_keeps_thd | (intro _ _; try dsimp only))

theorem execWrite_keeps (env : Env) (obj mem : Nat) (data : List Byte) (s : State) (hk : Keeps s₀ s) :
    Goes s₀ (execWrite env obj mem data s) := by
  unfold execWrite
  with_reducible repeat' (first | assumption | apply requestWrite_keeps | apply keeps_next)

theorem setSeg_keeps (s : State) (x : Sess) (g : Option Segment) (hk : Keeps s₀ s) :
    Keeps s₀ (setSeg s x g) := by
  unfold setSeg
  with_reducible repeat' (first | assumption | apply modSess_keeps)

theorem segRead_keeps (s : State) (x : Sess) (l : List SegItem) (hk : Keeps s₀ s) : Keeps s₀ (segRead s x l).2.2 := by
  induction l generalizing s with
  | nil => exact hk
  | cons i t ih =>
    unfold segRead
    dsimp only
    with_reducible apply ite_keeps_thd
    · exact hk
    · exact ih _ (readBytes_keeps _ _ _ _ _ hk)

theorem execSegmentInitRead_keeps (env : Env) (count : Nat) (items : List SegItem) (s : State) (hk : Keeps s₀ s) :
    Goes s₀ (execSegmentInitRead env count items s) := by
  unfold execSegmentInitRead
  dsimp only
  with_reducible repeat' (first | assumption | apply ite_keeps_thd | apply requestStatus_keeps | apply setSeg_keeps | apply segRead_keeps | apply ite_keeps | apply ite_keeps_snd | apply ite_keeps_out | apply keeps_next | (intro _ _; try dsimp only))

theorem execSegmentInitWrite_keeps (env : Env) (count total : Nat) (items : List SegItem) (s : State) (hk : Keeps s₀ s) :
    Goes s₀ (execSegmentInitWrite env count total items s) := by
  unfold execSegmentInitWrite
  dsimp only
  with_reducible repeat' (first | assumption | apply ite_keeps_thd | apply requestStatus_keeps | apply setSeg_keeps | apply ite_keeps | apply ite_keeps_snd | apply ite_keeps_out | apply keeps_next | (intro _ _; try dsimp only))

theorem execSegmentData_keeps (env : Env) (offset count : Nat) (data : List Byte) (s : State) (hk : Keeps s₀ s) :
    Goes s₀ (execSegmentData env offset count data s) := by
  unfold execSegmentData
  with_reducible repeat' (first | assumption | apply ite_keeps_thd | apply requestStatus_keeps | apply setSeg_keeps | apply ite_keeps | apply ite_keeps_snd | apply ite_keeps_out | apply keeps_next | split | (intro _ _; try dsimp only))

theorem segApply_keeps (e : Env) (k : Nat) (l : List (Nat × Nat × List Byte)) (s : State) (hk : Keeps s₀ s) :
    Keeps s₀ (segApply e k l s).2 := by
  induction l generalizing k s with
  | nil => exact hk
  | cons i t ih =>
    have h := writeOp_keeps s e i.1 i.2.1 i.2.2 none false hk
    unfold segApply
    dsimp only
    with_reducible apply ite_keeps_snd
    · exact ih _ _ h
    · exact h

theorem segEndWrite_keeps (s : State) (e : Env) (g : Segment) (hk : Keeps s₀ s) :
    Keeps s₀ (segEndWrite s e g).2 := by
  unfold segEndWrite
  dsimp only
  with_reducible repeat' (first | assumption | apply segApply_keeps | apply writeOp_keeps | apply ite_keeps | apply ite_keeps_snd | apply ite_keeps_thd | split)

theorem execSegmentEnd_keeps (env : Env) (s : State) (hk : Keeps s₀ s) :
    Goes s₀ (execSegmentEnd env s) := by
  unfold execSegmentEnd
  dsimp only
  with_reducible repeat' (first | assumption | apply ite_keeps_snd | apply request_keeps | apply setSeg_keeps | apply segEndWrite_keeps | apply ite_keeps | apply ite_keeps_thd | apply ite_keeps_out | apply keeps_next | split | (intro _ _; try dsimp only))

theorem execSegmentCancel_keeps (env : Env) (s : State) (hk : Keeps s₀ s) :
    Goes s₀ (execSegmentCancel env s) := by
  unfold execSegmentCancel
  with_reducible repeat' (first | assumption | apply ite_keeps_thd | apply requestStatus_keeps | apply setSeg_keeps | apply ite_keeps | apply ite_keeps_snd | apply ite_keeps_out | apply keeps_next | (intro _ _; try dsimp only))

theorem execSegmentTimeout_keeps (sess : Sess) (s : State) (hk : Keeps s₀ s) :
    Goes s₀ (execSegmentTimeout sess s) := by
  unfold execSegmentTimeout
  with_reducible repeat' (first | assumption | apply setSeg_keeps | apply ite_keeps | apply ite_keeps_snd | apply ite_keeps_thd | apply ite_keeps_out | apply keeps_next | split)

theorem setShadow_keeps (s : State) (p : Nat) (v : Option (Nat × Nat)) (hk : Keeps s₀ s) :
    Keeps s₀ (setShadow s p v) := by
  unfold setShadow
  dsimp only
  with_reducible repeat' (first | assumption | (simp only [↓keeps_mk]; apply Keeps.parts))

theorem execBulkRead_keeps (env : Env) (count offset : Nat) (s : State) (hk : Keeps s₀ s) :
    Goes s₀ (execBulkRead env count offset s) := by
  unfold execBulkRead
  dsimp only
  with_reducible repeat' (first | assumption | apply ite_keeps_thd | apply requestStatus_keeps | apply setShadow_keeps | apply ite_keeps | apply ite_keeps_snd | apply ite_keeps_out | apply keeps_next | split | (intro _ _; try dsimp only))

theorem windowWrite_keeps (s : State) (off : Nat) (data : List Byte) (hk : Keeps s₀ s) :
    Keeps s₀ (windowWrite s off data) := by
  unfold windowWrite
  with_reducible repeat' (first | assumption | apply sramWrite_keeps | refine forAll_keeps _ _ _ (fun _ _ _ => ?_) ?_)

theorem execBulkWrite_keeps (env : Env) (count offset : Nat) (data : List Byte) (s : State) (hk : Keeps s₀ s) :
    Goes s₀ (execBulkWrite env count offset data s) := by
  unfold execBulkWrite
  dsimp only
  with_reducible repeat' (first | assumption | apply ite_keeps_thd | apply requestStatus_keeps | apply setShadow_keeps | apply windowWrite_keeps | apply ite_keeps | apply ite_keeps_snd | apply ite_keeps_out | apply keeps_next | (intro _ _; try dsimp only))

theorem eventsTake_keeps (s : State) (x : Sess) (n : Nat) (hk : Keeps s₀ s) : Keeps s₀ (eventsTake s x n) := by
  unfold eventsTake
  split
  · rw [keeps_mk]
    refine ⟨hk.pending, hk.clk, fun x => ?_⟩
    have k := hk.sound x
    refine ⟨k.sram, k.cards, k.ring, k.queue, ?_, k.nodeEvents⟩
    exact Nat.le_trans (by simp) k.hostEvents
  · with_reducible apply ite_keeps
    · rw [keeps_mk]
      refine ⟨hk.pending, hk.clk, fun x => ?_⟩
      have k := hk.sound x
      refine ⟨k.sram, k.cards, k.ring, k.queue, k.hostEvents, ?_⟩
      exact Nat.le_trans (by simp) k.nodeEvents
    · exact hk
  · exact hk

theorem execEvent_keeps (env : Env) (max_ : Nat) (s : State) (hk : Keeps s₀ s) :
    Goes s₀ (execEvent env max_ s) := by
  unfold execEvent
  dsimp only
  with_reducible repeat' (first | assumption | apply ite_keeps_thd | apply requestStatus_keeps | apply eventsTake_keeps | apply ite_keeps | apply ite_keeps_snd | apply ite_keeps_out | apply keeps_next | (intro _ _; try dsimp only))

theorem fetchFrame_keeps (s : State) (hk : Keeps s₀ s) :
    Keeps s₀ (fetchFrame s).2 := by
  unfold fetchFrame
  dsimp only
  with_reducible repeat' (first | assumption | apply takeFree_keeps | split)

theorem execFetch_keeps (frame : FrameCond) (clocked : Nat) (s : State) (hk : Keeps s₀ s) :
    Goes s₀ (execFetch frame clocked s) := by
  unfold execFetch
  dsimp only
  with_reducible repeat' (first | assumption | apply fetchFrame_keeps | apply ite_keeps | apply ite_keeps_snd | apply ite_keeps_thd | apply ite_keeps_out | apply keeps_next | (simp only [↓keeps_mk]; apply Keeps.parts) | split)

theorem execHostPortReset_keeps (s : State) (hk : Keeps s₀ s) : Goes s₀ (execHostPortReset s) := by
  unfold execHostPortReset
  refine keeps_next (modSess_keeps _ _ _ (dropPending_keeps _ _ ?_))
  rw [keeps_mk]
  refine ⟨hk.pending, hk.clk, fun x => ?_⟩
  have k := hk.sound x
  exact ⟨k.sram, k.cards, k.ring, k.queue, Nat.zero_le _, k.nodeEvents⟩

theorem execPendingTimeout_keeps (sess : Sess) (s : State) (hk : Keeps s₀ s) :
    Goes s₀ (execPendingTimeout sess s) := by
  unfold execPendingTimeout
  with_reducible repeat' (first | assumption | apply dropPending_keeps | apply ite_keeps | apply ite_keeps_snd | apply ite_keeps_thd | apply ite_keeps_out | apply keeps_next)

theorem execAccessTimeout_keeps (sess : Sess) (s : State) (hk : Keeps s₀ s) :
    Goes s₀ (execAccessTimeout sess s) := by
  unfold execAccessTimeout
  with_reducible repeat' (first | assumption | apply modSess_keeps | apply ite_keeps | apply ite_keeps_snd | apply ite_keeps_thd | apply ite_keeps_out | apply keeps_next)

theorem execCodeLockoutEnd_keeps (sess : Sess) (s : State) (hk : Keeps s₀ s) :
    Goes s₀ (execCodeLockoutEnd sess s) := by
  unfold execCodeLockoutEnd
  with_reducible repeat' (first | assumption | apply modSess_keeps | apply ite_keeps | apply ite_keeps_snd | apply ite_keeps_thd | apply ite_keeps_out | apply keeps_next | split)

theorem heartbeatSend_keeps (s : State) (hk : Keeps s₀ s) :
    Keeps s₀ (heartbeatSend s) := by
  unfold heartbeatSend
  with_reducible repeat' (first | assumption | apply canQueueHeartbeat_keeps | apply ite_keeps | apply ite_keeps_snd | apply ite_keeps_thd | refine forAll_keeps _ _ _ (fun _ _ _ => ?_) ?_)

theorem execHeartbeat_keeps (s : State) (hk : Keeps s₀ s) :
    Goes s₀ (execHeartbeat s) := by
  unfold execHeartbeat
  dsimp only
  with_reducible repeat' (first | assumption | apply heartbeatSend_keeps | apply ite_keeps | apply ite_keeps_snd | apply ite_keeps_thd | apply ite_keeps_out | apply keeps_next | (simp only [↓keeps_mk]; apply Keeps.parts) | split)

/-! ### Commands -/

theorem execAccessRequest_keeps (env : Env) (data : List Byte) (s : State) (hk : Keeps s₀ s) :
    Goes s₀ (execAccessRequest env data s) := by
  unfold execAccessRequest
  with_reducible repeat' (first | assumption | apply requestWrite_keeps | apply keeps_next)

theorem execAccessCode_keeps (env : Env) (data : List Byte) (s : State) (hk : Keeps s₀ s) :
    Goes s₀ (execAccessCode env data s) := by
  unfold execAccessCode
  with_reducible repeat' (first | assumption | apply requestWrite_keeps | apply keeps_next)

theorem execImageKind_keeps (env : Env) (data : List Byte) (s : State) (hk : Keeps s₀ s) :
    Goes s₀ (execImageKind env data s) := by
  unfold execImageKind
  with_reducible repeat' (first | assumption | apply requestWrite_keeps | apply keeps_next)

theorem execImageChunk_keeps (env : Env) (data : List Byte) (s : State) (hk : Keeps s₀ s) :
    Goes s₀ (execImageChunk env data s) := by
  unfold execImageChunk
  with_reducible repeat' (first | assumption | apply requestWrite_keeps | apply keeps_next)

theorem execImageVerify_keeps (env : Env) (data : List Byte) (s : State) (hk : Keeps s₀ s) :
    Goes s₀ (execImageVerify env data s) := by
  unfold execImageVerify
  with_reducible repeat' (first | assumption | apply requestWrite_keeps | apply keeps_next)

theorem execImageActivate_keeps (env : Env) (data : List Byte) (s : State) (hk : Keeps s₀ s) :
    Goes s₀ (execImageActivate env data s) := by
  unfold execImageActivate
  with_reducible repeat' (first | assumption | apply requestWrite_keeps | apply keeps_next)

theorem execFwConfirm_keeps (env : Env) (data : List Byte) (s : State) (hk : Keeps s₀ s) :
    Goes s₀ (execFwConfirm env data s) := by
  unfold execFwConfirm
  with_reducible repeat' (first | assumption | apply requestWrite_keeps | apply keeps_next)

theorem execCalNow_keeps (env : Env) (data : List Byte) (s : State) (hk : Keeps s₀ s) :
    Goes s₀ (execCalNow env data s) := by
  unfold execCalNow
  with_reducible repeat' (first | assumption | apply requestWrite_keeps | apply keeps_next)

theorem execCalSlew_keeps (env : Env) (data : List Byte) (s : State) (hk : Keeps s₀ s) :
    Goes s₀ (execCalSlew env data s) := by
  unfold execCalSlew
  with_reducible repeat' (first | assumption | apply requestWrite_keeps | apply keeps_next)

theorem execLearnReset_keeps (env : Env) (c : Nat) (data : List Byte) (s : State) (hk : Keeps s₀ s) :
    Goes s₀ (execLearnReset env c data s) := by
  unfold execLearnReset
  with_reducible repeat' (first | assumption | apply requestWrite_keeps | apply keeps_next)

theorem execOverride_keeps (env : Env) (c : Nat) (data : List Byte) (s : State) (hk : Keeps s₀ s) :
    Goes s₀ (execOverride env c data s) := by
  unfold execOverride
  with_reducible repeat' (first | assumption | apply requestWrite_keeps | apply keeps_next)

theorem execArm_keeps (env : Env) (e : Nat) (data : List Byte) (s : State) (hk : Keeps s₀ s) :
    Goes s₀ (execArm env e data s) := by
  unfold execArm
  with_reducible repeat' (first | assumption | apply requestWrite_keeps | apply keeps_next)

theorem execStatsReset_keeps (env : Env) (n : Nat) (data : List Byte) (s : State) (hk : Keeps s₀ s) :
    Goes s₀ (execStatsReset env n data s) := by
  unfold execStatsReset
  with_reducible repeat' (first | assumption | apply requestWrite_keeps | apply keeps_next)

theorem execMode_keeps (env : Env) (n : Nat) (data : List Byte) (s : State) (hk : Keeps s₀ s) :
    Goes s₀ (execMode env n data s) := by
  unfold execMode
  with_reducible repeat' (first | assumption | apply requestWrite_keeps | apply keeps_next)

theorem execManOut_keeps (env : Env) (n : Nat) (data : List Byte) (s : State) (hk : Keeps s₀ s) :
    Goes s₀ (execManOut env n data s) := by
  unfold execManOut
  with_reducible repeat' (first | assumption | apply requestWrite_keeps | apply keeps_next)

theorem execRcClear_keeps (env : Env) (n : Nat) (data : List Byte) (s : State) (hk : Keeps s₀ s) :
    Goes s₀ (execRcClear env n data s) := by
  unfold execRcClear
  with_reducible repeat' (first | assumption | apply requestWrite_keeps | apply keeps_next)

theorem execProfile_keeps (env : Env) (n : Nat) (data : List Byte) (s : State) (hk : Keeps s₀ s) :
    Goes s₀ (execProfile env n data s) := by
  unfold execProfile
  with_reducible repeat' (first | assumption | apply requestWrite_keeps | apply keeps_next)

theorem execOsLearnReset_keeps (env : Env) (z : Nat) (data : List Byte) (s : State) (hk : Keeps s₀ s) :
    Goes s₀ (execOsLearnReset env z data s) := by
  unfold execOsLearnReset
  with_reducible repeat' (first | assumption | apply requestWrite_keeps | apply keeps_next)

theorem execAoCmd_keeps (env : Env) (a : Nat) (data : List Byte) (s : State) (hk : Keeps s₀ s) :
    Goes s₀ (execAoCmd env a data s) := by
  unfold execAoCmd
  with_reducible repeat' (first | assumption | apply requestWrite_keeps | apply keeps_next)

theorem execPropCmd_keeps (env : Env) (v : Nat) (data : List Byte) (s : State) (hk : Keeps s₀ s) :
    Goes s₀ (execPropCmd env v data s) := by
  unfold execPropCmd
  with_reducible repeat' (first | assumption | apply requestWrite_keeps | apply keeps_next)

theorem execVlvDiagClear_keeps (env : Env) (v : Nat) (data : List Byte) (s : State) (hk : Keeps s₀ s) :
    Goes s₀ (execVlvDiagClear env v data s) := by
  unfold execVlvDiagClear
  with_reducible repeat' (first | assumption | apply requestWrite_keeps | apply keeps_next)

theorem execIoCmd_keeps (env : Env) (i : Nat) (data : List Byte) (s : State) (hk : Keeps s₀ s) :
    Goes s₀ (execIoCmd env i data s) := by
  unfold execIoCmd
  with_reducible repeat' (first | assumption | apply requestWrite_keeps | apply keeps_next)

theorem execIoDiagClear_keeps (env : Env) (i : Nat) (data : List Byte) (s : State) (hk : Keeps s₀ s) :
    Goes s₀ (execIoDiagClear env i data s) := by
  unfold execIoDiagClear
  with_reducible repeat' (first | assumption | apply requestWrite_keeps | apply keeps_next)

theorem execFwdRearm_keeps (env : Env) (data : List Byte) (s : State) (hk : Keeps s₀ s) :
    Goes s₀ (execFwdRearm env data s) := by
  unfold execFwdRearm
  with_reducible repeat' (first | assumption | apply requestWrite_keeps | apply keeps_next)

theorem execFanCmd_keeps (env : Env) (f : Nat) (data : List Byte) (s : State) (hk : Keeps s₀ s) :
    Goes s₀ (execFanCmd env f data s) := by
  unfold execFanCmd
  with_reducible repeat' (first | assumption | apply requestWrite_keeps | apply keeps_next)

theorem execFanDiagClear_keeps (env : Env) (f : Nat) (data : List Byte) (s : State) (hk : Keeps s₀ s) :
    Goes s₀ (execFanDiagClear env f data s) := by
  unfold execFanDiagClear
  with_reducible repeat' (first | assumption | apply requestWrite_keeps | apply keeps_next)

theorem execImage_keeps (env : Env) (data : List Byte) (s : State) (hk : Keeps s₀ s) :
    Goes s₀ (execImage env data s) := by
  unfold execImage
  with_reducible repeat' (first | assumption | apply requestWrite_keeps | apply keeps_next)

theorem execRow_keeps (env : Env) (r : Nat) (data : List Byte) (s : State) (hk : Keeps s₀ s) :
    Goes s₀ (execRow env r data s) := by
  unfold execRow
  with_reducible repeat' (first | assumption | apply requestWrite_keeps | apply keeps_next)

theorem execLedgerReset_keeps (env : Env) (data : List Byte) (s : State) (hk : Keeps s₀ s) :
    Goes s₀ (execLedgerReset env data s) := by
  unfold execLedgerReset
  with_reducible repeat' (first | assumption | apply requestWrite_keeps | apply keeps_next)

theorem execInvalidate_keeps (env : Env) (data : List Byte) (s : State) (hk : Keeps s₀ s) :
    Goes s₀ (execInvalidate env data s) := by
  unfold execInvalidate
  with_reducible repeat' (first | assumption | apply requestWrite_keeps | apply keeps_next)

theorem execThermClear_keeps (env : Env) (data : List Byte) (s : State) (hk : Keeps s₀ s) :
    Goes s₀ (execThermClear env data s) := by
  unfold execThermClear
  with_reducible repeat' (first | assumption | apply requestWrite_keeps | apply keeps_next)

theorem execSafetyClear_keeps (env : Env) (data : List Byte) (s : State) (hk : Keeps s₀ s) :
    Goes s₀ (execSafetyClear env data s) := by
  unfold execSafetyClear
  with_reducible repeat' (first | assumption | apply requestWrite_keeps | apply keeps_next)

theorem execSafetyReset_keeps (env : Env) (data : List Byte) (s : State) (hk : Keeps s₀ s) :
    Goes s₀ (execSafetyReset env data s) := by
  unfold execSafetyReset
  with_reducible repeat' (first | assumption | apply requestWrite_keeps | apply keeps_next)

theorem execSafetyTest_keeps (env : Env) (data : List Byte) (s : State) (hk : Keeps s₀ s) :
    Goes s₀ (execSafetyTest env data s) := by
  unfold execSafetyTest
  with_reducible repeat' (first | assumption | apply requestWrite_keeps | apply keeps_next)

theorem execSafetyLock_keeps (env : Env) (data : List Byte) (s : State) (hk : Keeps s₀ s) :
    Goes s₀ (execSafetyLock env data s) := by
  unfold execSafetyLock
  with_reducible repeat' (first | assumption | apply requestWrite_keeps | apply keeps_next)

theorem execSafetyPubkey_keeps (env : Env) (data : List Byte) (s : State) (hk : Keeps s₀ s) :
    Goes s₀ (execSafetyPubkey env data s) := by
  unfold execSafetyPubkey
  with_reducible repeat' (first | assumption | apply requestWrite_keeps | apply keeps_next)

theorem execSafetyResponse_keeps (env : Env) (data : List Byte) (s : State) (hk : Keeps s₀ s) :
    Goes s₀ (execSafetyResponse env data s) := by
  unfold execSafetyResponse
  with_reducible repeat' (first | assumption | apply requestWrite_keeps | apply keeps_next)

theorem execSwitchover_keeps (env : Env) (data : List Byte) (s : State) (hk : Keeps s₀ s) :
    Goes s₀ (execSwitchover env data s) := by
  unfold execSwitchover
  with_reducible repeat' (first | assumption | apply requestWrite_keeps | apply keeps_next)

theorem execForceTakeover_keeps (env : Env) (data : List Byte) (s : State) (hk : Keeps s₀ s) :
    Goes s₀ (execForceTakeover env data s) := by
  unfold execForceTakeover
  with_reducible repeat' (first | assumption | apply requestWrite_keeps | apply keeps_next)

theorem execTxFrame_keeps (env : Env) (x : Nat) (data : List Byte) (s : State) (hk : Keeps s₀ s) :
    Goes s₀ (execTxFrame env x data s) := by
  unfold execTxFrame
  with_reducible repeat' (first | assumption | apply requestWrite_keeps | apply keeps_next)

theorem execTxCancel_keeps (env : Env) (x : Nat) (data : List Byte) (s : State) (hk : Keeps s₀ s) :
    Goes s₀ (execTxCancel env x data s) := by
  unfold execTxCancel
  with_reducible repeat' (first | assumption | apply requestWrite_keeps | apply keeps_next)

theorem execRxAck_keeps (env : Env) (x o : Nat) (data : List Byte) (s : State) (hk : Keeps s₀ s) :
    Goes s₀ (execRxAck env x o data s) := by
  unfold execRxAck
  with_reducible repeat' (first | assumption | apply requestWrite_keeps | apply keeps_next)

theorem execRecover_keeps (env : Env) (x : Nat) (data : List Byte) (s : State) (hk : Keeps s₀ s) :
    Goes s₀ (execRecover env x data s) := by
  unfold execRecover
  with_reducible repeat' (first | assumption | apply requestWrite_keeps | apply keeps_next)

theorem execSleepReq_keeps (env : Env) (x : Nat) (data : List Byte) (s : State) (hk : Keeps s₀ s) :
    Goes s₀ (execSleepReq env x data s) := by
  unfold execSleepReq
  with_reducible repeat' (first | assumption | apply requestWrite_keeps | apply keeps_next)

theorem execSnapTrigger_keeps (env : Env) (data : List Byte) (s : State) (hk : Keeps s₀ s) :
    Goes s₀ (execSnapTrigger env data s) := by
  unfold execSnapTrigger
  with_reducible repeat' (first | assumption | apply requestWrite_keeps | apply keeps_next)

theorem execArmAt_keeps (env : Env) (slot : Nat) (data : List Byte) (s : State) (hk : Keeps s₀ s) :
    Goes s₀ (execArmAt env slot data s) := by
  unfold execArmAt
  with_reducible repeat' (first | assumption | apply requestWrite_keeps | apply keeps_next)

theorem execSnapRelease_keeps (env : Env) (slot : Nat) (data : List Byte) (s : State) (hk : Keeps s₀ s) :
    Goes s₀ (execSnapRelease env slot data s) := by
  unfold execSnapRelease
  with_reducible repeat' (first | assumption | apply requestWrite_keeps | apply keeps_next)

theorem execVlvCmd_keeps (env : Env) (v : Nat) (data : List Byte) (sense : Nat) (s : State) (hk : Keeps s₀ s) :
    Goes s₀ (execVlvCmd env v data sense s) := by
  unfold execVlvCmd
  with_reducible repeat' (first | assumption | apply requestWrite_keeps | apply keeps_next)

theorem execCardImage_keeps (env : Env) (j : Nat) (data : List Byte) (s : State) (hk : Keeps s₀ s) :
    Goes s₀ (execCardImage env j data s) := by
  unfold execCardImage
  with_reducible repeat' (first | assumption | apply loadCard_keeps | apply requestWrite_keeps | apply ite_keeps | apply ite_keeps_snd | apply ite_keeps_thd | apply ite_keeps_out | apply keeps_next)

theorem execSafetyChallenge_keeps (env : Env) (s : State) (hk : Keeps s₀ s) :
    Goes s₀ (execSafetyChallenge env s) := by
  unfold execSafetyChallenge
  with_reducible repeat' (first | assumption | apply execRead_keeps)

theorem execRecord_keeps (env : Env) (x o : Nat) (s : State) (hk : Keeps s₀ s) :
    Goes s₀ (execRecord env x o s) := by
  unfold execRecord
  with_reducible repeat' (first | assumption | apply execRead_keeps)

theorem execLogRecord_keeps (env : Env) (s : State) (hk : Keeps s₀ s) :
    Goes s₀ (execLogRecord env s) := by
  unfold execLogRecord
  with_reducible repeat' (first | assumption | apply execRead_keeps)

/-! ### CanReceive -/

theorem outState_keeps (s : State) (o : Out) (ho : Goes s₀ o) : Keeps s₀ (outState s o) := by
  obtain ⟨t, rfl, h⟩ := ho
  exact h

theorem canSegment_keeps (s : State) (e : Env) (p : List Byte) (hk : Keeps s₀ s) :
    Goes s₀ (canSegment s e p) := by
  unfold canSegment
  dsimp only
  with_reducible repeat' (first | assumption | apply execSegmentInitRead_keeps | apply execSegmentInitWrite_keeps | apply execSegmentData_keeps | apply execSegmentEnd_keeps | apply execSegmentCancel_keeps | apply keeps_next | split)

theorem canRequest_keeps (s : State) (e : Env) (svc : Nat) (p : List Byte) (hk : Keeps s₀ s) :
    Goes s₀ (canRequest s e svc p) := by
  unfold canRequest
  dsimp only
  with_reducible repeat' (first | assumption | apply execRead_keeps | apply execWrite_keeps | apply execCommit_keeps | apply execAbort_keeps | apply canSegment_keeps | apply execBulkRead_keeps | apply execBulkWrite_keeps | apply execEvent_keeps | apply ite_keeps | apply ite_keeps_snd | apply ite_keeps_thd | apply ite_keeps_out | apply keeps_next | split)

theorem canHeartbeat_keeps (s : State) (source : Nat) (p : List Byte) (hk : Keeps s₀ s) :
    Keeps s₀ (canHeartbeat s source p) := by
  unfold canHeartbeat
  dsimp only
  with_reducible repeat' (first | assumption | apply managerHeard_keeps | apply peerHeartbeat_keeps | apply ite_keeps)

theorem canServices_keeps (s : State) (x : Nat) (f : CanFrame) (hk : Keeps s₀ s) :
    Keeps s₀ (canServices s x f) := by
  unfold canServices
  dsimp only
  with_reducible repeat' (first | assumption | apply trigFrame_keeps | apply canHeartbeat_keeps | apply outState_keeps | apply canRequest_keeps | apply ite_keeps)

theorem execCanFrameReceived_keeps (x : Nat) (frame : RxFrame) (s : State) (hk : Keeps s₀ s) :
    Goes s₀ (execCanFrameReceived x frame s) := by
  unfold execCanFrameReceived
  dsimp only
  with_reducible repeat' (first | assumption | apply canServices_keeps | apply canReceived_keeps | apply canFrameEnd_keeps | apply rxOffer_keeps | apply ite_keeps | apply ite_keeps_snd | apply ite_keeps_thd | apply ite_keeps_out | apply keeps_next)

/-! ### LoomEvents -/

theorem placeDue_keeps (s : State) (from_ : Nat) (hk : Keeps s₀ s) :
    Keeps s₀ (placeDue s from_) := by
  unfold placeDue
  with_reducible repeat' (first | assumption | apply circPlace_keeps | apply ite_keeps | apply ite_keeps_snd | apply ite_keeps_thd | refine forAll_keeps _ _ _ (fun _ _ _ => ?_) ?_ | split)

theorem unplaceCycle_keeps (s : State) (n : Nat) (hk : Keeps s₀ s) :
    Keeps s₀ (unplaceCycle s n) := by
  unfold unplaceCycle
  dsimp only
  with_reducible repeat' (first | assumption | apply modCirc_keeps | refine forAll_keeps _ _ _ (fun _ _ _ => ?_) ?_ | (simp only [↓keeps_mk]; apply Keeps.parts) | split)

theorem moveOver_keeps (from_ : Nat) (s : State) (a : ArmedCmd) (hk : Keeps s₀ s) :
    Keeps s₀ (moveOver from_ s a) := by
  unfold moveOver
  dsimp only
  with_reducible repeat' (first | assumption | apply modCirc_keeps | apply circPlace_keeps | apply modEvent_keeps | (simp only [↓keeps_mk]; apply Keeps.parts) | split)

theorem sealUser_keeps (s : State) (a : ArmedCmd) (hk : Keeps s₀ s) :
    Keeps s₀ (sealUser s a) := by
  unfold sealUser
  with_reducible repeat' (first | assumption | apply modEvent_keeps | split)

theorem sealSet_keeps (s : State) (n : Nat) (hk : Keeps s₀ s) :
    Keeps s₀ (sealSet s n) := by
  unfold sealSet
  dsimp only
  with_reducible repeat' (first | assumption | apply placeDue_keeps | apply moveOver_keeps | apply sealUser_keeps | refine forAll_keeps _ _ _ (fun _ _ _ => ?_) ?_ | (simp only [↓keeps_mk]; apply Keeps.parts))

theorem sealNone_keeps (s : State) (n : Nat) (hk : Keeps s₀ s) :
    Keeps s₀ (sealNone s n) := by
  unfold sealNone
  dsimp only
  with_reducible repeat' (first | assumption | apply placeDue_keeps | apply unplaceCycle_keeps | (simp only [↓keeps_mk]; apply Keeps.parts))

theorem execArmedSetSeal_keeps (s : State) (hk : Keeps s₀ s) :
    Goes s₀ (execArmedSetSeal s) := by
  unfold execArmedSetSeal
  dsimp only
  with_reducible repeat' (first | assumption | apply sealNone_keeps | apply sealSet_keeps | apply ite_keeps | apply ite_keeps_snd | apply ite_keeps_thd | apply ite_keeps_out | apply keeps_next)

theorem eventEnd_keeps (s : State) (e : Nat) (late : Bool) (hk : Keeps s₀ s) :
    Keeps s₀ (eventEnd s e late) := by
  unfold eventEnd
  with_reducible repeat' (first | assumption | apply modEvent_keeps)

theorem ownWrite_keeps (s : State) (x : Sess) (target : Nat) (v : Int) (hk : Keeps s₀ s) :
    Keeps s₀ (ownWrite s x target v).2 := by
  unfold ownWrite
  dsimp only
  with_reducible repeat' (first | assumption | apply writeOp_keeps | apply ite_keeps | apply ite_keeps_snd | apply ite_keeps_thd | split)

theorem logOwnFail_keeps (s : State) (number code target : Nat) (hk : Keeps s₀ s) :
    Keeps s₀ (logOwnFail s number code target) := by
  unfold logOwnFail
  with_reducible repeat' (first | assumption | apply logEvent_keeps | apply ite_keeps)

theorem eventAct_keeps (s : State) (e : Nat) (late : Bool) (hk : Keeps s₀ s) :
    Keeps s₀ (eventAct s e late) := by
  unfold eventAct
  dsimp only
  with_reducible repeat' (first | assumption | apply eventEnd_keeps | apply snapFire_keeps | apply ownWrite_keeps | apply logOwnFail_keeps | apply ite_keeps)

theorem eventCalendar_keeps (s : State) (e : Nat) (hk : Keeps s₀ s) :
    Keeps s₀ (eventCalendar s e) := by
  unfold eventCalendar
  dsimp only
  with_reducible repeat' (first | assumption | apply modEvent_keeps | apply eventAct_keeps | apply ite_keeps)

theorem execUserEventAct_keeps (e : Nat) (s : State) (hk : Keeps s₀ s) :
    Goes s₀ (execUserEventAct e s) := by
  unfold execUserEventAct
  dsimp only
  with_reducible repeat' (first | assumption | apply eventAct_keeps | apply eventCalendar_keeps | apply ite_keeps | apply ite_keeps_snd | apply ite_keeps_thd | apply ite_keeps_out | apply keeps_next)

theorem userAct_keeps (s : State) (e : Nat) (a : ArmedCmd) (hk : Keeps s₀ s) :
    Keeps s₀ (userAct s e a) := by
  unfold userAct
  dsimp only
  with_reducible repeat' (first | assumption | apply eventEnd_keeps | apply loomDrive_keeps | apply modCirc_keeps | apply ite_keeps | apply ite_keeps_snd | apply ite_keeps_thd | split)

theorem circCmd_keeps (s : State) (c : Nat) (close : Bool) (a : ArmedCmd) (hk : Keeps s₀ s) :
    Keeps s₀ (circCmd s c close a) := by
  unfold circCmd
  with_reducible repeat' (first | assumption | apply circAct_keeps | apply modCirc_keeps | apply ite_keeps)

theorem execArmedCommand_keeps (s : State) (hk : Keeps s₀ s) :
    Goes s₀ (execArmedCommand s) := by
  unfold execArmedCommand
  dsimp only
  with_reducible repeat' (first | assumption | apply circCmd_keeps | apply userAct_keeps | apply ite_keeps | apply ite_keeps_snd | apply ite_keeps_thd | apply ite_keeps_out | apply keeps_next | (simp only [↓keeps_mk]; apply Keeps.parts) | split)

theorem execCalendarEventDue_keeps (ev : CalEvent) (s : State) (hk : Keeps s₀ s) :
    Goes s₀ (execCalendarEventDue ev s) := by
  unfold execCalendarEventDue
  dsimp only
  with_reducible repeat' (first | assumption | apply circSchedule_keeps | apply eventCalendar_keeps | apply ite_keeps | apply ite_keeps_snd | apply ite_keeps_thd | apply ite_keeps_out | apply keeps_next | split)

theorem execTransitionTimeout_keeps (c : Nat) (s : State) (hk : Keeps s₀ s) :
    Goes s₀ (execTransitionTimeout c s) := by
  unfold execTransitionTimeout
  with_reducible repeat' (first | assumption | apply closureFound_keeps | apply transEnd_keeps | apply modCirc_keeps | apply ite_keeps | apply ite_keeps_snd | apply ite_keeps_thd | apply ite_keeps_out | apply keeps_next | split)

theorem execMinOnOffExpiry_keeps (c : Nat) (s : State) (hk : Keeps s₀ s) :
    Goes s₀ (execMinOnOffExpiry c s) := by
  unfold execMinOnOffExpiry
  dsimp only
  with_reducible repeat' (first | assumption | apply circDirect_keeps | apply modCirc_keeps | apply ite_keeps | apply ite_keeps_snd | apply ite_keeps_thd | apply ite_keeps_out | apply keeps_next)

theorem learnedWritten_keeps (s : State) (k : Nat) (hk : Keeps s₀ s) :
    Keeps s₀ (learnedWritten s k) := by
  unfold learnedWritten
  with_reducible repeat' (first | assumption | apply mramWritten_keeps)

theorem storeCircs_keeps (s : State) (hk : Keeps s₀ s) :
    Keeps s₀ (storeCircs s) := by
  unfold storeCircs
  dsimp only
  with_reducible repeat' (first | assumption | apply modCirc_keeps | apply learnedWritten_keeps | refine forAll_keeps _ _ _ (fun _ _ _ => ?_) ?_ | (simp only [↓keeps_mk]; apply Keeps.parts) | split)

theorem storeValves_keeps (s : State) (hk : Keeps s₀ s) :
    Keeps s₀ (storeValves s) := by
  unfold storeValves
  dsimp only
  with_reducible repeat' (first | assumption | apply modVlv_keeps | apply learnedWritten_keeps | apply ite_keeps | apply ite_keeps_snd | apply ite_keeps_thd | refine forAll_keeps _ _ _ (fun _ _ _ => ?_) ?_ | (simp only [↓keeps_mk]; apply Keeps.parts))

theorem storeZones_keeps (s : State) (hk : Keeps s₀ s) :
    Keeps s₀ (storeZones s) := by
  unfold storeZones
  dsimp only
  with_reducible repeat' (first | assumption | apply modZone_keeps | apply learnedWritten_keeps | apply ite_keeps | apply ite_keeps_snd | apply ite_keeps_thd | refine forAll_keeps _ _ _ (fun _ _ _ => ?_) ?_ | (simp only [↓keeps_mk]; apply Keeps.parts))

theorem execLearnedPersist_keeps (s : State) (hk : Keeps s₀ s) :
    Goes s₀ (execLearnedPersist s) := by
  unfold execLearnedPersist
  with_reducible repeat' (first | assumption | apply storeZones_keeps | apply storeValves_keeps | apply storeCircs_keeps | apply keeps_next)

theorem ruleAct_keeps (s : State) (r : Nat) (hk : Keeps s₀ s) :
    Keeps s₀ (ruleAct s r) := by
  unfold ruleAct
  dsimp only
  with_reducible repeat' (first | assumption | apply modRule_keeps | apply ownWrite_keeps | apply logOwnFail_keeps | apply writeOp_keeps | apply snapFire_keeps | split)

theorem ruleEval_keeps (s : State) (r : Nat) (hk : Keeps s₀ s) :
    Keeps s₀ (ruleEval s r) := by
  unfold ruleEval
  dsimp only
  with_reducible repeat' (first | assumption | apply modRule_keeps | apply ruleAct_keeps | apply ite_keeps)

theorem rulesStart_keeps (s : State) (hk : Keeps s₀ s) :
    Keeps s₀ (rulesStart s) := by
  unfold rulesStart
  dsimp only
  with_reducible repeat' (first | assumption | apply syncDone_keeps | apply takeObj_keeps | apply modRule_keeps | apply ite_keeps | apply ite_keeps_snd | apply ite_keeps_thd | refine forAll_keeps _ _ _ (fun _ _ _ => ?_) ?_ | (simp only [↓keeps_mk]; apply Keeps.parts))

theorem zoneAlarm_keeps (s : State) (z : Nat) (hk : Keeps s₀ s) :
    Keeps s₀ (zoneAlarm s z) := by
  unfold zoneAlarm
  with_reducible repeat' (first | assumption | apply raiseAlarm_keeps | apply dropAlarm_keeps | apply ite_keeps)

theorem zonePre_keeps (s : State) (z old new_ : Nat) (hk : Keeps s₀ s) :
    Keeps s₀ (zonePre s z old new_) := by
  unfold zonePre
  dsimp only
  with_reducible repeat' (first | assumption | apply modZone_keeps | apply ite_keeps)

theorem zoneDecide_keeps (s : State) (z : Nat) (hk : Keeps s₀ s) :
    Keeps s₀ (zoneDecide s z) := by
  unfold zoneDecide
  dsimp only
  with_reducible repeat' (first | assumption | apply zoneAlarm_keeps | apply modZone_keeps | apply zonePre_keeps | apply modLoop_keeps | apply sendMirror_keeps | apply ite_keeps)

theorem ruleRound_keeps (s : State) (hk : Keeps s₀ s) :
    Keeps s₀ (ruleRound s) := by
  unfold ruleRound
  dsimp only
  with_reducible repeat' (first | assumption | apply rulesStart_keeps | apply ruleEval_keeps | apply zoneDecide_keeps | apply ite_keeps | apply ite_keeps_snd | apply ite_keeps_thd | refine forAll_keeps _ _ _ (fun _ _ _ => ?_) ?_)

theorem execRuleRound_keeps (overran : Bool) (s : State) (hk : Keeps s₀ s) :
    Goes s₀ (execRuleRound overran s) := by
  unfold execRuleRound
  dsimp only
  with_reducible repeat' (first | assumption | apply ruleRound_keeps | apply ite_keeps | apply ite_keeps_snd | apply ite_keeps_thd | apply ite_keeps_out | apply keeps_next | (simp only [↓keeps_mk]; apply Keeps.parts))

end Sys2Proof.Machine
end

