-- ==== Sys2Proof/Laws/KeepsPower.lean ====
section
/-! SUPPORT. Each operation keeps the queue of commands, the engine clock and a sound machine: the Warp cycle, the configuration and the power. -/

namespace Sys2Proof.Machine

variable {s₀ : State}

/-! ### WarpCycle -/

theorem logWarp_keeps (s : State) (old new_ : WarpState) (hk : Keeps s₀ s) :
    Keeps s₀ (logWarp s old new_) := by
  unfold logWarp
  with_reducible repeat' (first | assumption | apply logEvent_keeps)

theorem warpEnter_keeps (s : State) (hk : Keeps s₀ s) :
    Keeps s₀ (warpEnter s) := by
  unfold warpEnter
  dsimp only
  with_reducible repeat' (first | assumption | apply logWarp_keeps | apply taintTransitions_keeps | apply ite_keeps | apply ite_keeps_snd | apply ite_keeps_thd | (simp only [↓keeps_mk]; apply Keeps.parts) | split)

theorem warpCount_keeps (s : State) (hk : Keeps s₀ s) :
    Keeps s₀ (warpCount s) := by
  unfold warpCount
  dsimp only
  with_reducible repeat' (first | assumption | apply ite_keeps | apply ite_keeps_snd | apply ite_keeps_thd | (simp only [↓keeps_mk]; apply Keeps.parts))

theorem warpSync_keeps (s : State) (hk : Keeps s₀ s) :
    Keeps s₀ (warpSync s) := by
  unfold warpSync
  dsimp only
  with_reducible repeat' (first | assumption | apply syncDone_keeps | apply takeObj_keeps | apply ite_keeps | apply ite_keeps_snd | apply ite_keeps_thd | (simp only [↓keeps_mk]; apply Keeps.parts))

theorem warpRealign_keeps (s : State) (hk : Keeps s₀ s) :
    Keeps s₀ (warpRealign s).2 := by
  unfold warpRealign
  dsimp only
  with_reducible repeat' (first | assumption | apply taintTransitions_keeps | apply ite_keeps | apply ite_keeps_snd | apply ite_keeps_thd | (simp only [↓keeps_mk]; apply Keeps.parts))

theorem warpLength_keeps (s : State) (hk : Keeps s₀ s) :
    Keeps s₀ (warpLength s) := by
  unfold warpLength
  dsimp only
  with_reducible repeat' (first | assumption | apply warpRealign_keeps | apply ite_keeps | apply ite_keeps_snd | apply ite_keeps_thd | (simp only [↓keeps_mk]; apply Keeps.parts))

theorem warpShift_keeps (s : State) (d : Nat) (hk : Keeps s₀ s) :
    Keeps s₀ (warpShift s d) := by
  unfold warpShift
  dsimp only
  with_reducible repeat' (first | assumption | apply modCirc_keeps | apply modVlv_keeps | apply ite_keeps | apply ite_keeps_snd | apply ite_keeps_thd | refine forAll_keeps _ _ _ (fun _ _ _ => ?_) ?_ | (simp only [↓keeps_mk]; apply Keeps.parts))

theorem skippedAct_keeps (s : State) (x : Skipped) (hk : Keeps s₀ s) :
    Keeps s₀ (skippedAct s x) := by
  unfold skippedAct
  dsimp only
  with_reducible repeat' (first | assumption | apply armReached_keeps | apply userAct_keeps | apply modEvent_keeps | apply eventAct_keeps | apply ite_keeps | apply ite_keeps_snd | apply ite_keeps_thd | split)

theorem warpAlignTo_keeps (s : State) (n : Nat) (hk : Keeps s₀ s) :
    Keeps s₀ (warpAlignTo s n) := by
  unfold warpAlignTo
  dsimp only
  with_reducible repeat' (first | assumption | apply warpShift_keeps | apply skippedAct_keeps | apply logWarp_keeps | apply ite_keeps | apply ite_keeps_snd | apply ite_keeps_thd | refine forAll_keeps _ _ _ (fun _ _ _ => ?_) ?_ | (simp only [↓keeps_mk]; apply Keeps.parts))

theorem warpAlign_keeps (s : State) (hk : Keeps s₀ s) :
    Keeps s₀ (warpAlign s) := by
  unfold warpAlign
  dsimp only
  with_reducible repeat' (first | assumption | apply warpAlignTo_keeps | apply alignSend_keeps | apply ite_keeps | apply ite_keeps_snd | apply ite_keeps_thd | (simp only [↓keeps_mk]; apply Keeps.parts) | split)

theorem cycleTimers_keeps (s : State) (hk : Keeps s₀ s) :
    Keeps s₀ (cycleTimers s) := by
  unfold cycleTimers
  dsimp only
  with_reducible repeat' (first | assumption | apply ite_keeps | apply ite_keeps_snd | apply ite_keeps_thd | refine forAll_keeps _ _ _ (fun _ _ _ => ?_) ?_ | (simp only [↓keeps_mk]; apply Keeps.parts))

theorem execWarpCycleStart_keeps (s : State) (hk : Keeps s₀ s) :
    Goes s₀ (execWarpCycleStart s) := by
  unfold execWarpCycleStart
  dsimp only
  with_reducible repeat' (first | assumption | apply warpLength_keeps | apply warpSync_keeps | apply warpEnter_keeps | apply warpCount_keeps | apply switchoverCycle_keeps | apply cycleTimers_keeps | apply warpAlign_keeps | apply ite_keeps | apply ite_keeps_snd | apply ite_keeps_thd | apply ite_keeps_out | apply keeps_next)

/-! ### ConfigResolution -/

theorem repairCopies_keeps (s : State) (r : Resolved) (hk : Keeps s₀ s) :
    Keeps s₀ (repairCopies s r) := by
  unfold repairCopies
  dsimp only
  with_reducible repeat' (first | assumption | apply mramWritten_keeps | apply logEvent_keeps | apply ite_keeps | apply ite_keeps_snd | apply ite_keeps_thd | refine forAll_keeps _ _ _ (fun _ _ _ => ?_) ?_ | (simp only [↓keeps_mk]; apply Keeps.parts))

theorem takeConfig_keeps (s : State) (hk : Keeps s₀ s) :
    Keeps s₀ (takeConfig s) := by
  unfold takeConfig
  dsimp only
  with_reducible repeat' (first | assumption | apply repairCopies_keeps | apply raiseAlarm_keeps | apply ite_keeps | apply ite_keeps_snd | apply ite_keeps_thd | (simp only [↓keeps_mk]; apply Keeps.parts))

theorem takeCalendar_keeps (s : State) (vrtc rtcNow : Nat) (hk : Keeps s₀ s) :
    Keeps s₀ (takeCalendar s vrtc rtcNow) := by
  unfold takeCalendar
  dsimp only
  with_reducible repeat' (first | assumption | apply ite_keeps | apply ite_keeps_snd | apply ite_keeps_thd | (simp only [↓keeps_mk]; apply Keeps.parts))

theorem restoreCounts_keeps (s : State) (hk : Keeps s₀ s) :
    Keeps s₀ (restoreCounts s) := by
  unfold restoreCounts
  dsimp only
  with_reducible repeat' (first | assumption | apply ite_keeps | apply ite_keeps_snd | apply ite_keeps_thd | (simp only [↓keeps_mk]; apply Keeps.parts))

theorem restoreLearned_keeps (s : State) (hk : Keeps s₀ s) :
    Keeps s₀ (restoreLearned s) := by
  unfold restoreLearned
  dsimp only
  with_reducible repeat' (first | assumption | apply writeRw_keeps | apply ite_keeps | apply ite_keeps_snd | apply ite_keeps_thd | refine forAll_keeps _ _ _ (fun _ _ _ => ?_) ?_ | (simp only [↓keeps_mk]; apply Keeps.parts))

theorem restoreSave_keeps (s : State) (hk : Keeps s₀ s) :
    Keeps s₀ (restoreSave s) := by
  unfold restoreSave
  dsimp only
  with_reducible repeat' (first | assumption | apply restoreCounts_keeps | apply restoreLearned_keeps | apply ite_keeps | apply ite_keeps_snd | apply ite_keeps_thd | (simp only [↓keeps_mk]; apply Keeps.parts))

theorem resumeApply_keeps (s : State) (p : Nat → Bool) (hk : Keeps s₀ s) :
    Keeps s₀ (resumeApply s p) := by
  unfold resumeApply
  dsimp only
  with_reducible repeat' (first | assumption | apply restart_keeps | apply setCmd_keeps | apply setRw_keeps | apply modCirc_keeps | apply ite_keeps | apply ite_keeps_snd | apply ite_keeps_thd | refine forAll_keeps _ _ _ (fun _ _ _ => ?_) ?_)

theorem restoreResume_keeps (s : State) (waits : Bool) (hk : Keeps s₀ s) :
    Keeps s₀ (restoreResume s waits) := by
  unfold restoreResume
  dsimp only
  with_reducible repeat' (first | assumption | apply resumeApply_keeps | apply ite_keeps | apply ite_keeps_snd | apply ite_keeps_thd | (simp only [↓keeps_mk]; apply Keeps.parts))

theorem brownoutFollow_keeps (s : State) (hk : Keeps s₀ s) :
    Keeps s₀ (brownoutFollow s) := by
  unfold brownoutFollow
  dsimp only
  with_reducible repeat' (first | assumption | (simp only [↓keeps_mk]; apply Keeps.parts))

theorem takeOutage_keeps (s : State) (waits : Bool) (vrtc : Nat) (hk : Keeps s₀ s) :
    Keeps s₀ (takeOutage s waits vrtc) := by
  unfold takeOutage
  dsimp only
  with_reducible repeat' (first | assumption | apply ite_keeps | apply ite_keeps_snd | apply ite_keeps_thd | (simp only [↓keeps_mk]; apply Keeps.parts))

theorem loadLearned_keeps (s : State) (hk : Keeps s₀ s) :
    Keeps s₀ (loadLearned s) := by
  unfold loadLearned
  dsimp only
  with_reducible repeat' (first | assumption | apply modCirc_keeps | apply modVlv_keeps | apply modZone_keeps | refine forAll_keeps _ _ _ (fun _ _ _ => ?_) ?_)

theorem loadProfiles_keeps (s : State) (hk : Keeps s₀ s) :
    Keeps s₀ (loadProfiles s) := by
  unfold loadProfiles
  dsimp only
  with_reducible repeat' (first | assumption | apply modLoop_keeps | apply ite_keeps | apply ite_keeps_snd | apply ite_keeps_thd | refine forAll_keeps _ _ _ (fun _ _ _ => ?_) ?_)

theorem startTimers_keeps (s : State) (hk : Keeps s₀ s) :
    Keeps s₀ (startTimers s) := by
  unfold startTimers
  dsimp only
  with_reducible repeat' (first | assumption | refine forAll_keeps _ _ _ (fun _ _ _ => ?_) ?_ | (simp only [↓keeps_mk]; apply Keeps.parts))

theorem takePair_keeps (s : State) (hk : Keeps s₀ s) :
    Keeps s₀ (takePair s) := by
  unfold takePair
  dsimp only
  with_reducible repeat' (first | assumption | (simp only [↓keeps_mk]; apply Keeps.parts))

theorem execConfigResolution_keeps (vrtc rtcSec rtcFrac : Nat) (s : State) (hk : Keeps s₀ s) :
    Goes s₀ (execConfigResolution vrtc rtcSec rtcFrac s) := by
  unfold execConfigResolution
  dsimp only
  with_reducible repeat' (first | assumption | apply takeConfig_keeps | apply takeOutage_keeps | apply takeCalendar_keeps | apply takePair_keeps | apply restoreSave_keeps | apply brownoutFollow_keeps | apply restoreResume_keeps | apply startTimers_keeps | apply loadProfiles_keeps | apply loadLearned_keeps | apply heddleAll_keeps | apply latchSafe_keeps | apply poolAssign_keeps | apply aoApplyAll_keeps | apply astroCompute_keeps | apply ite_keeps | apply ite_keeps_snd | apply ite_keeps_thd | apply ite_keeps_out | apply keeps_next | (simp only [↓keeps_mk]; apply Keeps.parts))

/-! ### Power -/

theorem modPower_keeps (s : State) (f : Power → Power) (hk : Keeps s₀ s) :
    Keeps s₀ (modPower s f) := by
  unfold modPower
  with_reducible repeat' (first | assumption | (simp only [↓keeps_mk]; apply Keeps.parts))

theorem leaveReset_keeps (s : State) (hk : Keeps s₀ s) :
    Keeps s₀ (leaveReset s) := by
  unfold leaveReset
  dsimp only
  with_reducible repeat' (first | assumption | apply modPower_keeps | apply modSess_keeps | (simp only [↓keeps_mk]; apply Keeps.parts))

theorem execResetRelease_keeps (s : State) (hk : Keeps s₀ s) :
    Goes s₀ (execResetRelease s) := by
  unfold execResetRelease
  with_reducible repeat' (first | assumption | apply leaveReset_keeps | apply resetState_keeps | apply ite_keeps | apply ite_keeps_snd | apply ite_keeps_thd | apply ite_keeps_out | apply keeps_next)

theorem execResetN_keeps (level : Bool) (s : State) (hk : Keeps s₀ s) :
    Goes s₀ (execResetN level s) := by
  unfold execResetN
  dsimp only
  with_reducible repeat' (first | assumption | apply modPower_keeps | apply restart_keeps | apply ite_keeps | apply ite_keeps_snd | apply ite_keeps_thd | apply ite_keeps_out | apply keeps_next)

theorem cutSave_keeps (s : State) (hk : Keeps s₀ s) :
    Keeps s₀ (cutSave s) := by
  unfold cutSave
  dsimp only
  with_reducible repeat' (first | assumption | apply takeFree_keeps | apply ite_keeps | apply ite_keeps_snd | apply ite_keeps_thd | (simp only [↓keeps_mk]; apply Keeps.parts))

theorem execPowerLoss_keeps (s : State) (hk : Keeps s₀ s) :
    Goes s₀ (execPowerLoss s) := by
  unfold execPowerLoss
  dsimp only
  with_reducible repeat' (first | assumption | apply tearCopy_keeps | apply cutSave_keeps | apply resetState_keeps | apply keeps_next | (simp only [↓keeps_mk]; apply Keeps.parts))

theorem trialStep_keeps (s : State) (hk : Keeps s₀ s) :
    Keeps s₀ (trialStep s) := by
  unfold trialStep
  dsimp only
  with_reducible repeat' (first | assumption | apply rollback_keeps | apply ite_keeps | apply ite_keeps_snd | apply ite_keeps_thd | (simp only [↓keeps_mk]; apply Keeps.parts))

theorem execBootRomDone_keeps (s : State) (hk : Keeps s₀ s) :
    Goes s₀ (execBootRomDone s) := by
  unfold execBootRomDone
  dsimp only
  with_reducible repeat' (first | assumption | apply modPower_keeps | apply trialStep_keeps | apply ite_keeps | apply ite_keeps_snd | apply ite_keeps_thd | apply ite_keeps_out | apply keeps_next | (simp only [↓keeps_mk]; apply Keeps.parts))

theorem slotUnread_keeps (s : State) (k : Nat) (bad : List Nat) (hk : Keeps s₀ s) :
    Keeps s₀ (slotUnread s k bad) := by
  unfold slotUnread
  with_reducible repeat' (first | assumption | apply poisonMram_keeps | refine forAll_keeps _ _ _ (fun _ _ _ => ?_) ?_)

theorem execSignatureCheckDone_keeps (badBoot badOther : List Nat) (s : State) (hk : Keeps s₀ s) :
    Goes s₀ (execSignatureCheckDone badBoot badOther s) := by
  unfold execSignatureCheckDone
  dsimp only
  with_reducible repeat' (first | assumption | apply slotUnread_keeps | apply modPower_keeps | apply rollback_keeps | apply ite_keeps | apply ite_keeps_snd | apply ite_keeps_thd | apply ite_keeps_out | apply keeps_next | (simp only [↓keeps_mk]; apply Keeps.parts))

theorem lanesFromMap_keeps (s : State) (hk : Keeps s₀ s) :
    Keeps s₀ (lanesFromMap s) := by
  unfold lanesFromMap
  dsimp only
  with_reducible repeat' (first | assumption | apply modLane_keeps | apply ite_keeps | apply ite_keeps_snd | apply ite_keeps_thd | refine forAll_keeps _ _ _ (fun _ _ _ => ?_) ?_ | (simp only [↓keeps_mk]; apply Keeps.parts))

theorem useMap_keeps (s : State) (m : RepairMap) (ledger : List LedgerEntry) (gen st : Nat) (hk : Keeps s₀ s) :
    Keeps s₀ (useMap s m ledger gen st) := by
  unfold useMap
  dsimp only
  with_reducible repeat' (first | assumption | apply refreshMapFlags_keeps | (simp only [↓keeps_mk]; apply Keeps.parts))

theorem resolveMaps_keeps (s : State) (hk : Keeps s₀ s) :
    Keeps s₀ (resolveMaps s) := by
  unfold resolveMaps
  dsimp only
  with_reducible repeat' (first | assumption | apply useMap_keeps | apply mramWritten_keeps | apply memFlag_keeps | apply writeMap_keeps | (simp only [↓keeps_mk]; apply Keeps.parts) | split)

theorem execRepairMapResolve_keeps (s : State) (hk : Keeps s₀ s) :
    Goes s₀ (execRepairMapResolve s) := by
  unfold execRepairMapResolve
  with_reducible repeat' (first | assumption | apply modPower_keeps | apply lanesFromMap_keeps | apply resolveMaps_keeps | apply ite_keeps | apply ite_keeps_snd | apply ite_keeps_thd | apply ite_keeps_out | apply keeps_next)

theorem deadLines_keeps (s : State) (hits : List Hit) (hk : Keeps s₀ s) :
    Keeps s₀ (deadLines s hits) := by
  unfold deadLines
  dsimp only
  with_reducible repeat' (first | assumption | apply poisonLine_keeps | apply defectRow_keeps | apply ite_keeps | apply ite_keeps_snd | apply ite_keeps_thd | refine forAll_keeps _ _ _ (fun _ _ _ => ?_) ?_)

theorem testMemory_keeps (s : State) (hits : List Hit) (hk : Keeps s₀ s) :
    Keeps s₀ (testMemory s hits) := by
  unfold testMemory
  with_reducible repeat' (first | assumption | apply classify_keeps | apply deadLines_keeps)

theorem execMemorySelfTest_keeps (sramFails mramFails : List (Nat × Nat)) (s : State) (hk : Keeps s₀ s) :
    Goes s₀ (execMemorySelfTest sramFails mramFails s) := by
  unfold execMemorySelfTest
  dsimp only
  with_reducible repeat' (first | assumption | apply testMemory_keeps | apply writeMap_keeps | apply raiseAlarm_keeps | apply modPower_keeps | apply ite_keeps | apply ite_keeps_snd | apply ite_keeps_thd | apply ite_keeps_out | apply keeps_next | (simp only [↓keeps_mk]; apply Keeps.parts))

theorem execHoldupMeasurement_keeps (s : State) (hk : Keeps s₀ s) :
    Goes s₀ (execHoldupMeasurement s) := by
  unfold execHoldupMeasurement
  with_reducible repeat' (first | assumption | apply modPower_keeps | apply ite_keeps | apply ite_keeps_snd | apply ite_keeps_thd | apply ite_keeps_out | apply keeps_next)

theorem execHoldupMeasureEnd_keeps (onset : HoldupOnset) (drain : HoldupDrain) (s : State) (hk : Keeps s₀ s) :
    Goes s₀ (execHoldupMeasureEnd onset drain s) := by
  unfold execHoldupMeasureEnd
  dsimp only
  with_reducible repeat' (first | assumption | apply modPower_keeps | apply raiseAlarm_keeps | apply dropAlarm_keeps | apply ite_keeps | apply ite_keeps_snd | apply ite_keeps_thd | apply ite_keeps_out | apply keeps_next | split)

theorem execWarpStepEnd_keeps (s : State) (hk : Keeps s₀ s) :
    Goes s₀ (execWarpStepEnd s) := by
  unfold execWarpStepEnd
  dsimp only
  with_reducible repeat' (first | assumption | apply modPower_keeps | apply ite_keeps | apply ite_keeps_snd | apply ite_keeps_thd | apply ite_keeps_out | apply keeps_next)

theorem logStart_keeps (s : State) (hk : Keeps s₀ s) :
    Keeps s₀ (logStart s) := by
  unfold logStart
  dsimp only
  with_reducible repeat' (first | assumption | apply logEvent_keeps)

theorem trialUp_keeps (s : State) (hk : Keeps s₀ s) :
    Keeps s₀ (trialUp s) := by
  unfold trialUp
  dsimp only
  with_reducible repeat' (first | assumption | apply fwConfirmOp_keeps | apply ite_keeps | apply ite_keeps_snd | apply ite_keeps_thd | (simp only [↓keeps_mk]; apply Keeps.parts))

theorem decideStart_keeps (s : State) (hk : Keeps s₀ s) :
    Keeps s₀ (decideStart s) := by
  unfold decideStart
  with_reducible repeat' (first | assumption | apply roleDecide_keeps | apply modPair_keeps)

theorem execOperational_keeps (s : State) (hk : Keeps s₀ s) :
    Goes s₀ (execOperational s) := by
  unfold execOperational
  dsimp only
  with_reducible repeat' (first | assumption | apply modPower_keeps | apply canEnter_keeps | apply modCan_keeps | apply heartbeatSend_keeps | apply trialUp_keeps | apply logStart_keeps | apply modPair_keeps | apply decideStart_keeps | apply ite_keeps | apply ite_keeps_snd | apply ite_keeps_thd | apply ite_keeps_out | apply keeps_next | refine forAll_keeps _ _ _ (fun _ _ _ => ?_) ?_ | (simp only [↓keeps_mk]; apply Keeps.parts))

theorem releaseField_keeps (s : State) (hk : Keeps s₀ s) :
    Keeps s₀ (releaseField s) := by
  unfold releaseField
  dsimp only
  with_reducible repeat' (first | assumption | apply ioTakeMode_keeps | refine forAll_keeps _ _ _ (fun _ _ _ => ?_) ?_ | (simp only [↓keeps_mk]; apply Keeps.parts))

theorem loopRelease_keeps (s : State) (n : Nat) (hk : Keeps s₀ s) :
    Keeps s₀ (loopRelease s n) := by
  unfold loopRelease
  with_reducible repeat' (first | assumption | apply modLoop_keeps | apply loopBegin_keeps)

theorem releaseLoops_keeps (s : State) (hk : Keeps s₀ s) :
    Keeps s₀ (releaseLoops s) := by
  unfold releaseLoops
  with_reducible repeat' (first | assumption | apply loopRelease_keeps | refine forAll_keeps _ _ _ (fun _ _ _ => ?_) ?_)

theorem releaseLoom_keeps (s : State) (hk : Keeps s₀ s) :
    Keeps s₀ (releaseLoom s) := by
  unfold releaseLoom
  dsimp only
  with_reducible repeat' (first | assumption | apply circSchedule_keeps | refine forAll_keeps _ _ _ (fun _ _ _ => ?_) ?_ | (simp only [↓keeps_mk]; apply Keeps.parts))

theorem releaseSafety_keeps (s : State) (hk : Keeps s₀ s) :
    Keeps s₀ (releaseSafety s) := by
  unfold releaseSafety
  dsimp only
  with_reducible repeat' (first | assumption | apply safePinsStart_keeps | apply ite_keeps | apply ite_keeps_snd | apply ite_keeps_thd | (simp only [↓keeps_mk]; apply Keeps.parts))

theorem release_keeps (s : State) (hk : Keeps s₀ s) :
    Keeps s₀ (release s) := by
  unfold release
  dsimp only
  with_reducible repeat' (first | assumption | apply modPower_keeps | apply resumeApply_keeps | apply releaseLoom_keeps | apply releaseLoops_keeps | apply releaseField_keeps | apply bankRefresh_keeps | apply applyAll_keeps | apply releaseSafety_keeps | apply dispTristate_keeps | apply dispStart_keeps | apply ite_keeps | apply ite_keeps_snd | apply ite_keeps_thd | refine forAll_keeps _ _ _ (fun _ _ _ => ?_) ?_)

theorem execOutputRelease_keeps (s : State) (hk : Keeps s₀ s) :
    Goes s₀ (execOutputRelease s) := by
  unfold execOutputRelease
  with_reducible repeat' (first | assumption | apply decideStart_keeps | apply release_keeps | apply ite_keeps | apply ite_keeps_snd | apply ite_keeps_thd | apply ite_keeps_out | apply keeps_next)

theorem brownoutSet_keeps (s : State) (hk : Keeps s₀ s) :
    Keeps s₀ (brownoutSet s) := by
  unfold brownoutSet
  with_reducible repeat' (first | assumption | apply modPower_keeps | apply ite_keeps)

theorem saveDisplay_keeps (s : State) (hk : Keeps s₀ s) :
    Keeps s₀ (saveDisplay s).2 := by
  unfold saveDisplay
  dsimp only
  with_reducible repeat' (first | assumption | apply dispSave_keeps | apply modDisp_keeps | apply ite_keeps | apply ite_keeps_snd | apply ite_keeps_thd | (simp only [↓keeps_mk]; apply Keeps.parts))

theorem saveStop_keeps (s : State) (hk : Keeps s₀ s) :
    Keeps s₀ (saveStop s) := by
  unfold saveStop
  dsimp only
  with_reducible repeat' (first | assumption | apply modPower_keeps | apply modCan_keeps | apply bankRefresh_keeps | apply applyAll_keeps | apply fanStop_keeps | apply ite_keeps | apply ite_keeps_snd | apply ite_keeps_thd | refine forAll_keeps _ _ _ (fun _ _ _ => ?_) ?_ | (simp only [↓keeps_mk]; apply Keeps.parts))

theorem saveBegin_keeps (s : State) (hk : Keeps s₀ s) :
    Keeps s₀ (saveBegin s) := by
  unfold saveBegin
  dsimp only
  with_reducible repeat' (first | assumption | apply saveDisplay_keeps | apply tearCopy_keeps | apply pairGiveUp_keeps | apply mramWritten_keeps | apply flushLog_keeps | apply saveStop_keeps | apply brownoutSet_keeps | (simp only [↓keeps_mk]; apply Keeps.parts))

theorem execVinSag_keeps (s : State) (hk : Keeps s₀ s) :
    Goes s₀ (execVinSag s) := by
  unfold execVinSag
  with_reducible repeat' (first | assumption | apply saveBegin_keeps | apply restart_keeps | apply ite_keeps | apply ite_keeps_snd | apply ite_keeps_thd | apply ite_keeps_out | apply keeps_next | split)

theorem execSaveDone_keeps (bytes : Nat) (s : State) (hk : Keeps s₀ s) :
    Goes s₀ (execSaveDone bytes s) := by
  unfold execSaveDone
  dsimp only
  with_reducible repeat' (first | assumption | apply modPower_keeps | apply ite_keeps | apply ite_keeps_snd | apply ite_keeps_thd | apply ite_keeps_out | apply keeps_next | (simp only [↓keeps_mk]; apply Keeps.parts))

theorem execBrownoutClear_keeps (s : State) (hk : Keeps s₀ s) :
    Goes s₀ (execBrownoutClear s) := by
  unfold execBrownoutClear
  dsimp only
  with_reducible repeat' (first | assumption | apply modPower_keeps | apply ite_keeps | apply ite_keeps_snd | apply ite_keeps_thd | apply ite_keeps_out | apply keeps_next | (simp only [↓keeps_mk]; apply Keeps.parts))

end Sys2Proof.Machine
end

