-- ==== Sys2Proof/Laws/State.lean ====
section
/-! SUPPORT. What each update of a part of the state leaves, field by field, and what the part reads afterwards. -/

namespace Sys2Proof.Machine

/-! ### `modCirc` -/

section
variable (s : State) (c : Nat) (f : Circuit → Circuit)

@[simp] theorem modCirc_clk : (modCirc s c f).clk = s.clk := rfl
@[simp] theorem modCirc_free : (modCirc s c f).free = s.free := rfl
@[simp] theorem modCirc_power : (modCirc s c f).power = s.power := rfl
@[simp] theorem modCirc_warp : (modCirc s c f).warp = s.warp := rfl
@[simp] theorem modCirc_cal : (modCirc s c f).cal = s.cal := rfl
@[simp] theorem modCirc_engine : (modCirc s c f).engine = s.engine := rfl
@[simp] theorem modCirc_meas : (modCirc s c f).meas = s.meas := rfl
@[simp] theorem modCirc_valve : (modCirc s c f).valve = s.valve := rfl
@[simp] theorem modCirc_io : (modCirc s c f).io = s.io := rfl
@[simp] theorem modCirc_fans : (modCirc s c f).fans = s.fans := rfl
@[simp] theorem modCirc_disp : (modCirc s c f).disp = s.disp := rfl
@[simp] theorem modCirc_dict : (modCirc s c f).dict = s.dict := rfl
@[simp] theorem modCirc_host : (modCirc s c f).host = s.host := rfl
@[simp] theorem modCirc_images : (modCirc s c f).images = s.images := rfl
@[simp] theorem modCirc_can : (modCirc s c f).can = s.can := rfl
@[simp] theorem modCirc_pair : (modCirc s c f).pair = s.pair := rfl
@[simp] theorem modCirc_mem : (modCirc s c f).mem = s.mem := rfl
@[simp] theorem modCirc_therm : (modCirc s c f).therm = s.therm := rfl
@[simp] theorem modCirc_safety : (modCirc s c f).safety = s.safety := rfl
@[simp] theorem modCirc_snap : (modCirc s c f).snap = s.snap := rfl
@[simp] theorem modCirc_mram : (modCirc s c f).mram = s.mram := rfl
@[simp] theorem modCirc_alarms : (modCirc s c f).alarms = s.alarms := rfl
@[simp] theorem modCirc_pending : (modCirc s c f).pending = s.pending := rfl
@[simp] theorem modCirc_loom_armLoad : (modCirc s c f).loom.armLoad = s.loom.armLoad := rfl
@[simp] theorem modCirc_loom_armOverflows : (modCirc s c f).loom.armOverflows = s.loom.armOverflows := rfl
@[simp] theorem modCirc_loom_ruleOverruns : (modCirc s c f).loom.ruleOverruns = s.loom.ruleOverruns := rfl
@[simp] theorem modCirc_loom_building : (modCirc s c f).loom.building = s.loom.building := rfl
@[simp] theorem modCirc_loom_sealed_ : (modCirc s c f).loom.sealed_ = s.loom.sealed_ := rfl
@[simp] theorem modCirc_loom_sealedCycle : (modCirc s c f).loom.sealedCycle = s.loom.sealedCycle := rfl
@[simp] theorem modCirc_loom_zones : (modCirc s c f).loom.zones = s.loom.zones := rfl
@[simp] theorem modCirc_loom_events : (modCirc s c f).loom.events = s.loom.events := rfl
@[simp] theorem modCirc_loom_rules : (modCirc s c f).loom.rules = s.loom.rules := rfl
@[simp] theorem modCirc_loom_nextRound : (modCirc s c f).loom.nextRound = s.loom.nextRound := rfl
@[simp] theorem modCirc_loom_freshRules : (modCirc s c f).loom.freshRules = s.loom.freshRules := rfl

end


@[simp] theorem getCirc_modCirc (s : State) (c j : Nat) (f : Circuit → Circuit) :
    getCirc (modCirc s c f) j = if j = c then f (getCirc s c) else getCirc s j := Table.getD_modify _ _ _ _ _

/-! ### `modZone` -/

section
variable (s : State) (z : Nat) (f : Zone → Zone)

@[simp] theorem modZone_clk : (modZone s z f).clk = s.clk := rfl
@[simp] theorem modZone_free : (modZone s z f).free = s.free := rfl
@[simp] theorem modZone_power : (modZone s z f).power = s.power := rfl
@[simp] theorem modZone_warp : (modZone s z f).warp = s.warp := rfl
@[simp] theorem modZone_cal : (modZone s z f).cal = s.cal := rfl
@[simp] theorem modZone_engine : (modZone s z f).engine = s.engine := rfl
@[simp] theorem modZone_meas : (modZone s z f).meas = s.meas := rfl
@[simp] theorem modZone_valve : (modZone s z f).valve = s.valve := rfl
@[simp] theorem modZone_io : (modZone s z f).io = s.io := rfl
@[simp] theorem modZone_fans : (modZone s z f).fans = s.fans := rfl
@[simp] theorem modZone_disp : (modZone s z f).disp = s.disp := rfl
@[simp] theorem modZone_dict : (modZone s z f).dict = s.dict := rfl
@[simp] theorem modZone_host : (modZone s z f).host = s.host := rfl
@[simp] theorem modZone_images : (modZone s z f).images = s.images := rfl
@[simp] theorem modZone_can : (modZone s z f).can = s.can := rfl
@[simp] theorem modZone_pair : (modZone s z f).pair = s.pair := rfl
@[simp] theorem modZone_mem : (modZone s z f).mem = s.mem := rfl
@[simp] theorem modZone_therm : (modZone s z f).therm = s.therm := rfl
@[simp] theorem modZone_safety : (modZone s z f).safety = s.safety := rfl
@[simp] theorem modZone_snap : (modZone s z f).snap = s.snap := rfl
@[simp] theorem modZone_mram : (modZone s z f).mram = s.mram := rfl
@[simp] theorem modZone_alarms : (modZone s z f).alarms = s.alarms := rfl
@[simp] theorem modZone_pending : (modZone s z f).pending = s.pending := rfl
@[simp] theorem modZone_loom_armLoad : (modZone s z f).loom.armLoad = s.loom.armLoad := rfl
@[simp] theorem modZone_loom_armOverflows : (modZone s z f).loom.armOverflows = s.loom.armOverflows := rfl
@[simp] theorem modZone_loom_ruleOverruns : (modZone s z f).loom.ruleOverruns = s.loom.ruleOverruns := rfl
@[simp] theorem modZone_loom_building : (modZone s z f).loom.building = s.loom.building := rfl
@[simp] theorem modZone_loom_sealed_ : (modZone s z f).loom.sealed_ = s.loom.sealed_ := rfl
@[simp] theorem modZone_loom_sealedCycle : (modZone s z f).loom.sealedCycle = s.loom.sealedCycle := rfl
@[simp] theorem modZone_loom_circuits : (modZone s z f).loom.circuits = s.loom.circuits := rfl
@[simp] theorem modZone_loom_events : (modZone s z f).loom.events = s.loom.events := rfl
@[simp] theorem modZone_loom_rules : (modZone s z f).loom.rules = s.loom.rules := rfl
@[simp] theorem modZone_loom_nextRound : (modZone s z f).loom.nextRound = s.loom.nextRound := rfl
@[simp] theorem modZone_loom_freshRules : (modZone s z f).loom.freshRules = s.loom.freshRules := rfl

end


@[simp] theorem getZone_modZone (s : State) (z j : Nat) (f : Zone → Zone) :
    getZone (modZone s z f) j = if j = z then f (getZone s z) else getZone s j := Table.getD_modify _ _ _ _ _

/-! ### `modEvent` -/

section
variable (s : State) (e : Nat) (f : UEvent → UEvent)

@[simp] theorem modEvent_clk : (modEvent s e f).clk = s.clk := rfl
@[simp] theorem modEvent_free : (modEvent s e f).free = s.free := rfl
@[simp] theorem modEvent_power : (modEvent s e f).power = s.power := rfl
@[simp] theorem modEvent_warp : (modEvent s e f).warp = s.warp := rfl
@[simp] theorem modEvent_cal : (modEvent s e f).cal = s.cal := rfl
@[simp] theorem modEvent_engine : (modEvent s e f).engine = s.engine := rfl
@[simp] theorem modEvent_meas : (modEvent s e f).meas = s.meas := rfl
@[simp] theorem modEvent_valve : (modEvent s e f).valve = s.valve := rfl
@[simp] theorem modEvent_io : (modEvent s e f).io = s.io := rfl
@[simp] theorem modEvent_fans : (modEvent s e f).fans = s.fans := rfl
@[simp] theorem modEvent_disp : (modEvent s e f).disp = s.disp := rfl
@[simp] theorem modEvent_dict : (modEvent s e f).dict = s.dict := rfl
@[simp] theorem modEvent_host : (modEvent s e f).host = s.host := rfl
@[simp] theorem modEvent_images : (modEvent s e f).images = s.images := rfl
@[simp] theorem modEvent_can : (modEvent s e f).can = s.can := rfl
@[simp] theorem modEvent_pair : (modEvent s e f).pair = s.pair := rfl
@[simp] theorem modEvent_mem : (modEvent s e f).mem = s.mem := rfl
@[simp] theorem modEvent_therm : (modEvent s e f).therm = s.therm := rfl
@[simp] theorem modEvent_safety : (modEvent s e f).safety = s.safety := rfl
@[simp] theorem modEvent_snap : (modEvent s e f).snap = s.snap := rfl
@[simp] theorem modEvent_mram : (modEvent s e f).mram = s.mram := rfl
@[simp] theorem modEvent_alarms : (modEvent s e f).alarms = s.alarms := rfl
@[simp] theorem modEvent_pending : (modEvent s e f).pending = s.pending := rfl
@[simp] theorem modEvent_loom_armLoad : (modEvent s e f).loom.armLoad = s.loom.armLoad := rfl
@[simp] theorem modEvent_loom_armOverflows : (modEvent s e f).loom.armOverflows = s.loom.armOverflows := rfl
@[simp] theorem modEvent_loom_ruleOverruns : (modEvent s e f).loom.ruleOverruns = s.loom.ruleOverruns := rfl
@[simp] theorem modEvent_loom_building : (modEvent s e f).loom.building = s.loom.building := rfl
@[simp] theorem modEvent_loom_sealed_ : (modEvent s e f).loom.sealed_ = s.loom.sealed_ := rfl
@[simp] theorem modEvent_loom_sealedCycle : (modEvent s e f).loom.sealedCycle = s.loom.sealedCycle := rfl
@[simp] theorem modEvent_loom_circuits : (modEvent s e f).loom.circuits = s.loom.circuits := rfl
@[simp] theorem modEvent_loom_zones : (modEvent s e f).loom.zones = s.loom.zones := rfl
@[simp] theorem modEvent_loom_rules : (modEvent s e f).loom.rules = s.loom.rules := rfl
@[simp] theorem modEvent_loom_nextRound : (modEvent s e f).loom.nextRound = s.loom.nextRound := rfl
@[simp] theorem modEvent_loom_freshRules : (modEvent s e f).loom.freshRules = s.loom.freshRules := rfl

end


@[simp] theorem getEvent_modEvent (s : State) (e j : Nat) (f : UEvent → UEvent) :
    getEvent (modEvent s e f) j = if j = e then f (getEvent s e) else getEvent s j := Table.getD_modify _ _ _ _ _

/-! ### `modRule` -/

section
variable (s : State) (r : Nat) (f : RuleRt → RuleRt)

@[simp] theorem modRule_clk : (modRule s r f).clk = s.clk := rfl
@[simp] theorem modRule_free : (modRule s r f).free = s.free := rfl
@[simp] theorem modRule_power : (modRule s r f).power = s.power := rfl
@[simp] theorem modRule_warp : (modRule s r f).warp = s.warp := rfl
@[simp] theorem modRule_cal : (modRule s r f).cal = s.cal := rfl
@[simp] theorem modRule_engine : (modRule s r f).engine = s.engine := rfl
@[simp] theorem modRule_meas : (modRule s r f).meas = s.meas := rfl
@[simp] theorem modRule_valve : (modRule s r f).valve = s.valve := rfl
@[simp] theorem modRule_io : (modRule s r f).io = s.io := rfl
@[simp] theorem modRule_fans : (modRule s r f).fans = s.fans := rfl
@[simp] theorem modRule_disp : (modRule s r f).disp = s.disp := rfl
@[simp] theorem modRule_dict : (modRule s r f).dict = s.dict := rfl
@[simp] theorem modRule_host : (modRule s r f).host = s.host := rfl
@[simp] theorem modRule_images : (modRule s r f).images = s.images := rfl
@[simp] theorem modRule_can : (modRule s r f).can = s.can := rfl
@[simp] theorem modRule_pair : (modRule s r f).pair = s.pair := rfl
@[simp] theorem modRule_mem : (modRule s r f).mem = s.mem := rfl
@[simp] theorem modRule_therm : (modRule s r f).therm = s.therm := rfl
@[simp] theorem modRule_safety : (modRule s r f).safety = s.safety := rfl
@[simp] theorem modRule_snap : (modRule s r f).snap = s.snap := rfl
@[simp] theorem modRule_mram : (modRule s r f).mram = s.mram := rfl
@[simp] theorem modRule_alarms : (modRule s r f).alarms = s.alarms := rfl
@[simp] theorem modRule_pending : (modRule s r f).pending = s.pending := rfl
@[simp] theorem modRule_loom_armLoad : (modRule s r f).loom.armLoad = s.loom.armLoad := rfl
@[simp] theorem modRule_loom_armOverflows : (modRule s r f).loom.armOverflows = s.loom.armOverflows := rfl
@[simp] theorem modRule_loom_ruleOverruns : (modRule s r f).loom.ruleOverruns = s.loom.ruleOverruns := rfl
@[simp] theorem modRule_loom_building : (modRule s r f).loom.building = s.loom.building := rfl
@[simp] theorem modRule_loom_sealed_ : (modRule s r f).loom.sealed_ = s.loom.sealed_ := rfl
@[simp] theorem modRule_loom_sealedCycle : (modRule s r f).loom.sealedCycle = s.loom.sealedCycle := rfl
@[simp] theorem modRule_loom_circuits : (modRule s r f).loom.circuits = s.loom.circuits := rfl
@[simp] theorem modRule_loom_zones : (modRule s r f).loom.zones = s.loom.zones := rfl
@[simp] theorem modRule_loom_events : (modRule s r f).loom.events = s.loom.events := rfl
@[simp] theorem modRule_loom_nextRound : (modRule s r f).loom.nextRound = s.loom.nextRound := rfl
@[simp] theorem modRule_loom_freshRules : (modRule s r f).loom.freshRules = s.loom.freshRules := rfl

end


@[simp] theorem getRule_modRule (s : State) (r j : Nat) (f : RuleRt → RuleRt) :
    getRule (modRule s r f) j = if j = r then f (getRule s r) else getRule s j := Table.getD_modify _ _ _ _ _

/-! ### `modLoop` -/

section
variable (s : State) (n : Nat) (f : LoopRt → LoopRt)

@[simp] theorem modLoop_clk : (modLoop s n f).clk = s.clk := rfl
@[simp] theorem modLoop_free : (modLoop s n f).free = s.free := rfl
@[simp] theorem modLoop_power : (modLoop s n f).power = s.power := rfl
@[simp] theorem modLoop_warp : (modLoop s n f).warp = s.warp := rfl
@[simp] theorem modLoop_cal : (modLoop s n f).cal = s.cal := rfl
@[simp] theorem modLoop_loom : (modLoop s n f).loom = s.loom := rfl
@[simp] theorem modLoop_meas : (modLoop s n f).meas = s.meas := rfl
@[simp] theorem modLoop_valve : (modLoop s n f).valve = s.valve := rfl
@[simp] theorem modLoop_io : (modLoop s n f).io = s.io := rfl
@[simp] theorem modLoop_fans : (modLoop s n f).fans = s.fans := rfl
@[simp] theorem modLoop_disp : (modLoop s n f).disp = s.disp := rfl
@[simp] theorem modLoop_dict : (modLoop s n f).dict = s.dict := rfl
@[simp] theorem modLoop_host : (modLoop s n f).host = s.host := rfl
@[simp] theorem modLoop_images : (modLoop s n f).images = s.images := rfl
@[simp] theorem modLoop_can : (modLoop s n f).can = s.can := rfl
@[simp] theorem modLoop_pair : (modLoop s n f).pair = s.pair := rfl
@[simp] theorem modLoop_mem : (modLoop s n f).mem = s.mem := rfl
@[simp] theorem modLoop_therm : (modLoop s n f).therm = s.therm := rfl
@[simp] theorem modLoop_safety : (modLoop s n f).safety = s.safety := rfl
@[simp] theorem modLoop_snap : (modLoop s n f).snap = s.snap := rfl
@[simp] theorem modLoop_mram : (modLoop s n f).mram = s.mram := rfl
@[simp] theorem modLoop_alarms : (modLoop s n f).alarms = s.alarms := rfl
@[simp] theorem modLoop_pending : (modLoop s n f).pending = s.pending := rfl
@[simp] theorem modLoop_engine_first : (modLoop s n f).engine.first = s.engine.first := rfl
@[simp] theorem modLoop_engine_second : (modLoop s n f).engine.second = s.engine.second := rfl
@[simp] theorem modLoop_engine_laneA : (modLoop s n f).engine.laneA = s.engine.laneA := rfl
@[simp] theorem modLoop_engine_laneB : (modLoop s n f).engine.laneB = s.engine.laneB := rfl
@[simp] theorem modLoop_engine_laneS : (modLoop s n f).engine.laneS = s.engine.laneS := rfl
@[simp] theorem modLoop_engine_degraded : (modLoop s n f).engine.degraded = s.engine.degraded := rfl
@[simp] theorem modLoop_engine_stopped : (modLoop s n f).engine.stopped = s.engine.stopped := rfl

end


@[simp] theorem getLoop_modLoop (s : State) (n j : Nat) (f : LoopRt → LoopRt) :
    getLoop (modLoop s n f) j = if j = n then f (getLoop s n) else getLoop s j := Table.getD_modify _ _ _ _ _

/-! ### `setRec` -/

section
variable (s : State) (k : Nat) (r : ResRec)

@[simp] theorem setRec_clk : (setRec s k r).clk = s.clk := rfl
@[simp] theorem setRec_free : (setRec s k r).free = s.free := rfl
@[simp] theorem setRec_power : (setRec s k r).power = s.power := rfl
@[simp] theorem setRec_warp : (setRec s k r).warp = s.warp := rfl
@[simp] theorem setRec_cal : (setRec s k r).cal = s.cal := rfl
@[simp] theorem setRec_loom : (setRec s k r).loom = s.loom := rfl
@[simp] theorem setRec_engine : (setRec s k r).engine = s.engine := rfl
@[simp] theorem setRec_valve : (setRec s k r).valve = s.valve := rfl
@[simp] theorem setRec_io : (setRec s k r).io = s.io := rfl
@[simp] theorem setRec_fans : (setRec s k r).fans = s.fans := rfl
@[simp] theorem setRec_disp : (setRec s k r).disp = s.disp := rfl
@[simp] theorem setRec_dict : (setRec s k r).dict = s.dict := rfl
@[simp] theorem setRec_host : (setRec s k r).host = s.host := rfl
@[simp] theorem setRec_images : (setRec s k r).images = s.images := rfl
@[simp] theorem setRec_can : (setRec s k r).can = s.can := rfl
@[simp] theorem setRec_pair : (setRec s k r).pair = s.pair := rfl
@[simp] theorem setRec_mem : (setRec s k r).mem = s.mem := rfl
@[simp] theorem setRec_therm : (setRec s k r).therm = s.therm := rfl
@[simp] theorem setRec_safety : (setRec s k r).safety = s.safety := rfl
@[simp] theorem setRec_snap : (setRec s k r).snap = s.snap := rfl
@[simp] theorem setRec_mram : (setRec s k r).mram = s.mram := rfl
@[simp] theorem setRec_alarms : (setRec s k r).alarms = s.alarms := rfl
@[simp] theorem setRec_pending : (setRec s k r).pending = s.pending := rfl
@[simp] theorem setRec_meas_refState : (setRec s k r).meas.refState = s.meas.refState := rfl
@[simp] theorem setRec_meas_refClk : (setRec s k r).meas.refClk = s.meas.refClk := rfl
@[simp] theorem setRec_meas_refGood : (setRec s k r).meas.refGood = s.meas.refGood := rfl
@[simp] theorem setRec_meas_noiseA : (setRec s k r).meas.noiseA = s.meas.noiseA := rfl
@[simp] theorem setRec_meas_noiseB : (setRec s k r).meas.noiseB = s.meas.noiseB := rfl
@[simp] theorem setRec_meas_noiseExcess : (setRec s k r).meas.noiseExcess = s.meas.noiseExcess := rfl
@[simp] theorem setRec_meas_noiseHour : (setRec s k r).meas.noiseHour = s.meas.noiseHour := rfl
@[simp] theorem setRec_meas_vboost : (setRec s k r).meas.vboost = s.meas.vboost := rfl
@[simp] theorem setRec_meas_trigLost : (setRec s k r).meas.trigLost = s.meas.trigLost := rfl
@[simp] theorem setRec_meas_trig : (setRec s k r).meas.trig = s.meas.trig := rfl
@[simp] theorem setRec_meas_coming : (setRec s k r).meas.coming = s.meas.coming := rfl
@[simp] theorem setRec_meas_queue : (setRec s k r).meas.queue = s.meas.queue := rfl
@[simp] theorem setRec_meas_runA : (setRec s k r).meas.runA = s.meas.runA := rfl
@[simp] theorem setRec_meas_runB : (setRec s k r).meas.runB = s.meas.runB := rfl
@[simp] theorem setRec_meas_preA : (setRec s k r).meas.preA = s.meas.preA := rfl
@[simp] theorem setRec_meas_preB : (setRec s k r).meas.preB = s.meas.preB := rfl
@[simp] theorem setRec_meas_contWait : (setRec s k r).meas.contWait = s.meas.contWait := rfl
@[simp] theorem setRec_meas_runC : (setRec s k r).meas.runC = s.meas.runC := rfl
@[simp] theorem setRec_meas_cQueue : (setRec s k r).meas.cQueue = s.meas.cQueue := rfl
@[simp] theorem setRec_meas_nextRound : (setRec s k r).meas.nextRound = s.meas.nextRound := rfl
@[simp] theorem setRec_meas_scanDue : (setRec s k r).meas.scanDue = s.meas.scanDue := rfl
@[simp] theorem setRec_meas_scanAsked : (setRec s k r).meas.scanAsked = s.meas.scanAsked := rfl
@[simp] theorem setRec_meas_timers : (setRec s k r).meas.timers = s.meas.timers := rfl
@[simp] theorem setRec_meas_ai : (setRec s k r).meas.ai = s.meas.ai := rfl
@[simp] theorem setRec_meas_ao : (setRec s k r).meas.ao = s.meas.ao := rfl

end


/-- A record read after one is written. -/
@[simp] theorem getRec_setRec (s : State) (k j : Nat) (r : ResRec) :
    getRec (setRec s k r) j = if j = k then r else getRec s j := by
  by_cases h : j = k
  · simp only [h, if_true]; exact Table.getD_set_self _ _ _ _
  · simp only [h, if_false]; exact Table.getD_set_other _ _ _ h

/-! ### `modTrig` -/

section
variable (s : State) (t : Nat) (f : TrigRt → TrigRt)

@[simp] theorem modTrig_clk : (modTrig s t f).clk = s.clk := rfl
@[simp] theorem modTrig_free : (modTrig s t f).free = s.free := rfl
@[simp] theorem modTrig_power : (modTrig s t f).power = s.power := rfl
@[simp] theorem modTrig_warp : (modTrig s t f).warp = s.warp := rfl
@[simp] theorem modTrig_cal : (modTrig s t f).cal = s.cal := rfl
@[simp] theorem modTrig_loom : (modTrig s t f).loom = s.loom := rfl
@[simp] theorem modTrig_engine : (modTrig s t f).engine = s.engine := rfl
@[simp] theorem modTrig_valve : (modTrig s t f).valve = s.valve := rfl
@[simp] theorem modTrig_io : (modTrig s t f).io = s.io := rfl
@[simp] theorem modTrig_fans : (modTrig s t f).fans = s.fans := rfl
@[simp] theorem modTrig_disp : (modTrig s t f).disp = s.disp := rfl
@[simp] theorem modTrig_dict : (modTrig s t f).dict = s.dict := rfl
@[simp] theorem modTrig_host : (modTrig s t f).host = s.host := rfl
@[simp] theorem modTrig_images : (modTrig s t f).images = s.images := rfl
@[simp] theorem modTrig_can : (modTrig s t f).can = s.can := rfl
@[simp] theorem modTrig_pair : (modTrig s t f).pair = s.pair := rfl
@[simp] theorem modTrig_mem : (modTrig s t f).mem = s.mem := rfl
@[simp] theorem modTrig_therm : (modTrig s t f).therm = s.therm := rfl
@[simp] theorem modTrig_safety : (modTrig s t f).safety = s.safety := rfl
@[simp] theorem modTrig_snap : (modTrig s t f).snap = s.snap := rfl
@[simp] theorem modTrig_mram : (modTrig s t f).mram = s.mram := rfl
@[simp] theorem modTrig_alarms : (modTrig s t f).alarms = s.alarms := rfl
@[simp] theorem modTrig_pending : (modTrig s t f).pending = s.pending := rfl
@[simp] theorem modTrig_meas_refState : (modTrig s t f).meas.refState = s.meas.refState := rfl
@[simp] theorem modTrig_meas_refClk : (modTrig s t f).meas.refClk = s.meas.refClk := rfl
@[simp] theorem modTrig_meas_refGood : (modTrig s t f).meas.refGood = s.meas.refGood := rfl
@[simp] theorem modTrig_meas_noiseA : (modTrig s t f).meas.noiseA = s.meas.noiseA := rfl
@[simp] theorem modTrig_meas_noiseB : (modTrig s t f).meas.noiseB = s.meas.noiseB := rfl
@[simp] theorem modTrig_meas_noiseExcess : (modTrig s t f).meas.noiseExcess = s.meas.noiseExcess := rfl
@[simp] theorem modTrig_meas_noiseHour : (modTrig s t f).meas.noiseHour = s.meas.noiseHour := rfl
@[simp] theorem modTrig_meas_vboost : (modTrig s t f).meas.vboost = s.meas.vboost := rfl
@[simp] theorem modTrig_meas_trigLost : (modTrig s t f).meas.trigLost = s.meas.trigLost := rfl
@[simp] theorem modTrig_meas_recs : (modTrig s t f).meas.recs = s.meas.recs := rfl
@[simp] theorem modTrig_meas_coming : (modTrig s t f).meas.coming = s.meas.coming := rfl
@[simp] theorem modTrig_meas_queue : (modTrig s t f).meas.queue = s.meas.queue := rfl
@[simp] theorem modTrig_meas_runA : (modTrig s t f).meas.runA = s.meas.runA := rfl
@[simp] theorem modTrig_meas_runB : (modTrig s t f).meas.runB = s.meas.runB := rfl
@[simp] theorem modTrig_meas_preA : (modTrig s t f).meas.preA = s.meas.preA := rfl
@[simp] theorem modTrig_meas_preB : (modTrig s t f).meas.preB = s.meas.preB := rfl
@[simp] theorem modTrig_meas_contWait : (modTrig s t f).meas.contWait = s.meas.contWait := rfl
@[simp] theorem modTrig_meas_runC : (modTrig s t f).meas.runC = s.meas.runC := rfl
@[simp] theorem modTrig_meas_cQueue : (modTrig s t f).meas.cQueue = s.meas.cQueue := rfl
@[simp] theorem modTrig_meas_nextRound : (modTrig s t f).meas.nextRound = s.meas.nextRound := rfl
@[simp] theorem modTrig_meas_scanDue : (modTrig s t f).meas.scanDue = s.meas.scanDue := rfl
@[simp] theorem modTrig_meas_scanAsked : (modTrig s t f).meas.scanAsked = s.meas.scanAsked := rfl
@[simp] theorem modTrig_meas_timers : (modTrig s t f).meas.timers = s.meas.timers := rfl
@[simp] theorem modTrig_meas_ai : (modTrig s t f).meas.ai = s.meas.ai := rfl
@[simp] theorem modTrig_meas_ao : (modTrig s t f).meas.ao = s.meas.ao := rfl

end


@[simp] theorem getTrig_modTrig (s : State) (t j : Nat) (f : TrigRt → TrigRt) :
    getTrig (modTrig s t f) j = if j = t then f (getTrig s t) else getTrig s j := Table.getD_modify _ _ _ _ _

/-! ### `modAi` -/

section
variable (s : State) (k : Nat) (f : AiRt → AiRt)

@[simp] theorem modAi_clk : (modAi s k f).clk = s.clk := rfl
@[simp] theorem modAi_free : (modAi s k f).free = s.free := rfl
@[simp] theorem modAi_power : (modAi s k f).power = s.power := rfl
@[simp] theorem modAi_warp : (modAi s k f).warp = s.warp := rfl
@[simp] theorem modAi_cal : (modAi s k f).cal = s.cal := rfl
@[simp] theorem modAi_loom : (modAi s k f).loom = s.loom := rfl
@[simp] theorem modAi_engine : (modAi s k f).engine = s.engine := rfl
@[simp] theorem modAi_valve : (modAi s k f).valve = s.valve := rfl
@[simp] theorem modAi_io : (modAi s k f).io = s.io := rfl
@[simp] theorem modAi_fans : (modAi s k f).fans = s.fans := rfl
@[simp] theorem modAi_disp : (modAi s k f).disp = s.disp := rfl
@[simp] theorem modAi_dict : (modAi s k f).dict = s.dict := rfl
@[simp] theorem modAi_host : (modAi s k f).host = s.host := rfl
@[simp] theorem modAi_images : (modAi s k f).images = s.images := rfl
@[simp] theorem modAi_can : (modAi s k f).can = s.can := rfl
@[simp] theorem modAi_pair : (modAi s k f).pair = s.pair := rfl
@[simp] theorem modAi_mem : (modAi s k f).mem = s.mem := rfl
@[simp] theorem modAi_therm : (modAi s k f).therm = s.therm := rfl
@[simp] theorem modAi_safety : (modAi s k f).safety = s.safety := rfl
@[simp] theorem modAi_snap : (modAi s k f).snap = s.snap := rfl
@[simp] theorem modAi_mram : (modAi s k f).mram = s.mram := rfl
@[simp] theorem modAi_alarms : (modAi s k f).alarms = s.alarms := rfl
@[simp] theorem modAi_pending : (modAi s k f).pending = s.pending := rfl
@[simp] theorem modAi_meas_refState : (modAi s k f).meas.refState = s.meas.refState := rfl
@[simp] theorem modAi_meas_refClk : (modAi s k f).meas.refClk = s.meas.refClk := rfl
@[simp] theorem modAi_meas_refGood : (modAi s k f).meas.refGood = s.meas.refGood := rfl
@[simp] theorem modAi_meas_noiseA : (modAi s k f).meas.noiseA = s.meas.noiseA := rfl
@[simp] theorem modAi_meas_noiseB : (modAi s k f).meas.noiseB = s.meas.noiseB := rfl
@[simp] theorem modAi_meas_noiseExcess : (modAi s k f).meas.noiseExcess = s.meas.noiseExcess := rfl
@[simp] theorem modAi_meas_noiseHour : (modAi s k f).meas.noiseHour = s.meas.noiseHour := rfl
@[simp] theorem modAi_meas_vboost : (modAi s k f).meas.vboost = s.meas.vboost := rfl
@[simp] theorem modAi_meas_trigLost : (modAi s k f).meas.trigLost = s.meas.trigLost := rfl
@[simp] theorem modAi_meas_recs : (modAi s k f).meas.recs = s.meas.recs := rfl
@[simp] theorem modAi_meas_trig : (modAi s k f).meas.trig = s.meas.trig := rfl
@[simp] theorem modAi_meas_coming : (modAi s k f).meas.coming = s.meas.coming := rfl
@[simp] theorem modAi_meas_queue : (modAi s k f).meas.queue = s.meas.queue := rfl
@[simp] theorem modAi_meas_runA : (modAi s k f).meas.runA = s.meas.runA := rfl
@[simp] theorem modAi_meas_runB : (modAi s k f).meas.runB = s.meas.runB := rfl
@[simp] theorem modAi_meas_preA : (modAi s k f).meas.preA = s.meas.preA := rfl
@[simp] theorem modAi_meas_preB : (modAi s k f).meas.preB = s.meas.preB := rfl
@[simp] theorem modAi_meas_contWait : (modAi s k f).meas.contWait = s.meas.contWait := rfl
@[simp] theorem modAi_meas_runC : (modAi s k f).meas.runC = s.meas.runC := rfl
@[simp] theorem modAi_meas_cQueue : (modAi s k f).meas.cQueue = s.meas.cQueue := rfl
@[simp] theorem modAi_meas_nextRound : (modAi s k f).meas.nextRound = s.meas.nextRound := rfl
@[simp] theorem modAi_meas_scanDue : (modAi s k f).meas.scanDue = s.meas.scanDue := rfl
@[simp] theorem modAi_meas_scanAsked : (modAi s k f).meas.scanAsked = s.meas.scanAsked := rfl
@[simp] theorem modAi_meas_timers : (modAi s k f).meas.timers = s.meas.timers := rfl
@[simp] theorem modAi_meas_ao : (modAi s k f).meas.ao = s.meas.ao := rfl

end


@[simp] theorem getAi_modAi (s : State) (k j : Nat) (f : AiRt → AiRt) :
    getAi (modAi s k f) j = if j = k then f (getAi s k) else getAi s j := Table.getD_modify _ _ _ _ _

/-! ### `modAo` -/

section
variable (s : State) (a : Nat) (f : AoRt → AoRt)

@[simp] theorem modAo_clk : (modAo s a f).clk = s.clk := rfl
@[simp] theorem modAo_free : (modAo s a f).free = s.free := rfl
@[simp] theorem modAo_power : (modAo s a f).power = s.power := rfl
@[simp] theorem modAo_warp : (modAo s a f).warp = s.warp := rfl
@[simp] theorem modAo_cal : (modAo s a f).cal = s.cal := rfl
@[simp] theorem modAo_loom : (modAo s a f).loom = s.loom := rfl
@[simp] theorem modAo_engine : (modAo s a f).engine = s.engine := rfl
@[simp] theorem modAo_valve : (modAo s a f).valve = s.valve := rfl
@[simp] theorem modAo_io : (modAo s a f).io = s.io := rfl
@[simp] theorem modAo_fans : (modAo s a f).fans = s.fans := rfl
@[simp] theorem modAo_disp : (modAo s a f).disp = s.disp := rfl
@[simp] theorem modAo_dict : (modAo s a f).dict = s.dict := rfl
@[simp] theorem modAo_host : (modAo s a f).host = s.host := rfl
@[simp] theorem modAo_images : (modAo s a f).images = s.images := rfl
@[simp] theorem modAo_can : (modAo s a f).can = s.can := rfl
@[simp] theorem modAo_pair : (modAo s a f).pair = s.pair := rfl
@[simp] theorem modAo_mem : (modAo s a f).mem = s.mem := rfl
@[simp] theorem modAo_therm : (modAo s a f).therm = s.therm := rfl
@[simp] theorem modAo_safety : (modAo s a f).safety = s.safety := rfl
@[simp] theorem modAo_snap : (modAo s a f).snap = s.snap := rfl
@[simp] theorem modAo_mram : (modAo s a f).mram = s.mram := rfl
@[simp] theorem modAo_alarms : (modAo s a f).alarms = s.alarms := rfl
@[simp] theorem modAo_pending : (modAo s a f).pending = s.pending := rfl
@[simp] theorem modAo_meas_refState : (modAo s a f).meas.refState = s.meas.refState := rfl
@[simp] theorem modAo_meas_refClk : (modAo s a f).meas.refClk = s.meas.refClk := rfl
@[simp] theorem modAo_meas_refGood : (modAo s a f).meas.refGood = s.meas.refGood := rfl
@[simp] theorem modAo_meas_noiseA : (modAo s a f).meas.noiseA = s.meas.noiseA := rfl
@[simp] theorem modAo_meas_noiseB : (modAo s a f).meas.noiseB = s.meas.noiseB := rfl
@[simp] theorem modAo_meas_noiseExcess : (modAo s a f).meas.noiseExcess = s.meas.noiseExcess := rfl
@[simp] theorem modAo_meas_noiseHour : (modAo s a f).meas.noiseHour = s.meas.noiseHour := rfl
@[simp] theorem modAo_meas_vboost : (modAo s a f).meas.vboost = s.meas.vboost := rfl
@[simp] theorem modAo_meas_trigLost : (modAo s a f).meas.trigLost = s.meas.trigLost := rfl
@[simp] theorem modAo_meas_recs : (modAo s a f).meas.recs = s.meas.recs := rfl
@[simp] theorem modAo_meas_trig : (modAo s a f).meas.trig = s.meas.trig := rfl
@[simp] theorem modAo_meas_coming : (modAo s a f).meas.coming = s.meas.coming := rfl
@[simp] theorem modAo_meas_queue : (modAo s a f).meas.queue = s.meas.queue := rfl
@[simp] theorem modAo_meas_runA : (modAo s a f).meas.runA = s.meas.runA := rfl
@[simp] theorem modAo_meas_runB : (modAo s a f).meas.runB = s.meas.runB := rfl
@[simp] theorem modAo_meas_preA : (modAo s a f).meas.preA = s.meas.preA := rfl
@[simp] theorem modAo_meas_preB : (modAo s a f).meas.preB = s.meas.preB := rfl
@[simp] theorem modAo_meas_contWait : (modAo s a f).meas.contWait = s.meas.contWait := rfl
@[simp] theorem modAo_meas_runC : (modAo s a f).meas.runC = s.meas.runC := rfl
@[simp] theorem modAo_meas_cQueue : (modAo s a f).meas.cQueue = s.meas.cQueue := rfl
@[simp] theorem modAo_meas_nextRound : (modAo s a f).meas.nextRound = s.meas.nextRound := rfl
@[simp] theorem modAo_meas_scanDue : (modAo s a f).meas.scanDue = s.meas.scanDue := rfl
@[simp] theorem modAo_meas_scanAsked : (modAo s a f).meas.scanAsked = s.meas.scanAsked := rfl
@[simp] theorem modAo_meas_timers : (modAo s a f).meas.timers = s.meas.timers := rfl
@[simp] theorem modAo_meas_ai : (modAo s a f).meas.ai = s.meas.ai := rfl

end


@[simp] theorem getAo_modAo (s : State) (a j : Nat) (f : AoRt → AoRt) :
    getAo (modAo s a f) j = if j = a then f (getAo s a) else getAo s j := Table.getD_modify _ _ _ _ _

/-! ### `modVlv` -/

section
variable (s : State) (v : Nat) (f : VlvRt → VlvRt)

@[simp] theorem modVlv_clk : (modVlv s v f).clk = s.clk := rfl
@[simp] theorem modVlv_free : (modVlv s v f).free = s.free := rfl
@[simp] theorem modVlv_power : (modVlv s v f).power = s.power := rfl
@[simp] theorem modVlv_warp : (modVlv s v f).warp = s.warp := rfl
@[simp] theorem modVlv_cal : (modVlv s v f).cal = s.cal := rfl
@[simp] theorem modVlv_loom : (modVlv s v f).loom = s.loom := rfl
@[simp] theorem modVlv_engine : (modVlv s v f).engine = s.engine := rfl
@[simp] theorem modVlv_meas : (modVlv s v f).meas = s.meas := rfl
@[simp] theorem modVlv_io : (modVlv s v f).io = s.io := rfl
@[simp] theorem modVlv_fans : (modVlv s v f).fans = s.fans := rfl
@[simp] theorem modVlv_disp : (modVlv s v f).disp = s.disp := rfl
@[simp] theorem modVlv_dict : (modVlv s v f).dict = s.dict := rfl
@[simp] theorem modVlv_host : (modVlv s v f).host = s.host := rfl
@[simp] theorem modVlv_images : (modVlv s v f).images = s.images := rfl
@[simp] theorem modVlv_can : (modVlv s v f).can = s.can := rfl
@[simp] theorem modVlv_pair : (modVlv s v f).pair = s.pair := rfl
@[simp] theorem modVlv_mem : (modVlv s v f).mem = s.mem := rfl
@[simp] theorem modVlv_therm : (modVlv s v f).therm = s.therm := rfl
@[simp] theorem modVlv_safety : (modVlv s v f).safety = s.safety := rfl
@[simp] theorem modVlv_snap : (modVlv s v f).snap = s.snap := rfl
@[simp] theorem modVlv_mram : (modVlv s v f).mram = s.mram := rfl
@[simp] theorem modVlv_alarms : (modVlv s v f).alarms = s.alarms := rfl
@[simp] theorem modVlv_pending : (modVlv s v f).pending = s.pending := rfl
@[simp] theorem modVlv_valve_banks : (modVlv s v f).valve.banks = s.valve.banks := rfl
@[simp] theorem modVlv_valve_cards : (modVlv s v f).valve.cards = s.valve.cards := rfl
@[simp] theorem modVlv_valve_loads : (modVlv s v f).valve.loads = s.valve.loads := rfl

end


@[simp] theorem getVlv_modVlv (s : State) (v j : Nat) (f : VlvRt → VlvRt) :
    getVlv (modVlv s v f) j = if j = v then f (getVlv s v) else getVlv s j := Table.getD_modify _ _ _ _ _

/-! ### `modBank` -/

section
variable (s : State) (b : Nat) (f : Bank → Bank)

@[simp] theorem modBank_clk : (modBank s b f).clk = s.clk := rfl
@[simp] theorem modBank_free : (modBank s b f).free = s.free := rfl
@[simp] theorem modBank_power : (modBank s b f).power = s.power := rfl
@[simp] theorem modBank_warp : (modBank s b f).warp = s.warp := rfl
@[simp] theorem modBank_cal : (modBank s b f).cal = s.cal := rfl
@[simp] theorem modBank_loom : (modBank s b f).loom = s.loom := rfl
@[simp] theorem modBank_engine : (modBank s b f).engine = s.engine := rfl
@[simp] theorem modBank_meas : (modBank s b f).meas = s.meas := rfl
@[simp] theorem modBank_io : (modBank s b f).io = s.io := rfl
@[simp] theorem modBank_fans : (modBank s b f).fans = s.fans := rfl
@[simp] theorem modBank_disp : (modBank s b f).disp = s.disp := rfl
@[simp] theorem modBank_dict : (modBank s b f).dict = s.dict := rfl
@[simp] theorem modBank_host : (modBank s b f).host = s.host := rfl
@[simp] theorem modBank_images : (modBank s b f).images = s.images := rfl
@[simp] theorem modBank_can : (modBank s b f).can = s.can := rfl
@[simp] theorem modBank_pair : (modBank s b f).pair = s.pair := rfl
@[simp] theorem modBank_mem : (modBank s b f).mem = s.mem := rfl
@[simp] theorem modBank_therm : (modBank s b f).therm = s.therm := rfl
@[simp] theorem modBank_safety : (modBank s b f).safety = s.safety := rfl
@[simp] theorem modBank_snap : (modBank s b f).snap = s.snap := rfl
@[simp] theorem modBank_mram : (modBank s b f).mram = s.mram := rfl
@[simp] theorem modBank_alarms : (modBank s b f).alarms = s.alarms := rfl
@[simp] theorem modBank_pending : (modBank s b f).pending = s.pending := rfl
@[simp] theorem modBank_valve_ch : (modBank s b f).valve.ch = s.valve.ch := rfl
@[simp] theorem modBank_valve_cards : (modBank s b f).valve.cards = s.valve.cards := rfl
@[simp] theorem modBank_valve_loads : (modBank s b f).valve.loads = s.valve.loads := rfl

end


@[simp] theorem getBank_modBank (s : State) (b j : Nat) (f : Bank → Bank) :
    getBank (modBank s b f) j = if j = b then f (getBank s b) else getBank s j := Table.getD_modify _ _ _ _ _

/-! ### `modIo` -/

section
variable (s : State) (i : Nat) (f : IoRt → IoRt)

@[simp] theorem modIo_clk : (modIo s i f).clk = s.clk := rfl
@[simp] theorem modIo_free : (modIo s i f).free = s.free := rfl
@[simp] theorem modIo_power : (modIo s i f).power = s.power := rfl
@[simp] theorem modIo_warp : (modIo s i f).warp = s.warp := rfl
@[simp] theorem modIo_cal : (modIo s i f).cal = s.cal := rfl
@[simp] theorem modIo_loom : (modIo s i f).loom = s.loom := rfl
@[simp] theorem modIo_engine : (modIo s i f).engine = s.engine := rfl
@[simp] theorem modIo_meas : (modIo s i f).meas = s.meas := rfl
@[simp] theorem modIo_valve : (modIo s i f).valve = s.valve := rfl
@[simp] theorem modIo_fans : (modIo s i f).fans = s.fans := rfl
@[simp] theorem modIo_disp : (modIo s i f).disp = s.disp := rfl
@[simp] theorem modIo_dict : (modIo s i f).dict = s.dict := rfl
@[simp] theorem modIo_host : (modIo s i f).host = s.host := rfl
@[simp] theorem modIo_images : (modIo s i f).images = s.images := rfl
@[simp] theorem modIo_can : (modIo s i f).can = s.can := rfl
@[simp] theorem modIo_pair : (modIo s i f).pair = s.pair := rfl
@[simp] theorem modIo_mem : (modIo s i f).mem = s.mem := rfl
@[simp] theorem modIo_therm : (modIo s i f).therm = s.therm := rfl
@[simp] theorem modIo_safety : (modIo s i f).safety = s.safety := rfl
@[simp] theorem modIo_snap : (modIo s i f).snap = s.snap := rfl
@[simp] theorem modIo_mram : (modIo s i f).mram = s.mram := rfl
@[simp] theorem modIo_alarms : (modIo s i f).alarms = s.alarms := rfl
@[simp] theorem modIo_pending : (modIo s i f).pending = s.pending := rfl
@[simp] theorem modIo_io_groups : (modIo s i f).io.groups = s.io.groups := rfl
@[simp] theorem modIo_io_linkUp : (modIo s i f).io.linkUp = s.io.linkUp := rfl
@[simp] theorem modIo_io_linkErrors : (modIo s i f).io.linkErrors = s.io.linkErrors := rfl
@[simp] theorem modIo_io_validRun : (modIo s i f).io.validRun = s.io.validRun := rfl
@[simp] theorem modIo_io_lastValid : (modIo s i f).io.lastValid = s.io.lastValid := rfl
@[simp] theorem modIo_io_fwd : (modIo s i f).io.fwd = s.io.fwd := rfl
@[simp] theorem modIo_io_fwdTrips : (modIo s i f).io.fwdTrips = s.io.fwdTrips := rfl
@[simp] theorem modIo_io_lastRefresh : (modIo s i f).io.lastRefresh = s.io.lastRefresh := rfl
@[simp] theorem modIo_io_refreshSince : (modIo s i f).io.refreshSince = s.io.refreshSince := rfl
@[simp] theorem modIo_io_power : (modIo s i f).io.power = s.io.power := rfl

end


@[simp] theorem getIo_modIo (s : State) (i j : Nat) (f : IoRt → IoRt) :
    getIo (modIo s i f) j = if j = i then f (getIo s i) else getIo s j := Table.getD_modify _ _ _ _ _

/-! ### `modGroup` -/

section
variable (s : State) (g : Nat) (f : IoGroup → IoGroup)

@[simp] theorem modGroup_clk : (modGroup s g f).clk = s.clk := rfl
@[simp] theorem modGroup_free : (modGroup s g f).free = s.free := rfl
@[simp] theorem modGroup_power : (modGroup s g f).power = s.power := rfl
@[simp] theorem modGroup_warp : (modGroup s g f).warp = s.warp := rfl
@[simp] theorem modGroup_cal : (modGroup s g f).cal = s.cal := rfl
@[simp] theorem modGroup_loom : (modGroup s g f).loom = s.loom := rfl
@[simp] theorem modGroup_engine : (modGroup s g f).engine = s.engine := rfl
@[simp] theorem modGroup_meas : (modGroup s g f).meas = s.meas := rfl
@[simp] theorem modGroup_valve : (modGroup s g f).valve = s.valve := rfl
@[simp] theorem modGroup_fans : (modGroup s g f).fans = s.fans := rfl
@[simp] theorem modGroup_disp : (modGroup s g f).disp = s.disp := rfl
@[simp] theorem modGroup_dict : (modGroup s g f).dict = s.dict := rfl
@[simp] theorem modGroup_host : (modGroup s g f).host = s.host := rfl
@[simp] theorem modGroup_images : (modGroup s g f).images = s.images := rfl
@[simp] theorem modGroup_can : (modGroup s g f).can = s.can := rfl
@[simp] theorem modGroup_pair : (modGroup s g f).pair = s.pair := rfl
@[simp] theorem modGroup_mem : (modGroup s g f).mem = s.mem := rfl
@[simp] theorem modGroup_therm : (modGroup s g f).therm = s.therm := rfl
@[simp] theorem modGroup_safety : (modGroup s g f).safety = s.safety := rfl
@[simp] theorem modGroup_snap : (modGroup s g f).snap = s.snap := rfl
@[simp] theorem modGroup_mram : (modGroup s g f).mram = s.mram := rfl
@[simp] theorem modGroup_alarms : (modGroup s g f).alarms = s.alarms := rfl
@[simp] theorem modGroup_pending : (modGroup s g f).pending = s.pending := rfl
@[simp] theorem modGroup_io_ch : (modGroup s g f).io.ch = s.io.ch := rfl
@[simp] theorem modGroup_io_linkUp : (modGroup s g f).io.linkUp = s.io.linkUp := rfl
@[simp] theorem modGroup_io_linkErrors : (modGroup s g f).io.linkErrors = s.io.linkErrors := rfl
@[simp] theorem modGroup_io_validRun : (modGroup s g f).io.validRun = s.io.validRun := rfl
@[simp] theorem modGroup_io_lastValid : (modGroup s g f).io.lastValid = s.io.lastValid := rfl
@[simp] theorem modGroup_io_fwd : (modGroup s g f).io.fwd = s.io.fwd := rfl
@[simp] theorem modGroup_io_fwdTrips : (modGroup s g f).io.fwdTrips = s.io.fwdTrips := rfl
@[simp] theorem modGroup_io_lastRefresh : (modGroup s g f).io.lastRefresh = s.io.lastRefresh := rfl
@[simp] theorem modGroup_io_refreshSince : (modGroup s g f).io.refreshSince = s.io.refreshSince := rfl
@[simp] theorem modGroup_io_power : (modGroup s g f).io.power = s.io.power := rfl

end


@[simp] theorem getGroup_modGroup (s : State) (g j : Nat) (f : IoGroup → IoGroup) :
    getGroup (modGroup s g f) j = if j = g then f (getGroup s g) else getGroup s j := Table.getD_modify _ _ _ _ _

/-! ### `modFan` -/

section
variable (s : State) (k : Nat) (f : FanRt → FanRt)

@[simp] theorem modFan_clk : (modFan s k f).clk = s.clk := rfl
@[simp] theorem modFan_free : (modFan s k f).free = s.free := rfl
@[simp] theorem modFan_power : (modFan s k f).power = s.power := rfl
@[simp] theorem modFan_warp : (modFan s k f).warp = s.warp := rfl
@[simp] theorem modFan_cal : (modFan s k f).cal = s.cal := rfl
@[simp] theorem modFan_loom : (modFan s k f).loom = s.loom := rfl
@[simp] theorem modFan_engine : (modFan s k f).engine = s.engine := rfl
@[simp] theorem modFan_meas : (modFan s k f).meas = s.meas := rfl
@[simp] theorem modFan_valve : (modFan s k f).valve = s.valve := rfl
@[simp] theorem modFan_io : (modFan s k f).io = s.io := rfl
@[simp] theorem modFan_disp : (modFan s k f).disp = s.disp := rfl
@[simp] theorem modFan_dict : (modFan s k f).dict = s.dict := rfl
@[simp] theorem modFan_host : (modFan s k f).host = s.host := rfl
@[simp] theorem modFan_images : (modFan s k f).images = s.images := rfl
@[simp] theorem modFan_can : (modFan s k f).can = s.can := rfl
@[simp] theorem modFan_pair : (modFan s k f).pair = s.pair := rfl
@[simp] theorem modFan_mem : (modFan s k f).mem = s.mem := rfl
@[simp] theorem modFan_therm : (modFan s k f).therm = s.therm := rfl
@[simp] theorem modFan_safety : (modFan s k f).safety = s.safety := rfl
@[simp] theorem modFan_snap : (modFan s k f).snap = s.snap := rfl
@[simp] theorem modFan_mram : (modFan s k f).mram = s.mram := rfl
@[simp] theorem modFan_alarms : (modFan s k f).alarms = s.alarms := rfl
@[simp] theorem modFan_pending : (modFan s k f).pending = s.pending := rfl

end


@[simp] theorem getFan_modFan (s : State) (k j : Nat) (f : FanRt → FanRt) :
    getFan (modFan s k f) j = if j = k then f (getFan s k) else getFan s j := Table.getD_modify _ _ _ _ _

/-! ### `modCan` -/

section
variable (s : State) (x : Nat) (f : CanRt → CanRt)

@[simp] theorem modCan_clk : (modCan s x f).clk = s.clk := rfl
@[simp] theorem modCan_free : (modCan s x f).free = s.free := rfl
@[simp] theorem modCan_power : (modCan s x f).power = s.power := rfl
@[simp] theorem modCan_warp : (modCan s x f).warp = s.warp := rfl
@[simp] theorem modCan_cal : (modCan s x f).cal = s.cal := rfl
@[simp] theorem modCan_loom : (modCan s x f).loom = s.loom := rfl
@[simp] theorem modCan_engine : (modCan s x f).engine = s.engine := rfl
@[simp] theorem modCan_meas : (modCan s x f).meas = s.meas := rfl
@[simp] theorem modCan_valve : (modCan s x f).valve = s.valve := rfl
@[simp] theorem modCan_io : (modCan s x f).io = s.io := rfl
@[simp] theorem modCan_fans : (modCan s x f).fans = s.fans := rfl
@[simp] theorem modCan_disp : (modCan s x f).disp = s.disp := rfl
@[simp] theorem modCan_dict : (modCan s x f).dict = s.dict := rfl
@[simp] theorem modCan_host : (modCan s x f).host = s.host := rfl
@[simp] theorem modCan_images : (modCan s x f).images = s.images := rfl
@[simp] theorem modCan_pair : (modCan s x f).pair = s.pair := rfl
@[simp] theorem modCan_mem : (modCan s x f).mem = s.mem := rfl
@[simp] theorem modCan_therm : (modCan s x f).therm = s.therm := rfl
@[simp] theorem modCan_safety : (modCan s x f).safety = s.safety := rfl
@[simp] theorem modCan_snap : (modCan s x f).snap = s.snap := rfl
@[simp] theorem modCan_mram : (modCan s x f).mram = s.mram := rfl
@[simp] theorem modCan_alarms : (modCan s x f).alarms = s.alarms := rfl
@[simp] theorem modCan_pending : (modCan s x f).pending = s.pending := rfl

end


@[simp] theorem getCan_modCan (s : State) (x j : Nat) (f : CanRt → CanRt) :
    getCan (modCan s x f) j = if j = x then f (getCan s x) else getCan s j := Table.getD_modify _ _ _ _ _

/-! ### `modSensor` -/

section
variable (s : State) (i : Nat) (f : Sensor → Sensor)

@[simp] theorem modSensor_clk : (modSensor s i f).clk = s.clk := rfl
@[simp] theorem modSensor_free : (modSensor s i f).free = s.free := rfl
@[simp] theorem modSensor_power : (modSensor s i f).power = s.power := rfl
@[simp] theorem modSensor_warp : (modSensor s i f).warp = s.warp := rfl
@[simp] theorem modSensor_cal : (modSensor s i f).cal = s.cal := rfl
@[simp] theorem modSensor_loom : (modSensor s i f).loom = s.loom := rfl
@[simp] theorem modSensor_engine : (modSensor s i f).engine = s.engine := rfl
@[simp] theorem modSensor_meas : (modSensor s i f).meas = s.meas := rfl
@[simp] theorem modSensor_valve : (modSensor s i f).valve = s.valve := rfl
@[simp] theorem modSensor_io : (modSensor s i f).io = s.io := rfl
@[simp] theorem modSensor_fans : (modSensor s i f).fans = s.fans := rfl
@[simp] theorem modSensor_disp : (modSensor s i f).disp = s.disp := rfl
@[simp] theorem modSensor_dict : (modSensor s i f).dict = s.dict := rfl
@[simp] theorem modSensor_host : (modSensor s i f).host = s.host := rfl
@[simp] theorem modSensor_images : (modSensor s i f).images = s.images := rfl
@[simp] theorem modSensor_can : (modSensor s i f).can = s.can := rfl
@[simp] theorem modSensor_pair : (modSensor s i f).pair = s.pair := rfl
@[simp] theorem modSensor_mem : (modSensor s i f).mem = s.mem := rfl
@[simp] theorem modSensor_safety : (modSensor s i f).safety = s.safety := rfl
@[simp] theorem modSensor_snap : (modSensor s i f).snap = s.snap := rfl
@[simp] theorem modSensor_mram : (modSensor s i f).mram = s.mram := rfl
@[simp] theorem modSensor_alarms : (modSensor s i f).alarms = s.alarms := rfl
@[simp] theorem modSensor_pending : (modSensor s i f).pending = s.pending := rfl
@[simp] theorem modSensor_therm_off : (modSensor s i f).therm.off = s.therm.off := rfl
@[simp] theorem modSensor_therm_riseActive : (modSensor s i f).therm.riseActive = s.therm.riseActive := rfl
@[simp] theorem modSensor_therm_riseCalm : (modSensor s i f).therm.riseCalm = s.therm.riseCalm := rfl
@[simp] theorem modSensor_therm_tempSteps : (modSensor s i f).therm.tempSteps = s.therm.tempSteps := rfl
@[simp] theorem modSensor_therm_steps : (modSensor s i f).therm.steps = s.therm.steps := rfl
@[simp] theorem modSensor_therm_causes : (modSensor s i f).therm.causes = s.therm.causes := rfl
@[simp] theorem modSensor_therm_dState : (modSensor s i f).therm.dState = s.therm.dState := rfl
@[simp] theorem modSensor_therm_lState : (modSensor s i f).therm.lState = s.therm.lState := rfl
@[simp] theorem modSensor_therm_dRestarts : (modSensor s i f).therm.dRestarts = s.therm.dRestarts := rfl
@[simp] theorem modSensor_therm_lRestarts : (modSensor s i f).therm.lRestarts = s.therm.lRestarts := rfl
@[simp] theorem modSensor_therm_vrefCorr : (modSensor s i f).therm.vrefCorr = s.therm.vrefCorr := rfl
@[simp] theorem modSensor_therm_flags : (modSensor s i f).therm.flags = s.therm.flags := rfl
@[simp] theorem modSensor_therm_disagreeRun : (modSensor s i f).therm.disagreeRun = s.therm.disagreeRun := rfl
@[simp] theorem modSensor_therm_roundDone : (modSensor s i f).therm.roundDone = s.therm.roundDone := rfl
@[simp] theorem modSensor_therm_nextTemp : (modSensor s i f).therm.nextTemp = s.therm.nextTemp := rfl

end


@[simp] theorem getSensor_modSensor (s : State) (i j : Nat) (f : Sensor → Sensor) :
    getSensor (modSensor s i f) j = if j = i then f (getSensor s i) else getSensor s j := Table.getD_modify _ _ _ _ _

/-! ### `modSafe` -/

section
variable (s : State) (c : Nat) (f : SafeRt → SafeRt)

@[simp] theorem modSafe_clk : (modSafe s c f).clk = s.clk := rfl
@[simp] theorem modSafe_free : (modSafe s c f).free = s.free := rfl
@[simp] theorem modSafe_power : (modSafe s c f).power = s.power := rfl
@[simp] theorem modSafe_warp : (modSafe s c f).warp = s.warp := rfl
@[simp] theorem modSafe_cal : (modSafe s c f).cal = s.cal := rfl
@[simp] theorem modSafe_loom : (modSafe s c f).loom = s.loom := rfl
@[simp] theorem modSafe_engine : (modSafe s c f).engine = s.engine := rfl
@[simp] theorem modSafe_meas : (modSafe s c f).meas = s.meas := rfl
@[simp] theorem modSafe_valve : (modSafe s c f).valve = s.valve := rfl
@[simp] theorem modSafe_io : (modSafe s c f).io = s.io := rfl
@[simp] theorem modSafe_fans : (modSafe s c f).fans = s.fans := rfl
@[simp] theorem modSafe_disp : (modSafe s c f).disp = s.disp := rfl
@[simp] theorem modSafe_dict : (modSafe s c f).dict = s.dict := rfl
@[simp] theorem modSafe_host : (modSafe s c f).host = s.host := rfl
@[simp] theorem modSafe_images : (modSafe s c f).images = s.images := rfl
@[simp] theorem modSafe_can : (modSafe s c f).can = s.can := rfl
@[simp] theorem modSafe_pair : (modSafe s c f).pair = s.pair := rfl
@[simp] theorem modSafe_mem : (modSafe s c f).mem = s.mem := rfl
@[simp] theorem modSafe_therm : (modSafe s c f).therm = s.therm := rfl
@[simp] theorem modSafe_snap : (modSafe s c f).snap = s.snap := rfl
@[simp] theorem modSafe_mram : (modSafe s c f).mram = s.mram := rfl
@[simp] theorem modSafe_alarms : (modSafe s c f).alarms = s.alarms := rfl
@[simp] theorem modSafe_pending : (modSafe s c f).pending = s.pending := rfl
@[simp] theorem modSafe_safety_st : (modSafe s c f).safety.st = s.safety.st := rfl
@[simp] theorem modSafe_safety_failures : (modSafe s c f).safety.failures = s.safety.failures := rfl
@[simp] theorem modSafe_safety_lastAt : (modSafe s c f).safety.lastAt = s.safety.lastAt := rfl
@[simp] theorem modSafe_safety_latched : (modSafe s c f).safety.latched = s.safety.latched := rfl
@[simp] theorem modSafe_safety_stopAt : (modSafe s c f).safety.stopAt = s.safety.stopAt := rfl
@[simp] theorem modSafe_safety_autoTimes : (modSafe s c f).safety.autoTimes = s.safety.autoTimes := rfl
@[simp] theorem modSafe_safety_windowAt : (modSafe s c f).safety.windowAt = s.safety.windowAt := rfl
@[simp] theorem modSafe_safety_coresDone : (modSafe s c f).safety.coresDone = s.safety.coresDone := rfl
@[simp] theorem modSafe_safety_watchdogBad : (modSafe s c f).safety.watchdogBad = s.safety.watchdogBad := rfl
@[simp] theorem modSafe_safety_safeA : (modSafe s c f).safety.safeA = s.safety.safeA := rfl
@[simp] theorem modSafe_safety_safeB : (modSafe s c f).safety.safeB = s.safety.safeB := rfl
@[simp] theorem modSafe_safety_nextToggle : (modSafe s c f).safety.nextToggle = s.safety.nextToggle := rfl
@[simp] theorem modSafe_safety_faultN : (modSafe s c f).safety.faultN = s.safety.faultN := rfl
@[simp] theorem modSafe_safety_nextCheck : (modSafe s c f).safety.nextCheck = s.safety.nextCheck := rfl
@[simp] theorem modSafe_safety_inputs : (modSafe s c f).safety.inputs = s.safety.inputs := rfl

end


@[simp] theorem getSafe_modSafe (s : State) (c j : Nat) (f : SafeRt → SafeRt) :
    getSafe (modSafe s c f) j = if j = c then f (getSafe s c) else getSafe s j := Table.getD_modify _ _ _ _ _

/-! ### `modSlot` -/

section
variable (s : State) (k : Nat) (f : SnapSlot → SnapSlot)

@[simp] theorem modSlot_clk : (modSlot s k f).clk = s.clk := rfl
@[simp] theorem modSlot_free : (modSlot s k f).free = s.free := rfl
@[simp] theorem modSlot_power : (modSlot s k f).power = s.power := rfl
@[simp] theorem modSlot_warp : (modSlot s k f).warp = s.warp := rfl
@[simp] theorem modSlot_cal : (modSlot s k f).cal = s.cal := rfl
@[simp] theorem modSlot_loom : (modSlot s k f).loom = s.loom := rfl
@[simp] theorem modSlot_engine : (modSlot s k f).engine = s.engine := rfl
@[simp] theorem modSlot_meas : (modSlot s k f).meas = s.meas := rfl
@[simp] theorem modSlot_valve : (modSlot s k f).valve = s.valve := rfl
@[simp] theorem modSlot_io : (modSlot s k f).io = s.io := rfl
@[simp] theorem modSlot_fans : (modSlot s k f).fans = s.fans := rfl
@[simp] theorem modSlot_disp : (modSlot s k f).disp = s.disp := rfl
@[simp] theorem modSlot_dict : (modSlot s k f).dict = s.dict := rfl
@[simp] theorem modSlot_host : (modSlot s k f).host = s.host := rfl
@[simp] theorem modSlot_images : (modSlot s k f).images = s.images := rfl
@[simp] theorem modSlot_can : (modSlot s k f).can = s.can := rfl
@[simp] theorem modSlot_pair : (modSlot s k f).pair = s.pair := rfl
@[simp] theorem modSlot_mem : (modSlot s k f).mem = s.mem := rfl
@[simp] theorem modSlot_therm : (modSlot s k f).therm = s.therm := rfl
@[simp] theorem modSlot_safety : (modSlot s k f).safety = s.safety := rfl
@[simp] theorem modSlot_mram : (modSlot s k f).mram = s.mram := rfl
@[simp] theorem modSlot_alarms : (modSlot s k f).alarms = s.alarms := rfl
@[simp] theorem modSlot_pending : (modSlot s k f).pending = s.pending := rfl
@[simp] theorem modSlot_snap_dropped : (modSlot s k f).snap.dropped = s.snap.dropped := rfl
@[simp] theorem modSlot_snap_delayed : (modSlot s k f).snap.delayed = s.snap.delayed := rfl
@[simp] theorem modSlot_snap_trigOut : (modSlot s k f).snap.trigOut = s.snap.trigOut := rfl
@[simp] theorem modSlot_snap_trigOutUntil : (modSlot s k f).snap.trigOutUntil = s.snap.trigOutUntil := rfl
@[simp] theorem modSlot_snap_queue : (modSlot s k f).snap.queue = s.snap.queue := rfl
@[simp] theorem modSlot_snap_lost : (modSlot s k f).snap.lost = s.snap.lost := rfl

end


@[simp] theorem getSlot_modSlot (s : State) (k j : Nat) (f : SnapSlot → SnapSlot) :
    getSlot (modSlot s k f) j = if j = k then f (getSlot s k) else getSlot s j := Table.getD_modify _ _ _ _ _

/-! ### `modSess` -/

section
variable (s : State) (x : Sess) (f : SessRec → SessRec)

@[simp] theorem modSess_clk : (modSess s x f).clk = s.clk := rfl
@[simp] theorem modSess_free : (modSess s x f).free = s.free := rfl
@[simp] theorem modSess_power : (modSess s x f).power = s.power := rfl
@[simp] theorem modSess_warp : (modSess s x f).warp = s.warp := rfl
@[simp] theorem modSess_cal : (modSess s x f).cal = s.cal := rfl
@[simp] theorem modSess_loom : (modSess s x f).loom = s.loom := rfl
@[simp] theorem modSess_engine : (modSess s x f).engine = s.engine := rfl
@[simp] theorem modSess_meas : (modSess s x f).meas = s.meas := rfl
@[simp] theorem modSess_valve : (modSess s x f).valve = s.valve := rfl
@[simp] theorem modSess_io : (modSess s x f).io = s.io := rfl
@[simp] theorem modSess_fans : (modSess s x f).fans = s.fans := rfl
@[simp] theorem modSess_disp : (modSess s x f).disp = s.disp := rfl
@[simp] theorem modSess_host : (modSess s x f).host = s.host := rfl
@[simp] theorem modSess_images : (modSess s x f).images = s.images := rfl
@[simp] theorem modSess_can : (modSess s x f).can = s.can := rfl
@[simp] theorem modSess_pair : (modSess s x f).pair = s.pair := rfl
@[simp] theorem modSess_mem : (modSess s x f).mem = s.mem := rfl
@[simp] theorem modSess_therm : (modSess s x f).therm = s.therm := rfl
@[simp] theorem modSess_safety : (modSess s x f).safety = s.safety := rfl
@[simp] theorem modSess_snap : (modSess s x f).snap = s.snap := rfl
@[simp] theorem modSess_mram : (modSess s x f).mram = s.mram := rfl
@[simp] theorem modSess_alarms : (modSess s x f).alarms = s.alarms := rfl
@[simp] theorem modSess_pending : (modSess s x f).pending = s.pending := rfl
@[simp] theorem modSess_dict_committed : (modSess s x f).dict.committed = s.dict.committed := rfl
@[simp] theorem modSess_dict_force : (modSess s x f).dict.force = s.dict.force := rfl
@[simp] theorem modSess_dict_waiting : (modSess s x f).dict.waiting = s.dict.waiting := rfl
@[simp] theorem modSess_dict_gen : (modSess s x f).dict.gen = s.dict.gen := rfl
@[simp] theorem modSess_dict_st : (modSess s x f).dict.st = s.dict.st := rfl
@[simp] theorem modSess_dict_copyGen : (modSess s x f).dict.copyGen = s.dict.copyGen := rfl
@[simp] theorem modSess_dict_dropped : (modSess s x f).dict.dropped = s.dict.dropped := rfl
@[simp] theorem modSess_dict_rwDirty : (modSess s x f).dict.rwDirty = s.dict.rwDirty := rfl
@[simp] theorem modSess_dict_job : (modSess s x f).dict.job = s.dict.job := rfl
@[simp] theorem modSess_dict_jobs : (modSess s x f).dict.jobs = s.dict.jobs := rfl

end


theorem getSess_modSess_self (s : State) (x : Sess) (f : SessRec → SessRec) :
    getSess (modSess s x f) x = f (getSess s x) := Table.getD_modify_self _ _ _ _

theorem getSess_modSess_other (s : State) (x y : Sess) (f : SessRec → SessRec) (h : sessKey y ≠ sessKey x) :
    getSess (modSess s x f) y = getSess s y := Table.getD_modify_other _ _ _ h

/-! ### `modPower` -/

section
variable (s : State) (f : Power → Power)

@[simp] theorem modPower_clk : (modPower s f).clk = s.clk := rfl
@[simp] theorem modPower_free : (modPower s f).free = s.free := rfl
@[simp] theorem modPower_warp : (modPower s f).warp = s.warp := rfl
@[simp] theorem modPower_cal : (modPower s f).cal = s.cal := rfl
@[simp] theorem modPower_loom : (modPower s f).loom = s.loom := rfl
@[simp] theorem modPower_engine : (modPower s f).engine = s.engine := rfl
@[simp] theorem modPower_meas : (modPower s f).meas = s.meas := rfl
@[simp] theorem modPower_valve : (modPower s f).valve = s.valve := rfl
@[simp] theorem modPower_io : (modPower s f).io = s.io := rfl
@[simp] theorem modPower_fans : (modPower s f).fans = s.fans := rfl
@[simp] theorem modPower_disp : (modPower s f).disp = s.disp := rfl
@[simp] theorem modPower_dict : (modPower s f).dict = s.dict := rfl
@[simp] theorem modPower_host : (modPower s f).host = s.host := rfl
@[simp] theorem modPower_images : (modPower s f).images = s.images := rfl
@[simp] theorem modPower_can : (modPower s f).can = s.can := rfl
@[simp] theorem modPower_pair : (modPower s f).pair = s.pair := rfl
@[simp] theorem modPower_mem : (modPower s f).mem = s.mem := rfl
@[simp] theorem modPower_therm : (modPower s f).therm = s.therm := rfl
@[simp] theorem modPower_safety : (modPower s f).safety = s.safety := rfl
@[simp] theorem modPower_snap : (modPower s f).snap = s.snap := rfl
@[simp] theorem modPower_mram : (modPower s f).mram = s.mram := rfl
@[simp] theorem modPower_alarms : (modPower s f).alarms = s.alarms := rfl
@[simp] theorem modPower_pending : (modPower s f).pending = s.pending := rfl

end


@[simp] theorem modPower_power (s : State) (f : Power → Power) : (modPower s f).power = f s.power := rfl

/-! ### `modDisp` -/

section
variable (s : State) (f : Disp → Disp)

@[simp] theorem modDisp_clk : (modDisp s f).clk = s.clk := rfl
@[simp] theorem modDisp_free : (modDisp s f).free = s.free := rfl
@[simp] theorem modDisp_power : (modDisp s f).power = s.power := rfl
@[simp] theorem modDisp_warp : (modDisp s f).warp = s.warp := rfl
@[simp] theorem modDisp_cal : (modDisp s f).cal = s.cal := rfl
@[simp] theorem modDisp_loom : (modDisp s f).loom = s.loom := rfl
@[simp] theorem modDisp_engine : (modDisp s f).engine = s.engine := rfl
@[simp] theorem modDisp_meas : (modDisp s f).meas = s.meas := rfl
@[simp] theorem modDisp_valve : (modDisp s f).valve = s.valve := rfl
@[simp] theorem modDisp_io : (modDisp s f).io = s.io := rfl
@[simp] theorem modDisp_fans : (modDisp s f).fans = s.fans := rfl
@[simp] theorem modDisp_dict : (modDisp s f).dict = s.dict := rfl
@[simp] theorem modDisp_host : (modDisp s f).host = s.host := rfl
@[simp] theorem modDisp_images : (modDisp s f).images = s.images := rfl
@[simp] theorem modDisp_can : (modDisp s f).can = s.can := rfl
@[simp] theorem modDisp_pair : (modDisp s f).pair = s.pair := rfl
@[simp] theorem modDisp_mem : (modDisp s f).mem = s.mem := rfl
@[simp] theorem modDisp_therm : (modDisp s f).therm = s.therm := rfl
@[simp] theorem modDisp_safety : (modDisp s f).safety = s.safety := rfl
@[simp] theorem modDisp_snap : (modDisp s f).snap = s.snap := rfl
@[simp] theorem modDisp_mram : (modDisp s f).mram = s.mram := rfl
@[simp] theorem modDisp_alarms : (modDisp s f).alarms = s.alarms := rfl
@[simp] theorem modDisp_pending : (modDisp s f).pending = s.pending := rfl

end


@[simp] theorem modDisp_disp (s : State) (f : Disp → Disp) : (modDisp s f).disp = f s.disp := rfl

/-! ### `modImages` -/

section
variable (s : State) (f : Images → Images)

@[simp] theorem modImages_clk : (modImages s f).clk = s.clk := rfl
@[simp] theorem modImages_free : (modImages s f).free = s.free := rfl
@[simp] theorem modImages_power : (modImages s f).power = s.power := rfl
@[simp] theorem modImages_warp : (modImages s f).warp = s.warp := rfl
@[simp] theorem modImages_cal : (modImages s f).cal = s.cal := rfl
@[simp] theorem modImages_loom : (modImages s f).loom = s.loom := rfl
@[simp] theorem modImages_engine : (modImages s f).engine = s.engine := rfl
@[simp] theorem modImages_meas : (modImages s f).meas = s.meas := rfl
@[simp] theorem modImages_valve : (modImages s f).valve = s.valve := rfl
@[simp] theorem modImages_io : (modImages s f).io = s.io := rfl
@[simp] theorem modImages_fans : (modImages s f).fans = s.fans := rfl
@[simp] theorem modImages_disp : (modImages s f).disp = s.disp := rfl
@[simp] theorem modImages_dict : (modImages s f).dict = s.dict := rfl
@[simp] theorem modImages_host : (modImages s f).host = s.host := rfl
@[simp] theorem modImages_can : (modImages s f).can = s.can := rfl
@[simp] theorem modImages_pair : (modImages s f).pair = s.pair := rfl
@[simp] theorem modImages_mem : (modImages s f).mem = s.mem := rfl
@[simp] theorem modImages_therm : (modImages s f).therm = s.therm := rfl
@[simp] theorem modImages_safety : (modImages s f).safety = s.safety := rfl
@[simp] theorem modImages_snap : (modImages s f).snap = s.snap := rfl
@[simp] theorem modImages_mram : (modImages s f).mram = s.mram := rfl
@[simp] theorem modImages_alarms : (modImages s f).alarms = s.alarms := rfl
@[simp] theorem modImages_pending : (modImages s f).pending = s.pending := rfl

end


@[simp] theorem modImages_images (s : State) (f : Images → Images) : (modImages s f).images = f s.images := rfl

/-! ### `modPair` -/

section
variable (s : State) (f : Pair → Pair)

@[simp] theorem modPair_clk : (modPair s f).clk = s.clk := rfl
@[simp] theorem modPair_free : (modPair s f).free = s.free := rfl
@[simp] theorem modPair_power : (modPair s f).power = s.power := rfl
@[simp] theorem modPair_warp : (modPair s f).warp = s.warp := rfl
@[simp] theorem modPair_cal : (modPair s f).cal = s.cal := rfl
@[simp] theorem modPair_loom : (modPair s f).loom = s.loom := rfl
@[simp] theorem modPair_engine : (modPair s f).engine = s.engine := rfl
@[simp] theorem modPair_meas : (modPair s f).meas = s.meas := rfl
@[simp] theorem modPair_valve : (modPair s f).valve = s.valve := rfl
@[simp] theorem modPair_io : (modPair s f).io = s.io := rfl
@[simp] theorem modPair_fans : (modPair s f).fans = s.fans := rfl
@[simp] theorem modPair_disp : (modPair s f).disp = s.disp := rfl
@[simp] theorem modPair_dict : (modPair s f).dict = s.dict := rfl
@[simp] theorem modPair_host : (modPair s f).host = s.host := rfl
@[simp] theorem modPair_images : (modPair s f).images = s.images := rfl
@[simp] theorem modPair_can : (modPair s f).can = s.can := rfl
@[simp] theorem modPair_mem : (modPair s f).mem = s.mem := rfl
@[simp] theorem modPair_therm : (modPair s f).therm = s.therm := rfl
@[simp] theorem modPair_safety : (modPair s f).safety = s.safety := rfl
@[simp] theorem modPair_snap : (modPair s f).snap = s.snap := rfl
@[simp] theorem modPair_mram : (modPair s f).mram = s.mram := rfl
@[simp] theorem modPair_alarms : (modPair s f).alarms = s.alarms := rfl
@[simp] theorem modPair_pending : (modPair s f).pending = s.pending := rfl

end


@[simp] theorem modPair_pair (s : State) (f : Pair → Pair) : (modPair s f).pair = f s.pair := rfl

/-! ### `setForce` -/

section
variable (s : State) (k : Nat) (v : Val)

@[simp] theorem setForce_clk : (setForce s k v).clk = s.clk := rfl
@[simp] theorem setForce_free : (setForce s k v).free = s.free := rfl
@[simp] theorem setForce_power : (setForce s k v).power = s.power := rfl
@[simp] theorem setForce_warp : (setForce s k v).warp = s.warp := rfl
@[simp] theorem setForce_cal : (setForce s k v).cal = s.cal := rfl
@[simp] theorem setForce_loom : (setForce s k v).loom = s.loom := rfl
@[simp] theorem setForce_engine : (setForce s k v).engine = s.engine := rfl
@[simp] theorem setForce_meas : (setForce s k v).meas = s.meas := rfl
@[simp] theorem setForce_valve : (setForce s k v).valve = s.valve := rfl
@[simp] theorem setForce_io : (setForce s k v).io = s.io := rfl
@[simp] theorem setForce_fans : (setForce s k v).fans = s.fans := rfl
@[simp] theorem setForce_disp : (setForce s k v).disp = s.disp := rfl
@[simp] theorem setForce_host : (setForce s k v).host = s.host := rfl
@[simp] theorem setForce_images : (setForce s k v).images = s.images := rfl
@[simp] theorem setForce_can : (setForce s k v).can = s.can := rfl
@[simp] theorem setForce_pair : (setForce s k v).pair = s.pair := rfl
@[simp] theorem setForce_mem : (setForce s k v).mem = s.mem := rfl
@[simp] theorem setForce_therm : (setForce s k v).therm = s.therm := rfl
@[simp] theorem setForce_safety : (setForce s k v).safety = s.safety := rfl
@[simp] theorem setForce_snap : (setForce s k v).snap = s.snap := rfl
@[simp] theorem setForce_mram : (setForce s k v).mram = s.mram := rfl
@[simp] theorem setForce_alarms : (setForce s k v).alarms = s.alarms := rfl
@[simp] theorem setForce_pending : (setForce s k v).pending = s.pending := rfl
@[simp] theorem setForce_dict_committed : (setForce s k v).dict.committed = s.dict.committed := rfl
@[simp] theorem setForce_dict_waiting : (setForce s k v).dict.waiting = s.dict.waiting := rfl
@[simp] theorem setForce_dict_gen : (setForce s k v).dict.gen = s.dict.gen := rfl
@[simp] theorem setForce_dict_st : (setForce s k v).dict.st = s.dict.st := rfl
@[simp] theorem setForce_dict_copyGen : (setForce s k v).dict.copyGen = s.dict.copyGen := rfl
@[simp] theorem setForce_dict_dropped : (setForce s k v).dict.dropped = s.dict.dropped := rfl
@[simp] theorem setForce_dict_rwDirty : (setForce s k v).dict.rwDirty = s.dict.rwDirty := rfl
@[simp] theorem setForce_dict_job : (setForce s k v).dict.job = s.dict.job := rfl
@[simp] theorem setForce_dict_jobs : (setForce s k v).dict.jobs = s.dict.jobs := rfl
@[simp] theorem setForce_dict_sessions : (setForce s k v).dict.sessions = s.dict.sessions := rfl

end


/-! ### `setCommitted` -/

section
variable (s : State) (k : Nat) (v : Val)

@[simp] theorem setCommitted_clk : (setCommitted s k v).clk = s.clk := rfl
@[simp] theorem setCommitted_free : (setCommitted s k v).free = s.free := rfl
@[simp] theorem setCommitted_power : (setCommitted s k v).power = s.power := rfl
@[simp] theorem setCommitted_warp : (setCommitted s k v).warp = s.warp := rfl
@[simp] theorem setCommitted_cal : (setCommitted s k v).cal = s.cal := rfl
@[simp] theorem setCommitted_loom : (setCommitted s k v).loom = s.loom := rfl
@[simp] theorem setCommitted_engine : (setCommitted s k v).engine = s.engine := rfl
@[simp] theorem setCommitted_meas : (setCommitted s k v).meas = s.meas := rfl
@[simp] theorem setCommitted_valve : (setCommitted s k v).valve = s.valve := rfl
@[simp] theorem setCommitted_io : (setCommitted s k v).io = s.io := rfl
@[simp] theorem setCommitted_fans : (setCommitted s k v).fans = s.fans := rfl
@[simp] theorem setCommitted_disp : (setCommitted s k v).disp = s.disp := rfl
@[simp] theorem setCommitted_host : (setCommitted s k v).host = s.host := rfl
@[simp] theorem setCommitted_images : (setCommitted s k v).images = s.images := rfl
@[simp] theorem setCommitted_can : (setCommitted s k v).can = s.can := rfl
@[simp] theorem setCommitted_pair : (setCommitted s k v).pair = s.pair := rfl
@[simp] theorem setCommitted_mem : (setCommitted s k v).mem = s.mem := rfl
@[simp] theorem setCommitted_therm : (setCommitted s k v).therm = s.therm := rfl
@[simp] theorem setCommitted_safety : (setCommitted s k v).safety = s.safety := rfl
@[simp] theorem setCommitted_snap : (setCommitted s k v).snap = s.snap := rfl
@[simp] theorem setCommitted_mram : (setCommitted s k v).mram = s.mram := rfl
@[simp] theorem setCommitted_alarms : (setCommitted s k v).alarms = s.alarms := rfl
@[simp] theorem setCommitted_pending : (setCommitted s k v).pending = s.pending := rfl
@[simp] theorem setCommitted_dict_force : (setCommitted s k v).dict.force = s.dict.force := rfl
@[simp] theorem setCommitted_dict_waiting : (setCommitted s k v).dict.waiting = s.dict.waiting := rfl
@[simp] theorem setCommitted_dict_gen : (setCommitted s k v).dict.gen = s.dict.gen := rfl
@[simp] theorem setCommitted_dict_st : (setCommitted s k v).dict.st = s.dict.st := rfl
@[simp] theorem setCommitted_dict_copyGen : (setCommitted s k v).dict.copyGen = s.dict.copyGen := rfl
@[simp] theorem setCommitted_dict_dropped : (setCommitted s k v).dict.dropped = s.dict.dropped := rfl
@[simp] theorem setCommitted_dict_rwDirty : (setCommitted s k v).dict.rwDirty = s.dict.rwDirty := rfl
@[simp] theorem setCommitted_dict_job : (setCommitted s k v).dict.job = s.dict.job := rfl
@[simp] theorem setCommitted_dict_jobs : (setCommitted s k v).dict.jobs = s.dict.jobs := rfl
@[simp] theorem setCommitted_dict_sessions : (setCommitted s k v).dict.sessions = s.dict.sessions := rfl

end


/-! ### `takeFree` -/

section
variable (s : State)

@[simp] theorem takeFree_clk : (takeFree s).2.clk = s.clk := rfl
@[simp] theorem takeFree_power : (takeFree s).2.power = s.power := rfl
@[simp] theorem takeFree_warp : (takeFree s).2.warp = s.warp := rfl
@[simp] theorem takeFree_cal : (takeFree s).2.cal = s.cal := rfl
@[simp] theorem takeFree_loom : (takeFree s).2.loom = s.loom := rfl
@[simp] theorem takeFree_engine : (takeFree s).2.engine = s.engine := rfl
@[simp] theorem takeFree_meas : (takeFree s).2.meas = s.meas := rfl
@[simp] theorem takeFree_valve : (takeFree s).2.valve = s.valve := rfl
@[simp] theorem takeFree_io : (takeFree s).2.io = s.io := rfl
@[simp] theorem takeFree_fans : (takeFree s).2.fans = s.fans := rfl
@[simp] theorem takeFree_disp : (takeFree s).2.disp = s.disp := rfl
@[simp] theorem takeFree_dict : (takeFree s).2.dict = s.dict := rfl
@[simp] theorem takeFree_host : (takeFree s).2.host = s.host := rfl
@[simp] theorem takeFree_images : (takeFree s).2.images = s.images := rfl
@[simp] theorem takeFree_can : (takeFree s).2.can = s.can := rfl
@[simp] theorem takeFree_pair : (takeFree s).2.pair = s.pair := rfl
@[simp] theorem takeFree_mem : (takeFree s).2.mem = s.mem := rfl
@[simp] theorem takeFree_therm : (takeFree s).2.therm = s.therm := rfl
@[simp] theorem takeFree_safety : (takeFree s).2.safety = s.safety := rfl
@[simp] theorem takeFree_snap : (takeFree s).2.snap = s.snap := rfl
@[simp] theorem takeFree_mram : (takeFree s).2.mram = s.mram := rfl
@[simp] theorem takeFree_alarms : (takeFree s).2.alarms = s.alarms := rfl
@[simp] theorem takeFree_pending : (takeFree s).2.pending = s.pending := rfl

end


@[simp] theorem takeFree_free (s : State) : (takeFree s).2.free = s.free + 1 := rfl

end Sys2Proof.Machine
end

