-- ==== Sys2Proof/Laws/Tick.lean ====
section
/-! SUPPORT. What one engine clock does to the parts of the state. -/

namespace Sys2Proof.Machine

@[simp] theorem tick_pending (s : State) : (tick s).pending = s.pending := rfl
@[simp] theorem tick_clk (s : State) : (tick s).clk = s.clk + 1 := rfl
@[simp] theorem tick_warp (s : State) : (tick s).warp = warpTick s.warp := rfl
@[simp] theorem warpTick_cycle (w : Warp) : (warpTick w).cycle = w.cycle := rfl
@[simp] theorem warpTick_ws (w : Warp) : (warpTick w).ws = w.ws := rfl

/-- Warp's accumulator stays within its cycle. -/
theorem warpTick_frac_lt (w : Warp) : (warpTick w).frac < 2 ^ 48 := by
  unfold warpTick
  exact Nat.lt_of_le_of_lt (Nat.min_le_right _ _) (by decide)

/-- One engine clock keeps a sound machine sound. -/
theorem tick_sound {s : State} (h : Sound s) : Sound (tick s) :=
  ⟨h.sram, h.cards, h.ring, h.queue, h.hostEvents, h.nodeEvents⟩

end Sys2Proof.Machine
end

