-- ==== Sys2Proof/Laws/Within.lean ====
section
/-! SUPPORT. What it takes for an operation to write no part of the state outside a list of parts. -/

namespace Sys2Proof.Machine

/-- `t` is `s` outside the parts `l`, as an outcome. -/
def Leads (l : List Block) (s : State) (o : Out) : Prop := ∃ t, o = .next t ∧ Within l s t

variable {s₀ : State} {bs : List Block}

theorem within_next {t : State} (h : Within bs s₀ t) : Leads bs s₀ (.next t) := ⟨t, rfl, h⟩

theorem Within.refl (l : List Block) (s : State) : Within l s s := fun b _ => by cases b <;> rfl

/-- The parts of a state, one by one. -/
def WithinParts (bs : List Block) (s : State) (clk : Nat) (free : Nat) (power : Power) (warp : Warp) (cal : Cal) (loom : Loom) (engine : Engine) (meas : Meas) (valve : Valve) (io : FieldIo) (fans : Table FanRt) (disp : Disp) (dict : Dict) (host : HostPort) (images : Images) (can : Table CanRt) (pair : Pair) (mem : Mem) (therm : Therm) (safety : Safety) (snap : Snap) (mram : Mram) (alarms : List Alarm) (pending : List Instr) : Prop :=
  (Block.clk ∈ bs ∨ clk = s.clk) ∧
  (Block.free ∈ bs ∨ free = s.free) ∧
  (Block.power ∈ bs ∨ power = s.power) ∧
  (Block.warp ∈ bs ∨ warp = s.warp) ∧
  (Block.cal ∈ bs ∨ cal = s.cal) ∧
  (Block.loom ∈ bs ∨ loom = s.loom) ∧
  (Block.engine ∈ bs ∨ engine = s.engine) ∧
  (Block.meas ∈ bs ∨ meas = s.meas) ∧
  (Block.valve ∈ bs ∨ valve = s.valve) ∧
  (Block.io ∈ bs ∨ io = s.io) ∧
  (Block.fans ∈ bs ∨ fans = s.fans) ∧
  (Block.disp ∈ bs ∨ disp = s.disp) ∧
  (Block.dict ∈ bs ∨ dict = s.dict) ∧
  (Block.host ∈ bs ∨ host = s.host) ∧
  (Block.images ∈ bs ∨ images = s.images) ∧
  (Block.can ∈ bs ∨ can = s.can) ∧
  (Block.pair ∈ bs ∨ pair = s.pair) ∧
  (Block.mem ∈ bs ∨ mem = s.mem) ∧
  (Block.therm ∈ bs ∨ therm = s.therm) ∧
  (Block.safety ∈ bs ∨ safety = s.safety) ∧
  (Block.snap ∈ bs ∨ snap = s.snap) ∧
  (Block.mram ∈ bs ∨ mram = s.mram) ∧
  (Block.alarms ∈ bs ∨ alarms = s.alarms) ∧
  (Block.pending ∈ bs ∨ pending = s.pending)

theorem Within.iff_parts {t : State} : Within bs s₀ t ↔ WithinParts bs s₀ t.clk t.free t.power t.warp t.cal t.loom t.engine t.meas t.valve t.io t.fans t.disp t.dict t.host t.images t.can t.pair t.mem t.therm t.safety t.snap t.mram t.alarms t.pending := by
  constructor
  · intro h
    exact ⟨Classical.or_iff_not_imp_left.mpr (h .clk), Classical.or_iff_not_imp_left.mpr (h .free), Classical.or_iff_not_imp_left.mpr (h .power), Classical.or_iff_not_imp_left.mpr (h .warp), Classical.or_iff_not_imp_left.mpr (h .cal), Classical.or_iff_not_imp_left.mpr (h .loom), Classical.or_iff_not_imp_left.mpr (h .engine), Classical.or_iff_not_imp_left.mpr (h .meas), Classical.or_iff_not_imp_left.mpr (h .valve), Classical.or_iff_not_imp_left.mpr (h .io), Classical.or_iff_not_imp_left.mpr (h .fans), Classical.or_iff_not_imp_left.mpr (h .disp), Classical.or_iff_not_imp_left.mpr (h .dict), Classical.or_iff_not_imp_left.mpr (h .host), Classical.or_iff_not_imp_left.mpr (h .images), Classical.or_iff_not_imp_left.mpr (h .can), Classical.or_iff_not_imp_left.mpr (h .pair), Classical.or_iff_not_imp_left.mpr (h .mem), Classical.or_iff_not_imp_left.mpr (h .therm), Classical.or_iff_not_imp_left.mpr (h .safety), Classical.or_iff_not_imp_left.mpr (h .snap), Classical.or_iff_not_imp_left.mpr (h .mram), Classical.or_iff_not_imp_left.mpr (h .alarms), Classical.or_iff_not_imp_left.mpr (h .pending)⟩
  · intro h b hb
    obtain ⟨h0, h1, h2, h3, h4, h5, h6, h7, h8, h9, h10, h11, h12, h13, h14, h15, h16, h17, h18, h19, h20, h21, h22, h23⟩ := h
    cases b
    · exact h0.resolve_left hb
    · exact h1.resolve_left hb
    · exact h2.resolve_left hb
    · exact h3.resolve_left hb
    · exact h4.resolve_left hb
    · exact h5.resolve_left hb
    · exact h6.resolve_left hb
    · exact h7.resolve_left hb
    · exact h8.resolve_left hb
    · exact h9.resolve_left hb
    · exact h10.resolve_left hb
    · exact h11.resolve_left hb
    · exact h12.resolve_left hb
    · exact h13.resolve_left hb
    · exact h14.resolve_left hb
    · exact h15.resolve_left hb
    · exact h16.resolve_left hb
    · exact h17.resolve_left hb
    · exact h18.resolve_left hb
    · exact h19.resolve_left hb
    · exact h20.resolve_left hb
    · exact h21.resolve_left hb
    · exact h22.resolve_left hb
    · exact h23.resolve_left hb

theorem Within.parts {t : State} (h : Within bs s₀ t) : WithinParts bs s₀ t.clk t.free t.power t.warp t.cal t.loom t.engine t.meas t.valve t.io t.fans t.disp t.dict t.host t.images t.can t.pair t.mem t.therm t.safety t.snap t.mram t.alarms t.pending := Within.iff_parts.mp h

theorem within_mk (clk : Nat) (free : Nat) (power : Power) (warp : Warp) (cal : Cal) (loom : Loom) (engine : Engine) (meas : Meas) (valve : Valve) (io : FieldIo) (fans : Table FanRt) (disp : Disp) (dict : Dict) (host : HostPort) (images : Images) (can : Table CanRt) (pair : Pair) (mem : Mem) (therm : Therm) (safety : Safety) (snap : Snap) (mram : Mram) (alarms : List Alarm) (pending : List Instr) :
    Within bs s₀ (State.mk clk free power warp cal loom engine meas valve io fans disp dict host images can pair mem therm safety snap mram alarms pending) = WithinParts bs s₀ clk free power warp cal loom engine meas valve io fans disp dict host images can pair mem therm safety snap mram alarms pending := propext Within.iff_parts

theorem parts_alarms {t : State} {alarms : List Alarm} (hk : Within bs s₀ t) (h_alarms : Block.alarms ∈ bs) :
    WithinParts bs s₀ t.clk t.free t.power t.warp t.cal t.loom t.engine t.meas t.valve t.io t.fans t.disp t.dict t.host t.images t.can t.pair t.mem t.therm t.safety t.snap t.mram alarms t.pending := by
  obtain ⟨a0, a1, a2, a3, a4, a5, a6, a7, a8, a9, a10, a11, a12, a13, a14, a15, a16, a17, a18, a19, a20, a21, -, a23⟩ := hk.parts
  exact ⟨a0, a1, a2, a3, a4, a5, a6, a7, a8, a9, a10, a11, a12, a13, a14, a15, a16, a17, a18, a19, a20, a21, Or.inl h_alarms, a23⟩

theorem parts_cal {t : State} {cal : Cal} (hk : Within bs s₀ t) (h_cal : Block.cal ∈ bs) :
    WithinParts bs s₀ t.clk t.free t.power t.warp cal t.loom t.engine t.meas t.valve t.io t.fans t.disp t.dict t.host t.images t.can t.pair t.mem t.therm t.safety t.snap t.mram t.alarms t.pending := by
  obtain ⟨a0, a1, a2, a3, -, a5, a6, a7, a8, a9, a10, a11, a12, a13, a14, a15, a16, a17, a18, a19, a20, a21, a22, a23⟩ := hk.parts
  exact ⟨a0, a1, a2, a3, Or.inl h_cal, a5, a6, a7, a8, a9, a10, a11, a12, a13, a14, a15, a16, a17, a18, a19, a20, a21, a22, a23⟩

theorem parts_cal_therm {t : State} {cal : Cal} {therm : Therm} (hk : Within bs s₀ t) (h_cal : Block.cal ∈ bs) (h_therm : Block.therm ∈ bs) :
    WithinParts bs s₀ t.clk t.free t.power t.warp cal t.loom t.engine t.meas t.valve t.io t.fans t.disp t.dict t.host t.images t.can t.pair t.mem therm t.safety t.snap t.mram t.alarms t.pending := by
  obtain ⟨a0, a1, a2, a3, -, a5, a6, a7, a8, a9, a10, a11, a12, a13, a14, a15, a16, a17, -, a19, a20, a21, a22, a23⟩ := hk.parts
  exact ⟨a0, a1, a2, a3, Or.inl h_cal, a5, a6, a7, a8, a9, a10, a11, a12, a13, a14, a15, a16, a17, Or.inl h_therm, a19, a20, a21, a22, a23⟩

theorem parts_can {t : State} {can : Table CanRt} (hk : Within bs s₀ t) (h_can : Block.can ∈ bs) :
    WithinParts bs s₀ t.clk t.free t.power t.warp t.cal t.loom t.engine t.meas t.valve t.io t.fans t.disp t.dict t.host t.images can t.pair t.mem t.therm t.safety t.snap t.mram t.alarms t.pending := by
  obtain ⟨a0, a1, a2, a3, a4, a5, a6, a7, a8, a9, a10, a11, a12, a13, a14, -, a16, a17, a18, a19, a20, a21, a22, a23⟩ := hk.parts
  exact ⟨a0, a1, a2, a3, a4, a5, a6, a7, a8, a9, a10, a11, a12, a13, a14, Or.inl h_can, a16, a17, a18, a19, a20, a21, a22, a23⟩

theorem parts_dict {t : State} {dict : Dict} (hk : Within bs s₀ t) (h_dict : Block.dict ∈ bs) :
    WithinParts bs s₀ t.clk t.free t.power t.warp t.cal t.loom t.engine t.meas t.valve t.io t.fans t.disp dict t.host t.images t.can t.pair t.mem t.therm t.safety t.snap t.mram t.alarms t.pending := by
  obtain ⟨a0, a1, a2, a3, a4, a5, a6, a7, a8, a9, a10, a11, -, a13, a14, a15, a16, a17, a18, a19, a20, a21, a22, a23⟩ := hk.parts
  exact ⟨a0, a1, a2, a3, a4, a5, a6, a7, a8, a9, a10, a11, Or.inl h_dict, a13, a14, a15, a16, a17, a18, a19, a20, a21, a22, a23⟩

theorem parts_dict_images_mem_safety {t : State} {dict : Dict} {images : Images} {mem : Mem} {safety : Safety} (hk : Within bs s₀ t) (h_dict : Block.dict ∈ bs) (h_images : Block.images ∈ bs) (h_mem : Block.mem ∈ bs) (h_safety : Block.safety ∈ bs) :
    WithinParts bs s₀ t.clk t.free t.power t.warp t.cal t.loom t.engine t.meas t.valve t.io t.fans t.disp dict t.host images t.can t.pair mem t.therm safety t.snap t.mram t.alarms t.pending := by
  obtain ⟨a0, a1, a2, a3, a4, a5, a6, a7, a8, a9, a10, a11, -, a13, -, a15, a16, -, a18, -, a20, a21, a22, a23⟩ := hk.parts
  exact ⟨a0, a1, a2, a3, a4, a5, a6, a7, a8, a9, a10, a11, Or.inl h_dict, a13, Or.inl h_images, a15, a16, Or.inl h_mem, a18, Or.inl h_safety, a20, a21, a22, a23⟩

theorem parts_disp {t : State} {disp : Disp} (hk : Within bs s₀ t) (h_disp : Block.disp ∈ bs) :
    WithinParts bs s₀ t.clk t.free t.power t.warp t.cal t.loom t.engine t.meas t.valve t.io t.fans disp t.dict t.host t.images t.can t.pair t.mem t.therm t.safety t.snap t.mram t.alarms t.pending := by
  obtain ⟨a0, a1, a2, a3, a4, a5, a6, a7, a8, a9, a10, -, a12, a13, a14, a15, a16, a17, a18, a19, a20, a21, a22, a23⟩ := hk.parts
  exact ⟨a0, a1, a2, a3, a4, a5, a6, a7, a8, a9, a10, Or.inl h_disp, a12, a13, a14, a15, a16, a17, a18, a19, a20, a21, a22, a23⟩

theorem parts_engine {t : State} {engine : Engine} (hk : Within bs s₀ t) (h_engine : Block.engine ∈ bs) :
    WithinParts bs s₀ t.clk t.free t.power t.warp t.cal t.loom engine t.meas t.valve t.io t.fans t.disp t.dict t.host t.images t.can t.pair t.mem t.therm t.safety t.snap t.mram t.alarms t.pending := by
  obtain ⟨a0, a1, a2, a3, a4, a5, -, a7, a8, a9, a10, a11, a12, a13, a14, a15, a16, a17, a18, a19, a20, a21, a22, a23⟩ := hk.parts
  exact ⟨a0, a1, a2, a3, a4, a5, Or.inl h_engine, a7, a8, a9, a10, a11, a12, a13, a14, a15, a16, a17, a18, a19, a20, a21, a22, a23⟩

theorem parts_fans {t : State} {fans : Table FanRt} (hk : Within bs s₀ t) (h_fans : Block.fans ∈ bs) :
    WithinParts bs s₀ t.clk t.free t.power t.warp t.cal t.loom t.engine t.meas t.valve t.io fans t.disp t.dict t.host t.images t.can t.pair t.mem t.therm t.safety t.snap t.mram t.alarms t.pending := by
  obtain ⟨a0, a1, a2, a3, a4, a5, a6, a7, a8, a9, -, a11, a12, a13, a14, a15, a16, a17, a18, a19, a20, a21, a22, a23⟩ := hk.parts
  exact ⟨a0, a1, a2, a3, a4, a5, a6, a7, a8, a9, Or.inl h_fans, a11, a12, a13, a14, a15, a16, a17, a18, a19, a20, a21, a22, a23⟩

theorem parts_free {t : State} {free : Nat} (hk : Within bs s₀ t) (h_free : Block.free ∈ bs) :
    WithinParts bs s₀ t.clk free t.power t.warp t.cal t.loom t.engine t.meas t.valve t.io t.fans t.disp t.dict t.host t.images t.can t.pair t.mem t.therm t.safety t.snap t.mram t.alarms t.pending := by
  obtain ⟨a0, -, a2, a3, a4, a5, a6, a7, a8, a9, a10, a11, a12, a13, a14, a15, a16, a17, a18, a19, a20, a21, a22, a23⟩ := hk.parts
  exact ⟨a0, Or.inl h_free, a2, a3, a4, a5, a6, a7, a8, a9, a10, a11, a12, a13, a14, a15, a16, a17, a18, a19, a20, a21, a22, a23⟩

theorem parts_host {t : State} {host : HostPort} (hk : Within bs s₀ t) (h_host : Block.host ∈ bs) :
    WithinParts bs s₀ t.clk t.free t.power t.warp t.cal t.loom t.engine t.meas t.valve t.io t.fans t.disp t.dict host t.images t.can t.pair t.mem t.therm t.safety t.snap t.mram t.alarms t.pending := by
  obtain ⟨a0, a1, a2, a3, a4, a5, a6, a7, a8, a9, a10, a11, a12, -, a14, a15, a16, a17, a18, a19, a20, a21, a22, a23⟩ := hk.parts
  exact ⟨a0, a1, a2, a3, a4, a5, a6, a7, a8, a9, a10, a11, a12, Or.inl h_host, a14, a15, a16, a17, a18, a19, a20, a21, a22, a23⟩

theorem parts_images {t : State} {images : Images} (hk : Within bs s₀ t) (h_images : Block.images ∈ bs) :
    WithinParts bs s₀ t.clk t.free t.power t.warp t.cal t.loom t.engine t.meas t.valve t.io t.fans t.disp t.dict t.host images t.can t.pair t.mem t.therm t.safety t.snap t.mram t.alarms t.pending := by
  obtain ⟨a0, a1, a2, a3, a4, a5, a6, a7, a8, a9, a10, a11, a12, a13, -, a15, a16, a17, a18, a19, a20, a21, a22, a23⟩ := hk.parts
  exact ⟨a0, a1, a2, a3, a4, a5, a6, a7, a8, a9, a10, a11, a12, a13, Or.inl h_images, a15, a16, a17, a18, a19, a20, a21, a22, a23⟩

theorem parts_images_mram {t : State} {images : Images} {mram : Mram} (hk : Within bs s₀ t) (h_images : Block.images ∈ bs) (h_mram : Block.mram ∈ bs) :
    WithinParts bs s₀ t.clk t.free t.power t.warp t.cal t.loom t.engine t.meas t.valve t.io t.fans t.disp t.dict t.host images t.can t.pair t.mem t.therm t.safety t.snap mram t.alarms t.pending := by
  obtain ⟨a0, a1, a2, a3, a4, a5, a6, a7, a8, a9, a10, a11, a12, a13, -, a15, a16, a17, a18, a19, a20, -, a22, a23⟩ := hk.parts
  exact ⟨a0, a1, a2, a3, a4, a5, a6, a7, a8, a9, a10, a11, a12, a13, Or.inl h_images, a15, a16, a17, a18, a19, a20, Or.inl h_mram, a22, a23⟩

theorem parts_io {t : State} {io : FieldIo} (hk : Within bs s₀ t) (h_io : Block.io ∈ bs) :
    WithinParts bs s₀ t.clk t.free t.power t.warp t.cal t.loom t.engine t.meas t.valve io t.fans t.disp t.dict t.host t.images t.can t.pair t.mem t.therm t.safety t.snap t.mram t.alarms t.pending := by
  obtain ⟨a0, a1, a2, a3, a4, a5, a6, a7, a8, -, a10, a11, a12, a13, a14, a15, a16, a17, a18, a19, a20, a21, a22, a23⟩ := hk.parts
  exact ⟨a0, a1, a2, a3, a4, a5, a6, a7, a8, Or.inl h_io, a10, a11, a12, a13, a14, a15, a16, a17, a18, a19, a20, a21, a22, a23⟩

theorem parts_loom {t : State} {loom : Loom} (hk : Within bs s₀ t) (h_loom : Block.loom ∈ bs) :
    WithinParts bs s₀ t.clk t.free t.power t.warp t.cal loom t.engine t.meas t.valve t.io t.fans t.disp t.dict t.host t.images t.can t.pair t.mem t.therm t.safety t.snap t.mram t.alarms t.pending := by
  obtain ⟨a0, a1, a2, a3, a4, -, a6, a7, a8, a9, a10, a11, a12, a13, a14, a15, a16, a17, a18, a19, a20, a21, a22, a23⟩ := hk.parts
  exact ⟨a0, a1, a2, a3, a4, Or.inl h_loom, a6, a7, a8, a9, a10, a11, a12, a13, a14, a15, a16, a17, a18, a19, a20, a21, a22, a23⟩

theorem parts_meas {t : State} {meas : Meas} (hk : Within bs s₀ t) (h_meas : Block.meas ∈ bs) :
    WithinParts bs s₀ t.clk t.free t.power t.warp t.cal t.loom t.engine meas t.valve t.io t.fans t.disp t.dict t.host t.images t.can t.pair t.mem t.therm t.safety t.snap t.mram t.alarms t.pending := by
  obtain ⟨a0, a1, a2, a3, a4, a5, a6, -, a8, a9, a10, a11, a12, a13, a14, a15, a16, a17, a18, a19, a20, a21, a22, a23⟩ := hk.parts
  exact ⟨a0, a1, a2, a3, a4, a5, a6, Or.inl h_meas, a8, a9, a10, a11, a12, a13, a14, a15, a16, a17, a18, a19, a20, a21, a22, a23⟩

theorem parts_meas_mram {t : State} {meas : Meas} {mram : Mram} (hk : Within bs s₀ t) (h_meas : Block.meas ∈ bs) (h_mram : Block.mram ∈ bs) :
    WithinParts bs s₀ t.clk t.free t.power t.warp t.cal t.loom t.engine meas t.valve t.io t.fans t.disp t.dict t.host t.images t.can t.pair t.mem t.therm t.safety t.snap mram t.alarms t.pending := by
  obtain ⟨a0, a1, a2, a3, a4, a5, a6, -, a8, a9, a10, a11, a12, a13, a14, a15, a16, a17, a18, a19, a20, -, a22, a23⟩ := hk.parts
  exact ⟨a0, a1, a2, a3, a4, a5, a6, Or.inl h_meas, a8, a9, a10, a11, a12, a13, a14, a15, a16, a17, a18, a19, a20, Or.inl h_mram, a22, a23⟩

theorem parts_mem {t : State} {mem : Mem} (hk : Within bs s₀ t) (h_mem : Block.mem ∈ bs) :
    WithinParts bs s₀ t.clk t.free t.power t.warp t.cal t.loom t.engine t.meas t.valve t.io t.fans t.disp t.dict t.host t.images t.can t.pair mem t.therm t.safety t.snap t.mram t.alarms t.pending := by
  obtain ⟨a0, a1, a2, a3, a4, a5, a6, a7, a8, a9, a10, a11, a12, a13, a14, a15, a16, -, a18, a19, a20, a21, a22, a23⟩ := hk.parts
  exact ⟨a0, a1, a2, a3, a4, a5, a6, a7, a8, a9, a10, a11, a12, a13, a14, a15, a16, Or.inl h_mem, a18, a19, a20, a21, a22, a23⟩

theorem parts_mem_mram {t : State} {mem : Mem} {mram : Mram} (hk : Within bs s₀ t) (h_mem : Block.mem ∈ bs) (h_mram : Block.mram ∈ bs) :
    WithinParts bs s₀ t.clk t.free t.power t.warp t.cal t.loom t.engine t.meas t.valve t.io t.fans t.disp t.dict t.host t.images t.can t.pair mem t.therm t.safety t.snap mram t.alarms t.pending := by
  obtain ⟨a0, a1, a2, a3, a4, a5, a6, a7, a8, a9, a10, a11, a12, a13, a14, a15, a16, -, a18, a19, a20, -, a22, a23⟩ := hk.parts
  exact ⟨a0, a1, a2, a3, a4, a5, a6, a7, a8, a9, a10, a11, a12, a13, a14, a15, a16, Or.inl h_mem, a18, a19, a20, Or.inl h_mram, a22, a23⟩

theorem parts_mram {t : State} {mram : Mram} (hk : Within bs s₀ t) (h_mram : Block.mram ∈ bs) :
    WithinParts bs s₀ t.clk t.free t.power t.warp t.cal t.loom t.engine t.meas t.valve t.io t.fans t.disp t.dict t.host t.images t.can t.pair t.mem t.therm t.safety t.snap mram t.alarms t.pending := by
  obtain ⟨a0, a1, a2, a3, a4, a5, a6, a7, a8, a9, a10, a11, a12, a13, a14, a15, a16, a17, a18, a19, a20, -, a22, a23⟩ := hk.parts
  exact ⟨a0, a1, a2, a3, a4, a5, a6, a7, a8, a9, a10, a11, a12, a13, a14, a15, a16, a17, a18, a19, a20, Or.inl h_mram, a22, a23⟩

theorem parts_pair {t : State} {pair : Pair} (hk : Within bs s₀ t) (h_pair : Block.pair ∈ bs) :
    WithinParts bs s₀ t.clk t.free t.power t.warp t.cal t.loom t.engine t.meas t.valve t.io t.fans t.disp t.dict t.host t.images t.can pair t.mem t.therm t.safety t.snap t.mram t.alarms t.pending := by
  obtain ⟨a0, a1, a2, a3, a4, a5, a6, a7, a8, a9, a10, a11, a12, a13, a14, a15, -, a17, a18, a19, a20, a21, a22, a23⟩ := hk.parts
  exact ⟨a0, a1, a2, a3, a4, a5, a6, a7, a8, a9, a10, a11, a12, a13, a14, a15, Or.inl h_pair, a17, a18, a19, a20, a21, a22, a23⟩

theorem parts_power {t : State} {power : Power} (hk : Within bs s₀ t) (h_power : Block.power ∈ bs) :
    WithinParts bs s₀ t.clk t.free power t.warp t.cal t.loom t.engine t.meas t.valve t.io t.fans t.disp t.dict t.host t.images t.can t.pair t.mem t.therm t.safety t.snap t.mram t.alarms t.pending := by
  obtain ⟨a0, a1, -, a3, a4, a5, a6, a7, a8, a9, a10, a11, a12, a13, a14, a15, a16, a17, a18, a19, a20, a21, a22, a23⟩ := hk.parts
  exact ⟨a0, a1, Or.inl h_power, a3, a4, a5, a6, a7, a8, a9, a10, a11, a12, a13, a14, a15, a16, a17, a18, a19, a20, a21, a22, a23⟩

theorem parts_power_mram {t : State} {power : Power} {mram : Mram} (hk : Within bs s₀ t) (h_power : Block.power ∈ bs) (h_mram : Block.mram ∈ bs) :
    WithinParts bs s₀ t.clk t.free power t.warp t.cal t.loom t.engine t.meas t.valve t.io t.fans t.disp t.dict t.host t.images t.can t.pair t.mem t.therm t.safety t.snap mram t.alarms t.pending := by
  obtain ⟨a0, a1, -, a3, a4, a5, a6, a7, a8, a9, a10, a11, a12, a13, a14, a15, a16, a17, a18, a19, a20, -, a22, a23⟩ := hk.parts
  exact ⟨a0, a1, Or.inl h_power, a3, a4, a5, a6, a7, a8, a9, a10, a11, a12, a13, a14, a15, a16, a17, a18, a19, a20, Or.inl h_mram, a22, a23⟩

theorem parts_power_therm {t : State} {power : Power} {therm : Therm} (hk : Within bs s₀ t) (h_power : Block.power ∈ bs) (h_therm : Block.therm ∈ bs) :
    WithinParts bs s₀ t.clk t.free power t.warp t.cal t.loom t.engine t.meas t.valve t.io t.fans t.disp t.dict t.host t.images t.can t.pair t.mem therm t.safety t.snap t.mram t.alarms t.pending := by
  obtain ⟨a0, a1, -, a3, a4, a5, a6, a7, a8, a9, a10, a11, a12, a13, a14, a15, a16, a17, -, a19, a20, a21, a22, a23⟩ := hk.parts
  exact ⟨a0, a1, Or.inl h_power, a3, a4, a5, a6, a7, a8, a9, a10, a11, a12, a13, a14, a15, a16, a17, Or.inl h_therm, a19, a20, a21, a22, a23⟩

theorem parts_safety {t : State} {safety : Safety} (hk : Within bs s₀ t) (h_safety : Block.safety ∈ bs) :
    WithinParts bs s₀ t.clk t.free t.power t.warp t.cal t.loom t.engine t.meas t.valve t.io t.fans t.disp t.dict t.host t.images t.can t.pair t.mem t.therm safety t.snap t.mram t.alarms t.pending := by
  obtain ⟨a0, a1, a2, a3, a4, a5, a6, a7, a8, a9, a10, a11, a12, a13, a14, a15, a16, a17, a18, -, a20, a21, a22, a23⟩ := hk.parts
  exact ⟨a0, a1, a2, a3, a4, a5, a6, a7, a8, a9, a10, a11, a12, a13, a14, a15, a16, a17, a18, Or.inl h_safety, a20, a21, a22, a23⟩

theorem parts_snap {t : State} {snap : Snap} (hk : Within bs s₀ t) (h_snap : Block.snap ∈ bs) :
    WithinParts bs s₀ t.clk t.free t.power t.warp t.cal t.loom t.engine t.meas t.valve t.io t.fans t.disp t.dict t.host t.images t.can t.pair t.mem t.therm t.safety snap t.mram t.alarms t.pending := by
  obtain ⟨a0, a1, a2, a3, a4, a5, a6, a7, a8, a9, a10, a11, a12, a13, a14, a15, a16, a17, a18, a19, -, a21, a22, a23⟩ := hk.parts
  exact ⟨a0, a1, a2, a3, a4, a5, a6, a7, a8, a9, a10, a11, a12, a13, a14, a15, a16, a17, a18, a19, Or.inl h_snap, a21, a22, a23⟩

theorem parts_therm {t : State} {therm : Therm} (hk : Within bs s₀ t) (h_therm : Block.therm ∈ bs) :
    WithinParts bs s₀ t.clk t.free t.power t.warp t.cal t.loom t.engine t.meas t.valve t.io t.fans t.disp t.dict t.host t.images t.can t.pair t.mem therm t.safety t.snap t.mram t.alarms t.pending := by
  obtain ⟨a0, a1, a2, a3, a4, a5, a6, a7, a8, a9, a10, a11, a12, a13, a14, a15, a16, a17, -, a19, a20, a21, a22, a23⟩ := hk.parts
  exact ⟨a0, a1, a2, a3, a4, a5, a6, a7, a8, a9, a10, a11, a12, a13, a14, a15, a16, a17, Or.inl h_therm, a19, a20, a21, a22, a23⟩

theorem parts_therm_safety {t : State} {therm : Therm} {safety : Safety} (hk : Within bs s₀ t) (h_therm : Block.therm ∈ bs) (h_safety : Block.safety ∈ bs) :
    WithinParts bs s₀ t.clk t.free t.power t.warp t.cal t.loom t.engine t.meas t.valve t.io t.fans t.disp t.dict t.host t.images t.can t.pair t.mem therm safety t.snap t.mram t.alarms t.pending := by
  obtain ⟨a0, a1, a2, a3, a4, a5, a6, a7, a8, a9, a10, a11, a12, a13, a14, a15, a16, a17, -, -, a20, a21, a22, a23⟩ := hk.parts
  exact ⟨a0, a1, a2, a3, a4, a5, a6, a7, a8, a9, a10, a11, a12, a13, a14, a15, a16, a17, Or.inl h_therm, Or.inl h_safety, a20, a21, a22, a23⟩

theorem parts_valve {t : State} {valve : Valve} (hk : Within bs s₀ t) (h_valve : Block.valve ∈ bs) :
    WithinParts bs s₀ t.clk t.free t.power t.warp t.cal t.loom t.engine t.meas valve t.io t.fans t.disp t.dict t.host t.images t.can t.pair t.mem t.therm t.safety t.snap t.mram t.alarms t.pending := by
  obtain ⟨a0, a1, a2, a3, a4, a5, a6, a7, -, a9, a10, a11, a12, a13, a14, a15, a16, a17, a18, a19, a20, a21, a22, a23⟩ := hk.parts
  exact ⟨a0, a1, a2, a3, a4, a5, a6, a7, Or.inl h_valve, a9, a10, a11, a12, a13, a14, a15, a16, a17, a18, a19, a20, a21, a22, a23⟩

theorem parts_warp {t : State} {warp : Warp} (hk : Within bs s₀ t) (h_warp : Block.warp ∈ bs) :
    WithinParts bs s₀ t.clk t.free t.power warp t.cal t.loom t.engine t.meas t.valve t.io t.fans t.disp t.dict t.host t.images t.can t.pair t.mem t.therm t.safety t.snap t.mram t.alarms t.pending := by
  obtain ⟨a0, a1, a2, -, a4, a5, a6, a7, a8, a9, a10, a11, a12, a13, a14, a15, a16, a17, a18, a19, a20, a21, a22, a23⟩ := hk.parts
  exact ⟨a0, a1, a2, Or.inl h_warp, a4, a5, a6, a7, a8, a9, a10, a11, a12, a13, a14, a15, a16, a17, a18, a19, a20, a21, a22, a23⟩

theorem parts_warp_cal {t : State} {warp : Warp} {cal : Cal} (hk : Within bs s₀ t) (h_warp : Block.warp ∈ bs) (h_cal : Block.cal ∈ bs) :
    WithinParts bs s₀ t.clk t.free t.power warp cal t.loom t.engine t.meas t.valve t.io t.fans t.disp t.dict t.host t.images t.can t.pair t.mem t.therm t.safety t.snap t.mram t.alarms t.pending := by
  obtain ⟨a0, a1, a2, -, -, a5, a6, a7, a8, a9, a10, a11, a12, a13, a14, a15, a16, a17, a18, a19, a20, a21, a22, a23⟩ := hk.parts
  exact ⟨a0, a1, a2, Or.inl h_warp, Or.inl h_cal, a5, a6, a7, a8, a9, a10, a11, a12, a13, a14, a15, a16, a17, a18, a19, a20, a21, a22, a23⟩

theorem parts_warp_loom {t : State} {warp : Warp} {loom : Loom} (hk : Within bs s₀ t) (h_warp : Block.warp ∈ bs) (h_loom : Block.loom ∈ bs) :
    WithinParts bs s₀ t.clk t.free t.power warp t.cal loom t.engine t.meas t.valve t.io t.fans t.disp t.dict t.host t.images t.can t.pair t.mem t.therm t.safety t.snap t.mram t.alarms t.pending := by
  obtain ⟨a0, a1, a2, -, a4, -, a6, a7, a8, a9, a10, a11, a12, a13, a14, a15, a16, a17, a18, a19, a20, a21, a22, a23⟩ := hk.parts
  exact ⟨a0, a1, a2, Or.inl h_warp, a4, Or.inl h_loom, a6, a7, a8, a9, a10, a11, a12, a13, a14, a15, a16, a17, a18, a19, a20, a21, a22, a23⟩

theorem forAll_within {α : Type} (xs : List α) (f : State → α → State) (s : State)
    (hf : ∀ s x, Within bs s₀ s → Within bs s₀ (f s x)) (h : Within bs s₀ s) : Within bs s₀ (forAll xs f s) := by
  unfold forAll
  induction xs generalizing s with
  | nil => exact h
  | cons x xs ih => exact ih _ (hf s x h)

theorem ite_within {p : Prop} [Decidable p] {a b : State} (ha : Within bs s₀ a) (hb : Within bs s₀ b) :
    Within bs s₀ (if p then a else b) := by split <;> assumption

theorem ite_within_snd {α : Type} {p : Prop} [Decidable p] {a b : α × State} (ha : Within bs s₀ a.2)
    (hb : Within bs s₀ b.2) : Within bs s₀ (if p then a else b).2 := by split <;> assumption

theorem ite_within_thd {α β : Type} {p : Prop} [Decidable p] {a b : α × β × State} (ha : Within bs s₀ a.2.2)
    (hb : Within bs s₀ b.2.2) : Within bs s₀ (if p then a else b).2.2 := by split <;> assumption

theorem ite_within_out {p : Prop} [Decidable p] {a b : Out} (ha : Leads bs s₀ a) (hb : Leads bs s₀ b) :
    Leads bs s₀ (if p then a else b) := by split <;> assumption

end Sys2Proof.Machine
end

