-- ==== Sys2Proof/Laws/WithinOps.lean ====
section
/-! SUPPORT. The parts of the state that each operation writes: the shared operations. -/

namespace Sys2Proof.Machine

variable {s₀ : State} {bs : List Block}

/-! ### Ops -/

theorem modCirc_within (s : State) (c : Nat) (f : Circuit → Circuit) (hk : Within bs s₀ s) (h_loom : Block.loom ∈ bs) :
    Within bs s₀ (modCirc s c f) := by
  unfold modCirc
  dsimp only
  with_reducible repeat' (first | assumption | (simp only [↓within_mk]; apply parts_loom))

theorem modZone_within (s : State) (z : Nat) (f : Zone → Zone) (hk : Within bs s₀ s) (h_loom : Block.loom ∈ bs) :
    Within bs s₀ (modZone s z f) := by
  unfold modZone
  dsimp only
  with_reducible repeat' (first | assumption | (simp only [↓within_mk]; apply parts_loom))

theorem modEvent_within (s : State) (e : Nat) (f : UEvent → UEvent) (hk : Within bs s₀ s) (h_loom : Block.loom ∈ bs) :
    Within bs s₀ (modEvent s e f) := by
  unfold modEvent
  dsimp only
  with_reducible repeat' (first | assumption | (simp only [↓within_mk]; apply parts_loom))

theorem modRule_within (s : State) (r : Nat) (f : RuleRt → RuleRt) (hk : Within bs s₀ s) (h_loom : Block.loom ∈ bs) :
    Within bs s₀ (modRule s r f) := by
  unfold modRule
  dsimp only
  with_reducible repeat' (first | assumption | (simp only [↓within_mk]; apply parts_loom))

theorem modLoop_within (s : State) (n : Nat) (f : LoopRt → LoopRt) (hk : Within bs s₀ s) (h_engine : Block.engine ∈ bs) :
    Within bs s₀ (modLoop s n f) := by
  unfold modLoop
  dsimp only
  with_reducible repeat' (first | assumption | (simp only [↓within_mk]; apply parts_engine))

theorem setRec_within (s : State) (k : Nat) (r : ResRec) (hk : Within bs s₀ s) (h_meas : Block.meas ∈ bs) :
    Within bs s₀ (setRec s k r) := by
  unfold setRec
  dsimp only
  with_reducible repeat' (first | assumption | (simp only [↓within_mk]; apply parts_meas))

theorem modTrig_within (s : State) (t : Nat) (f : TrigRt → TrigRt) (hk : Within bs s₀ s) (h_meas : Block.meas ∈ bs) :
    Within bs s₀ (modTrig s t f) := by
  unfold modTrig
  dsimp only
  with_reducible repeat' (first | assumption | (simp only [↓within_mk]; apply parts_meas))

theorem modAi_within (s : State) (k : Nat) (f : AiRt → AiRt) (hk : Within bs s₀ s) (h_meas : Block.meas ∈ bs) :
    Within bs s₀ (modAi s k f) := by
  unfold modAi
  dsimp only
  with_reducible repeat' (first | assumption | (simp only [↓within_mk]; apply parts_meas))

theorem modAo_within (s : State) (a : Nat) (f : AoRt → AoRt) (hk : Within bs s₀ s) (h_meas : Block.meas ∈ bs) :
    Within bs s₀ (modAo s a f) := by
  unfold modAo
  dsimp only
  with_reducible repeat' (first | assumption | (simp only [↓within_mk]; apply parts_meas))

theorem modVlv_within (s : State) (v : Nat) (f : VlvRt → VlvRt) (hk : Within bs s₀ s) (h_valve : Block.valve ∈ bs) :
    Within bs s₀ (modVlv s v f) := by
  unfold modVlv
  dsimp only
  with_reducible repeat' (first | assumption | (simp only [↓within_mk]; apply parts_valve))

theorem modBank_within (s : State) (b : Nat) (f : Bank → Bank) (hk : Within bs s₀ s) (h_valve : Block.valve ∈ bs) :
    Within bs s₀ (modBank s b f) := by
  unfold modBank
  dsimp only
  with_reducible repeat' (first | assumption | (simp only [↓within_mk]; apply parts_valve))

theorem modIo_within (s : State) (i : Nat) (f : IoRt → IoRt) (hk : Within bs s₀ s) (h_io : Block.io ∈ bs) :
    Within bs s₀ (modIo s i f) := by
  unfold modIo
  dsimp only
  with_reducible repeat' (first | assumption | (simp only [↓within_mk]; apply parts_io))

theorem modGroup_within (s : State) (g : Nat) (f : IoGroup → IoGroup) (hk : Within bs s₀ s) (h_io : Block.io ∈ bs) :
    Within bs s₀ (modGroup s g f) := by
  unfold modGroup
  dsimp only
  with_reducible repeat' (first | assumption | (simp only [↓within_mk]; apply parts_io))

theorem modFan_within (s : State) (f : Nat) (g : FanRt → FanRt) (hk : Within bs s₀ s) (h_fans : Block.fans ∈ bs) :
    Within bs s₀ (modFan s f g) := by
  unfold modFan
  with_reducible repeat' (first | assumption | (simp only [↓within_mk]; apply parts_fans))

theorem modCan_within (s : State) (x : Nat) (f : CanRt → CanRt) (hk : Within bs s₀ s) (h_can : Block.can ∈ bs) :
    Within bs s₀ (modCan s x f) := by
  unfold modCan
  with_reducible repeat' (first | assumption | (simp only [↓within_mk]; apply parts_can))

theorem modSensor_within (s : State) (i : Nat) (f : Sensor → Sensor) (hk : Within bs s₀ s) (h_therm : Block.therm ∈ bs) :
    Within bs s₀ (modSensor s i f) := by
  unfold modSensor
  dsimp only
  with_reducible repeat' (first | assumption | (simp only [↓within_mk]; apply parts_therm))

theorem modSafe_within (s : State) (c : Nat) (f : SafeRt → SafeRt) (hk : Within bs s₀ s) (h_safety : Block.safety ∈ bs) :
    Within bs s₀ (modSafe s c f) := by
  unfold modSafe
  dsimp only
  with_reducible repeat' (first | assumption | (simp only [↓within_mk]; apply parts_safety))

theorem modSlot_within (s : State) (k : Nat) (f : SnapSlot → SnapSlot) (hk : Within bs s₀ s) (h_snap : Block.snap ∈ bs) :
    Within bs s₀ (modSlot s k f) := by
  unfold modSlot
  dsimp only
  with_reducible repeat' (first | assumption | (simp only [↓within_mk]; apply parts_snap))

theorem modSess_within (s : State) (x : Sess) (f : SessRec → SessRec) (hk : Within bs s₀ s) (h_dict : Block.dict ∈ bs) :
    Within bs s₀ (modSess s x f) := by
  unfold modSess
  dsimp only
  with_reducible repeat' (first | assumption | (simp only [↓within_mk]; apply parts_dict))

theorem setForce_within (s : State) (key : Nat) (v : Val) (hk : Within bs s₀ s) (h_dict : Block.dict ∈ bs) :
    Within bs s₀ (setForce s key v) := by
  unfold setForce
  dsimp only
  with_reducible repeat' (first | assumption | (simp only [↓within_mk]; apply parts_dict))

theorem setCommitted_within (s : State) (key : Nat) (v : Val) (hk : Within bs s₀ s) (h_dict : Block.dict ∈ bs) :
    Within bs s₀ (setCommitted s key v) := by
  unfold setCommitted
  dsimp only
  with_reducible repeat' (first | assumption | (simp only [↓within_mk]; apply parts_dict))

theorem setRw_within (s : State) (key : Nat) (v : Val) (hk : Within bs s₀ s) (h_dict : Block.dict ∈ bs) :
    Within bs s₀ (setRw s key v) := by
  unfold setRw
  with_reducible repeat' (first | assumption | apply setForce_within | apply setCommitted_within)

theorem takeFree_within (s : State) (hk : Within bs s₀ s) (h_free : Block.free ∈ bs) :
    Within bs s₀ (takeFree s).2 := by
  unfold takeFree
  dsimp only
  with_reducible repeat' (first | assumption | (simp only [↓within_mk]; apply parts_free))

theorem raiseAlarm_within (a : Alarm) (s : State) (hk : Within bs s₀ s) (h_alarms : Block.alarms ∈ bs) :
    Within bs s₀ (raiseAlarm a s) := by
  unfold raiseAlarm
  with_reducible repeat' (first | assumption | apply ite_within | apply ite_within_snd | apply ite_within_thd | (simp only [↓within_mk]; apply parts_alarms))

theorem dropAlarm_within (a : Alarm) (s : State) (hk : Within bs s₀ s) (h_alarms : Block.alarms ∈ bs) :
    Within bs s₀ (dropAlarm a s) := by
  unfold dropAlarm
  with_reducible repeat' (first | assumption | (simp only [↓within_mk]; apply parts_alarms))

theorem queueRec_within (s : State) (type flags warpAt calAt : Nat) (payload : List Byte) (hk : Within bs s₀ s) (h_snap : Block.snap ∈ bs) :
    Within bs s₀ (queueRec s type flags warpAt calAt payload) := by
  unfold queueRec
  dsimp only
  with_reducible repeat' (first | assumption | apply ite_within | apply ite_within_snd | apply ite_within_thd | (simp only [↓within_mk]; apply parts_snap))

theorem logEvent_within (s : State) (type : Nat) (payload : List Byte) (hk : Within bs s₀ s) (h_snap : Block.snap ∈ bs) :
    Within bs s₀ (logEvent s type payload) := by
  unfold logEvent
  with_reducible repeat' (first | assumption | apply queueRec_within)

theorem pushHostEvent_within (s : State) (r : LogRec) (hk : Within bs s₀ s) (h_host : Block.host ∈ bs) :
    Within bs s₀ (pushHostEvent s r) := by
  unfold pushHostEvent
  dsimp only
  with_reducible repeat' (first | assumption | (simp only [↓within_mk]; apply parts_host))

theorem pushNodeEvent_within (s : State) (r : LogRec) (hk : Within bs s₀ s) (h_host : Block.host ∈ bs) :
    Within bs s₀ (pushNodeEvent s r) := by
  unfold pushNodeEvent
  dsimp only
  with_reducible repeat' (first | assumption | (simp only [↓within_mk]; apply parts_host))

theorem mramWritten_within (s : State) (lo hi : Nat) (hk : Within bs s₀ s) (h_mem : Block.mem ∈ bs) :
    Within bs s₀ (mramWritten s lo hi) := by
  unfold mramWritten
  dsimp only
  with_reducible repeat' (first | assumption | (simp only [↓within_mk]; apply parts_mem))

theorem writeRec_within (s : State) (r : LogRec) (hk : Within bs s₀ s) (h_host : Block.host ∈ bs) (h_mem : Block.mem ∈ bs) (h_mram : Block.mram ∈ bs) :
    Within bs s₀ (writeRec s r) := by
  unfold writeRec
  dsimp only
  with_reducible repeat' (first | assumption | apply mramWritten_within | apply pushHostEvent_within | apply pushNodeEvent_within | apply ite_within | apply ite_within_snd | apply ite_within_thd | (simp only [↓within_mk]; apply parts_mram))

theorem flushLog_within (s : State) (hk : Within bs s₀ s) (h_host : Block.host ∈ bs) (h_mem : Block.mem ∈ bs) (h_snap : Block.snap ∈ bs) (h_mram : Block.mram ∈ bs) :
    Within bs s₀ (flushLog s) := by
  unfold flushLog
  dsimp only
  with_reducible repeat' (first | assumption | apply writeRec_within | refine forAll_within _ _ _ (fun _ _ _ => ?_) ?_ | (simp only [↓within_mk]; apply parts_snap))

/-! ### DispOps -/

theorem modDisp_within (s : State) (f : Disp → Disp) (hk : Within bs s₀ s) (h_disp : Block.disp ∈ bs) :
    Within bs s₀ (modDisp s f) := by
  unfold modDisp
  with_reducible repeat' (first | assumption | (simp only [↓within_mk]; apply parts_disp))

theorem ledgerAdd_within (s : State) (g : Nat) (v : Int) (hk : Within bs s₀ s) (h_disp : Block.disp ∈ bs) :
    Within bs s₀ (ledgerAdd s g v) := by
  unfold ledgerAdd
  dsimp only
  with_reducible repeat' (first | assumption | apply modDisp_within)

theorem ledgerFollow_within (s : State) (hk : Within bs s₀ s) (h_disp : Block.disp ∈ bs) :
    Within bs s₀ (ledgerFollow s) := by
  unfold ledgerFollow
  with_reducible repeat' (first | assumption | apply modDisp_within)

theorem roundLedgers_within (s : State) (r : Round) (n : Nat) (p : SegWave → Bool) (hk : Within bs s₀ s) (h_disp : Block.disp ∈ bs) :
    Within bs s₀ (roundLedgers s r n p) := by
  unfold roundLedgers
  dsimp only
  with_reducible repeat' (first | assumption | apply ledgerAdd_within | apply ledgerFollow_within | apply modDisp_within | apply ite_within | apply ite_within_snd | apply ite_within_thd | refine forAll_within _ _ _ (fun _ _ _ => ?_) ?_)

theorem ledgerSettle_within (s : State) (hk : Within bs s₀ s) (h_disp : Block.disp ∈ bs) :
    Within bs s₀ (ledgerSettle s) := by
  unfold ledgerSettle
  dsimp only
  with_reducible repeat' (first | assumption | apply roundLedgers_within | split)

/-! ### Heddle -/

theorem sramWrite_within (s : State) (a : Nat) (l : List Byte) (hk : Within bs s₀ s) (h_mem : Block.mem ∈ bs) :
    Within bs s₀ (sramWrite s a l) := by
  unfold sramWrite
  dsimp only
  with_reducible repeat' (first | assumption | (simp only [↓within_mk]; apply parts_mem))

theorem refreshPoison_within (s : State) (hk : Within bs s₀ s) (h_mem : Block.mem ∈ bs) :
    Within bs s₀ (refreshPoison s) := by
  unfold refreshPoison
  dsimp only
  with_reducible repeat' (first | assumption | (simp only [↓within_mk]; apply parts_mem))

theorem clearPoison_within (s : State) (a : Nat) (hk : Within bs s₀ s) (h_mem : Block.mem ∈ bs) :
    Within bs s₀ (clearPoison s a) := by
  unfold clearPoison
  dsimp only
  with_reducible repeat' (first | assumption | apply refreshPoison_within | (simp only [↓within_mk]; apply parts_mem))

theorem heddleStore_within (s : State) (e : Nat) (hk : Within bs s₀ s) (h_mem : Block.mem ∈ bs) :
    Within bs s₀ (heddleStore s e) := by
  unfold heddleStore
  with_reducible repeat' (first | assumption | apply clearPoison_within | apply sramWrite_within | apply ite_within | apply ite_within_snd | apply ite_within_thd | (simp only [↓within_mk]; apply parts_mem))

theorem heddleRewriteEntry_within (s : State) (e : Nat) (hk : Within bs s₀ s) (h_mem : Block.mem ∈ bs) :
    Within bs s₀ (heddleRewriteEntry s e) := by
  unfold heddleRewriteEntry
  dsimp only
  with_reducible repeat' (first | assumption | apply heddleStore_within | apply ite_within | apply ite_within_snd | apply ite_within_thd | (simp only [↓within_mk]; apply parts_mem))

theorem heddleFetch_within (s : State) (eng e : Nat) (hk : Within bs s₀ s) (h_mem : Block.mem ∈ bs) :
    Within bs s₀ (heddleFetch s eng e).2 := by
  unfold heddleFetch
  dsimp only
  with_reducible repeat' (first | assumption | (simp only [↓within_mk]; apply parts_mem) | split)

/-! ### IoOps -/

theorem ioNoteCommand_within (s : State) (i : Nat) (entry : List Byte) (hk : Within bs s₀ s) (h_io : Block.io ∈ bs) :
    Within bs s₀ (ioNoteCommand s i entry) := by
  unfold ioNoteCommand
  dsimp only
  with_reducible repeat' (first | assumption | apply modIo_within)

theorem groupFollow_within (s : State) (g : Nat) (hk : Within bs s₀ s) (h_io : Block.io ∈ bs) :
    Within bs s₀ (groupFollow s g) := by
  unfold groupFollow
  dsimp only
  with_reducible repeat' (first | assumption | apply modGroup_within)

theorem ioPin_within (s : State) (i : Nat) (v : Int) (hiZ : Bool) (hk : Within bs s₀ s) (h_io : Block.io ∈ bs) :
    Within bs s₀ (ioPin s i v hiZ) := by
  unfold ioPin
  dsimp only
  with_reducible repeat' (first | assumption | apply modIo_within | apply groupFollow_within)

theorem ioApply_within (s : State) (i : Nat) (hk : Within bs s₀ s) (h_io : Block.io ∈ bs) (h_mem : Block.mem ∈ bs) :
    Within bs s₀ (ioApply s i) := by
  unfold ioApply
  dsimp only
  with_reducible repeat' (first | assumption | apply ioPin_within | apply modIo_within | apply heddleFetch_within | apply ioNoteCommand_within | apply ite_within)

theorem ioApplyAll_within (s : State) (hk : Within bs s₀ s) (h_io : Block.io ∈ bs) (h_mem : Block.mem ∈ bs) :
    Within bs s₀ (ioApplyAll s) := by
  unfold ioApplyAll
  with_reducible repeat' (first | assumption | apply ioApply_within | refine forAll_within _ _ _ (fun _ _ _ => ?_) ?_)

theorem aoApply_within (s : State) (a : Nat) (hk : Within bs s₀ s) (h_meas : Block.meas ∈ bs) (h_mem : Block.mem ∈ bs) :
    Within bs s₀ (aoApply s a) := by
  unfold aoApply
  dsimp only
  with_reducible repeat' (first | assumption | apply modAo_within | apply heddleFetch_within | apply ite_within)

theorem aoApplyAll_within (s : State) (hk : Within bs s₀ s) (h_meas : Block.meas ∈ bs) (h_mem : Block.mem ∈ bs) :
    Within bs s₀ (aoApplyAll s) := by
  unfold aoApplyAll
  with_reducible repeat' (first | assumption | apply aoApply_within | refine forAll_within _ _ _ (fun _ _ _ => ?_) ?_)

/-! ### ValveOps -/

theorem vlvConduct_within (s : State) (v : Nat) (hk : Within bs s₀ s) (h_valve : Block.valve ∈ bs) :
    Within bs s₀ (vlvConduct s v) := by
  unfold vlvConduct
  dsimp only
  with_reducible repeat' (first | assumption | apply modVlv_within)

theorem vlvDemote_within (s : State) (v : Nat) (hk : Within bs s₀ s) (h_valve : Block.valve ∈ bs) :
    Within bs s₀ (vlvDemote s v) := by
  unfold vlvDemote
  with_reducible repeat' (first | assumption | apply modVlv_within | apply ite_within)

theorem vlvDecay_within (s : State) (v : Nat) (hk : Within bs s₀ s) (h_valve : Block.valve ∈ bs) :
    Within bs s₀ (vlvDecay s v) := by
  unfold vlvDecay
  dsimp only
  with_reducible repeat' (first | assumption | apply modVlv_within | apply ite_within)

theorem bankRefresh_within (s : State) (b : Nat) (hk : Within bs s₀ s) (h_valve : Block.valve ∈ bs) :
    Within bs s₀ (bankRefresh s b) := by
  unfold bankRefresh
  dsimp only
  with_reducible repeat' (first | assumption | apply vlvConduct_within | apply vlvDemote_within | apply modBank_within | refine forAll_within _ _ _ (fun _ _ _ => ?_) ?_)

theorem askBudget_within (s : State) (v level : Nat) (hk : Within bs s₀ s) (h_valve : Block.valve ∈ bs) :
    Within bs s₀ (askBudget s v level).2 := by
  unfold askBudget
  dsimp only
  with_reducible repeat' (first | assumption | apply modBank_within | apply ite_within | apply ite_within_snd)

theorem dropRequest_within (s : State) (v : Nat) (hk : Within bs s₀ s) (h_valve : Block.valve ∈ bs) :
    Within bs s₀ (dropRequest s v) := by
  unfold dropRequest
  with_reducible repeat' (first | assumption | apply modBank_within)

theorem takeObj_within (s : State) (o : Nat) (hk : Within bs s₀ s) (h_dict : Block.dict ∈ bs) :
    Within bs s₀ (takeObj s o) := by
  unfold takeObj
  with_reducible repeat' (first | assumption | apply setForce_within | apply ite_within | apply ite_within_snd | apply ite_within_thd | refine forAll_within _ _ _ (fun _ _ _ => ?_) ?_ | split)

theorem syncDone_within (u : SyncUnit) (s : State) (hk : Within bs s₀ s) (h_dict : Block.dict ∈ bs) :
    Within bs s₀ (syncDone u s) := by
  unfold syncDone
  dsimp only
  with_reducible repeat' (first | assumption | (simp only [↓within_mk]; apply parts_dict))

theorem vlvTakeSet_within (s : State) (v : Nat) (hk : Within bs s₀ s) (h_valve : Block.valve ∈ bs) (h_dict : Block.dict ∈ bs) :
    Within bs s₀ (vlvTakeSet s v) := by
  unfold vlvTakeSet
  dsimp only
  with_reducible repeat' (first | assumption | apply syncDone_within | apply takeObj_within | apply modVlv_within)

theorem vlvForceOff_within (s : State) (v : Nat) (hk : Within bs s₀ s) (h_valve : Block.valve ∈ bs) :
    Within bs s₀ (vlvForceOff s v) := by
  unfold vlvForceOff
  dsimp only
  with_reducible repeat' (first | assumption | apply modVlv_within | apply dropRequest_within | apply bankRefresh_within)

theorem vlvStartAt_within (s : State) (v t : Nat) (hk : Within bs s₀ s) (h_valve : Block.valve ∈ bs) :
    Within bs s₀ (vlvStartAt s v t) := by
  unfold vlvStartAt
  with_reducible repeat' (first | assumption | apply modVlv_within)

theorem vlvStartRows_within (s : State) (v : Nat) (hk : Within bs s₀ s) (h_valve : Block.valve ∈ bs) :
    Within bs s₀ (vlvStartRows s v) := by
  unfold vlvStartRows
  dsimp only
  with_reducible repeat' (first | assumption | apply modVlv_within | apply vlvStartAt_within | apply ite_within)

theorem vlvBegin_within (s : State) (v band : Nat) (hk : Within bs s₀ s) (h_valve : Block.valve ∈ bs) (h_dict : Block.dict ∈ bs) (h_mem : Block.mem ∈ bs) :
    Within bs s₀ (vlvBegin s v band) := by
  unfold vlvBegin
  dsimp only
  with_reducible repeat' (first | assumption | apply vlvTakeSet_within | apply heddleFetch_within | apply modVlv_within)

theorem vlvResume_within (s : State) (v a : Nat) (hk : Within bs s₀ s) (h_valve : Block.valve ∈ bs) :
    Within bs s₀ (vlvResume s v a) := by
  unfold vlvResume
  with_reducible repeat' (first | assumption | apply modVlv_within)

theorem vlvLeave_within (s : State) (v : Nat) (hk : Within bs s₀ s) (h_valve : Block.valve ∈ bs) :
    Within bs s₀ (vlvLeave s v) := by
  unfold vlvLeave
  with_reducible repeat' (first | assumption | apply modVlv_within | apply vlvResume_within | apply dropRequest_within | apply ite_within)

theorem vlvReenter_within (s : State) (v : Nat) (hk : Within bs s₀ s) (h_valve : Block.valve ∈ bs) :
    Within bs s₀ (vlvReenter s v) := by
  unfold vlvReenter
  with_reducible repeat' (first | assumption | apply modVlv_within)

theorem learnAbandon_within (s : State) (v : Nat) (hk : Within bs s₀ s) (h_valve : Block.valve ∈ bs) :
    Within bs s₀ (learnAbandon s v) := by
  unfold learnAbandon
  dsimp only
  with_reducible repeat' (first | assumption | apply vlvResume_within | apply bankRefresh_within | apply modVlv_within | apply ite_within)

theorem vlvExtend_within (s : State) (v : Nat) (pulse : Option Nat) (hk : Within bs s₀ s) (h_valve : Block.valve ∈ bs) :
    Within bs s₀ (vlvExtend s v pulse) := by
  unfold vlvExtend
  dsimp only
  with_reducible repeat' (first | assumption | apply modVlv_within)

theorem vlvOff_within (s : State) (v : Nat) (hk : Within bs s₀ s) (h_valve : Block.valve ∈ bs) :
    Within bs s₀ (vlvOff s v) := by
  unfold vlvOff
  dsimp only
  with_reducible repeat' (first | assumption | apply modVlv_within | apply vlvLeave_within | apply ite_within | apply ite_within_snd | apply ite_within_thd | split)

theorem vlvOn_within (s : State) (v : Nat) (pulse : Option Nat) (sense : Nat) (hk : Within bs s₀ s) (h_valve : Block.valve ∈ bs) :
    Within bs s₀ (vlvOn s v pulse sense) := by
  unfold vlvOn
  dsimp only
  with_reducible repeat' (first | assumption | apply modVlv_within | apply vlvExtend_within | apply vlvStartRows_within | apply vlvStartAt_within | apply vlvReenter_within | apply ite_within | apply ite_within_snd | apply ite_within_thd | split)

theorem vlvNote_within (s : State) (v : Nat) (cmd : Nat) (hk : Within bs s₀ s) (h_valve : Block.valve ∈ bs) :
    Within bs s₀ (vlvNote s v cmd) := by
  unfold vlvNote
  with_reducible repeat' (first | assumption | apply modVlv_within)

theorem vlvAct_within (s : State) (v cmd sense : Nat) (hk : Within bs s₀ s) (h_valve : Block.valve ∈ bs) :
    Within bs s₀ (vlvAct s v cmd sense) := by
  unfold vlvAct
  dsimp only
  with_reducible repeat' (first | assumption | apply vlvNote_within | apply vlvOff_within | apply vlvOn_within | apply bankRefresh_within | apply ite_within)

theorem vlvActFree_within (s : State) (v cmd : Nat) (hk : Within bs s₀ s) (h_free : Block.free ∈ bs) (h_valve : Block.valve ∈ bs) :
    Within bs s₀ (vlvActFree s v cmd) := by
  unfold vlvActFree
  dsimp only
  with_reducible repeat' (first | assumption | apply takeFree_within | apply vlvAct_within)

theorem propApply_within (s : State) (v ref : Nat) (hk : Within bs s₀ s) (h_valve : Block.valve ∈ bs) (h_dict : Block.dict ∈ bs) :
    Within bs s₀ (propApply s v ref) := by
  unfold propApply
  dsimp only
  with_reducible repeat' (first | assumption | apply vlvTakeSet_within | apply modBank_within | apply modVlv_within | apply bankRefresh_within | apply vlvDecay_within | apply ite_within)

theorem propSet_within (s : State) (v ref : Nat) (hk : Within bs s₀ s) (h_valve : Block.valve ∈ bs) (h_dict : Block.dict ∈ bs) :
    Within bs s₀ (propSet s v ref) := by
  unfold propSet
  dsimp only
  with_reducible repeat' (first | assumption | apply modVlv_within | apply propApply_within | apply dropRequest_within | apply modBank_within | apply askBudget_within | apply ite_within)

theorem propCommand_within (s : State) (v : Nat) (q : Int) (hk : Within bs s₀ s) (h_valve : Block.valve ∈ bs) (h_dict : Block.dict ∈ bs) (h_mem : Block.mem ∈ bs) :
    Within bs s₀ (propCommand s v q) := by
  unfold propCommand
  with_reducible repeat' (first | assumption | apply propSet_within | apply heddleFetch_within | apply ite_within)

theorem vlvSyncMode_within (s : State) (v : Nat) (hk : Within bs s₀ s) (h_free : Block.free ∈ bs) (h_valve : Block.valve ∈ bs) (h_dict : Block.dict ∈ bs) (h_mem : Block.mem ∈ bs) :
    Within bs s₀ (vlvSyncMode s v) := by
  unfold vlvSyncMode
  dsimp only
  with_reducible repeat' (first | assumption | apply modVlv_within | apply vlvActFree_within | apply propCommand_within | apply ite_within)

theorem vlvSettle_within (s : State) (v : Nat) (hk : Within bs s₀ s) (h_free : Block.free ∈ bs) (h_valve : Block.valve ∈ bs) (h_dict : Block.dict ∈ bs) (h_mem : Block.mem ∈ bs) :
    Within bs s₀ (vlvSettle s v) := by
  unfold vlvSettle
  dsimp only
  with_reducible repeat' (first | assumption | apply vlvSyncMode_within | apply vlvTakeSet_within | apply ite_within)

theorem vlvCommand_within (s : State) (v cmd sense : Nat) (hk : Within bs s₀ s) (h_free : Block.free ∈ bs) (h_valve : Block.valve ∈ bs) (h_dict : Block.dict ∈ bs) (h_mem : Block.mem ∈ bs) :
    Within bs s₀ (vlvCommand s v cmd sense) := by
  unfold vlvCommand
  with_reducible repeat' (first | assumption | apply vlvSettle_within | apply vlvAct_within)

theorem vlvCommandFree_within (s : State) (v cmd : Nat) (hk : Within bs s₀ s) (h_free : Block.free ∈ bs) (h_valve : Block.valve ∈ bs) (h_dict : Block.dict ∈ bs) (h_mem : Block.mem ∈ bs) :
    Within bs s₀ (vlvCommandFree s v cmd) := by
  unfold vlvCommandFree
  with_reducible repeat' (first | assumption | apply vlvSettle_within | apply vlvActFree_within)

theorem vlvForceRest_within (s : State) (v : Nat) (hk : Within bs s₀ s) (h_free : Block.free ∈ bs) (h_valve : Block.valve ∈ bs) (h_dict : Block.dict ∈ bs) (h_mem : Block.mem ∈ bs) :
    Within bs s₀ (vlvForceRest s v) := by
  unfold vlvForceRest
  with_reducible repeat' (first | assumption | apply vlvSyncMode_within | apply vlvTakeSet_within | apply vlvForceOff_within)

theorem propDrive_within (s : State) (v : Nat) (q : Int) (hk : Within bs s₀ s) (h_free : Block.free ∈ bs) (h_valve : Block.valve ∈ bs) (h_dict : Block.dict ∈ bs) (h_mem : Block.mem ∈ bs) :
    Within bs s₀ (propDrive s v q) := by
  unfold propDrive
  with_reducible repeat' (first | assumption | apply vlvSyncMode_within | apply propCommand_within)

theorem vlvSafeHold_within (s : State) (v : Nat) (hk : Within bs s₀ s) (h_valve : Block.valve ∈ bs) :
    Within bs s₀ (vlvSafeHold s v) := by
  unfold vlvSafeHold
  dsimp only
  with_reducible repeat' (first | assumption | apply modVlv_within | apply dropRequest_within | apply learnAbandon_within | apply ite_within | apply ite_within_snd | apply ite_within_thd | split)

theorem vlvSafeOn_within (s : State) (v : Nat) (hk : Within bs s₀ s) (h_free : Block.free ∈ bs) (h_valve : Block.valve ∈ bs) :
    Within bs s₀ (vlvSafeOn s v) := by
  unfold vlvSafeOn
  dsimp only
  with_reducible repeat' (first | assumption | apply learnAbandon_within | apply takeFree_within | apply vlvOn_within | apply bankRefresh_within | apply modVlv_within | apply ite_within)

theorem vlvTakeSafe_within (s : State) (v : Nat) (hk : Within bs s₀ s) (h_free : Block.free ∈ bs) (h_valve : Block.valve ∈ bs) (h_dict : Block.dict ∈ bs) (h_mem : Block.mem ∈ bs) :
    Within bs s₀ (vlvTakeSafe s v) := by
  unfold vlvTakeSafe
  dsimp only
  with_reducible repeat' (first | assumption | apply vlvSafeHold_within | apply propSet_within | apply vlvSafeOn_within | apply vlvForceRest_within | apply ite_within)

theorem vlvTakeOwner_within (s : State) (v : Nat) (hk : Within bs s₀ s) (h_free : Block.free ∈ bs) (h_valve : Block.valve ∈ bs) (h_dict : Block.dict ∈ bs) (h_mem : Block.mem ∈ bs) :
    Within bs s₀ (vlvTakeOwner s v) := by
  unfold vlvTakeOwner
  dsimp only
  with_reducible repeat' (first | assumption | apply propDrive_within | apply bankRefresh_within | apply vlvStartRows_within | apply vlvSettle_within | apply vlvOff_within | apply ite_within)

theorem vlvTakeUp_within (s : State) (v : Nat) (hk : Within bs s₀ s) (h_free : Block.free ∈ bs) (h_valve : Block.valve ∈ bs) (h_dict : Block.dict ∈ bs) (h_mem : Block.mem ∈ bs) :
    Within bs s₀ (vlvTakeUp s v) := by
  unfold vlvTakeUp
  dsimp only
  with_reducible repeat' (first | assumption | apply vlvSyncMode_within | apply vlvForceRest_within | apply heddleFetch_within | apply vlvTakeSafe_within | apply vlvTakeOwner_within | apply ite_within)

theorem vlvTakeUpAll_within (s : State) (hk : Within bs s₀ s) (h_free : Block.free ∈ bs) (h_valve : Block.valve ∈ bs) (h_dict : Block.dict ∈ bs) (h_mem : Block.mem ∈ bs) :
    Within bs s₀ (vlvTakeUpAll s) := by
  unfold vlvTakeUpAll
  with_reducible repeat' (first | assumption | apply vlvTakeUp_within | refine forAll_within _ _ _ (fun _ _ _ => ?_) ?_)

theorem vlvTrip_within (s : State) (v diag : Nat) (hk : Within bs s₀ s) (h_valve : Block.valve ∈ bs) :
    Within bs s₀ (vlvTrip s v diag) := by
  unfold vlvTrip
  dsimp only
  with_reducible repeat' (first | assumption | apply vlvForceOff_within | apply modVlv_within)

theorem vlvCutoff_within (s : State) (v : Nat) (hk : Within bs s₀ s) (h_valve : Block.valve ∈ bs) :
    Within bs s₀ (vlvCutoff s v) := by
  unfold vlvCutoff
  dsimp only
  with_reducible repeat' (first | assumption | apply modBank_within | apply bankRefresh_within | apply ite_within)

/-! ### FanOps -/

theorem limitFollow_within (s : State) (k : Nat) (hk : Within bs s₀ s) (h_fans : Block.fans ∈ bs) :
    Within bs s₀ (limitFollow s k) := by
  unfold limitFollow
  with_reducible repeat' (first | assumption | apply modFan_within)

theorem shadowSet_within (s : State) (k : Nat) (d q : Int) (hk : Within bs s₀ s) (h_free : Block.free ∈ bs) (h_fans : Block.fans ∈ bs) :
    Within bs s₀ (shadowSet s k d q) := by
  unfold shadowSet
  dsimp only
  with_reducible repeat' (first | assumption | apply takeFree_within | apply modFan_within)

theorem shadowRegulate_within (s : State) (k : Nat) (hk : Within bs s₀ s) (h_free : Block.free ∈ bs) (h_fans : Block.fans ∈ bs) :
    Within bs s₀ (shadowRegulate s k) := by
  unfold shadowRegulate
  dsimp only
  with_reducible repeat' (first | assumption | apply takeFree_within | apply shadowSet_within)

theorem fanListen_within (s : State) (k : Nat) (hk : Within bs s₀ s) (h_fans : Block.fans ∈ bs) :
    Within bs s₀ (fanListen s k) := by
  unfold fanListen
  with_reducible repeat' (first | assumption | apply modFan_within)

theorem fanAlign_within (s : State) (k : Nat) (hk : Within bs s₀ s) (h_fans : Block.fans ∈ bs) :
    Within bs s₀ (fanAlign s k) := by
  unfold fanAlign
  dsimp only
  with_reducible repeat' (first | assumption | apply limitFollow_within | apply modFan_within)

theorem fanRun_within (s : State) (k : Nat) (fine : Int) (hk : Within bs s₀ s) (h_fans : Block.fans ∈ bs) :
    Within bs s₀ (fanRun s k fine) := by
  unfold fanRun
  with_reducible repeat' (first | assumption | apply limitFollow_within | apply modFan_within)

theorem fanStop_within (s : State) (k : Nat) (hk : Within bs s₀ s) (h_fans : Block.fans ∈ bs) :
    Within bs s₀ (fanStop s k) := by
  unfold fanStop
  with_reducible repeat' (first | assumption | apply modFan_within)

theorem directStep_within (s : State) (k dt : Nat) (entry : List Byte) (hk : Within bs s₀ s) (h_free : Block.free ∈ bs) (h_fans : Block.fans ∈ bs) :
    Within bs s₀ (directStep s k dt entry) := by
  unfold directStep
  dsimp only
  with_reducible repeat' (first | assumption | apply fanStop_within | apply shadowRegulate_within | apply modFan_within | apply fanListen_within | apply fanRun_within | apply ite_within)

theorem ecStep_within (s : State) (e dt : Nat) (entry : List Byte) (hk : Within bs s₀ s) (h_io : Block.io ∈ bs) (h_fans : Block.fans ∈ bs) (h_mem : Block.mem ∈ bs) :
    Within bs s₀ (ecStep s e dt entry) := by
  unfold ecStep
  dsimp only
  with_reducible repeat' (first | assumption | apply modFan_within | apply ioApply_within | apply ite_within)

theorem refreshBoost_within (s : State) (hk : Within bs s₀ s) (h_fans : Block.fans ∈ bs) :
    Within bs s₀ (refreshBoost s) := by
  unfold refreshBoost
  with_reducible repeat' (first | assumption | apply modFan_within | refine forAll_within _ _ _ (fun _ _ _ => ?_) ?_)

theorem fanFetch_within (s : State) (f : Nat) (hk : Within bs s₀ s) (h_mem : Block.mem ∈ bs) :
    Within bs s₀ (fanFetch s f).2 := by
  unfold fanFetch
  dsimp only
  with_reducible repeat' (first | assumption | apply heddleFetch_within | apply ite_within | apply ite_within_snd)

theorem fanUpdate_within (s : State) (f : Nat) (hk : Within bs s₀ s) (h_free : Block.free ∈ bs) (h_io : Block.io ∈ bs) (h_fans : Block.fans ∈ bs) (h_mem : Block.mem ∈ bs) :
    Within bs s₀ (fanUpdate s f) := by
  unfold fanUpdate
  dsimp only
  with_reducible repeat' (first | assumption | apply fanFetch_within | apply modFan_within | apply limitFollow_within | apply directStep_within | apply ecStep_within | apply refreshBoost_within | apply ite_within)

theorem fanUpdateAll_within (s : State) (hk : Within bs s₀ s) (h_free : Block.free ∈ bs) (h_io : Block.io ∈ bs) (h_fans : Block.fans ∈ bs) (h_mem : Block.mem ∈ bs) :
    Within bs s₀ (fanUpdateAll s) := by
  unfold fanUpdateAll
  with_reducible repeat' (first | assumption | apply fanUpdate_within | refine forAll_within _ _ _ (fun _ _ _ => ?_) ?_)

theorem fanTakeSet_within (s : State) (f : Nat) (hk : Within bs s₀ s) (h_dict : Block.dict ∈ bs) :
    Within bs s₀ (fanTakeSet s f) := by
  unfold fanTakeSet
  dsimp only
  with_reducible repeat' (first | assumption | apply takeObj_within | apply setForce_within | apply syncDone_within | apply ite_within | apply ite_within_snd | apply ite_within_thd | refine forAll_within _ _ _ (fun _ _ _ => ?_) ?_)

theorem fanReadTable_within (s : State) (f : Nat) (hk : Within bs s₀ s) (h_fans : Block.fans ∈ bs) :
    Within bs s₀ (fanReadTable s f) := by
  unfold fanReadTable
  dsimp only
  with_reducible repeat' (first | assumption | apply modFan_within)

theorem fansEnterTable_within (s : State) (hk : Within bs s₀ s) (h_free : Block.free ∈ bs) (h_io : Block.io ∈ bs) (h_fans : Block.fans ∈ bs) (h_mem : Block.mem ∈ bs) :
    Within bs s₀ (fansEnterTable s) := by
  unfold fansEnterTable
  dsimp only
  with_reducible repeat' (first | assumption | apply fanReadTable_within | apply modFan_within | apply fanUpdate_within | apply ite_within | apply ite_within_snd | apply ite_within_thd | refine forAll_within _ _ _ (fun _ _ _ => ?_) ?_)

theorem fanLeaveTable_within (s : State) (f : Nat) (hk : Within bs s₀ s) (h_fans : Block.fans ∈ bs) :
    Within bs s₀ (fanLeaveTable s f) := by
  unfold fanLeaveTable
  with_reducible repeat' (first | assumption | apply modFan_within)

theorem fansEndSilence_within (s : State) (hk : Within bs s₀ s) (h_free : Block.free ∈ bs) (h_io : Block.io ∈ bs) (h_fans : Block.fans ∈ bs) (h_mem : Block.mem ∈ bs) :
    Within bs s₀ (fansEndSilence s) := by
  unfold fansEndSilence
  with_reducible repeat' (first | assumption | apply fanUpdate_within | apply fanLeaveTable_within | apply ite_within | apply ite_within_snd | apply ite_within_thd | refine forAll_within _ _ _ (fun _ _ _ => ?_) ?_)

/-! ### DictOps -/

theorem clearPending_within (s : State) (x : Sess) (hk : Within bs s₀ s) (h_dict : Block.dict ∈ bs) :
    Within bs s₀ (clearPending s x) := by
  unfold clearPending
  with_reducible repeat' (first | assumption | apply modSess_within)

theorem dropPending_within (s : State) (x : Sess) (hk : Within bs s₀ s) (h_dict : Block.dict ∈ bs) :
    Within bs s₀ (dropPending s x) := by
  unfold dropPending
  dsimp only
  with_reducible repeat' (first | assumption | apply clearPending_within | apply ite_within | apply ite_within_snd | apply ite_within_thd | (simp only [↓within_mk]; apply parts_dict))

theorem dropCanPending_within (s : State) (x : Nat) (hk : Within bs s₀ s) (h_dict : Block.dict ∈ bs) :
    Within bs s₀ (dropCanPending s x) := by
  unfold dropCanPending
  with_reducible repeat' (first | assumption | apply dropPending_within | refine forAll_within _ _ _ (fun _ _ _ => ?_) ?_)

theorem startJob_within (s : State) (j : CopyJob) (hk : Within bs s₀ s) (h_dict : Block.dict ∈ bs) :
    Within bs s₀ (startJob s j) := by
  unfold startJob
  dsimp only
  with_reducible repeat' (first | assumption | (simp only [↓within_mk]; apply parts_dict) | split)

theorem markRw_within (s : State) (hk : Within bs s₀ s) (h_dict : Block.dict ∈ bs) :
    Within bs s₀ (markRw s) := by
  unfold markRw
  dsimp only
  with_reducible repeat' (first | assumption | apply ite_within | apply ite_within_snd | apply ite_within_thd | (simp only [↓within_mk]; apply parts_dict) | split)

theorem writeRw_within (s : State) (key : Nat) (v : Val) (hk : Within bs s₀ s) (h_dict : Block.dict ∈ bs) :
    Within bs s₀ (writeRw s key v) := by
  unfold writeRw
  dsimp only
  with_reducible repeat' (first | assumption | apply setRw_within | apply markRw_within | apply ite_within)

/-! ### CanOps -/

theorem canSetState_within (s : State) (x st : Nat) (hk : Within bs s₀ s) (h_can : Block.can ∈ bs) (h_snap : Block.snap ∈ bs) :
    Within bs s₀ (canSetState s x st) := by
  unfold canSetState
  dsimp only
  with_reducible repeat' (first | assumption | apply modCan_within | apply logEvent_within | apply ite_within)

theorem canFollow_within (s : State) (x : Nat) (hk : Within bs s₀ s) (h_can : Block.can ∈ bs) (h_snap : Block.snap ∈ bs) :
    Within bs s₀ (canFollow s x) := by
  unfold canFollow
  dsimp only
  with_reducible repeat' (first | assumption | apply canSetState_within | apply ite_within)

theorem canOffer_within (s : State) (x : Nat) (hk : Within bs s₀ s) (h_can : Block.can ∈ bs) :
    Within bs s₀ (canOffer s x) := by
  unfold canOffer
  dsimp only
  with_reducible repeat' (first | assumption | apply modCan_within | apply ite_within)

theorem canQueue_within (s : State) (x : Nat) (it : TxItem) (hk : Within bs s₀ s) (h_can : Block.can ∈ bs) :
    Within bs s₀ (canQueue s x it) := by
  unfold canQueue
  dsimp only
  with_reducible repeat' (first | assumption | apply canOffer_within | apply modCan_within | apply ite_within)

theorem canQueueHeartbeat_within (s : State) (x : Nat) (f : CanFrame) (hk : Within bs s₀ s) (h_can : Block.can ∈ bs) :
    Within bs s₀ (canQueueHeartbeat s x f) := by
  unfold canQueueHeartbeat
  dsimp only
  with_reducible repeat' (first | assumption | apply modCan_within | apply canQueue_within | apply ite_within)

theorem canQueueUrgent_within (s : State) (x : Nat) (f : CanFrame) (discardAt : Nat) (hk : Within bs s₀ s) (h_can : Block.can ∈ bs) :
    Within bs s₀ (canQueueUrgent s x f discardAt) := by
  unfold canQueueUrgent
  dsimp only
  with_reducible repeat' (first | assumption | apply canOffer_within | apply modCan_within | apply ite_within)

theorem canExpire_within (s : State) (x : Nat) (hk : Within bs s₀ s) (h_can : Block.can ∈ bs) :
    Within bs s₀ (canExpire s x) := by
  unfold canExpire
  dsimp only
  with_reducible repeat' (first | assumption | apply modCan_within)

theorem canEnterMode_within (s : State) (x : Nat) (hk : Within bs s₀ s) (h_can : Block.can ∈ bs) (h_snap : Block.snap ∈ bs) :
    Within bs s₀ (canEnterMode s x) := by
  unfold canEnterMode
  with_reducible repeat' (first | assumption | apply canSetState_within | apply modCan_within | split)

theorem canEnter_within (s : State) (x : Nat) (hk : Within bs s₀ s) (h_can : Block.can ∈ bs) (h_snap : Block.snap ∈ bs) :
    Within bs s₀ (canEnter s x) := by
  unfold canEnter
  dsimp only
  with_reducible repeat' (first | assumption | apply modCan_within | apply canSetState_within | apply ite_within)

theorem canTakeSet_within (s : State) (x : Nat) (hk : Within bs s₀ s) (h_dict : Block.dict ∈ bs) (h_can : Block.can ∈ bs) (h_snap : Block.snap ∈ bs) :
    Within bs s₀ (canTakeSet s x) := by
  unfold canTakeSet
  dsimp only
  with_reducible repeat' (first | assumption | apply takeObj_within | apply syncDone_within | apply canEnter_within | apply ite_within | apply ite_within_snd | apply ite_within_thd | refine forAll_within _ _ _ (fun _ _ _ => ?_) ?_)

theorem canSync_within (s : State) (x : Nat) (hk : Within bs s₀ s) (h_dict : Block.dict ∈ bs) (h_can : Block.can ∈ bs) (h_snap : Block.snap ∈ bs) :
    Within bs s₀ (canSync s x) := by
  unfold canSync
  with_reducible repeat' (first | assumption | apply canTakeSet_within | apply ite_within)

theorem canFrameEnd_within (s : State) (x : Nat) (hk : Within bs s₀ s) (h_dict : Block.dict ∈ bs) (h_can : Block.can ∈ bs) (h_snap : Block.snap ∈ bs) :
    Within bs s₀ (canFrameEnd s x) := by
  unfold canFrameEnd
  dsimp only
  with_reducible repeat' (first | assumption | apply canTakeSet_within | apply canOffer_within | apply canExpire_within | apply ite_within)

theorem canBusOff_within (s : State) (x : Nat) (hk : Within bs s₀ s) (h_dict : Block.dict ∈ bs) (h_can : Block.can ∈ bs) (h_snap : Block.snap ∈ bs) :
    Within bs s₀ (canBusOff s x) := by
  unfold canBusOff
  dsimp only
  with_reducible repeat' (first | assumption | apply modCan_within | apply dropCanPending_within | apply canSetState_within | apply ite_within)

theorem canWake_within (s : State) (x cause : Nat) (hk : Within bs s₀ s) (h_can : Block.can ∈ bs) (h_snap : Block.snap ∈ bs) :
    Within bs s₀ (canWake s x cause) := by
  unfold canWake
  dsimp only
  with_reducible repeat' (first | assumption | apply modCan_within | apply canSetState_within)

theorem rxPut_within (s : State) (x o : Nat) (ob : RxObj) (hk : Within bs s₀ s) (h_can : Block.can ∈ bs) (h_mem : Block.mem ∈ bs) :
    Within bs s₀ (rxPut s x o ob) := by
  unfold rxPut
  dsimp only
  with_reducible repeat' (first | assumption | apply modCan_within | apply clearPoison_within | apply sramWrite_within | refine forAll_within _ _ _ (fun _ _ _ => ?_) ?_)

theorem rxStore_within (s : State) (x o : Nat) (f : CanFrame) (age : Nat) (hk : Within bs s₀ s) (h_host : Block.host ∈ bs) (h_can : Block.can ∈ bs) (h_mem : Block.mem ∈ bs) :
    Within bs s₀ (rxStore s x o f age) := by
  unfold rxStore
  dsimp only
  with_reducible repeat' (first | assumption | apply rxPut_within | apply pushHostEvent_within | apply modCan_within | apply ite_within)

theorem rxAckOp_within (s : State) (x o : Nat) (hk : Within bs s₀ s) (h_can : Block.can ∈ bs) (h_mem : Block.mem ∈ bs) :
    Within bs s₀ (rxAckOp s x o) := by
  unfold rxAckOp
  dsimp only
  with_reducible repeat' (first | assumption | apply rxPut_within | apply ite_within)

theorem rxOffer_within (s : State) (x : Nat) (f : CanFrame) (age : Nat) (hk : Within bs s₀ s) (h_host : Block.host ∈ bs) (h_can : Block.can ∈ bs) (h_mem : Block.mem ∈ bs) :
    Within bs s₀ (rxOffer s x f age) := by
  unfold rxOffer
  with_reducible repeat' (first | assumption | apply rxStore_within | apply modCan_within | split)

/-! ### CanEvents -/

theorem execCanTxComplete_within (x : Nat) (s : State) (hk : Within bs s₀ s) (h_dict : Block.dict ∈ bs) (h_can : Block.can ∈ bs) (h_snap : Block.snap ∈ bs) :
    Leads bs s₀ (execCanTxComplete x s) := by
  unfold execCanTxComplete
  dsimp only
  with_reducible repeat' (first | assumption | apply modCan_within | apply canFrameEnd_within | apply canFollow_within | apply ite_within | apply ite_within_snd | apply ite_within_thd | apply ite_within_out | apply within_next)

theorem execCanError_within (x : Nat) (kind : CanErrKind) (transmitting : Bool) (amount : Nat) (s : State) (hk : Within bs s₀ s) (h_dict : Block.dict ∈ bs) (h_can : Block.can ∈ bs) (h_snap : Block.snap ∈ bs) :
    Leads bs s₀ (execCanError x kind transmitting amount s) := by
  unfold execCanError
  dsimp only
  with_reducible repeat' (first | assumption | apply modCan_within | apply canBusOff_within | apply canFrameEnd_within | apply canFollow_within | apply ite_within | apply ite_within_snd | apply ite_within_thd | apply ite_within_out | apply within_next)

theorem execBusoffHoldoffEnd_within (x : Nat) (s : State) (hk : Within bs s₀ s) (h_can : Block.can ∈ bs) (h_snap : Block.snap ∈ bs) :
    Leads bs s₀ (execBusoffHoldoffEnd x s) := by
  unfold execBusoffHoldoffEnd
  dsimp only
  with_reducible repeat' (first | assumption | apply canSetState_within | apply ite_within | apply ite_within_snd | apply ite_within_thd | apply ite_within_out | apply within_next)

theorem execBusOffRecovered_within (x : Nat) (s : State) (hk : Within bs s₀ s) (h_dict : Block.dict ∈ bs) (h_can : Block.can ∈ bs) (h_snap : Block.snap ∈ bs) :
    Leads bs s₀ (execBusOffRecovered x s) := by
  unfold execBusOffRecovered
  dsimp only
  with_reducible repeat' (first | assumption | apply modCan_within | apply canFrameEnd_within | apply canEnterMode_within | apply ite_within | apply ite_within_snd | apply ite_within_thd | apply ite_within_out | apply within_next)

theorem execLoneRetry_within (x : Nat) (s : State) (hk : Within bs s₀ s) (h_can : Block.can ∈ bs) :
    Leads bs s₀ (execLoneRetry x s) := by
  unfold execLoneRetry
  dsimp only
  with_reducible repeat' (first | assumption | apply modCan_within | apply ite_within | apply ite_within_snd | apply ite_within_thd | apply ite_within_out | apply within_next)

theorem execRateCandidateTimer_within (x : Nat) (s : State) (hk : Within bs s₀ s) (h_can : Block.can ∈ bs) :
    Leads bs s₀ (execRateCandidateTimer x s) := by
  unfold execRateCandidateTimer
  dsimp only
  with_reducible repeat' (first | assumption | apply modCan_within | apply ite_within | apply ite_within_snd | apply ite_within_thd | apply ite_within_out | apply within_next)

theorem execReintegrationDone_within (x : Nat) (s : State) (hk : Within bs s₀ s) (h_dict : Block.dict ∈ bs) (h_can : Block.can ∈ bs) (h_snap : Block.snap ∈ bs) :
    Leads bs s₀ (execReintegrationDone x s) := by
  unfold execReintegrationDone
  dsimp only
  with_reducible repeat' (first | assumption | apply canFrameEnd_within | apply canEnterMode_within | apply ite_within | apply ite_within_snd | apply ite_within_thd | apply ite_within_out | apply within_next)

theorem execUrgentDiscard_within (x : Nat) (s : State) (hk : Within bs s₀ s) (h_can : Block.can ∈ bs) :
    Leads bs s₀ (execUrgentDiscard x s) := by
  unfold execUrgentDiscard
  with_reducible repeat' (first | assumption | apply canExpire_within | apply within_next)

theorem execTxDomTimeout_within (x : Nat) (s : State) (hk : Within bs s₀ s) (h_can : Block.can ∈ bs) :
    Leads bs s₀ (execTxDomTimeout x s) := by
  unfold execTxDomTimeout
  with_reducible repeat' (first | assumption | apply modCan_within | apply ite_within | apply ite_within_snd | apply ite_within_thd | apply ite_within_out | apply within_next)

theorem execSleepEntry_within (x : Nat) (s : State) (hk : Within bs s₀ s) (h_can : Block.can ∈ bs) (h_snap : Block.snap ∈ bs) :
    Leads bs s₀ (execSleepEntry x s) := by
  unfold execSleepEntry
  dsimp only
  with_reducible repeat' (first | assumption | apply modCan_within | apply canSetState_within | apply ite_within | apply ite_within_snd | apply ite_within_thd | apply ite_within_out | apply within_next | split)

theorem execDominantWake_within (x nanoseconds : Nat) (s : State) (hk : Within bs s₀ s) (h_free : Block.free ∈ bs) (h_can : Block.can ∈ bs) (h_snap : Block.snap ∈ bs) :
    Leads bs s₀ (execDominantWake x nanoseconds s) := by
  unfold execDominantWake
  dsimp only
  with_reducible repeat' (first | assumption | apply canWake_within | apply takeFree_within | apply ite_within | apply ite_within_snd | apply ite_within_thd | apply ite_within_out | apply within_next)

theorem execWakeFrame_within (x : Nat) (frame : CanFrame) (s : State) (hk : Within bs s₀ s) (h_can : Block.can ∈ bs) (h_snap : Block.snap ∈ bs) :
    Leads bs s₀ (execWakeFrame x frame s) := by
  unfold execWakeFrame
  with_reducible repeat' (first | assumption | apply canWake_within | apply modCan_within | apply ite_within | apply ite_within_snd | apply ite_within_thd | apply ite_within_out | apply within_next)

theorem execWakeErrorCount_within (x : Nat) (error : Bool) (s : State) (hk : Within bs s₀ s) (h_can : Block.can ∈ bs) (h_snap : Block.snap ∈ bs) :
    Leads bs s₀ (execWakeErrorCount x error s) := by
  unfold execWakeErrorCount
  dsimp only
  with_reducible repeat' (first | assumption | apply modCan_within | apply canWake_within | apply ite_within | apply ite_within_snd | apply ite_within_thd | apply ite_within_out | apply within_next)

theorem execTrxOvertemp_within (x : Nat) (hot : Bool) (s : State) (hk : Within bs s₀ s) (h_can : Block.can ∈ bs) (h_snap : Block.snap ∈ bs) :
    Leads bs s₀ (execTrxOvertemp x hot s) := by
  unfold execTrxOvertemp
  dsimp only
  with_reducible repeat' (first | assumption | apply modCan_within | apply canEnter_within | apply ite_within | apply ite_within_snd | apply ite_within_thd | apply ite_within_out | apply within_next)

/-! ### EngineOps -/

theorem modLane_within (s : State) (i : Nat) (f : Lane → Lane) (hk : Within bs s₀ s) (h_engine : Block.engine ∈ bs) :
    Within bs s₀ (modLane s i f) := by
  unfold modLane
  dsimp only
  with_reducible repeat' (first | assumption | apply ite_within | apply ite_within_snd | apply ite_within_thd | (simp only [↓within_mk]; apply parts_engine))

theorem poolTakeOne_within (s : State) (n : Nat) (hk : Within bs s₀ s) (h_engine : Block.engine ∈ bs) :
    Within bs s₀ (poolTakeOne s n) := by
  unfold poolTakeOne
  dsimp only
  with_reducible repeat' (first | assumption | apply modLoop_within | split)

theorem poolTake_within (s : State) (n k : Nat) (hk : Within bs s₀ s) (h_engine : Block.engine ∈ bs) :
    Within bs s₀ (poolTake s n k) := by
  unfold poolTake
  with_reducible repeat' (first | assumption | apply poolTakeOne_within | refine forAll_within _ _ _ (fun _ _ _ => ?_) ?_)

theorem poolAssign_within (s : State) (hk : Within bs s₀ s) (h_engine : Block.engine ∈ bs) :
    Within bs s₀ (poolAssign s) := by
  unfold poolAssign
  dsimp only
  with_reducible repeat' (first | assumption | apply modLoop_within | apply poolTake_within | apply ite_within | apply ite_within_snd | apply ite_within_thd | refine forAll_within _ _ _ (fun _ _ _ => ?_) ?_)

theorem loopBegin_within (s : State) (n : Nat) (hk : Within bs s₀ s) (h_engine : Block.engine ∈ bs) :
    Within bs s₀ (loopBegin s n) := by
  unfold loopBegin
  dsimp only
  with_reducible repeat' (first | assumption | apply modLoop_within)

theorem loopTakeSet_within (s : State) (n : Nat) (hk : Within bs s₀ s) (h_engine : Block.engine ∈ bs) (h_dict : Block.dict ∈ bs) :
    Within bs s₀ (loopTakeSet s n) := by
  unfold loopTakeSet
  dsimp only
  with_reducible repeat' (first | assumption | apply takeObj_within | apply syncDone_within | apply modLoop_within | apply loopBegin_within | apply ite_within | apply ite_within_snd | apply ite_within_thd | refine forAll_within _ _ _ (fun _ _ _ => ?_) ?_)

theorem loopDue_within (s : State) (n endClk : Nat) (result : Bool) (hk : Within bs s₀ s) (h_engine : Block.engine ∈ bs) :
    Within bs s₀ (loopDue s n endClk result) := by
  unfold loopDue
  with_reducible repeat' (first | assumption | apply modLoop_within | apply ite_within)

theorem resultDue_within (s : State) (code endClk : Nat) (hk : Within bs s₀ s) (h_engine : Block.engine ∈ bs) :
    Within bs s₀ (resultDue s code endClk) := by
  unfold resultDue
  with_reducible repeat' (first | assumption | apply loopDue_within | refine forAll_within _ _ _ (fun _ _ _ => ?_) ?_)

/-! ### LoomOps -/

theorem setLearn_within (s : State) (c : Nat) (l : CircLearn) (hk : Within bs s₀ s) (h_loom : Block.loom ∈ bs) :
    Within bs s₀ (setLearn s c l) := by
  unfold setLearn
  with_reducible repeat' (first | assumption | apply modCirc_within)

theorem circWithdraw_within (s : State) (c : Nat) (hk : Within bs s₀ s) (h_loom : Block.loom ∈ bs) :
    Within bs s₀ (circWithdraw s c) := by
  unfold circWithdraw
  dsimp only
  with_reducible repeat' (first | assumption | apply modCirc_within | apply ite_within | apply ite_within_snd | apply ite_within_thd | (simp only [↓within_mk]; apply parts_loom))

theorem circDirect_within (s : State) (c : Nat) (hk : Within bs s₀ s) (h_loom : Block.loom ∈ bs) :
    Within bs s₀ (circDirect s c) := by
  unfold circDirect
  dsimp only
  with_reducible repeat' (first | assumption | apply modCirc_within | apply ite_within | apply ite_within_snd | apply ite_within_thd | split)

theorem circAsk_within (s : State) (c : Nat) (b : Bool) (hk : Within bs s₀ s) (h_loom : Block.loom ∈ bs) :
    Within bs s₀ (circAsk s c b) := by
  unfold circAsk
  dsimp only
  with_reducible repeat' (first | assumption | apply modCirc_within | apply circWithdraw_within | apply circDirect_within | apply ite_within)

theorem circRefresh_within (s : State) (c : Nat) (hk : Within bs s₀ s) (h_loom : Block.loom ∈ bs) :
    Within bs s₀ (circRefresh s c) := by
  unfold circRefresh
  with_reducible repeat' (first | assumption | apply circAsk_within | apply ite_within | apply ite_within_snd | apply ite_within_thd | split)

theorem placeNext_within (s : State) (c : Nat) (hk : Within bs s₀ s) (h_loom : Block.loom ∈ bs) :
    Within bs s₀ (placeNext s c) := by
  unfold placeNext
  dsimp only
  with_reducible repeat' (first | assumption | apply modCirc_within | apply ite_within | apply ite_within_snd | apply ite_within_thd | (simp only [↓within_mk]; apply parts_loom))

theorem bankSettle_within (b n : Nat) (s : State) (hk : Within bs s₀ s) (h_loom : Block.loom ∈ bs) :
    Within bs s₀ (bankSettle b n s) := by
  induction n generalizing s with
  | zero => exact hk
  | succ n ih =>
    unfold bankSettle
    split
    · with_reducible exact hk
    · exact ih _ (placeNext_within _ _ hk h_loom)

theorem circPlace_within (s : State) (c from_ : Nat) (b : Bool) (hk : Within bs s₀ s) (h_loom : Block.loom ∈ bs) :
    Within bs s₀ (circPlace s c from_ b) := by
  unfold circPlace
  dsimp only
  with_reducible repeat' (first | assumption | apply modCirc_within | apply bankSettle_within | apply ite_within | apply ite_within_snd | apply ite_within_thd | (simp only [↓within_mk]; apply parts_loom))

theorem transStart_within (s : State) (c : Nat) (close : Bool) (a : ArmedCmd) (hk : Within bs s₀ s) (h_loom : Block.loom ∈ bs) :
    Within bs s₀ (transStart s c close a) := by
  unfold transStart
  dsimp only
  with_reducible repeat' (first | assumption | apply modCirc_within | apply setLearn_within | apply ite_within)

theorem transEnd_within (s : State) (c : Nat) (hk : Within bs s₀ s) (h_loom : Block.loom ∈ bs) :
    Within bs s₀ (transEnd s c) := by
  unfold transEnd
  dsimp only
  with_reducible repeat' (first | assumption | apply modCirc_within | apply circRefresh_within | apply ite_within | apply ite_within_snd | apply ite_within_thd | split)

theorem taintTransitions_within (s : State) (hk : Within bs s₀ s) (h_loom : Block.loom ∈ bs) :
    Within bs s₀ (taintTransitions s) := by
  unfold taintTransitions
  with_reducible repeat' (first | assumption | apply modCirc_within | apply ite_within | apply ite_within_snd | apply ite_within_thd | refine forAll_within _ _ _ (fun _ _ _ => ?_) ?_)

theorem closureFound_within (s : State) (c stamp : Nat) (hk : Within bs s₀ s) (h_loom : Block.loom ∈ bs) :
    Within bs s₀ (closureFound s c stamp) := by
  unfold closureFound
  dsimp only
  with_reducible repeat' (first | assumption | apply modCirc_within | apply setLearn_within | apply transEnd_within | apply ite_within | apply ite_within_snd | apply ite_within_thd | split)

theorem releaseFound_within (s : State) (c stamp : Nat) (hk : Within bs s₀ s) (h_loom : Block.loom ∈ bs) :
    Within bs s₀ (releaseFound s c stamp) := by
  unfold releaseFound
  dsimp only
  with_reducible repeat' (first | assumption | apply modCirc_within | apply setLearn_within | apply transEnd_within | apply ite_within | apply ite_within_snd | apply ite_within_thd | split)

theorem noteSeatToLoad_within (s : State) (c seat load : Nat) (hk : Within bs s₀ s) (h_loom : Block.loom ∈ bs) :
    Within bs s₀ (noteSeatToLoad s c seat load) := by
  unfold noteSeatToLoad
  with_reducible repeat' (first | assumption | apply modCirc_within)

theorem loomSeat_within (s : State) (v stamp : Nat) (delayed : Bool) (hk : Within bs s₀ s) (h_loom : Block.loom ∈ bs) :
    Within bs s₀ (loomSeat s v stamp delayed) := by
  unfold loomSeat
  dsimp only
  with_reducible repeat' (first | assumption | apply modCirc_within | apply closureFound_within | apply noteSeatToLoad_within | apply ite_within | apply ite_within_snd | apply ite_within_thd | refine forAll_within _ _ _ (fun _ _ _ => ?_) ?_ | split)

theorem loadStart_within (s : State) (c stamp : Nat) (hk : Within bs s₀ s) (h_loom : Block.loom ∈ bs) :
    Within bs s₀ (loadStart s c stamp) := by
  unfold loadStart
  dsimp only
  with_reducible repeat' (first | assumption | apply modCirc_within | apply closureFound_within | apply ite_within | apply ite_within_snd | apply ite_within_thd | split)

theorem loadCrossing_within (s : State) (c : Nat) (pos : Bool) (mag : Int) (at_ : Nat) (hk : Within bs s₀ s) (h_loom : Block.loom ∈ bs) :
    Within bs s₀ (loadCrossing s c pos mag at_) := by
  unfold loadCrossing
  dsimp only
  with_reducible repeat' (first | assumption | apply modCirc_within | apply setLearn_within | apply ite_within)

theorem loadSample_within (s : State) (c : Nat) (v : Int) (stamp : Nat) (hk : Within bs s₀ s) (h_loom : Block.loom ∈ bs) :
    Within bs s₀ (loadSample s c v stamp) := by
  unfold loadSample
  dsimp only
  with_reducible repeat' (first | assumption | apply loadStart_within | apply noteSeatToLoad_within | apply loadCrossing_within | apply modCirc_within | apply releaseFound_within | apply ite_within | apply ite_within_snd | apply ite_within_thd | split)

theorem loomLoad_within (s : State) (k : Nat) (v : Int) (stamp : Nat) (hk : Within bs s₀ s) (h_loom : Block.loom ∈ bs) :
    Within bs s₀ (loomLoad s k v stamp) := by
  unfold loomLoad
  with_reducible repeat' (first | assumption | apply loadSample_within | refine forAll_within _ _ _ (fun _ _ _ => ?_) ?_)

theorem loomDrive_within (s : State) (h word : Nat) (hk : Within bs s₀ s) (h_free : Block.free ∈ bs) (h_valve : Block.valve ∈ bs) (h_io : Block.io ∈ bs) (h_dict : Block.dict ∈ bs) (h_mem : Block.mem ∈ bs) :
    Within bs s₀ (loomDrive s h word) := by
  unfold loomDrive
  with_reducible repeat' (first | assumption | apply ioApply_within | apply vlvCommandFree_within | apply ite_within)

theorem circAct_within (s : State) (c : Nat) (close : Bool) (word : Nat) (a : ArmedCmd) (hk : Within bs s₀ s) (h_free : Block.free ∈ bs) (h_loom : Block.loom ∈ bs) (h_valve : Block.valve ∈ bs) (h_io : Block.io ∈ bs) (h_dict : Block.dict ∈ bs) (h_mem : Block.mem ∈ bs) :
    Within bs s₀ (circAct s c close word a) := by
  unfold circAct
  with_reducible repeat' (first | assumption | apply loomDrive_within | apply transStart_within)

/-! ### SnapOps -/

theorem snapSendFrame_within (s : State) (payload : List Byte) (hk : Within bs s₀ s) (h_can : Block.can ∈ bs) :
    Within bs s₀ (snapSendFrame s payload) := by
  unfold snapSendFrame
  with_reducible repeat' (first | assumption | apply canQueueUrgent_within | apply ite_within | apply ite_within_snd | apply ite_within_thd | refine forAll_within _ _ _ (fun _ _ _ => ?_) ?_)

theorem snapPulse_within (s : State) (hk : Within bs s₀ s) (h_snap : Block.snap ∈ bs) :
    Within bs s₀ (snapPulse s) := by
  unfold snapPulse
  dsimp only
  with_reducible repeat' (first | assumption | apply ite_within | apply ite_within_snd | apply ite_within_thd | (simp only [↓within_mk]; apply parts_snap))

theorem snapCapture_within (s : State) (slot source trigAt detail : Nat) (delayed late merged : Bool) (hk : Within bs s₀ s) (h_can : Block.can ∈ bs) (h_snap : Block.snap ∈ bs) :
    Within bs s₀ (snapCapture s slot source trigAt detail delayed late merged) := by
  unfold snapCapture
  dsimp only
  with_reducible repeat' (first | assumption | apply modSlot_within | apply logEvent_within | apply snapPulse_within | apply snapSendFrame_within | apply ite_within)

theorem snapDrop_within (s : State) (slot source : Nat) (late : Bool) (hk : Within bs s₀ s) (h_snap : Block.snap ∈ bs) :
    Within bs s₀ (snapDrop s slot source late) := by
  unfold snapDrop
  dsimp only
  with_reducible repeat' (first | assumption | apply queueRec_within | (simp only [↓within_mk]; apply parts_snap))

theorem snapMergeRec_within (s : State) (slot : Nat) (hk : Within bs s₀ s) (h_snap : Block.snap ∈ bs) :
    Within bs s₀ (snapMergeRec s slot) := by
  unfold snapMergeRec
  dsimp only
  with_reducible repeat' (first | assumption | apply ite_within | apply ite_within_snd | apply ite_within_thd | (simp only [↓within_mk]; apply parts_snap))

theorem snapMerge_within (s : State) (slot source detail : Nat) (hk : Within bs s₀ s) (h_can : Block.can ∈ bs) (h_snap : Block.snap ∈ bs) :
    Within bs s₀ (snapMerge s slot source detail) := by
  unfold snapMerge
  dsimp only
  with_reducible repeat' (first | assumption | apply snapMergeRec_within | apply modSlot_within | apply snapPulse_within | apply snapSendFrame_within | apply ite_within)

theorem snapFire_within (s : State) (slot source detail : Nat) (late : Bool) (hk : Within bs s₀ s) (h_can : Block.can ∈ bs) (h_snap : Block.snap ∈ bs) :
    Within bs s₀ (snapFire s slot source detail late) := by
  unfold snapFire
  dsimp only
  with_reducible repeat' (first | assumption | apply snapMerge_within | apply snapDrop_within | apply snapCapture_within | apply ite_within | apply ite_within_snd | apply ite_within_thd | (simp only [↓within_mk]; apply parts_snap) | split)

theorem snapArm_within (s : State) (slot at_ : Nat) (hk : Within bs s₀ s) (h_can : Block.can ∈ bs) (h_snap : Block.snap ∈ bs) :
    Within bs s₀ (snapArm s slot at_) := by
  unfold snapArm
  dsimp only
  with_reducible repeat' (first | assumption | apply modSlot_within | apply snapFire_within | apply ite_within)

theorem snapArmFrame_within (s : State) (slot at_ : Nat) (hk : Within bs s₀ s) (h_can : Block.can ∈ bs) :
    Within bs s₀ (snapArmFrame s slot at_) := by
  unfold snapArmFrame
  with_reducible repeat' (first | assumption | apply snapSendFrame_within)

theorem snapRelease_within (s : State) (slot : Nat) (hk : Within bs s₀ s) (h_snap : Block.snap ∈ bs) :
    Within bs s₀ (snapRelease s slot) := by
  unfold snapRelease
  with_reducible repeat' (first | assumption | apply modSlot_within)

/-! ### PairOps -/

theorem pairFlag_within (s : State) (i : Nat) (b : Bool) (hk : Within bs s₀ s) (h_pair : Block.pair ∈ bs) :
    Within bs s₀ (pairFlag s i b) := by
  unfold pairFlag
  dsimp only
  with_reducible repeat' (first | assumption | (simp only [↓within_mk]; apply parts_pair))

theorem noteLoss_within (s : State) (n : Nat) (hk : Within bs s₀ s) (h_pair : Block.pair ∈ bs) :
    Within bs s₀ (noteLoss s n) := by
  unfold noteLoss
  dsimp only
  with_reducible repeat' (first | assumption | apply pairFlag_within | apply ite_within | apply ite_within_snd | apply ite_within_thd | (simp only [↓within_mk]; apply parts_pair))

theorem sendMirror_within (s : State) (i : MirrorItem) (hk : Within bs s₀ s) (h_pair : Block.pair ∈ bs) :
    Within bs s₀ (sendMirror s i) := by
  unfold sendMirror
  dsimp only
  with_reducible repeat' (first | assumption | apply noteLoss_within | apply ite_within | apply ite_within_snd | apply ite_within_thd | (simp only [↓within_mk]; apply parts_pair))

theorem translate_within (s : State) (l : List (Nat × Val)) (hk : Within bs s₀ s) (h_pair : Block.pair ∈ bs) :
    Within bs s₀ (translate s l).2 := by
  unfold translate
  dsimp only
  with_reducible repeat' (first | assumption | apply noteLoss_within)

theorem sendConfig_within (s : State) (gen : Nat) (changes : List (Nat × Val)) (hk : Within bs s₀ s) (h_pair : Block.pair ∈ bs) :
    Within bs s₀ (sendConfig s gen changes) := by
  unfold sendConfig
  dsimp only
  with_reducible repeat' (first | assumption | apply translate_within | apply ite_within | apply ite_within_snd | apply ite_within_thd | (simp only [↓within_mk]; apply parts_pair))

theorem logRole_within (s : State) (old new_ : Nat) (dual : Bool) (hk : Within bs s₀ s) (h_snap : Block.snap ∈ bs) :
    Within bs s₀ (logRole s old new_ dual) := by
  unfold logRole
  with_reducible repeat' (first | assumption | apply logEvent_within)

theorem pairGiveUp_within (s : State) (hk : Within bs s₀ s) (h_pair : Block.pair ∈ bs) :
    Within bs s₀ (pairGiveUp s) := by
  unfold pairGiveUp
  dsimp only
  with_reducible repeat' (first | assumption | apply ite_within | apply ite_within_snd | apply ite_within_thd | (simp only [↓within_mk]; apply parts_pair))

/-! ### SafetyOps -/

theorem applyOut_within (s : State) (h : Nat) (hk : Within bs s₀ s) (h_free : Block.free ∈ bs) (h_meas : Block.meas ∈ bs) (h_valve : Block.valve ∈ bs) (h_io : Block.io ∈ bs) (h_fans : Block.fans ∈ bs) (h_dict : Block.dict ∈ bs) (h_mem : Block.mem ∈ bs) :
    Within bs s₀ (applyOut s h) := by
  unfold applyOut
  with_reducible repeat' (first | assumption | apply ioApply_within | apply vlvTakeUp_within | apply fanUpdate_within | apply aoApply_within | apply ite_within)

theorem applyAll_within (s : State) (hk : Within bs s₀ s) (h_free : Block.free ∈ bs) (h_meas : Block.meas ∈ bs) (h_valve : Block.valve ∈ bs) (h_io : Block.io ∈ bs) (h_fans : Block.fans ∈ bs) (h_dict : Block.dict ∈ bs) (h_mem : Block.mem ∈ bs) :
    Within bs s₀ (applyAll s) := by
  unfold applyAll
  with_reducible repeat' (first | assumption | apply applyOut_within | refine forAll_within _ _ _ (fun _ _ _ => ?_) ?_)

theorem safeMark_within (bit : Nat) (s : State) (h : Nat) (hk : Within bs s₀ s) (h_safety : Block.safety ∈ bs) :
    Within bs s₀ (safeMark bit s h) := by
  unfold safeMark
  dsimp only
  with_reducible repeat' (first | assumption | apply modSafe_within)

theorem faultNFollow_within (s : State) (hk : Within bs s₀ s) (h_safety : Block.safety ∈ bs) :
    Within bs s₀ (faultNFollow s) := by
  unfold faultNFollow
  dsimp only
  with_reducible repeat' (first | assumption | (simp only [↓within_mk]; apply parts_safety))

theorem safeRecord_within (s : State) (bit scope chan loop : Nat) (hk : Within bs s₀ s) (h_safety : Block.safety ∈ bs) (h_snap : Block.snap ∈ bs) :
    Within bs s₀ (safeRecord s bit scope chan loop) := by
  unfold safeRecord
  dsimp only
  with_reducible repeat' (first | assumption | apply logEvent_within | (simp only [↓within_mk]; apply parts_safety))

theorem safeSnap_within (s : State) (bit : Nat) (hk : Within bs s₀ s) (h_can : Block.can ∈ bs) (h_snap : Block.snap ∈ bs) :
    Within bs s₀ (safeSnap s bit) := by
  unfold safeSnap
  with_reducible repeat' (first | assumption | apply snapFire_within)

theorem failModule_within (s : State) (bit : Nat) (hk : Within bs s₀ s) (h_free : Block.free ∈ bs) (h_meas : Block.meas ∈ bs) (h_valve : Block.valve ∈ bs) (h_io : Block.io ∈ bs) (h_fans : Block.fans ∈ bs) (h_dict : Block.dict ∈ bs) (h_can : Block.can ∈ bs) (h_pair : Block.pair ∈ bs) (h_mem : Block.mem ∈ bs) (h_safety : Block.safety ∈ bs) (h_snap : Block.snap ∈ bs) :
    Within bs s₀ (failModule s bit) := by
  unfold failModule
  dsimp only
  with_reducible repeat' (first | assumption | apply safeRecord_within | apply pairGiveUp_within | apply safeMark_within | apply safeSnap_within | apply applyAll_within | apply ite_within | apply ite_within_snd | apply ite_within_thd | refine forAll_within _ _ _ (fun _ _ _ => ?_) ?_ | (simp only [↓within_mk]; apply parts_safety))

theorem failChannels_within (s : State) (bit : Nat) (hs : List Nat) (loop : Nat) (hk : Within bs s₀ s) (h_free : Block.free ∈ bs) (h_meas : Block.meas ∈ bs) (h_valve : Block.valve ∈ bs) (h_io : Block.io ∈ bs) (h_fans : Block.fans ∈ bs) (h_dict : Block.dict ∈ bs) (h_can : Block.can ∈ bs) (h_mem : Block.mem ∈ bs) (h_safety : Block.safety ∈ bs) (h_snap : Block.snap ∈ bs) :
    Within bs s₀ (failChannels s bit hs loop) := by
  unfold failChannels
  dsimp only
  with_reducible repeat' (first | assumption | apply safeRecord_within | apply safeMark_within | apply safeSnap_within | apply applyOut_within | apply faultNFollow_within | apply ite_within | apply ite_within_snd | apply ite_within_thd | refine forAll_within _ _ _ (fun _ _ _ => ?_) ?_ | (simp only [↓within_mk]; apply parts_safety))

theorem safeDeviate_within (s : State) (p : Nat → Bool) (hk : Within bs s₀ s) (h_safety : Block.safety ∈ bs) :
    Within bs s₀ (safeDeviate s p) := by
  unfold safeDeviate
  with_reducible repeat' (first | assumption | apply modSafe_within | refine forAll_within _ _ _ (fun _ _ _ => ?_) ?_)

theorem safeRelease_within (s : State) (h : Nat) (hk : Within bs s₀ s) (h_free : Block.free ∈ bs) (h_meas : Block.meas ∈ bs) (h_valve : Block.valve ∈ bs) (h_io : Block.io ∈ bs) (h_fans : Block.fans ∈ bs) (h_dict : Block.dict ∈ bs) (h_mem : Block.mem ∈ bs) (h_safety : Block.safety ∈ bs) :
    Within bs s₀ (safeRelease s h) := by
  unfold safeRelease
  with_reducible repeat' (first | assumption | apply applyOut_within | apply modSafe_within)

theorem latchSafe_within (s : State) (hk : Within bs s₀ s) (h_safety : Block.safety ∈ bs) :
    Within bs s₀ (latchSafe s) := by
  unfold latchSafe
  dsimp only
  with_reducible repeat' (first | assumption | (simp only [↓within_mk]; apply parts_safety))

theorem failInput_within (s : State) (code : Nat) (hk : Within bs s₀ s) (h_free : Block.free ∈ bs) (h_engine : Block.engine ∈ bs) (h_meas : Block.meas ∈ bs) (h_valve : Block.valve ∈ bs) (h_io : Block.io ∈ bs) (h_fans : Block.fans ∈ bs) (h_dict : Block.dict ∈ bs) (h_can : Block.can ∈ bs) (h_mem : Block.mem ∈ bs) (h_safety : Block.safety ∈ bs) (h_snap : Block.snap ∈ bs) :
    Within bs s₀ (failInput s code) := by
  unfold failInput
  dsimp only
  with_reducible repeat' (first | assumption | apply modLoop_within | apply failChannels_within | apply ite_within | apply ite_within_snd | apply ite_within_thd | refine forAll_within _ _ _ (fun _ _ _ => ?_) ?_ | (simp only [↓within_mk]; apply parts_safety))

/-! ### MeasOps -/

theorem triggerEvent_within (s : State) (src : Nat) (hk : Within bs s₀ s) (h_meas : Block.meas ∈ bs) :
    Within bs s₀ (triggerEvent s src) := by
  unfold triggerEvent
  dsimp only
  with_reducible repeat' (first | assumption | apply modTrig_within | refine forAll_within _ _ _ (fun _ _ _ => ?_) ?_ | (simp only [↓within_mk]; apply parts_meas))

theorem putRec_within (s : State) (key : Nat) (r : ResRec) (hk : Within bs s₀ s) (h_meas : Block.meas ∈ bs) (h_mem : Block.mem ∈ bs) :
    Within bs s₀ (putRec s key r) := by
  unfold putRec
  dsimp only
  with_reducible repeat' (first | assumption | apply setRec_within | apply clearPoison_within | apply sramWrite_within)

/-! ### MemOps -/

theorem memFlag_within (s : State) (i : Nat) (b : Bool) (hk : Within bs s₀ s) (h_mem : Block.mem ∈ bs) :
    Within bs s₀ (memFlag s i b) := by
  unfold memFlag
  dsimp only
  with_reducible repeat' (first | assumption | (simp only [↓within_mk]; apply parts_mem))

theorem addLedger_within (s : State) (memory kind origin bank index spare : Nat) (hk : Within bs s₀ s) (h_mem : Block.mem ∈ bs) (h_mram : Block.mram ∈ bs) :
    Within bs s₀ (addLedger s memory kind origin bank index spare) := by
  unfold addLedger
  dsimp only
  with_reducible repeat' (first | assumption | apply memFlag_within | apply ite_within | apply ite_within_snd | apply ite_within_thd | (simp only [↓within_mk]; apply parts_mram))

theorem logRepair_within (s : State) (hk : Within bs s₀ s) (h_snap : Block.snap ∈ bs) :
    Within bs s₀ (logRepair s) := by
  unfold logRepair
  with_reducible repeat' (first | assumption | apply logEvent_within | split)

theorem writeMap_within (s : State) (hk : Within bs s₀ s) (h_mem : Block.mem ∈ bs) (h_mram : Block.mram ∈ bs) :
    Within bs s₀ (writeMap s) := by
  unfold writeMap
  dsimp only
  with_reducible repeat' (first | assumption | apply mramWritten_within | (simp only [↓within_mk]; apply parts_mem_mram))

theorem refreshMapFlags_within (s : State) (hk : Within bs s₀ s) (h_mem : Block.mem ∈ bs) :
    Within bs s₀ (refreshMapFlags s) := by
  unfold refreshMapFlags
  with_reducible repeat' (first | assumption | apply memFlag_within)

theorem exhausted_within (s : State) (m bank index origin : Nat) (hk : Within bs s₀ s) (h_free : Block.free ∈ bs) (h_meas : Block.meas ∈ bs) (h_valve : Block.valve ∈ bs) (h_io : Block.io ∈ bs) (h_fans : Block.fans ∈ bs) (h_dict : Block.dict ∈ bs) (h_can : Block.can ∈ bs) (h_pair : Block.pair ∈ bs) (h_mem : Block.mem ∈ bs) (h_safety : Block.safety ∈ bs) (h_snap : Block.snap ∈ bs) (h_mram : Block.mram ∈ bs) :
    Within bs s₀ (exhausted s m bank index origin) := by
  unfold exhausted
  dsimp only
  with_reducible repeat' (first | assumption | apply logRepair_within | apply addLedger_within | apply memFlag_within | apply writeMap_within | apply failModule_within | apply ite_within)

theorem defectColumn_within (s : State) (m bank col origin : Nat) (hk : Within bs s₀ s) (h_free : Block.free ∈ bs) (h_meas : Block.meas ∈ bs) (h_valve : Block.valve ∈ bs) (h_io : Block.io ∈ bs) (h_fans : Block.fans ∈ bs) (h_dict : Block.dict ∈ bs) (h_can : Block.can ∈ bs) (h_pair : Block.pair ∈ bs) (h_mem : Block.mem ∈ bs) (h_safety : Block.safety ∈ bs) (h_snap : Block.snap ∈ bs) (h_mram : Block.mram ∈ bs) :
    Within bs s₀ (defectColumn s m bank col origin) := by
  unfold defectColumn
  dsimp only
  with_reducible repeat' (first | assumption | apply writeMap_within | apply refreshMapFlags_within | apply logRepair_within | apply addLedger_within | apply exhausted_within | apply ite_within | apply ite_within_snd | apply ite_within_thd | (simp only [↓within_mk]; apply parts_mem) | split)

theorem defectRow_within (s : State) (m bank row origin : Nat) (hk : Within bs s₀ s) (h_free : Block.free ∈ bs) (h_meas : Block.meas ∈ bs) (h_valve : Block.valve ∈ bs) (h_io : Block.io ∈ bs) (h_fans : Block.fans ∈ bs) (h_dict : Block.dict ∈ bs) (h_can : Block.can ∈ bs) (h_pair : Block.pair ∈ bs) (h_mem : Block.mem ∈ bs) (h_safety : Block.safety ∈ bs) (h_snap : Block.snap ∈ bs) (h_mram : Block.mram ∈ bs) :
    Within bs s₀ (defectRow s m bank row origin) := by
  unfold defectRow
  dsimp only
  with_reducible repeat' (first | assumption | apply writeMap_within | apply refreshMapFlags_within | apply logRepair_within | apply addLedger_within | apply exhausted_within | apply ite_within | apply ite_within_snd | apply ite_within_thd | (simp only [↓within_mk]; apply parts_mem) | split)

theorem dropLearned_within (s : State) (line : Nat) (hk : Within bs s₀ s) (h_loom : Block.loom ∈ bs) (h_valve : Block.valve ∈ bs) (h_mram : Block.mram ∈ bs) :
    Within bs s₀ (dropLearned s line) := by
  unfold dropLearned
  dsimp only
  with_reducible repeat' (first | assumption | apply modCirc_within | apply modVlv_within | apply modZone_within | apply ite_within | apply ite_within_snd | apply ite_within_thd | (simp only [↓within_mk]; apply parts_mram))

theorem dropProfile_within (s : State) (slot : Nat) (hk : Within bs s₀ s) (h_engine : Block.engine ∈ bs) (h_mram : Block.mram ∈ bs) :
    Within bs s₀ (dropProfile s slot) := by
  unfold dropProfile
  dsimp only
  with_reducible repeat' (first | assumption | apply modLoop_within | (simp only [↓within_mk]; apply parts_mram) | split)

theorem rewriteCopy_within (s : State) (k : Nat) (hk : Within bs s₀ s) (h_mem : Block.mem ∈ bs) (h_mram : Block.mram ∈ bs) :
    Within bs s₀ (rewriteCopy s k) := by
  unfold rewriteCopy
  dsimp only
  with_reducible repeat' (first | assumption | apply mramWritten_within | (simp only [↓within_mk]; apply parts_mram))

theorem poisonMram_within (s : State) (off : Nat) (hk : Within bs s₀ s) (h_loom : Block.loom ∈ bs) (h_engine : Block.engine ∈ bs) (h_valve : Block.valve ∈ bs) (h_mem : Block.mem ∈ bs) (h_mram : Block.mram ∈ bs) :
    Within bs s₀ (poisonMram s off) := by
  unfold poisonMram
  dsimp only
  with_reducible repeat' (first | assumption | apply rewriteCopy_within | apply dropProfile_within | apply dropLearned_within | apply ite_within | apply ite_within_snd | apply ite_within_thd | (simp only [↓within_mk]; apply parts_mram))

theorem poisonSram_within (s : State) (off : Nat) (hk : Within bs s₀ s) (h_free : Block.free ∈ bs) (h_meas : Block.meas ∈ bs) (h_valve : Block.valve ∈ bs) (h_io : Block.io ∈ bs) (h_fans : Block.fans ∈ bs) (h_dict : Block.dict ∈ bs) (h_can : Block.can ∈ bs) (h_pair : Block.pair ∈ bs) (h_mem : Block.mem ∈ bs) (h_safety : Block.safety ∈ bs) (h_snap : Block.snap ∈ bs) :
    Within bs s₀ (poisonSram s off) := by
  unfold poisonSram
  dsimp only
  with_reducible repeat' (first | assumption | apply setRec_within | apply failModule_within | apply ite_within | apply ite_within_snd | apply ite_within_thd | refine forAll_within _ _ _ (fun _ _ _ => ?_) ?_ | (simp only [↓within_mk]; apply parts_mem))

theorem poisonLine_within (s : State) (m off origin : Nat) (hk : Within bs s₀ s) (h_free : Block.free ∈ bs) (h_loom : Block.loom ∈ bs) (h_engine : Block.engine ∈ bs) (h_meas : Block.meas ∈ bs) (h_valve : Block.valve ∈ bs) (h_io : Block.io ∈ bs) (h_fans : Block.fans ∈ bs) (h_dict : Block.dict ∈ bs) (h_can : Block.can ∈ bs) (h_pair : Block.pair ∈ bs) (h_mem : Block.mem ∈ bs) (h_safety : Block.safety ∈ bs) (h_snap : Block.snap ∈ bs) (h_mram : Block.mram ∈ bs) :
    Within bs s₀ (poisonLine s m off origin) := by
  unfold poisonLine
  dsimp only
  with_reducible repeat' (first | assumption | apply addLedger_within | apply refreshPoison_within | apply defectRow_within | apply poisonSram_within | apply poisonMram_within | apply ite_within | apply ite_within_snd | apply ite_within_thd | (simp only [↓within_mk]; apply parts_mem))

theorem classify_within (s : State) (hits news : List Hit) (origin : Nat) (hk : Within bs s₀ s) (h_free : Block.free ∈ bs) (h_meas : Block.meas ∈ bs) (h_valve : Block.valve ∈ bs) (h_io : Block.io ∈ bs) (h_fans : Block.fans ∈ bs) (h_dict : Block.dict ∈ bs) (h_can : Block.can ∈ bs) (h_pair : Block.pair ∈ bs) (h_mem : Block.mem ∈ bs) (h_safety : Block.safety ∈ bs) (h_snap : Block.snap ∈ bs) (h_mram : Block.mram ∈ bs) :
    Within bs s₀ (classify s hits news origin) := by
  unfold classify
  dsimp only
  with_reducible repeat' (first | assumption | apply defectColumn_within | apply defectRow_within | apply ite_within | apply ite_within_snd | apply ite_within_thd | refine forAll_within _ _ _ (fun _ _ _ => ?_) ?_)

theorem hardCell_within (s : State) (h : Hit) (origin : Nat) (hk : Within bs s₀ s) (h_free : Block.free ∈ bs) (h_meas : Block.meas ∈ bs) (h_valve : Block.valve ∈ bs) (h_io : Block.io ∈ bs) (h_fans : Block.fans ∈ bs) (h_dict : Block.dict ∈ bs) (h_can : Block.can ∈ bs) (h_pair : Block.pair ∈ bs) (h_mem : Block.mem ∈ bs) (h_safety : Block.safety ∈ bs) (h_snap : Block.snap ∈ bs) (h_mram : Block.mram ∈ bs) :
    Within bs s₀ (hardCell s h origin) := by
  unfold hardCell
  dsimp only
  with_reducible repeat' (first | assumption | apply defectRow_within | apply ite_within | apply ite_within_snd | apply ite_within_thd | (simp only [↓within_mk]; apply parts_mem))

theorem retireLane_within (s : State) (i : Nat) (hk : Within bs s₀ s) (h_engine : Block.engine ∈ bs) (h_mem : Block.mem ∈ bs) (h_snap : Block.snap ∈ bs) (h_mram : Block.mram ∈ bs) :
    Within bs s₀ (retireLane s i) := by
  unfold retireLane
  dsimp only
  with_reducible repeat' (first | assumption | apply modLane_within | apply logEvent_within | apply writeMap_within | apply addLedger_within | apply ite_within | apply ite_within_snd | apply ite_within_thd | (simp only [↓within_mk]; apply parts_engine) | (simp only [↓within_mk]; apply parts_mem))

theorem laneFault_within (s : State) (i : Nat) (hk : Within bs s₀ s) (h_free : Block.free ∈ bs) (h_engine : Block.engine ∈ bs) (h_meas : Block.meas ∈ bs) (h_valve : Block.valve ∈ bs) (h_io : Block.io ∈ bs) (h_fans : Block.fans ∈ bs) (h_dict : Block.dict ∈ bs) (h_can : Block.can ∈ bs) (h_pair : Block.pair ∈ bs) (h_mem : Block.mem ∈ bs) (h_safety : Block.safety ∈ bs) (h_snap : Block.snap ∈ bs) (h_mram : Block.mram ∈ bs) :
    Within bs s₀ (laneFault s i) := by
  unfold laneFault
  dsimp only
  with_reducible repeat' (first | assumption | apply modLane_within | apply failModule_within | apply retireLane_within | apply ite_within | apply ite_within_snd | apply ite_within_thd | (simp only [↓within_mk]; apply parts_engine) | split)

/-! ### Memory -/

theorem scrubOn_within (s : State) (hk : Within bs s₀ s) (h_mem : Block.mem ∈ bs) :
    Within bs s₀ (scrubOn s) := by
  unfold scrubOn
  dsimp only
  with_reducible repeat' (first | assumption | apply ite_within | apply ite_within_snd | apply ite_within_thd | (simp only [↓within_mk]; apply parts_mem))

theorem execScrubRead_within (errs : List Nat) (s : State) (hk : Within bs s₀ s) (h_free : Block.free ∈ bs) (h_loom : Block.loom ∈ bs) (h_engine : Block.engine ∈ bs) (h_meas : Block.meas ∈ bs) (h_valve : Block.valve ∈ bs) (h_io : Block.io ∈ bs) (h_fans : Block.fans ∈ bs) (h_dict : Block.dict ∈ bs) (h_can : Block.can ∈ bs) (h_pair : Block.pair ∈ bs) (h_mem : Block.mem ∈ bs) (h_safety : Block.safety ∈ bs) (h_snap : Block.snap ∈ bs) (h_mram : Block.mram ∈ bs) :
    Leads bs s₀ (execScrubRead errs s) := by
  unfold execScrubRead
  dsimp only
  with_reducible repeat' (first | assumption | apply scrubOn_within | apply poisonLine_within | apply ite_within | apply ite_within_snd | apply ite_within_thd | apply ite_within_out | apply within_next | (simp only [↓within_mk]; apply parts_mem))

theorem execCorrectedWriteback_within (mem : MemKind) (offset : Nat) (s : State) (hk : Within bs s₀ s) (h_free : Block.free ∈ bs) (h_meas : Block.meas ∈ bs) (h_valve : Block.valve ∈ bs) (h_io : Block.io ∈ bs) (h_fans : Block.fans ∈ bs) (h_dict : Block.dict ∈ bs) (h_can : Block.can ∈ bs) (h_pair : Block.pair ∈ bs) (h_mem : Block.mem ∈ bs) (h_safety : Block.safety ∈ bs) (h_snap : Block.snap ∈ bs) (h_mram : Block.mram ∈ bs) :
    Leads bs s₀ (execCorrectedWriteback mem offset s) := by
  unfold execCorrectedWriteback
  dsimp only
  with_reducible repeat' (first | assumption | apply hardCell_within | apply classify_within | apply ite_within | apply ite_within_snd | apply ite_within_thd | apply ite_within_out | apply within_next | refine forAll_within _ _ _ (fun _ _ _ => ?_) ?_ | (simp only [↓within_mk]; apply parts_mem))

theorem execHeddleRewrite_within (entry : Nat) (s : State) (hk : Within bs s₀ s) (h_mem : Block.mem ∈ bs) :
    Leads bs s₀ (execHeddleRewrite entry s) := by
  unfold execHeddleRewrite
  dsimp only
  with_reducible repeat' (first | assumption | apply heddleStore_within | apply ite_within | apply ite_within_snd | apply ite_within_thd | apply ite_within_out | apply within_next | (simp only [↓within_mk]; apply parts_mem))

theorem execSpareMoveComplete_within (s : State) (hk : Within bs s₀ s) (h_mem : Block.mem ∈ bs) (h_mram : Block.mram ∈ bs) :
    Leads bs s₀ (execSpareMoveComplete s) := by
  unfold execSpareMoveComplete
  dsimp only
  with_reducible repeat' (first | assumption | apply writeMap_within | apply refreshMapFlags_within | apply ite_within | apply ite_within_snd | apply ite_within_thd | apply ite_within_out | apply within_next | (simp only [↓within_mk]; apply parts_mem))

theorem startInvalidate_within (s : State) (w : Nat) (hk : Within bs s₀ s) (h_mem : Block.mem ∈ bs) :
    Within bs s₀ (startInvalidate s w) := by
  unfold startInvalidate
  dsimp only
  with_reducible repeat' (first | assumption | (simp only [↓within_mk]; apply parts_mem))

theorem execInvalidationComplete_within (s : State) (hk : Within bs s₀ s) (h_mem : Block.mem ∈ bs) :
    Leads bs s₀ (execInvalidationComplete s) := by
  unfold execInvalidationComplete
  dsimp only
  with_reducible repeat' (first | assumption | apply ite_within | apply ite_within_snd | apply ite_within_thd | apply ite_within_out | apply within_next | (simp only [↓within_mk]; apply parts_mem))

end Sys2Proof.Machine
end

