-- ==== Sys2Proof/Laws/WithinUnits.lean ====
section
/-! SUPPORT. The parts of the state that each operation writes: the zones, the loops, the calendar and Warp. -/

namespace Sys2Proof.Machine

variable {s₀ : State} {bs : List Block}

/-! ### Zones -/

theorem prestartEnd_within (s : State) (z : Nat) (end_ : Nat) (pv : Int) (hk : Within bs s₀ s) (h_loom : Block.loom ∈ bs) :
    Within bs s₀ (prestartEnd s z end_ pv) := by
  unfold prestartEnd
  dsimp only
  with_reducible repeat' (first | assumption | apply modZone_within | apply ite_within | apply ite_within_snd | apply ite_within_thd | split)

theorem zoneSample_within (s : State) (n : Nat) (valid : Bool) (hk : Within bs s₀ s) (h_loom : Block.loom ∈ bs) :
    Within bs s₀ (zoneSample s n valid) := by
  unfold zoneSample
  dsimp only
  with_reducible repeat' (first | assumption | apply modZone_within | apply prestartEnd_within | apply ite_within | apply ite_within_snd | apply ite_within_thd | refine forAll_within _ _ _ (fun _ _ _ => ?_) ?_ | split)

theorem execOptimumStart_within (s : State) (hk : Within bs s₀ s) (h_loom : Block.loom ∈ bs) :
    Leads bs s₀ (execOptimumStart s) := by
  unfold execOptimumStart
  dsimp only
  with_reducible repeat' (first | assumption | apply modZone_within | apply ite_within | apply ite_within_snd | apply ite_within_thd | apply ite_within_out | apply within_next | refine forAll_within _ _ _ (fun _ _ _ => ?_) ?_)

theorem execPrestartTimeout_within (z : Nat) (s : State) (hk : Within bs s₀ s) (h_loom : Block.loom ∈ bs) :
    Leads bs s₀ (execPrestartTimeout z s) := by
  unfold execPrestartTimeout
  with_reducible repeat' (first | assumption | apply prestartEnd_within | apply ite_within | apply ite_within_snd | apply ite_within_thd | apply ite_within_out | apply within_next | split)

theorem osLearnReset_within (s : State) (z : Nat) (hk : Within bs s₀ s) (h_loom : Block.loom ∈ bs) :
    Within bs s₀ (osLearnReset s z) := by
  unfold osLearnReset
  with_reducible repeat' (first | assumption | apply modZone_within)

/-! ### Loops -/

theorem execSampleTimer_within (n : Nat) (s : State) (hk : Within bs s₀ s) (h_engine : Block.engine ∈ bs) :
    Leads bs s₀ (execSampleTimer n s) := by
  unfold execSampleTimer
  dsimp only
  with_reducible repeat' (first | assumption | apply modLoop_within | apply loopDue_within | apply ite_within | apply ite_within_snd | apply ite_within_thd | apply ite_within_out | apply within_next)

theorem execWarpSample_within (n : Nat) (s : State) (hk : Within bs s₀ s) (h_engine : Block.engine ∈ bs) :
    Leads bs s₀ (execWarpSample n s) := by
  unfold execWarpSample
  with_reducible repeat' (first | assumption | apply loopDue_within | apply modLoop_within | apply ite_within | apply ite_within_snd | apply ite_within_thd | apply ite_within_out | apply within_next)

theorem loopFault_within (s : State) (n : Nat) (hk : Within bs s₀ s) (h_free : Block.free ∈ bs) (h_engine : Block.engine ∈ bs) (h_meas : Block.meas ∈ bs) (h_valve : Block.valve ∈ bs) (h_io : Block.io ∈ bs) (h_fans : Block.fans ∈ bs) (h_dict : Block.dict ∈ bs) (h_can : Block.can ∈ bs) (h_mem : Block.mem ∈ bs) (h_safety : Block.safety ∈ bs) (h_snap : Block.snap ∈ bs) :
    Within bs s₀ (loopFault s n) := by
  unfold loopFault
  dsimp only
  with_reducible repeat' (first | assumption | apply modLoop_within | apply failChannels_within | refine forAll_within _ _ _ (fun _ _ _ => ?_) ?_)

theorem loopDrive_within (s : State) (n : Nat) (u : Int) (hk : Within bs s₀ s) (h_free : Block.free ∈ bs) (h_meas : Block.meas ∈ bs) (h_valve : Block.valve ∈ bs) (h_io : Block.io ∈ bs) (h_fans : Block.fans ∈ bs) (h_dict : Block.dict ∈ bs) (h_mem : Block.mem ∈ bs) :
    Within bs s₀ (loopDrive s n u) := by
  unfold loopDrive
  dsimp only
  with_reducible repeat' (first | assumption | apply ioApply_within | apply propDrive_within | apply vlvCommandFree_within | apply fanUpdate_within | apply aoApply_within | apply ite_within)

theorem outputApplied_within (s : State) (a : AxisOut) (hk : Within bs s₀ s) (h_engine : Block.engine ∈ bs) :
    Within bs s₀ (outputApplied s a) := by
  unfold outputApplied
  dsimp only
  with_reducible repeat' (first | assumption | apply modLoop_within | apply resultDue_within)

theorem axisApply_within (s : State) (k : Nat) (hk : Within bs s₀ s) (h_free : Block.free ∈ bs) (h_engine : Block.engine ∈ bs) (h_fans : Block.fans ∈ bs) :
    Within bs s₀ (axisApply s k) := by
  unfold axisApply
  dsimp only
  with_reducible repeat' (first | assumption | apply modFan_within | apply shadowSet_within | apply outputApplied_within | apply ite_within | apply ite_within_snd | apply ite_within_thd | refine forAll_within _ _ _ (fun _ _ _ => ?_) ?_)

theorem axisTake_within (s : State) (k : Nat) (a : AxisOut) (hk : Within bs s₀ s) (h_free : Block.free ∈ bs) (h_engine : Block.engine ∈ bs) (h_fans : Block.fans ∈ bs) :
    Within bs s₀ (axisTake s k a) := by
  unfold axisTake
  dsimp only
  with_reducible repeat' (first | assumption | apply modFan_within | apply axisApply_within | apply ite_within)

theorem outputGo_within (s : State) (a : AxisOut) (hk : Within bs s₀ s) (h_free : Block.free ∈ bs) (h_engine : Block.engine ∈ bs) (h_fans : Block.fans ∈ bs) :
    Within bs s₀ (outputGo s a) := by
  unfold outputGo
  dsimp only
  with_reducible repeat' (first | assumption | apply outputApplied_within | apply axisTake_within | apply ite_within | apply ite_within_snd | apply ite_within_thd | refine forAll_within _ _ _ (fun _ _ _ => ?_) ?_)

theorem sampleInvalid_within (s : State) (n : Nat) (hk : Within bs s₀ s) (h_loom : Block.loom ∈ bs) (h_engine : Block.engine ∈ bs) :
    Within bs s₀ (sampleInvalid s n) := by
  unfold sampleInvalid
  dsimp only
  with_reducible repeat' (first | assumption | apply modLoop_within | apply zoneSample_within)

theorem sampleStandby_within (s : State) (n : Nat) (pv : Int) (hk : Within bs s₀ s) (h_engine : Block.engine ∈ bs) :
    Within bs s₀ (sampleStandby s n pv) := by
  unfold sampleStandby
  dsimp only
  with_reducible repeat' (first | assumption | apply modLoop_within)

theorem sampleApply_within (s : State) (n : Nat) (m : ModeStep) (x : EvalOut) (v : SrcVal) (d : DueSample) (pv sp e u : Int) (r : RampSt) (retried stale held : Bool) (hk : Within bs s₀ s) (h_free : Block.free ∈ bs) (h_loom : Block.loom ∈ bs) (h_engine : Block.engine ∈ bs) (h_meas : Block.meas ∈ bs) (h_valve : Block.valve ∈ bs) (h_io : Block.io ∈ bs) (h_fans : Block.fans ∈ bs) (h_dict : Block.dict ∈ bs) (h_mem : Block.mem ∈ bs) :
    Within bs s₀ (sampleApply s n m x v d pv sp e u r retried stale held) := by
  unfold sampleApply
  dsimp only
  with_reducible repeat' (first | assumption | apply modLoop_within | apply outputGo_within | apply zoneSample_within | apply loopDrive_within)

theorem sampleEval_within (s : State) (n : Nat) (err : LaneErr) (v : SrcVal) (d : DueSample) (pv : Int) (hk : Within bs s₀ s) (h_free : Block.free ∈ bs) (h_loom : Block.loom ∈ bs) (h_engine : Block.engine ∈ bs) (h_meas : Block.meas ∈ bs) (h_valve : Block.valve ∈ bs) (h_io : Block.io ∈ bs) (h_fans : Block.fans ∈ bs) (h_dict : Block.dict ∈ bs) (h_can : Block.can ∈ bs) (h_pair : Block.pair ∈ bs) (h_mem : Block.mem ∈ bs) (h_safety : Block.safety ∈ bs) (h_snap : Block.snap ∈ bs) (h_mram : Block.mram ∈ bs) :
    Within bs s₀ (sampleEval s n err v d pv) := by
  unfold sampleEval
  dsimp only
  with_reducible repeat' (first | assumption | apply writeRw_within | apply modLoop_within | apply loopFault_within | apply sampleApply_within | apply laneFault_within | apply ite_within | apply ite_within_snd | apply ite_within_thd | refine forAll_within _ _ _ (fun _ _ _ => ?_) ?_ | split)

theorem execLoopSample_within (n : Nat) (err : LaneErr) (s : State) (hk : Within bs s₀ s) (h_free : Block.free ∈ bs) (h_loom : Block.loom ∈ bs) (h_engine : Block.engine ∈ bs) (h_meas : Block.meas ∈ bs) (h_valve : Block.valve ∈ bs) (h_io : Block.io ∈ bs) (h_fans : Block.fans ∈ bs) (h_dict : Block.dict ∈ bs) (h_can : Block.can ∈ bs) (h_pair : Block.pair ∈ bs) (h_mem : Block.mem ∈ bs) (h_safety : Block.safety ∈ bs) (h_snap : Block.snap ∈ bs) (h_mram : Block.mram ∈ bs) :
    Leads bs s₀ (execLoopSample n err s) := by
  unfold execLoopSample
  dsimp only
  with_reducible repeat' (first | assumption | apply heddleFetch_within | apply loopTakeSet_within | apply sampleInvalid_within | apply sampleStandby_within | apply sampleEval_within | apply ite_within | apply ite_within_snd | apply ite_within_thd | apply ite_within_out | apply within_next | split)

theorem execLaneTest_within (lane : Nat) (ok : Bool) (s : State) (hk : Within bs s₀ s) (h_free : Block.free ∈ bs) (h_engine : Block.engine ∈ bs) (h_meas : Block.meas ∈ bs) (h_valve : Block.valve ∈ bs) (h_io : Block.io ∈ bs) (h_fans : Block.fans ∈ bs) (h_dict : Block.dict ∈ bs) (h_can : Block.can ∈ bs) (h_pair : Block.pair ∈ bs) (h_mem : Block.mem ∈ bs) (h_safety : Block.safety ∈ bs) (h_snap : Block.snap ∈ bs) (h_mram : Block.mram ∈ bs) :
    Leads bs s₀ (execLaneTest lane ok s) := by
  unfold execLaneTest
  dsimp only
  with_reducible repeat' (first | assumption | apply modLane_within | apply laneFault_within | apply ite_within | apply ite_within_snd | apply ite_within_thd | apply ite_within_out | apply within_next)

theorem statsReset_within (s : State) (n : Nat) (hk : Within bs s₀ s) (h_engine : Block.engine ∈ bs) :
    Within bs s₀ (statsReset s n) := by
  unfold statsReset
  with_reducible repeat' (first | assumption | apply modLoop_within)

theorem rcClear_within (s : State) (n : Nat) (hk : Within bs s₀ s) (h_engine : Block.engine ∈ bs) :
    Within bs s₀ (rcClear s n) := by
  unfold rcClear
  dsimp only
  with_reducible repeat' (first | assumption | apply modLoop_within)

theorem writeProfile_within (s : State) (n : Nat) (l : List Byte) (hk : Within bs s₀ s) (h_engine : Block.engine ∈ bs) :
    Within bs s₀ (writeProfile s n l) := by
  unfold writeProfile
  dsimp only
  with_reducible repeat' (first | assumption | apply modLoop_within)

theorem execProfileSave_within (s : State) (hk : Within bs s₀ s) (h_engine : Block.engine ∈ bs) (h_pair : Block.pair ∈ bs) (h_mem : Block.mem ∈ bs) (h_mram : Block.mram ∈ bs) :
    Leads bs s₀ (execProfileSave s) := by
  unfold execProfileSave
  dsimp only
  with_reducible repeat' (first | assumption | apply mramWritten_within | apply modLoop_within | apply sendMirror_within | apply ite_within | apply ite_within_snd | apply ite_within_thd | apply ite_within_out | apply within_next | refine forAll_within _ _ _ (fun _ _ _ => ?_) ?_ | (simp only [↓within_mk]; apply parts_mram))

/-! ### Calendar -/

theorem calStep_within (s : State) (v : Nat) (hk : Within bs s₀ s) (h_cal : Block.cal ∈ bs) (h_loom : Block.loom ∈ bs) (h_snap : Block.snap ∈ bs) :
    Within bs s₀ (calStep s v) := by
  unfold calStep
  dsimp only
  with_reducible repeat' (first | assumption | apply logEvent_within | apply modZone_within | refine forAll_within _ _ _ (fun _ _ _ => ?_) ?_ | (simp only [↓within_mk]; apply parts_cal))

theorem calSlewAdd_within (s : State) (v : Int) (hk : Within bs s₀ s) (h_cal : Block.cal ∈ bs) :
    Within bs s₀ (calSlewAdd s v) := by
  unfold calSlewAdd
  dsimp only
  with_reducible repeat' (first | assumption | apply ite_within | apply ite_within_snd | apply ite_within_thd | (simp only [↓within_mk]; apply parts_cal))

theorem execSlewEnd_within (s : State) (hk : Within bs s₀ s) (h_cal : Block.cal ∈ bs) :
    Leads bs s₀ (execSlewEnd s) := by
  unfold execSlewEnd
  dsimp only
  with_reducible repeat' (first | assumption | apply ite_within | apply ite_within_snd | apply ite_within_thd | apply ite_within_out | apply within_next | (simp only [↓within_mk]; apply parts_cal))

theorem execGridEvaluation_within (s : State) (hk : Within bs s₀ s) (h_cal : Block.cal ∈ bs) :
    Leads bs s₀ (execGridEvaluation s) := by
  unfold execGridEvaluation
  dsimp only
  with_reducible repeat' (first | assumption | apply ite_within | apply ite_within_snd | apply ite_within_thd | apply ite_within_out | apply within_next | (simp only [↓within_mk]; apply parts_cal))

theorem astroCompute_within (s : State) (hk : Within bs s₀ s) (h_cal : Block.cal ∈ bs) :
    Within bs s₀ (astroCompute s) := by
  unfold astroCompute
  dsimp only
  with_reducible repeat' (first | assumption | apply ite_within | apply ite_within_snd | apply ite_within_thd | (simp only [↓within_mk]; apply parts_cal))

theorem execAstroComputation_within (s : State) (hk : Within bs s₀ s) (h_cal : Block.cal ∈ bs) :
    Leads bs s₀ (execAstroComputation s) := by
  unfold execAstroComputation
  dsimp only
  with_reducible repeat' (first | assumption | apply astroCompute_within | apply ite_within | apply ite_within_snd | apply ite_within_thd | apply ite_within_out | apply within_next)

theorem execCrystalCompensation_within (s : State) (hk : Within bs s₀ s) (h_cal : Block.cal ∈ bs) (h_therm : Block.therm ∈ bs) :
    Leads bs s₀ (execCrystalCompensation s) := by
  unfold execCrystalCompensation
  dsimp only
  with_reducible repeat' (first | assumption | apply ite_within | apply ite_within_snd | apply ite_within_thd | apply ite_within_out | apply within_next | (simp only [↓within_mk]; apply parts_cal_therm))

/-! ### Warp -/

theorem execMainsZero_within (period ampl : Nat) (err : Int) (s : State) (hk : Within bs s₀ s) (h_warp : Block.warp ∈ bs) :
    Leads bs s₀ (execMainsZero period ampl err s) := by
  unfold execMainsZero
  dsimp only
  with_reducible repeat' (first | assumption | apply ite_within | apply ite_within_snd | apply ite_within_thd | apply ite_within_out | apply within_next | (simp only [↓within_mk]; apply parts_warp))

theorem execZeroMissing_within (s : State) (hk : Within bs s₀ s) (h_warp : Block.warp ∈ bs) :
    Leads bs s₀ (execZeroMissing s) := by
  unfold execZeroMissing
  dsimp only
  with_reducible repeat' (first | assumption | apply ite_within | apply ite_within_snd | apply ite_within_thd | apply ite_within_out | apply within_next | (simp only [↓within_mk]; apply parts_warp) | split)

theorem execHoldoverExpiry_within (s : State) (hk : Within bs s₀ s) (h_warp : Block.warp ∈ bs) :
    Leads bs s₀ (execHoldoverExpiry s) := by
  unfold execHoldoverExpiry
  dsimp only
  with_reducible repeat' (first | assumption | apply ite_within | apply ite_within_snd | apply ite_within_thd | apply ite_within_out | apply within_next | (simp only [↓within_mk]; apply parts_warp))

theorem alignSend_within (s : State) (hk : Within bs s₀ s) (h_warp : Block.warp ∈ bs) (h_can : Block.can ∈ bs) :
    Within bs s₀ (alignSend s) := by
  unfold alignSend
  dsimp only
  with_reducible repeat' (first | assumption | apply canQueue_within | apply ite_within | apply ite_within_snd | apply ite_within_thd | refine forAll_within _ _ _ (fun _ _ _ => ?_) ?_ | (simp only [↓within_mk]; apply parts_warp))

theorem execAlignRetry_within (s : State) (hk : Within bs s₀ s) (h_warp : Block.warp ∈ bs) (h_can : Block.can ∈ bs) :
    Leads bs s₀ (execAlignRetry s) := by
  unfold execAlignRetry
  dsimp only
  with_reducible repeat' (first | assumption | apply alignSend_within | apply ite_within | apply ite_within_snd | apply ite_within_thd | apply ite_within_out | apply within_next)

theorem execAlignResponse_within (warpNow_ : Nat) (s : State) (hk : Within bs s₀ s) (h_warp : Block.warp ∈ bs) :
    Leads bs s₀ (execAlignResponse warpNow_ s) := by
  unfold execAlignResponse
  dsimp only
  with_reducible repeat' (first | assumption | apply ite_within | apply ite_within_snd | apply ite_within_thd | apply ite_within_out | apply within_next | (simp only [↓within_mk]; apply parts_warp) | split)

theorem execClockFailure_within (cause : ClockFail) (s : State) (hk : Within bs s₀ s) (h_free : Block.free ∈ bs) (h_meas : Block.meas ∈ bs) (h_valve : Block.valve ∈ bs) (h_io : Block.io ∈ bs) (h_fans : Block.fans ∈ bs) (h_dict : Block.dict ∈ bs) (h_can : Block.can ∈ bs) (h_pair : Block.pair ∈ bs) (h_mem : Block.mem ∈ bs) (h_safety : Block.safety ∈ bs) (h_snap : Block.snap ∈ bs) :
    Leads bs s₀ (execClockFailure cause s) := by
  unfold execClockFailure
  with_reducible repeat' (first | assumption | apply failModule_within | apply ite_within | apply ite_within_snd | apply ite_within_thd | apply ite_within_out | apply within_next | split)

end Sys2Proof.Machine
end

