-- ==== Sys2Proof/Laws/WithinDrives.lean ====
section
/-! SUPPORT. The parts of the state that each operation writes: the valves, the field I/O and the fans. -/

namespace Sys2Proof.Machine

variable {s₀ : State} {bs : List Block}

/-! ### Valves -/

theorem vlvNext_within (s : State) (v : Nat) (hk : Within bs s₀ s) (h_valve : Block.valve ∈ bs) :
    Within bs s₀ (vlvNext s v) := by
  unfold vlvNext
  with_reducible repeat' (first | assumption | apply modVlv_within)

theorem vlvJump_within (s : State) (v a : Nat) (hk : Within bs s₀ s) (h_valve : Block.valve ∈ bs) :
    Within bs s₀ (vlvJump s v a) := by
  unfold vlvJump
  with_reducible repeat' (first | assumption | apply modVlv_within)

theorem vlvWaitOn_within (s : State) (v : Nat) (w : VlvWait) (hk : Within bs s₀ s) (h_valve : Block.valve ∈ bs) :
    Within bs s₀ (vlvWaitOn s v w) := by
  unfold vlvWaitOn
  with_reducible repeat' (first | assumption | apply modVlv_within)

theorem vlvRefresh_within (s : State) (v : Nat) (hk : Within bs s₀ s) (h_valve : Block.valve ∈ bs) :
    Within bs s₀ (vlvRefresh s v) := by
  unfold vlvRefresh
  with_reducible repeat' (first | assumption | apply bankRefresh_within)

theorem detSeat_within (s : State) (v : Nat) (hk : Within bs s₀ s) (h_valve : Block.valve ∈ bs) :
    Within bs s₀ (detSeat s v) := by
  unfold detSeat
  with_reducible repeat' (first | assumption | apply modVlv_within)

theorem vlvRefTo_within (s : State) (v level : Nat) (hk : Within bs s₀ s) (h_valve : Block.valve ∈ bs) :
    Within bs s₀ (vlvRefTo s v level) := by
  unfold vlvRefTo
  dsimp only
  with_reducible repeat' (first | assumption | apply modVlv_within | apply vlvDecay_within | apply ite_within)

theorem vlvDrive_within (s : State) (v level : Nat) (hk : Within bs s₀ s) (h_valve : Block.valve ∈ bs) :
    Within bs s₀ (vlvDrive s v level) := by
  unfold vlvDrive
  dsimp only
  with_reducible repeat' (first | assumption | apply modVlv_within | apply vlvRefresh_within | apply vlvNext_within | apply vlvRefTo_within)

theorem execCardStart_within (v : Nat) (s : State) (hk : Within bs s₀ s) (h_valve : Block.valve ∈ bs) (h_dict : Block.dict ∈ bs) (h_mem : Block.mem ∈ bs) :
    Leads bs s₀ (execCardStart v s) := by
  unfold execCardStart
  dsimp only
  with_reducible repeat' (first | assumption | apply modBank_within | apply vlvBegin_within | apply vlvRefresh_within | apply modVlv_within | apply ite_within | apply ite_within_snd | apply ite_within_thd | apply ite_within_out | apply within_next | split)

theorem execPulseExpiry_within (v : Nat) (s : State) (hk : Within bs s₀ s) (h_free : Block.free ∈ bs) (h_valve : Block.valve ∈ bs) (h_dict : Block.dict ∈ bs) (h_mem : Block.mem ∈ bs) :
    Leads bs s₀ (execPulseExpiry v s) := by
  unfold execPulseExpiry
  with_reducible repeat' (first | assumption | apply vlvCommand_within | apply ite_within | apply ite_within_snd | apply ite_within_thd | apply ite_within_out | apply within_next | split)

theorem execWait5200Expiry_within (v : Nat) (s : State) (hk : Within bs s₀ s) (h_valve : Block.valve ∈ bs) :
    Leads bs s₀ (execWait5200Expiry v s) := by
  unfold execWait5200Expiry
  dsimp only
  with_reducible repeat' (first | assumption | apply modVlv_within | apply ite_within | apply ite_within_snd | apply ite_within_thd | apply ite_within_out | apply within_next | split)

theorem execCardNop_within (v : Nat) (s : State) (hk : Within bs s₀ s) (h_valve : Block.valve ∈ bs) :
    Leads bs s₀ (execCardNop v s) := by
  unfold execCardNop
  with_reducible repeat' (first | assumption | apply vlvNext_within | apply within_next | split)

theorem execCardRail_within (v : Nat) (s : State) (hk : Within bs s₀ s) (h_valve : Block.valve ∈ bs) :
    Leads bs s₀ (execCardRail v s) := by
  unfold execCardRail
  with_reducible repeat' (first | assumption | apply modVlv_within | apply vlvNext_within | apply within_next | split)

theorem execCardDecay_within (v : Nat) (s : State) (hk : Within bs s₀ s) (h_valve : Block.valve ∈ bs) :
    Leads bs s₀ (execCardDecay v s) := by
  unfold execCardDecay
  with_reducible repeat' (first | assumption | apply modVlv_within | apply vlvNext_within | apply within_next | split)

theorem execCardChop_within (v : Nat) (s : State) (hk : Within bs s₀ s) (h_valve : Block.valve ∈ bs) :
    Leads bs s₀ (execCardChop v s) := by
  unfold execCardChop
  with_reducible repeat' (first | assumption | apply modVlv_within | apply vlvNext_within | apply ite_within | apply ite_within_snd | apply ite_within_thd | apply ite_within_out | apply within_next | split)

theorem execCardDrive_within (v : Nat) (s : State) (hk : Within bs s₀ s) (h_valve : Block.valve ∈ bs) :
    Leads bs s₀ (execCardDrive v s) := by
  unfold execCardDrive
  dsimp only
  with_reducible repeat' (first | assumption | apply vlvDrive_within | apply askBudget_within | apply modVlv_within | apply vlvWaitOn_within | apply ite_within | apply ite_within_snd | apply ite_within_thd | apply ite_within_out | apply within_next | split)

theorem execCardOff_within (v : Nat) (s : State) (hk : Within bs s₀ s) (h_valve : Block.valve ∈ bs) :
    Leads bs s₀ (execCardOff v s) := by
  unfold execCardOff
  dsimp only
  with_reducible repeat' (first | assumption | apply modVlv_within | apply vlvWaitOn_within | apply vlvRefresh_within | apply vlvDecay_within | apply within_next | split)

theorem execDecayComplete_within (v : Nat) (s : State) (hk : Within bs s₀ s) (h_valve : Block.valve ∈ bs) :
    Leads bs s₀ (execDecayComplete v s) := by
  unfold execDecayComplete
  dsimp only
  with_reducible repeat' (first | assumption | apply modVlv_within | apply vlvRefresh_within | apply vlvNext_within | apply ite_within | apply ite_within_snd | apply ite_within_thd | apply ite_within_out | apply within_next)

theorem execCardGrant_within (v : Nat) (s : State) (hk : Within bs s₀ s) (h_valve : Block.valve ∈ bs) :
    Leads bs s₀ (execCardGrant v s) := by
  unfold execCardGrant
  dsimp only
  with_reducible repeat' (first | assumption | apply askBudget_within | apply modVlv_within | apply vlvNext_within | apply vlvWaitOn_within | apply ite_within | apply ite_within_snd | apply ite_within_thd | apply ite_within_out | apply within_next | split)

theorem execCardRelease_within (v : Nat) (s : State) (hk : Within bs s₀ s) (h_valve : Block.valve ∈ bs) :
    Leads bs s₀ (execCardRelease v s) := by
  unfold execCardRelease
  with_reducible repeat' (first | assumption | apply modVlv_within | apply vlvNext_within | apply ite_within | apply ite_within_snd | apply ite_within_thd | apply ite_within_out | apply within_next | split)

theorem execCardWait_within (v : Nat) (s : State) (hk : Within bs s₀ s) (h_valve : Block.valve ∈ bs) :
    Leads bs s₀ (execCardWait v s) := by
  unfold execCardWait
  with_reducible repeat' (first | assumption | apply vlvWaitOn_within | apply within_next | split)

theorem execWaitExpiry_within (v : Nat) (s : State) (hk : Within bs s₀ s) (h_valve : Block.valve ∈ bs) :
    Leads bs s₀ (execWaitExpiry v s) := by
  unfold execWaitExpiry
  with_reducible repeat' (first | assumption | apply vlvNext_within | apply ite_within | apply ite_within_snd | apply ite_within_thd | apply ite_within_out | apply within_next | split)

theorem execCardWseat_within (v : Nat) (s : State) (hk : Within bs s₀ s) (h_valve : Block.valve ∈ bs) :
    Leads bs s₀ (execCardWseat v s) := by
  unfold execCardWseat
  dsimp only
  with_reducible repeat' (first | assumption | apply detSeat_within | apply vlvWaitOn_within | apply ite_within | apply ite_within_snd | apply ite_within_thd | apply ite_within_out | apply within_next | split)

theorem execCardWcmd_within (v : Nat) (s : State) (hk : Within bs s₀ s) (h_valve : Block.valve ∈ bs) :
    Leads bs s₀ (execCardWcmd v s) := by
  unfold execCardWcmd
  with_reducible repeat' (first | assumption | apply modVlv_within | apply vlvWaitOn_within | apply vlvNext_within | apply ite_within | apply ite_within_snd | apply ite_within_thd | apply ite_within_out | apply within_next | split)

theorem execCardWdrop_within (v : Nat) (s : State) (hk : Within bs s₀ s) (h_valve : Block.valve ∈ bs) :
    Leads bs s₀ (execCardWdrop v s) := by
  unfold execCardWdrop
  with_reducible repeat' (first | assumption | apply vlvWaitOn_within | apply within_next | split)

theorem execCardSeatcfg_within (v : Nat) (s : State) (hk : Within bs s₀ s) (h_valve : Block.valve ∈ bs) :
    Leads bs s₀ (execCardSeatcfg v s) := by
  unfold execCardSeatcfg
  with_reducible repeat' (first | assumption | apply modVlv_within | apply vlvNext_within | apply within_next | split)

theorem execCardMarkh_within (v : Nat) (s : State) (hk : Within bs s₀ s) (h_valve : Block.valve ∈ bs) :
    Leads bs s₀ (execCardMarkh v s) := by
  unfold execCardMarkh
  with_reducible repeat' (first | assumption | apply modVlv_within | apply vlvNext_within | apply within_next | split)

theorem execCardJmp_within (v : Nat) (s : State) (hk : Within bs s₀ s) (h_valve : Block.valve ∈ bs) :
    Leads bs s₀ (execCardJmp v s) := by
  unfold execCardJmp
  with_reducible repeat' (first | assumption | apply vlvJump_within | apply within_next | split)

theorem execCardJcmd_within (v : Nat) (s : State) (hk : Within bs s₀ s) (h_valve : Block.valve ∈ bs) :
    Leads bs s₀ (execCardJcmd v s) := by
  unfold execCardJcmd
  with_reducible repeat' (first | assumption | apply vlvJump_within | apply vlvNext_within | apply ite_within | apply ite_within_snd | apply ite_within_thd | apply ite_within_out | apply within_next | split)

theorem execCardJlt_within (v current : Nat) (s : State) (hk : Within bs s₀ s) (h_valve : Block.valve ∈ bs) :
    Leads bs s₀ (execCardJlt v current s) := by
  unfold execCardJlt
  with_reducible repeat' (first | assumption | apply vlvJump_within | apply vlvNext_within | apply ite_within | apply ite_within_snd | apply ite_within_thd | apply ite_within_out | apply within_next | split)

theorem execCardJrlt_within (v : Nat) (s : State) (hk : Within bs s₀ s) (h_valve : Block.valve ∈ bs) :
    Leads bs s₀ (execCardJrlt v s) := by
  unfold execCardJrlt
  with_reducible repeat' (first | assumption | apply vlvJump_within | apply vlvNext_within | apply ite_within | apply ite_within_snd | apply ite_within_thd | apply ite_within_out | apply within_next | split)

theorem execCardLstep_within (v : Nat) (s : State) (hk : Within bs s₀ s) (h_valve : Block.valve ∈ bs) :
    Leads bs s₀ (execCardLstep v s) := by
  unfold execCardLstep
  dsimp only
  with_reducible repeat' (first | assumption | apply modVlv_within | apply vlvNext_within | apply vlvRefresh_within | apply vlvRefTo_within | apply ite_within | apply ite_within_snd | apply ite_within_thd | apply ite_within_out | apply within_next | split)

theorem execCardLsave_within (v : Nat) (s : State) (hk : Within bs s₀ s) (h_valve : Block.valve ∈ bs) :
    Leads bs s₀ (execCardLsave v s) := by
  unfold execCardLsave
  with_reducible repeat' (first | assumption | apply modVlv_within | apply vlvNext_within | apply within_next | split)

theorem execCardFlag_within (v : Nat) (s : State) (hk : Within bs s₀ s) (h_valve : Block.valve ∈ bs) :
    Leads bs s₀ (execCardFlag v s) := by
  unfold execCardFlag
  with_reducible repeat' (first | assumption | apply modVlv_within | apply vlvNext_within | apply within_next | split)

theorem vlvRest_within (s : State) (v : Nat) (hk : Within bs s₀ s) (h_free : Block.free ∈ bs) (h_valve : Block.valve ∈ bs) (h_dict : Block.dict ∈ bs) (h_mem : Block.mem ∈ bs) :
    Within bs s₀ (vlvRest s v) := by
  unfold vlvRest
  dsimp only
  with_reducible repeat' (first | assumption | apply modVlv_within | apply vlvSyncMode_within | apply vlvTakeSet_within | apply vlvRefresh_within)

theorem execCardEnd_within (v : Nat) (s : State) (hk : Within bs s₀ s) (h_free : Block.free ∈ bs) (h_valve : Block.valve ∈ bs) (h_dict : Block.dict ∈ bs) (h_mem : Block.mem ∈ bs) :
    Leads bs s₀ (execCardEnd v s) := by
  unfold execCardEnd
  with_reducible repeat' (first | assumption | apply vlvRefresh_within | apply modVlv_within | apply vlvRest_within | apply ite_within | apply ite_within_snd | apply ite_within_thd | apply ite_within_out | apply within_next | split)

theorem grantHead_within (s : State) (r : GrantReq) (hk : Within bs s₀ s) (h_valve : Block.valve ∈ bs) (h_dict : Block.dict ∈ bs) :
    Within bs s₀ (grantHead s r) := by
  unfold grantHead
  dsimp only
  with_reducible repeat' (first | assumption | apply dropRequest_within | apply modBank_within | apply modVlv_within | apply vlvNext_within | apply vlvDrive_within | apply propApply_within | apply ite_within | apply ite_within_snd | apply ite_within_thd | split)

theorem grantLoop_within (b n : Nat) (s : State) (hk : Within bs s₀ s) (h_valve : Block.valve ∈ bs) (h_dict : Block.dict ∈ bs) :
    Within bs s₀ (grantLoop b n s) := by
  induction n generalizing s with
  | zero => exact hk
  | succ n ih =>
    unfold grantLoop
    split
    · with_reducible exact hk
    · split
      · exact ih _ (grantHead_within _ _ hk h_valve h_dict)
      · with_reducible exact hk

theorem execBudgetGranted_within (b : Nat) (s : State) (hk : Within bs s₀ s) (h_valve : Block.valve ∈ bs) (h_dict : Block.dict ∈ bs) :
    Leads bs s₀ (execBudgetGranted b s) := by
  unfold execBudgetGranted
  with_reducible repeat' (first | assumption | apply grantLoop_within | apply ite_within | apply ite_within_snd | apply ite_within_thd | apply ite_within_out | apply within_next)

theorem vlvEnergy_within (s : State) (v eCoil eMag : Nat) (hk : Within bs s₀ s) (h_free : Block.free ∈ bs) (h_valve : Block.valve ∈ bs) :
    Within bs s₀ (vlvEnergy s v eCoil eMag) := by
  unfold vlvEnergy
  dsimp only
  with_reducible repeat' (first | assumption | apply modVlv_within | apply takeFree_within | apply ite_within | apply ite_within_snd)

theorem execSeatDetected_within (v stamp eCoil eMag : Nat) (s : State) (hk : Within bs s₀ s) (h_free : Block.free ∈ bs) (h_loom : Block.loom ∈ bs) (h_valve : Block.valve ∈ bs) :
    Leads bs s₀ (execSeatDetected v stamp eCoil eMag s) := by
  unfold execSeatDetected
  dsimp only
  with_reducible repeat' (first | assumption | apply modVlv_within | apply vlvNext_within | apply vlvEnergy_within | apply loomSeat_within | apply ite_within | apply ite_within_snd | apply ite_within_thd | apply ite_within_out | apply within_next | split)

theorem execWseatTimeout_within (v : Nat) (s : State) (hk : Within bs s₀ s) (h_valve : Block.valve ∈ bs) :
    Leads bs s₀ (execWseatTimeout v s) := by
  unfold execWseatTimeout
  with_reducible repeat' (first | assumption | apply vlvJump_within | apply ite_within | apply ite_within_snd | apply ite_within_thd | apply ite_within_out | apply within_next | split)

theorem execDropoutDetected_within (v : Nat) (s : State) (hk : Within bs s₀ s) (h_valve : Block.valve ∈ bs) :
    Leads bs s₀ (execDropoutDetected v s) := by
  unfold execDropoutDetected
  dsimp only
  with_reducible repeat' (first | assumption | apply detSeat_within | apply vlvNext_within | apply modVlv_within | apply ite_within | apply ite_within_snd | apply ite_within_thd | apply ite_within_out | apply within_next | split)

theorem execWdropTimeout_within (v : Nat) (s : State) (hk : Within bs s₀ s) (h_valve : Block.valve ∈ bs) :
    Leads bs s₀ (execWdropTimeout v s) := by
  unfold execWdropTimeout
  with_reducible repeat' (first | assumption | apply vlvJump_within | apply ite_within | apply ite_within_snd | apply ite_within_thd | apply ite_within_out | apply within_next | split)

theorem execChopperPeriodStart_within (v : Nat) (s : State) (hk : Within bs s₀ s) (h_meas : Block.meas ∈ bs) (h_valve : Block.valve ∈ bs) :
    Leads bs s₀ (execChopperPeriodStart v s) := by
  unfold execChopperPeriodStart
  dsimp only
  with_reducible repeat' (first | assumption | apply modVlv_within | apply triggerEvent_within | apply vlvRefresh_within | apply ite_within | apply ite_within_snd | apply ite_within_thd | apply ite_within_out | apply within_next)

theorem execChopperOffEdge_within (v : Nat) (s : State) (hk : Within bs s₀ s) (h_meas : Block.meas ∈ bs) (h_valve : Block.valve ∈ bs) :
    Leads bs s₀ (execChopperOffEdge v s) := by
  unfold execChopperOffEdge
  dsimp only
  with_reducible repeat' (first | assumption | apply vlvDecay_within | apply modVlv_within | apply triggerEvent_within | apply vlvRefresh_within | apply ite_within | apply ite_within_snd | apply ite_within_thd | apply ite_within_out | apply within_next)

theorem execLearnWindowGrant_within (v : Nat) (s : State) (hk : Within bs s₀ s) (h_valve : Block.valve ∈ bs) :
    Leads bs s₀ (execLearnWindowGrant v s) := by
  unfold execLearnWindowGrant
  with_reducible repeat' (first | assumption | apply modVlv_within | apply ite_within | apply ite_within_snd | apply ite_within_thd | apply ite_within_out | apply within_next)

theorem execCoilResMeasured_within (v milliohm : Nat) (s : State) (hk : Within bs s₀ s) (h_valve : Block.valve ∈ bs) :
    Leads bs s₀ (execCoilResMeasured v milliohm s) := by
  unfold execCoilResMeasured
  dsimp only
  with_reducible repeat' (first | assumption | apply modVlv_within | apply ite_within | apply ite_within_snd | apply ite_within_thd | apply ite_within_out | apply within_next)

theorem reportTrip_within (s : State) (h : Nat) (hk : Within bs s₀ s) (h_free : Block.free ∈ bs) (h_meas : Block.meas ∈ bs) (h_valve : Block.valve ∈ bs) (h_io : Block.io ∈ bs) (h_fans : Block.fans ∈ bs) (h_dict : Block.dict ∈ bs) (h_can : Block.can ∈ bs) (h_mem : Block.mem ∈ bs) (h_safety : Block.safety ∈ bs) (h_snap : Block.snap ∈ bs) :
    Within bs s₀ (reportTrip s h) := by
  unfold reportTrip
  with_reducible repeat' (first | assumption | apply failChannels_within | apply ite_within)

theorem execChannelTrip_within (v : Nat) (s : State) (hk : Within bs s₀ s) (h_free : Block.free ∈ bs) (h_meas : Block.meas ∈ bs) (h_valve : Block.valve ∈ bs) (h_io : Block.io ∈ bs) (h_fans : Block.fans ∈ bs) (h_dict : Block.dict ∈ bs) (h_can : Block.can ∈ bs) (h_mem : Block.mem ∈ bs) (h_safety : Block.safety ∈ bs) (h_snap : Block.snap ∈ bs) :
    Leads bs s₀ (execChannelTrip v s) := by
  unfold execChannelTrip
  with_reducible repeat' (first | assumption | apply reportTrip_within | apply vlvTakeSet_within | apply vlvTrip_within | apply ite_within | apply ite_within_snd | apply ite_within_thd | apply ite_within_out | apply within_next)

theorem execBankTrip_within (b : Nat) (s : State) (hk : Within bs s₀ s) (h_free : Block.free ∈ bs) (h_meas : Block.meas ∈ bs) (h_valve : Block.valve ∈ bs) (h_io : Block.io ∈ bs) (h_fans : Block.fans ∈ bs) (h_dict : Block.dict ∈ bs) (h_can : Block.can ∈ bs) (h_mem : Block.mem ∈ bs) (h_safety : Block.safety ∈ bs) (h_snap : Block.snap ∈ bs) :
    Leads bs s₀ (execBankTrip b s) := by
  unfold execBankTrip
  dsimp only
  with_reducible repeat' (first | assumption | apply modBank_within | apply vlvTakeSet_within | apply vlvTrip_within | apply reportTrip_within | apply ite_within | apply ite_within_snd | apply ite_within_thd | apply ite_within_out | apply within_next | refine forAll_within _ _ _ (fun _ _ _ => ?_) ?_)

theorem testEnd_within (s : State) (v : Nat) (hk : Within bs s₀ s) (h_valve : Block.valve ∈ bs) :
    Within bs s₀ (testEnd s v) := by
  unfold testEnd
  dsimp only
  with_reducible repeat' (first | assumption | apply modBank_within | apply vlvRefresh_within)

theorem execOffStateTest_within (v : Nat) (openOff shortGnd shortSupply : Bool) (s : State) (hk : Within bs s₀ s) (h_valve : Block.valve ∈ bs) :
    Leads bs s₀ (execOffStateTest v openOff shortGnd shortSupply s) := by
  unfold execOffStateTest
  dsimp only
  with_reducible repeat' (first | assumption | apply modVlv_within | apply testEnd_within | apply vlvCutoff_within | apply ite_within | apply ite_within_snd | apply ite_within_thd | apply ite_within_out | apply within_next)

theorem execOnStateDiag_within (v : Nat) (kind : OnDiag) (present : Bool) (s : State) (hk : Within bs s₀ s) (h_valve : Block.valve ∈ bs) :
    Leads bs s₀ (execOnStateDiag v kind present s) := by
  unfold execOnStateDiag
  with_reducible repeat' (first | assumption | apply modVlv_within | apply vlvCutoff_within | apply ite_within | apply ite_within_snd | apply ite_within_thd | apply ite_within_out | apply within_next | split)

theorem vlvDiagClear_within (s : State) (v : Nat) (hk : Within bs s₀ s) (h_valve : Block.valve ∈ bs) :
    Within bs s₀ (vlvDiagClear s v) := by
  unfold vlvDiagClear
  dsimp only
  with_reducible repeat' (first | assumption | apply modVlv_within | apply modBank_within | apply vlvRefresh_within | apply ite_within)

theorem loadCard_within (s : State) (j : Nat) (l : List Byte) (hk : Within bs s₀ s) (h_valve : Block.valve ∈ bs) :
    Within bs s₀ (loadCard s j l) := by
  unfold loadCard
  dsimp only
  with_reducible repeat' (first | assumption | (simp only [↓within_mk]; apply parts_valve))

/-! ### FieldIo -/

theorem inputCheck_within (s : State) (i : Nat) (hk : Within bs s₀ s) (h_free : Block.free ∈ bs) (h_engine : Block.engine ∈ bs) (h_meas : Block.meas ∈ bs) (h_valve : Block.valve ∈ bs) (h_io : Block.io ∈ bs) (h_fans : Block.fans ∈ bs) (h_dict : Block.dict ∈ bs) (h_can : Block.can ∈ bs) (h_mem : Block.mem ∈ bs) (h_safety : Block.safety ∈ bs) (h_snap : Block.snap ∈ bs) :
    Within bs s₀ (inputCheck s i) := by
  unfold inputCheck
  with_reducible repeat' (first | assumption | apply failInput_within | apply ite_within | apply ite_within_snd | apply ite_within_thd | split)

theorem ioReads_within (s : State) (i : Nat) (f : IoRt → IoRt) (hk : Within bs s₀ s) (h_io : Block.io ∈ bs) :
    Within bs s₀ (ioReads s i f) := by
  unfold ioReads
  dsimp only
  with_reducible repeat' (first | assumption | apply modIo_within)

theorem ioCross_within (s : State) (i : Nat) (hk : Within bs s₀ s) (h_engine : Block.engine ∈ bs) (h_io : Block.io ∈ bs) :
    Within bs s₀ (ioCross s i) := by
  unfold ioCross
  dsimp only
  with_reducible repeat' (first | assumption | apply ioReads_within | apply resultDue_within | apply modIo_within | apply ite_within)

theorem execIoInputSample_within (i : Nat) (millivolt : Int) (microamp : Nat) (s : State) (hk : Within bs s₀ s) (h_free : Block.free ∈ bs) (h_engine : Block.engine ∈ bs) (h_meas : Block.meas ∈ bs) (h_valve : Block.valve ∈ bs) (h_io : Block.io ∈ bs) (h_fans : Block.fans ∈ bs) (h_dict : Block.dict ∈ bs) (h_can : Block.can ∈ bs) (h_mem : Block.mem ∈ bs) (h_safety : Block.safety ∈ bs) (h_snap : Block.snap ∈ bs) :
    Leads bs s₀ (execIoInputSample i millivolt microamp s) := by
  unfold execIoInputSample
  dsimp only
  with_reducible repeat' (first | assumption | apply modIo_within | apply inputCheck_within | apply ioCross_within | apply ite_within | apply ite_within_snd | apply ite_within_thd | apply ite_within_out | apply within_next)

theorem execIoFilterExpiry_within (i : Nat) (s : State) (hk : Within bs s₀ s) (h_engine : Block.engine ∈ bs) (h_io : Block.io ∈ bs) :
    Leads bs s₀ (execIoFilterExpiry i s) := by
  unfold execIoFilterExpiry
  dsimp only
  with_reducible repeat' (first | assumption | apply ioCross_within | apply modIo_within | apply ite_within | apply ite_within_snd | apply ite_within_thd | apply ite_within_out | apply within_next | split)

theorem ecTachBack_within (s : State) (e gap : Nat) (hk : Within bs s₀ s) (h_fans : Block.fans ∈ bs) (h_alarms : Block.alarms ∈ bs) :
    Within bs s₀ (ecTachBack s e gap) := by
  unfold ecTachBack
  dsimp only
  with_reducible repeat' (first | assumption | apply refreshBoost_within | apply dropAlarm_within | apply modFan_within | apply ite_within)

theorem execTachEdge_within (i : Nat) (s : State) (hk : Within bs s₀ s) (h_engine : Block.engine ∈ bs) (h_io : Block.io ∈ bs) (h_fans : Block.fans ∈ bs) (h_alarms : Block.alarms ∈ bs) :
    Leads bs s₀ (execTachEdge i s) := by
  unfold execTachEdge
  dsimp only
  with_reducible repeat' (first | assumption | apply ioCross_within | apply modIo_within | apply ecTachBack_within | apply ite_within | apply ite_within_snd | apply ite_within_thd | apply ite_within_out | apply within_next | split)

theorem execIoCurrentLimit_within (i : Nat) (current : Int) (s : State) (hk : Within bs s₀ s) (h_io : Block.io ∈ bs) :
    Leads bs s₀ (execIoCurrentLimit i current s) := by
  unfold execIoCurrentLimit
  dsimp only
  with_reducible repeat' (first | assumption | apply modIo_within | apply groupFollow_within | apply ite_within | apply ite_within_snd | apply ite_within_thd | apply ite_within_out | apply within_next)

theorem execIoThermalShutdown_within (i : Nat) (s : State) (hk : Within bs s₀ s) (h_free : Block.free ∈ bs) (h_meas : Block.meas ∈ bs) (h_valve : Block.valve ∈ bs) (h_io : Block.io ∈ bs) (h_fans : Block.fans ∈ bs) (h_dict : Block.dict ∈ bs) (h_can : Block.can ∈ bs) (h_mem : Block.mem ∈ bs) (h_safety : Block.safety ∈ bs) (h_snap : Block.snap ∈ bs) :
    Leads bs s₀ (execIoThermalShutdown i s) := by
  unfold execIoThermalShutdown
  dsimp only
  with_reducible repeat' (first | assumption | apply modIo_within | apply reportTrip_within | apply ioApply_within | apply ite_within | apply ite_within_snd | apply ite_within_thd | apply ite_within_out | apply within_next)

theorem execIoThermalRestart_within (i : Nat) (s : State) (hk : Within bs s₀ s) (h_io : Block.io ∈ bs) (h_mem : Block.mem ∈ bs) :
    Leads bs s₀ (execIoThermalRestart i s) := by
  unfold execIoThermalRestart
  with_reducible repeat' (first | assumption | apply ioApply_within | apply modIo_within | apply ite_within | apply ite_within_snd | apply ite_within_thd | apply ite_within_out | apply within_next)

theorem execGroupShed_within (g : Nat) (currents : List Int) (s : State) (hk : Within bs s₀ s) (h_io : Block.io ∈ bs) (h_mem : Block.mem ∈ bs) (h_snap : Block.snap ∈ bs) :
    Leads bs s₀ (execGroupShed g currents s) := by
  unfold execGroupShed
  dsimp only
  with_reducible repeat' (first | assumption | apply modIo_within | apply modGroup_within | apply logEvent_within | apply ioApply_within | apply ite_within | apply ite_within_snd | apply ite_within_thd | apply ite_within_out | apply within_next | refine forAll_within _ _ _ (fun _ _ _ => ?_) ?_ | split)

theorem execGroupReinstate_within (g : Nat) (s : State) (hk : Within bs s₀ s) (h_io : Block.io ∈ bs) (h_mem : Block.mem ∈ bs) :
    Leads bs s₀ (execGroupReinstate g s) := by
  unfold execGroupReinstate
  dsimp only
  with_reducible repeat' (first | assumption | apply modIo_within | apply modGroup_within | apply ioApply_within | apply ite_within | apply ite_within_snd | apply ite_within_thd | apply ite_within_out | apply within_next | split)

theorem execIoOutputDiag_within (i : Nat) (kind : IoDiag) (present : Bool) (s : State) (hk : Within bs s₀ s) (h_io : Block.io ∈ bs) :
    Leads bs s₀ (execIoOutputDiag i kind present s) := by
  unfold execIoOutputDiag
  dsimp only
  with_reducible repeat' (first | assumption | apply modIo_within | apply ite_within | apply ite_within_snd | apply ite_within_thd | apply ite_within_out | apply within_next | split)

theorem ioDiagClear_within (s : State) (i : Nat) (hk : Within bs s₀ s) (h_io : Block.io ∈ bs) (h_mem : Block.mem ∈ bs) :
    Within bs s₀ (ioDiagClear s i) := by
  unfold ioDiagClear
  with_reducible repeat' (first | assumption | apply ioApply_within | apply modIo_within)

theorem setStale_within (s : State) (b : Bool) (hk : Within bs s₀ s) (h_io : Block.io ∈ bs) :
    Within bs s₀ (setStale s b) := by
  unfold setStale
  with_reducible repeat' (first | assumption | apply ioReads_within | apply ite_within | apply ite_within_snd | apply ite_within_thd | refine forAll_within _ _ _ (fun _ _ _ => ?_) ?_)

theorem replicaSync_within (s : State) (hk : Within bs s₀ s) (h_warp : Block.warp ∈ bs) :
    Within bs s₀ (replicaSync s) := by
  unfold replicaSync
  dsimp only
  with_reducible repeat' (first | assumption | (simp only [↓within_mk]; apply parts_warp))

theorem linkBack_within (s : State) (hk : Within bs s₀ s) (h_warp : Block.warp ∈ bs) (h_engine : Block.engine ∈ bs) (h_io : Block.io ∈ bs) (h_mem : Block.mem ∈ bs) :
    Within bs s₀ (linkBack s) := by
  unfold linkBack
  dsimp only
  with_reducible repeat' (first | assumption | apply setStale_within | apply replicaSync_within | apply ioCross_within | apply ioApplyAll_within | apply ite_within | apply ite_within_snd | apply ite_within_thd | refine forAll_within _ _ _ (fun _ _ _ => ?_) ?_ | (simp only [↓within_mk]; apply parts_io))

theorem execBarrierFrame_within (crcOk : Bool) (power : Nat) (s : State) (hk : Within bs s₀ s) (h_warp : Block.warp ∈ bs) (h_engine : Block.engine ∈ bs) (h_io : Block.io ∈ bs) (h_mem : Block.mem ∈ bs) :
    Leads bs s₀ (execBarrierFrame crcOk power s) := by
  unfold execBarrierFrame
  dsimp only
  with_reducible repeat' (first | assumption | apply linkBack_within | apply replicaSync_within | apply ite_within | apply ite_within_snd | apply ite_within_thd | apply ite_within_out | apply within_next | (simp only [↓within_mk]; apply parts_io))

theorem execBarrierLinkDown_within (s : State) (hk : Within bs s₀ s) (h_free : Block.free ∈ bs) (h_meas : Block.meas ∈ bs) (h_valve : Block.valve ∈ bs) (h_io : Block.io ∈ bs) (h_fans : Block.fans ∈ bs) (h_dict : Block.dict ∈ bs) (h_can : Block.can ∈ bs) (h_pair : Block.pair ∈ bs) (h_mem : Block.mem ∈ bs) (h_safety : Block.safety ∈ bs) (h_snap : Block.snap ∈ bs) :
    Leads bs s₀ (execBarrierLinkDown s) := by
  unfold execBarrierLinkDown
  dsimp only
  with_reducible repeat' (first | assumption | apply failModule_within | apply setStale_within | apply ite_within | apply ite_within_snd | apply ite_within_thd | apply ite_within_out | apply within_next | (simp only [↓within_mk]; apply parts_io))

theorem execFwdRefresh_within (s : State) (hk : Within bs s₀ s) (h_io : Block.io ∈ bs) :
    Leads bs s₀ (execFwdRefresh s) := by
  unfold execFwdRefresh
  dsimp only
  with_reducible repeat' (first | assumption | apply ite_within | apply ite_within_snd | apply ite_within_thd | apply ite_within_out | apply within_next | (simp only [↓within_mk]; apply parts_io))

theorem fwdTripOp_within (s : State) (hk : Within bs s₀ s) (h_io : Block.io ∈ bs) (h_mem : Block.mem ∈ bs) (h_safety : Block.safety ∈ bs) :
    Within bs s₀ (fwdTripOp s) := by
  unfold fwdTripOp
  dsimp only
  with_reducible repeat' (first | assumption | apply modIo_within | apply ioApplyAll_within | apply safeDeviate_within | apply ite_within | apply ite_within_snd | apply ite_within_thd | refine forAll_within _ _ _ (fun _ _ _ => ?_) ?_ | (simp only [↓within_mk]; apply parts_io))

theorem execFwdTrip_within (s : State) (hk : Within bs s₀ s) (h_io : Block.io ∈ bs) (h_mem : Block.mem ∈ bs) (h_safety : Block.safety ∈ bs) :
    Leads bs s₀ (execFwdTrip s) := by
  unfold execFwdTrip
  with_reducible repeat' (first | assumption | apply fwdTripOp_within | apply ite_within | apply ite_within_snd | apply ite_within_thd | apply ite_within_out | apply within_next)

theorem execBarrierSupplyLoss_within (s : State) (hk : Within bs s₀ s) (h_io : Block.io ∈ bs) (h_mem : Block.mem ∈ bs) (h_safety : Block.safety ∈ bs) :
    Leads bs s₀ (execBarrierSupplyLoss s) := by
  unfold execBarrierSupplyLoss
  with_reducible repeat' (first | assumption | apply fwdTripOp_within | apply ite_within | apply ite_within_snd | apply ite_within_thd | apply ite_within_out | apply within_next)

theorem fwdRearm_within (s : State) (hk : Within bs s₀ s) (h_io : Block.io ∈ bs) (h_mem : Block.mem ∈ bs) :
    Within bs s₀ (fwdRearm s) := by
  unfold fwdRearm
  dsimp only
  with_reducible repeat' (first | assumption | apply ioApplyAll_within | apply modIo_within | apply ite_within | apply ite_within_snd | apply ite_within_thd | refine forAll_within _ _ _ (fun _ _ _ => ?_) ?_ | (simp only [↓within_mk]; apply parts_io))

theorem groupMark_within (s : State) (g : Nat) (b : Bool) (hk : Within bs s₀ s) (h_io : Block.io ∈ bs) :
    Within bs s₀ (groupMark s g b) := by
  unfold groupMark
  dsimp only
  with_reducible repeat' (first | assumption | apply modIo_within | apply ite_within | apply ite_within_snd | apply ite_within_thd | refine forAll_within _ _ _ (fun _ _ _ => ?_) ?_)

theorem execSupplyLost_within (g : Nat) (s : State) (hk : Within bs s₀ s) (h_io : Block.io ∈ bs) (h_snap : Block.snap ∈ bs) :
    Leads bs s₀ (execSupplyLost g s) := by
  unfold execSupplyLost
  dsimp only
  with_reducible repeat' (first | assumption | apply modGroup_within | apply modIo_within | apply logEvent_within | apply groupMark_within | apply groupFollow_within | apply ite_within | apply ite_within_snd | apply ite_within_thd | apply ite_within_out | apply within_next | refine forAll_within _ _ _ (fun _ _ _ => ?_) ?_)

theorem execSupplyReturn_within (g : Nat) (s : State) (hk : Within bs s₀ s) (h_io : Block.io ∈ bs) (h_mem : Block.mem ∈ bs) (h_snap : Block.snap ∈ bs) :
    Leads bs s₀ (execSupplyReturn g s) := by
  unfold execSupplyReturn
  dsimp only
  with_reducible repeat' (first | assumption | apply modGroup_within | apply logEvent_within | apply groupMark_within | apply ioApply_within | apply ite_within | apply ite_within_snd | apply ite_within_thd | apply ite_within_out | apply within_next | refine forAll_within _ _ _ (fun _ _ _ => ?_) ?_)

theorem ioTakeMode_within (s : State) (i : Nat) (hk : Within bs s₀ s) (h_io : Block.io ∈ bs) (h_mem : Block.mem ∈ bs) :
    Within bs s₀ (ioTakeMode s i) := by
  unfold ioTakeMode
  dsimp only
  with_reducible repeat' (first | assumption | apply ioReads_within | apply ioApply_within)

theorem ioNoBreak_within (s : State) (i : Nat) (hk : Within bs s₀ s) (h_io : Block.io ∈ bs) :
    Within bs s₀ (ioNoBreak s i) := by
  unfold ioNoBreak
  dsimp only
  with_reducible repeat' (first | assumption | apply modIo_within | apply ioReads_within | apply ite_within)

theorem execIoModeChangeEnd_within (i : Nat) (s : State) (hk : Within bs s₀ s) (h_io : Block.io ∈ bs) (h_mem : Block.mem ∈ bs) :
    Leads bs s₀ (execIoModeChangeEnd i s) := by
  unfold execIoModeChangeEnd
  with_reducible repeat' (first | assumption | apply ioTakeMode_within | apply ite_within | apply ite_within_snd | apply ite_within_thd | apply ite_within_out | apply within_next | split)

theorem ioTakeSet_within (s : State) (hk : Within bs s₀ s) (h_io : Block.io ∈ bs) (h_dict : Block.dict ∈ bs) (h_mem : Block.mem ∈ bs) :
    Within bs s₀ (ioTakeSet s) := by
  unfold ioTakeSet
  dsimp only
  with_reducible repeat' (first | assumption | apply takeObj_within | apply ioApply_within | apply ioNoBreak_within | apply modIo_within | apply ite_within | apply ite_within_snd | apply ite_within_thd | refine forAll_within _ _ _ (fun _ _ _ => ?_) ?_)

/-! ### Fans -/

theorem execPwmPeriodStart_within (k : Nat) (s : State) (hk : Within bs s₀ s) (h_meas : Block.meas ∈ bs) (h_fans : Block.fans ∈ bs) :
    Leads bs s₀ (execPwmPeriodStart k s) := by
  unfold execPwmPeriodStart
  with_reducible repeat' (first | assumption | apply triggerEvent_within | apply modFan_within | apply ite_within | apply ite_within_snd | apply ite_within_thd | apply ite_within_out | apply within_next)

theorem execPwmCentre_within (k : Nat) (s : State) (hk : Within bs s₀ s) (h_meas : Block.meas ∈ bs) :
    Leads bs s₀ (execPwmCentre k s) := by
  unfold execPwmCentre
  with_reducible repeat' (first | assumption | apply triggerEvent_within | apply ite_within | apply ite_within_snd | apply ite_within_thd | apply ite_within_out | apply within_next)

theorem fanCommand_within (s : State) (f : Nat) (hk : Within bs s₀ s) (h_free : Block.free ∈ bs) (h_io : Block.io ∈ bs) (h_fans : Block.fans ∈ bs) (h_mem : Block.mem ∈ bs) :
    Within bs s₀ (fanCommand s f) := by
  unfold fanCommand
  dsimp only
  with_reducible repeat' (first | assumption | apply fanLeaveTable_within | apply fanUpdate_within | apply ite_within)

theorem noteSupply_within (s : State) (e : Nat) (hk : Within bs s₀ s) (h_fans : Block.fans ∈ bs) :
    Within bs s₀ (noteSupply s e) := by
  unfold noteSupply
  dsimp only
  with_reducible repeat' (first | assumption | apply modFan_within | apply ite_within)

theorem execSpeedEvaluation_within (f : Nat) (measured : Int) (s : State) (hk : Within bs s₀ s) (h_free : Block.free ∈ bs) (h_engine : Block.engine ∈ bs) (h_meas : Block.meas ∈ bs) (h_io : Block.io ∈ bs) (h_fans : Block.fans ∈ bs) (h_dict : Block.dict ∈ bs) (h_mem : Block.mem ∈ bs) :
    Leads bs s₀ (execSpeedEvaluation f measured s) := by
  unfold execSpeedEvaluation
  dsimp only
  with_reducible repeat' (first | assumption | apply fanTakeSet_within | apply modFan_within | apply fanUpdate_within | apply resultDue_within | apply setRec_within | apply noteSupply_within | apply ite_within | apply ite_within_snd | apply ite_within_thd | apply ite_within_out | apply within_next)

theorem execListenEnd_within (k : Nat) (locked forward : Bool) (speed : Int) (s : State) (hk : Within bs s₀ s) (h_fans : Block.fans ∈ bs) :
    Leads bs s₀ (execListenEnd k locked forward speed s) := by
  unfold execListenEnd
  dsimp only
  with_reducible repeat' (first | assumption | apply fanRun_within | apply modFan_within | apply fanAlign_within | apply ite_within | apply ite_within_snd | apply ite_within_thd | apply ite_within_out | apply within_next)

theorem execZeroVectorEnd_within (k : Nat) (s : State) (hk : Within bs s₀ s) (h_fans : Block.fans ∈ bs) :
    Leads bs s₀ (execZeroVectorEnd k s) := by
  unfold execZeroVectorEnd
  with_reducible repeat' (first | assumption | apply fanAlign_within | apply ite_within | apply ite_within_snd | apply ite_within_thd | apply ite_within_out | apply within_next)

theorem execAlignEnd_within (k : Nat) (s : State) (hk : Within bs s₀ s) (h_fans : Block.fans ∈ bs) :
    Leads bs s₀ (execAlignEnd k s) := by
  unfold execAlignEnd
  with_reducible repeat' (first | assumption | apply modFan_within | apply ite_within | apply ite_within_snd | apply ite_within_thd | apply ite_within_out | apply within_next)

theorem execObserverLock_within (k : Nat) (s : State) (hk : Within bs s₀ s) (h_fans : Block.fans ∈ bs) :
    Leads bs s₀ (execObserverLock k s) := by
  unfold execObserverLock
  dsimp only
  with_reducible repeat' (first | assumption | apply modFan_within | apply refreshBoost_within | apply fanRun_within | apply ite_within | apply ite_within_snd | apply ite_within_thd | apply ite_within_out | apply within_next)

theorem execStartAttemptFail_within (k : Nat) (s : State) (hk : Within bs s₀ s) (h_fans : Block.fans ∈ bs) (h_snap : Block.snap ∈ bs) :
    Leads bs s₀ (execStartAttemptFail k s) := by
  unfold execStartAttemptFail
  dsimp only
  with_reducible repeat' (first | assumption | apply modFan_within | apply refreshBoost_within | apply logEvent_within | apply ite_within | apply ite_within_snd | apply ite_within_thd | apply ite_within_out | apply within_next)

theorem execPauseEnd_within (k : Nat) (s : State) (hk : Within bs s₀ s) (h_fans : Block.fans ∈ bs) :
    Leads bs s₀ (execPauseEnd k s) := by
  unfold execPauseEnd
  with_reducible repeat' (first | assumption | apply fanAlign_within | apply modFan_within | apply ite_within | apply ite_within_snd | apply ite_within_thd | apply ite_within_out | apply within_next)

theorem execBlockedRestEnd_within (k : Nat) (s : State) (hk : Within bs s₀ s) (h_fans : Block.fans ∈ bs) :
    Leads bs s₀ (execBlockedRestEnd k s) := by
  unfold execBlockedRestEnd
  with_reducible repeat' (first | assumption | apply fanListen_within | apply ite_within | apply ite_within_snd | apply ite_within_thd | apply ite_within_out | apply within_next)

theorem execPhaseTrip_within (k : Nat) (s : State) (hk : Within bs s₀ s) (h_free : Block.free ∈ bs) (h_meas : Block.meas ∈ bs) (h_valve : Block.valve ∈ bs) (h_io : Block.io ∈ bs) (h_fans : Block.fans ∈ bs) (h_dict : Block.dict ∈ bs) (h_can : Block.can ∈ bs) (h_mem : Block.mem ∈ bs) (h_safety : Block.safety ∈ bs) (h_snap : Block.snap ∈ bs) :
    Leads bs s₀ (execPhaseTrip k s) := by
  unfold execPhaseTrip
  dsimp only
  with_reducible repeat' (first | assumption | apply fanStop_within | apply modFan_within | apply reportTrip_within | apply refreshBoost_within | apply ite_within | apply ite_within_snd | apply ite_within_thd | apply ite_within_out | apply within_next)

theorem execLockLost_within (k : Nat) (s : State) (hk : Within bs s₀ s) (h_fans : Block.fans ∈ bs) :
    Leads bs s₀ (execLockLost k s) := by
  unfold execLockLost
  with_reducible repeat' (first | assumption | apply modFan_within | apply fanStop_within | apply ite_within | apply ite_within_snd | apply ite_within_thd | apply ite_within_out | apply within_next)

theorem execFanRestart_within (k : Nat) (s : State) (hk : Within bs s₀ s) (h_fans : Block.fans ∈ bs) (h_mem : Block.mem ∈ bs) :
    Leads bs s₀ (execFanRestart k s) := by
  unfold execFanRestart
  dsimp only
  with_reducible repeat' (first | assumption | apply modFan_within | apply fanFetch_within | apply fanListen_within | apply ite_within | apply ite_within_snd | apply ite_within_thd | apply ite_within_out | apply within_next | split)

theorem execEcTachLoss_within (e : Nat) (mean : Int) (s : State) (hk : Within bs s₀ s) (h_fans : Block.fans ∈ bs) (h_alarms : Block.alarms ∈ bs) :
    Leads bs s₀ (execEcTachLoss e mean s) := by
  unfold execEcTachLoss
  dsimp only
  with_reducible repeat' (first | assumption | apply modFan_within | apply raiseAlarm_within | apply refreshBoost_within | apply ite_within | apply ite_within_snd | apply ite_within_thd | apply ite_within_out | apply within_next)

theorem execTableRead_within (f : Nat) (s : State) (hk : Within bs s₀ s) (h_free : Block.free ∈ bs) (h_io : Block.io ∈ bs) (h_fans : Block.fans ∈ bs) (h_mem : Block.mem ∈ bs) :
    Leads bs s₀ (execTableRead f s) := by
  unfold execTableRead
  with_reducible repeat' (first | assumption | apply fanUpdate_within | apply fanReadTable_within | apply ite_within | apply ite_within_snd | apply ite_within_thd | apply ite_within_out | apply within_next)

theorem fanDiagClear_within (s : State) (f : Nat) (hk : Within bs s₀ s) (h_fans : Block.fans ∈ bs) :
    Within bs s₀ (fanDiagClear s f) := by
  unfold fanDiagClear
  with_reducible repeat' (first | assumption | apply refreshBoost_within | apply modFan_within)

end Sys2Proof.Machine
end

