-- ==== Sys2Proof/Laws/WithinEvents.lean ====
section
/-! SUPPORT. The parts of the state that each operation writes: the display, the supervision, the pair, the snapshots, the images and the measurement. -/

namespace Sys2Proof.Machine

variable {s₀ : State} {bs : List Block}

/-! ### Display -/

theorem dispWrite_within (s : State) (img : List Byte) (hk : Within bs s₀ s) (h_disp : Block.disp ∈ bs) :
    Within bs s₀ (dispWrite s img) := by
  unfold dispWrite
  with_reducible repeat' (first | assumption | apply modDisp_within)

theorem dispWriteRow_within (s : State) (r : Nat) (l : List Byte) (hk : Within bs s₀ s) (h_disp : Block.disp ∈ bs) :
    Within bs s₀ (dispWriteRow s r l) := by
  unfold dispWriteRow
  with_reducible repeat' (first | assumption | apply dispWrite_within)

theorem dispTakeSet_within (s : State) (hk : Within bs s₀ s) (h_disp : Block.disp ∈ bs) (h_dict : Block.dict ∈ bs) :
    Within bs s₀ (dispTakeSet s) := by
  unfold dispTakeSet
  with_reducible repeat' (first | assumption | apply ledgerFollow_within | apply syncDone_within | apply takeObj_within | refine forAll_within _ _ _ (fun _ _ _ => ?_) ?_)

theorem dispSync_within (s : State) (hk : Within bs s₀ s) (h_disp : Block.disp ∈ bs) (h_dict : Block.dict ∈ bs) :
    Within bs s₀ (dispSync s) := by
  unfold dispSync
  with_reducible repeat' (first | assumption | apply dispTakeSet_within | apply ite_within)

theorem frameBegin_within (s : State) (start frame : Nat) (negativeFirst : Bool) (hk : Within bs s₀ s) (h_disp : Block.disp ∈ bs) (h_dict : Block.dict ∈ bs) (h_pair : Block.pair ∈ bs) :
    Within bs s₀ (frameBegin s start frame negativeFirst) := by
  unfold frameBegin
  dsimp only
  with_reducible repeat' (first | assumption | apply dispSync_within | apply modDisp_within | apply sendMirror_within | apply ite_within)

theorem execFrameStart_within (s : State) (hk : Within bs s₀ s) (h_disp : Block.disp ∈ bs) (h_dict : Block.dict ∈ bs) (h_pair : Block.pair ∈ bs) :
    Leads bs s₀ (execFrameStart s) := by
  unfold execFrameStart
  with_reducible repeat' (first | assumption | apply frameBegin_within | apply ite_within | apply ite_within_snd | apply ite_within_thd | apply ite_within_out | apply within_next)

theorem execRowSlot_within (s : State) (hk : Within bs s₀ s) (h_disp : Block.disp ∈ bs) :
    Leads bs s₀ (execRowSlot s) := by
  unfold execRowSlot
  with_reducible repeat' (first | assumption | apply modDisp_within | apply ite_within | apply ite_within_snd | apply ite_within_thd | apply ite_within_out | apply within_next)

theorem execVlcdFault_within (millivolt : Nat) (s : State) (hk : Within bs s₀ s) (h_disp : Block.disp ∈ bs) :
    Leads bs s₀ (execVlcdFault millivolt s) := by
  unfold execVlcdFault
  with_reducible repeat' (first | assumption | apply modDisp_within | apply ite_within | apply ite_within_snd | apply ite_within_thd | apply ite_within_out | apply within_next)

theorem dispStore_within (s : State) (cut : List (Nat × Nat × Nat)) (hk : Within bs s₀ s) (h_mem : Block.mem ∈ bs) (h_mram : Block.mram ∈ bs) :
    Within bs s₀ (dispStore s cut) := by
  unfold dispStore
  dsimp only
  with_reducible repeat' (first | assumption | apply mramWritten_within | (simp only [↓within_mk]; apply parts_mram))

theorem dispOutcome_within (s : State) (n : Nat) (hk : Within bs s₀ s) (h_disp : Block.disp ∈ bs) (h_mram : Block.mram ∈ bs) :
    Within bs s₀ (dispOutcome s n) := by
  unfold dispOutcome
  dsimp only
  with_reducible repeat' (first | assumption | apply modDisp_within | (simp only [↓within_mk]; apply parts_mram))

theorem roundBegin_within (s : State) (waves : List SegWave) (routed replay : Bool) (hk : Within bs s₀ s) (h_disp : Block.disp ∈ bs) (h_pair : Block.pair ∈ bs) :
    Within bs s₀ (roundBegin s waves routed replay) := by
  unfold roundBegin
  dsimp only
  with_reducible repeat' (first | assumption | apply modDisp_within | apply sendMirror_within | apply ite_within)

theorem execUpdateRoundStart_within (s : State) (hk : Within bs s₀ s) (h_disp : Block.disp ∈ bs) (h_dict : Block.dict ∈ bs) (h_pair : Block.pair ∈ bs) :
    Leads bs s₀ (execUpdateRoundStart s) := by
  unfold execUpdateRoundStart
  dsimp only
  with_reducible repeat' (first | assumption | apply dispSync_within | apply modDisp_within | apply roundBegin_within | apply ite_within | apply ite_within_snd | apply ite_within_thd | apply ite_within_out | apply within_next | split)

theorem execUpdateRoundEnd_within (s : State) (hk : Within bs s₀ s) (h_disp : Block.disp ∈ bs) (h_pair : Block.pair ∈ bs) (h_mem : Block.mem ∈ bs) (h_mram : Block.mram ∈ bs) :
    Leads bs s₀ (execUpdateRoundEnd s) := by
  unfold execUpdateRoundEnd
  dsimp only
  with_reducible repeat' (first | assumption | apply roundLedgers_within | apply modDisp_within | apply sendMirror_within | apply dispStore_within | apply ite_within | apply ite_within_snd | apply ite_within_thd | apply ite_within_out | apply within_next | split)

theorem ledgerReset_within (s : State) (hk : Within bs s₀ s) (h_disp : Block.disp ∈ bs) (h_pair : Block.pair ∈ bs) (h_mram : Block.mram ∈ bs) :
    Within bs s₀ (ledgerReset s) := by
  unfold ledgerReset
  dsimp only
  with_reducible repeat' (first | assumption | apply ledgerFollow_within | apply modDisp_within | apply ledgerSettle_within | apply sendMirror_within | (simp only [↓within_mk]; apply parts_mram))

theorem execDisplayBandEval_within (s : State) (hk : Within bs s₀ s) (h_disp : Block.disp ∈ bs) :
    Leads bs s₀ (execDisplayBandEval s) := by
  unfold execDisplayBandEval
  dsimp only
  with_reducible repeat' (first | assumption | apply modDisp_within | apply ite_within | apply ite_within_snd | apply ite_within_thd | apply ite_within_out | apply within_next)

theorem dispRestore_within (s : State) (hk : Within bs s₀ s) (h_disp : Block.disp ∈ bs) :
    Within bs s₀ (dispRestore s) := by
  unfold dispRestore
  dsimp only
  with_reducible repeat' (first | assumption | apply modDisp_within | apply ite_within)

theorem dispBegin_within (s : State) (hk : Within bs s₀ s) (h_disp : Block.disp ∈ bs) (h_dict : Block.dict ∈ bs) (h_pair : Block.pair ∈ bs) (h_mem : Block.mem ∈ bs) (h_mram : Block.mram ∈ bs) :
    Within bs s₀ (dispBegin s) := by
  unfold dispBegin
  dsimp only
  with_reducible repeat' (first | assumption | apply dispSync_within | apply ledgerFollow_within | apply modDisp_within | apply dispStore_within | apply frameBegin_within | apply sendMirror_within | apply roundBegin_within | apply ite_within)

theorem dispStart_within (s : State) (hk : Within bs s₀ s) (h_disp : Block.disp ∈ bs) (h_dict : Block.dict ∈ bs) (h_pair : Block.pair ∈ bs) (h_mem : Block.mem ∈ bs) (h_mram : Block.mram ∈ bs) :
    Within bs s₀ (dispStart s) := by
  unfold dispStart
  dsimp only
  with_reducible repeat' (first | assumption | apply dispSync_within | apply dispBegin_within | apply dispRestore_within | apply ite_within)

theorem roundCut_within (s : State) (r : Round) (hk : Within bs s₀ s) (h_disp : Block.disp ∈ bs) (h_mem : Block.mem ∈ bs) (h_mram : Block.mram ∈ bs) :
    Within bs s₀ (roundCut s r) := by
  unfold roundCut
  dsimp only
  with_reducible repeat' (first | assumption | apply dispStore_within | apply roundLedgers_within)

theorem dispStop_within (s : State) (loss : Bool) (hk : Within bs s₀ s) (h_disp : Block.disp ∈ bs) (h_mem : Block.mem ∈ bs) (h_mram : Block.mram ∈ bs) :
    Within bs s₀ (dispStop s loss) := by
  unfold dispStop
  dsimp only
  with_reducible repeat' (first | assumption | apply dispOutcome_within | apply roundCut_within | apply modDisp_within | apply ite_within | apply ite_within_snd | apply ite_within_thd | (simp only [↓within_mk]; apply parts_mram) | split)

theorem dispSave_within (s : State) (weak : Bool) (hk : Within bs s₀ s) (h_disp : Block.disp ∈ bs) (h_mem : Block.mem ∈ bs) (h_mram : Block.mram ∈ bs) :
    Within bs s₀ (dispSave s weak) := by
  unfold dispSave
  dsimp only
  with_reducible repeat' (first | assumption | apply roundLedgers_within | apply dispOutcome_within | apply dispStore_within | apply modDisp_within | apply dispStop_within | apply ite_within | apply ite_within_snd | apply ite_within_thd | split)

theorem dispSuspend_within (s : State) (hk : Within bs s₀ s) (h_disp : Block.disp ∈ bs) (h_pair : Block.pair ∈ bs) (h_mem : Block.mem ∈ bs) (h_mram : Block.mram ∈ bs) :
    Within bs s₀ (dispSuspend s) := by
  unfold dispSuspend
  dsimp only
  with_reducible repeat' (first | assumption | apply dispStop_within | apply modDisp_within | apply sendMirror_within | apply ite_within)

theorem dispTristate_within (s : State) (hk : Within bs s₀ s) (h_disp : Block.disp ∈ bs) (h_mem : Block.mem ∈ bs) (h_mram : Block.mram ∈ bs) :
    Within bs s₀ (dispTristate s) := by
  unfold dispTristate
  dsimp only
  with_reducible repeat' (first | assumption | apply dispStop_within | apply modDisp_within)

theorem dispCommit_within (s : State) (hk : Within bs s₀ s) (h_disp : Block.disp ∈ bs) (h_dict : Block.dict ∈ bs) (h_mem : Block.mem ∈ bs) (h_mram : Block.mram ∈ bs) :
    Within bs s₀ (dispCommit s) := by
  unfold dispCommit
  dsimp only
  with_reducible repeat' (first | assumption | apply dispTakeSet_within | apply dispStop_within | apply modDisp_within | apply ite_within)

theorem execDispModeSwitchEnd_within (s : State) (hk : Within bs s₀ s) (h_disp : Block.disp ∈ bs) (h_dict : Block.dict ∈ bs) (h_pair : Block.pair ∈ bs) (h_mem : Block.mem ∈ bs) (h_mram : Block.mram ∈ bs) :
    Leads bs s₀ (execDispModeSwitchEnd s) := by
  unfold execDispModeSwitchEnd
  with_reducible repeat' (first | assumption | apply dispStart_within | apply ite_within | apply ite_within_snd | apply ite_within_thd | apply ite_within_out | apply within_next | split)

/-! ### Restart -/

theorem tearCopy_within (s : State) (hk : Within bs s₀ s) (h_mram : Block.mram ∈ bs) :
    Within bs s₀ (tearCopy s) := by
  unfold tearCopy
  dsimp only
  with_reducible repeat' (first | assumption | (simp only [↓within_mk]; apply parts_mram) | split)

/-! ### Thermal -/

theorem thermFlag_within (i : Nat) (b : Bool) (s : State) (hk : Within bs s₀ s) (h_therm : Block.therm ∈ bs) :
    Within bs s₀ (thermFlag i b s) := by
  unfold thermFlag
  dsimp only
  with_reducible repeat' (first | assumption | (simp only [↓within_mk]; apply parts_therm))

theorem logSensor_within (s : State) (i st : Nat) (hk : Within bs s₀ s) (h_snap : Block.snap ∈ bs) :
    Within bs s₀ (logSensor s i st) := by
  unfold logSensor
  with_reducible repeat' (first | assumption | apply logEvent_within)

theorem judge_within (dev : List (Nat × Int)) (use : List Int) (s0 s : State) (i : Nat) (hk : Within bs s₀ s0) (hk1 : Within bs s₀ s) (h_therm : Block.therm ∈ bs) (h_snap : Block.snap ∈ bs) (h_alarms : Block.alarms ∈ bs) :
    Within bs s₀ (judge dev use s0 s i) := by
  unfold judge
  dsimp only
  with_reducible repeat' (first | assumption | apply modSensor_within | apply raiseAlarm_within | apply logSensor_within | apply dropAlarm_within | apply ite_within | apply ite_within_snd | apply ite_within_thd | split)

theorem brokenValue_within (s0 : State) (use : List Int) (s : State) (i : Nat) (hk : Within bs s₀ s0) (hk1 : Within bs s₀ s) (h_therm : Block.therm ∈ bs) :
    Within bs s₀ (brokenValue s0 use s i) := by
  unfold brokenValue
  dsimp only
  with_reducible repeat' (first | assumption | apply modSensor_within | apply ite_within | apply ite_within_snd | apply ite_within_thd | split)

theorem followOff_within (s : State) (i j : Nat) (hk : Within bs s₀ s) (h_therm : Block.therm ∈ bs) :
    Within bs s₀ (followOff s i j) := by
  unfold followOff
  dsimp only
  with_reducible repeat' (first | assumption | apply ite_within | apply ite_within_snd | apply ite_within_thd | (simp only [↓within_mk]; apply parts_therm))

theorem followCmp_within (s : State) (i : Nat) (hk : Within bs s₀ s) (h_therm : Block.therm ∈ bs) :
    Within bs s₀ (followCmp s i) := by
  unfold followCmp
  dsimp only
  with_reducible repeat' (first | assumption | apply modSensor_within)

theorem followDisagree_within (s : State) (hk : Within bs s₀ s) (h_therm : Block.therm ∈ bs) :
    Within bs s₀ (followDisagree s) := by
  unfold followDisagree
  dsimp only
  with_reducible repeat' (first | assumption | apply thermFlag_within | apply ite_within | apply ite_within_snd | apply ite_within_thd | (simp only [↓within_mk]; apply parts_therm))

theorem sensorsRound_within (s : State) (hk : Within bs s₀ s) (h_therm : Block.therm ∈ bs) (h_snap : Block.snap ∈ bs) (h_alarms : Block.alarms ∈ bs) :
    Within bs s₀ (sensorsRound s) := by
  unfold sensorsRound
  dsimp only
  with_reducible repeat' (first | assumption | apply judge_within | apply brokenValue_within | apply followOff_within | apply followDisagree_within | apply followCmp_within | apply thermFlag_within | refine forAll_within _ _ _ (fun _ _ _ => ?_) ?_)

theorem followRise_within (s : State) (i : Nat) (hk : Within bs s₀ s) (h_therm : Block.therm ∈ bs) :
    Within bs s₀ (followRise s i) := by
  unfold followRise
  with_reducible repeat' (first | assumption | apply modSensor_within)

theorem followGroup_within (s : State) (g : Nat) (hk : Within bs s₀ s) (h_therm : Block.therm ∈ bs) (h_snap : Block.snap ∈ bs) :
    Within bs s₀ (followGroup s g) := by
  unfold followGroup
  dsimp only
  with_reducible repeat' (first | assumption | apply thermFlag_within | apply logSensor_within | apply ite_within | apply ite_within_snd | apply ite_within_thd | (simp only [↓within_mk]; apply parts_therm))

theorem dStagesOff_within (s : State) (hk : Within bs s₀ s) (h_free : Block.free ∈ bs) (h_valve : Block.valve ∈ bs) (h_fans : Block.fans ∈ bs) (h_disp : Block.disp ∈ bs) (h_dict : Block.dict ∈ bs) (h_pair : Block.pair ∈ bs) (h_mem : Block.mem ∈ bs) (h_mram : Block.mram ∈ bs) :
    Within bs s₀ (dStagesOff s) := by
  unfold dStagesOff
  dsimp only
  with_reducible repeat' (first | assumption | apply vlvTakeUp_within | apply bankRefresh_within | apply dispSuspend_within | apply fanStop_within | refine forAll_within _ _ _ (fun _ _ _ => ?_) ?_)

theorem logShutdown_within (s : State) (die i : Nat) (hk : Within bs s₀ s) (h_snap : Block.snap ∈ bs) (h_mram : Block.mram ∈ bs) :
    Within bs s₀ (logShutdown s die i) := by
  unfold logShutdown
  dsimp only
  with_reducible repeat' (first | assumption | apply logEvent_within | (simp only [↓within_mk]; apply parts_mram))

theorem shutdownD_within (s : State) (i : Nat) (hk : Within bs s₀ s) (h_free : Block.free ∈ bs) (h_meas : Block.meas ∈ bs) (h_valve : Block.valve ∈ bs) (h_io : Block.io ∈ bs) (h_fans : Block.fans ∈ bs) (h_disp : Block.disp ∈ bs) (h_dict : Block.dict ∈ bs) (h_can : Block.can ∈ bs) (h_pair : Block.pair ∈ bs) (h_mem : Block.mem ∈ bs) (h_therm : Block.therm ∈ bs) (h_safety : Block.safety ∈ bs) (h_snap : Block.snap ∈ bs) (h_mram : Block.mram ∈ bs) :
    Within bs s₀ (shutdownD s i) := by
  unfold shutdownD
  dsimp only
  with_reducible repeat' (first | assumption | apply thermFlag_within | apply logShutdown_within | apply dStagesOff_within | apply safeDeviate_within | apply failModule_within | apply snapFire_within | apply ite_within | apply ite_within_snd | apply ite_within_thd | (simp only [↓within_mk]; apply parts_therm))

theorem aoDeviate_within (s : State) (hk : Within bs s₀ s) (h_safety : Block.safety ∈ bs) :
    Within bs s₀ (aoDeviate s) := by
  unfold aoDeviate
  with_reducible repeat' (first | assumption | apply modSafe_within | refine forAll_within _ _ _ (fun _ _ _ => ?_) ?_)

theorem shutdownL_within (s : State) (i : Nat) (hk : Within bs s₀ s) (h_free : Block.free ∈ bs) (h_power : Block.power ∈ bs) (h_meas : Block.meas ∈ bs) (h_valve : Block.valve ∈ bs) (h_io : Block.io ∈ bs) (h_fans : Block.fans ∈ bs) (h_disp : Block.disp ∈ bs) (h_dict : Block.dict ∈ bs) (h_host : Block.host ∈ bs) (h_can : Block.can ∈ bs) (h_pair : Block.pair ∈ bs) (h_mem : Block.mem ∈ bs) (h_therm : Block.therm ∈ bs) (h_safety : Block.safety ∈ bs) (h_snap : Block.snap ∈ bs) (h_mram : Block.mram ∈ bs) :
    Within bs s₀ (shutdownL s i) := by
  unfold shutdownL
  dsimp only
  with_reducible repeat' (first | assumption | apply thermFlag_within | apply logShutdown_within | apply aoDeviate_within | apply safeDeviate_within | apply failModule_within | apply flushLog_within | apply dispStop_within | apply fanStop_within | apply modDisp_within | apply modCan_within | apply bankRefresh_within | apply applyAll_within | refine forAll_within _ _ _ (fun _ _ _ => ?_) ?_ | (simp only [↓within_mk]; apply parts_power) | (simp only [↓within_mk]; apply parts_therm))

theorem shutRound_within (s : State) (hk : Within bs s₀ s) (h_free : Block.free ∈ bs) (h_power : Block.power ∈ bs) (h_meas : Block.meas ∈ bs) (h_valve : Block.valve ∈ bs) (h_io : Block.io ∈ bs) (h_fans : Block.fans ∈ bs) (h_disp : Block.disp ∈ bs) (h_dict : Block.dict ∈ bs) (h_host : Block.host ∈ bs) (h_can : Block.can ∈ bs) (h_pair : Block.pair ∈ bs) (h_mem : Block.mem ∈ bs) (h_therm : Block.therm ∈ bs) (h_safety : Block.safety ∈ bs) (h_snap : Block.snap ∈ bs) (h_mram : Block.mram ∈ bs) :
    Within bs s₀ (shutRound s) := by
  unfold shutRound
  dsimp only
  with_reducible repeat' (first | assumption | apply shutdownD_within | apply shutdownL_within | apply ite_within)

theorem followStep_within (s : State) (d : Nat) (hk : Within bs s₀ s) (h_therm : Block.therm ∈ bs) :
    Within bs s₀ (followStep s d) := by
  unfold followStep
  dsimp only
  with_reducible repeat' (first | assumption | apply ite_within | apply ite_within_snd | apply ite_within_thd | (simp only [↓within_mk]; apply parts_therm))

theorem stepsApply_within (s : State) (hk : Within bs s₀ s) (h_valve : Block.valve ∈ bs) (h_io : Block.io ∈ bs) (h_mem : Block.mem ∈ bs) :
    Within bs s₀ (stepsApply s) := by
  unfold stepsApply
  dsimp only
  with_reducible repeat' (first | assumption | apply learnAbandon_within | apply ioApplyAll_within | apply bankRefresh_within | apply ite_within | apply ite_within_snd | apply ite_within_thd | refine forAll_within _ _ _ (fun _ _ _ => ?_) ?_)

theorem stepsRound_within (s : State) (hk : Within bs s₀ s) (h_valve : Block.valve ∈ bs) (h_io : Block.io ∈ bs) (h_mem : Block.mem ∈ bs) (h_therm : Block.therm ∈ bs) :
    Within bs s₀ (stepsRound s) := by
  unfold stepsRound
  dsimp only
  with_reducible repeat' (first | assumption | apply followStep_within | apply thermFlag_within | apply stepsApply_within | apply ite_within | apply ite_within_snd | apply ite_within_thd | refine forAll_within _ _ _ (fun _ _ _ => ?_) ?_)

theorem bandsRound_within (s : State) (hk : Within bs s₀ s) (h_valve : Block.valve ∈ bs) :
    Within bs s₀ (bandsRound s) := by
  unfold bandsRound
  with_reducible repeat' (first | assumption | apply modBank_within | refine forAll_within _ _ _ (fun _ _ _ => ?_) ?_)

theorem thermSync_within (s : State) (hk : Within bs s₀ s) (h_dict : Block.dict ∈ bs) :
    Within bs s₀ (thermSync s) := by
  unfold thermSync
  with_reducible repeat' (first | assumption | apply syncDone_within | apply takeObj_within | apply ite_within | apply ite_within_snd | apply ite_within_thd | refine forAll_within _ _ _ (fun _ _ _ => ?_) ?_)

theorem execThermalEvaluation_within (s : State) (hk : Within bs s₀ s) (h_free : Block.free ∈ bs) (h_power : Block.power ∈ bs) (h_meas : Block.meas ∈ bs) (h_valve : Block.valve ∈ bs) (h_io : Block.io ∈ bs) (h_fans : Block.fans ∈ bs) (h_disp : Block.disp ∈ bs) (h_dict : Block.dict ∈ bs) (h_host : Block.host ∈ bs) (h_can : Block.can ∈ bs) (h_pair : Block.pair ∈ bs) (h_mem : Block.mem ∈ bs) (h_therm : Block.therm ∈ bs) (h_safety : Block.safety ∈ bs) (h_snap : Block.snap ∈ bs) (h_mram : Block.mram ∈ bs) (h_alarms : Block.alarms ∈ bs) :
    Leads bs s₀ (execThermalEvaluation s) := by
  unfold execThermalEvaluation
  dsimp only
  with_reducible repeat' (first | assumption | apply thermSync_within | apply sensorsRound_within | apply followGroup_within | apply followRise_within | apply shutRound_within | apply bandsRound_within | apply stepsRound_within | apply ite_within | apply ite_within_snd | apply ite_within_thd | apply ite_within_out | apply within_next | refine forAll_within _ _ _ (fun _ _ _ => ?_) ?_ | (simp only [↓within_mk]; apply parts_therm))

theorem thermClear_within (s : State) (hk : Within bs s₀ s) (h_power : Block.power ∈ bs) (h_therm : Block.therm ∈ bs) :
    Within bs s₀ (thermClear s) := by
  unfold thermClear
  dsimp only
  with_reducible repeat' (first | assumption | apply thermFlag_within | apply ite_within | apply ite_within_snd | apply ite_within_thd | (simp only [↓within_mk]; apply parts_power_therm))

/-! ### SafetyEvents -/

theorem readbackOne_within (disagree : List Nat) (s : State) (h : Nat) (hk : Within bs s₀ s) (h_free : Block.free ∈ bs) (h_meas : Block.meas ∈ bs) (h_valve : Block.valve ∈ bs) (h_io : Block.io ∈ bs) (h_fans : Block.fans ∈ bs) (h_dict : Block.dict ∈ bs) (h_can : Block.can ∈ bs) (h_pair : Block.pair ∈ bs) (h_mem : Block.mem ∈ bs) (h_safety : Block.safety ∈ bs) (h_snap : Block.snap ∈ bs) :
    Within bs s₀ (readbackOne disagree s h) := by
  unfold readbackOne
  dsimp only
  with_reducible repeat' (first | assumption | apply modSafe_within | apply failChannels_within | apply vlvCutoff_within | apply failModule_within | apply ite_within)

theorem execReadbackCheck_within (readings : List (Nat × Int)) (s : State) (hk : Within bs s₀ s) (h_free : Block.free ∈ bs) (h_meas : Block.meas ∈ bs) (h_valve : Block.valve ∈ bs) (h_io : Block.io ∈ bs) (h_fans : Block.fans ∈ bs) (h_dict : Block.dict ∈ bs) (h_can : Block.can ∈ bs) (h_pair : Block.pair ∈ bs) (h_mem : Block.mem ∈ bs) (h_safety : Block.safety ∈ bs) (h_snap : Block.snap ∈ bs) :
    Leads bs s₀ (execReadbackCheck readings s) := by
  unfold execReadbackCheck
  dsimp only
  with_reducible repeat' (first | assumption | apply readbackOne_within | apply ite_within | apply ite_within_snd | apply ite_within_thd | apply ite_within_out | apply within_next | refine forAll_within _ _ _ (fun _ _ _ => ?_) ?_ | (simp only [↓within_mk]; apply parts_safety))

theorem watchdogFail_within (s : State) (hk : Within bs s₀ s) (h_free : Block.free ∈ bs) (h_meas : Block.meas ∈ bs) (h_valve : Block.valve ∈ bs) (h_io : Block.io ∈ bs) (h_fans : Block.fans ∈ bs) (h_dict : Block.dict ∈ bs) (h_can : Block.can ∈ bs) (h_pair : Block.pair ∈ bs) (h_mem : Block.mem ∈ bs) (h_safety : Block.safety ∈ bs) (h_snap : Block.snap ∈ bs) :
    Within bs s₀ (watchdogFail s) := by
  unfold watchdogFail
  dsimp only
  with_reducible repeat' (first | assumption | apply failModule_within | (simp only [↓within_mk]; apply parts_safety))

theorem windowNext_within (s : State) (hk : Within bs s₀ s) (h_safety : Block.safety ∈ bs) :
    Within bs s₀ (windowNext s) := by
  unfold windowNext
  dsimp only
  with_reducible repeat' (first | assumption | (simp only [↓within_mk]; apply parts_safety))

theorem execCheckpoint_within (core : Nat) (inOrder last : Bool) (s : State) (hk : Within bs s₀ s) (h_free : Block.free ∈ bs) (h_meas : Block.meas ∈ bs) (h_valve : Block.valve ∈ bs) (h_io : Block.io ∈ bs) (h_fans : Block.fans ∈ bs) (h_dict : Block.dict ∈ bs) (h_can : Block.can ∈ bs) (h_pair : Block.pair ∈ bs) (h_mem : Block.mem ∈ bs) (h_safety : Block.safety ∈ bs) (h_snap : Block.snap ∈ bs) :
    Leads bs s₀ (execCheckpoint core inOrder last s) := by
  unfold execCheckpoint
  dsimp only
  with_reducible repeat' (first | assumption | apply windowNext_within | apply watchdogFail_within | apply ite_within | apply ite_within_snd | apply ite_within_thd | apply ite_within_out | apply within_next | (simp only [↓within_mk]; apply parts_safety))

theorem execWatchdogExpiry_within (s : State) (hk : Within bs s₀ s) (h_free : Block.free ∈ bs) (h_meas : Block.meas ∈ bs) (h_valve : Block.valve ∈ bs) (h_io : Block.io ∈ bs) (h_fans : Block.fans ∈ bs) (h_dict : Block.dict ∈ bs) (h_can : Block.can ∈ bs) (h_pair : Block.pair ∈ bs) (h_mem : Block.mem ∈ bs) (h_safety : Block.safety ∈ bs) (h_snap : Block.snap ∈ bs) :
    Leads bs s₀ (execWatchdogExpiry s) := by
  unfold execWatchdogExpiry
  with_reducible repeat' (first | assumption | apply windowNext_within | apply watchdogFail_within | apply ite_within | apply ite_within_snd | apply ite_within_thd | apply ite_within_out | apply within_next)

theorem execSafeToggle_within (s : State) (hk : Within bs s₀ s) (h_safety : Block.safety ∈ bs) :
    Leads bs s₀ (execSafeToggle s) := by
  unfold execSafeToggle
  dsimp only
  with_reducible repeat' (first | assumption | apply ite_within | apply ite_within_snd | apply ite_within_thd | apply ite_within_out | apply within_next | (simp only [↓within_mk]; apply parts_safety))

theorem safePinsStart_within (s : State) (hk : Within bs s₀ s) (h_safety : Block.safety ∈ bs) :
    Within bs s₀ (safePinsStart s) := by
  unfold safePinsStart
  dsimp only
  with_reducible repeat' (first | assumption | apply faultNFollow_within | apply ite_within | apply ite_within_snd | apply ite_within_thd | (simp only [↓within_mk]; apply parts_safety))

theorem safetyClear_within (s : State) (hk : Within bs s₀ s) (h_free : Block.free ∈ bs) (h_engine : Block.engine ∈ bs) (h_meas : Block.meas ∈ bs) (h_valve : Block.valve ∈ bs) (h_io : Block.io ∈ bs) (h_fans : Block.fans ∈ bs) (h_dict : Block.dict ∈ bs) (h_mem : Block.mem ∈ bs) (h_safety : Block.safety ∈ bs) :
    Within bs s₀ (safetyClear s) := by
  unfold safetyClear
  dsimp only
  with_reducible repeat' (first | assumption | apply modSafe_within | apply loopBegin_within | apply faultNFollow_within | apply applyOut_within | apply ite_within | apply ite_within_snd | apply ite_within_thd | refine forAll_within _ _ _ (fun _ _ _ => ?_) ?_ | (simp only [↓within_mk]; apply parts_safety))

theorem safetyLock_within (s : State) (v : Int) (hk : Within bs s₀ s) (h_dict : Block.dict ∈ bs) (h_snap : Block.snap ∈ bs) :
    Within bs s₀ (safetyLock s v) := by
  unfold safetyLock
  with_reducible repeat' (first | assumption | apply logEvent_within | apply writeRw_within | apply ite_within)

theorem safetyPubkey_within (s : State) (l : List Byte) (hk : Within bs s₀ s) (h_dict : Block.dict ∈ bs) (h_snap : Block.snap ∈ bs) :
    Within bs s₀ (safetyPubkey s l) := by
  unfold safetyPubkey
  with_reducible repeat' (first | assumption | apply logEvent_within | apply writeRw_within)

theorem execChallengeExpiry_within (sess : Sess) (s : State) (hk : Within bs s₀ s) (h_dict : Block.dict ∈ bs) :
    Leads bs s₀ (execChallengeExpiry sess s) := by
  unfold execChallengeExpiry
  with_reducible repeat' (first | assumption | apply modSess_within | apply ite_within | apply ite_within_snd | apply ite_within_thd | apply ite_within_out | apply within_next | split)

theorem drawChallenge_within (s : State) (x : Sess) (hk : Within bs s₀ s) (h_free : Block.free ∈ bs) (h_dict : Block.dict ∈ bs) :
    Within bs s₀ (drawChallenge s x).2 := by
  unfold drawChallenge
  dsimp only
  with_reducible repeat' (first | assumption | apply modSess_within | (simp only [↓within_mk]; apply parts_free))

/-! ### PairEvents -/

theorem modPair_within (s : State) (f : Pair → Pair) (hk : Within bs s₀ s) (h_pair : Block.pair ∈ bs) :
    Within bs s₀ (modPair s f) := by
  unfold modPair
  with_reducible repeat' (first | assumption | (simp only [↓within_mk]; apply parts_pair))

theorem modSel_within (s : State) (lane : Nat) (f : SelLane → SelLane) (hk : Within bs s₀ s) (h_pair : Block.pair ∈ bs) :
    Within bs s₀ (modSel s lane f) := by
  unfold modSel
  with_reducible repeat' (first | assumption | apply modPair_within | apply ite_within)

theorem laneFollow_within (s : State) (hk : Within bs s₀ s) (h_pair : Block.pair ∈ bs) :
    Within bs s₀ (laneFollow s) := by
  unfold laneFollow
  with_reducible repeat' (first | assumption | apply pairFlag_within)

theorem linkFrame_within (s : State) (lane : Nat) (crcOk : Bool) (hk : Within bs s₀ s) (h_pair : Block.pair ∈ bs) :
    Within bs s₀ (linkFrame s lane crcOk) := by
  unfold linkFrame
  with_reducible repeat' (first | assumption | apply modSel_within | apply modPair_within | apply ite_within)

theorem dropPairedArms_within (s : State) (hk : Within bs s₀ s) (h_loom : Block.loom ∈ bs) :
    Within bs s₀ (dropPairedArms s) := by
  unfold dropPairedArms
  dsimp only
  with_reducible repeat' (first | assumption | apply modCirc_within | apply ite_within | apply ite_within_snd | apply ite_within_thd | refine forAll_within _ _ _ (fun _ _ _ => ?_) ?_ | (simp only [↓within_mk]; apply parts_loom))

theorem becomeStandby_within (s : State) (hk : Within bs s₀ s) (h_free : Block.free ∈ bs) (h_loom : Block.loom ∈ bs) (h_meas : Block.meas ∈ bs) (h_valve : Block.valve ∈ bs) (h_io : Block.io ∈ bs) (h_fans : Block.fans ∈ bs) (h_disp : Block.disp ∈ bs) (h_dict : Block.dict ∈ bs) (h_pair : Block.pair ∈ bs) (h_mem : Block.mem ∈ bs) (h_mram : Block.mram ∈ bs) :
    Within bs s₀ (becomeStandby s) := by
  unfold becomeStandby
  dsimp only
  with_reducible repeat' (first | assumption | apply modPair_within | apply dispTristate_within | apply applyAll_within | apply dropPairedArms_within)

theorem becomeActive_within (s : State) (absent : Bool) (hk : Within bs s₀ s) (h_pair : Block.pair ∈ bs) :
    Within bs s₀ (becomeActive s absent) := by
  unfold becomeActive
  dsimp only
  with_reducible repeat' (first | assumption | apply modPair_within | apply pairFlag_within | apply ite_within)

theorem roleDecide_within (s : State) (hk : Within bs s₀ s) (h_free : Block.free ∈ bs) (h_loom : Block.loom ∈ bs) (h_meas : Block.meas ∈ bs) (h_valve : Block.valve ∈ bs) (h_io : Block.io ∈ bs) (h_fans : Block.fans ∈ bs) (h_disp : Block.disp ∈ bs) (h_dict : Block.dict ∈ bs) (h_pair : Block.pair ∈ bs) (h_mem : Block.mem ∈ bs) (h_mram : Block.mram ∈ bs) :
    Within bs s₀ (roleDecide s) := by
  unfold roleDecide
  with_reducible repeat' (first | assumption | apply becomeStandby_within | apply becomeActive_within | apply ite_within | apply ite_within_snd | apply ite_within_thd | split)

theorem execRoleDecisionTimeout_within (s : State) (hk : Within bs s₀ s) (h_pair : Block.pair ∈ bs) :
    Leads bs s₀ (execRoleDecisionTimeout s) := by
  unfold execRoleDecisionTimeout
  with_reducible repeat' (first | assumption | apply becomeActive_within | apply ite_within | apply ite_within_snd | apply ite_within_thd | apply ite_within_out | apply within_next | split)

theorem dualFound_within (s : State) (node : Nat) (hk : Within bs s₀ s) (h_free : Block.free ∈ bs) (h_loom : Block.loom ∈ bs) (h_meas : Block.meas ∈ bs) (h_valve : Block.valve ∈ bs) (h_io : Block.io ∈ bs) (h_fans : Block.fans ∈ bs) (h_disp : Block.disp ∈ bs) (h_dict : Block.dict ∈ bs) (h_pair : Block.pair ∈ bs) (h_mem : Block.mem ∈ bs) (h_snap : Block.snap ∈ bs) (h_mram : Block.mram ∈ bs) :
    Within bs s₀ (dualFound s node) := by
  unfold dualFound
  dsimp only
  with_reducible repeat' (first | assumption | apply pairFlag_within | apply logRole_within | apply becomeStandby_within | apply ite_within)

theorem execDualActive_within (s : State) (hk : Within bs s₀ s) (h_free : Block.free ∈ bs) (h_loom : Block.loom ∈ bs) (h_meas : Block.meas ∈ bs) (h_valve : Block.valve ∈ bs) (h_io : Block.io ∈ bs) (h_fans : Block.fans ∈ bs) (h_disp : Block.disp ∈ bs) (h_dict : Block.dict ∈ bs) (h_pair : Block.pair ∈ bs) (h_mem : Block.mem ∈ bs) (h_snap : Block.snap ∈ bs) (h_mram : Block.mram ∈ bs) :
    Leads bs s₀ (execDualActive s) := by
  unfold execDualActive
  with_reducible repeat' (first | assumption | apply dualFound_within | apply ite_within | apply ite_within_snd | apply ite_within_thd | apply ite_within_out | apply within_next)

theorem peerHeartbeat_within (s : State) (node role : Nat) (hk : Within bs s₀ s) (h_free : Block.free ∈ bs) (h_loom : Block.loom ∈ bs) (h_meas : Block.meas ∈ bs) (h_valve : Block.valve ∈ bs) (h_io : Block.io ∈ bs) (h_fans : Block.fans ∈ bs) (h_disp : Block.disp ∈ bs) (h_dict : Block.dict ∈ bs) (h_pair : Block.pair ∈ bs) (h_mem : Block.mem ∈ bs) (h_snap : Block.snap ∈ bs) (h_mram : Block.mram ∈ bs) :
    Within bs s₀ (peerHeartbeat s node role) := by
  unfold peerHeartbeat
  with_reducible repeat' (first | assumption | apply dualFound_within | apply ite_within)

theorem execPeerHeartbeat_within (node role : Nat) (s : State) (hk : Within bs s₀ s) (h_free : Block.free ∈ bs) (h_loom : Block.loom ∈ bs) (h_meas : Block.meas ∈ bs) (h_valve : Block.valve ∈ bs) (h_io : Block.io ∈ bs) (h_fans : Block.fans ∈ bs) (h_disp : Block.disp ∈ bs) (h_dict : Block.dict ∈ bs) (h_pair : Block.pair ∈ bs) (h_mem : Block.mem ∈ bs) (h_snap : Block.snap ∈ bs) (h_mram : Block.mram ∈ bs) :
    Leads bs s₀ (execPeerHeartbeat node role s) := by
  unfold execPeerHeartbeat
  with_reducible repeat' (first | assumption | apply peerHeartbeat_within | apply within_next)

theorem execSelRoleToggle_within (s : State) (hk : Within bs s₀ s) (h_pair : Block.pair ∈ bs) :
    Leads bs s₀ (execSelRoleToggle s) := by
  unfold execSelRoleToggle
  with_reducible repeat' (first | assumption | apply modPair_within | apply ite_within | apply ite_within_snd | apply ite_within_thd | apply ite_within_out | apply within_next)

theorem execSelPeerEdge_within (s : State) (hk : Within bs s₀ s) (h_free : Block.free ∈ bs) (h_loom : Block.loom ∈ bs) (h_meas : Block.meas ∈ bs) (h_valve : Block.valve ∈ bs) (h_io : Block.io ∈ bs) (h_fans : Block.fans ∈ bs) (h_disp : Block.disp ∈ bs) (h_dict : Block.dict ∈ bs) (h_pair : Block.pair ∈ bs) (h_mem : Block.mem ∈ bs) (h_mram : Block.mram ∈ bs) :
    Leads bs s₀ (execSelPeerEdge s) := by
  unfold execSelPeerEdge
  dsimp only
  with_reducible repeat' (first | assumption | apply modPair_within | apply roleDecide_within | apply ite_within | apply ite_within_snd | apply ite_within_thd | apply ite_within_out | apply within_next)

theorem roleLineCheck_within (s : State) (hk : Within bs s₀ s) (h_pair : Block.pair ∈ bs) :
    Within bs s₀ (roleLineCheck s) := by
  unfold roleLineCheck
  with_reducible repeat' (first | assumption | apply pairFlag_within | apply ite_within | apply ite_within_snd | apply ite_within_thd | split)

theorem execSelPeerIdle_within (s : State) (hk : Within bs s₀ s) (h_pair : Block.pair ∈ bs) :
    Leads bs s₀ (execSelPeerIdle s) := by
  unfold execSelPeerIdle
  with_reducible repeat' (first | assumption | apply roleLineCheck_within | apply modPair_within | apply ite_within | apply ite_within_snd | apply ite_within_thd | apply ite_within_out | apply within_next)

theorem execAliveTimer_within (s : State) (hk : Within bs s₀ s) (h_pair : Block.pair ∈ bs) :
    Leads bs s₀ (execAliveTimer s) := by
  unfold execAliveTimer
  dsimp only
  with_reducible repeat' (first | assumption | apply modSel_within | apply modPair_within | apply ite_within | apply ite_within_snd | apply ite_within_thd | apply ite_within_out | apply within_next)

theorem joinParts_within (s : State) (hk : Within bs s₀ s) (h_pair : Block.pair ∈ bs) :
    Within bs s₀ (joinParts s).2 := by
  unfold joinParts
  dsimp only
  with_reducible repeat' (first | assumption | apply translate_within)

theorem sendJoin_within (s : State) (hk : Within bs s₀ s) (h_pair : Block.pair ∈ bs) :
    Within bs s₀ (sendJoin s) := by
  unfold sendJoin
  dsimp only
  with_reducible repeat' (first | assumption | apply joinParts_within | apply modPair_within | apply ite_within)

theorem mixedFollow_within (s : State) (info : AliveInfo) (hk : Within bs s₀ s) (h_images : Block.images ∈ bs) :
    Within bs s₀ (mixedFollow s info) := by
  unfold mixedFollow
  dsimp only
  with_reducible repeat' (first | assumption | apply ite_within | apply ite_within_snd | apply ite_within_thd | (simp only [↓within_mk]; apply parts_images))

theorem countFollow_within (s : State) (info : AliveInfo) (hk : Within bs s₀ s) (h_warp : Block.warp ∈ bs) :
    Within bs s₀ (countFollow s info) := by
  unfold countFollow
  dsimp only
  with_reducible repeat' (first | assumption | apply ite_within | apply ite_within_snd | apply ite_within_thd | (simp only [↓within_mk]; apply parts_warp))

theorem stateFollow_within (s : State) (info : AliveInfo) (hk : Within bs s₀ s) (h_pair : Block.pair ∈ bs) :
    Within bs s₀ (stateFollow s info) := by
  unfold stateFollow
  dsimp only
  with_reducible repeat' (first | assumption | apply modPair_within | apply sendJoin_within | apply ite_within)

theorem execAlive_within (lane : Nat) (crcOk : Bool) (info : AliveInfo) (s : State) (hk : Within bs s₀ s) (h_free : Block.free ∈ bs) (h_warp : Block.warp ∈ bs) (h_loom : Block.loom ∈ bs) (h_meas : Block.meas ∈ bs) (h_valve : Block.valve ∈ bs) (h_io : Block.io ∈ bs) (h_fans : Block.fans ∈ bs) (h_disp : Block.disp ∈ bs) (h_dict : Block.dict ∈ bs) (h_images : Block.images ∈ bs) (h_pair : Block.pair ∈ bs) (h_mem : Block.mem ∈ bs) (h_mram : Block.mram ∈ bs) :
    Leads bs s₀ (execAlive lane crcOk info s) := by
  unfold execAlive
  dsimp only
  with_reducible repeat' (first | assumption | apply linkFrame_within | apply modSel_within | apply laneFollow_within | apply modPair_within | apply roleLineCheck_within | apply roleDecide_within | apply countFollow_within | apply stateFollow_within | apply mixedFollow_within | apply ite_within | apply ite_within_snd | apply ite_within_thd | apply ite_within_out | apply within_next)

theorem execSelvedgeLaneDown_within (lane : Nat) (s : State) (hk : Within bs s₀ s) (h_pair : Block.pair ∈ bs) :
    Leads bs s₀ (execSelvedgeLaneDown lane s) := by
  unfold execSelvedgeLaneDown
  with_reducible repeat' (first | assumption | apply laneFollow_within | apply modSel_within | apply ite_within | apply ite_within_snd | apply ite_within_thd | apply ite_within_out | apply within_next)

theorem execSelvedgeLinkDown_within (s : State) (hk : Within bs s₀ s) (h_pair : Block.pair ∈ bs) :
    Leads bs s₀ (execSelvedgeLinkDown s) := by
  unfold execSelvedgeLinkDown
  dsimp only
  with_reducible repeat' (first | assumption | apply laneFollow_within | apply modSel_within | apply modPair_within | apply ite_within | apply ite_within_snd | apply ite_within_thd | apply ite_within_out | apply within_next)

theorem mirProfile_within (s : State) (n kind cycles bins : Nat) (values : List Int) (hk : Within bs s₀ s) (h_engine : Block.engine ∈ bs) (h_mram : Block.mram ∈ bs) :
    Within bs s₀ (mirProfile s n kind cycles bins values) := by
  unfold mirProfile
  dsimp only
  with_reducible repeat' (first | assumption | apply modLoop_within | apply ite_within | apply ite_within_snd | apply ite_within_thd | (simp only [↓within_mk]; apply parts_mram))

theorem mirDisplay_within (s : State) (shown : List Byte) (ledger : List Int) (running : List (Nat × Nat × Nat)) (hk : Within bs s₀ s) (h_disp : Block.disp ∈ bs) :
    Within bs s₀ (mirDisplay s shown ledger running) := by
  unfold mirDisplay
  with_reducible repeat' (first | assumption | apply ledgerFollow_within | apply modDisp_within)

theorem mirCalendar_within (s : State) (join : Bool) (now : Nat) (hk : Within bs s₀ s) (h_cal : Block.cal ∈ bs) (h_loom : Block.loom ∈ bs) (h_snap : Block.snap ∈ bs) :
    Within bs s₀ (mirCalendar s join now) := by
  unfold mirCalendar
  dsimp only
  with_reducible repeat' (first | assumption | apply calStep_within | apply calSlewAdd_within | apply ite_within | apply ite_within_snd | apply ite_within_thd | (simp only [↓within_mk]; apply parts_cal))

theorem mirrorTake_within (join : Bool) (s : State) (i : MirrorItem) (hk : Within bs s₀ s) (h_cal : Block.cal ∈ bs) (h_loom : Block.loom ∈ bs) (h_engine : Block.engine ∈ bs) (h_valve : Block.valve ∈ bs) (h_disp : Block.disp ∈ bs) (h_dict : Block.dict ∈ bs) (h_host : Block.host ∈ bs) (h_pair : Block.pair ∈ bs) (h_mem : Block.mem ∈ bs) (h_snap : Block.snap ∈ bs) (h_mram : Block.mram ∈ bs) :
    Within bs s₀ (mirrorTake join s i) := by
  unfold mirrorTake
  dsimp only
  with_reducible repeat' (first | assumption | apply modPair_within | apply setLearn_within | apply modCirc_within | apply setRw_within | apply modZone_within | apply modVlv_within | apply mirProfile_within | apply mirDisplay_within | apply mirCalendar_within | apply writeRec_within | apply ite_within | apply ite_within_snd | apply ite_within_thd | split)

theorem execMirror_within (lane : Nat) (crcOk : Bool) (items : List MirrorItem) (s : State) (hk : Within bs s₀ s) (h_cal : Block.cal ∈ bs) (h_loom : Block.loom ∈ bs) (h_engine : Block.engine ∈ bs) (h_valve : Block.valve ∈ bs) (h_disp : Block.disp ∈ bs) (h_dict : Block.dict ∈ bs) (h_host : Block.host ∈ bs) (h_pair : Block.pair ∈ bs) (h_mem : Block.mem ∈ bs) (h_snap : Block.snap ∈ bs) (h_mram : Block.mram ∈ bs) :
    Leads bs s₀ (execMirror lane crcOk items s) := by
  unfold execMirror
  dsimp only
  with_reducible repeat' (first | assumption | apply linkFrame_within | apply mirrorTake_within | apply modPair_within | apply ite_within | apply ite_within_snd | apply ite_within_thd | apply ite_within_out | apply within_next | refine forAll_within _ _ _ (fun _ _ _ => ?_) ?_)

theorem sendChanged_within (s : State) (i : MirrorItem) (hk : Within bs s₀ s) (h_pair : Block.pair ∈ bs) :
    Within bs s₀ (sendChanged s i) := by
  unfold sendChanged
  with_reducible repeat' (first | assumption | apply sendMirror_within | apply ite_within)

theorem sendLoop_within (s : State) (n : Nat) (hk : Within bs s₀ s) (h_pair : Block.pair ∈ bs) :
    Within bs s₀ (sendLoop s n) := by
  unfold sendLoop
  dsimp only
  with_reducible repeat' (first | assumption | apply sendMirror_within | apply modPair_within | apply ite_within)

theorem sendChanges_within (s : State) (hk : Within bs s₀ s) (h_pair : Block.pair ∈ bs) :
    Within bs s₀ (sendChanges s) := by
  unfold sendChanges
  with_reducible repeat' (first | assumption | apply sendChanged_within | refine forAll_within _ _ _ (fun _ _ _ => ?_) ?_)

theorem execMirrorSend_within (heddles : List Nat) (s : State) (hk : Within bs s₀ s) (h_pair : Block.pair ∈ bs) :
    Leads bs s₀ (execMirrorSend heddles s) := by
  unfold execMirrorSend
  dsimp only
  with_reducible repeat' (first | assumption | apply sendLoop_within | apply sendMirror_within | apply sendChanges_within | apply modPair_within | apply ite_within | apply ite_within_snd | apply ite_within_thd | apply ite_within_out | apply within_next | refine forAll_within _ _ _ (fun _ _ _ => ?_) ?_)

theorem execRelinquish_within (lane : Nat) (crcOk : Bool) (s : State) (hk : Within bs s₀ s) (h_pair : Block.pair ∈ bs) :
    Leads bs s₀ (execRelinquish lane crcOk s) := by
  unfold execRelinquish
  dsimp only
  with_reducible repeat' (first | assumption | apply linkFrame_within | apply modPair_within | apply ite_within | apply ite_within_snd | apply ite_within_thd | apply ite_within_out | apply within_next)

theorem takeLoop_within (s : State) (n : Nat) (m : MirLoop) (hk : Within bs s₀ s) (h_engine : Block.engine ∈ bs) (h_dict : Block.dict ∈ bs) :
    Within bs s₀ (takeLoop s n m) := by
  unfold takeLoop
  dsimp only
  with_reducible repeat' (first | assumption | apply setRw_within | apply modLoop_within)

theorem takeCircuit_within (s : State) (c : Nat) (hk : Within bs s₀ s) (h_loom : Block.loom ∈ bs) :
    Within bs s₀ (takeCircuit s c) := by
  unfold takeCircuit
  dsimp only
  with_reducible repeat' (first | assumption | apply modCirc_within | apply transStart_within | apply ite_within)

theorem takeHold_within (s : State) (v band : Nat) (hk : Within bs s₀ s) (h_valve : Block.valve ∈ bs) (h_dict : Block.dict ∈ bs) (h_mem : Block.mem ∈ bs) :
    Within bs s₀ (takeHold s v band) := by
  unfold takeHold
  dsimp only
  with_reducible repeat' (first | assumption | apply vlvBegin_within | apply bankRefresh_within | apply modVlv_within)

theorem takeValve_within (s : State) (v : Nat) (m : MirChan) (hk : Within bs s₀ s) (h_valve : Block.valve ∈ bs) (h_dict : Block.dict ∈ bs) (h_mem : Block.mem ∈ bs) :
    Within bs s₀ (takeValve s v m) := by
  unfold takeValve
  dsimp only
  with_reducible repeat' (first | assumption | apply modVlv_within | apply takeHold_within | apply vlvStartAt_within | apply ite_within)

theorem takeChannel_within (s : State) (h : Nat) (m : MirChan) (hk : Within bs s₀ s) (h_free : Block.free ∈ bs) (h_meas : Block.meas ∈ bs) (h_valve : Block.valve ∈ bs) (h_io : Block.io ∈ bs) (h_fans : Block.fans ∈ bs) (h_dict : Block.dict ∈ bs) (h_mem : Block.mem ∈ bs) :
    Within bs s₀ (takeChannel s h m) := by
  unfold takeChannel
  dsimp only
  with_reducible repeat' (first | assumption | apply setRw_within | apply vlvSyncMode_within | apply takeValve_within | apply applyOut_within | apply ite_within | apply ite_within_snd | apply ite_within_thd | split)

theorem takeRole_within (s : State) (cause : Nat) (hk : Within bs s₀ s) (h_pair : Block.pair ∈ bs) (h_snap : Block.snap ∈ bs) (h_mram : Block.mram ∈ bs) :
    Within bs s₀ (takeRole s cause) := by
  unfold takeRole
  dsimp only
  with_reducible repeat' (first | assumption | apply modPair_within | apply pairFlag_within | apply logRole_within | apply ite_within | apply ite_within_snd | apply ite_within_thd | (simp only [↓within_mk]; apply parts_mram))

theorem takeOutputs_within (s : State) (hk : Within bs s₀ s) (h_free : Block.free ∈ bs) (h_loom : Block.loom ∈ bs) (h_engine : Block.engine ∈ bs) (h_meas : Block.meas ∈ bs) (h_valve : Block.valve ∈ bs) (h_io : Block.io ∈ bs) (h_fans : Block.fans ∈ bs) (h_disp : Block.disp ∈ bs) (h_dict : Block.dict ∈ bs) (h_pair : Block.pair ∈ bs) (h_mem : Block.mem ∈ bs) (h_mram : Block.mram ∈ bs) :
    Within bs s₀ (takeOutputs s) := by
  unfold takeOutputs
  dsimp only
  with_reducible repeat' (first | assumption | apply takeLoop_within | apply takeCircuit_within | apply takeChannel_within | apply dispBegin_within | refine forAll_within _ _ _ (fun _ _ _ => ?_) ?_ | (simp only [↓within_mk]; apply parts_loom))

theorem execTakeover_within (s : State) (hk : Within bs s₀ s) (h_free : Block.free ∈ bs) (h_loom : Block.loom ∈ bs) (h_engine : Block.engine ∈ bs) (h_meas : Block.meas ∈ bs) (h_valve : Block.valve ∈ bs) (h_io : Block.io ∈ bs) (h_fans : Block.fans ∈ bs) (h_disp : Block.disp ∈ bs) (h_dict : Block.dict ∈ bs) (h_pair : Block.pair ∈ bs) (h_mem : Block.mem ∈ bs) (h_snap : Block.snap ∈ bs) (h_mram : Block.mram ∈ bs) :
    Leads bs s₀ (execTakeover s) := by
  unfold execTakeover
  dsimp only
  with_reducible repeat' (first | assumption | apply takeOutputs_within | apply takeRole_within | apply modPair_within | apply ite_within | apply ite_within_snd | apply ite_within_thd | apply ite_within_out | apply within_next)

theorem switchover_within (s : State) (hk : Within bs s₀ s) (h_pair : Block.pair ∈ bs) :
    Within bs s₀ (switchover s) := by
  unfold switchover
  dsimp only
  with_reducible repeat' (first | assumption | apply sendMirror_within | apply modPair_within | refine forAll_within _ _ _ (fun _ _ _ => ?_) ?_)

theorem switchoverCycle_within (s : State) (hk : Within bs s₀ s) (h_pair : Block.pair ∈ bs) :
    Within bs s₀ (switchoverCycle s) := by
  unfold switchoverCycle
  with_reducible repeat' (first | assumption | apply modPair_within | apply ite_within)

theorem execTaken_within (lane : Nat) (crcOk : Bool) (s : State) (hk : Within bs s₀ s) (h_free : Block.free ∈ bs) (h_loom : Block.loom ∈ bs) (h_meas : Block.meas ∈ bs) (h_valve : Block.valve ∈ bs) (h_io : Block.io ∈ bs) (h_fans : Block.fans ∈ bs) (h_disp : Block.disp ∈ bs) (h_dict : Block.dict ∈ bs) (h_pair : Block.pair ∈ bs) (h_mem : Block.mem ∈ bs) (h_mram : Block.mram ∈ bs) :
    Leads bs s₀ (execTaken lane crcOk s) := by
  unfold execTaken
  dsimp only
  with_reducible repeat' (first | assumption | apply linkFrame_within | apply becomeStandby_within | apply ite_within | apply ite_within_snd | apply ite_within_thd | apply ite_within_out | apply within_next)

theorem execTakenTimeout_within (s : State) (hk : Within bs s₀ s) (h_free : Block.free ∈ bs) (h_loom : Block.loom ∈ bs) (h_meas : Block.meas ∈ bs) (h_valve : Block.valve ∈ bs) (h_io : Block.io ∈ bs) (h_fans : Block.fans ∈ bs) (h_disp : Block.disp ∈ bs) (h_dict : Block.dict ∈ bs) (h_pair : Block.pair ∈ bs) (h_mem : Block.mem ∈ bs) (h_snap : Block.snap ∈ bs) (h_mram : Block.mram ∈ bs) :
    Leads bs s₀ (execTakenTimeout s) := by
  unfold execTakenTimeout
  with_reducible repeat' (first | assumption | apply becomeStandby_within | apply logRole_within | apply modPair_within | apply ite_within | apply ite_within_snd | apply ite_within_thd | apply ite_within_out | apply within_next | split)

theorem forceTakeover_within (s : State) (hk : Within bs s₀ s) (h_free : Block.free ∈ bs) (h_loom : Block.loom ∈ bs) (h_engine : Block.engine ∈ bs) (h_meas : Block.meas ∈ bs) (h_valve : Block.valve ∈ bs) (h_io : Block.io ∈ bs) (h_fans : Block.fans ∈ bs) (h_disp : Block.disp ∈ bs) (h_dict : Block.dict ∈ bs) (h_pair : Block.pair ∈ bs) (h_mem : Block.mem ∈ bs) (h_snap : Block.snap ∈ bs) (h_mram : Block.mram ∈ bs) :
    Within bs s₀ (forceTakeover s) := by
  unfold forceTakeover
  dsimp only
  with_reducible repeat' (first | assumption | apply takeRole_within | apply loopBegin_within | apply dispStart_within | apply applyAll_within | refine forAll_within _ _ _ (fun _ _ _ => ?_) ?_ | (simp only [↓within_mk]; apply parts_loom))

theorem partnerJob_within (s : State) (gen : Nat) (content : Table Val) (hk : Within bs s₀ s) (h_dict : Block.dict ∈ bs) :
    Within bs s₀ (partnerJob s gen content) := by
  unfold partnerJob
  with_reducible repeat' (first | assumption | apply startJob_within)

theorem execConfig_within (lane : Nat) (crcOk : Bool) (gen : Nat) (changes : List (Nat × Val)) (s : State) (hk : Within bs s₀ s) (h_dict : Block.dict ∈ bs) (h_pair : Block.pair ∈ bs) :
    Leads bs s₀ (execConfig lane crcOk gen changes s) := by
  unfold execConfig
  dsimp only
  with_reducible repeat' (first | assumption | apply linkFrame_within | apply partnerJob_within | apply modPair_within | apply ite_within | apply ite_within_snd | apply ite_within_thd | apply ite_within_out | apply within_next)

theorem partTake_within (s : State) (part : JoinPart) (hk : Within bs s₀ s) (h_cal : Block.cal ∈ bs) (h_loom : Block.loom ∈ bs) (h_engine : Block.engine ∈ bs) (h_valve : Block.valve ∈ bs) (h_disp : Block.disp ∈ bs) (h_dict : Block.dict ∈ bs) (h_host : Block.host ∈ bs) (h_pair : Block.pair ∈ bs) (h_mem : Block.mem ∈ bs) (h_snap : Block.snap ∈ bs) (h_mram : Block.mram ∈ bs) :
    Within bs s₀ (partTake s part) := by
  unfold partTake
  dsimp only
  with_reducible repeat' (first | assumption | apply partnerJob_within | apply mirrorTake_within | apply modPair_within | refine forAll_within _ _ _ (fun _ _ _ => ?_) ?_ | split)

theorem execJoin_within (lane : Nat) (crcOk : Bool) (part : JoinPart) (s : State) (hk : Within bs s₀ s) (h_cal : Block.cal ∈ bs) (h_loom : Block.loom ∈ bs) (h_engine : Block.engine ∈ bs) (h_valve : Block.valve ∈ bs) (h_disp : Block.disp ∈ bs) (h_dict : Block.dict ∈ bs) (h_host : Block.host ∈ bs) (h_pair : Block.pair ∈ bs) (h_mem : Block.mem ∈ bs) (h_snap : Block.snap ∈ bs) (h_mram : Block.mram ∈ bs) :
    Leads bs s₀ (execJoin lane crcOk part s) := by
  unfold execJoin
  dsimp only
  with_reducible repeat' (first | assumption | apply linkFrame_within | apply partTake_within | apply modPair_within | apply ite_within | apply ite_within_snd | apply ite_within_thd | apply ite_within_out | apply within_next)

/-! ### SnapEvents -/

theorem trigFrame_within (s : State) (x dest source : Nat) (data : List Byte) (hk : Within bs s₀ s) (h_can : Block.can ∈ bs) (h_snap : Block.snap ∈ bs) :
    Within bs s₀ (trigFrame s x dest source data) := by
  unfold trigFrame
  dsimp only
  with_reducible repeat' (first | assumption | apply snapFire_within | apply snapArm_within | apply ite_within)

theorem execCanTriggerFrame_within (x dest source : Nat) (data : List Byte) (s : State) (hk : Within bs s₀ s) (h_can : Block.can ∈ bs) (h_snap : Block.snap ∈ bs) :
    Leads bs s₀ (execCanTriggerFrame x dest source data s) := by
  unfold execCanTriggerFrame
  with_reducible repeat' (first | assumption | apply trigFrame_within | apply ite_within | apply ite_within_snd | apply ite_within_thd | apply ite_within_out | apply within_next)

theorem execTrigInEdge_within (rising : Bool) (s : State) (hk : Within bs s₀ s) (h_can : Block.can ∈ bs) (h_snap : Block.snap ∈ bs) :
    Leads bs s₀ (execTrigInEdge rising s) := by
  unfold execTrigInEdge
  dsimp only
  with_reducible repeat' (first | assumption | apply snapFire_within | apply ite_within | apply ite_within_snd | apply ite_within_thd | apply ite_within_out | apply within_next)

theorem armReached_within (s : State) (slot : Nat) (late : Bool) (hk : Within bs s₀ s) (h_can : Block.can ∈ bs) (h_snap : Block.snap ∈ bs) :
    Within bs s₀ (armReached s slot late) := by
  unfold armReached
  with_reducible repeat' (first | assumption | apply snapFire_within | apply modSlot_within)

theorem execArmAtReached_within (slot : Nat) (s : State) (hk : Within bs s₀ s) (h_can : Block.can ∈ bs) (h_snap : Block.snap ∈ bs) :
    Leads bs s₀ (execArmAtReached slot s) := by
  unfold execArmAtReached
  dsimp only
  with_reducible repeat' (first | assumption | apply armReached_within | apply ite_within | apply ite_within_snd | apply ite_within_thd | apply ite_within_out | apply within_next)

theorem snapLater_within (s : State) (t : SnapTrig) (hk : Within bs s₀ s) (h_can : Block.can ∈ bs) (h_snap : Block.snap ∈ bs) :
    Within bs s₀ (snapLater s t) := by
  unfold snapLater
  with_reducible repeat' (first | assumption | apply snapMerge_within | apply snapCapture_within | apply ite_within)

theorem execCaptureCopyComplete_within (s : State) (hk : Within bs s₀ s) (h_can : Block.can ∈ bs) (h_snap : Block.snap ∈ bs) :
    Leads bs s₀ (execCaptureCopyComplete s) := by
  unfold execCaptureCopyComplete
  dsimp only
  with_reducible repeat' (first | assumption | apply modSlot_within | apply snapLater_within | apply ite_within | apply ite_within_snd | apply ite_within_thd | apply ite_within_out | apply within_next | refine forAll_within _ _ _ (fun _ _ _ => ?_) ?_ | (simp only [↓within_mk]; apply parts_snap))

theorem execTrigOutEnd_within (s : State) (hk : Within bs s₀ s) (h_snap : Block.snap ∈ bs) :
    Leads bs s₀ (execTrigOutEnd s) := by
  unfold execTrigOutEnd
  dsimp only
  with_reducible repeat' (first | assumption | apply ite_within | apply ite_within_snd | apply ite_within_thd | apply ite_within_out | apply within_next | (simp only [↓within_mk]; apply parts_snap))

theorem execLogWrite_within (s : State) (hk : Within bs s₀ s) (h_host : Block.host ∈ bs) (h_pair : Block.pair ∈ bs) (h_mem : Block.mem ∈ bs) (h_snap : Block.snap ∈ bs) (h_mram : Block.mram ∈ bs) :
    Leads bs s₀ (execLogWrite s) := by
  unfold execLogWrite
  dsimp only
  with_reducible repeat' (first | assumption | apply sendMirror_within | apply writeRec_within | apply within_next | (simp only [↓within_mk]; apply parts_snap) | split)

/-! ### CanCmds -/

theorem canLocalWakeUp_within (s : State) (x : Nat) (hk : Within bs s₀ s) (h_can : Block.can ∈ bs) (h_snap : Block.snap ∈ bs) :
    Within bs s₀ (canLocalWakeUp s x) := by
  unfold canLocalWakeUp
  with_reducible repeat' (first | assumption | apply canWake_within | apply ite_within)

theorem txFrameOp_within (s : State) (sess : Sess) (x : Nat) (l : List Byte) (hk : Within bs s₀ s) (h_dict : Block.dict ∈ bs) (h_can : Block.can ∈ bs) (h_snap : Block.snap ∈ bs) :
    Within bs s₀ (txFrameOp s sess x l) := by
  unfold txFrameOp
  dsimp only
  with_reducible repeat' (first | assumption | apply modCan_within | apply modSess_within | apply canQueue_within | apply canLocalWakeUp_within | apply ite_within)

theorem txCancelOp_within (s : State) (sess : Sess) (x h : Nat) (hk : Within bs s₀ s) (h_dict : Block.dict ∈ bs) (h_can : Block.can ∈ bs) :
    Within bs s₀ (txCancelOp s sess x h) := by
  unfold txCancelOp
  dsimp only
  with_reducible repeat' (first | assumption | apply modSess_within | apply modCan_within | apply ite_within)

theorem recoverOp_within (s : State) (x : Nat) (hk : Within bs s₀ s) (h_can : Block.can ∈ bs) (h_snap : Block.snap ∈ bs) :
    Within bs s₀ (recoverOp s x) := by
  unfold recoverOp
  with_reducible repeat' (first | assumption | apply canSetState_within)

theorem sleepOp_within (s : State) (x : Nat) (v : Int) (extra : Nat) (hk : Within bs s₀ s) (h_dict : Block.dict ∈ bs) (h_can : Block.can ∈ bs) (h_snap : Block.snap ∈ bs) :
    Within bs s₀ (sleepOp s x v extra) := by
  unfold sleepOp
  dsimp only
  with_reducible repeat' (first | assumption | apply setRw_within | apply modCan_within | apply canLocalWakeUp_within | apply ite_within)

theorem abdMatched_within (s : State) (x : Nat) (hk : Within bs s₀ s) (h_dict : Block.dict ∈ bs) (h_can : Block.can ∈ bs) (h_snap : Block.snap ∈ bs) :
    Within bs s₀ (abdMatched s x) := by
  unfold abdMatched
  dsimp only
  with_reducible repeat' (first | assumption | apply modCan_within | apply canSetState_within | apply startJob_within | apply ite_within)

theorem recAfter_within (s : State) (x : Nat) (hk : Within bs s₀ s) (h_free : Block.free ∈ bs) (h_can : Block.can ∈ bs) :
    Within bs s₀ (recAfter s x) := by
  unfold recAfter
  dsimp only
  with_reducible repeat' (first | assumption | apply modCan_within | apply takeFree_within | apply ite_within)

theorem canReceived_within (s : State) (x : Nat) (f : CanFrame) (hk : Within bs s₀ s) (h_free : Block.free ∈ bs) (h_dict : Block.dict ∈ bs) (h_can : Block.can ∈ bs) (h_snap : Block.snap ∈ bs) :
    Within bs s₀ (canReceived s x f) := by
  unfold canReceived
  dsimp only
  with_reducible repeat' (first | assumption | apply modCan_within | apply abdMatched_within | apply canFollow_within | apply recAfter_within | apply ite_within)

/-! ### Images -/

theorem modImages_within (s : State) (f : Images → Images) (hk : Within bs s₀ s) (h_images : Block.images ∈ bs) :
    Within bs s₀ (modImages s f) := by
  unfold modImages
  with_reducible repeat' (first | assumption | (simp only [↓within_mk]; apply parts_images))

theorem imageKindOp_within (s : State) (kind : Nat) (hk : Within bs s₀ s) (h_images : Block.images ∈ bs) :
    Within bs s₀ (imageKindOp s kind) := by
  unfold imageKindOp
  with_reducible repeat' (first | assumption | apply modImages_within)

theorem stageSlot_within (s : State) (hk : Within bs s₀ s) (h_mem : Block.mem ∈ bs) (h_mram : Block.mram ∈ bs) :
    Within bs s₀ (stageSlot s) := by
  unfold stageSlot
  dsimp only
  with_reducible repeat' (first | assumption | apply mramWritten_within | (simp only [↓within_mk]; apply parts_mram))

theorem imageChunkOp_within (s : State) (l : List Byte) (hk : Within bs s₀ s) (h_images : Block.images ∈ bs) (h_mem : Block.mem ∈ bs) (h_mram : Block.mram ∈ bs) :
    Within bs s₀ (imageChunkOp s l) := by
  unfold imageChunkOp
  dsimp only
  with_reducible repeat' (first | assumption | apply modImages_within | apply stageSlot_within | apply mramWritten_within | apply ite_within)

theorem imageVerifyOp_within (s : State) (v : Int) (hk : Within bs s₀ s) (h_images : Block.images ∈ bs) :
    Within bs s₀ (imageVerifyOp s v) := by
  unfold imageVerifyOp
  with_reducible repeat' (first | assumption | apply modImages_within | apply ite_within)

theorem execVerifyComplete_within (s : State) (hk : Within bs s₀ s) (h_images : Block.images ∈ bs) :
    Leads bs s₀ (execVerifyComplete s) := by
  unfold execVerifyComplete
  dsimp only
  with_reducible repeat' (first | assumption | apply modImages_within | apply ite_within | apply ite_within_snd | apply ite_within_thd | apply ite_within_out | apply within_next)

theorem fwConfirmOp_within (s : State) (v : Int) (hk : Within bs s₀ s) (h_images : Block.images ∈ bs) (h_mram : Block.mram ∈ bs) :
    Within bs s₀ (fwConfirmOp s v) := by
  unfold fwConfirmOp
  dsimp only
  with_reducible repeat' (first | assumption | apply ite_within | apply ite_within_snd | apply ite_within_thd | (simp only [↓within_mk]; apply parts_images_mram))

theorem rollback_within (s : State) (hk : Within bs s₀ s) (h_mram : Block.mram ∈ bs) :
    Within bs s₀ (rollback s) := by
  unfold rollback
  dsimp only
  with_reducible repeat' (first | assumption | (simp only [↓within_mk]; apply parts_mram))

/-! ### Respond -/

theorem svcQueue_within (s : State) (x : Nat) (kind : TxKind) (f : CanFrame) (hk : Within bs s₀ s) (h_can : Block.can ∈ bs) :
    Within bs s₀ (svcQueue s x kind f) := by
  unfold svcQueue
  with_reducible repeat' (first | assumption | apply canQueue_within | apply ite_within)

theorem sendResponse_within (s : State) (e : Env) (svc : Nat) (payload : List Byte) (hk : Within bs s₀ s) (h_host : Block.host ∈ bs) (h_can : Block.can ∈ bs) :
    Within bs s₀ (sendResponse s e svc payload) := by
  unfold sendResponse
  dsimp only
  with_reducible repeat' (first | assumption | apply svcQueue_within | apply ite_within | apply ite_within_snd | apply ite_within_thd | (simp only [↓within_mk]; apply parts_host) | split)

theorem notePrev_within (s : State) (e : Env) (bytes : List Byte) (hk : Within bs s₀ s) (h_dict : Block.dict ∈ bs) :
    Within bs s₀ (notePrev s e bytes) := by
  unfold notePrev
  with_reducible repeat' (first | assumption | apply modSess_within)

theorem answer_within (s : State) (e : Env) (svc : Nat) (payload : List Byte) (hk : Within bs s₀ s) (h_dict : Block.dict ∈ bs) (h_host : Block.host ∈ bs) (h_can : Block.can ∈ bs) :
    Within bs s₀ (answer s e svc payload) := by
  unfold answer
  dsimp only
  with_reducible repeat' (first | assumption | apply modSess_within | apply sendResponse_within)

theorem managerHeard_within (s : State) (hk : Within bs s₀ s) (h_free : Block.free ∈ bs) (h_io : Block.io ∈ bs) (h_fans : Block.fans ∈ bs) (h_host : Block.host ∈ bs) (h_mem : Block.mem ∈ bs) (h_snap : Block.snap ∈ bs) :
    Within bs s₀ (managerHeard s) := by
  unfold managerHeard
  dsimp only
  with_reducible repeat' (first | assumption | apply fansEndSilence_within | apply logEvent_within | apply ite_within | apply ite_within_snd | apply ite_within_thd | (simp only [↓within_mk]; apply parts_host))

theorem execHostTimeout_within (s : State) (hk : Within bs s₀ s) (h_free : Block.free ∈ bs) (h_io : Block.io ∈ bs) (h_fans : Block.fans ∈ bs) (h_host : Block.host ∈ bs) (h_mem : Block.mem ∈ bs) (h_snap : Block.snap ∈ bs) :
    Leads bs s₀ (execHostTimeout s) := by
  unfold execHostTimeout
  dsimp only
  with_reducible repeat' (first | assumption | apply fansEnterTable_within | apply logEvent_within | apply ite_within | apply ite_within_snd | apply ite_within_thd | apply ite_within_out | apply within_next | (simp only [↓within_mk]; apply parts_host))

theorem arrives_within (s : State) (e : Env) (svc : Nat) (hk : Within bs s₀ s) (h_host : Block.host ∈ bs) :
    Within bs s₀ (arrives s e svc).2 := by
  unfold arrives
  dsimp only
  with_reducible repeat' (first | assumption | apply ite_within | apply ite_within_snd | apply ite_within_thd | (simp only [↓within_mk]; apply parts_host) | split)

theorem sessExpire_within (s : State) (x : Sess) (hk : Within bs s₀ s) (h_dict : Block.dict ∈ bs) :
    Within bs s₀ (sessExpire s x) := by
  unfold sessExpire
  dsimp only
  with_reducible repeat' (first | assumption | apply dropPending_within | apply modSess_within | apply ite_within)

theorem touch_within (s : State) (x : Sess) (hk : Within bs s₀ s) (h_free : Block.free ∈ bs) (h_io : Block.io ∈ bs) (h_fans : Block.fans ∈ bs) (h_dict : Block.dict ∈ bs) (h_host : Block.host ∈ bs) (h_mem : Block.mem ∈ bs) (h_snap : Block.snap ∈ bs) :
    Within bs s₀ (touch s x) := by
  unfold touch
  dsimp only
  with_reducible repeat' (first | assumption | apply sessExpire_within | apply modSess_within | apply managerHeard_within | apply ite_within)

theorem repeatAnswer_within (s : State) (e : Env) (svc : Nat) (resp : List Byte) (hk : Within bs s₀ s) (h_host : Block.host ∈ bs) (h_can : Block.can ∈ bs) :
    Within bs s₀ (repeatAnswer s e svc resp) := by
  unfold repeatAnswer
  with_reducible repeat' (first | assumption | apply sendResponse_within | apply ite_within)

theorem runRequest_within (s : State) (e : Env) (svc : Nat) (run : State → Option (List Byte) × State)
    (hk : Within bs s₀ s) (hrun : ∀ s, Within bs s₀ s → Within bs s₀ (run s).2) (h_dict : Block.dict ∈ bs) (h_host : Block.host ∈ bs) (h_can : Block.can ∈ bs) :
    Within bs s₀ (runRequest s e svc run) := by
  have hr := hrun s hk
  unfold runRequest
  dsimp only
  split
  · exact answer_within _ _ _ _ hr h_dict h_host h_can
  · exact hr

theorem serve_within (s : State) (e : Env) (svc : Nat) (bytes : List Byte) (run : State → Option (List Byte) × State)
    (hk : Within bs s₀ s) (hrun : ∀ s, Within bs s₀ s → Within bs s₀ (run s).2) (h_dict : Block.dict ∈ bs) (h_host : Block.host ∈ bs) (h_can : Block.can ∈ bs) :
    Within bs s₀ (serve s e svc bytes run) := by
  unfold serve
  split
  · exact repeatAnswer_within _ _ _ _ hk h_host h_can
  · exact runRequest_within _ _ _ _ (notePrev_within _ _ _ hk h_dict) hrun h_dict h_host h_can

theorem request_within (s : State) (e : Env) (svc : Nat) (payload : List Byte) (run : State → Option (List Byte) × State)
    (hk : Within bs s₀ s) (hrun : ∀ s, Within bs s₀ s → Within bs s₀ (run s).2) (h_free : Block.free ∈ bs) (h_io : Block.io ∈ bs) (h_fans : Block.fans ∈ bs) (h_dict : Block.dict ∈ bs) (h_host : Block.host ∈ bs) (h_can : Block.can ∈ bs) (h_mem : Block.mem ∈ bs) (h_snap : Block.snap ∈ bs) :
    Within bs s₀ (request s e svc payload run) := by
  have ha := arrives_within s e svc hk h_host
  unfold request
  exact ite_within (serve_within _ _ _ _ _ (touch_within _ _ ha h_free h_io h_fans h_dict h_host h_mem h_snap) hrun h_dict h_host h_can) ha

theorem requestStatus_within (s : State) (e : Env) (svc : Nat) (payload : List Byte) (run : State → Nat × List Byte × State)
    (hk : Within bs s₀ s) (hrun : ∀ s, Within bs s₀ s → Within bs s₀ (run s).2.2) (h_free : Block.free ∈ bs) (h_io : Block.io ∈ bs) (h_fans : Block.fans ∈ bs) (h_dict : Block.dict ∈ bs) (h_host : Block.host ∈ bs) (h_can : Block.can ∈ bs) (h_mem : Block.mem ∈ bs) (h_snap : Block.snap ∈ bs) :
    Within bs s₀ (requestStatus s e svc payload run) :=
  request_within s e svc payload _ hk hrun h_free h_io h_fans h_dict h_host h_can h_mem h_snap

/-! ### Measure -/

theorem noteVin_within (s : State) (cont : Bool) (v : Int) (hk : Within bs s₀ s) (h_power : Block.power ∈ bs) :
    Within bs s₀ (noteVin s cont v) := by
  unfold noteVin
  dsimp only
  with_reducible repeat' (first | assumption | apply ite_within | apply ite_within_snd | apply ite_within_thd | (simp only [↓within_mk]; apply parts_power))

theorem bridgeFollow_within (s : State) (k : Nat) (hk : Within bs s₀ s) (h_fans : Block.fans ∈ bs) :
    Within bs s₀ (bridgeFollow s k) := by
  unfold bridgeFollow
  with_reducible repeat' (first | assumption | apply modFan_within)

theorem noteVdrv_within (s : State) (v : Int) (hk : Within bs s₀ s) (h_power : Block.power ∈ bs) (h_valve : Block.valve ∈ bs) (h_fans : Block.fans ∈ bs) :
    Within bs s₀ (noteVdrv s v) := by
  unfold noteVdrv
  dsimp only
  with_reducible repeat' (first | assumption | apply bridgeFollow_within | apply bankRefresh_within | apply ite_within | apply ite_within_snd | apply ite_within_thd | refine forAll_within _ _ _ (fun _ _ _ => ?_) ?_ | (simp only [↓within_mk]; apply parts_power))

theorem noteVref_within (s : State) (v : Int) (hk : Within bs s₀ s) (h_meas : Block.meas ∈ bs) (h_alarms : Block.alarms ∈ bs) :
    Within bs s₀ (noteVref s v) := by
  unfold noteVref
  dsimp only
  with_reducible repeat' (first | assumption | apply raiseAlarm_within | apply dropAlarm_within | apply ite_within | apply ite_within_snd | apply ite_within_thd | (simp only [↓within_mk]; apply parts_meas))

theorem noteFanCurrent_within (s : State) (c : Nat) (v : Int) (hk : Within bs s₀ s) (h_fans : Block.fans ∈ bs) :
    Within bs s₀ (noteFanCurrent s c v) := by
  unfold noteFanCurrent
  dsimp only
  with_reducible repeat' (first | assumption | apply limitFollow_within | apply modFan_within)

theorem noteInternal_within (s : State) (adc : Adc) (cont : Bool) (c : Nat) (v : Int) (hk : Within bs s₀ s) (h_power : Block.power ∈ bs) (h_meas : Block.meas ∈ bs) (h_valve : Block.valve ∈ bs) (h_fans : Block.fans ∈ bs) (h_therm : Block.therm ∈ bs) (h_alarms : Block.alarms ∈ bs) :
    Within bs s₀ (noteInternal s adc cont c v) := by
  unfold noteInternal
  dsimp only
  with_reducible repeat' (first | assumption | apply noteVin_within | apply noteVdrv_within | apply bankRefresh_within | apply noteVref_within | apply noteFanCurrent_within | apply modSensor_within | apply ite_within | apply ite_within_snd | apply ite_within_thd | refine forAll_within _ _ _ (fun _ _ _ => ?_) ?_ | (simp only [↓within_mk]; apply parts_meas) | (simp only [↓within_mk]; apply parts_therm))

theorem deliver_within (s : State) (adc : Adc) (cont : Bool) (code : Nat) (r : ResRec) (hk : Within bs s₀ s) (h_power : Block.power ∈ bs) (h_loom : Block.loom ∈ bs) (h_engine : Block.engine ∈ bs) (h_meas : Block.meas ∈ bs) (h_valve : Block.valve ∈ bs) (h_fans : Block.fans ∈ bs) (h_mem : Block.mem ∈ bs) (h_therm : Block.therm ∈ bs) (h_alarms : Block.alarms ∈ bs) :
    Within bs s₀ (deliver s adc cont code r) := by
  unfold deliver
  dsimp only
  with_reducible repeat' (first | assumption | apply putRec_within | apply loomLoad_within | apply noteInternal_within | apply resultDue_within | apply ite_within)

theorem setPre_within (s : State) (adc : Adc) (b : Bool) (hk : Within bs s₀ s) (h_meas : Block.meas ∈ bs) :
    Within bs s₀ (setPre s adc b) := by
  unfold setPre
  dsimp only
  with_reducible repeat' (first | assumption | (simp only [↓within_mk]; apply parts_meas) | split)

theorem crossCheck_within (s : State) (k : Nat) (ra rb : ResRec) (hk : Within bs s₀ s) (h_free : Block.free ∈ bs) (h_power : Block.power ∈ bs) (h_loom : Block.loom ∈ bs) (h_engine : Block.engine ∈ bs) (h_meas : Block.meas ∈ bs) (h_valve : Block.valve ∈ bs) (h_io : Block.io ∈ bs) (h_fans : Block.fans ∈ bs) (h_dict : Block.dict ∈ bs) (h_can : Block.can ∈ bs) (h_mem : Block.mem ∈ bs) (h_therm : Block.therm ∈ bs) (h_safety : Block.safety ∈ bs) (h_snap : Block.snap ∈ bs) (h_alarms : Block.alarms ∈ bs) :
    Within bs s₀ (crossCheck s k ra rb) := by
  unfold crossCheck
  dsimp only
  with_reducible repeat' (first | assumption | apply putRec_within | apply deliver_within | apply modAi_within | apply failInput_within | apply ite_within | apply ite_within_snd | apply ite_within_thd | split)

theorem fanTransform_within (s : State) (entry : Nat) (r : ResRec) (hk : Within bs s₀ s) (h_free : Block.free ∈ bs) (h_engine : Block.engine ∈ bs) (h_meas : Block.meas ∈ bs) :
    Within bs s₀ (fanTransform s entry r) := by
  unfold fanTransform
  dsimp only
  with_reducible repeat' (first | assumption | apply takeFree_within | apply setRec_within | apply resultDue_within | refine forAll_within _ _ _ (fun _ _ _ => ?_) ?_)

theorem execMtExpiry_within (m : Nat) (s : State) (hk : Within bs s₀ s) (h_meas : Block.meas ∈ bs) :
    Leads bs s₀ (execMtExpiry m s) := by
  unfold execMtExpiry
  dsimp only
  with_reducible repeat' (first | assumption | apply triggerEvent_within | apply ite_within | apply ite_within_snd | apply ite_within_thd | apply ite_within_out | apply within_next | (simp only [↓within_mk]; apply parts_meas))

theorem execConversionDue_within (t : Nat) (s : State) (hk : Within bs s₀ s) (h_meas : Block.meas ∈ bs) :
    Leads bs s₀ (execConversionDue t s) := by
  unfold execConversionDue
  dsimp only
  with_reducible repeat' (first | assumption | apply ite_within | apply ite_within_snd | apply ite_within_thd | apply ite_within_out | apply within_next | (simp only [↓within_mk]; apply parts_meas))

theorem startTriggered_within (s : State) (q : QConv) (hk : Within bs s₀ s) (h_meas : Block.meas ∈ bs) :
    Within bs s₀ (startTriggered s q) := by
  unfold startTriggered
  dsimp only
  with_reducible repeat' (first | assumption | apply modTrig_within | apply ite_within | apply ite_within_snd | apply ite_within_thd | (simp only [↓within_mk]; apply parts_meas))

theorem startCont_within (s : State) (code : Nat) (hk : Within bs s₀ s) (h_meas : Block.meas ∈ bs) :
    Within bs s₀ (startCont s code) := by
  unfold startCont
  dsimp only
  with_reducible repeat' (first | assumption | apply ite_within | apply ite_within_snd | apply ite_within_thd | (simp only [↓within_mk]; apply parts_meas))

theorem startWaiting_within (s : State) (w : ContWait) (hk : Within bs s₀ s) (h_meas : Block.meas ∈ bs) :
    Within bs s₀ (startWaiting s w) := by
  unfold startWaiting
  dsimp only
  with_reducible repeat' (first | assumption | apply startCont_within | (simp only [↓within_mk]; apply parts_meas) | split)

theorem execConversionStart_within (adc : Adc) (s : State) (hk : Within bs s₀ s) (h_meas : Block.meas ∈ bs) :
    Leads bs s₀ (execConversionStart adc s) := by
  unfold execConversionStart
  dsimp only
  with_reducible repeat' (first | assumption | apply startWaiting_within | apply startTriggered_within | apply ite_within | apply ite_within_snd | apply ite_within_thd | apply ite_within_out | apply within_next | (simp only [↓within_mk]; apply parts_meas) | split)

theorem execContinuousSlot_within (pos : Nat) (s : State) (hk : Within bs s₀ s) (h_meas : Block.meas ∈ bs) :
    Leads bs s₀ (execContinuousSlot pos s) := by
  unfold execContinuousSlot
  dsimp only
  with_reducible repeat' (first | assumption | apply startCont_within | apply ite_within | apply ite_within_snd | apply ite_within_thd | apply ite_within_out | apply within_next | (simp only [↓within_mk]; apply parts_meas) | split)

theorem completeB_within (s : State) (r : ConvRun) (l raw : Int) (hk : Within bs s₀ s) (h_power : Block.power ∈ bs) (h_loom : Block.loom ∈ bs) (h_engine : Block.engine ∈ bs) (h_meas : Block.meas ∈ bs) (h_valve : Block.valve ∈ bs) (h_fans : Block.fans ∈ bs) (h_mem : Block.mem ∈ bs) (h_therm : Block.therm ∈ bs) (h_alarms : Block.alarms ∈ bs) :
    Within bs s₀ (completeB s r l raw) := by
  unfold completeB
  dsimp only
  with_reducible repeat' (first | assumption | apply deliver_within | apply setPre_within | (simp only [↓within_mk]; apply parts_meas))

theorem completeA_within (s : State) (r : ConvRun) (l lB raw rawB : Int) (hk : Within bs s₀ s) (h_free : Block.free ∈ bs) (h_power : Block.power ∈ bs) (h_loom : Block.loom ∈ bs) (h_engine : Block.engine ∈ bs) (h_meas : Block.meas ∈ bs) (h_valve : Block.valve ∈ bs) (h_io : Block.io ∈ bs) (h_fans : Block.fans ∈ bs) (h_dict : Block.dict ∈ bs) (h_can : Block.can ∈ bs) (h_mem : Block.mem ∈ bs) (h_therm : Block.therm ∈ bs) (h_safety : Block.safety ∈ bs) (h_snap : Block.snap ∈ bs) (h_alarms : Block.alarms ∈ bs) :
    Within bs s₀ (completeA s r l lB raw rawB) := by
  unfold completeA
  dsimp only
  with_reducible repeat' (first | assumption | apply setPre_within | apply deliver_within | apply crossCheck_within | apply fanTransform_within | apply ite_within | apply ite_within_snd | apply ite_within_thd | (simp only [↓within_mk]; apply parts_meas) | split)

theorem execConversionComplete_within (adc : Adc) (l lB raw rawB : Int) (s : State) (hk : Within bs s₀ s) (h_free : Block.free ∈ bs) (h_power : Block.power ∈ bs) (h_loom : Block.loom ∈ bs) (h_engine : Block.engine ∈ bs) (h_meas : Block.meas ∈ bs) (h_valve : Block.valve ∈ bs) (h_io : Block.io ∈ bs) (h_fans : Block.fans ∈ bs) (h_dict : Block.dict ∈ bs) (h_can : Block.can ∈ bs) (h_mem : Block.mem ∈ bs) (h_therm : Block.therm ∈ bs) (h_safety : Block.safety ∈ bs) (h_snap : Block.snap ∈ bs) (h_alarms : Block.alarms ∈ bs) :
    Leads bs s₀ (execConversionComplete adc l lB raw rawB s) := by
  unfold execConversionComplete
  dsimp only
  with_reducible repeat' (first | assumption | apply completeA_within | apply completeB_within | apply deliver_within | apply ite_within | apply ite_within_snd | apply ite_within_thd | apply ite_within_out | apply within_next | (simp only [↓within_mk]; apply parts_meas) | split)

theorem scanFollow_within (s : State) (hk : Within bs s₀ s) (h_meas : Block.meas ∈ bs) :
    Within bs s₀ (scanFollow s) := by
  unfold scanFollow
  dsimp only
  with_reducible repeat' (first | assumption | apply ite_within | apply ite_within_snd | apply ite_within_thd | (simp only [↓within_mk]; apply parts_meas))

theorem execHousekeepingRound_within (s : State) (hk : Within bs s₀ s) (h_meas : Block.meas ∈ bs) :
    Leads bs s₀ (execHousekeepingRound s) := by
  unfold execHousekeepingRound
  dsimp only
  with_reducible repeat' (first | assumption | apply scanFollow_within | apply ite_within | apply ite_within_snd | apply ite_within_thd | apply ite_within_out | apply within_next | (simp only [↓within_mk]; apply parts_meas))

theorem execAiScan_within (s : State) (hk : Within bs s₀ s) (h_meas : Block.meas ∈ bs) :
    Leads bs s₀ (execAiScan s) := by
  unfold execAiScan
  with_reducible repeat' (first | assumption | apply scanFollow_within | apply ite_within | apply ite_within_snd | apply ite_within_thd | apply ite_within_out | apply within_next)

theorem execShuntTrip_within (k : Nat) (s : State) (hk : Within bs s₀ s) (h_meas : Block.meas ∈ bs) :
    Leads bs s₀ (execShuntTrip k s) := by
  unfold execShuntTrip
  with_reducible repeat' (first | assumption | apply modAi_within | apply ite_within | apply ite_within_snd | apply ite_within_thd | apply ite_within_out | apply within_next)

theorem recoverUntil_within (s : State) (k t : Nat) (hk : Within bs s₀ s) (h_meas : Block.meas ∈ bs) :
    Within bs s₀ (recoverUntil s k t) := by
  unfold recoverUntil
  with_reducible repeat' (first | assumption | apply modAi_within)

theorem execShuntReclose_within (k : Nat) (s : State) (hk : Within bs s₀ s) (h_meas : Block.meas ∈ bs) :
    Leads bs s₀ (execShuntReclose k s) := by
  unfold execShuntReclose
  with_reducible repeat' (first | assumption | apply recoverUntil_within | apply modAi_within | apply ite_within | apply ite_within_snd | apply ite_within_thd | apply ite_within_out | apply within_next)

theorem execAiClampEvent_within (k : Nat) (driven : Bool) (s : State) (hk : Within bs s₀ s) (h_meas : Block.meas ∈ bs) :
    Leads bs s₀ (execAiClampEvent k driven s) := by
  unfold execAiClampEvent
  dsimp only
  with_reducible repeat' (first | assumption | apply modAi_within | apply recoverUntil_within | apply ite_within | apply ite_within_snd | apply ite_within_thd | apply ite_within_out | apply within_next)

theorem execRecoveringEnd_within (k : Nat) (s : State) (hk : Within bs s₀ s) (h_meas : Block.meas ∈ bs) :
    Leads bs s₀ (execRecoveringEnd k s) := by
  unfold execRecoveringEnd
  with_reducible repeat' (first | assumption | apply modAi_within | apply ite_within | apply ite_within_snd | apply ite_within_thd | apply ite_within_out | apply within_next | split)

theorem execNoiseMeasurement_within (noiseA noiseB : NoiseSum) (s : State) (hk : Within bs s₀ s) (h_meas : Block.meas ∈ bs) :
    Leads bs s₀ (execNoiseMeasurement noiseA noiseB s) := by
  unfold execNoiseMeasurement
  dsimp only
  with_reducible repeat' (first | assumption | apply ite_within | apply ite_within_snd | apply ite_within_thd | apply ite_within_out | apply within_next | (simp only [↓within_mk]; apply parts_meas))

theorem execAoFault_within (a : Nat) (kind : AoFault) (s : State) (hk : Within bs s₀ s) (h_meas : Block.meas ∈ bs) :
    Leads bs s₀ (execAoFault a kind s) := by
  unfold execAoFault
  with_reducible repeat' (first | assumption | apply modAo_within | apply ite_within | apply ite_within_snd | apply ite_within_thd | apply ite_within_out | apply within_next | split)

theorem execAoStatusClear_within (a : Nat) (s : State) (hk : Within bs s₀ s) (h_meas : Block.meas ∈ bs) :
    Leads bs s₀ (execAoStatusClear a s) := by
  unfold execAoStatusClear
  with_reducible repeat' (first | assumption | apply modAo_within | apply ite_within | apply ite_within_snd | apply ite_within_thd | apply ite_within_out | apply within_next)

end Sys2Proof.Machine
end

