-- ==== Sys2Proof/Laws/WithinServices.lean ====
section
/-! SUPPORT. The parts of the state that each operation writes: the services, the received frames and the Loom. -/

namespace Sys2Proof.Machine

variable {s₀ : State} {bs : List Block}

/-! ### Commit -/

theorem circSchedule_within (s : State) (c : Nat) (event : Bool) (hk : Within bs s₀ s) (h_loom : Block.loom ∈ bs) (h_dict : Block.dict ∈ bs) :
    Within bs s₀ (circSchedule s c event) := by
  unfold circSchedule
  dsimp only
  with_reducible repeat' (first | assumption | apply circRefresh_within | apply modCirc_within | apply writeRw_within | apply ite_within | apply ite_within_snd | apply ite_within_thd | split)

theorem addWait_within (s : State) (u : SyncUnit) (hk : Within bs s₀ s) (h_dict : Block.dict ∈ bs) :
    Within bs s₀ (addWait s u) := by
  unfold addWait
  dsimp only
  with_reducible repeat' (first | assumption | apply ite_within | apply ite_within_snd | apply ite_within_thd | (simp only [↓within_mk]; apply parts_dict))

theorem forceKeys_within (s : State) (keys : List Nat) (hk : Within bs s₀ s) (h_dict : Block.dict ∈ bs) :
    Within bs s₀ (forceKeys s keys) := by
  unfold forceKeys
  with_reducible repeat' (first | assumption | apply setForce_within | refine forAll_within _ _ _ (fun _ _ _ => ?_) ?_)

theorem circSync_within (s : State) (c : Nat) (keys : List Nat) (hk : Within bs s₀ s) (h_loom : Block.loom ∈ bs) (h_dict : Block.dict ∈ bs) :
    Within bs s₀ (circSync s c keys) := by
  unfold circSync
  dsimp only
  with_reducible repeat' (first | assumption | apply forceKeys_within | apply circWithdraw_within | apply modCirc_within | apply circSchedule_within | apply ite_within)

theorem loopSync_within (s : State) (n : Nat) (keys : List Nat) (hk : Within bs s₀ s) (h_engine : Block.engine ∈ bs) (h_dict : Block.dict ∈ bs) :
    Within bs s₀ (loopSync s n keys) := by
  unfold loopSync
  dsimp only
  with_reducible repeat' (first | assumption | apply loopTakeSet_within | apply loopBegin_within | apply addWait_within | apply ite_within)

theorem convsMove_within (s : State) (hk : Within bs s₀ s) (h_meas : Block.meas ∈ bs) :
    Within bs s₀ (convsMove s) := by
  unfold convsMove
  dsimp only
  with_reducible repeat' (first | assumption | (simp only [↓within_mk]; apply parts_meas))

theorem measSync_within (s : State) (keys : List Nat) (hk : Within bs s₀ s) (h_meas : Block.meas ∈ bs) (h_dict : Block.dict ∈ bs) :
    Within bs s₀ (measSync s keys) := by
  unfold measSync
  dsimp only
  with_reducible repeat' (first | assumption | apply convsMove_within | apply forceKeys_within | apply recoverUntil_within | apply ite_within | apply ite_within_snd | apply ite_within_thd | refine forAll_within _ _ _ (fun _ _ _ => ?_) ?_ | (simp only [↓within_mk]; apply parts_meas))

theorem valveSync_within (s : State) (keys : List Nat) (hk : Within bs s₀ s) (h_free : Block.free ∈ bs) (h_valve : Block.valve ∈ bs) (h_dict : Block.dict ∈ bs) (h_mem : Block.mem ∈ bs) :
    Within bs s₀ (valveSync s keys) := by
  unfold valveSync
  dsimp only
  with_reducible repeat' (first | assumption | apply forceKeys_within | apply vlvSyncMode_within | apply vlvTakeSet_within | apply addWait_within | apply bandsRound_within | apply ite_within | apply ite_within_snd | apply ite_within_thd | refine forAll_within _ _ _ (fun _ _ _ => ?_) ?_)

theorem fanSync_within (s : State) (hk : Within bs s₀ s) (h_dict : Block.dict ∈ bs) :
    Within bs s₀ (fanSync s) := by
  unfold fanSync
  dsimp only
  with_reducible repeat' (first | assumption | apply addWait_within | apply fanTakeSet_within | apply ite_within | apply ite_within_snd | apply ite_within_thd | refine forAll_within _ _ _ (fun _ _ _ => ?_) ?_)

theorem canGroupSync_within (s : State) (x : Nat) (hk : Within bs s₀ s) (h_dict : Block.dict ∈ bs) (h_can : Block.can ∈ bs) (h_snap : Block.snap ∈ bs) :
    Within bs s₀ (canGroupSync s x) := by
  unfold canGroupSync
  dsimp only
  with_reducible repeat' (first | assumption | apply addWait_within | apply canTakeSet_within | apply canSync_within | apply ite_within)

theorem groupSync_within (s : State) (keys : List Nat) (g : Nat) (hk : Within bs s₀ s) (h_free : Block.free ∈ bs) (h_cal : Block.cal ∈ bs) (h_loom : Block.loom ∈ bs) (h_engine : Block.engine ∈ bs) (h_meas : Block.meas ∈ bs) (h_valve : Block.valve ∈ bs) (h_io : Block.io ∈ bs) (h_disp : Block.disp ∈ bs) (h_dict : Block.dict ∈ bs) (h_can : Block.can ∈ bs) (h_mem : Block.mem ∈ bs) (h_snap : Block.snap ∈ bs) (h_mram : Block.mram ∈ bs) :
    Within bs s₀ (groupSync s keys g) := by
  unfold groupSync
  dsimp only
  with_reducible repeat' (first | assumption | apply addWait_within | apply circSync_within | apply loopSync_within | apply canGroupSync_within | apply measSync_within | apply ioTakeSet_within | apply valveSync_within | apply fanSync_within | apply dispCommit_within | apply forceKeys_within | apply circSchedule_within | apply ite_within | apply ite_within_snd | apply ite_within_thd | refine forAll_within _ _ _ (fun _ _ _ => ?_) ?_ | (simp only [↓within_mk]; apply parts_cal))

theorem heddleAll_within (s : State) (hk : Within bs s₀ s) (h_mem : Block.mem ∈ bs) :
    Within bs s₀ (heddleAll s) := by
  unfold heddleAll
  with_reducible repeat' (first | assumption | apply heddleRewriteEntry_within | refine forAll_within _ _ _ (fun _ _ _ => ?_) ?_)

theorem setCmd_within (s : State) (o m : Nat) (v : Int) (hk : Within bs s₀ s) (h_dict : Block.dict ∈ bs) :
    Within bs s₀ (setCmd s o m v) := by
  unfold setCmd
  with_reducible repeat' (first | assumption | apply setRw_within)

theorem keepCommand_within (old : State) (s : State) (h : Nat) (hk : Within bs s₀ old) (hk1 : Within bs s₀ s) (h_dict : Block.dict ∈ bs) :
    Within bs s₀ (keepCommand old s h) := by
  unfold keepCommand
  dsimp only
  with_reducible repeat' (first | assumption | apply setCmd_within | apply ite_within | apply ite_within_snd | apply ite_within_thd | split)

theorem takeCommand_within (old : State) (s : State) (h : Nat) (hk : Within bs s₀ old) (hk1 : Within bs s₀ s) (h_engine : Block.engine ∈ bs) :
    Within bs s₀ (takeCommand old s h) := by
  unfold takeCommand
  with_reducible repeat' (first | assumption | apply modLoop_within | apply ite_within | apply ite_within_snd | apply ite_within_thd | split)

theorem rwEffect_within (s : State) (key : Nat) (hk : Within bs s₀ s) (h_loom : Block.loom ∈ bs) :
    Within bs s₀ (rwEffect s key) := by
  unfold rwEffect
  with_reducible repeat' (first | assumption | apply circRefresh_within | apply ite_within)

theorem takeContent_within (s : State) (content : Table Val) (keys : List Nat) (stored : Bool) (hk : Within bs s₀ s) (h_loom : Block.loom ∈ bs) (h_dict : Block.dict ∈ bs) :
    Within bs s₀ (takeContent s content keys stored) := by
  unfold takeContent
  dsimp only
  with_reducible repeat' (first | assumption | apply setCommitted_within | apply rwEffect_within | apply setRw_within | apply ite_within | apply ite_within_snd | apply ite_within_thd | refine forAll_within _ _ _ (fun _ _ _ => ?_) ?_ | split)

theorem commitEffect_within (s : State) (j : CopyJob) (hk : Within bs s₀ s) (h_free : Block.free ∈ bs) (h_cal : Block.cal ∈ bs) (h_loom : Block.loom ∈ bs) (h_engine : Block.engine ∈ bs) (h_meas : Block.meas ∈ bs) (h_valve : Block.valve ∈ bs) (h_io : Block.io ∈ bs) (h_fans : Block.fans ∈ bs) (h_disp : Block.disp ∈ bs) (h_dict : Block.dict ∈ bs) (h_can : Block.can ∈ bs) (h_pair : Block.pair ∈ bs) (h_mem : Block.mem ∈ bs) (h_safety : Block.safety ∈ bs) (h_snap : Block.snap ∈ bs) (h_mram : Block.mram ∈ bs) :
    Within bs s₀ (commitEffect s j) := by
  unfold commitEffect
  dsimp only
  with_reducible repeat' (first | assumption | apply takeContent_within | apply takeCommand_within | apply keepCommand_within | apply groupSync_within | apply latchSafe_within | apply poolAssign_within | apply heddleAll_within | apply heddleRewriteEntry_within | apply applyOut_within | apply sendConfig_within | apply ite_within | apply ite_within_snd | apply ite_within_thd | refine forAll_within _ _ _ (fun _ _ _ => ?_) ?_ | (simp only [↓within_mk]; apply parts_dict))

theorem leaveBad_within (s : State) (hk : Within bs s₀ s) (h_free : Block.free ∈ bs) (h_meas : Block.meas ∈ bs) (h_valve : Block.valve ∈ bs) (h_io : Block.io ∈ bs) (h_fans : Block.fans ∈ bs) (h_dict : Block.dict ∈ bs) (h_mem : Block.mem ∈ bs) (h_alarms : Block.alarms ∈ bs) :
    Within bs s₀ (leaveBad s) := by
  unfold leaveBad
  dsimp only
  with_reducible repeat' (first | assumption | apply dropAlarm_within | apply applyAll_within | apply ite_within | apply ite_within_snd | apply ite_within_thd | (simp only [↓within_mk]; apply parts_dict))

theorem commitFields_within (s : State) (f : Option (Nat × Nat)) (hk : Within bs s₀ s) (h_free : Block.free ∈ bs) :
    Within bs s₀ (commitFields s f).2 := by
  unfold commitFields
  dsimp only
  with_reducible repeat' (first | assumption | apply takeFree_within | split)

theorem commitRefused_within (s : State) (code : Nat) (f : Option (Nat × Nat)) (hk : Within bs s₀ s) (h_free : Block.free ∈ bs) :
    Within bs s₀ (commitRefused s code f).2 := by
  unfold commitRefused
  dsimp only
  with_reducible repeat' (first | assumption | apply commitFields_within)

theorem commitDone_within (s : State) (hk : Within bs s₀ s) (h_free : Block.free ∈ bs) :
    Within bs s₀ (commitDone s).2 := by
  unfold commitDone
  dsimp only
  with_reducible repeat' (first | assumption | apply commitFields_within)

theorem commitOp_within (s : State) (e : Env) (hk : Within bs s₀ s) (h_free : Block.free ∈ bs) (h_dict : Block.dict ∈ bs) :
    Within bs s₀ (commitOp s e).2 := by
  unfold commitOp
  dsimp only
  with_reducible repeat' (first | assumption | apply commitRefused_within | apply commitDone_within | apply startJob_within | apply ite_within | apply ite_within_snd | apply ite_within_thd | split)

theorem execCommit_within (e : Env) (s : State) (hk : Within bs s₀ s) (h_free : Block.free ∈ bs) (h_io : Block.io ∈ bs) (h_fans : Block.fans ∈ bs) (h_dict : Block.dict ∈ bs) (h_host : Block.host ∈ bs) (h_can : Block.can ∈ bs) (h_mem : Block.mem ∈ bs) (h_snap : Block.snap ∈ bs) :
    Leads bs s₀ (execCommit e s) := by
  unfold execCommit
  with_reducible repeat' (first | assumption | apply request_within | apply commitOp_within | apply within_next | (refine fun (_ : State) _ => ?_; try dsimp only))

theorem execAbort_within (e : Env) (s : State) (hk : Within bs s₀ s) (h_free : Block.free ∈ bs) (h_io : Block.io ∈ bs) (h_fans : Block.fans ∈ bs) (h_dict : Block.dict ∈ bs) (h_host : Block.host ∈ bs) (h_can : Block.can ∈ bs) (h_mem : Block.mem ∈ bs) (h_snap : Block.snap ∈ bs) :
    Leads bs s₀ (execAbort e s) := by
  unfold execAbort
  with_reducible repeat' (first | assumption | apply ite_within_thd | apply requestStatus_within | apply clearPending_within | apply ite_within | apply ite_within_snd | apply ite_within_out | apply within_next | (refine fun (_ : State) _ => ?_; try dsimp only))

theorem putCopy_within (s : State) (k : Nat) (c : CfgCopy) (hk : Within bs s₀ s) (h_mem : Block.mem ∈ bs) (h_mram : Block.mram ∈ bs) :
    Within bs s₀ (putCopy s k c) := by
  unfold putCopy
  dsimp only
  with_reducible repeat' (first | assumption | apply mramWritten_within | (simp only [↓within_mk]; apply parts_mram))

theorem nextJob_within (s : State) (hk : Within bs s₀ s) (h_dict : Block.dict ∈ bs) :
    Within bs s₀ (nextJob s) := by
  unfold nextJob
  dsimp only
  with_reducible repeat' (first | assumption | (simp only [↓within_mk]; apply parts_dict) | split)

theorem settlePending_within (s : State) (x : Sess) (j : CopyJob) (hk : Within bs s₀ s) (h_dict : Block.dict ∈ bs) :
    Within bs s₀ (settlePending s x j) := by
  unfold settlePending
  with_reducible repeat' (first | assumption | apply modSess_within)

theorem jobDone_within (s : State) (j : CopyJob) (hk : Within bs s₀ s) (h_free : Block.free ∈ bs) (h_cal : Block.cal ∈ bs) (h_loom : Block.loom ∈ bs) (h_engine : Block.engine ∈ bs) (h_meas : Block.meas ∈ bs) (h_valve : Block.valve ∈ bs) (h_io : Block.io ∈ bs) (h_fans : Block.fans ∈ bs) (h_disp : Block.disp ∈ bs) (h_dict : Block.dict ∈ bs) (h_host : Block.host ∈ bs) (h_can : Block.can ∈ bs) (h_pair : Block.pair ∈ bs) (h_mem : Block.mem ∈ bs) (h_safety : Block.safety ∈ bs) (h_snap : Block.snap ∈ bs) (h_mram : Block.mram ∈ bs) (h_alarms : Block.alarms ∈ bs) :
    Within bs s₀ (jobDone s j) := by
  unfold jobDone
  dsimp only
  with_reducible repeat' (first | assumption | apply leaveBad_within | apply commitEffect_within | apply settlePending_within | apply commitDone_within | apply answer_within | split)

theorem jobFailed_within (s : State) (j : CopyJob) (hk : Within bs s₀ s) (h_free : Block.free ∈ bs) (h_dict : Block.dict ∈ bs) (h_host : Block.host ∈ bs) (h_can : Block.can ∈ bs) :
    Within bs s₀ (jobFailed s j) := by
  unfold jobFailed
  dsimp only
  with_reducible repeat' (first | assumption | apply commitRefused_within | apply answer_within | (simp only [↓within_mk]; apply parts_dict) | split)

theorem execCopyWriteComplete_within (ok : Bool) (s : State) (hk : Within bs s₀ s) (h_free : Block.free ∈ bs) (h_cal : Block.cal ∈ bs) (h_loom : Block.loom ∈ bs) (h_engine : Block.engine ∈ bs) (h_meas : Block.meas ∈ bs) (h_valve : Block.valve ∈ bs) (h_io : Block.io ∈ bs) (h_fans : Block.fans ∈ bs) (h_disp : Block.disp ∈ bs) (h_dict : Block.dict ∈ bs) (h_host : Block.host ∈ bs) (h_can : Block.can ∈ bs) (h_pair : Block.pair ∈ bs) (h_mem : Block.mem ∈ bs) (h_safety : Block.safety ∈ bs) (h_snap : Block.snap ∈ bs) (h_mram : Block.mram ∈ bs) (h_alarms : Block.alarms ∈ bs) :
    Leads bs s₀ (execCopyWriteComplete ok s) := by
  unfold execCopyWriteComplete
  dsimp only
  with_reducible repeat' (first | assumption | apply putCopy_within | apply jobDone_within | apply nextJob_within | apply jobFailed_within | apply ite_within | apply ite_within_snd | apply ite_within_thd | apply ite_within_out | apply within_next | (simp only [↓within_mk]; apply parts_dict) | split)

theorem execPersistentRwGeneration_within (s : State) (hk : Within bs s₀ s) (h_dict : Block.dict ∈ bs) :
    Leads bs s₀ (execPersistentRwGeneration s) := by
  unfold execPersistentRwGeneration
  dsimp only
  with_reducible repeat' (first | assumption | apply startJob_within | apply ite_within | apply ite_within_snd | apply ite_within_thd | apply ite_within_out | apply within_next | (simp only [↓within_mk]; apply parts_dict) | split)

theorem loadCards_within (s : State) (l : List Byte) (hk : Within bs s₀ s) (h_valve : Block.valve ∈ bs) :
    Within bs s₀ (loadCards s l) := by
  unfold loadCards
  with_reducible repeat' (first | assumption | apply loadCard_within | refine forAll_within _ _ _ (fun _ _ _ => ?_) ?_)

theorem imageJob_within (s : State) (e : Env) (hk : Within bs s₀ s) (h_valve : Block.valve ∈ bs) (h_dict : Block.dict ∈ bs) :
    Within bs s₀ (imageJob s e) := by
  unfold imageJob
  dsimp only
  with_reducible repeat' (first | assumption | apply startJob_within | apply loadCards_within)

/-! ### Writes -/

theorem armOp_within (s : State) (e : Nat) (v : Int) (hk : Within bs s₀ s) (h_loom : Block.loom ∈ bs) (h_dict : Block.dict ∈ bs) :
    Within bs s₀ (armOp s e v) := by
  unfold armOp
  dsimp only
  with_reducible repeat' (first | assumption | apply setRw_within | apply syncDone_within | apply takeObj_within | apply modEvent_within | apply ite_within)

theorem noteWrong_within (s : State) (x : Sess) (hk : Within bs s₀ s) (h_dict : Block.dict ∈ bs) :
    Within bs s₀ (noteWrong s x) := by
  unfold noteWrong
  dsimp only
  with_reducible repeat' (first | assumption | apply modSess_within)

theorem askLevel_within (s : State) (x : Sess) (n : Nat) (hk : Within bs s₀ s) (h_dict : Block.dict ∈ bs) :
    Within bs s₀ (askLevel s x n) := by
  unfold askLevel
  with_reducible repeat' (first | assumption | apply modSess_within)

theorem tryCode_within (s : State) (x : Sess) (code : Nat) (hk : Within bs s₀ s) (h_dict : Block.dict ∈ bs) :
    Within bs s₀ (tryCode s x code).2 := by
  unfold tryCode
  dsimp only
  with_reducible repeat' (first | assumption | apply modSess_within | apply noteWrong_within | apply ite_within | apply ite_within_snd)

theorem tryResponse_within (s : State) (x : Sess) (sig : List Byte) (hk : Within bs s₀ s) (h_dict : Block.dict ∈ bs) :
    Within bs s₀ (tryResponse s x sig).2 := by
  unfold tryResponse
  dsimp only
  with_reducible repeat' (first | assumption | apply modSess_within | apply noteWrong_within | apply ite_within | apply ite_within_snd)

theorem learnReset_within (s : State) (c : Nat) (hk : Within bs s₀ s) (h_loom : Block.loom ∈ bs) :
    Within bs s₀ (learnReset s c) := by
  unfold learnReset
  dsimp only
  with_reducible repeat' (first | assumption | apply modCirc_within | apply setLearn_within)

theorem fanOrIo_within (s : State) (o : Nat) (hk : Within bs s₀ s) (h_free : Block.free ∈ bs) (h_io : Block.io ∈ bs) (h_fans : Block.fans ∈ bs) (h_mem : Block.mem ∈ bs) :
    Within bs s₀ (fanOrIo s o) := by
  unfold fanOrIo
  with_reducible repeat' (first | assumption | apply ioApply_within | apply fanCommand_within | apply ite_within | apply ite_within_snd | apply ite_within_thd | split)

theorem commandOp_within (s : State) (o m : Nat) (v : Int) (sense : Option Nat) (hk : Within bs s₀ s) (h_free : Block.free ∈ bs) (h_meas : Block.meas ∈ bs) (h_valve : Block.valve ∈ bs) (h_io : Block.io ∈ bs) (h_fans : Block.fans ∈ bs) (h_dict : Block.dict ∈ bs) (h_mem : Block.mem ∈ bs) :
    Within bs s₀ (commandOp s o m v sense) := by
  unfold commandOp
  dsimp only
  with_reducible repeat' (first | assumption | apply setCmd_within | apply aoApply_within | apply propDrive_within | apply vlvCommand_within | apply vlvCommandFree_within | apply fanOrIo_within | apply ite_within | apply ite_within_snd | apply ite_within_thd | split)

theorem onOne_within (v : Val) (s t : State) (hk : Within bs s₀ s) (hk1 : Within bs s₀ t) :
    Within bs s₀ (onOne v s t) := by
  unfold onOne
  with_reducible repeat' (first | assumption | apply ite_within)

theorem applyTime_within (s : State) (o m : Nat) (v : Val) (hk : Within bs s₀ s) (h_cal : Block.cal ∈ bs) (h_loom : Block.loom ∈ bs) (h_engine : Block.engine ∈ bs) (h_dict : Block.dict ∈ bs) (h_snap : Block.snap ∈ bs) :
    Within bs s₀ (applyTime s o m v) := by
  unfold applyTime
  dsimp only
  with_reducible repeat' (first | assumption | apply calStep_within | apply calSlewAdd_within | apply writeRw_within | apply circRefresh_within | apply onOne_within | apply learnReset_within | apply osLearnReset_within | apply armOp_within | apply statsReset_within | apply rcClear_within | apply writeProfile_within | apply ite_within)

theorem applyField_within (s : State) (o m : Nat) (v : Val) (sense : Option Nat) (hk : Within bs s₀ s) (h_free : Block.free ∈ bs) (h_meas : Block.meas ∈ bs) (h_valve : Block.valve ∈ bs) (h_io : Block.io ∈ bs) (h_fans : Block.fans ∈ bs) (h_disp : Block.disp ∈ bs) (h_dict : Block.dict ∈ bs) (h_pair : Block.pair ∈ bs) (h_mem : Block.mem ∈ bs) (h_mram : Block.mram ∈ bs) :
    Within bs s₀ (applyField s o m v sense) := by
  unfold applyField
  with_reducible repeat' (first | assumption | apply commandOp_within | apply onOne_within | apply fwdRearm_within | apply ioDiagClear_within | apply vlvDiagClear_within | apply loadCard_within | apply fanDiagClear_within | apply ledgerReset_within | apply dispWrite_within | apply dispWriteRow_within | apply ite_within)

theorem pendWrite_within (s : State) (x : Sess) (k : Nat) (v : Val) (hk : Within bs s₀ s) (h_dict : Block.dict ∈ bs) :
    Within bs s₀ (pendWrite s x k v) := by
  unfold pendWrite
  dsimp only
  with_reducible repeat' (first | assumption | apply modSess_within)

/-! ### Services -/

theorem readAct_within (s : State) (x : Sess) (o m : Nat) (d : MemDef) (hk : Within bs s₀ s) (h_free : Block.free ∈ bs) (h_dict : Block.dict ∈ bs) (h_can : Block.can ∈ bs) (h_mem : Block.mem ∈ bs) :
    Within bs s₀ (readAct s x o m d).2 := by
  unfold readAct
  dsimp only
  with_reducible repeat' (first | assumption | apply modSess_within | apply rxAckOp_within | apply drawChallenge_within | apply ite_within | apply ite_within_snd | apply ite_within_thd | split)

theorem readBytes_within (s : State) (x : Sess) (o m : Nat) (pend : Bool) (hk : Within bs s₀ s) (h_free : Block.free ∈ bs) (h_dict : Block.dict ∈ bs) (h_can : Block.can ∈ bs) (h_mem : Block.mem ∈ bs) :
    Within bs s₀ (readBytes s x o m pend).2 := by
  unfold readBytes
  with_reducible repeat' (first | assumption | apply readAct_within | apply ite_within | apply ite_within_snd | apply ite_within_thd | split)

theorem execRead_within (env : Env) (obj mem flags : Nat) (s : State) (hk : Within bs s₀ s) (h_free : Block.free ∈ bs) (h_io : Block.io ∈ bs) (h_fans : Block.fans ∈ bs) (h_dict : Block.dict ∈ bs) (h_host : Block.host ∈ bs) (h_can : Block.can ∈ bs) (h_mem : Block.mem ∈ bs) (h_snap : Block.snap ∈ bs) :
    Leads bs s₀ (execRead env obj mem flags s) := by
  unfold execRead
  dsimp only
  with_reducible repeat' (first | assumption | apply ite_within_thd | apply requestStatus_within | apply readBytes_within | apply ite_within | apply ite_within_snd | apply ite_within_out | apply within_next | (refine fun (_ : State) _ => ?_; try dsimp only))

theorem setSeg_within (s : State) (x : Sess) (g : Option Segment) (hk : Within bs s₀ s) (h_dict : Block.dict ∈ bs) :
    Within bs s₀ (setSeg s x g) := by
  unfold setSeg
  with_reducible repeat' (first | assumption | apply modSess_within)

theorem segRead_within (s : State) (x : Sess) (xs : List SegItem) (hk : Within bs s₀ s) (h_free : Block.free ∈ bs) (h_dict : Block.dict ∈ bs) (h_can : Block.can ∈ bs) (h_mem : Block.mem ∈ bs) :
    Within bs s₀ (segRead s x xs).2.2 := by
  induction xs generalizing s with
  | nil => exact hk
  | cons i t ih =>
    unfold segRead
    dsimp only
    with_reducible apply ite_within_thd
    · exact hk
    · exact ih _ (readBytes_within _ _ _ _ _ hk h_free h_dict h_can h_mem)

theorem execSegmentInitRead_within (env : Env) (count : Nat) (items : List SegItem) (s : State) (hk : Within bs s₀ s) (h_free : Block.free ∈ bs) (h_io : Block.io ∈ bs) (h_fans : Block.fans ∈ bs) (h_dict : Block.dict ∈ bs) (h_host : Block.host ∈ bs) (h_can : Block.can ∈ bs) (h_mem : Block.mem ∈ bs) (h_snap : Block.snap ∈ bs) :
    Leads bs s₀ (execSegmentInitRead env count items s) := by
  unfold execSegmentInitRead
  dsimp only
  with_reducible repeat' (first | assumption | apply ite_within_thd | apply requestStatus_within | apply setSeg_within | apply segRead_within | apply ite_within | apply ite_within_snd | apply ite_within_out | apply within_next | (refine fun (_ : State) _ => ?_; try dsimp only))

theorem execSegmentInitWrite_within (env : Env) (count total : Nat) (items : List SegItem) (s : State) (hk : Within bs s₀ s) (h_free : Block.free ∈ bs) (h_io : Block.io ∈ bs) (h_fans : Block.fans ∈ bs) (h_dict : Block.dict ∈ bs) (h_host : Block.host ∈ bs) (h_can : Block.can ∈ bs) (h_mem : Block.mem ∈ bs) (h_snap : Block.snap ∈ bs) :
    Leads bs s₀ (execSegmentInitWrite env count total items s) := by
  unfold execSegmentInitWrite
  dsimp only
  with_reducible repeat' (first | assumption | apply ite_within_thd | apply requestStatus_within | apply setSeg_within | apply ite_within | apply ite_within_snd | apply ite_within_out | apply within_next | (refine fun (_ : State) _ => ?_; try dsimp only))

theorem execSegmentData_within (env : Env) (offset count : Nat) (data : List Byte) (s : State) (hk : Within bs s₀ s) (h_free : Block.free ∈ bs) (h_io : Block.io ∈ bs) (h_fans : Block.fans ∈ bs) (h_dict : Block.dict ∈ bs) (h_host : Block.host ∈ bs) (h_can : Block.can ∈ bs) (h_mem : Block.mem ∈ bs) (h_snap : Block.snap ∈ bs) :
    Leads bs s₀ (execSegmentData env offset count data s) := by
  unfold execSegmentData
  with_reducible repeat' (first | assumption | apply ite_within_thd | apply requestStatus_within | apply setSeg_within | apply ite_within | apply ite_within_snd | apply ite_within_out | apply within_next | split | (refine fun (_ : State) _ => ?_; try dsimp only))

theorem execSegmentCancel_within (env : Env) (s : State) (hk : Within bs s₀ s) (h_free : Block.free ∈ bs) (h_io : Block.io ∈ bs) (h_fans : Block.fans ∈ bs) (h_dict : Block.dict ∈ bs) (h_host : Block.host ∈ bs) (h_can : Block.can ∈ bs) (h_mem : Block.mem ∈ bs) (h_snap : Block.snap ∈ bs) :
    Leads bs s₀ (execSegmentCancel env s) := by
  unfold execSegmentCancel
  with_reducible repeat' (first | assumption | apply ite_within_thd | apply requestStatus_within | apply setSeg_within | apply ite_within | apply ite_within_snd | apply ite_within_out | apply within_next | (refine fun (_ : State) _ => ?_; try dsimp only))

theorem execSegmentTimeout_within (sess : Sess) (s : State) (hk : Within bs s₀ s) (h_dict : Block.dict ∈ bs) :
    Leads bs s₀ (execSegmentTimeout sess s) := by
  unfold execSegmentTimeout
  with_reducible repeat' (first | assumption | apply setSeg_within | apply ite_within | apply ite_within_snd | apply ite_within_thd | apply ite_within_out | apply within_next | split)

theorem setShadow_within (s : State) (p : Nat) (v : Option (Nat × Nat)) (hk : Within bs s₀ s) (h_host : Block.host ∈ bs) :
    Within bs s₀ (setShadow s p v) := by
  unfold setShadow
  dsimp only
  with_reducible repeat' (first | assumption | (simp only [↓within_mk]; apply parts_host))

theorem execBulkRead_within (env : Env) (count offset : Nat) (s : State) (hk : Within bs s₀ s) (h_free : Block.free ∈ bs) (h_io : Block.io ∈ bs) (h_fans : Block.fans ∈ bs) (h_dict : Block.dict ∈ bs) (h_host : Block.host ∈ bs) (h_can : Block.can ∈ bs) (h_mem : Block.mem ∈ bs) (h_snap : Block.snap ∈ bs) :
    Leads bs s₀ (execBulkRead env count offset s) := by
  unfold execBulkRead
  dsimp only
  with_reducible repeat' (first | assumption | apply ite_within_thd | apply requestStatus_within | apply setShadow_within | apply ite_within | apply ite_within_snd | apply ite_within_out | apply within_next | split | (refine fun (_ : State) _ => ?_; try dsimp only))

theorem windowWrite_within (s : State) (off : Nat) (data : List Byte) (hk : Within bs s₀ s) (h_mem : Block.mem ∈ bs) :
    Within bs s₀ (windowWrite s off data) := by
  unfold windowWrite
  with_reducible repeat' (first | assumption | apply sramWrite_within | refine forAll_within _ _ _ (fun _ _ _ => ?_) ?_)

theorem execBulkWrite_within (env : Env) (count offset : Nat) (data : List Byte) (s : State) (hk : Within bs s₀ s) (h_free : Block.free ∈ bs) (h_io : Block.io ∈ bs) (h_fans : Block.fans ∈ bs) (h_dict : Block.dict ∈ bs) (h_host : Block.host ∈ bs) (h_can : Block.can ∈ bs) (h_mem : Block.mem ∈ bs) (h_snap : Block.snap ∈ bs) :
    Leads bs s₀ (execBulkWrite env count offset data s) := by
  unfold execBulkWrite
  dsimp only
  with_reducible repeat' (first | assumption | apply ite_within_thd | apply requestStatus_within | apply setShadow_within | apply windowWrite_within | apply ite_within | apply ite_within_snd | apply ite_within_out | apply within_next | (refine fun (_ : State) _ => ?_; try dsimp only))

theorem eventsTake_within (s : State) (x : Sess) (n : Nat) (hk : Within bs s₀ s) (h_host : Block.host ∈ bs) :
    Within bs s₀ (eventsTake s x n) := by
  unfold eventsTake
  dsimp only
  with_reducible repeat' (first | assumption | apply ite_within | apply ite_within_snd | apply ite_within_thd | (simp only [↓within_mk]; apply parts_host) | split)

theorem execEvent_within (env : Env) (max_ : Nat) (s : State) (hk : Within bs s₀ s) (h_free : Block.free ∈ bs) (h_io : Block.io ∈ bs) (h_fans : Block.fans ∈ bs) (h_dict : Block.dict ∈ bs) (h_host : Block.host ∈ bs) (h_can : Block.can ∈ bs) (h_mem : Block.mem ∈ bs) (h_snap : Block.snap ∈ bs) :
    Leads bs s₀ (execEvent env max_ s) := by
  unfold execEvent
  dsimp only
  with_reducible repeat' (first | assumption | apply ite_within_thd | apply requestStatus_within | apply eventsTake_within | apply ite_within | apply ite_within_snd | apply ite_within_out | apply within_next | (refine fun (_ : State) _ => ?_; try dsimp only))

theorem fetchFrame_within (s : State) (hk : Within bs s₀ s) (h_free : Block.free ∈ bs) :
    Within bs s₀ (fetchFrame s).2 := by
  unfold fetchFrame
  dsimp only
  with_reducible repeat' (first | assumption | apply takeFree_within | split)

theorem execFetch_within (frame : FrameCond) (clocked : Nat) (s : State) (hk : Within bs s₀ s) (h_free : Block.free ∈ bs) (h_host : Block.host ∈ bs) :
    Leads bs s₀ (execFetch frame clocked s) := by
  unfold execFetch
  dsimp only
  with_reducible repeat' (first | assumption | apply fetchFrame_within | apply ite_within | apply ite_within_snd | apply ite_within_thd | apply ite_within_out | apply within_next | (simp only [↓within_mk]; apply parts_host) | split)

theorem execHostPortReset_within (s : State) (hk : Within bs s₀ s) (h_dict : Block.dict ∈ bs) (h_host : Block.host ∈ bs) :
    Leads bs s₀ (execHostPortReset s) := by
  unfold execHostPortReset
  dsimp only
  with_reducible repeat' (first | assumption | apply dropPending_within | apply modSess_within | apply within_next | (simp only [↓within_mk]; apply parts_host))

theorem execPendingTimeout_within (sess : Sess) (s : State) (hk : Within bs s₀ s) (h_dict : Block.dict ∈ bs) :
    Leads bs s₀ (execPendingTimeout sess s) := by
  unfold execPendingTimeout
  with_reducible repeat' (first | assumption | apply dropPending_within | apply ite_within | apply ite_within_snd | apply ite_within_thd | apply ite_within_out | apply within_next)

theorem execAccessTimeout_within (sess : Sess) (s : State) (hk : Within bs s₀ s) (h_dict : Block.dict ∈ bs) :
    Leads bs s₀ (execAccessTimeout sess s) := by
  unfold execAccessTimeout
  with_reducible repeat' (first | assumption | apply modSess_within | apply ite_within | apply ite_within_snd | apply ite_within_thd | apply ite_within_out | apply within_next)

theorem execCodeLockoutEnd_within (sess : Sess) (s : State) (hk : Within bs s₀ s) (h_dict : Block.dict ∈ bs) :
    Leads bs s₀ (execCodeLockoutEnd sess s) := by
  unfold execCodeLockoutEnd
  with_reducible repeat' (first | assumption | apply modSess_within | apply ite_within | apply ite_within_snd | apply ite_within_thd | apply ite_within_out | apply within_next | split)

theorem heartbeatSend_within (s : State) (hk : Within bs s₀ s) (h_can : Block.can ∈ bs) :
    Within bs s₀ (heartbeatSend s) := by
  unfold heartbeatSend
  with_reducible repeat' (first | assumption | apply canQueueHeartbeat_within | apply ite_within | apply ite_within_snd | apply ite_within_thd | refine forAll_within _ _ _ (fun _ _ _ => ?_) ?_)

theorem execHeartbeat_within (s : State) (hk : Within bs s₀ s) (h_host : Block.host ∈ bs) (h_can : Block.can ∈ bs) :
    Leads bs s₀ (execHeartbeat s) := by
  unfold execHeartbeat
  dsimp only
  with_reducible repeat' (first | assumption | apply heartbeatSend_within | apply ite_within | apply ite_within_snd | apply ite_within_thd | apply ite_within_out | apply within_next | (simp only [↓within_mk]; apply parts_host) | split)

/-! ### Commands -/

theorem execSafetyChallenge_within (env : Env) (s : State) (hk : Within bs s₀ s) (h_free : Block.free ∈ bs) (h_io : Block.io ∈ bs) (h_fans : Block.fans ∈ bs) (h_dict : Block.dict ∈ bs) (h_host : Block.host ∈ bs) (h_can : Block.can ∈ bs) (h_mem : Block.mem ∈ bs) (h_snap : Block.snap ∈ bs) :
    Leads bs s₀ (execSafetyChallenge env s) := by
  unfold execSafetyChallenge
  with_reducible repeat' (first | assumption | apply execRead_within)

theorem execRecord_within (env : Env) (x o : Nat) (s : State) (hk : Within bs s₀ s) (h_free : Block.free ∈ bs) (h_io : Block.io ∈ bs) (h_fans : Block.fans ∈ bs) (h_dict : Block.dict ∈ bs) (h_host : Block.host ∈ bs) (h_can : Block.can ∈ bs) (h_mem : Block.mem ∈ bs) (h_snap : Block.snap ∈ bs) :
    Leads bs s₀ (execRecord env x o s) := by
  unfold execRecord
  with_reducible repeat' (first | assumption | apply execRead_within)

theorem execLogRecord_within (env : Env) (s : State) (hk : Within bs s₀ s) (h_free : Block.free ∈ bs) (h_io : Block.io ∈ bs) (h_fans : Block.fans ∈ bs) (h_dict : Block.dict ∈ bs) (h_host : Block.host ∈ bs) (h_can : Block.can ∈ bs) (h_mem : Block.mem ∈ bs) (h_snap : Block.snap ∈ bs) :
    Leads bs s₀ (execLogRecord env s) := by
  unfold execLogRecord
  with_reducible repeat' (first | assumption | apply execRead_within)

/-! ### CanReceive -/

theorem canHeartbeat_within (s : State) (source : Nat) (p : List Byte) (hk : Within bs s₀ s) (h_free : Block.free ∈ bs) (h_loom : Block.loom ∈ bs) (h_meas : Block.meas ∈ bs) (h_valve : Block.valve ∈ bs) (h_io : Block.io ∈ bs) (h_fans : Block.fans ∈ bs) (h_disp : Block.disp ∈ bs) (h_dict : Block.dict ∈ bs) (h_host : Block.host ∈ bs) (h_pair : Block.pair ∈ bs) (h_mem : Block.mem ∈ bs) (h_snap : Block.snap ∈ bs) (h_mram : Block.mram ∈ bs) :
    Within bs s₀ (canHeartbeat s source p) := by
  unfold canHeartbeat
  dsimp only
  with_reducible repeat' (first | assumption | apply managerHeard_within | apply peerHeartbeat_within | apply ite_within)

/-! ### LoomEvents -/

theorem placeDue_within (s : State) (from_ : Nat) (hk : Within bs s₀ s) (h_loom : Block.loom ∈ bs) :
    Within bs s₀ (placeDue s from_) := by
  unfold placeDue
  with_reducible repeat' (first | assumption | apply circPlace_within | apply ite_within | apply ite_within_snd | apply ite_within_thd | refine forAll_within _ _ _ (fun _ _ _ => ?_) ?_ | split)

theorem unplaceCycle_within (s : State) (n : Nat) (hk : Within bs s₀ s) (h_loom : Block.loom ∈ bs) :
    Within bs s₀ (unplaceCycle s n) := by
  unfold unplaceCycle
  dsimp only
  with_reducible repeat' (first | assumption | apply modCirc_within | refine forAll_within _ _ _ (fun _ _ _ => ?_) ?_ | (simp only [↓within_mk]; apply parts_loom) | split)

theorem moveOver_within (from_ : Nat) (s : State) (a : ArmedCmd) (hk : Within bs s₀ s) (h_loom : Block.loom ∈ bs) :
    Within bs s₀ (moveOver from_ s a) := by
  unfold moveOver
  dsimp only
  with_reducible repeat' (first | assumption | apply modCirc_within | apply circPlace_within | apply modEvent_within | (simp only [↓within_mk]; apply parts_loom) | split)

theorem sealUser_within (s : State) (a : ArmedCmd) (hk : Within bs s₀ s) (h_loom : Block.loom ∈ bs) :
    Within bs s₀ (sealUser s a) := by
  unfold sealUser
  with_reducible repeat' (first | assumption | apply modEvent_within | split)

theorem sealSet_within (s : State) (n : Nat) (hk : Within bs s₀ s) (h_loom : Block.loom ∈ bs) :
    Within bs s₀ (sealSet s n) := by
  unfold sealSet
  dsimp only
  with_reducible repeat' (first | assumption | apply placeDue_within | apply moveOver_within | apply sealUser_within | refine forAll_within _ _ _ (fun _ _ _ => ?_) ?_ | (simp only [↓within_mk]; apply parts_loom))

theorem sealNone_within (s : State) (n : Nat) (hk : Within bs s₀ s) (h_loom : Block.loom ∈ bs) :
    Within bs s₀ (sealNone s n) := by
  unfold sealNone
  dsimp only
  with_reducible repeat' (first | assumption | apply placeDue_within | apply unplaceCycle_within | (simp only [↓within_mk]; apply parts_loom))

theorem execArmedSetSeal_within (s : State) (hk : Within bs s₀ s) (h_loom : Block.loom ∈ bs) :
    Leads bs s₀ (execArmedSetSeal s) := by
  unfold execArmedSetSeal
  dsimp only
  with_reducible repeat' (first | assumption | apply sealNone_within | apply sealSet_within | apply ite_within | apply ite_within_snd | apply ite_within_thd | apply ite_within_out | apply within_next)

theorem eventEnd_within (s : State) (e : Nat) (late : Bool) (hk : Within bs s₀ s) (h_loom : Block.loom ∈ bs) :
    Within bs s₀ (eventEnd s e late) := by
  unfold eventEnd
  with_reducible repeat' (first | assumption | apply modEvent_within)

theorem logOwnFail_within (s : State) (number code target : Nat) (hk : Within bs s₀ s) (h_snap : Block.snap ∈ bs) :
    Within bs s₀ (logOwnFail s number code target) := by
  unfold logOwnFail
  with_reducible repeat' (first | assumption | apply logEvent_within | apply ite_within)

theorem userAct_within (s : State) (e : Nat) (a : ArmedCmd) (hk : Within bs s₀ s) (h_free : Block.free ∈ bs) (h_loom : Block.loom ∈ bs) (h_valve : Block.valve ∈ bs) (h_io : Block.io ∈ bs) (h_dict : Block.dict ∈ bs) (h_mem : Block.mem ∈ bs) :
    Within bs s₀ (userAct s e a) := by
  unfold userAct
  dsimp only
  with_reducible repeat' (first | assumption | apply eventEnd_within | apply loomDrive_within | apply modCirc_within | apply ite_within | apply ite_within_snd | apply ite_within_thd | split)

theorem circCmd_within (s : State) (c : Nat) (close : Bool) (a : ArmedCmd) (hk : Within bs s₀ s) (h_free : Block.free ∈ bs) (h_loom : Block.loom ∈ bs) (h_valve : Block.valve ∈ bs) (h_io : Block.io ∈ bs) (h_dict : Block.dict ∈ bs) (h_mem : Block.mem ∈ bs) :
    Within bs s₀ (circCmd s c close a) := by
  unfold circCmd
  with_reducible repeat' (first | assumption | apply circAct_within | apply modCirc_within | apply ite_within)

theorem execArmedCommand_within (s : State) (hk : Within bs s₀ s) (h_free : Block.free ∈ bs) (h_loom : Block.loom ∈ bs) (h_valve : Block.valve ∈ bs) (h_io : Block.io ∈ bs) (h_dict : Block.dict ∈ bs) (h_mem : Block.mem ∈ bs) :
    Leads bs s₀ (execArmedCommand s) := by
  unfold execArmedCommand
  dsimp only
  with_reducible repeat' (first | assumption | apply circCmd_within | apply userAct_within | apply ite_within | apply ite_within_snd | apply ite_within_thd | apply ite_within_out | apply within_next | (simp only [↓within_mk]; apply parts_loom) | split)

theorem execTransitionTimeout_within (c : Nat) (s : State) (hk : Within bs s₀ s) (h_loom : Block.loom ∈ bs) :
    Leads bs s₀ (execTransitionTimeout c s) := by
  unfold execTransitionTimeout
  with_reducible repeat' (first | assumption | apply closureFound_within | apply transEnd_within | apply modCirc_within | apply ite_within | apply ite_within_snd | apply ite_within_thd | apply ite_within_out | apply within_next | split)

theorem execMinOnOffExpiry_within (c : Nat) (s : State) (hk : Within bs s₀ s) (h_loom : Block.loom ∈ bs) :
    Leads bs s₀ (execMinOnOffExpiry c s) := by
  unfold execMinOnOffExpiry
  dsimp only
  with_reducible repeat' (first | assumption | apply circDirect_within | apply modCirc_within | apply ite_within | apply ite_within_snd | apply ite_within_thd | apply ite_within_out | apply within_next)

theorem learnedWritten_within (s : State) (k : Nat) (hk : Within bs s₀ s) (h_mem : Block.mem ∈ bs) :
    Within bs s₀ (learnedWritten s k) := by
  unfold learnedWritten
  with_reducible repeat' (first | assumption | apply mramWritten_within)

theorem storeCircs_within (s : State) (hk : Within bs s₀ s) (h_loom : Block.loom ∈ bs) (h_mem : Block.mem ∈ bs) (h_mram : Block.mram ∈ bs) :
    Within bs s₀ (storeCircs s) := by
  unfold storeCircs
  dsimp only
  with_reducible repeat' (first | assumption | apply modCirc_within | apply learnedWritten_within | refine forAll_within _ _ _ (fun _ _ _ => ?_) ?_ | (simp only [↓within_mk]; apply parts_mram) | split)

theorem storeValves_within (s : State) (hk : Within bs s₀ s) (h_valve : Block.valve ∈ bs) (h_mem : Block.mem ∈ bs) (h_mram : Block.mram ∈ bs) :
    Within bs s₀ (storeValves s) := by
  unfold storeValves
  dsimp only
  with_reducible repeat' (first | assumption | apply modVlv_within | apply learnedWritten_within | apply ite_within | apply ite_within_snd | apply ite_within_thd | refine forAll_within _ _ _ (fun _ _ _ => ?_) ?_ | (simp only [↓within_mk]; apply parts_mram))

theorem storeZones_within (s : State) (hk : Within bs s₀ s) (h_loom : Block.loom ∈ bs) (h_mem : Block.mem ∈ bs) (h_mram : Block.mram ∈ bs) :
    Within bs s₀ (storeZones s) := by
  unfold storeZones
  dsimp only
  with_reducible repeat' (first | assumption | apply modZone_within | apply learnedWritten_within | apply ite_within | apply ite_within_snd | apply ite_within_thd | refine forAll_within _ _ _ (fun _ _ _ => ?_) ?_ | (simp only [↓within_mk]; apply parts_mram))

theorem execLearnedPersist_within (s : State) (hk : Within bs s₀ s) (h_loom : Block.loom ∈ bs) (h_valve : Block.valve ∈ bs) (h_mem : Block.mem ∈ bs) (h_mram : Block.mram ∈ bs) :
    Leads bs s₀ (execLearnedPersist s) := by
  unfold execLearnedPersist
  with_reducible repeat' (first | assumption | apply storeZones_within | apply storeValves_within | apply storeCircs_within | apply within_next)

theorem rulesStart_within (s : State) (hk : Within bs s₀ s) (h_loom : Block.loom ∈ bs) (h_dict : Block.dict ∈ bs) :
    Within bs s₀ (rulesStart s) := by
  unfold rulesStart
  dsimp only
  with_reducible repeat' (first | assumption | apply syncDone_within | apply takeObj_within | apply modRule_within | apply ite_within | apply ite_within_snd | apply ite_within_thd | refine forAll_within _ _ _ (fun _ _ _ => ?_) ?_ | (simp only [↓within_mk]; apply parts_loom))

theorem zoneAlarm_within (s : State) (z : Nat) (hk : Within bs s₀ s) (h_alarms : Block.alarms ∈ bs) :
    Within bs s₀ (zoneAlarm s z) := by
  unfold zoneAlarm
  with_reducible repeat' (first | assumption | apply raiseAlarm_within | apply dropAlarm_within | apply ite_within)

theorem zonePre_within (s : State) (z old new_ : Nat) (hk : Within bs s₀ s) (h_loom : Block.loom ∈ bs) :
    Within bs s₀ (zonePre s z old new_) := by
  unfold zonePre
  dsimp only
  with_reducible repeat' (first | assumption | apply modZone_within | apply ite_within)

theorem zoneDecide_within (s : State) (z : Nat) (hk : Within bs s₀ s) (h_loom : Block.loom ∈ bs) (h_engine : Block.engine ∈ bs) (h_pair : Block.pair ∈ bs) (h_alarms : Block.alarms ∈ bs) :
    Within bs s₀ (zoneDecide s z) := by
  unfold zoneDecide
  dsimp only
  with_reducible repeat' (first | assumption | apply zoneAlarm_within | apply modZone_within | apply zonePre_within | apply modLoop_within | apply sendMirror_within | apply ite_within)

end Sys2Proof.Machine
end

