-- ==== Sys2Proof/Laws/WithinPower.lean ====
section
/-! SUPPORT. The parts of the state that each operation writes: the Warp cycle, the configuration and the power. -/

namespace Sys2Proof.Machine

variable {s₀ : State} {bs : List Block}

/-! ### WarpCycle -/

theorem logWarp_within (s : State) (old new_ : WarpState) (hk : Within bs s₀ s) (h_snap : Block.snap ∈ bs) :
    Within bs s₀ (logWarp s old new_) := by
  unfold logWarp
  with_reducible repeat' (first | assumption | apply logEvent_within)

theorem warpEnter_within (s : State) (hk : Within bs s₀ s) (h_warp : Block.warp ∈ bs) (h_loom : Block.loom ∈ bs) (h_snap : Block.snap ∈ bs) :
    Within bs s₀ (warpEnter s) := by
  unfold warpEnter
  dsimp only
  with_reducible repeat' (first | assumption | apply logWarp_within | apply taintTransitions_within | apply ite_within | apply ite_within_snd | apply ite_within_thd | (simp only [↓within_mk]; apply parts_warp) | split)

theorem warpCount_within (s : State) (hk : Within bs s₀ s) (h_warp : Block.warp ∈ bs) (h_cal : Block.cal ∈ bs) :
    Within bs s₀ (warpCount s) := by
  unfold warpCount
  dsimp only
  with_reducible repeat' (first | assumption | apply ite_within | apply ite_within_snd | apply ite_within_thd | (simp only [↓within_mk]; apply parts_cal) | (simp only [↓within_mk]; apply parts_warp) | (simp only [↓within_mk]; apply parts_warp_cal))

theorem warpSync_within (s : State) (hk : Within bs s₀ s) (h_warp : Block.warp ∈ bs) (h_dict : Block.dict ∈ bs) :
    Within bs s₀ (warpSync s) := by
  unfold warpSync
  dsimp only
  with_reducible repeat' (first | assumption | apply syncDone_within | apply takeObj_within | apply ite_within | apply ite_within_snd | apply ite_within_thd | (simp only [↓within_mk]; apply parts_warp))

theorem warpRealign_within (s : State) (hk : Within bs s₀ s) (h_warp : Block.warp ∈ bs) (h_loom : Block.loom ∈ bs) :
    Within bs s₀ (warpRealign s).2 := by
  unfold warpRealign
  dsimp only
  with_reducible repeat' (first | assumption | apply taintTransitions_within | apply ite_within | apply ite_within_snd | apply ite_within_thd | (simp only [↓within_mk]; apply parts_warp))

theorem warpLength_within (s : State) (hk : Within bs s₀ s) (h_warp : Block.warp ∈ bs) (h_loom : Block.loom ∈ bs) :
    Within bs s₀ (warpLength s) := by
  unfold warpLength
  dsimp only
  with_reducible repeat' (first | assumption | apply warpRealign_within | apply ite_within | apply ite_within_snd | apply ite_within_thd | (simp only [↓within_mk]; apply parts_warp))

theorem warpShift_within (s : State) (d : Nat) (hk : Within bs s₀ s) (h_warp : Block.warp ∈ bs) (h_loom : Block.loom ∈ bs) (h_valve : Block.valve ∈ bs) :
    Within bs s₀ (warpShift s d) := by
  unfold warpShift
  dsimp only
  with_reducible repeat' (first | assumption | apply modCirc_within | apply modVlv_within | apply ite_within | apply ite_within_snd | apply ite_within_thd | refine forAll_within _ _ _ (fun _ _ _ => ?_) ?_ | (simp only [↓within_mk]; apply parts_warp_loom))

theorem cycleTimers_within (s : State) (hk : Within bs s₀ s) (h_meas : Block.meas ∈ bs) :
    Within bs s₀ (cycleTimers s) := by
  unfold cycleTimers
  dsimp only
  with_reducible repeat' (first | assumption | apply ite_within | apply ite_within_snd | apply ite_within_thd | refine forAll_within _ _ _ (fun _ _ _ => ?_) ?_ | (simp only [↓within_mk]; apply parts_meas))

/-! ### ConfigResolution -/

theorem repairCopies_within (s : State) (r : Resolved) (hk : Within bs s₀ s) (h_mem : Block.mem ∈ bs) (h_snap : Block.snap ∈ bs) (h_mram : Block.mram ∈ bs) :
    Within bs s₀ (repairCopies s r) := by
  unfold repairCopies
  dsimp only
  with_reducible repeat' (first | assumption | apply mramWritten_within | apply logEvent_within | apply ite_within | apply ite_within_snd | apply ite_within_thd | refine forAll_within _ _ _ (fun _ _ _ => ?_) ?_ | (simp only [↓within_mk]; apply parts_mram))

theorem takeConfig_within (s : State) (hk : Within bs s₀ s) (h_dict : Block.dict ∈ bs) (h_mem : Block.mem ∈ bs) (h_snap : Block.snap ∈ bs) (h_mram : Block.mram ∈ bs) (h_alarms : Block.alarms ∈ bs) :
    Within bs s₀ (takeConfig s) := by
  unfold takeConfig
  dsimp only
  with_reducible repeat' (first | assumption | apply repairCopies_within | apply raiseAlarm_within | apply ite_within | apply ite_within_snd | apply ite_within_thd | (simp only [↓within_mk]; apply parts_dict))

theorem takeCalendar_within (s : State) (vrtc rtcNow : Nat) (hk : Within bs s₀ s) (h_cal : Block.cal ∈ bs) :
    Within bs s₀ (takeCalendar s vrtc rtcNow) := by
  unfold takeCalendar
  dsimp only
  with_reducible repeat' (first | assumption | apply ite_within | apply ite_within_snd | apply ite_within_thd | (simp only [↓within_mk]; apply parts_cal))

theorem restoreCounts_within (s : State) (hk : Within bs s₀ s) (h_therm : Block.therm ∈ bs) (h_safety : Block.safety ∈ bs) :
    Within bs s₀ (restoreCounts s) := by
  unfold restoreCounts
  dsimp only
  with_reducible repeat' (first | assumption | apply ite_within | apply ite_within_snd | apply ite_within_thd | (simp only [↓within_mk]; apply parts_therm_safety))

theorem restoreLearned_within (s : State) (hk : Within bs s₀ s) (h_dict : Block.dict ∈ bs) (h_mram : Block.mram ∈ bs) :
    Within bs s₀ (restoreLearned s) := by
  unfold restoreLearned
  dsimp only
  with_reducible repeat' (first | assumption | apply writeRw_within | apply ite_within | apply ite_within_snd | apply ite_within_thd | refine forAll_within _ _ _ (fun _ _ _ => ?_) ?_ | (simp only [↓within_mk]; apply parts_mram))

theorem restoreSave_within (s : State) (hk : Within bs s₀ s) (h_power : Block.power ∈ bs) (h_dict : Block.dict ∈ bs) (h_images : Block.images ∈ bs) (h_therm : Block.therm ∈ bs) (h_safety : Block.safety ∈ bs) (h_mram : Block.mram ∈ bs) :
    Within bs s₀ (restoreSave s) := by
  unfold restoreSave
  dsimp only
  with_reducible repeat' (first | assumption | apply restoreCounts_within | apply restoreLearned_within | apply ite_within | apply ite_within_snd | apply ite_within_thd | (simp only [↓within_mk]; apply parts_images) | (simp only [↓within_mk]; apply parts_mram) | (simp only [↓within_mk]; apply parts_power_mram))

theorem resumeApply_within (s : State) (p : Nat → Bool) (hk : Within bs s₀ s) (h_loom : Block.loom ∈ bs) (h_dict : Block.dict ∈ bs) :
    Within bs s₀ (resumeApply s p) := by
  unfold resumeApply
  dsimp only
  with_reducible repeat' (first | assumption | apply setCmd_within | apply setRw_within | apply modCirc_within | apply ite_within | apply ite_within_snd | apply ite_within_thd | refine forAll_within _ _ _ (fun _ _ _ => ?_) ?_)

theorem restoreResume_within (s : State) (waits : Bool) (hk : Within bs s₀ s) (h_power : Block.power ∈ bs) (h_loom : Block.loom ∈ bs) (h_dict : Block.dict ∈ bs) :
    Within bs s₀ (restoreResume s waits) := by
  unfold restoreResume
  dsimp only
  with_reducible repeat' (first | assumption | apply resumeApply_within | apply ite_within | apply ite_within_snd | apply ite_within_thd | (simp only [↓within_mk]; apply parts_power))

theorem brownoutFollow_within (s : State) (hk : Within bs s₀ s) (h_power : Block.power ∈ bs) :
    Within bs s₀ (brownoutFollow s) := by
  unfold brownoutFollow
  dsimp only
  with_reducible repeat' (first | assumption | (simp only [↓within_mk]; apply parts_power))

theorem takeOutage_within (s : State) (waits : Bool) (vrtc : Nat) (hk : Within bs s₀ s) (h_power : Block.power ∈ bs) :
    Within bs s₀ (takeOutage s waits vrtc) := by
  unfold takeOutage
  dsimp only
  with_reducible repeat' (first | assumption | apply ite_within | apply ite_within_snd | apply ite_within_thd | (simp only [↓within_mk]; apply parts_power))

theorem loadLearned_within (s : State) (hk : Within bs s₀ s) (h_loom : Block.loom ∈ bs) (h_valve : Block.valve ∈ bs) :
    Within bs s₀ (loadLearned s) := by
  unfold loadLearned
  dsimp only
  with_reducible repeat' (first | assumption | apply modCirc_within | apply modVlv_within | apply modZone_within | refine forAll_within _ _ _ (fun _ _ _ => ?_) ?_)

theorem loadProfiles_within (s : State) (hk : Within bs s₀ s) (h_engine : Block.engine ∈ bs) :
    Within bs s₀ (loadProfiles s) := by
  unfold loadProfiles
  dsimp only
  with_reducible repeat' (first | assumption | apply modLoop_within | apply ite_within | apply ite_within_snd | apply ite_within_thd | refine forAll_within _ _ _ (fun _ _ _ => ?_) ?_)

theorem startTimers_within (s : State) (hk : Within bs s₀ s) (h_meas : Block.meas ∈ bs) :
    Within bs s₀ (startTimers s) := by
  unfold startTimers
  dsimp only
  with_reducible repeat' (first | assumption | refine forAll_within _ _ _ (fun _ _ _ => ?_) ?_ | (simp only [↓within_mk]; apply parts_meas))

theorem takePair_within (s : State) (hk : Within bs s₀ s) (h_pair : Block.pair ∈ bs) :
    Within bs s₀ (takePair s) := by
  unfold takePair
  dsimp only
  with_reducible repeat' (first | assumption | (simp only [↓within_mk]; apply parts_pair))

theorem execConfigResolution_within (vrtc rtcSec rtcFrac : Nat) (s : State) (hk : Within bs s₀ s) (h_power : Block.power ∈ bs) (h_cal : Block.cal ∈ bs) (h_loom : Block.loom ∈ bs) (h_engine : Block.engine ∈ bs) (h_meas : Block.meas ∈ bs) (h_valve : Block.valve ∈ bs) (h_dict : Block.dict ∈ bs) (h_images : Block.images ∈ bs) (h_pair : Block.pair ∈ bs) (h_mem : Block.mem ∈ bs) (h_therm : Block.therm ∈ bs) (h_safety : Block.safety ∈ bs) (h_snap : Block.snap ∈ bs) (h_mram : Block.mram ∈ bs) (h_alarms : Block.alarms ∈ bs) :
    Leads bs s₀ (execConfigResolution vrtc rtcSec rtcFrac s) := by
  unfold execConfigResolution
  dsimp only
  with_reducible repeat' (first | assumption | apply takeConfig_within | apply takeOutage_within | apply takeCalendar_within | apply takePair_within | apply restoreSave_within | apply brownoutFollow_within | apply restoreResume_within | apply startTimers_within | apply loadProfiles_within | apply loadLearned_within | apply heddleAll_within | apply latchSafe_within | apply poolAssign_within | apply aoApplyAll_within | apply astroCompute_within | apply ite_within | apply ite_within_snd | apply ite_within_thd | apply ite_within_out | apply within_next | (simp only [↓within_mk]; apply parts_power))

/-! ### Power -/

theorem modPower_within (s : State) (f : Power → Power) (hk : Within bs s₀ s) (h_power : Block.power ∈ bs) :
    Within bs s₀ (modPower s f) := by
  unfold modPower
  with_reducible repeat' (first | assumption | (simp only [↓within_mk]; apply parts_power))

theorem leaveReset_within (s : State) (hk : Within bs s₀ s) (h_power : Block.power ∈ bs) (h_warp : Block.warp ∈ bs) (h_dict : Block.dict ∈ bs) :
    Within bs s₀ (leaveReset s) := by
  unfold leaveReset
  dsimp only
  with_reducible repeat' (first | assumption | apply modPower_within | apply modSess_within | (simp only [↓within_mk]; apply parts_warp))

theorem cutSave_within (s : State) (hk : Within bs s₀ s) (h_free : Block.free ∈ bs) (h_mram : Block.mram ∈ bs) :
    Within bs s₀ (cutSave s) := by
  unfold cutSave
  dsimp only
  with_reducible repeat' (first | assumption | apply takeFree_within | apply ite_within | apply ite_within_snd | apply ite_within_thd | (simp only [↓within_mk]; apply parts_mram))

theorem trialStep_within (s : State) (hk : Within bs s₀ s) (h_mram : Block.mram ∈ bs) :
    Within bs s₀ (trialStep s) := by
  unfold trialStep
  dsimp only
  with_reducible repeat' (first | assumption | apply rollback_within | apply ite_within | apply ite_within_snd | apply ite_within_thd | (simp only [↓within_mk]; apply parts_mram))

theorem execBootRomDone_within (s : State) (hk : Within bs s₀ s) (h_power : Block.power ∈ bs) (h_meas : Block.meas ∈ bs) (h_mram : Block.mram ∈ bs) :
    Leads bs s₀ (execBootRomDone s) := by
  unfold execBootRomDone
  dsimp only
  with_reducible repeat' (first | assumption | apply modPower_within | apply trialStep_within | apply ite_within | apply ite_within_snd | apply ite_within_thd | apply ite_within_out | apply within_next | (simp only [↓within_mk]; apply parts_meas))

theorem slotUnread_within (s : State) (k : Nat) (bad : List Nat) (hk : Within bs s₀ s) (h_loom : Block.loom ∈ bs) (h_engine : Block.engine ∈ bs) (h_valve : Block.valve ∈ bs) (h_mem : Block.mem ∈ bs) (h_mram : Block.mram ∈ bs) :
    Within bs s₀ (slotUnread s k bad) := by
  unfold slotUnread
  with_reducible repeat' (first | assumption | apply poisonMram_within | refine forAll_within _ _ _ (fun _ _ _ => ?_) ?_)

theorem execSignatureCheckDone_within (badBoot badOther : List Nat) (s : State) (hk : Within bs s₀ s) (h_power : Block.power ∈ bs) (h_loom : Block.loom ∈ bs) (h_engine : Block.engine ∈ bs) (h_valve : Block.valve ∈ bs) (h_mem : Block.mem ∈ bs) (h_mram : Block.mram ∈ bs) :
    Leads bs s₀ (execSignatureCheckDone badBoot badOther s) := by
  unfold execSignatureCheckDone
  dsimp only
  with_reducible repeat' (first | assumption | apply slotUnread_within | apply modPower_within | apply rollback_within | apply ite_within | apply ite_within_snd | apply ite_within_thd | apply ite_within_out | apply within_next | (simp only [↓within_mk]; apply parts_mram))

theorem lanesFromMap_within (s : State) (hk : Within bs s₀ s) (h_engine : Block.engine ∈ bs) :
    Within bs s₀ (lanesFromMap s) := by
  unfold lanesFromMap
  dsimp only
  with_reducible repeat' (first | assumption | apply modLane_within | apply ite_within | apply ite_within_snd | apply ite_within_thd | refine forAll_within _ _ _ (fun _ _ _ => ?_) ?_ | (simp only [↓within_mk]; apply parts_engine))

theorem useMap_within (s : State) (m : RepairMap) (ledger : List LedgerEntry) (gen st : Nat) (hk : Within bs s₀ s) (h_mem : Block.mem ∈ bs) (h_mram : Block.mram ∈ bs) :
    Within bs s₀ (useMap s m ledger gen st) := by
  unfold useMap
  dsimp only
  with_reducible repeat' (first | assumption | apply refreshMapFlags_within | (simp only [↓within_mk]; apply parts_mem_mram))

theorem resolveMaps_within (s : State) (hk : Within bs s₀ s) (h_mem : Block.mem ∈ bs) (h_mram : Block.mram ∈ bs) :
    Within bs s₀ (resolveMaps s) := by
  unfold resolveMaps
  dsimp only
  with_reducible repeat' (first | assumption | apply useMap_within | apply mramWritten_within | apply memFlag_within | apply writeMap_within | (simp only [↓within_mk]; apply parts_mram) | split)

theorem execRepairMapResolve_within (s : State) (hk : Within bs s₀ s) (h_power : Block.power ∈ bs) (h_engine : Block.engine ∈ bs) (h_mem : Block.mem ∈ bs) (h_mram : Block.mram ∈ bs) :
    Leads bs s₀ (execRepairMapResolve s) := by
  unfold execRepairMapResolve
  with_reducible repeat' (first | assumption | apply modPower_within | apply lanesFromMap_within | apply resolveMaps_within | apply ite_within | apply ite_within_snd | apply ite_within_thd | apply ite_within_out | apply within_next)

theorem deadLines_within (s : State) (hits : List Hit) (hk : Within bs s₀ s) (h_free : Block.free ∈ bs) (h_loom : Block.loom ∈ bs) (h_engine : Block.engine ∈ bs) (h_meas : Block.meas ∈ bs) (h_valve : Block.valve ∈ bs) (h_io : Block.io ∈ bs) (h_fans : Block.fans ∈ bs) (h_dict : Block.dict ∈ bs) (h_can : Block.can ∈ bs) (h_pair : Block.pair ∈ bs) (h_mem : Block.mem ∈ bs) (h_safety : Block.safety ∈ bs) (h_snap : Block.snap ∈ bs) (h_mram : Block.mram ∈ bs) :
    Within bs s₀ (deadLines s hits) := by
  unfold deadLines
  dsimp only
  with_reducible repeat' (first | assumption | apply poisonLine_within | apply defectRow_within | apply ite_within | apply ite_within_snd | apply ite_within_thd | refine forAll_within _ _ _ (fun _ _ _ => ?_) ?_)

theorem testMemory_within (s : State) (hits : List Hit) (hk : Within bs s₀ s) (h_free : Block.free ∈ bs) (h_loom : Block.loom ∈ bs) (h_engine : Block.engine ∈ bs) (h_meas : Block.meas ∈ bs) (h_valve : Block.valve ∈ bs) (h_io : Block.io ∈ bs) (h_fans : Block.fans ∈ bs) (h_dict : Block.dict ∈ bs) (h_can : Block.can ∈ bs) (h_pair : Block.pair ∈ bs) (h_mem : Block.mem ∈ bs) (h_safety : Block.safety ∈ bs) (h_snap : Block.snap ∈ bs) (h_mram : Block.mram ∈ bs) :
    Within bs s₀ (testMemory s hits) := by
  unfold testMemory
  with_reducible repeat' (first | assumption | apply classify_within | apply deadLines_within)

theorem execMemorySelfTest_within (sramFails mramFails : List (Nat × Nat)) (s : State) (hk : Within bs s₀ s) (h_free : Block.free ∈ bs) (h_power : Block.power ∈ bs) (h_loom : Block.loom ∈ bs) (h_engine : Block.engine ∈ bs) (h_meas : Block.meas ∈ bs) (h_valve : Block.valve ∈ bs) (h_io : Block.io ∈ bs) (h_fans : Block.fans ∈ bs) (h_dict : Block.dict ∈ bs) (h_can : Block.can ∈ bs) (h_pair : Block.pair ∈ bs) (h_mem : Block.mem ∈ bs) (h_safety : Block.safety ∈ bs) (h_snap : Block.snap ∈ bs) (h_mram : Block.mram ∈ bs) (h_alarms : Block.alarms ∈ bs) :
    Leads bs s₀ (execMemorySelfTest sramFails mramFails s) := by
  unfold execMemorySelfTest
  dsimp only
  with_reducible repeat' (first | assumption | apply testMemory_within | apply writeMap_within | apply raiseAlarm_within | apply modPower_within | apply ite_within | apply ite_within_snd | apply ite_within_thd | apply ite_within_out | apply within_next | (simp only [↓within_mk]; apply parts_mem))

theorem execHoldupMeasurement_within (s : State) (hk : Within bs s₀ s) (h_power : Block.power ∈ bs) :
    Leads bs s₀ (execHoldupMeasurement s) := by
  unfold execHoldupMeasurement
  with_reducible repeat' (first | assumption | apply modPower_within | apply ite_within | apply ite_within_snd | apply ite_within_thd | apply ite_within_out | apply within_next)

theorem execHoldupMeasureEnd_within (onset : HoldupOnset) (drain : HoldupDrain) (s : State) (hk : Within bs s₀ s) (h_power : Block.power ∈ bs) (h_alarms : Block.alarms ∈ bs) :
    Leads bs s₀ (execHoldupMeasureEnd onset drain s) := by
  unfold execHoldupMeasureEnd
  dsimp only
  with_reducible repeat' (first | assumption | apply modPower_within | apply raiseAlarm_within | apply dropAlarm_within | apply ite_within | apply ite_within_snd | apply ite_within_thd | apply ite_within_out | apply within_next | split)

theorem execWarpStepEnd_within (s : State) (hk : Within bs s₀ s) (h_power : Block.power ∈ bs) :
    Leads bs s₀ (execWarpStepEnd s) := by
  unfold execWarpStepEnd
  dsimp only
  with_reducible repeat' (first | assumption | apply modPower_within | apply ite_within | apply ite_within_snd | apply ite_within_thd | apply ite_within_out | apply within_next)

theorem logStart_within (s : State) (hk : Within bs s₀ s) (h_snap : Block.snap ∈ bs) :
    Within bs s₀ (logStart s) := by
  unfold logStart
  dsimp only
  with_reducible repeat' (first | assumption | apply logEvent_within)

theorem trialUp_within (s : State) (hk : Within bs s₀ s) (h_images : Block.images ∈ bs) (h_mram : Block.mram ∈ bs) :
    Within bs s₀ (trialUp s) := by
  unfold trialUp
  dsimp only
  with_reducible repeat' (first | assumption | apply fwConfirmOp_within | apply ite_within | apply ite_within_snd | apply ite_within_thd | (simp only [↓within_mk]; apply parts_images) | (simp only [↓within_mk]; apply parts_mram) | (simp only [↓within_mk]; apply parts_images_mram))

theorem decideStart_within (s : State) (hk : Within bs s₀ s) (h_free : Block.free ∈ bs) (h_loom : Block.loom ∈ bs) (h_meas : Block.meas ∈ bs) (h_valve : Block.valve ∈ bs) (h_io : Block.io ∈ bs) (h_fans : Block.fans ∈ bs) (h_disp : Block.disp ∈ bs) (h_dict : Block.dict ∈ bs) (h_pair : Block.pair ∈ bs) (h_mem : Block.mem ∈ bs) (h_mram : Block.mram ∈ bs) :
    Within bs s₀ (decideStart s) := by
  unfold decideStart
  with_reducible repeat' (first | assumption | apply roleDecide_within | apply modPair_within)

theorem execOperational_within (s : State) (hk : Within bs s₀ s) (h_free : Block.free ∈ bs) (h_power : Block.power ∈ bs) (h_loom : Block.loom ∈ bs) (h_meas : Block.meas ∈ bs) (h_valve : Block.valve ∈ bs) (h_io : Block.io ∈ bs) (h_fans : Block.fans ∈ bs) (h_disp : Block.disp ∈ bs) (h_dict : Block.dict ∈ bs) (h_host : Block.host ∈ bs) (h_images : Block.images ∈ bs) (h_can : Block.can ∈ bs) (h_pair : Block.pair ∈ bs) (h_mem : Block.mem ∈ bs) (h_snap : Block.snap ∈ bs) (h_mram : Block.mram ∈ bs) :
    Leads bs s₀ (execOperational s) := by
  unfold execOperational
  dsimp only
  with_reducible repeat' (first | assumption | apply modPower_within | apply canEnter_within | apply modCan_within | apply heartbeatSend_within | apply trialUp_within | apply logStart_within | apply modPair_within | apply decideStart_within | apply ite_within | apply ite_within_snd | apply ite_within_thd | apply ite_within_out | apply within_next | refine forAll_within _ _ _ (fun _ _ _ => ?_) ?_ | (simp only [↓within_mk]; apply parts_host))

theorem releaseField_within (s : State) (hk : Within bs s₀ s) (h_io : Block.io ∈ bs) (h_mem : Block.mem ∈ bs) :
    Within bs s₀ (releaseField s) := by
  unfold releaseField
  dsimp only
  with_reducible repeat' (first | assumption | apply ioTakeMode_within | refine forAll_within _ _ _ (fun _ _ _ => ?_) ?_ | (simp only [↓within_mk]; apply parts_io))

theorem loopRelease_within (s : State) (n : Nat) (hk : Within bs s₀ s) (h_engine : Block.engine ∈ bs) :
    Within bs s₀ (loopRelease s n) := by
  unfold loopRelease
  with_reducible repeat' (first | assumption | apply modLoop_within | apply loopBegin_within)

theorem releaseLoops_within (s : State) (hk : Within bs s₀ s) (h_engine : Block.engine ∈ bs) :
    Within bs s₀ (releaseLoops s) := by
  unfold releaseLoops
  with_reducible repeat' (first | assumption | apply loopRelease_within | refine forAll_within _ _ _ (fun _ _ _ => ?_) ?_)

theorem releaseLoom_within (s : State) (hk : Within bs s₀ s) (h_loom : Block.loom ∈ bs) (h_dict : Block.dict ∈ bs) :
    Within bs s₀ (releaseLoom s) := by
  unfold releaseLoom
  dsimp only
  with_reducible repeat' (first | assumption | apply circSchedule_within | refine forAll_within _ _ _ (fun _ _ _ => ?_) ?_ | (simp only [↓within_mk]; apply parts_loom))

theorem releaseSafety_within (s : State) (hk : Within bs s₀ s) (h_safety : Block.safety ∈ bs) :
    Within bs s₀ (releaseSafety s) := by
  unfold releaseSafety
  dsimp only
  with_reducible repeat' (first | assumption | apply safePinsStart_within | apply ite_within | apply ite_within_snd | apply ite_within_thd | (simp only [↓within_mk]; apply parts_safety))

theorem release_within (s : State) (hk : Within bs s₀ s) (h_free : Block.free ∈ bs) (h_power : Block.power ∈ bs) (h_loom : Block.loom ∈ bs) (h_engine : Block.engine ∈ bs) (h_meas : Block.meas ∈ bs) (h_valve : Block.valve ∈ bs) (h_io : Block.io ∈ bs) (h_fans : Block.fans ∈ bs) (h_disp : Block.disp ∈ bs) (h_dict : Block.dict ∈ bs) (h_pair : Block.pair ∈ bs) (h_mem : Block.mem ∈ bs) (h_safety : Block.safety ∈ bs) (h_mram : Block.mram ∈ bs) :
    Within bs s₀ (release s) := by
  unfold release
  dsimp only
  with_reducible repeat' (first | assumption | apply modPower_within | apply resumeApply_within | apply releaseLoom_within | apply releaseLoops_within | apply releaseField_within | apply bankRefresh_within | apply applyAll_within | apply releaseSafety_within | apply dispTristate_within | apply dispStart_within | apply ite_within | apply ite_within_snd | apply ite_within_thd | refine forAll_within _ _ _ (fun _ _ _ => ?_) ?_)

theorem execOutputRelease_within (s : State) (hk : Within bs s₀ s) (h_free : Block.free ∈ bs) (h_power : Block.power ∈ bs) (h_loom : Block.loom ∈ bs) (h_engine : Block.engine ∈ bs) (h_meas : Block.meas ∈ bs) (h_valve : Block.valve ∈ bs) (h_io : Block.io ∈ bs) (h_fans : Block.fans ∈ bs) (h_disp : Block.disp ∈ bs) (h_dict : Block.dict ∈ bs) (h_pair : Block.pair ∈ bs) (h_mem : Block.mem ∈ bs) (h_safety : Block.safety ∈ bs) (h_mram : Block.mram ∈ bs) :
    Leads bs s₀ (execOutputRelease s) := by
  unfold execOutputRelease
  with_reducible repeat' (first | assumption | apply decideStart_within | apply release_within | apply ite_within | apply ite_within_snd | apply ite_within_thd | apply ite_within_out | apply within_next)

theorem brownoutSet_within (s : State) (hk : Within bs s₀ s) (h_power : Block.power ∈ bs) :
    Within bs s₀ (brownoutSet s) := by
  unfold brownoutSet
  with_reducible repeat' (first | assumption | apply modPower_within | apply ite_within)

theorem saveDisplay_within (s : State) (hk : Within bs s₀ s) (h_disp : Block.disp ∈ bs) (h_mem : Block.mem ∈ bs) (h_mram : Block.mram ∈ bs) :
    Within bs s₀ (saveDisplay s).2 := by
  unfold saveDisplay
  dsimp only
  with_reducible repeat' (first | assumption | apply dispSave_within | apply modDisp_within | apply ite_within | apply ite_within_snd | apply ite_within_thd | (simp only [↓within_mk]; apply parts_mram))

theorem saveStop_within (s : State) (hk : Within bs s₀ s) (h_free : Block.free ∈ bs) (h_power : Block.power ∈ bs) (h_meas : Block.meas ∈ bs) (h_valve : Block.valve ∈ bs) (h_io : Block.io ∈ bs) (h_fans : Block.fans ∈ bs) (h_dict : Block.dict ∈ bs) (h_images : Block.images ∈ bs) (h_can : Block.can ∈ bs) (h_mem : Block.mem ∈ bs) (h_safety : Block.safety ∈ bs) :
    Within bs s₀ (saveStop s) := by
  unfold saveStop
  dsimp only
  with_reducible repeat' (first | assumption | apply modPower_within | apply modCan_within | apply bankRefresh_within | apply applyAll_within | apply fanStop_within | apply ite_within | apply ite_within_snd | apply ite_within_thd | refine forAll_within _ _ _ (fun _ _ _ => ?_) ?_ | (simp only [↓within_mk]; apply parts_dict_images_mem_safety))

theorem saveBegin_within (s : State) (hk : Within bs s₀ s) (h_free : Block.free ∈ bs) (h_power : Block.power ∈ bs) (h_meas : Block.meas ∈ bs) (h_valve : Block.valve ∈ bs) (h_io : Block.io ∈ bs) (h_fans : Block.fans ∈ bs) (h_disp : Block.disp ∈ bs) (h_dict : Block.dict ∈ bs) (h_host : Block.host ∈ bs) (h_images : Block.images ∈ bs) (h_can : Block.can ∈ bs) (h_pair : Block.pair ∈ bs) (h_mem : Block.mem ∈ bs) (h_safety : Block.safety ∈ bs) (h_snap : Block.snap ∈ bs) (h_mram : Block.mram ∈ bs) :
    Within bs s₀ (saveBegin s) := by
  unfold saveBegin
  dsimp only
  with_reducible repeat' (first | assumption | apply saveDisplay_within | apply tearCopy_within | apply pairGiveUp_within | apply mramWritten_within | apply flushLog_within | apply saveStop_within | apply brownoutSet_within | (simp only [↓within_mk]; apply parts_mram))

theorem execSaveDone_within (bytes : Nat) (s : State) (hk : Within bs s₀ s) (h_power : Block.power ∈ bs) (h_meas : Block.meas ∈ bs) (h_mram : Block.mram ∈ bs) :
    Leads bs s₀ (execSaveDone bytes s) := by
  unfold execSaveDone
  dsimp only
  with_reducible repeat' (first | assumption | apply modPower_within | apply ite_within | apply ite_within_snd | apply ite_within_thd | apply ite_within_out | apply within_next | (simp only [↓within_mk]; apply parts_meas_mram))

theorem execBrownoutClear_within (s : State) (hk : Within bs s₀ s) (h_power : Block.power ∈ bs) (h_mram : Block.mram ∈ bs) :
    Leads bs s₀ (execBrownoutClear s) := by
  unfold execBrownoutClear
  dsimp only
  with_reducible repeat' (first | assumption | apply modPower_within | apply ite_within | apply ite_within_snd | apply ite_within_thd | apply ite_within_out | apply within_next | (simp only [↓within_mk]; apply parts_mram))

end Sys2Proof.Machine
end

