-- ==== Sys2Proof/Machine/Pins.lean ====
section
/-! DEFINITION. The pads of the module and the levels of its pins (20_package_and_pins, R424, R426; 19_power_and_holdup, R410). -/

namespace Sys2Proof.Machine

/-- The output pins of R426. -/
inductive Pin where
  | seg (g : Nat)
  | com (c : Nat)
  | vlcd
  | hostMiso
  | hostIrqN
  | trigOut
  | safeA
  | safeB
  | faultN
  | selRole
  | selTx (i : Nat)
  | split (x : Nat)
  | vref
  | ao (a : Nat)
  | bank (b : Nat)
  | vlv (v : Nat)
  | fan (k : Nat)
  | io (i : Nat)
  deriving DecidableEq, Repr

/-- The level of a pin: high impedance, a digital level, a stage that is off or conducts, a driven level of the display, a duty or
an output value (Q16), or driven otherwise. -/
inductive PinState where
  | hiZ
  | low
  | high
  | off
  | conducts
  | display (l : PinLevel)
  | value (v : Int)
  | driven
  deriving DecidableEq, Repr

/-- A digital level. -/
def digital (b : Bool) : PinState := if b then .high else .low

/-- A display level. -/
def ofDisplay : PinLevel → PinState
  | .hiZ => .hiZ
  | l => .display l

/-- The dictionary services are open: operational has been reached (R407). -/
def pastOperational (s : State) : Bool :=
  match s.power.phase with
  | .operational | .released | .held | .saving => true
  | _ => false

/-- What a pin shows (R410, R426). A transaction of the host port is one command, so HOST_CS_N is high between commands and
HOST_MISO is high impedance. -/
def pinState (s : State) : Pin → PinState
  | .seg g => ofDisplay (segPin s g)
  | .com c => ofDisplay (comPin s c)
  | .vlcd => if dispHiZ s then .hiZ else .value s.disp.vlcd
  | .hostMiso => .hiZ
  | .hostIrqN => digital (!hostIrqLow s)
  | .trigOut => digital s.snap.trigOut
  | .safeA => digital s.safety.safeA
  | .safeB => digital s.safety.safeB
  | .faultN => digital s.safety.faultN
  | .selRole => digital s.pair.selRole
  | .selTx _ => if pastOperational s then .driven else .hiZ
  | .split x => if canSplitHiZ s x then .hiZ else .driven
  | .vref => if s.meas.refState = 0 then .low else .driven
  | .ao a => if (getAo s a).hiZ then .hiZ else .value (getAo s a).applied
  | .bank b => if (getBank s b).rail = 2 then .off else .driven
  | .vlv v => if (getVlv s v).lowSide then .conducts else .off
  | .fan k => if (getFan s k).bridgeOn then .conducts else .hiZ
  | .io i => if (getIo s i).hiZ then .hiZ else .value (getIo s i).applied

/-- The pads of a pin (R426); SEL_TX i stands for its pair of pads. -/
def padsOf : Pin → List Nat
  | .seg g => [1 + g]
  | .com c => [49 + c]
  | .vlcd => [55]
  | .hostMiso => [59]
  | .hostIrqN => [60]
  | .trigOut => [63]
  | .safeA => [64]
  | .safeB => [65]
  | .faultN => [66]
  | .selRole => [67]
  | .selTx i => [69 + 2 * i, 70 + 2 * i]
  | .split x => [104 + 3 * x]
  | .vref => [108]
  | .ao a => [142 + a]
  | .bank b => [161 + 2 * b, 162 + 2 * b]
  | .vlv v => [170 + v]
  | .fan k => [191 + 3 * k, 192 + 3 * k, 193 + 3 * k]
  | .io i => [211 + 12 * (i / 8) + i % 8]

/-- The pads of the outer supply of group g: L+ and M (R426). -/
def groupPads (g : Nat) : List Nat × List Nat := ([209 + 12 * g, 210 + 12 * g], [219 + 12 * g, 220 + 12 * g])

/-- The centre of a pad, X and Y in hundredths of a millimetre (R424). -/
def padCentre (p : Nat) : Nat × Nat :=
  if p ≤ 208 then (200 + 220 * ((p - 1) / 13), 400 + 250 * ((p - 1) % 13))
  else (4400 + 240 * ((p - 209) / 12), 525 + 250 * ((p - 209) % 12))

end Sys2Proof.Machine
end

