-- ==== Sys2Proof/Tests/Slice0.lean ====
section
/-! SUPPORT. Tests of the model, each a step on a small state; the operands that each well-formedness check refuses; and for every
statement with hypotheses the states and operands that meet them, clause by clause. -/

set_option Elab.async false

namespace Sys2Proof.Tests

open Sys2Proof.Machine

/-! ### Small states -/

/-- A module that has released its outputs, 10^12 engine clocks after reset. -/
def up : State := { State.reset with clk := 1000000000000, power := { phase := .released } }

/-- Members of the configuration, committed and in force. -/
def conf (s : State) (l : List (Nat × Nat × Int)) : State :=
  let t := l.foldl (fun t p => Table.put t (memKey p.1 p.2.1) (.num p.2.2)) s.dict.committed
  { s with dict := { s.dict with committed := t, force := t } }

/-! ### The queue of commands -/

theorem test_idle_counts_one_clock : step State.reset = .next (tick State.reset) := by rfl

theorem witness_AnIdleStepIsOneEngineClock : State.reset.pending = [] ∧ State.reset.warp.frac < 2 ^ 48 := by decide +kernel

theorem witness_StepRunsTheFrontCommand :
    ({ State.reset with pending := [.warpStepEnd, .bootRomDone] } : State).pending = .warpStepEnd :: [.bootRomDone] := by decide +kernel

/-! ### Warp and calendar -/

def onWarp (w : Warp) : State := { up with warp := w, meas := { refState := 2 } }

theorem witness_MainsZeroDecidesTheLockState :
    (onWarp {}).meas.refState = 2 ∧ (onWarp {}).warp.ws = .synthetic ∧ Cfg.warpMinAmpl (onWarp {}) ≤ 300 ∧
    299 < Cfg.warpMinAmpl (onWarp {}) ∧ periodOk 8000000 = true ∧ periodOk 6153846 = false ∧ periodOk 6153847 = true ∧
    periodsNear 8000000 8080000 = true ∧
    ((onWarp { ws := .locked, stepRun := 1 }).warp.ws = .locked ∧
      Cfg.warpStepThreshold (onWarp { ws := .locked, stepRun := 1 }) < (1025 : Int).natAbs) ∧
    (let s := onWarp { ws := .holdover, holdCycles := 9, goodZeros := 1 }
     s.warp.holdCycles < Cfg.warpHoldoverCycles s ∧ s.warp.target ≠ some .synthetic ∧ 1 ≤ s.warp.goodZeros) ∧
    (let s := onWarp { ws := .holdover, holdCycles := 10 }
     Cfg.warpHoldoverCycles s ≤ s.warp.holdCycles) := by decide +kernel

theorem witness_WarpCyclesAndAlignment :
    (let s := onWarp { ws := .locked, period := 8000000 }
     s.warp.ws = .locked ∧ s.warp.period * (65536 + 8192) < (s.clk - s.warp.zeroClk) * 65536) ∧
    (let s := onWarp { ws := .holdover, holdCycles := 10 }
     s.warp.ws = .holdover ∧ Cfg.warpHoldoverCycles s ≤ s.warp.holdCycles) ∧
    (let s := onWarp { frac := 2 ^ 48 - 1, align := 1 }
     s.power.phase ≠ .reset ∧ s.power.phase ≠ .done ∧ 2 ^ 48 - 1 ≤ s.warp.frac ∧ isStandby s = false ∧ s.warp.align ≠ 0 ∧
       s.pair.switchAsked = false) ∧
    (let s := conf (onWarp { ws := .locked, align := 0, alignSent := some 999600000000 }) [(0x2001, 7, 9)]
     s.warp.ws = .locked ∧ s.warp.align = 0 ∧ alignByNode s = true ∧ s.warp.alignCount = none ∧
       after 999600000000 (secs 1) ≤ s.clk) ∧
    (let s := conf (onWarp { ws := .locked, align := 0, alignSent := some 999996800000 }) [(0x2001, 7, 9)]
     s.warp.alignSent = some 999996800000 ∧ alignByNode s = true ∧ s.clk ≤ after 999996800000 (msecs 8)) := by decide +kernel

def atCal (now : Nat) : State := { up with cal := { now := now * 65536, st := 2 } }

theorem witness_CalendarEvaluations :
    (let s := atCal (20000 * 86400)
     s.cal.st ≠ 0 ∧ utcSec s % 86400 = 0 ∧ s.cal.gridDay ≠ (utcSec s / 86400).toNat ∧
       Cfg.gridGridDiscEn s = false ∧
       Cfg.gridGridDiscEn (conf s [(0x2011, 4, 1)]) = true ∧
       100 * (gridSums (lastN (Cfg.gridGridWindow s) (lastN 28 (s.cal.days ++ [s.cal.today_])))).2 <
         95 * (Cfg.gridGridWindow s * 86400 * 65536)) ∧
    (({ up with cal := { st := 1, astroAsked := true } } : State).cal.st ≠ 0 ∧
      ({ up with cal := { st := 1, astroAsked := true } } : State).cal.astroAsked = true) ∧
    up.therm.nextTemp ≤ up.clk ∧ up.cal.slewLeft = 0 := by decide +kernel

/-! ### Loom -/

def edge (k : ArmKind) : ArmedCmd := ⟨65536, 256, k, 70000, true, true⟩

def loomAt (l : Loom) : State := conf { up with warp := { cycle := 1 }, loom := l } [(0x3200, 1, 1), (0x3200, 2, 256)]

theorem witness_ArmedSetsAndTheirCommands :
    (let s : State := { up with warp := { cycle := 7, frac := 49152 * 2 ^ 32, realignNext := true } }
     Cfg.loomArmClose s ≤ warpNow s % 65536 ∧ s.loom.sealedCycle < s.warp.cycle + 1 ∧ s.warp.realignNext = true) ∧
    (let s := loomAt { sealed_ := [edge (.close 0)] }
     s.loom.sealed_ = edge (.close 0) :: [] ∧ (edge (.close 0)).warp ≤ warpNow s ∧ (edge (.close 0)).targeted = true ∧
       ownerCircuit s 256 = some 0 ∧ ownerCircuit s 256 ≠ some 1) ∧
    (edge (.user 3)).kind = .user 3 := by decide +kernel

def inTransition (close : Bool) (load : Option Nat) : State :=
  loomAt { circuits := [(0, { st := if close then 1 else 3, trans := some ⟨close, 0, 1000000000000, 0, false, false, false, none, load⟩ })] }

theorem witness_CircuitsEndTheirTransitions :
    (let s := inTransition true (some 5)
     (getCirc s 0).trans = some ⟨true, 0, 1000000000000, 0, false, false, false, none, some 5⟩ ∧ 1000000000000 ≤ s.clk ∧
       Cfg.circOutput s 0 ≠ 0xFFFF) ∧
    (let s := inTransition false none
     (getCirc s 0).trans = some ⟨false, 0, 1000000000000, 0, false, false, false, none, none⟩ ∧ Cfg.circOutput s 0 ≠ 0xFFFF) ∧
    (let s := loomAt { circuits := [(0, { minUntil := 1 })] }
     (getCirc s 0).minUntil ≠ 0 ∧ (getCirc s 0).minUntil ≤ s.clk ∧ (Cfg.circOutput s 0 ≠ 0xFFFF ∨ (getCirc s 0).due = none)) ∧
    (let s : State := { up with loom := { circuits := [(0, { minUntil := 1, due := some true })] } }
     (getCirc s 0).minUntil ≤ s.clk ∧ Cfg.circOutput s 0 = 0xFFFF ∧ (getCirc s 0).due = some true) := by decide +kernel

theorem witness_LearningScheduleAndOptimumStart :
    (let s := conf (atCal 1728000000) [(0x3200, 1, 1), (0x3200, 14, 1), (0x3200, 15, 2 ^ 29 + 127 * 2 ^ 21 + 2 ^ 20)]
     Cfg.circEnable s 0 = true ∧ s.cal.st ≠ 0 ∧
       latestSwitch s (circEntries s 0) (utcSec s) = some ⟨1728000000, true, false, false⟩ ∧
       (getCirc s 0).schedAt ≠ some 1728000000) ∧
    (localSec (atCal 1728000000) % 60 = 0 ∧ Cfg.zoneEnable (conf up [(0x3400, 1, 1)]) 0 = true) ∧
    (let s : State := { atCal 1728000000 with loom := { zones := [(0, { prestartAt := 1728000000 * 65536, tOcc := 1728000001 * 65536 })] } }
     (getZone s 0).prestartAt ≠ 0 ∧ (getZone s 0).prestartAt ≤ s.cal.now ∧ s.cal.now < (getZone s 0).tOcc) := by decide +kernel

def withEvent (r : UEvent) : State := { atCal 100 with loom := { events := [(3, r)] } }

theorem witness_UserEventsAndRules :
    (let s := withEvent { st := 1, action := 2, domain := 0 }
     (getEvent s 3).st = 1 ∧ (getEvent s 3).action = 2 ∧ (getEvent s 3).domain = 0 ∧ (getEvent s 3).whenWarp ≤ warpNow s) ∧
    (let s := withEvent { st := 1, action := 2, domain := 1, whenCal := 100 * 65536 }
     (getEvent s 3).domain = 1 ∧ s.cal.st ≠ 0 ∧ (getEvent s 3).whenCal ≤ s.cal.now) ∧
    (let s := withEvent { st := 1, action := 2, domain := 2 }
     (getEvent s 3).domain = 2 ∧ (getEvent s 3).sample ≤ (getLoop s (getEvent s 3).loop).samples) ∧
    (let s := withEvent { st := 1, action := 0, domain := 1, target := (0x4000 + 255) * 256 + 15 }
     (getEvent s 3).st = 1 ∧ (getEvent s 3).action = 0 ∧ (getEvent s 3).domain = 1 ∧ s.cal.st ≠ 0 ∧
       (getEvent s 3).whenCal ≤ s.cal.now ∧ (getEvent s 3).target = (0x4000 + 255) * 256 + 15) ∧
    (let s := conf { up with loom := { freshRules := false } } [(0x3400, 1, 1), (0x3400, 6, 256)]
     released s = true ∧ s.loom.nextRound ≤ s.clk ∧ SyncUnit.rules ∉ s.dict.waiting ∧ s.loom.freshRules = false ∧
       (∀ r < 512, Cfg.ruleEnable s r = false) ∧ Cfg.zoneEnable s 0 = true ∧ Cfg.zoneModeRequest s 0 = 0 ∧
       zoneIn s (Cfg.zoneOpenInput s 0) = some 0) ∧
    Cfg.zoneModeRequest (conf up [(0x3400, 11, 4)]) 0 ≠ 0 ∧
    Cfg.ruleAction (conf up [(0x3800, 9, 2)]) 0 = 2 := by decide +kernel

/-! ### Control engine -/

/-- Loop 1 reads the output of loop 0. -/
def withLoop (l : LoopRt) (cfg : List (Nat × Nat × Int)) : State :=
  conf { up with engine := { loops := [(0, { enabled := true, outAtClk := some 5 }), (1, { l with enabled := true })] } } cfg

def dueNow : LoopRt := { due := some ⟨1000000000000, false⟩ }

theorem witness_SamplesFallDue :
    (let s := withLoop {} [(0x4001, 3, 1)]
     released s = true ∧ Cfg.loopTrigger s 1 = 1 ∧ loopIdle s 1 = false ∧ (getLoop s 1).nextTimer ≤ s.clk) ∧
    (let s := { withLoop {} [(0x4001, 3, 2), (0x4001, 5, 1)] with warp := { cycle := 4, frac := 0 } }
     Cfg.loopTrigger s 1 = 2 ∧ loopIdle s 1 = false ∧ s.warp.cycle % Cfg.loopWarpDiv s 1 = 0 ∧
       Cfg.loopWarpPhase s 1 ≤ warpNow s % 65536 ∧ (getLoop s 1).warpDone ≠ some s.warp.cycle) := by decide +kernel

theorem witness_SamplesOfALoop :
    (let s := withLoop dueNow [(0x4001, 7, 0)]
     sampleRuns s 1 ∧ pvGood s 1 ∧ isStandby s = false ∧ Cfg.loopOutMin s 1 ≤ Cfg.loopOutMax s 1 ∧
       (nextMode s 1 = 1 ∨ nextMode s 1 = 2)) ∧
    nextMode (conf up [(0x4801, 16, 0)]) 1 = 0 ∧ (getLoop (withLoop { modeActive := 0 } []) 1).modeActive = 0 ∧
    (getLoop (withLoop {} []) 1).modeActive ≠ 0 ∧
    (let s := withLoop dueNow [(0x4001, 7, 308)]
     sampleRuns s 1 ∧ (readSrc s (Cfg.loopPvSource s 1)).valid = false) := by
  unfold sampleRuns pvGood; decide +kernel

theorem witness_HandOverFromCascadeKeepsTheSetPoint :
    let s := withLoop { dueNow with modeActive := 2, rampFromPv := false } [(0x4001, 7, 0), (0x4801, 16, 1)]
    sampleRuns s 1 ∧ pvGood s 1 ∧ isStandby s = false ∧ (getLoop s 1).modeActive = 2 ∧ nextMode s 1 = 1 ∧
      (getLoop s 1).rampFromPv = false ∧ (getLoop s 1).loomSp = none := by
  unfold sampleRuns pvGood; decide +kernel

theorem witness_LanesAndProfiles :
    ((getLane up 2).retired = false ∧ (getLane up 2).firstFault = none) ∧
    (let s : State := { up with engine := { laneA := { firstFault := some 600000000000 } } }
     (getLane s 0).retired = false ∧ s.engine.degraded = false ∧ (getLane s 0).firstFault = some 600000000000 ∧
       s.clk ≤ after 600000000000 (secs (Cfg.engineLaneWindow s))) ∧
    (let s := conf (atCal 3600) [(0x4CFF, 1, 1), (0x4CFF, 2, 1)]
     s.cal.st ≠ 0 ∧ utcSec s % 3600 = 0 ∧ 255 ∈ storedLoops s) := by decide +kernel

/-! ### Measurement -/

def onMeas (m : Meas) : State := { up with meas := { m with refState := 2 } }

def entryOf (cfg : List (Nat × Nat × Int)) (m : Meas) : State := conf (onMeas m) cfg

theorem witness_TriggersAndConverters :
    (measOn (onMeas {}) = true ∧ Table.getD (blank 0) (onMeas {}).meas.timers 7 ≤ (onMeas {}).clk) ∧
    (let s := entryOf [(0x5040, 3, 308), (0x5040, 4, 0x41C)] { coming := [(0, 1000000000000)] }
     s.meas.coming = (0, 1000000000000) :: [] ∧ 1000000000000 ≤ s.clk ∧ Cfg.trigChanA s 0 ≠ 0xFFFF ∧ Cfg.trigChanB s 0 ≠ 0xFFFF ∧
       (s.meas.queue.filter (qUses .a)).length < 4 ∧ (s.meas.queue.filter (qUses .b)).length < 4) ∧
    (let s := onMeas { queue := List.replicate 4 ⟨0, 0, 308, 0xFFFF, false⟩ }
     4 ≤ (s.meas.queue.filter (qUses .a)).length) ∧
    (let s := onMeas { queue := [⟨0, 0, 308, 0xFFFF, false⟩] }
     measOn s = true ∧ s.meas.runA = none ∧ s.meas.runB = none ∧ s.meas.queue = [⟨0, 0, 308, 0xFFFF, false⟩] ∧ contNext s = none) ∧
    (let s := onMeas { contWait := [⟨0, 999999999000, false⟩] }
     s.meas.runB = none ∧ contNext s = some ⟨0, 999999999000, false⟩ ∧ slotChan s 0 = some 0x41F) ∧
    (let s := onMeas { cQueue := [0x400] }
     s.meas.runC = none ∧ s.meas.cQueue = 0x400 :: []) := by decide +kernel

def runOn (chan : Nat) (set : ConvSet) : ConvRun := ⟨0, chan, 999999998400, false, false, false, false, set⟩

theorem witness_ConversionsDeliverTheirRecord :
    (let s := onMeas { runC := some (runOn 0x400 {}) }
     s.meas.runC = some (runOn 0x400 {}) ∧ (runOn 0x400 {}).start + 1600 ≤ s.clk ∧ 0x400 ≤ (runOn 0x400 {}).chan ∧
       (fieldTemp ((runOn 0x400 {}).chan - 0x400) = true → s.io.linkUp = true) ∧ s.meas.refState = 2) ∧
    phaseTrueAt (onWarp { ws := .locked }) 1000000000000 = true ∧
    (let r := runOn (308 + 23) { mode := 1 }
     let s := onMeas { runA := some r }
     s.meas.runA = some r ∧ r.start + 200 ≤ s.clk ∧ r.paired = false ∧ r.chan = 308 + 23 ∧ r.set.mode = 1 ∧ r.set.sensor = 0) := by
  decide +kernel

theorem witness_FramesInputsAndOutputs :
    (let s := { onMeas {} with power := { phase := .released, releaseClk := 999999998400 } }
     slotChan s 1600 = some 0x41F ∧ measOn s = true ∧ (s.clk - s.power.releaseClk) % 3200 = 1600 ∧
       trigKnown s (s.clk + 200) = false ∧ s.meas.runB = none ∧ s.meas.contWait = []) ∧
    trigKnown (onMeas { queue := [⟨0, 0, 0xFFFF, 0x41C, false⟩] }) 0 = true ∧
    (onMeas {}).meas.nextRound ≤ (onMeas {}).clk ∧ (onMeas {}).meas.scanDue ≤ (onMeas {}).clk ∧
    (onMeas { scanDue := 2000000000000 }).clk < (onMeas { scanDue := 2000000000000 }).meas.scanDue ∧
    (Cfg.aiAiMode (conf up [(0x5117, 1, 3)]) 23 = 3 ∧ (getAi up 23).shuntOpen = false) ∧
    (let s := onMeas { ai := [(0, { shuntOpen := true, shuntAt := 999960000000, clamped := true, recovering := some 5 }),
                              (1, { clamped := true })] }
     (getAi s 0).shuntOpen = true ∧ after (getAi s 0).shuntAt (msecs 100) ≤ s.clk ∧ (getAi s 1).clamped = true ∧
       (getAi s 0).recovering = some 5 ∧ 5 ≤ s.clk) ∧
    noiseDue (onMeas {}) = true ∧ Cfg.aoAoMode (conf up [(0x5307, 1, 2)]) 7 = 2 ∧ Cfg.aoAoMode (conf up [(0x5300, 1, 1)]) 0 = 1 := by
  decide +kernel

/-! ### Jacquard -/

/-- Channel 12 runs the word of opcode `op` at address 5 of its engine's card memory. -/
def onCard (op : Nat) (c : VlvRt) (b : Bank := {}) : State :=
  { up with valve := { cards := [(768 + 5, BitVec.ofNat 32 (op * 2 ^ 26 + 9))], ch := [(12, { c with pc := some 5 })], banks := [(3, b)] } }

def onVlv (c : VlvRt) (b : Bank := {}) : State := { up with valve := { ch := [(12, c)], banks := [(3, b)] } }

def opWord (op : Nat) : Option Nat := some (op * 2 ^ 26 + 9)

theorem witness_CardSettingsAndJumps :
    (∀ op ∈ [0x00, 0x01, 0x02, 0x03, 0x0C, 0x0D, 0x16, 0x10, 0x11, 0x12, 0x13], vlvAt (onCard op {}) 12 op = opWord op) ∧
    (getVlv (onCard 3 { conducting := true }) 12).conducting = true ∧ (getVlv (onCard 3 {}) 12).conducting = false ∧
    vlvOperand (getVlv (onCard 0x16 {}) 12) (0x16 * 2 ^ 26) % 16 = 0 ∧
    vlvOperand (getVlv (onCard 0x16 {}) 12) (0x16 * 2 ^ 26 + 1) % 16 = 1 := by decide +kernel

def seatWait : VlvRt := { wait := .seat 1000000000000 7, det := { armed := true }, card := 0x110, coilRes := 5 }

theorem witness_CardWaitsAndSeats :
    (∀ op ∈ [0x08, 0x09, 0x0A, 0x0B], vlvAt (onCard op {}) 12 op = opWord op) ∧ (getVlv (onCard 9 {}) 12).det.drop = false ∧
    vlvCmdOn (onCard 0x0A { cmdOn := true }) 12 = true ∧ vlvCmdOn (onCard 0x0A {}) 12 = false ∧
    1000000000000 ≤ up.clk ∧ (getVlv (onVlv { wait := .time 1000000000000 }) 12).wait = .time 1000000000000 ∧
    (getVlv (onVlv seatWait) 12).wait = .seat 1000000000000 7 ∧
    (let s := onVlv { wait := .drop 1000000000000 7, det := { drop := true, blankUntil := 1000000000000 } }
     (getVlv s 12).wait = .drop 1000000000000 7 ∧ (getVlv s 12).det.drop = true ∧ (getVlv s 12).det.blankUntil ≤ s.clk) ∧
    (let s := onVlv seatWait
     (getVlv s 12).det.armed = true ∧ (getVlv s 12).det.drop = false ∧ afterBlank s (getVlv s 12).det 1 = true ∧
       (getVlv s 12).learning = false ∧ (getVlv s 12).card = 0x110 ∧ (getVlv s 12).coilRes ≠ 0) ∧
    (getVlv (onVlv { seatWait with coilRes := 0 }) 12).coilRes = 0 := by decide +kernel

theorem witness_CardsDriveWithinTheBudget :
    (∀ op ∈ [0x04, 0x06, 0x07, 0x14, 0x05], vlvAt (onCard op {}) 12 op = opWord op) ∧
    (getBank (onCard 4 {}) 3).queue = [] ∧ fitsBudget (onCard 4 {}) 12 9 = true ∧
    9 ≤ (getVlv (onCard 4 { share := 9 }) 12).share ∧ (getVlv (onCard 4 { share := 8 }) 12).share < 9 ∧
    (getBank (onCard 4 {} { queue := [⟨13, 1, 1⟩] }) 3).queue ≠ [] ∧
    fitsBudget (onCard 4 {}) 12 65535 = false ∧
    (let s := onVlv { wait := .grant 9, st := .waitGrant } { queue := [⟨12, 9, 1⟩] }
     vlvBank 12 < 4 ∧ (getBank s (vlvBank 12)).queue = [⟨12, 9, 1⟩] ∧ fitsBudget s 12 9 = true ∧ (getVlv s 12).wait = .grant 9) ∧
    (let s := onVlv {} { queue := [⟨12, 10 ^ 9, 1⟩] }
     (getBank s 3).queue = ⟨12, 10 ^ 9, 1⟩ :: [] ∧ fitsBudget s 12 (10 ^ 9) = false) := by decide +kernel

theorem witness_CardsEndAndLearn :
    vlvAt (onCard 0x3F { learning := true }) 12 0x3F = opWord 0x3F ∧ (getVlv (onCard 0x3F { learning := true }) 12).learning = true ∧
    (let s := conf (onCard 0x3F { mode := 1 }) [(0x710C, 1, 1)]
     (getVlv s 12).learning = false ∧ (getVlv s 12).mode = 1 ∧ comN s (0x7100 + 12) 1 = 1) ∧
    vlvAt (onCard 0x15 {}) 12 0x15 = opWord 0x15 ∧ (getVlv (onVlv { wait := .decayed }) 12).wait = .decayed ∧
    mayLearn (conf { onVlv { mode := 1, card := 0x110, st := .hold, wait := .cmdOff, params := [9] } with cal := { st := 2, now := 10800 * 65536 } }
      [(0x710C, 6, 1)]) 12 = true ∧
    ((getVlv (onVlv { st := .hold }) 12).st = .hold ∧ after (getVlv (onVlv { st := .hold }) 12).holdSince (msecs 100) ≤ up.clk) := by
  decide +kernel

theorem witness_CardsStartAndChop :
    (let s := onVlv { startDue := some 1000000000000, mode := 1, pulseMs := some 10 }
     (getVlv s 12).startDue = some 1000000000000 ∧ 1000000000000 ≤ s.clk ∧ s.clk % 4 = 12 % 4 ∧ (getVlv s 12).st = .off ∧
       (getVlv s 12).mode = 1 ∧ vlvBlocked s 12 = false ∧ (getVlv s 12).pulseMs = some 10) ∧
    (let s := onVlv { startDue := some 5, st := .wait5200 }
     (getVlv s 12).st = .wait5200 ∧ (getVlv s 12).startDue = some 5 ∧ 5 ≤ s.clk) ∧
    (let s := onVlv { pulseEnd := some 5, mode := 1, st := .hold, wait := .cmdOff }
     (getVlv s 12).pulseEnd = some 5 ∧ 5 ≤ s.clk ∧ (getVlv s 12).mode = 1 ∧ vlvBlocked s 12 = false ∧ isSafe s (288 + 12) = false ∧
       (getVlv s 12).st = .hold ∧ (getVlv s 12).wait = .cmdOff ∧ (getVlv s 12).leaving = false) ∧
    (let s := onVlv { conducting := true, chopPending := some 3, lowSide := true }
     (getVlv s 12).conducting = true ∧ (getVlv s 12).chopNext ≤ s.clk ∧ (getVlv s 12).chopPending = some 3 ∧
       (getVlv s 12).lowSide = true ∧ (getVlv s 12).chopAt + 200 ≤ s.clk) ∧
    vlvWants (onVlv { conducting := true, ref := 10 }) 12 = true := by decide +kernel

theorem witness_ValveTripsAndDiagnostics :
    ((getVlv (onVlv { conducting := true }) 12).conducting = true ∧ isRelevant up (288 + 12) = false ∧
      2 ≤ (recent up (secs 10) [999999999990, 999999999991]).length) ∧
    (∀ v ∈ bankChans 3, isRelevant up (288 + v) = false) ∧
    (getBank (onVlv {} { testing := [12] }) (vlvBank 12)).testing.contains 12 = true ∧
    vlvCutOn (conf (onVlv { conducting := true }) [(0x7000, 5, 1)]) 12 = true := by decide +kernel

/-! ### Field I/O -/

def onIo (f : FieldIo) : State := { up with io := f }

def chan (i : Nat) (c : IoRt) : State := onIo { ch := [(i, c)], linkUp := true }

theorem witness_InputsAndOutputs :
    (let s := chan 31 { mode := 1 }
     pinsLive s = true ∧ (getIo s 31).mode = 1 ∧ (getIo s 31).hizUntil = none ∧ isRelevant s (256 + 31) = false ∧ s.io.linkUp = true ∧
       Cfg.ioWbEn s 31 = false ∧ (getIo s 31).differSince = none) ∧
    (onIo {}).io.linkUp = false ∧ Cfg.ioWbEn (conf up [(0x611F, 4, 1)]) 31 = true ∧
    (let s := chan 0 { mode := 1, differSince := some 5 }
     (getIo s 0).differSince = some 5 ∧ 5 + Cfg.ioFilter s 0 * 40000 ≤ s.clk) ∧
    (let s := chan 0 { mode := 4, tachTimes := [1, 2, 3, 4] }
     pinsLive s = true ∧ (getIo s 0).mode = 4 ∧ (getIo s 0).hizUntil = none ∧ (getIo s 0).tachTimes = [1, 2, 3, 4]) ∧
    (let s := chan 31 { mode := 2, on := true, lastCmdOff := false }
     (getIo s 31).on = true ∧ (getGroup s (ioGroupOf 31)).lost = false ∧ isSafe s (256 + 31) = false ∧ (getIo s 31).lastCmdOff = false) ∧
    7 ≤ (recent up (secs 60) (List.replicate 7 999999999999)).length ∧
    Flag.get (getIo (chan 0 { status := Flag.set 0 ioThermalOff true }) 0).status ioThermalOff = true := by decide +kernel

theorem witness_GroupsAndSupplies :
    (let s := chan 24 { mode := 2, on := true }
     released s = true ∧ (getGroup s 3).lost = false ∧ (getGroup s 3).shedAt = none ∧ (getIo s (8 * 3 + 0)).on = true ∧
       isRelevant s (256 + (8 * 3 + 0)) = false ∧ 3 * 65536 < ([196609] : List Int).foldl (· + ·) 0) ∧
    (let s := onIo { ch := [(9, { status := Flag.set 0 ioShed true, lastCmdOff := false })], groups := [(1, { lowSince := some 5 })] }
     (getGroup s 1).lowSince = some 5 ∧ after 5 (secs 1) ≤ s.clk ∧ (getGroup s 1).nextReinstate ≤ s.clk ∧
       (let back := fun i => Flag.get (getIo s i).status ioShed && !Flag.get (getIo s i).status ioShedLatched && !(getIo s i).lastCmdOff
        back 9 = true ∧ back 8 = false)) ∧
    (let s := chan 31 { mode := 3, on := true }
     isOutMode (getIo s 31).mode = true ∧ pinsLive s = true ∧ (getIo s 31).on = true) ∧
    (let s := chan 31 { mode := 3 }
     isOutMode (getIo s 31).mode = true ∧ (getIo s 31).on = false ∧ isStandby s = false) ∧
    (supplyWatched up = true ∧ (getGroup up 3).lost = false ∧ up.snap.queue.length < 64) ∧
    (getGroup (onIo { groups := [(3, { lost := true })] }) 3).lost = true ∧
    (let s := conf (chan 31 { hizUntil := some 5 }) [(0x611F, 1, 1)]
     (getIo s 31).hizUntil = some 5 ∧ 5 ≤ s.clk ∧ Cfg.ioIoMode s 31 = 1) := by decide +kernel

theorem witness_TheBarrierLinkAndTheFieldWatchdog :
    (up.power.phase ≠ .reset ∧ (onIo { validRun := 9 }).io.linkUp = false ∧ 9 ≤ (onIo { validRun := 9 }).io.validRun) ∧
    (let s := onIo { linkUp := true, lastValid := 999998800000 }
     s.io.linkUp = true ∧ after s.io.lastValid (msecs 3) ≤ s.clk) ∧
    (let s : State := { up with safety := { st := 1 } }
     s.io.linkUp = false ∧ linkUndeclared s = true) ∧
    (let s := onIo { linkUp := true, lastValid := 1000000000000 }
     s.io.linkUp = true ∧ s.clk < after s.io.lastValid (usecs 20) ∧ s.safety.watchdogBad = false ∧ s.power.phase ≠ .reset ∧
       s.power.phase ≠ .dieHold ∧ s.power.phase ≠ .done ∧ after s.io.lastRefresh (msecs (Cfg.fwdFwdTime s)) ≤ s.clk) ∧
    (let s := onIo { fwd := 1, ch := [(31, { mode := 2 })] }
     s.io.fwd = 1 ∧ after s.io.lastRefresh (msecs (Cfg.fwdFwdTime s)) ≤ s.clk ∧ isOutMode (getIo s 31).mode = true) := by
  decide +kernel

/-! ### Fans -/

def onFan (k : Nat) (c : FanRt) : State := { up with fans := [(k, c)] }

theorem witness_FanStartSequence :
    ((getFan (onFan 3 { st := 1 }) 3).st = 1 ∧ (getFan (onFan 3 { st := 1 }) 3).zeroVec = false ∧
      after (getFan (onFan 3 { st := 1 }) 3).stepClk (msecs 100) ≤ up.clk ∧ (655360 : Int) < 655361) ∧
    ((getFan (onFan 3 { st := 1, zeroVec := true }) 3).zeroVec = true) ∧
    ((getFan (onFan 0 { st := 2 }) 0).st = 2 ∧ after (getFan (onFan 0 { st := 2 }) 0).stepClk (msecs 200) ≤ up.clk) ∧
    ((getFan (onFan 0 { st := 3 }) 0).st = 3 ∧ after 0 (msecs (Cfg.dfanOlRampTime (onFan 0 { st := 3 }) 0)) ≤ up.clk ∧
      (getFan (onFan 0 { st := 3 }) 0).locked = false ∧ after 0 (secs 2) ≤ up.clk ∧ (getFan (onFan 0 { st := 3, retry := 2 }) 0).retry < 3 ∧
      3 ≤ (getFan (onFan 0 { st := 3, retry := 3 }) 0).retry) ∧
    ((getFan (onFan 0 { st := 5 }) 0).st = 5 ∧ after 0 (msecs 500) ≤ up.clk) ∧
    ((getFan (onFan 0 { st := 6 }) 0).st = 6 ∧ after 0 (secs 60) ≤ up.clk) := by decide +kernel

theorem witness_FanTripsAndRestarts :
    ((getFan (onFan 3 { bridgeOn := true }) 3).bridgeOn = true ∧ isRelevant up (304 + 3) = false ∧
      2 ≤ (recent up (secs 60) [999999999998, 999999999999]).length ∧ (recent up (secs 60) [999999999999]).length < 2) ∧
    (getFan (onFan 0 { st := 4 }) 0).st = 4 ∧
    ((getFan (onFan 0 { restartAt := some 1000000000000 }) 0).restartAt = some 1000000000000 ∧
      (getFan (onFan 0 { restartAt := some 1000000000000 }) 0).st = 0) := by decide +kernel

theorem witness_FanSpeedsAndPwm :
    (released up = true ∧ SyncUnit.fan 3 ∉ up.dict.waiting ∧ SyncUnit.fan (4 + 7) ∉ up.dict.waiting) ∧
    ((getFan (onFan 11 { table := true }) 11).table = true ∧ after (getFan (onFan 11 { table := true }) 11).tableAt (secs 1) ≤ up.clk) ∧
    (let s := { conf (onFan 4 { fine := 5 }) [(0x8040, 2, 256)] with meas := { recs := [(0, { present := true })] } }
     recValid (getRec s 0) = true ∧ 256 ≤ Cfg.ecTachIo s 0 ∧ Cfg.ecTachIo s 0 < 288 ∧ 0 < (getFan s (4 + 0)).fine ∧
       after (getFan s (4 + 0)).roseAt (secs (Cfg.ecSpinupTime s 0)) ≤ s.clk ∧
       after (getIo s (Cfg.ecTachIo s 0 - 256)).lastEdge (ecPeriods s 0 2) ≤ s.clk ∧
       Flag.get (getFan s (4 + 0)).flags fanTachWire = false ∧ Flag.get (getFan s (4 + 0)).flags fanFailed = false) ∧
    isUp up = true ∧ (getFan up 3).shadowAt ≠ up.clk ∧ (getFan (onFan 0 { shadowAt := 1000000000000 }) 0).shadowAt = up.clk := by
  decide +kernel

/-! ### Display -/

def onDisp (d : Disp) (cfg : List (Nat × Nat × Int)) : State := conf { up with disp := d } cfg

theorem witness_TheDisplay :
    (let s := onDisp { mode := 1, st := 1 } []
     s.disp.mode = 1 ∧ s.disp.st = 1 ∧ s.disp.frameClk + frameLen s ≤ s.clk ∧ s.disp.slot + 1 < 2 * Cfg.dispComCount s ∧
       slotStart s (s.disp.slot + 1) ≤ s.clk ∧ vlcdSet s < 20 * ((0 : Int) - vlcdSet s).natAbs) ∧
    (let s := onDisp { mode := 2, st := 1, dirtySince := some 5, pending := 1 :: List.replicate 71 0 } [(0x9000, 1, 2)]
     s.disp.dirtySince = some 5 ∧ s.disp.mode = 2 ∧ s.disp.st = 1 ∧ after 5 (msecs 10) ≤ s.clk ∧
       SyncUnit.display ∉ s.dict.waiting ∧ 0 < Cfg.dispSegCount s ∧ levelOf s.disp.shown 0 0 ≠ levelOf s.disp.pending 0 0) ∧
    (let r : Round := ⟨0, 999999999999, [⟨0, 0, 1, [9], false⟩], false⟩
     (onDisp { round := some r } []).disp.round = some r ∧ r.start + r.length ≤ up.clk ∧ r.waves = [⟨0, 0, 1, [9], false⟩]) ∧
    (isUp up = true ∧ up.disp.nextBand ≤ up.clk ∧ (Cfg.dispTempSrc up < 308 ∨ 331 < Cfg.dispTempSrc up) ∧ up.disp.band ≤ 3) ∧
    (let s := onDisp { switchUntil := some 1000000000000 } [(0x9000, 1, 1)]
     s.disp.switchUntil = some 1000000000000 ∧ 1000000000000 ≤ s.clk ∧ SyncUnit.display ∉ s.dict.waiting ∧
       Cfg.dispDispMode s = 1 ∧ s.therm.dState = 0) := by decide +kernel

/-! ### Memory -/

def onMem (m : Mem) : State := { up with mem := m }

theorem witness_TheMemory :
    339 ∈ (onMem { heddleBad := [339] }).mem.heddleBad ∧
    (let s := onMem { scrubbing := true, scrubPos := 0x7FFFE0 }
     s.mem.scrubbing = true ∧ s.mem.scrubPos < 0x800000 ∧ s.mem.scrubPos + 32 < 0x1000000 ∧
       erasedNow s 0 (lineBank s.mem.scrubPos) = []) ∧
    0x1000000 ≤ (onMem { scrubbing := true, scrubPos := 0xFFFFE0 }).mem.scrubPos + 32 ∧
    (let s := onMem { scrubbing := true, scrubPos := 0x54E0 }
     s.mem.scrubPos < 0x5500 ∧ erasedNow s 0 (lineBank s.mem.scrubPos) = [] ∧ s.mem.scrubPos ∉ s.mem.poisonS ∧
       rowRepaired s 0 (lineBank s.mem.scrubPos) (lineRow s.mem.scrubPos) = false ∧
       freeSpare s.mem.map.rows 0 (lineBank s.mem.scrubPos) 16 = some 0) ∧
    (let s := onMem { hits := [⟨.sram, 0, 0⟩, ⟨.sram, 32, 1⟩] }
     s.mem.prevHits = [] ∧ s.mem.hits.length < 3) ∧
    (let s := onMem { map := { moving := [(0, 1, 2, true), (1, 1, 2, false)] }, filled := [(0, 1, 2, true)] }
     (∃ m ∈ s.mem.map.moving, m ∈ s.mem.filled)) ∧
    (onMem { invState := 1 }).mem.invState = 1 := by decide +kernel

/-! ### Safety, temperature, the supervisor -/

theorem witness_ReadbackAndModuleFailures :
    (let s := conf { up with safety := { st := 1, ch := [(83, { badRun := 3 })] } } [(0xB100 + 83, 1, 1), (0x5307, 1, 1)]
     released s = true ∧ s.safety.nextCheck ≤ s.clk ∧ 339 ∈ outEntries ∧ isRelevant s 339 = true ∧ readbackAgrees s 339 65536 = false ∧
       (getSafe s (safeChan 339)).badRun = 3 ∧ s.safety.st = 1) ∧
    (let s := conf up [(0xB100, 1, 1)]
     256 ∈ outEntries ∧ isRelevant s 256 = true ∧ readbackAgrees s 256 1 = false ∧ (getSafe s (safeChan 256)).badRun < 3) ∧
    up.safety.st ≠ 3 ∧
    (let s : State := { up with warp := { ws := .locked, wasRealigned := false, cycleClocks := 8888889 } }
     s.warp.ws = .locked ∧ s.warp.wasRealigned = false ∧ periodOk s.warp.cycleClocks = false) ∧
    periodOk 8888888 = true ∧ periodOk 6153847 = true ∧ periodOk 6153846 = false ∧ up.warp.ws ≠ .locked := by decide +kernel

def cooled : Sensor := { coolSince := some 0 }

theorem witness_ThermalRoundsAndSupervisorTimers :
    (let s : State := { up with therm := { roundDone := true } }
     s.therm.roundDone = true) ∧
    (let s : State := { up with therm := { roundDone := true, sensors := [(9, { cmp := 165 * 65536 }), (3, { cmp := 150 * 65536 })] } }
     165 * 65536 ≤ (getSensor s 9).cmp ∧ 150 * 65536 ≤ (getSensor s 3).cmp) ∧
    (let s : State := { up with therm := { dState := 1, sensors := (List.range 10).map fun i => (i, cooled) } }
     s.therm.dState = 1 ∧ dieCool s 1 = true) ∧
    (let s : State := { up with power := { phase := .dieHold }, therm := { sensors := (List.range 10).map fun i => (i, cooled) } }
     s.power.phase = .dieHold ∧ dieCool s 0 = true) ∧
    (let s : State := { up with safety := { st := 1, windowAt := 1000000000000, coresDone := [0, 1, 2] } }
     s.safety.st ≠ 0 ∧ s.safety.watchdogBad = false ∧ 3 ∉ s.safety.coresDone ∧ windowOver s = false) ∧
    (let s : State := { up with safety := { st := 1, coresDone := [3, 0, 1, 2] } }
     windowOver s = true ∧ coresPassed s = true) ∧
    coresPassed { up with safety := { st := 1, coresDone := [3, 0, 1] } } = false ∧
    (let s : State := { up with safety := { st := 2 } }
     safeToggles s = true ∧ s.safety.nextToggle ≤ s.clk) ∧
    (let s := conf { up with safety := { st := 3, autoTimes := [1, 2] } } [(0xB000, 6, 1)]
     s.safety.st = 3 ∧ Cfg.safetyAutoRestart s = true ∧ after s.safety.stopAt (secs 1) ≤ s.clk ∧
       (recent s (secs 86400) s.safety.autoTimes).length < 3 ∧ isUp s = true) := by decide +kernel

/-! ### The pair -/

def onPair (p : Pair) : State := { up with pair := { p with en := true } }

def bySide : AliveInfo := ⟨2, 3, schemaVersion, 0, 1, 2, 0, false⟩

theorem witness_LanesAndRoleLines :
    (pairOn (onPair {}) = true ∧ (onPair {}).pair.nextAlive ≤ up.clk) ∧
    (let s := onPair { lane1 := { up := true, run := 4, lastValid := 5 } }
     (getSel s 1).up = true ∧ after (getSel s 1).lastValid (usecs 200) ≤ s.clk ∧ s.pair.lane0.up = false) ∧
    (let s := onPair { linkUp := true }
     s.pair.linkUp = true ∧ after s.pair.lane0.lastValid (msecs 1) ≤ s.clk ∧ after s.pair.lane1.lastValid (msecs 1) ≤ s.clk) ∧
    (let s := onPair { lane1 := { run := 2 } }
     s.pair.linkUp = false ∧ s.pair.lane0.up = false ∧ s.pair.lane1.up = false ∧ (getSel s 1).run < 3) ∧
    (onPair { toggling := true }).pair.toggling = true ∧ (onPair {}).pair.nextToggle ≤ up.clk ∧
    (let s := onPair { edgeRun := 3, lastEdge := 999999992000 }
     s.clk ≤ after s.pair.lastEdge (usecs 20) ∧ 3 ≤ s.pair.edgeRun) ∧
    (let s := onPair { edgeRun := 3, lastEdge := 999999991999 }
     after s.pair.lastEdge (usecs 20) < s.clk ∧ s.pair.edgeRun ≠ 0) ∧
    (let s := onPair { peerActive := true, lastEdge := 999999960000 }
     s.pair.peerActive = true ∧ after s.pair.lastEdge (usecs 100) ≤ s.clk) := by decide +kernel

theorem witness_RolesAndMirrors :
    (let s := onPair { deciding := some 5 }
     s.pair.deciding = some 5 ∧ pairOn s = true ∧ after 5 (msecs 100) ≤ s.clk) ∧
    (let s := onPair { role := 1, peerNode := 127, peerActive := true }
     activeAlone s = true ∧ s.pair.peerNode = 127 ∧ s.pair.peerActive = true ∧ after s.pair.peerActiveSince (usecs 20) ≤ s.clk ∧
       Cfg.netNodeId s ≤ 127) ∧
    126 < Cfg.netNodeId (onPair { role := 1, peerNode := 126 }) ∧
    isStandby (onPair { role := 2 }) = true ∧
    (let s := onPair { role := 2, peerGone := true }
     pairOn s = true ∧ s.pair.role = 2 ∧ Cfg.pairTakeoverEn s = true ∧ s.pair.peerActive = false ∧ s.pair.peerGone = true ∧
       s.pair.linkUp = false) ∧
    (let s := onPair { handing := some 999998000000 }
     s.pair.handing = some 999998000000 ∧ after 999998000000 (msecs 5) ≤ s.clk ∧ s.pair.peerActive = false) ∧
    (onPair { handing := some 5, peerActive := true }).pair.peerActive = true ∧
    (let s := onPair { role := 2, linkUp := true, st := 3 }
     isStandby s = true ∧ s.pair.linkUp = true ∧ s.pair.st = 3 ∧ s.dict.job = none) ∧
    (let s := onPair { role := 1, linkUp := true, peer := some bySide }
     mirrors s = true ∧ isOutEntry 339 = true ∧ isLocal s 339 = false ∧ s.pair.nextCal ≤ s.clk) ∧
    (let s := onPair { role := 3, linkUp := true, st := 2, joinStep := 4 }
     isStandby s = true ∧ s.pair.linkUp = true ∧ s.pair.st = 2 ∧ s.pair.joinStep = 4) := by decide +kernel

/-! ### CAN -/

def onCan (c : CanRt) (cfg : List (Nat × Nat × Int) := []) : State := conf { up with can := [(1, { c with lowPower := false })] } cfg

def aFrame : CanFrame := ⟨0x123, false, false, false, false, false, [], 0⟩

def waiting : TxItem := ⟨1, .user, aFrame⟩

theorem witness_CanFramesAndControllers :
    (let s := onCan { st := 3, onBus := 2, fifo := [waiting] }
     canActive (getCan s 1) = true ∧ (getCan s 1).onBus = 2 ∧ (getCan s 1).fifo.head? = some waiting ∧ SyncUnit.can 1 ∉ s.dict.waiting) ∧
    (let c := getCan (onCan { st := 2, tec := 247 }) 1
     canActive c = true ∧ c.tec + (if c.st = 3 then 0 else 8) ≤ 255) ∧
    (let c := getCan (onCan { st := 2, tec := 248 }) 1
     255 < c.tec + (if c.st = 3 then 0 else 8)) ∧
    (getCan (onCan { urgent := [⟨waiting, 5⟩] }) 1).onBus = 0 ∧
    (let s := onCan { st := 4 }
     (getCan s 1).st = 4 ∧ canBusoffManual s 1 = false ∧ (getCan s 1).holdUntil ≤ s.clk) ∧
    (getCan (onCan { st := 5 }) 1).st = 5 ∧
    (∀ m ∈ [1, 2, 3], canOpMode (onCan { st := 5 } [(0x1101, 1, m)]) 1 = m) ∧
    (let s := onCan { st := 1 } [(0x1101, 1, 3)]
     (getCan s 1).st = 1 ∧ (getCan s 1).lowPower = false ∧ SyncUnit.can 1 ∉ s.dict.waiting ∧ canOpMode s 1 = 3) := by decide +kernel

theorem witness_CanRetriesSleepAndTransceiver :
    (let s := onCan { st := 2, flags := Flag.set 0 canNoPeer true, fifo := [waiting] } [(0x1101, 7, 1)]
     canActive (getCan s 1) = true ∧ canLoneMode s 1 = 1 ∧ Flag.get (getCan s 1).flags canNoPeer = true ∧ (getCan s 1).onBus = 0 ∧
       (getCan s 1).nextRetry ≤ s.clk ∧ (getCan s 1).urgent = [] ∧ (getCan s 1).fifo ≠ []) ∧
    (let s := onCan { st := 7 }
     (getCan s 1).st = 7 ∧ Flag.get (getCan s 1).flags canAbdFound = false ∧ after (getCan s 1).abdSince (secs 1) ≤ s.clk) ∧
    (let s := onCan { sleepFrom := some 5 }
     (getCan s 1).sleepFrom = some 5 ∧ after 5 (msecs 100) ≤ s.clk) ∧
    (let s := onCan { st := 8 } [(0x1101, 26, 0)]
     (getCan s 1).st = 8 ∧ cfgN s (0x1100 + 1) 26 = 0) ∧
    (let s := onCan { st := 8 } [(0x1101, 26, 1), (0x1101, 28, 0x123), (0x1101, 27, 0x1FFFFFFF), (0x1101, 29, 0)]
     (getCan s 1).st = 8 ∧ cfgN s (0x1100 + 1) 26 = 1 ∧ aFrame.fdf = false ∧ isWakeFrame s 1 { aFrame with id := 0x124 } = false ∧
       (isWakeFrame s 1 aFrame = true ∨ idWord aFrame ≠ 0x123) ∧ (getCan s 1).wakeErrors < 31) ∧
    31 ≤ (getCan (onCan { st := 8, wakeErrors := 31 }) 1).wakeErrors ∧ (getCan (onCan {}) 1).lowPower = false ∧
    (let s := onCan { st := 2, flags := Flag.set 0 canTrxHot true } [(0x1101, 1, 1)]
     Flag.get (getCan s 1).flags canTrxHot = true ∧ isUp s = true ∧ canOpMode s 1 ≠ 0 ∧ (getCan s 1).st ≠ 4 ∧ (getCan s 1).st ≠ 5 ∧
       (getCan s 1).st ≠ 8) := by decide +kernel

/-- Receive object 63 of controller 1 takes every base frame. -/
def listening (mode : Int) (l : List RxRec) : State :=
  onCan { st := 2, objs := [(63, { recs := l, seq := 255 })] } [(0x127F, 1, mode), (0x127F, 3, 0), (0x127F, 4, 7)]

def aRecord : RxRec := ⟨aFrame, true, false, false, 255, 0⟩

theorem witness_ReceiveObjectsStoreFrames :
    (let s := listening 1 [aRecord]
     canActive (getCan s 1) = true ∧ SyncUnit.can 1 ∉ s.dict.waiting ∧ s.power.phase ≠ .reset ∧ rxMatches s 1 63 aFrame = true ∧
       (∀ p < 63, rxMatches s 1 p aFrame = false) ∧ rxMode s 1 63 = 1) ∧
    (let s := listening 2 [aRecord, aRecord, aRecord]
     rxMatches s 1 63 aFrame = true ∧ rxMode s 1 63 = 2 ∧ (getObj (getCan s 1) 63).recs.length < 4) ∧
    4 ≤ (getObj (getCan (listening 2 [aRecord, aRecord, aRecord, aRecord]) 1) 63).recs.length ∧
    ∀ o < 64, rxMatches (onCan { st := 2 }) 1 o aFrame = false := by decide +kernel

/-! ### Snapshots and the log -/

def onSnap (x : Snap) (cfg : List (Nat × Nat × Int)) : State := conf { up with snap := x } cfg

theorem witness_TrigOutFollowsEveryCapture :
    (let s := onSnap { trigOut := true, trigOutUntil := 1000000000000 } [(0xD000, 5, 1)]
     Cfg.snapTrigOutEn s = true ∧ released s = true ∧ s.snap.trigOut = true ∧ s.snap.trigOutUntil ≤ s.clk) ∧
    Cfg.snapTrigOutEn (onSnap {} [(0xD000, 5, 0)]) = false ∧ up.clk < (onSnap { trigOutUntil := 1000000000001 } []).snap.trigOutUntil := by
  decide +kernel

theorem witness_TriggersCapturesAndTheLog :
    (let s := onSnap {} [(0xD000, 2, 1), (0xD000, 3, 15)]
     isUp s = true ∧ Cfg.snapTrigInMode s = 1 ∧ Cfg.snapTrigInSlot s = 15 ∧ (getSlot s 15).st = 0 ∧ snapCopying s = false) ∧
    Cfg.snapTrigInMode (onSnap {} [(0xD000, 2, 2)]) = 2 ∧ Cfg.snapTrigInMode (onSnap {} [(0xD000, 2, 3)]) = 3 ∧
    (let s := onCan { st := 6 } [(0xD000, 6, 2)]
     (Cfg.snapCanTrigEn s).testBit 1 = true ∧ trigDest s 0 = true ∧ isUp s = true ∧ canHears (getCan s 1) = true ∧
       (getSlot s 15).st = 0 ∧ snapCopying s = false ∧ warpNow s < 2 ^ 64 - 1) ∧
    (let s := onSnap { slots := [(15, { st := 1, armed := true })] } []
     (getSlot s 15).armed = true ∧ (getSlot s 15).armAt ≤ warpNow s ∧ (getSlot s 15).st = 1 ∧ snapCopying s = false) ∧
    (let s := onSnap { slots := [(15, { st := 2 })] } []
     snapCopying s = true ∧ s.snap.delayed = []) ∧
    (let s := onSnap { trigOut := true } []
     s.snap.trigOut = true ∧ s.snap.trigOutUntil ≤ s.clk) ∧
    (let r : LogRec := ⟨0x0103, 0, 0, 0, 0, []⟩
     let s := onSnap { queue := [r] } [(0x1030, 4, 1)]
     s.snap.queue = [r] ∧ Cfg.hostEventEn s = true ∧ s.host.events.length < 64) := by decide +kernel

/-! ### Requests -/

/-- The host's next request. -/
def hostEnv : Env := ⟨.host, 7, .ok, 0, 0⟩

/-- `s` with a host session of level 3 that was heard on this clock. -/
def manager (s : State) (r : SessRec := {}) : State :=
  { s with dict := { s.dict with sessions := [(0, { r with level := 3, lastReq := s.clk, seen := true })] } }

/-- The request reaches the services and no response is kept for it. -/
def served (s : State) (e : Env) (svc : Nat) (payload : List Byte) : Bool :=
  (arrives s e svc).1 && isDuplicate (touch (arrives s e svc).2 e.sess) e (bytes1 [svc] ++ payload) == none

/-- The WRITE is served and no check refuses it. -/
def goes (s : State) (e : Env) (o m : Nat) (data : List Byte) : Bool :=
  served s e 2 (writePayload o m data) && tooLong e data (writeCode (writing s e o m data) e.sess o m data) == 0

theorem served_of (s : State) (e : Env) (svc : Nat) (p : List Byte) (h : served s e svc p = true) : Served s e svc p := by
  rw [served, Bool.and_eq_true, beq_iff_eq] at h
  exact ⟨h.1, h.2⟩

theorem goes_of (s : State) (e : Env) (o m : Nat) (data : List Byte) (h : goes s e o m data = true) : WriteGoes s e o m data := by
  rw [goes, Bool.and_eq_true, beq_iff_eq] at h
  exact ⟨served_of s e 2 _ h.1, h.2⟩

/-- Every request of the list goes in its state. -/
def allGo (l : List (State × Nat × Nat × List Byte)) : Bool := l.all fun x => goes x.1 hostEnv x.2.1 x.2.2.1 x.2.2.2

theorem witness_RequestsReachTheServicesOnce :
    requestOf up (.abort hostEnv) = some (hostEnv, 4, []) ∧ (arrives up { hostEnv with frame := .badCrc } 4).1 = false ∧
    isUp up = true ∧ 8 ≤ ({ up with host := { resp := List.replicate 8 [] } } : State).host.resp.length ∧
    canAddressed up 0 ⟨.can 0 5, 7, .ok, 8, 0⟩ 4 = false ∧ (arrives up hostEnv 4).1 = true ∧
    (let s := manager up { prev := some ⟨7, bytes1 [4], []⟩ }
     isDuplicate (touch (arrives s hostEnv 4).2 hostEnv.sess) hostEnv (bytes1 [4] ++ []) = some []) := by decide +kernel

theorem witness_ReadsAnswerTheValue :
    (∀ p ∈ [(0x1000, 1), (0xFFFF, 1), (0xB010, 3), (0x127F, 6), (0xD100, 2)], served (manager up) hostEnv 1 (readPayload p.1 p.2 0) = true) ∧
    readCode (heard up hostEnv 1 (readPayload 0xFFFF 1 0)) .host 0xFFFF 1 false (some 510) ≠ 0 ∧
    readCode (heard up hostEnv 1 (readPayload 0xE000 1 0)) .host 0xE000 1 false (some 510) = 0 ∧
    readCode (heard (manager up) hostEnv 1 (readPayload 0xB010 3 0)) .host 0xB010 3 false (some 510) = 0 ∧
    readCode (heard up hostEnv 1 (readPayload 0x127F 6 0)) .host 0x127F 6 false (some 510) = 0 ∧
    (let r : LogRec := ⟨0x0103, 0, 1, 0, 0, List.replicate 32 0⟩
     let s : State := { up with mram := { log := [r] } }
     let h := heard s hostEnv 1 (readPayload 0xD100 2 0)
     readCode h .host 0xD100 2 false (some 510) = 0 ∧ logAt h (getSess h .host).cursor = some r) := by decide +kernel

theorem witness_WritesAreRefusedOrPending :
    (let h := writing up hostEnv 0xFFFF 1 []
     tooLong hostEnv [] (writeCode h .host 0xFFFF 1 []) ≠ 0) ∧
    allGo [(manager up, 0x4000, 11, bytes1 [1, 0, 0, 0]), (up, 0xD100, 1, bytes1 [1, 0, 0, 0])] = true ∧
    ((findMem 0x4000 11).map fun d => d.acc) = some .rwg ∧ groupOf 0x4000 = some 0x4000 ∧
    ((findMem 0x4000 11).map fun d => lockBad up 0x4000 11 d) = some false ∧
    heldByOther { up with dict := { sessions := [(1, { pending := [(memKey 0x4000 11, ⟨.num 1, 3⟩)] })] } } .host 0x4000 = true := by
  decide +kernel

def aJob (copy : Nat) : CopyJob := ⟨5, [], [], 3, .rw, copy⟩

theorem witness_CommitsBecomeGenerations :
    (∀ svc ∈ [3, 4], served (manager up) hostEnv svc [] = true) ∧ inRecovery up = false ∧ beforeRelease up = false ∧
    configBad up = false ∧ genFull (heard up hostEnv 3 []) = false ∧
    (let s := manager up { pending := [(memKey 0x4000 11, ⟨.num 1, 3⟩)] }
     let h := heard s hostEnv 3 []
     openPending h .host ≠ [] ∧ commitFail h (commitProposal h (openPending h .host)) = none) ∧
    (let s := manager up { pending := [(memKey 0x4000 1, ⟨.num 255, 3⟩)] }
     let h := heard s hostEnv 3 []
     (commitFail h (commitProposal h (openPending h .host))).isSome = true) ∧
    (∀ c ∈ [0, 1, 2], ({ up with dict := { job := some (aJob c) } } : State).dict.job = some (aJob c)) ∧
    (let s : State := { up with dict := { rwDirty := some 5 } }
     s.dict.rwDirty = some 5 ∧ configBad s = false ∧ genFull s = false ∧ s.dict.job = none) := by decide +kernel

def aTransfer (w : Bool) (last : Nat) : Segment := ⟨w, [⟨0xE000, 1, 0⟩], 5, [], last⟩

theorem witness_SegmentsCarryTransfers :
    (let items : List SegItem := [⟨0xE000, 1, 0⟩]
     let h := setSeg (heard up hostEnv 5 (initPayload 0 1 0 items)) .host none
     served up hostEnv 5 (initPayload 0 1 0 items) = true ∧ countBad .host 1 items = false ∧ (segRead h .host items).1 = 0 ∧
       served up hostEnv 5 (initPayload 1 1 131072 items) = true) ∧
    (let s := manager up { seg := some (aTransfer true 1000000000000) }
     (getSess s .host).seg = some (aTransfer true 1000000000000) ∧ s.clk ≤ after 1000000000000 (secs 2) ∧
       served s hostEnv 5 (segPayload s .host 0 1 (bytes1 [1])) = true ∧ served s hostEnv 5 (bytes1 [3]) = true ∧
       served s hostEnv 5 (bytes1 [4]) = true) ∧
    (let g : Segment := ⟨true, [⟨0x4000, 11, 0⟩], 4, [1, 0, 0, 0], 1000000000000⟩
     let s := manager up { seg := some g }
     (segEndWrite (setSeg (heard s hostEnv 5 (bytes1 [3])) .host none) hostEnv g).1 = none ∧
       (segEndWrite (setSeg (heard s hostEnv 5 (bytes1 [3])) .host none) hostEnv g).2.power.phase ≠ .reset) ∧
    after (aTransfer false 5).last (secs 2) ≤ up.clk := by decide +kernel

theorem witness_TheWindowReadsAndWrites :
    served up hostEnv 6 (bytes1 [0, 0] ++ leBytes 2 32 ++ leBytes 4 0x54E0) = true ∧ windowOk .host 32 0x54E0 = true ∧
    (∀ off ∈ [0x6008, 0x6808, 0xAF88], served up hostEnv 6 (bytes1 [0, 0] ++ leBytes 2 4 ++ leBytes 4 off) = true ∧
      windowOk .host 4 off = true ∧ isLowWord off = true ∧ shadowOf up (portOf .host) = none) ∧
    (let data := bytes1 [1, 2, 3, 4]
     let p := bytes1 [1, 0] ++ leBytes 2 4 ++ leBytes 4 0x54C8 ++ data
     let h := setShadow (heard (manager up) hostEnv 6 p) (portOf .host) none
     served (manager up) hostEnv 6 p = true ∧ windowCode h .host 4 0x54C8 data = 0 ∧ windowCode h .host 4 0x6000 data ≠ 0) := by
  decide +kernel

theorem witness_TheHostPortAndItsTimers :
    served up hostEnv 7 (bytes1 [15]) = true ∧ inRecovery up = false ∧ isUp up = true ∧
    (let s : State := { up with host := { resp := [[1, 2], [3]], hbAt := some 5 } }
     s.host.resp = [[1, 2], [3]] ∧ s.host.hbAt = some 5 ∧ 5 ≤ s.clk ∧ s.host.silent = false ∧
       after s.host.managerAt (secs (Cfg.netHostTimeout s)) ≤ s.clk) ∧
    Cfg.fanTableEn (conf up [(0x801B, 10, 1)]) 11 = true ∧
    after (getSess up .host).lastReq (secs (Cfg.accPendingTimeout up)) ≤ up.clk ∧
    after (getSess up (.can 1 255)).lastReq (secs (Cfg.accAccessTimeout up)) ≤ up.clk ∧
    (getSess (manager up { lockUntil := some 5, chal := some ([1], 5) }) .host).lockUntil = some 5 ∧
    (getSess (manager up { chal := some ([1], 5) }) .host).chal = some ([1], 5) ∧
    (let s : State := { up with images := { st := 2, confirmUntil := some 1000000000000 } }
     s.images.st = 2 ∧ s.images.confirmUntil = some 1000000000000) := by decide +kernel

theorem witness_AccessAndImageWrites :
    allGo [(up, 0x1010, 1, bytes1 [0]), (up, 0x1010, 1, bytes1 [2]),
      (manager up { asked := some (2, 999999999999) }, 0x1010, 2, bytes1 [9, 0, 0, 0]), (manager up, 0x1040, 1, bytes1 [1]),
      (manager { up with images := { st := 1 } }, 0x1040, 3, bytes1 [1, 0, 7]), (manager { up with images := { st := 1 } }, 0x1040, 4, bytes1 [1]),
      (manager { up with images := { st := 3, kind := 1 } }, 0x1040, 6, bytes1 [1]),
      (manager { up with mram := { slotState := [3, 1] } }, 0x1041, 6, bytes1 [1])] = true ∧
    onTrial (manager { up with mram := { slotState := [3, 1] } }) = true := by decide +kernel

theorem witness_CalendarLoomAndLoopWrites :
    allGo [(manager up, 0x2010, 1, leBytes 8 (65536 * 946684800)), (manager up, 0x2010, 2, leBytes 4 5),
      (manager up, 0x3240 + 31, 10, bytes1 [1]), (manager up, 0x3200 + 31, 12, bytes1 [4]), (manager (conf up [(0x363F, 6, 2), (0x363F, 7, 15)]), 0x3600 + 63, 9, bytes1 [1]),
      (manager up, 0x3600 + 63, 9, bytes1 [0]), (manager up, 0x3400 + 63, 25, bytes1 [1]), (manager up, 0x4800 + 255, 14, bytes1 [1]),
      (manager up, 0x4800 + 255, 16, bytes1 [1]), (manager up, 0x4800 + 255, 17, bytes1 [0, 0, 0, 0]),
      (manager up, 0x4C00 + 255, 9, bytes1 [1]), (manager (conf up [(0x4CFF, 4, 1)]), 0x4C00 + 255, 15, leBytes 4 7)] = true ∧
    (let s : State := manager { up with loom := { events := [(63, { st := 1 })] } }
     goes s hostEnv (0x3600 + 63) 9 (bytes1 [0]) = true ∧ (getEvent s 63).st = 1) := by decide +kernel

/-- A card of two words, GRANT and OFF, at 0xFE. -/
def aCard : List Byte := leBytes 2 0xFE ++ leBytes 2 2 ++ leBytes 4 (0x0A * 2 ^ 26) ++ leBytes 4 (0x0D * 2 ^ 26)

theorem witness_ChannelCommandsAndClears :
    allGo [(manager up, 0x5307, 2, bytes1 [0, 0, 0, 0]), (manager up, 0x720F, 2, bytes1 [0, 0, 0, 0]), (manager up, 0x720F, 1, bytes1 [0, 0, 0, 0]),
      (manager (conf up [(0x611F, 1, 2)]), 0x621F, 1, bytes1 [0, 0, 0, 0]), (manager up, 0x8103, 1, bytes1 [0, 0, 0, 0]), (manager up, 0x720F, 21, bytes1 [1]),
      (manager up, 0x621F, 9, bytes1 [1]), (manager up, 0x810B, 8, bytes1 [1])] = true ∧
    ecOfPwm up 31 = none ∧ (getBank up (vlvBank 15)).cutBy.contains 15 = false ∧
    (let s := manager { up with io := { linkUp := true, fwd := 2, refreshSince := some 5, lastRefresh := 1000000000000 } }
     goes s hostEnv 0x6000 2 (bytes1 [1]) = true ∧ s.io.fwd = 2) ∧
    (let s := manager { up with fans := [(11, { st := 7 })] }
     goes s hostEnv 0x810B 8 (bytes1 [1]) = true ∧ (getFan (writing s hostEnv 0x810B 8 (bytes1 [1])) 11).st = 7) ∧
    cardImageCode up 3 aCard = 0 := by decide +kernel

theorem witness_DisplaySafetyAndPairWrites :
    allGo [(manager up, 0x9010, 1, List.replicate 72 1), (manager up, 0x9010, 7, List.replicate 12 1), (manager up, 0x9000, 22, bytes1 [1]),
      (manager up, 0xE010, 1, leBytes 2 339 ++ leBytes 2 1), (manager up, 0xA040, 4, bytes1 [1])] = true ∧
    allGo [(manager up, 0xB000, 4, bytes1 [1]), (manager up, 0xB000, 5, bytes1 [1]), (manager up, 0xB000, 9, bytes1 [1]), (manager up, 0xB010, 1, bytes1 [1]),
      (manager up, 0xB010, 2, List.replicate 64 1), (manager up, 0xB010, 4, List.replicate 64 1)] = true ∧
    (let s := manager (onPair { role := 1, linkUp := true, peer := some bySide })
     goes s hostEnv 0xC002 1 (bytes1 [1]) = true) ∧
    goes (manager (onPair { role := 2 })) hostEnv 0xC002 2 (bytes1 [1]) = true ∧
    (∀ h ∈ outEntries, (getSafe up (safeChan h)).active = false) ∧ (∀ p ∈ up.engine.loops, p.2.stopped = false) ∧
    (manager { up with safety := { st := 2 } }).safety.st ≠ 3 := by decide +kernel

theorem witness_CanAndSnapshotWrites :
    (let s := manager (onCan { st := 2 } [(0x1101, 1, 1)])
     allGo [(s, 0x1121, 1, leBytes 4 0x123 ++ bytes1 [1, 0, 0, 0, 7]), (s, 0x1121, 3, leBytes 2 1), (s, 0x127F, 7, bytes1 [1]),
       (s, 0x1101, 33, bytes1 [1]), (s, 0xD000, 1, bytes1 [15]), (s, 0xD01F, 3, leBytes 8 (2 ^ 40)), (s, 0xD01F, 4, bytes1 [1])] = true ∧
       (getCan s 1).onBus ≠ 2 ∧ (getSlot s 15).st = 0 ∧ warpNow s < 2 ^ 40 ∧ ∀ k < 16, (getSlot s k).st ≠ 2) ∧
    (let s := manager (onCan { st := 4 } [(0x1101, 6, 1)])
     goes s hostEnv 0x1111 6 (bytes1 [1]) = true) ∧
    (let s := manager (onCan { st := 8 } [(0x1101, 1, 1)])
     goes s hostEnv 0x1101 33 (bytes1 [0]) = true ∧ (getCan s 1).st = 8) ∧
    (let s := manager (onSnap { slots := [(15, { st := 3 })] } [])
     goes s hostEnv 0xD01F 4 (bytes1 [1]) = true ∧ (getSlot s 15).st = 3) := by decide +kernel

/-! ### Power and start-up -/

def at_ (p : Phase) : State := { State.reset with clk := 1000000000000, power := { phase := p } }

theorem witness_ResetsAndThePowerSupply :
    (State.reset.power.resetN = true ∧ State.reset.power.phase = .reset ∧ (at_ .done).power.phase = .done) ∧
    (let s : State := { up with power := { phase := .released, resetN := false, resetLowAt := some 5 } }
     s.power.resetN = false ∧ s.power.resetLowAt = some 5 ∧ after 5 (usecs 10) ≤ s.clk ∧ s.power.phase ≠ .saving ∧ s.power.phase ≠ .reset) ∧
    up.power.resetLowAt = none ∧ (at_ .memTest).power.measuring = none ∧
    (let s : State := { up with power := { phase := .memTest, measuring := some 5 } }
     s.power.measuring = some 5 ∧ after 5 (msecs 2) ≤ s.clk) ∧
    (let s : State := { up with power := { phase := .held, holdReason := 2, flags := Flag.set 0 3 true, vin18Since := some 5 } }
     Flag.get s.power.flags 3 = true ∧ isUp s = true ∧ s.power.vin18Since = some 5 ∧ after 5 (secs 10) ≤ s.clk ∧
       s.power.phase = .held ∧ s.power.holdReason = 2 ∧ s.power.stepFailed = false) := by decide +kernel

theorem witness_StartUpStepByStep :
    onTrial (at_ .boot) = false ∧ onTrial { at_ .boot with mram := { slotState := [3, 1], trialTried := true } } = true ∧
    slotVerifies (at_ .signature) 0 = true ∧ slotVerifies (at_ .signature) 1 = false ∧
    (pickMap (at_ .repairMap).mram.maps).isSome = true ∧
    topMaps ({ at_ .repairMap with mram := { maps := [] } } : State).mram.maps = [] ∧
    (let s : State := { up with power := { phase := .memTest, holdupState := 1 } }
     s.mem.repairState ≠ 2 ∧ s.power.holdupState ≠ 2 ∧ s.power.stepFailed = false) ∧
    saveWaits { at_ .config with mram := { save := { present := true, complete := true, consumed := false } } } = true ∧
    (let s := at_ .warp
     after s.power.releaseClk (msecs (if s.power.fallback then 262 else 230)) ≤ s.clk) ∧
    (let s : State := { up with power := { phase := .warp, stepDone := true } }
     s.power.stepDone = true ∧ s.power.stepFailed = false ∧ s.pair.en = false ∧ holdReasonOf s = 0) ∧
    holdReasonOf { up with power := { phase := .warp, stepDone := true, flags := Flag.set 0 3 true } } ≠ 0 ∧
    (let s := onPair { deciding := some 5 }
     s.pair.role = 0 ∧ s.pair.deciding ≠ none) ∧ (at_ .operational).pair.en = false := by decide +kernel

theorem witness_TheSaveIsWritten :
    (let s : State := { up with power := { phase := .released, vinRun := 2 } }
     2 ≤ s.power.vinRun ∧ s.power.phase = .released) ∧ up.power.vinRun < 2 ∧ (at_ .saving).power.phase = .saving ∧
    (at_ .saving).mram.save.tiers ≠ [0, 1, 2, 3, 4] ∧ (at_ .recovery).power.phase ≠ .saving := by decide +kernel

theorem witness_ASagDuringStartUp :
    (let s : State := { up with power := { phase := .warp, vinRun := 2, holdupState := 1 } }
     2 ≤ s.power.vinRun ∧ s.power.phase = .warp ∧ s.power.holdupState < 2) ∧ (at_ .config).power.phase = .config ∧
    State.reset.power.phase = .reset ∧ State.reset.power.resetN = true := by decide +kernel

/-! ### The queue and the whole machine -/

theorem witness_EveryCommandCompletesAndTheQueueDrains :
    ({ up with pending := [.logWrite, .hostPortReset] } : State).pending = .logWrite :: [.hostPortReset] := by rfl

theorem witness_CommandsWriteOnlyTheirBlocks : ∃ t, exec .hostPortReset up = .next t := ⟨_, rfl⟩

theorem witness_StepsKeepTheMachineSound :
    Sound { up with pending := [.hostPortReset] } ∧ ∃ t, step { up with pending := [.hostPortReset] } = .next t := by
  refine ⟨⟨?_, ?_, ?_, ?_, ?_, ?_⟩, _, rfl⟩
  · exact (rfl : Table.wf sramDefault [] = true)
  · exact (rfl : Table.wf (blank 0#32) [] = true)
  all_goals exact Nat.zero_le _

/-! ### Well-formed commands -/

/-- Each check of WellFormed refuses a term that breaks it and nothing else. -/
theorem test_illFormed :
    let e := hostEnv
    let f : CanFrame := ⟨0x800, false, false, false, false, false, [], 0⟩
    (Sess.can 2 0).wf = false ∧ (Sess.can 0 256).wf = false ∧ Env.wf { e with sess := .can 2 0 } = false ∧
    Env.wf { e with tag := 256 } = false ∧ Env.wf { e with prio := 32 } = false ∧ Env.wf { e with dest := 256 } = false ∧
    f.wf = false ∧ CanFrame.wf { f with ide := true, id := 2 ^ 29 } = false ∧ CanFrame.wf { f with id := 1, len := 65 } = false ∧
    CanFrame.wf { f with id := 1, data := List.replicate 65 0 } = false ∧ (CalEvent.circuit 32).wf = false ∧ (CalEvent.user 64).wf = false ∧
    (∀ i ∈ ([.read e 65536 1 0, .read e 1 256 0, .read e 1 1 256, .write e 65536 1 [], .write e 1 256 [], .segmentInitRead e 256 [],
      .segmentInitWrite e 256 1 [], .segmentInitWrite e 1 (2 ^ 32) [], .segmentData e (2 ^ 32) 1 [], .segmentData e 0 65536 [],
      .bulkRead e 65536 0, .bulkRead e 4 (2 ^ 32), .bulkWrite e 65536 0 [], .bulkWrite e 4 (2 ^ 32) [], .event e 256] : List Instr),
      i.wf = false) ∧
    (∀ i ∈ ([.alignResponse (2 ^ 64), .transitionTimeout 32, .arm e 64 [], .sampleTimer 256, .laneTest 3 true, .prestartTimeout 64,
      .mtExpiry 8, .conversionDue 32, .continuousSlot 3200, .shuntTrip 24, .aoStatusClear 8, .pulseExpiry 16, .budgetGranted 4,
      .cardImage e 4 [], .ioFilterExpiry 32, .groupReinstate 4, .pwmCentre 4, .tableRead 12, .ecTachLoss 8 0, .row e 8 [],
      .correctedWriteback .sram (2 ^ 32), .heddleRewrite 340, .dieRestart 2, .checkpoint 4 true true, .taken 2 true,
      .peerHeartbeat 240 1, .peerHeartbeat 1 256, .record e 2 0, .record e 0 64, .canTxComplete 2, .canTriggerFrame 0 256 1 [],
      .canTriggerFrame 0 1 256 [], .armAtReached 16, .configResolution 3 0 0] : List Instr), i.wf = false) ∧
    Env.wf e = true ∧ CanFrame.wf { f with id := 0x7FF } = true ∧ (Instr.segmentTimeout (.can 1 255)).wf = true := by decide +kernel

/-! ### Small steps -/

/-- No row of the table has bits: no word spells a command. -/
theorem test_noWordSpellsACommand : decodeTableWord 32 0x12345678 = none ∧ (up.withFetchWord 32 7 = up) := by decide +kernel

/-- An idle step is one engine clock. -/
theorem test_queueIsFirstInFirstOut :
    (match step { up with pending := [.hostPortReset, .aliveTimer] } with
     | .next t => t.pending == [.aliveTimer] && t.clk == up.clk
     | _ => false) = true := by decide +kernel

/-- At reset the digital outputs are low, FAULT_N and SELVEDGE among them, and the converters' outputs are off (R410). -/
theorem test_pinsAtReset :
    pinState State.reset .safeA = .low ∧ pinState State.reset .safeB = .low ∧ pinState State.reset .trigOut = .low ∧
    pinState State.reset (.selTx 0) = .hiZ ∧ pinState State.reset (.fan 3) = .hiZ ∧ pinState State.reset (.vlv 15) = .off ∧
    padsOf (.io 31) = [254] ∧ padsOf (.vlv 15) = [185] := by decide +kernel

/-- At 50 Hz a cycle is 8 000 000 engine clocks (R7, R8). -/
theorem test_periods : periodOk 8000000 = true ∧ secs 1 = 50 * 8000000 ∧ after 5 (usecs 10) = 4005 := by decide

/-- 15 October 2025 is 9419 days after 2000-01-01 (the example below R50). -/
theorem test_civilDate : civilOf 9419 = (2025, 10, 15) ∧ daysOf 2025 10 15 = 9419 := by decide

end Sys2Proof.Tests
end

section
/-! PROOFS. The queue of commands (00_scope): what a step does when no command waits. -/

namespace Sys2Proof.Machine

/-- With no command waiting a step is one engine clock (log entry 5). -/
theorem step_of_pending_nil {s : State} (h : s.pending = []) : step s = .next (tick s) := by
  unfold step
  rw [h]

/-- An engine clock writes the clock, Warp and the calendar only (R28, R43). -/
theorem tick_within (s : State) : Within [.clk, .warp, .cal] s (tick s) := by
  intro b hb
  cases b with
  | clk | warp | cal => exact absurd (by decide) hb
  | _ => rfl

@[simp] theorem warpTick_frac (w : Warp) : (warpTick w).frac = min (w.frac + w.inc) (2 ^ 48 - 1) := rfl

/-- Warp's phase falls at no engine clock: it rises by the increment until it stands at the end of the cycle (R28). -/
theorem le_warpTick_frac {w : Warp} (h : w.frac < 2 ^ 48) : w.frac ≤ (warpTick w).frac := by
  rw [warpTick_frac]
  exact le_min (Nat.le_add_right _ _) (Nat.le_sub_one_of_lt h)

/-- Settles O3: the next state is `tick s`, and each clause is a fact about `tick`. -/
theorem anIdleStepIsOneEngineClock : Obligations.AnIdleStepIsOneEngineClock := by
  intro s hpending hfrac
  exact ⟨tick s, step_of_pending_nil hpending, tick_clk s, tick_within s, le_warpTick_frac hfrac,
    warpTick_frac_lt s.warp, warpTick_cycle s.warp⟩

end Sys2Proof.Machine
end

section
/-! PROOFS. The armed sets (03_loom_scheduler, R54–R59, R66, R80): what a sealed set holds, and what its commands do. -/

namespace Sys2Proof.Machine

/-! ### The commands that fit a set (R55, R200) -/

theorem armedLe_iff {a b : ArmedCmd} :
    armedLe a b = true ↔ a.warp < b.warp ∨ a.warp = b.warp ∧ a.heddle ≤ b.heddle := by
  simp [armedLe]

theorem armedLe_trans (a b c : ArmedCmd) (hab : armedLe a b = true) (hbc : armedLe b c = true) : armedLe a c = true := by
  rw [armedLe_iff] at *
  omega

theorem armedLe_total (a b : ArmedCmd) : (armedLe a b || armedLe b a) = true := by
  rw [Bool.or_eq_true, armedLe_iff, armedLe_iff]
  omega

theorem fitSet_sublist (room edges : Nat) (l : List ArmedCmd) : (fitSet room edges l).1.Sublist l := by
  induction room, edges, l using fitSet.induct with
  | case1 => exact .slnil
  | case2 room edges a t _ hfull ih =>
    rw [fitSet, if_pos hfull]
    exact ih.cons a
  | case3 room edges a t _ hfits ih =>
    rw [fitSet, if_neg hfits]
    exact ih.cons_cons a

theorem fitSet_length_le (room edges : Nat) (l : List ArmedCmd) : (fitSet room edges l).1.length ≤ room := by
  induction room, edges, l using fitSet.induct with
  | case1 => exact Nat.zero_le _
  | case2 room edges a t _ hfull ih =>
    rw [fitSet, if_pos hfull]
    exact ih
  | case3 room edges a t _ hfits ih =>
    rw [fitSet, if_neg hfits, List.length_cons]
    have hroom : room ≠ 0 := fun h => hfits (.inl h)
    exact Nat.add_le_of_le_sub (Nat.pos_of_ne_zero hroom) ih

/-- The command's channel is an IO channel: a command of a set lies on an entry from 256 on (R200). -/
def isIoEdge (a : ArmedCmd) : Bool := decide (a.heddle < 288)

theorem fitSet_ioEdges_le (room edges : Nat) (l : List ArmedCmd) :
    ((fitSet room edges l).1.filter isIoEdge).length ≤ edges := by
  induction room, edges, l using fitSet.induct with
  | case1 => exact Nat.zero_le _
  | case2 room edges a t _ hfull ih =>
    rw [fitSet, if_pos hfull]
    exact ih
  | case3 room edges a t isIo hfits ih =>
    rw [fitSet, if_neg hfits]
    dsimp only
    by_cases hio : isIo = true
    · have hedges : edges ≠ 0 := fun h => hfits (.inr ⟨hio, h⟩)
      rw [List.filter_cons_of_pos (p := isIoEdge) hio, List.length_cons]
      exact Nat.add_le_of_le_sub (Nat.pos_of_ne_zero hedges) (ih.trans_eq (if_pos hio))
    · rw [List.filter_cons_of_neg (p := isIoEdge) hio]
      exact ih.trans_eq (if_neg hio)

/-! ### What placing commands leaves of the sealed sets -/

/-- The sealed commands, the cycle of the latest sealed set, and ARM_LOAD: what only a seal and an acting command write. -/
def sealing (s : State) : List ArmedCmd × Nat × Nat := (s.loom.sealed_, s.loom.sealedCycle, s.loom.armLoad)

@[simp] theorem sealing_modCirc (s : State) (c : Nat) (f : Circuit → Circuit) : sealing (modCirc s c f) = sealing s := rfl

@[simp] theorem sealing_modEvent (s : State) (e : Nat) (f : UEvent → UEvent) : sealing (modEvent s e f) = sealing s := rfl

@[simp] theorem sealing_placeNext (s : State) (c : Nat) : sealing (placeNext s c) = sealing s := rfl

/-- What no step of a round changes, the round leaves. -/
theorem forAll_leaves {α β : Type} (g : State → β) {f : State → α → State} (hf : ∀ s x, g (f s x) = g s) (l : List α)
    (s : State) : g (forAll l f s) = g s := by
  unfold forAll
  induction l generalizing s with
  | nil => rfl
  | cons x l ih => exact (ih (f s x)).trans (hf s x)

@[simp] theorem sealing_bankSettle (b fuel : Nat) (s : State) : sealing (bankSettle b fuel s) = sealing s := by
  induction fuel generalizing s with
  | zero => rfl
  | succ fuel ih =>
    rw [bankSettle]
    split
    · rfl
    · rw [ih, sealing_placeNext]

@[simp] theorem sealing_circPlace (s : State) (c from_ : Nat) (b : Bool) : sealing (circPlace s c from_ b) = sealing s := by
  simp only [circPlace, apply_ite sealing, sealing_bankSettle, sealing_modCirc, ite_self]
  rfl

@[simp] theorem sealing_placeDue (s : State) (from_ : Nat) : sealing (placeDue s from_) = sealing s := by
  refine forAll_leaves sealing (fun s c => ?_) _ s
  split
  · split
    · exact sealing_circPlace _ _ _ _
    · rfl
  · rfl

@[simp] theorem sealing_unplaceCycle (s : State) (n : Nat) : sealing (unplaceCycle s n) = sealing s := by
  refine (forAll_leaves sealing (fun s a => ?_) _ _).trans rfl
  split <;> rfl

@[simp] theorem sealing_moveOver (from_ : Nat) (s : State) (a : ArmedCmd) : sealing (moveOver from_ s a) = sealing s := by
  unfold moveOver
  split
  · exact (sealing_circPlace _ _ _ _).trans rfl
  · exact (sealing_circPlace _ _ _ _).trans rfl
  · rfl

@[simp] theorem sealing_sealUser (s : State) (a : ArmedCmd) : sealing (sealUser s a) = sealing s := by
  unfold sealUser
  split <;> rfl

/-! ### Sealing a set (R54, R66) -/

/-- The commands that the seal of cycle `n` puts into its set, in their order. -/
def newlySealed (s : State) (n : Nat) : List ArmedCmd :=
  let p := placeDue s (n * 65536)
  (fitSet 256 64 (((p.loom.building.filter fun a => decide (a.warp / 65536 ≤ n)) ++ userCmds p n).mergeSort armedLe)).1

theorem newlySealed_pairwise (s : State) (n : Nat) : (newlySealed s n).Pairwise fun a b => armedLe a b = true :=
  (List.pairwise_mergeSort armedLe_trans armedLe_total _).sublist (fitSet_sublist 256 64 _)

theorem sealing_sealSet (s : State) (n : Nat) :
    sealing (sealSet s n) = (s.loom.sealed_ ++ newlySealed s n, n, (newlySealed s n).length) := by
  have hplaced : (placeDue s (n * 65536)).loom.sealed_ = s.loom.sealed_ :=
    (Prod.mk.inj (sealing_placeDue s (n * 65536))).1
  unfold sealSet
  rw [forAll_leaves sealing (sealing_moveOver _), forAll_leaves sealing sealing_sealUser]
  exact congrArg (fun l => (l ++ newlySealed s n, n, (newlySealed s n).length)) hplaced

theorem sealing_sealNone (s : State) (n : Nat) : sealing (sealNone s n) = (s.loom.sealed_, n, 0) := by
  have hplaced : sealing (placeDue (unplaceCycle s n) ((n + 1) * 65536)) = sealing s := by simp
  exact congrArg (fun x => (x.1, n, 0)) hplaced

/-- A seal past ARM_CLOSE appends a list to the sealed commands and sets ARM_LOAD to its length: none at a realignment. -/
theorem armedSetSeal_appends {s : State} (hclose : Cfg.loomArmClose s ≤ warpNow s % 65536)
    (honce : s.loom.sealedCycle < s.warp.cycle + 1) {new : List ArmedCmd}
    (hnew : new = if s.warp.realignNext then [] else newlySealed s (s.warp.cycle + 1)) :
    ∃ t, exec .armedSetSeal s = .next t ∧ sealing t = (s.loom.sealed_ ++ new, s.warp.cycle + 1, new.length) := by
  subst hnew
  rw [exec_armedSetSeal, execArmedSetSeal, if_pos ⟨hclose, honce⟩]
  refine ⟨_, rfl, ?_⟩
  split
  · rw [sealing_sealNone, List.append_nil, List.length_nil]
  · exact sealing_sealSet _ _

/-! ### Commands act (R18, R56, R57, R59) -/

/-- Driving an output writes nothing of Loom's. -/
@[simp] theorem loomDrive_loom (s : State) (h word : Nat) : (loomDrive s h word).loom = s.loom :=
  loomDrive_within (bs := [.free, .valve, .io, .dict, .mem]) s h word (Within.refl _ s) (by decide) (by decide) (by decide)
    (by decide) (by decide) .loom (by decide)

@[simp] theorem getCirc_loomDrive (s : State) (h word c : Nat) : getCirc (loomDrive s h word) c = getCirc s c := by
  rw [getCirc, loomDrive_loom, getCirc]

@[simp] theorem getEvent_loomDrive (s : State) (h word e : Nat) : getEvent (loomDrive s h word) e = getEvent s e := by
  rw [getEvent, loomDrive_loom, getEvent]

/-- In `t` the transition of circuit `c` that command `a` starts in `s` runs, closing or opening (R59). -/
def TransRuns (s t : State) (c : Nat) (close : Bool) (a : ArmedCmd) : Prop :=
  (getCirc t c).st = (if close then 1 else 3) ∧ (getCirc t c).due = none ∧ (getCirc t c).placed = false ∧
    OthersKept getCirc s t c ∧
    ∃ tr, (getCirc t c).trans = some tr ∧ tr.close = close ∧ tr.cmdWarp = a.warp ∧ tr.zero = a.zero ∧
      tr.targeted = a.targeted ∧ tr.deadline = s.clk + transLimit s c

theorem transStart_runs (s : State) (c : Nat) (close : Bool) (a : ArmedCmd) :
    TransRuns s (transStart s c close a) c close a := by
  by_cases h : (close && a.targeted) = true
  · simp only [transStart, if_pos h, setLearn]
    simp +contextual [TransRuns, OthersKept]
  · simp only [transStart, if_neg h]
    simp +contextual [TransRuns, OthersKept]

theorem transStart_polarity (s : State) (c : Nat) {a : ArmedCmd} (ha : a.targeted = true) :
    (getCirc (transStart s c true a) c).lrn.map (fun l => l.polarity) = some (some a.positive) := by
  simp [transStart, setLearn, ha]

@[simp] theorem transStart_sealed (s : State) (c : Nat) (close : Bool) (a : ArmedCmd) :
    (transStart s c close a).loom.sealed_ = s.loom.sealed_ := by
  simp only [transStart, setLearn]
  split_ifs <;> rfl

theorem circCmd_of_owner {s : State} {c : Nat} {a : ArmedCmd} (close : Bool) (h : ownerCircuit s a.heddle = some c) :
    circCmd s c close a = loomDrive (transStart s c close a) a.heddle (if close then 0xFFFFFFFF else 0) := if_pos h

theorem circCmd_of_not_owner {s : State} {c : Nat} {a : ArmedCmd} (close : Bool) (h : ownerCircuit s a.heddle ≠ some c) :
    circCmd s c close a = modCirc s c fun r => { r with placed := false } := if_neg h

theorem circCmd_runs {s : State} {c : Nat} {a : ArmedCmd} (close : Bool) (h : ownerCircuit s a.heddle = some c) :
    TransRuns s (circCmd s c close a) c close a := by
  rw [circCmd_of_owner close h]
  simpa [TransRuns, OthersKept] using transStart_runs s c close a

theorem circCmd_polarity {s : State} {c : Nat} {a : ArmedCmd} (ha : a.targeted = true)
    (h : ownerCircuit s a.heddle = some c) :
    (getCirc (circCmd s c true a) c).lrn.map (fun l => l.polarity) = some (some a.positive) := by
  rw [circCmd_of_owner true h, getCirc_loomDrive]
  exact transStart_polarity s c ha

theorem circCmd_withdraws {s : State} {c : Nat} {a : ArmedCmd} (close : Bool) (h : ownerCircuit s a.heddle ≠ some c) :
    (circCmd s c close a).valve = s.valve ∧ (circCmd s c close a).io = s.io ∧
      (getCirc (circCmd s c close a) c).placed = false ∧ (getCirc (circCmd s c close a) c).st = (getCirc s c).st := by
  simp [circCmd_of_not_owner close h]

theorem circCmd_sealed (s : State) (c : Nat) (close : Bool) (a : ArmedCmd) :
    (circCmd s c close a).loom.sealed_ = s.loom.sealed_ := by
  by_cases h : ownerCircuit s a.heddle = some c
  · simp [circCmd_of_owner close h]
  · simp [circCmd_of_not_owner close h]

theorem userAct_sealed (s : State) (e : Nat) (a : ArmedCmd) : (userAct s e a).loom.sealed_ = s.loom.sealed_ := by
  unfold userAct
  dsimp only
  split
  · rw [loomDrive_loom]
    rfl
  · rfl

theorem userAct_ends (s : State) (e : Nat) (a : ArmedCmd) :
    (getEvent (userAct s e a) e).st = if (getEvent s e).late then 3 else 2 := by
  have hend : (getEvent (eventEnd s e (getEvent s e).late) e).st = if (getEvent s e).late then 3 else 2 := by simp [eventEnd]
  unfold userAct
  dsimp only
  split
  · rw [getEvent_loomDrive]
    exact hend
  · exact hend

/-- The kind of a circuit's closing or opening command. -/
def circKind (close : Bool) (c : Nat) : ArmKind := if close then .close c else .open_ c

@[simp] theorem circKind_true (c : Nat) : circKind true c = .close c := rfl

@[simp] theorem circKind_false (c : Nat) : circKind false c = .open_ c := rfl

@[simp] theorem circKind_eq_close_iff (close : Bool) (c d : Nat) : circKind close c = .close d ↔ close = true ∧ c = d := by
  cases close <;> simp

@[simp] theorem circKind_eq_open_iff (close : Bool) (c d : Nat) : circKind close c = .open_ d ↔ close = false ∧ c = d := by
  cases close <;> simp

@[simp] theorem circKind_ne_user (close : Bool) (c e : Nat) : circKind close c ≠ .user e := by
  cases close <;> simp

/-- A command of an armed set is a circuit's or a user event's. -/
theorem armKind_cases (k : ArmKind) : (∃ close c, k = circKind close c) ∨ ∃ e, k = .user e :=
  match k with
  | .close c => .inl ⟨true, c, rfl⟩
  | .open_ c => .inl ⟨false, c, rfl⟩
  | .user e => .inr ⟨e, rfl⟩

/-- The state with `rest` as its sealed commands. -/
def withSealed (s : State) (rest : List ArmedCmd) : State := { s with loom := { s.loom with sealed_ := rest } }

section
variable {s : State} {a : ArmedCmd} {rest : List ArmedCmd} (hs : s.loom.sealed_ = a :: rest) (hdue : a.warp ≤ warpNow s)
include hs hdue

theorem exec_armedCommand_circuit {c : Nat} {close : Bool} (hk : a.kind = circKind close c) :
    exec .armedCommand s = .next (circCmd (withSealed s rest) c close a) := by
  rw [exec_armedCommand, execArmedCommand]
  cases close <;> simp only [hs, if_pos hdue, hk, withSealed, circKind_true, circKind_false]

theorem exec_armedCommand_user {e : Nat} (hk : a.kind = .user e) :
    exec .armedCommand s = .next (userAct (withSealed s rest) e a) := by
  rw [exec_armedCommand, execArmedCommand]
  simp only [hs, if_pos hdue, hk, withSealed]

end

/-- Settles O10: a seal by what `fitSet` takes from the sorted commands, an acting command by its kind. -/
theorem armedSetsAndTheirCommands : Obligations.ArmedSetsAndTheirCommands := by
  unfold Obligations.ArmedSetsAndTheirCommands
  constructor
  · intro s hclose honce
    obtain ⟨t, ht, hseal⟩ := armedSetSeal_appends hclose honce rfl
    simp only [sealing, Prod.mk.injEq] at hseal
    obtain ⟨hsealed, hcycle, hload⟩ := hseal
    refine ⟨t, _, ht, hcycle, hsealed, hload, ?_⟩
    by_cases hre : s.warp.realignNext = true
    · simp [hre]
    · rw [if_neg hre]
      exact ⟨fitSet_length_le .., fitSet_ioEdges_le .., newlySealed_pairwise .., fun h => absurd h hre⟩
  · intro s a rest hs hdue
    obtain ⟨close, c₀, hk⟩ | ⟨e₀, hk⟩ := armKind_cases a.kind
    · have hc : ∀ c, a.kind = .close c ∨ a.kind = .open_ c → c₀ = c := by
        rintro c (h | h) <;> exact (by simpa [hk] using h : _ ∧ c₀ = c).2
      refine ⟨_, exec_armedCommand_circuit hs hdue hk, circCmd_sealed .., ?_, ?_, ?_, ?_⟩
      · intro c h hown
        obtain rfl := hc c h
        have hruns : TransRuns s _ c₀ close a := circCmd_runs (s := withSealed s rest) close hown
        simpa [TransRuns, hk] using hruns
      · intro c h ha hown
        obtain ⟨rfl, rfl⟩ : close = true ∧ c₀ = c := by simpa [hk] using h
        exact circCmd_polarity ha hown
      · intro c h hown
        obtain rfl := hc c h
        exact circCmd_withdraws (s := withSealed s rest) close hown
      · intro e h
        exact absurd (hk.symm.trans h) (circKind_ne_user close c₀ e)
    · refine ⟨_, exec_armedCommand_user hs hdue hk, userAct_sealed .., ?_⟩
      simp only [hk, reduceCtorEq, false_or, false_implies, implies_true, true_and, ArmKind.user.injEq]
      rintro e rfl
      exact userAct_ends ..

end Sys2Proof.Machine
end

section
/-! PROOFS. Warp (02_warp_timebase, R26–R38): what a mains zero makes of the lock state. -/

namespace Sys2Proof.Machine

/-! ### Mains zeros (R31, R33) -/

/-- The lock state of the running cycle, and what the latest zero brought: amplitude, error and instant. -/
def zeroNotes (w : Warp) : WarpState × Nat × Int × Nat := (w.ws, w.ampl, w.phaseErr, w.zeroClk)

/-- Warp as a zero with this amplitude and error leaves it before the lock state is judged. -/
def zeroSeen (s : State) (ampl : Nat) (err : Int) : Warp := { s.warp with ampl := ampl, phaseErr := err, zeroClk := s.clk }

/-- The period of a zero is measured when it lies within 45 to 65 Hz (R27). -/
def zeroMeasured (w : Warp) (period : Nat) : Warp :=
  if periodOk period then { w with period := period, freq := mainsFreq period } else w

/-- A zero in SYNTHETIC: one of sufficient amplitude leads to ACQUIRING. -/
def zeroSynthetic (w : Warp) (period : Nat) (amplOk : Bool) : Warp :=
  if amplOk then { zeroMeasured w period with target := some .acquiring, qual := 0, lastPeriod := 0 } else w

/-- Warp after a zero, by the lock state of the running cycle. -/
def zeroJudged (s : State) (period ampl : Nat) (err : Int) : Warp :=
  let amplOk := decide (Cfg.warpMinAmpl s ≤ ampl)
  let far := decide (Cfg.warpStepThreshold s < err.natAbs)
  let w := zeroSeen s ampl err
  match s.warp.ws with
  | .synthetic => zeroSynthetic w period amplOk
  | .acquiring => zeroAcquiring (zeroMeasured w period) period amplOk
  | .locked => zeroLocked (zeroMeasured w period) period amplOk far
  | .holdover => zeroHoldover w (Cfg.warpHoldoverCycles s) amplOk far

/-- While REF_STATE is READY a zero is judged (R140). -/
theorem exec_mainsZero_of_ready {s : State} (href : s.meas.refState = 2) (period ampl : Nat) (err : Int) :
    exec (.mainsZero period ampl err) s = .next { s with warp := zeroJudged s period ampl err } := by
  rw [exec_mainsZero, execMainsZero]
  simp only [if_pos href]
  rfl

@[simp] theorem zeroNotes_zeroMeasured (w : Warp) (period : Nat) : zeroNotes (zeroMeasured w period) = zeroNotes w := by
  unfold zeroMeasured
  split <;> rfl

@[simp] theorem zeroNotes_zeroSynthetic (w : Warp) (period : Nat) (amplOk : Bool) :
    zeroNotes (zeroSynthetic w period amplOk) = zeroNotes w := by
  unfold zeroSynthetic
  split
  · exact zeroNotes_zeroMeasured w period
  · rfl

@[simp] theorem zeroNotes_zeroAcquiring (w : Warp) (period : Nat) (amplOk : Bool) :
    zeroNotes (zeroAcquiring w period amplOk) = zeroNotes w := by
  unfold zeroAcquiring
  split_ifs <;> rfl

@[simp] theorem zeroNotes_zeroLocked (w : Warp) (period : Nat) (amplOk far : Bool) :
    zeroNotes (zeroLocked w period amplOk far) = zeroNotes w := by
  unfold zeroLocked
  split_ifs <;> rfl

@[simp] theorem zeroNotes_zeroHoldover (w : Warp) (limit : Nat) (amplOk far : Bool) :
    zeroNotes (zeroHoldover w limit amplOk far) = zeroNotes w := by
  unfold zeroHoldover
  split_ifs <;> rfl

theorem zeroNotes_zeroJudged (s : State) (period ampl : Nat) (err : Int) :
    zeroNotes (zeroJudged s period ampl err) = (s.warp.ws, ampl, err, s.clk) := by
  have hseen : zeroNotes (zeroSeen s ampl err) = (s.warp.ws, ampl, err, s.clk) := rfl
  unfold zeroJudged
  dsimp only
  split <;> simp [hseen]

section
variable (s : State) (ampl : Nat) (err : Int)

@[simp] theorem zeroSeen_lastPeriod : (zeroSeen s ampl err).lastPeriod = s.warp.lastPeriod := rfl
@[simp] theorem zeroSeen_qual : (zeroSeen s ampl err).qual = s.warp.qual := rfl
@[simp] theorem zeroSeen_realignNext : (zeroSeen s ampl err).realignNext = s.warp.realignNext := rfl
@[simp] theorem zeroSeen_realigned : (zeroSeen s ampl err).realigned = s.warp.realigned := rfl
@[simp] theorem zeroSeen_stepRun : (zeroSeen s ampl err).stepRun = s.warp.stepRun := rfl
@[simp] theorem zeroSeen_target : (zeroSeen s ampl err).target = s.warp.target := rfl

end

section
variable (w : Warp) (period : Nat)

@[simp] theorem zeroMeasured_lastPeriod : (zeroMeasured w period).lastPeriod = w.lastPeriod := by
  unfold zeroMeasured
  split <;> rfl

@[simp] theorem zeroMeasured_qual : (zeroMeasured w period).qual = w.qual := by
  unfold zeroMeasured
  split <;> rfl

@[simp] theorem zeroMeasured_realignNext : (zeroMeasured w period).realignNext = w.realignNext := by
  unfold zeroMeasured
  split <;> rfl

@[simp] theorem zeroMeasured_realigned : (zeroMeasured w period).realigned = w.realigned := by
  unfold zeroMeasured
  split <;> rfl

@[simp] theorem zeroMeasured_stepRun : (zeroMeasured w period).stepRun = w.stepRun := by
  unfold zeroMeasured
  split <;> rfl

end

/-- In ACQUIRING a zero qualifies, the eighth in a row asking for the realignment, or SYNTHETIC follows. -/
theorem zeroAcquiring_judges {w : Warp} (hnext : w.realignNext = false) (hnow : w.realigned = false) (period : Nat)
    (amplOk : Bool) :
    let t := zeroAcquiring w period amplOk
    if amplOk = true ∧ periodOk period = true ∧ periodsNear w.lastPeriod period = true then
      t.qual = w.qual + 1 ∧ (t.realignNext = true ↔ 8 ≤ w.qual + 1)
    else t.target = some .synthetic ∧ t.qual = 0 := by
  by_cases hq : amplOk = true ∧ periodOk period = true ∧ periodsNear w.lastPeriod period = true
  · simp [zeroAcquiring, hnext, hnow, hq]
  · have hfail : (amplOk && periodOk period && periodsNear w.lastPeriod period) = false := by
      simpa [Bool.and_eq_true, and_assoc] using hq
    simp [zeroAcquiring, hnext, hnow, hq, hfail]

/-- In LOCKED a zero below MIN_AMPL or outside 45 to 65 Hz leads to HOLDOVER. -/
theorem zeroLocked_leaves (w : Warp) {period : Nat} {amplOk : Bool} (far : Bool)
    (hbad : amplOk = false ∨ periodOk period = false) :
    (zeroLocked w period amplOk far).target = some .holdover := by
  obtain h | h := hbad <;> simp [zeroLocked, h]

/-- In LOCKED the second error in a row beyond STEP_THRESHOLD asks for a realignment (R33). -/
theorem zeroLocked_realigns {w : Warp} {period : Nat} (hok : periodOk period = true) (hrun : w.stepRun = 1) :
    (zeroLocked w period true true).realignNext = true := by
  simp [zeroLocked, hok, hrun]

section
variable {w : Warp} {limit : Nat} (hlimit : w.holdCycles < limit) (htarget : w.target ≠ some .synthetic)
include hlimit htarget

theorem zeroHoldover_far : (zeroHoldover w limit true true).target = some .acquiring := by
  simp [zeroHoldover, Nat.not_le.mpr hlimit, htarget]

theorem zeroHoldover_near (hgood : 1 ≤ w.goodZeros) : (zeroHoldover w limit true false).target = some .locked := by
  simp [zeroHoldover, Nat.not_le.mpr hlimit, htarget, hgood]

end

/-- Zeros that return after HOLDOVER_CYCLES decide nothing. -/
theorem zeroHoldover_late {w : Warp} {limit : Nat} (hlimit : limit ≤ w.holdCycles) (amplOk far : Bool) :
    zeroHoldover w limit amplOk far = w := by
  simp [zeroHoldover, hlimit]

/-- Settles O7: a zero is judged by the lock state of the running cycle, one lemma for each. -/
theorem mainsZeroDecidesTheLockState : Obligations.MainsZeroDecidesTheLockState := by
  unfold Obligations.MainsZeroDecidesTheLockState
  intro s period ampl err href
  obtain ⟨hws, hampl, herr, hclk⟩ := by
    simpa only [zeroNotes, Prod.mk.injEq] using zeroNotes_zeroJudged s period ampl err
  refine ⟨_, exec_mainsZero_of_ready href period ampl err, hws, hampl, herr, hclk, ?_, ?_, ?_, ?_, ?_, ?_, ?_⟩
  all_goals intro h; simp only [zeroJudged, h]
  · intro hok
    simp [zeroSynthetic, hok]
  · intro hlow
    simp [zeroSynthetic, Nat.not_le.mpr hlow]
  · intro hnext hnow
    simpa using zeroAcquiring_judges (w := zeroMeasured (zeroSeen s ampl err) period) (by simpa using hnext)
      (by simpa using hnow) period (decide (Cfg.warpMinAmpl s ≤ ampl))
  · intro hbad
    exact zeroLocked_leaves _ _ (hbad.imp_left (by simp))
  · intro hok hper hfar hrun
    simp only [hok, hfar, decide_true]
    exact zeroLocked_realigns hper (by simpa using hrun)
  · intro hlimit htarget hok
    refine ⟨fun hfar => ?_, fun hnear hgood => ?_⟩
    · simp only [hok, hfar, decide_true]
      exact zeroHoldover_far hlimit htarget
    · simp only [hok, Nat.not_lt.mpr hnear, decide_true, decide_false]
      exact zeroHoldover_near hlimit htarget hgood
  · intro hlimit
    rw [zeroHoldover_late (w := zeroSeen s ampl err) hlimit, zeroSeen_target]

end Sys2Proof.Machine
end

section
/-! PROOFS. Warp (02_warp_timebase, R26–R37): hold-over, the start of a cycle, and the alignment of the cycle count. -/

namespace Sys2Proof.Machine

/-! ### Missing zeros and hold-over (R31) -/

theorem exec_zeroMissing_of_locked {s : State} (hws : s.warp.ws = .locked) (hmiss : zeroIsMissing s = true) :
    exec .zeroMissing s = .next { s with warp := { s.warp with target := some .holdover, stepRun := 0 } } := by
  rw [exec_zeroMissing, execZeroMissing, if_pos hmiss]
  simp only [hws]

theorem exec_holdoverExpiry_of_expired {s : State} (hws : s.warp.ws = .holdover)
    (hlimit : Cfg.warpHoldoverCycles s ≤ s.warp.holdCycles) :
    exec .holdoverExpiry s = .next { s with warp := { s.warp with target := some .synthetic } } := by
  rw [exec_holdoverExpiry, execHoldoverExpiry, if_pos ⟨hws, hlimit⟩]

/-! ### The start of a cycle (R28, R30) -/

/-- What a cycle start settles of Warp: the lock state, the count, the accumulator, the instants, the alignment, and the
increment that the F-die has. -/
def cycleNotes (s : State) : WarpState × Nat × Nat × Nat × Nat × Nat × Nat :=
  (s.warp.ws, s.warp.cycle, s.warp.frac, s.warp.startClk, s.warp.cycleClocks, s.warp.align, s.warp.incF)

@[simp] theorem logWarp_warp (s : State) (old new : WarpState) : (logWarp s old new).warp = s.warp :=
  logWarp_within (bs := [.snap]) s old new (Within.refl _ s) (by decide) .warp (by decide)

@[simp] theorem taintTransitions_warp (s : State) : (taintTransitions s).warp = s.warp :=
  taintTransitions_within (bs := [.loom]) s (Within.refl _ s) (by decide) .warp (by decide)

@[simp] theorem cycleTimers_warp (s : State) : (cycleTimers s).warp = s.warp :=
  cycleTimers_within (bs := [.meas]) s (Within.refl _ s) (by decide) .warp (by decide)

@[simp] theorem cycleTimers_pair (s : State) : (cycleTimers s).pair = s.pair :=
  cycleTimers_within (bs := [.meas]) s (Within.refl _ s) (by decide) .pair (by decide)

theorem cycleNotes_warpCount (s : State) : cycleNotes (warpCount s) =
    (s.warp.ws, s.warp.cycle + 1, 0, s.clk, s.clk - s.warp.startClk, s.warp.align, s.warp.incF) := by
  unfold warpCount
  dsimp only
  split <;> rfl

@[simp] theorem warpCount_target (s : State) : (warpCount s).warp.target = s.warp.target := by
  unfold warpCount
  dsimp only
  split <;> rfl

@[simp] theorem warpCount_ws (s : State) : (warpCount s).warp.ws = s.warp.ws := congrArg Prod.fst (cycleNotes_warpCount s)

/-- The state decided in the last cycle is entered, and no other of its notes changes (R31). -/
theorem cycleNotes_warpEnter (s : State) :
    cycleNotes (warpEnter s) = (s.warp.target.getD s.warp.ws, (cycleNotes s).2) := by
  unfold warpEnter
  cases htarget : s.warp.target with
  | none => rfl
  | some t =>
    dsimp only
    split
    · next hsame => simp [cycleNotes, hsame]
    · split <;> simp [cycleNotes]

@[simp] theorem cycleNotes_warpSync (s : State) : cycleNotes (warpSync s) = cycleNotes s := by
  have hwarp : (syncDone .warp (takeObj s 0x2001)).warp = s.warp :=
    syncDone_within (bs := [.dict]) .warp _ (takeObj_within s 0x2001 (Within.refl _ s) (by decide)) (by decide) .warp (by decide)
  unfold warpSync
  dsimp only
  split
  · split <;> simp [cycleNotes, hwarp]
  · rfl

@[simp] theorem cycleNotes_warpRealign (s : State) : cycleNotes (warpRealign s).2 = cycleNotes s := by
  simp [cycleNotes, warpRealign]

/-- The length of the new cycle, realigned or not, and the state that gives it. -/
def cycleSpan (s : State) : Nat × State := if s.warp.realignNext then warpRealign s else (plainLength s, s)

@[simp] theorem cycleNotes_cycleSpan (s : State) : cycleNotes (cycleSpan s).2 = cycleNotes s := by
  unfold cycleSpan
  split
  · exact cycleNotes_warpRealign s
  · rfl

@[simp] theorem cycleSpan_io (s : State) : (cycleSpan s).2.io = s.io := by
  unfold cycleSpan
  split
  · exact warpRealign_within (bs := [.warp, .loom]) s (Within.refl _ s) (by decide) (by decide) .io (by decide)
  · rfl

/-- The increment of a cycle of `len` engine clocks (R28). -/
def incOf (len : Nat) : Nat := (2 ^ 48 + max 1 len - 1) / max 1 len

/-- The new length is in force, and the F-die has the increment while its link is up (R15, R30). -/
theorem warpLength_notes (s : State) :
    cycleNotes (warpLength s) = cycleNotes { s with warp := { s.warp with
        incF := if s.io.linkUp then incOf (cycleSpan s).1 else s.warp.incF } } ∧
    (warpLength s).warp.inc = incOf (cycleSpan s).1 ∧ (warpLength s).warp.incD = incOf (cycleSpan s).1 := by
  have hnotes := cycleNotes_cycleSpan s
  simp only [cycleNotes, Prod.mk.injEq] at hnotes
  by_cases hup : s.io.linkUp = true
  · have hlen : warpLength s = { (cycleSpan s).2 with warp := { (cycleSpan s).2.warp with
        inc := incOf (cycleSpan s).1, incD := incOf (cycleSpan s).1, incF := incOf (cycleSpan s).1
        replica := warpFine (cycleSpan s).2, replicaAt := (cycleSpan s).2.clk } } :=
      if_pos ((congrArg FieldIo.linkUp (cycleSpan_io s)).trans hup)
    rw [hlen]
    simp [cycleNotes, hup, hnotes]
  · have hlen : warpLength s = { (cycleSpan s).2 with warp := { (cycleSpan s).2.warp with
        inc := incOf (cycleSpan s).1, incD := incOf (cycleSpan s).1 } } :=
      if_neg (by rw [← cycleSpan_io s] at hup; exact hup)
    rw [hlen]
    simp [cycleNotes, hup, hnotes]

/-- The new cycle before an alignment: counted, its state entered, its settings and its length in force. -/
def cycleBegun (s : State) : State := warpLength (warpSync (warpEnter (warpCount s)))

theorem cycleBegun_within (s : State) : Within [.warp, .cal, .loom, .snap, .dict] s (cycleBegun s) :=
  warpLength_within _ (warpSync_within _ (warpEnter_within _ (warpCount_within _ (Within.refl _ s) (by decide) (by decide))
    (by decide) (by decide) (by decide)) (by decide) (by decide)) (by decide) (by decide)

theorem cycleNotes_cycleBegun (s : State) : cycleNotes (cycleBegun s) =
    (s.warp.target.getD s.warp.ws, s.warp.cycle + 1, 0, s.clk, s.clk - s.warp.startClk, s.warp.align,
      if s.io.linkUp then (cycleBegun s).warp.inc else s.warp.incF) := by
  let r := warpSync (warpEnter (warpCount s))
  have hr : cycleNotes r = (s.warp.target.getD s.warp.ws, s.warp.cycle + 1, 0, s.clk, s.clk - s.warp.startClk, s.warp.align,
      s.warp.incF) := by
    rw [cycleNotes_warpSync, cycleNotes_warpEnter, cycleNotes_warpCount, warpCount_target, warpCount_ws]
  have hio : r.io = s.io :=
    warpSync_within (bs := [.warp, .cal, .loom, .snap, .dict]) _ (warpEnter_within _ (warpCount_within _ (Within.refl _ s)
      (by decide) (by decide)) (by decide) (by decide) (by decide)) (by decide) (by decide) .io (by decide)
  obtain ⟨hnotes, hinc, -⟩ := warpLength_notes r
  simp only [cycleNotes, Prod.mk.injEq] at hr
  rw [cycleBegun, hnotes, hinc]
  simp [cycleNotes, hr, hio]

theorem cycleBegun_incD (s : State) : (cycleBegun s).warp.incD = (cycleBegun s).warp.inc := by
  obtain ⟨-, hinc, hincD⟩ := warpLength_notes (warpSync (warpEnter (warpCount s)))
  exact hincD.trans hinc.symm

/-- A cycle start on a module that is no standby and has an alignment, with no planned switchover asked for. -/
theorem exec_warpCycleStart_of_aligned {s : State} (hreset : s.power.phase ≠ .reset) (hdone : s.power.phase ≠ .done)
    (hfrac : 2 ^ 48 - 1 ≤ s.warp.frac) (hactive : isStandby s = false) (halign : s.warp.align ≠ 0)
    (hasked : s.pair.switchAsked = false) :
    exec .warpCycleStart s = .next (cycleTimers (cycleBegun s)) := by
  have hruns : warpRuns s = true := by simp [warpRuns, hreset, hdone]
  have hpair : (cycleBegun s).pair = s.pair := cycleBegun_within s .pair (by decide)
  have hkeep : warpAlign (cycleBegun s) = cycleBegun s := by
    have hnotes := cycleNotes_cycleBegun s
    simp only [cycleNotes, Prod.mk.injEq] at hnotes
    have : isStandby (cycleBegun s) = false := by rw [isStandby, hpair]; exact hactive
    simp [warpAlign, this, hnotes, halign]
  rw [exec_warpCycleStart, execWarpCycleStart, if_pos ⟨hruns, hfrac⟩]
  change Host.Outcome.next (switchoverCycle (cycleTimers (warpAlign (cycleBegun s)))) = _
  rw [hkeep, switchoverCycle, cycleTimers_pair, hpair]
  simp [hasked]

/-! ### Alignment (R35) -/

theorem alignSend_sent (s : State) : (alignSend s).warp.alignSent = some s.clk :=
  congrArg some (alignSend_within (bs := [.warp, .can]) s (Within.refl _ s) (by decide) (by decide) .clk (by decide))

@[simp] theorem canQueue_warp (s : State) (x : Nat) (it : TxItem) : (canQueue s x it).warp = s.warp :=
  canQueue_within (bs := [.can]) s x it (Within.refl _ s) (by decide) .warp (by decide)

theorem alignSend_align (s : State) : (alignSend s).warp.align = s.warp.align := by
  refine (congrArg Warp.align (forAll_leaves State.warp (fun s x => ?_) _ s) :)
  split
  · exact canQueue_warp ..
  · rfl

theorem exec_alignRetry_of_unanswered {s : State} (hws : s.warp.ws = .locked) (halign : s.warp.align = 0)
    (hnode : alignByNode s = true) (hcount : s.warp.alignCount = none)
    (hrest : ∀ c, s.warp.alignSent = some c → after c (secs 1) ≤ s.clk) :
    exec .alignRetry s = .next (alignSend s) := by
  rw [exec_alignRetry, execAlignRetry]
  cases hsent : s.warp.alignSent with
  | none => simp [hws, halign, hnode, hcount]
  | some c => simp [hws, halign, hnode, hcount, passed, hrest c hsent]

theorem exec_alignResponse_of_timely {s : State} {c : Nat} (hsent : s.warp.alignSent = some c) (halign : s.warp.align = 0)
    (hnode : alignByNode s = true) (hclk : s.clk ≤ after c (msecs 8)) (w : Nat) :
    exec (.alignResponse w) s = .next { s with warp := { s.warp with
      alignSent := none
      alignCount := some ((s.warp.cycle : Int) + 1 + roundDiv ((w : Int) - warpNow s) 65536).toNat } } := by
  rw [exec_alignResponse, execAlignResponse]
  simp only [hsent]
  exact if_pos ⟨hnode, halign, hclk⟩

/-- Settles O8: each command by the equation of its case; a cycle start through `cycleBegun`. -/
theorem warpCyclesAndAlignment : Obligations.WarpCyclesAndAlignment := by
  unfold Obligations.WarpCyclesAndAlignment
  refine ⟨fun s hws hmiss => ?_, fun s hws hlimit => ?_, fun s hreset hdone hfrac hactive halign hasked => ?_,
    fun s hws halign hnode hcount hrest => ?_, fun s c w hsent halign hnode hclk => ?_⟩
  · exact ⟨_, exec_zeroMissing_of_locked hws (decide_eq_true hmiss), rfl, hws⟩
  · exact ⟨_, exec_holdoverExpiry_of_expired hws hlimit, rfl, hws⟩
  · have hnotes := cycleNotes_cycleBegun s
    simp only [cycleNotes, Prod.mk.injEq] at hnotes
    obtain ⟨hws, hcycle, hzero, hstart, hclocks, -, hincF⟩ := hnotes
    refine ⟨_, exec_warpCycleStart_of_aligned hreset hdone hfrac hactive halign hasked, ?_⟩
    rw [cycleTimers_warp]
    refine ⟨hcycle, hzero, hstart, hclocks, hws, cycleBegun_incD s, fun hup => ?_, fun hdown => ?_⟩
    · rw [hincF, if_pos hup]
    · rw [hincF, hdown]
      rfl
  · exact ⟨_, exec_alignRetry_of_unanswered hws halign hnode hcount hrest, alignSend_sent s,
      (alignSend_align s).trans halign⟩
  · exact ⟨_, exec_alignResponse_of_timely hsent halign hnode hclk w, rfl, rfl⟩

end Sys2Proof.Machine
end

section
/-! PROOFS. The calendar (02_warp_timebase, R42–R50; 16_thermal, R367): its daily evaluations and the end of a slew. -/

namespace Sys2Proof.Machine

/-! ### Grid discipline (R44) -/

theorem natAbs_clampInt_le {n : Nat} (v : Int) : (clampInt (-n) n v).natAbs ≤ n := by
  unfold clampInt
  omega

/-- The window of grid discipline moves on by the day that ends. -/
def gridMoved (s : State) : Cal :=
  { s.cal with
    days := lastN 28 (s.cal.days ++ [s.cal.today_]), today_ := {}, gridDay := (utcSec s / 86400).toNat }

/-- Cycles and locked time of the window that the evaluation reads. -/
def gridWindowSums (s : State) : Nat × Nat :=
  gridSums (lastN (Cfg.gridGridWindow s) (lastN 28 (s.cal.days ++ [s.cal.today_])))

/-- The target that the evaluation gives: the last one below 95 % of coverage. -/
def gridTargetNext (s : State) : Int :=
  if decide (95 * (Cfg.gridGridWindow s * 86400 * 65536) ≤ 100 * (gridWindowSums s).2) then
    gridTargetOf (gridWindowSums s).1 (gridWindowSums s).2 (Cfg.warpNominalFreq s)
  else s.cal.gridTarget

theorem gridTargetNext_of_uncovered {s : State}
    (hcover : 100 * (gridWindowSums s).2 < 95 * (Cfg.gridGridWindow s * 86400 * 65536)) :
    gridTargetNext s = s.cal.gridTarget := if_neg (by simpa using hcover)

/-- The calendar with GRID_CORR moved toward the target. -/
def gridCorrected (s : State) : Cal :=
  { gridMoved s with
    gridTarget := gridTargetNext s
    gridCorr := s.cal.gridCorr + clampInt (-50) 50 (gridTargetNext s - s.cal.gridCorr)
    coverage := min 100 (100 * (gridWindowSums s).2 / (Cfg.gridGridWindow s * 86400 * 65536)) }

theorem exec_gridEvaluation_due {s : State} (hset : s.cal.st ≠ 0) (hmidnight : utcSec s % 86400 = 0)
    (hday : s.cal.gridDay ≠ (utcSec s / 86400).toNat) :
    exec .gridEvaluation s = .next { s with
      cal := if Cfg.gridGridDiscEn s then gridCorrected s else { gridMoved s with gridCorr := 0 } } := by
  have hgo : ¬ (s.cal.st = 0 ∨ utcSec s % 86400 ≠ 0 ∨ s.cal.gridDay = (utcSec s / 86400).toNat) := by
    simp [hset, hmidnight, hday]
  rw [exec_gridEvaluation, execGridEvaluation, if_neg hgo]
  dsimp only
  split <;> rfl

/-! ### Astronomical events, crystal compensation and slews (R42, R50, R367) -/

theorem exec_astroComputation_asked {s : State} (hasked : s.cal.astroAsked = true) :
    exec .astroComputation s = .next (astroCompute s) := by
  rw [exec_astroComputation, execAstroComputation]
  exact if_pos (.inl hasked)

theorem astroCompute_of_set {s : State} (hset : s.cal.st ≠ 0) :
    let date := (localSec s / 86400).toNat
    (astroCompute s).cal.today.date = date ∧ (astroCompute s).cal.tomorrow.date = date + 1 ∧
      (astroCompute s).cal.astroAsked = false ∧ (astroCompute s).cal.now = s.cal.now := by
  rw [astroCompute, if_neg hset]
  exact ⟨rfl, rfl, rfl, rfl⟩

theorem exec_crystalCompensation_due {s : State} (hdue : s.therm.nextTemp ≤ s.clk) :
    exec .crystalCompensation s = .next { s with
      cal := { s.cal with tempCorr := tempCorrOf s (getSensor s 0).value }
      therm := { s.therm with nextTemp := after s.clk (secs 1) } } := by
  rw [exec_crystalCompensation, execCrystalCompensation, if_pos (show due s s.therm.nextTemp = true from decide_eq_true hdue)]

theorem exec_slewEnd_of_ended {s : State} (hleft : s.cal.slewLeft = 0) :
    exec .slewEnd s = .next { s with cal := { s.cal with slewAcc := 0 } } := by
  rw [exec_slewEnd, execSlewEnd, if_pos hleft]

/-- Settles O9: each evaluation by the equation of its case; GRID_CORR changes by a value clamped to 50. -/
theorem calendarEvaluations : Obligations.CalendarEvaluations := by
  unfold Obligations.CalendarEvaluations
  refine ⟨fun s hset hmidnight hday => ?_, fun s hset hasked => ?_, fun s hdue => ?_, fun s hleft => ?_⟩
  · refine ⟨_, exec_gridEvaluation_due hset hmidnight hday, ?_⟩
    dsimp only
    cases hen : Cfg.gridGridDiscEn s
    · exact ⟨rfl, rfl, rfl, fun _ => rfl, nofun, nofun⟩
    · refine ⟨rfl, rfl, rfl, nofun, fun _ => ?_, fun _ => gridTargetNext_of_uncovered⟩
      rw [if_pos rfl, gridCorrected, add_sub_cancel_left]
      exact natAbs_clampInt_le (n := 50) _
  · exact ⟨_, exec_astroComputation_asked hasked, astroCompute_of_set hset⟩
  · exact ⟨_, exec_crystalCompensation_due hdue, rfl, rfl, rfl⟩
  · exact ⟨_, exec_slewEnd_of_ended hleft, hleft, rfl, rfl⟩

end Sys2Proof.Machine
end

section
/-! PROOFS. The safety supervisor (17_functional_safety, R375–R382; 02_warp_timebase, R38): the read-back of the outputs, and
what a failure of a channel or of the module does. -/

namespace Sys2Proof.Machine

/-! ### What applying an output and a capture leave -/

@[simp] theorem applyOut_safety (s : State) (h : Nat) : (applyOut s h).safety = s.safety :=
  applyOut_within (bs := [.free, .meas, .valve, .io, .fans, .dict, .mem]) s h (Within.refl _ s) (by decide) (by decide)
    (by decide) (by decide) (by decide) (by decide) (by decide) .safety (by decide)

@[simp] theorem applyAll_safety (s : State) : (applyAll s).safety = s.safety :=
  applyAll_within (bs := [.free, .meas, .valve, .io, .fans, .dict, .mem]) s (Within.refl _ s) (by decide) (by decide)
    (by decide) (by decide) (by decide) (by decide) (by decide) .safety (by decide)

@[simp] theorem safeSnap_safety (s : State) (bit : Nat) : (safeSnap s bit).safety = s.safety :=
  safeSnap_within (bs := [.can, .snap]) s bit (Within.refl _ s) (by decide) (by decide) .safety (by decide)

@[simp] theorem pairGiveUp_safety (s : State) : (pairGiveUp s).safety = s.safety :=
  pairGiveUp_within (bs := [.pair]) s (Within.refl _ s) (by decide) .safety (by decide)

@[simp] theorem pairGiveUp_clk (s : State) : (pairGiveUp s).clk = s.clk :=
  pairGiveUp_within (bs := [.pair]) s (Within.refl _ s) (by decide) .clk (by decide)

@[simp] theorem logEvent_safety (s : State) (type : Nat) (payload : List Byte) :
    (logEvent s type payload).safety = s.safety :=
  logEvent_within (bs := [.snap]) s type payload (Within.refl _ s) (by decide) .safety (by decide)

@[simp] theorem safeRecord_clk (s : State) (bit scope chan loop : Nat) : (safeRecord s bit scope chan loop).clk = s.clk :=
  safeRecord_within (bs := [.safety, .snap]) s bit scope chan loop (Within.refl _ s) (by decide) (by decide) .clk (by decide)

@[simp] theorem safeRecord_safety (s : State) (bit scope chan loop : Nat) : (safeRecord s bit scope chan loop).safety =
    { s.safety with failures := Flag.set s.safety.failures bit true, lastAt := warpNow s } := by
  rw [safeRecord, logEvent_safety]

/-! ### Holding channels at their safe states (R373, R378) -/

@[simp] theorem safeMark_clk (bit : Nat) (s : State) (h : Nat) : (safeMark bit s h).clk = s.clk := rfl

@[simp] theorem safeMark_failures (bit : Nat) (s : State) (h : Nat) :
    (safeMark bit s h).safety.failures = s.safety.failures := rfl

theorem safeMark_active (bit : Nat) (s : State) (h c : Nat) :
    (getSafe (safeMark bit s h) c).active = if c = safeChan h then true else (getSafe s c).active := by
  rw [safeMark, getSafe_modSafe]
  split <;> rfl

theorem safeMark_causes {bit : Nat} (hbit : bit < 16) (s : State) (h : Nat) :
    Flag.get (getSafe (safeMark bit s h) (safeChan h)).causes bit = true := by
  rw [safeMark, getSafe_modSafe, if_pos rfl]
  exact Flag.get_set_self _ _ hbit

/-- A channel marked, or active before, is active after a round of marks. -/
theorem forAll_safeMark_active (bit : Nat) {h : Nat} (l : List Nat) (s : State)
    (hmem : h ∈ l ∨ (getSafe s (safeChan h)).active = true) :
    (getSafe (forAll l (safeMark bit) s) (safeChan h)).active = true := by
  unfold forAll
  induction l generalizing s with
  | nil => exact hmem.resolve_left List.not_mem_nil
  | cons x l ih =>
    refine ih _ ?_
    rw [safeMark_active, List.mem_cons, or_assoc] at *
    obtain rfl | hl | hactive := hmem
    · simp
    · exact .inl hl
    · simp [hactive]

/-- A failure of the module on a module that is not in SAFE_STOP yet: what the supervisor holds after it (R378). -/
theorem failModule_safety {s : State} (hst : s.safety.st ≠ 3) (bit : Nat) :
    (failModule s bit).safety =
      { (forAll outEntries (safeMark bit) (safeRecord (pairGiveUp s) bit 1 0xFF 0xFFFF)).safety with
        st := 3, stopAt := s.clk, safeA := false, safeB := false, faultN := false } := by
  have hclk : (forAll outEntries (safeMark bit) (safeRecord (pairGiveUp s) bit 1 0xFF 0xFFFF)).clk = s.clk := by
    rw [forAll_leaves State.clk (safeMark_clk bit), safeRecord_clk, pairGiveUp_clk]
  rw [failModule, if_neg hst]
  simp only [safeSnap_safety, applyAll_safety, hclk]

theorem failModule_getSafe {s : State} (hst : s.safety.st ≠ 3) (bit c : Nat) : getSafe (failModule s bit) c =
    getSafe (forAll outEntries (safeMark bit) (safeRecord (pairGiveUp s) bit 1 0xFF 0xFFFF)) c := by
  unfold getSafe
  rw [failModule_safety hst]

theorem failModule_failures {s : State} (hst : s.safety.st ≠ 3) {bit : Nat} (hbit : bit < 16) :
    Flag.get (failModule s bit).safety.failures bit = true := by
  rw [failModule_safety hst]
  dsimp only
  rw [forAll_leaves (fun s => s.safety.failures) (safeMark_failures bit), safeRecord_safety]
  exact Flag.get_set_self _ _ hbit

theorem failModule_isSafe {s : State} (hst : s.safety.st ≠ 3) (bit : Nat) {h : Nat} (hmem : h ∈ outEntries) :
    isSafe (failModule s bit) h = true := by
  have hactive : (getSafe (failModule s bit) (safeChan h)).active = true := by
    rw [failModule_getSafe hst]
    exact forAll_safeMark_active bit outEntries _ (.inl hmem)
  simp [isSafe, hactive]

@[simp] theorem failModule_warp (s : State) (bit : Nat) : (failModule s bit).warp = s.warp :=
  failModule_within (bs := [.free, .meas, .valve, .io, .fans, .dict, .can, .pair, .mem, .safety, .snap]) s bit
    (Within.refl _ s) (by decide) (by decide) (by decide) (by decide) (by decide) (by decide) (by decide) (by decide)
    (by decide) (by decide) (by decide) .warp (by decide)

/-- A failure of one channel on a module in HEALTHY: what the supervisor holds after it (R378). -/
theorem failChannels_safety {s : State} (hst : s.safety.st = 1) (bit h loop : Nat) :
    ∃ b, (failChannels s bit [h] loop).safety =
      { (safeMark bit (safeRecord s bit 0 (safeChan h) loop) h).safety with st := 2, faultN := b } := by
  have hrec : (safeMark bit (safeRecord s bit 0 (safeChan h) loop) h).safety.st = 1 := by
    change (safeRecord s bit 0 (safeChan h) loop).safety.st = 1
    rw [safeRecord_safety]
    exact hst
  have hgo : ¬ s.safety.st = 3 := by rw [hst]; decide
  rw [failChannels, if_neg hgo]
  simp only [forAll, List.foldl_cons, List.foldl_nil, safeSnap_safety, applyOut_safety, faultNFollow, hrec, if_true]
  exact ⟨_, rfl⟩

/-- The failed channel is held at its safe state for the failure, and SAFETY_STATE is CHANNEL_FAULT. -/
theorem failChannels_holds {s : State} (hst : s.safety.st = 1) {bit : Nat} (hbit : bit < 16) (h loop : Nat) :
    let t := failChannels s bit [h] loop
    t.safety.st = 2 ∧ Flag.get t.safety.failures bit = true ∧ (getSafe t (safeChan h)).active = true ∧
      Flag.get (getSafe t (safeChan h)).causes bit = true := by
  obtain ⟨b, hsafety⟩ := failChannels_safety hst bit h loop
  have hsafe : getSafe (failChannels s bit [h] loop) (safeChan h) =
      getSafe (safeMark bit (safeRecord s bit 0 (safeChan h) loop) h) (safeChan h) := by
    unfold getSafe
    rw [hsafety]
  dsimp only
  rw [hsafe, hsafety, safeMark_active, if_pos rfl]
  dsimp only
  rw [safeMark_failures, safeRecord_safety]
  exact ⟨rfl, Flag.get_set_self _ _ hbit, rfl, safeMark_causes hbit _ _⟩

/-! ### Read-back (R375) -/

/-- What the supervisor holds of the output of entry `h`, and of the module. -/
def safetyView (h : Nat) (s : State) : Bool × SafeRt × Nat × Flags × Nat :=
  (isRelevant s h, getSafe s (safeChan h), s.safety.st, s.safety.failures, s.safety.nextCheck)

@[simp] theorem isRelevant_modSafe (s : State) (c : Nat) (f : SafeRt → SafeRt) (h : Nat) :
    isRelevant (modSafe s c f) h = isRelevant s h := rfl

theorem safetyView_readbackOne_of_other {d : List Nat} {h x : Nat} (hd : x ∉ d) (hne : safeChan h ≠ safeChan x) (s : State) :
    safetyView h (readbackOne d s x) = safetyView h s := by
  unfold readbackOne
  split
  · rfl
  · rw [if_neg (by simpa using hd)]
    simp [safetyView, hne]

theorem outEntries_nodup : outEntries.Nodup := by decide

theorem outEntries_bounds {h : Nat} (hmem : h ∈ outEntries) : 256 ≤ h := by
  revert h
  decide

theorem safeChan_ne {h x : Nat} (hh : h ∈ outEntries) (hx : x ∈ outEntries) (hne : h ≠ x) : safeChan h ≠ safeChan x := by
  have := outEntries_bounds hh
  have := outEntries_bounds hx
  unfold safeChan
  omega

theorem safetyView_forAll_of_others {d : List Nat} {h : Nat} (hmem : h ∈ outEntries) (hd : ∀ x ∈ d, x = h) (l : List Nat)
    (hl : ∀ x ∈ l, x ∈ outEntries ∧ h ≠ x) (s : State) : safetyView h (forAll l (readbackOne d) s) = safetyView h s := by
  unfold forAll
  induction l generalizing s with
  | nil => rfl
  | cons x l ih =>
    obtain ⟨hx, hne⟩ := hl x List.mem_cons_self
    rw [List.foldl_cons, ih (fun y hy => hl y (List.mem_cons_of_mem _ hy)),
      safetyView_readbackOne_of_other (fun hxd => hne (hd x hxd).symm) (safeChan_ne hmem hx hne)]

/-- In a check whose disagreements are at entry `h` alone, what is held of `h` is what its own comparison gives. -/
theorem safetyView_readback {d : List Nat} {h : Nat} (hmem : h ∈ outEntries) (hd : ∀ x ∈ d, x = h) (s : State) :
    ∃ r, safetyView h r = safetyView h s ∧
      safetyView h (forAll outEntries (readbackOne d) s) = safetyView h (readbackOne d r h) := by
  obtain ⟨before, later, hsplit⟩ := List.append_of_mem hmem
  have hnodup := outEntries_nodup
  rw [hsplit, List.nodup_append, List.nodup_cons] at hnodup
  obtain ⟨-, ⟨hlater, -⟩, hbefore⟩ := hnodup
  have hin : ∀ x, x ∈ before ∨ x ∈ later → x ∈ outEntries := by
    intro x hx
    rw [hsplit]
    simpa using hx.imp_right .inr
  have hbefore : ∀ x ∈ before, x ∈ outEntries ∧ h ≠ x := fun x hx =>
    ⟨hin x (.inl hx), (hbefore x hx h List.mem_cons_self).symm⟩
  have hlater : ∀ x ∈ later, x ∈ outEntries ∧ h ≠ x := fun x hx =>
    ⟨hin x (.inr hx), fun he => hlater (he ▸ hx)⟩
  refine ⟨forAll before (readbackOne d) s, safetyView_forAll_of_others hmem hd before hbefore s, ?_⟩
  have hsteps : forAll outEntries (readbackOne d) s =
      forAll later (readbackOne d) (readbackOne d (forAll before (readbackOne d) s) h) := by
    rw [hsplit]
    simp [forAll]
  rw [hsteps, safetyView_forAll_of_others hmem hd later hlater]

theorem readbackOne_of_agrees {s : State} {d : List Nat} {h : Nat} (hrel : isRelevant s h = true) (hd : h ∉ d) :
    readbackOne d s h = modSafe s (safeChan h) fun r => { r with badRun := 0, okRun := min 100 (r.okRun + 1) } := by
  simp [readbackOne, hrel, hd]

/-- A disagreement is counted. -/
def badCounted (s : State) (h : Nat) : State :=
  modSafe s (safeChan h) fun r => { r with badRun := r.badRun + 1, okRun := 0 }

theorem readbackOne_of_early {s : State} {d : List Nat} {h : Nat} (hrel : isRelevant s h = true) (hd : h ∈ d)
    (hrun : (getSafe s (safeChan h)).badRun < 3) : readbackOne d s h = badCounted s h := by
  have h4 : (getSafe (badCounted s h) (safeChan h)).badRun ≠ 4 := by simp [badCounted]; omega
  have h8 : (getSafe (badCounted s h) (safeChan h)).badRun ≠ 8 := by simp [badCounted]; omega
  rw [readbackOne, if_neg (by simpa using hrel), if_pos (by simpa using hd)]
  exact (if_neg h4).trans (if_neg h8)

theorem readbackOne_of_fourth {s : State} {d : List Nat} {h : Nat} (hrel : isRelevant s h = true) (hd : h ∈ d)
    (hrun : (getSafe s (safeChan h)).badRun = 3) :
    readbackOne d s h = failChannels (badCounted s h) sfOutput [h] 0xFFFF := by
  have h4 : (getSafe (badCounted s h) (safeChan h)).badRun = 4 := by simp [badCounted, hrun]
  rw [readbackOne, if_neg (by simpa using hrel), if_pos (by simpa using hd)]
  exact if_pos h4

/-- The state in which a check compares the outputs: the next check is 1 ms away. -/
def checking (s : State) : State := { s with safety := { s.safety with nextCheck := after s.clk (msecs 1) } }

theorem exec_readbackCheck_due {s : State} (hout : released s = true) (hdue : s.safety.nextCheck ≤ s.clk)
    (readings : List (Nat × Int)) : exec (.readbackCheck readings) s =
      .next (forAll outEntries (readbackOne (disagreeing s readings)) (checking s)) := by
  have hgo : (released s && due s s.safety.nextCheck) = true := by
    rw [hout, Bool.true_and]
    exact decide_eq_true hdue
  rw [exec_readbackCheck, execReadbackCheck, if_pos hgo]
  rfl

/-- A check with no disagreement: the entry's run ends, and the module's state stays. -/
theorem readback_of_agreement {s : State} {h : Nat} (hmem : h ∈ outEntries) (hrel : isRelevant s h = true) :
    let t := forAll outEntries (readbackOne []) (checking s)
    t.safety.nextCheck = after s.clk (msecs 1) ∧ t.safety.st = s.safety.st ∧
      (getSafe t (safeChan h)).badRun = 0 ∧
      (getSafe t (safeChan h)).okRun = min 100 ((getSafe s (safeChan h)).okRun + 1) := by
  obtain ⟨r, hr, ht⟩ := safetyView_readback hmem (d := []) (by simp) (checking s)
  simp only [safetyView, Prod.mk.injEq] at hr
  obtain ⟨hrrel, hrsafe, hrst, -, hrnext⟩ := hr
  rw [readbackOne_of_agrees (hrrel.trans hrel) List.not_mem_nil] at ht
  simp only [safetyView, Prod.mk.injEq] at ht
  obtain ⟨-, htsafe, htst, -, htnext⟩ := ht
  refine ⟨htnext.trans hrnext, htst.trans hrst, ?_, ?_⟩
  · simp [htsafe]
  · simp [htsafe, hrsafe]
    rfl

/-- A disagreement that is not the fourth of its run is counted. -/
theorem readback_of_early {s : State} {h : Nat} (hmem : h ∈ outEntries) (hrel : isRelevant s h = true)
    (hrun : (getSafe s (safeChan h)).badRun < 3) :
    let t := forAll outEntries (readbackOne [h]) (checking s)
    t.safety.st = s.safety.st ∧ getSafe t (safeChan h) =
      { getSafe s (safeChan h) with badRun := (getSafe s (safeChan h)).badRun + 1, okRun := 0 } := by
  obtain ⟨r, hr, ht⟩ := safetyView_readback hmem (d := [h]) (by simp) (checking s)
  simp only [safetyView, Prod.mk.injEq] at hr
  obtain ⟨hrrel, hrsafe, hrst, -, -⟩ := hr
  have hrsafe : getSafe r (safeChan h) = getSafe s (safeChan h) := hrsafe
  rw [readbackOne_of_early (hrrel.trans hrel) List.mem_cons_self (hrsafe ▸ hrun)] at ht
  simp only [safetyView, Prod.mk.injEq] at ht
  obtain ⟨-, htsafe, htst, -, -⟩ := ht
  exact ⟨htst.trans hrst, by rw [htsafe, badCounted, getSafe_modSafe, if_pos rfl, hrsafe]⟩

/-- The fourth disagreement of a run fails the channel. -/
theorem readback_of_fourth {s : State} {h : Nat} (hmem : h ∈ outEntries) (hrel : isRelevant s h = true)
    (hrun : (getSafe s (safeChan h)).badRun = 3) (hst : s.safety.st = 1) :
    let t := forAll outEntries (readbackOne [h]) (checking s)
    t.safety.st = 2 ∧ Flag.get t.safety.failures sfOutput = true ∧ (getSafe t (safeChan h)).active = true ∧
      Flag.get (getSafe t (safeChan h)).causes sfOutput = true := by
  obtain ⟨r, hr, ht⟩ := safetyView_readback hmem (d := [h]) (by simp) (checking s)
  simp only [safetyView, Prod.mk.injEq] at hr
  obtain ⟨hrrel, hrsafe, hrst, -, -⟩ := hr
  have hrsafe : getSafe r (safeChan h) = getSafe s (safeChan h) := hrsafe
  have hst : (badCounted r h).safety.st = 1 := hrst.trans hst
  rw [readbackOne_of_fourth (hrrel.trans hrel) List.mem_cons_self (hrsafe ▸ hrun)] at ht
  simp only [safetyView, Prod.mk.injEq] at ht
  obtain ⟨-, htsafe, htst, htfail, -⟩ := ht
  dsimp only
  rw [htsafe, htst, htfail]
  exact failChannels_holds hst (by decide) h 0xFFFF

theorem disagreeing_nil (s : State) : disagreeing s [] = [] := rfl

theorem disagreeing_singleton {s : State} {h : Nat} {x : Int} (hx : readbackAgrees s h x = false) :
    disagreeing s [(h, x)] = [h] := by
  simp [disagreeing, hx]

/-! ### Clock failures (R38, R378) -/

theorem exec_clockFailure_of_clock {c : ClockFail} (hc : c ≠ .cycleRange) (s : State) :
    exec (.clockFailure c) s = .next (failModule s sfClock) := by
  rw [exec_clockFailure]
  cases c with
  | cycleRange => exact absurd rfl hc
  | _ => rfl

theorem exec_clockFailure_cycleRange (s : State) : exec (.clockFailure .cycleRange) s =
    if s.warp.ws = .locked ∧ ¬ s.warp.wasRealigned ∧ ¬ periodOk s.warp.cycleClocks then .next (failModule s sfClock)
    else .next s := rfl

theorem failModule_declares_clock {s : State} (hst : s.safety.st ≠ 3) :
    (failModule s sfClock).safety.st = 3 ∧ Flag.get (failModule s sfClock).safety.failures sfClock = true :=
  ⟨by rw [failModule_safety hst], failModule_failures hst (by decide)⟩

/-- Settles O35: a check by what it makes of one entry, a failure of the module by `failModule_safety`. -/
theorem readbackAndModuleFailures : Obligations.ReadbackAndModuleFailures := by
  unfold Obligations.ReadbackAndModuleFailures
  refine ⟨fun s h hout hdue hmem hrel => ⟨?_, fun x hx hrun => ?_, fun x hx hrun hst => ?_⟩, fun s bit hst hbit => ?_,
    fun s c hc hst => ?_, fun s hws hreal hper hst => ?_, fun s hnone => ?_⟩
  · refine ⟨_, exec_readbackCheck_due hout hdue [], ?_⟩
    rw [disagreeing_nil]
    exact readback_of_agreement hmem hrel
  · obtain ⟨hst, hsafe⟩ := readback_of_early hmem hrel hrun
    refine ⟨_, exec_readbackCheck_due hout hdue [(h, x)], ?_⟩
    rw [disagreeing_singleton hx]
    exact ⟨hst, by rw [hsafe], by rw [hsafe], by rw [hsafe]⟩
  · refine ⟨_, exec_readbackCheck_due hout hdue [(h, x)], ?_⟩
    rw [disagreeing_singleton hx]
    exact readback_of_fourth hmem hrel hrun hst
  · have hsafety := failModule_safety hst bit
    refine ⟨by rw [hsafety], by rw [hsafety], by rw [hsafety], by rw [hsafety], by rw [hsafety],
      failModule_failures hst hbit, fun h hmem => failModule_isSafe hst bit hmem⟩
  · obtain ⟨hstop, hflag⟩ := failModule_declares_clock hst
    exact ⟨_, exec_clockFailure_of_clock hc s, hstop, hflag, failModule_warp s sfClock⟩
  · refine ⟨_, ?_, failModule_declares_clock hst⟩
    rw [exec_clockFailure_cycleRange, if_pos ⟨hws, by simp [hreal], by simp [hper]⟩]
  · rw [exec_clockFailure_cycleRange, if_neg]
    rintro ⟨hws, hreal, hper⟩
    obtain h | h | h := hnone
    · exact h hws
    · exact hreal h
    · exact hper h

end Sys2Proof.Machine
end

section
/-! PROOFS. A WRITE that goes (11_object_dictionary, R241–R256; 12_host_port_and_services, R270–R275): the member it names,
the state it is carried out in, and what its request and its answer leave. -/

namespace Sys2Proof.Machine

/-! ### The schema (R241) -/

theorem schema_ascends : schema.Pairwise fun a b => a.base + a.count ≤ b.base := by decide

/-- An object number belongs to one object of the schema only. -/
theorem findObj_of_mem {ob : ObjDef} (hmem : ob ∈ schema) {i : Nat} (hi : i < ob.count) :
    findObj (ob.base + i) = some ob := by
  obtain ⟨before, later, hsplit⟩ := List.append_of_mem hmem
  have hasc := schema_ascends
  rw [hsplit, List.pairwise_append] at hasc
  obtain ⟨-, -, hbefore⟩ := hasc
  rw [findObj, List.find?_eq_some_iff_append]
  refine ⟨by simpa using hi, before, later, hsplit, fun d hd => ?_⟩
  have := hbefore d hd ob List.mem_cons_self
  simp
  omega

theorem findMem_of_mem {ob : ObjDef} (hmem : ob ∈ schema) {i : Nat} (hi : i < ob.count) (m : Nat) :
    findMem (ob.base + i) m = ob.mems.find? fun d => d.covers m := by
  rw [findMem, findObj_of_mem hmem hi]

/-! ### What the request and the answer leave -/

/-- The members' values: committed and in force. -/
def memberValues (s : State) : Table Val × Table Val := (s.dict.committed, s.dict.force)

theorem memberValues_of_dict {s t : State} (h : t.dict = s.dict) : memberValues t = memberValues s := by
  rw [memberValues, h, memberValues]

@[simp] theorem memberValues_modSess (s : State) (x : Sess) (f : SessRec → SessRec) :
    memberValues (modSess s x f) = memberValues s := rfl

@[simp] theorem memberValues_dropPending (s : State) (x : Sess) : memberValues (dropPending s x) = memberValues s := by
  unfold dropPending
  split <;> rfl

@[simp] theorem memberValues_sessExpire (s : State) (x : Sess) : memberValues (sessExpire s x) = memberValues s := by
  simp only [sessExpire, apply_ite memberValues, memberValues_modSess, memberValues_dropPending, ite_self]

theorem managerHeard_dict (s : State) : (managerHeard s).dict = s.dict :=
  managerHeard_within (bs := [.free, .io, .fans, .host, .mem, .snap]) s (Within.refl _ s) (by decide) (by decide)
    (by decide) (by decide) (by decide) (by decide) .dict (by decide)

@[simp] theorem memberValues_touch (s : State) (x : Sess) : memberValues (touch s x) = memberValues s := by
  simp only [touch, apply_ite memberValues, memberValues_of_dict (managerHeard_dict _), memberValues_modSess,
    memberValues_sessExpire, ite_self]

theorem arrives_dict (s : State) (e : Env) (svc : Nat) : (arrives s e svc).2.dict = s.dict :=
  arrives_within (bs := [.host]) s e svc (Within.refl _ s) (by decide) .dict (by decide)

theorem sendResponse_dict (s : State) (e : Env) (svc : Nat) (payload : List Byte) :
    (sendResponse s e svc payload).dict = s.dict :=
  sendResponse_within (bs := [.host, .can]) s e svc payload (Within.refl _ s) (by decide) (by decide) .dict (by decide)

section
variable (s : State) (e : Env) (o m : Nat) (data : List Byte)

@[simp] theorem memberValues_writing : memberValues (writing s e o m data) = memberValues s := by
  rw [writing, heard, notePrev, memberValues_modSess, memberValues_touch, memberValues_of_dict (arrives_dict s e 2)]

/-- A request that is heard writes its session, its carrier and, ending the manager's silence, the fans. -/
theorem writing_within : Within [.free, .io, .fans, .dict, .host, .mem, .snap] s (writing s e o m data) :=
  notePrev_within _ _ _ (touch_within _ _ (arrives_within _ _ _ (Within.refl _ s) (by decide)) (by decide) (by decide)
    (by decide) (by decide) (by decide) (by decide) (by decide)) (by decide)

@[simp] theorem writing_cal : (writing s e o m data).cal = s.cal := writing_within s e o m data .cal (by decide)
@[simp] theorem writing_loom : (writing s e o m data).loom = s.loom := writing_within s e o m data .loom (by decide)
@[simp] theorem writing_engine : (writing s e o m data).engine = s.engine := writing_within s e o m data .engine (by decide)

end

section
variable (s : State) (e : Env) (svc : Nat) (payload : List Byte)

@[simp] theorem memberValues_answer : memberValues (answer s e svc payload) = memberValues s :=
  (memberValues_of_dict (sendResponse_dict _ e svc payload)).trans (memberValues_modSess s e.sess _)

theorem answer_leaves : Within [.dict, .host, .can] s (answer s e svc payload) :=
  answer_within s e svc payload (Within.refl _ s) (by decide) (by decide) (by decide)

@[simp] theorem answer_cal : (answer s e svc payload).cal = s.cal := answer_leaves s e svc payload .cal (by decide)
@[simp] theorem answer_loom : (answer s e svc payload).loom = s.loom := answer_leaves s e svc payload .loom (by decide)
@[simp] theorem answer_engine : (answer s e svc payload).engine = s.engine := answer_leaves s e svc payload .engine (by decide)

end

/-! ### The state that a read of a part depends on -/

section
variable {s t : State}

theorem getCirc_of_loom (h : t.loom = s.loom) (c : Nat) : getCirc t c = getCirc s c := by rw [getCirc, h, getCirc]

theorem getZone_of_loom (h : t.loom = s.loom) (z : Nat) : getZone t z = getZone s z := by rw [getZone, h, getZone]

theorem getEvent_of_loom (h : t.loom = s.loom) (v : Nat) : getEvent t v = getEvent s v := by rw [getEvent, h, getEvent]

theorem getLoop_of_engine (h : t.engine = s.engine) (n : Nat) : getLoop t n = getLoop s n := by rw [getLoop, h, getLoop]

theorem committedVal_of_values (h : memberValues t = memberValues s) (k : Nat) : committedVal t k = committedVal s k := by
  rw [committedVal, (Prod.mk.inj h).1, committedVal]

theorem cfgVal_of_values (h : memberValues t = memberValues s) (o m : Nat) : cfgVal t o m = cfgVal s o m := by
  rw [cfgVal, (Prod.mk.inj h).2, cfgVal]

end

section
variable (s : State) (e : Env) (o m : Nat) (data : List Byte) (i : Nat)

@[simp] theorem getZone_writing : getZone (writing s e o m data) i = getZone s i := getZone_of_loom (writing_loom ..) i
@[simp] theorem getEvent_writing : getEvent (writing s e o m data) i = getEvent s i := getEvent_of_loom (writing_loom ..) i
@[simp] theorem getLoop_writing : getLoop (writing s e o m data) i = getLoop s i := getLoop_of_engine (writing_engine ..) i

end

section
variable (s : State) (e : Env) (svc : Nat) (payload : List Byte) (i : Nat)

@[simp] theorem getZone_answer : getZone (answer s e svc payload) i = getZone s i := getZone_of_loom (answer_loom ..) i
@[simp] theorem getEvent_answer : getEvent (answer s e svc payload) i = getEvent s i := getEvent_of_loom (answer_loom ..) i
@[simp] theorem getLoop_answer : getLoop (answer s e svc payload) i = getLoop s i := getLoop_of_engine (answer_engine ..) i
@[simp] theorem committedVal_answer : committedVal (answer s e svc payload) i = committedVal s i :=
  committedVal_of_values (memberValues_answer ..) i

end

/-! ### The write itself (R244, R256) -/

theorem eq_zero_of_tooLong_eq_zero {e : Env} {data : List Byte} {c : Nat} (h : tooLong e data c = 0) : c = 0 := by
  unfold tooLong at h
  split at h
  · exact absurd h (by decide)
  · exact h

theorem WriteGoes.writeCode_eq_zero {s : State} {e : Env} {o m : Nat} {data : List Byte} (h : WriteGoes s e o m data) :
    writeCode (writing s e o m data) e.sess o m data = 0 := eq_zero_of_tooLong_eq_zero h.accepted

/-- A request that is served is executed in the state in which it has been heard (R272). -/
theorem request_of_served {s : State} {e : Env} {svc : Nat} {payload : List Byte} (h : Served s e svc payload)
    (run : State → Option (List Byte) × State) :
    request s e svc payload run = runRequest (heard s e svc payload) e svc run := by
  rw [request, if_pos h.reaches, serve, h.fresh]
  rfl

theorem runRequest_of_answered {s t : State} {e : Env} {svc : Nat} {payload : List Byte}
    {run : State → Option (List Byte) × State} (h : run s = (some payload, t)) :
    runRequest s e svc run = answer t e svc payload := by
  rw [runRequest, h]

/-- A WRITE that goes is carried out and answered, unless it restarts the module or its answer follows later. -/
theorem requestWrite_of_goes {s : State} {e : Env} {o m : Nat} {data : List Byte} (h : WriteGoes s e o m data)
    (himage : o ≠ 0x1040) (hsafety : o ≠ 0xB000) (sense : Option Nat) :
    requestWrite s e o m data sense =
      let r := applyWrite (writing s e o m data) e o m data sense true
      answer r.2 e 2 (statusBytes r.1) := by
  have hok : ¬ tooLong e data (writeCode (writing s e o m data) e.sess o m data) ≠ 0 := fun hne => hne h.accepted
  have hnow : ¬ (restarts (writing s e o m data) o m data = true ∨ answersLater (writing s e o m data) o m data = true) := by
    simp [restarts, answersLater, himage, hsafety]
  exact (request_of_served h.served _).trans (runRequest_of_answered ((if_neg hok).trans (if_neg hnow)))

end Sys2Proof.Machine
end

section
/-! PROOFS. Writes to the calendar, to Loom and to the loops (02_warp_timebase, R41, R42; 03_loom_scheduler, R57–R80;
04_control_engine, R97; 05_loop_modes, R113–R131). -/

namespace Sys2Proof.Machine

/-! ### A write that goes, by its member -/

/-- The member is an RW or WO one of the type. -/
def OwnMember (o m : Nat) (ty : MType) : Prop := ∃ d, findMem o m = some d ∧ d.ty = ty ∧ d.acc ≠ .rwg

theorem ownMember_of_mem {ob : ObjDef} (hmem : ob ∈ schema) {i o m : Nat} {ty : MType} (hi : i < ob.count)
    (ho : ob.base + i = o) {d : MemDef} (hd : (ob.mems.find? fun d => d.covers m) = some d) (hty : d.ty = ty)
    (hacc : d.acc ≠ .rwg) : OwnMember o m ty :=
  ⟨d, ho ▸ (findMem_of_mem hmem hi m).trans hd, hty, hacc⟩

/-- A write that goes to a member from 0x2000 up to 0x4FFF acts on its block and is answered. -/
theorem requestWrite_time {o m : Nat} {ty : MType} (hmem : OwnMember o m ty) (hlo : 0x2000 ≤ o) (hhi : o < 0x5000)
    {s : State} {e : Env} {data : List Byte} (h : WriteGoes s e o m data) :
    requestWrite s e o m data none =
      answer (applyTime (writing s e o m data) o m (dataVal ty data)) e 2 (statusBytes 0) := by
  obtain ⟨d, hd, rfl, hacc⟩ := hmem
  have happly : applyWrite (writing s e o m data) e o m data none true =
      (0, applyTime (writing s e o m data) o m (dataVal d.ty data)) := by
    rw [applyWrite, hd]
    dsimp only
    rw [if_neg hacc, if_neg (by omega), if_neg (by omega), applyRw, if_neg (by omega), if_pos (by omega)]
  rw [requestWrite_of_goes h (by omega) (by omega), happly]

theorem onOne_one (s t : State) : onOne (.num 1) s t = t := if_pos rfl

section
variable (s : State) (v : Val)

theorem applyTime_calNow : applyTime s 0x2010 1 v = calStep s (valNat v) := rfl

theorem applyTime_calSlew : applyTime s 0x2010 2 v = calSlewAdd s (valInt v) := rfl

variable {i : Nat}

theorem applyTime_override (hi : i < 32) :
    applyTime s (0x3200 + i) 12 v = circRefresh (writeRw s (memKey (0x3200 + i) 12) v) i := by
  rw [applyTime, if_neg (by omega), if_neg (by omega), if_pos (by omega), Nat.add_sub_cancel_left]

theorem applyTime_learnReset (hi : i < 32) : applyTime s (0x3240 + i) 10 v = onOne v s (learnReset s i) := by
  rw [applyTime, if_neg (by omega), if_neg (by omega), if_neg (by omega), if_pos (by omega), Nat.add_sub_cancel_left]

theorem applyTime_osLearnReset (hi : i < 64) : applyTime s (0x3400 + i) 25 v = onOne v s (osLearnReset s i) := by
  rw [applyTime, if_neg (by omega), if_neg (by omega), if_neg (by omega), if_neg (by omega), if_pos (by omega), if_pos rfl,
    Nat.add_sub_cancel_left]

theorem applyTime_arm (hi : i < 64) : applyTime s (0x3600 + i) 9 v = armOp s i (valInt v) := by
  rw [applyTime, if_neg (by omega), if_neg (by omega), if_neg (by omega), if_neg (by omega), if_neg (by omega),
    if_pos (by omega), Nat.add_sub_cancel_left]

theorem applyTime_loop (hi : i < 256) (m : Nat) : applyTime s (0x4800 + i) m v =
    if m = 14 then onOne v s (statsReset s i) else writeRw s (memKey (0x4800 + i) m) v := by
  rw [applyTime, if_neg (by omega), if_neg (by omega), if_neg (by omega), if_neg (by omega), if_neg (by omega),
    if_neg (by omega), if_neg (by omega), if_pos (by omega), Nat.add_sub_cancel_left]

theorem applyTime_rcClear (hi : i < 256) : applyTime s (0x4C00 + i) 9 v = onOne v s (rcClear s i) := by
  rw [applyTime, if_neg (by omega), if_neg (by omega), if_neg (by omega), if_neg (by omega), if_neg (by omega),
    if_neg (by omega), if_neg (by omega), if_neg (by omega), if_pos rfl, Nat.add_sub_cancel_left]

theorem applyTime_profile (hi : i < 256) : applyTime s (0x4C00 + i) 15 v = writeProfile s i (valBlob v) := by
  rw [applyTime, if_neg (by omega), if_neg (by omega), if_neg (by omega), if_neg (by omega), if_neg (by omega),
    if_neg (by omega), if_neg (by omega), if_neg (by omega), if_neg (by decide), Nat.add_sub_cancel_left]

end


/-! ### The members -/

theorem calNow_member : OwnMember 0x2010 1 .cal :=
  ownMember_of_mem (ob := obj2010) (by simp [schema]) (i := 0) (by decide) rfl rfl rfl (by decide)

theorem calSlew_member : OwnMember 0x2010 2 .s32 :=
  ownMember_of_mem (ob := obj2010) (by simp [schema]) (i := 0) (by decide) rfl rfl rfl (by decide)

section
variable {i : Nat}

theorem override_member (hi : i < 32) : OwnMember (0x3200 + i) 12 .u8 :=
  ownMember_of_mem (ob := obj3200) (by simp [schema]) hi rfl rfl rfl (by decide)

theorem learnReset_member (hi : i < 32) : OwnMember (0x3240 + i) 10 .bool :=
  ownMember_of_mem (ob := obj3240) (by simp [schema]) hi rfl rfl rfl (by decide)

theorem osLearnReset_member (hi : i < 64) : OwnMember (0x3400 + i) 25 .bool :=
  ownMember_of_mem (ob := obj3400) (by simp [schema]) hi rfl rfl rfl (by decide)

theorem arm_member (hi : i < 64) : OwnMember (0x3600 + i) 9 .u8 :=
  ownMember_of_mem (ob := obj3600) (by simp [schema]) hi rfl rfl rfl (by decide)

theorem statsReset_member (hi : i < 256) : OwnMember (0x4800 + i) 14 .bool :=
  ownMember_of_mem (ob := obj4800) (by simp [schema]) hi rfl rfl rfl (by decide)

theorem mode_member (hi : i < 256) : OwnMember (0x4800 + i) 16 .u8 :=
  ownMember_of_mem (ob := obj4800) (by simp [schema]) hi rfl rfl rfl (by decide)

theorem manOut_member (hi : i < 256) : OwnMember (0x4800 + i) 17 .s32 :=
  ownMember_of_mem (ob := obj4800) (by simp [schema]) hi rfl rfl rfl (by decide)

theorem rcClear_member (hi : i < 256) : OwnMember (0x4C00 + i) 9 .bool :=
  ownMember_of_mem (ob := obj4C00) (by simp [schema]) hi rfl rfl rfl (by decide)

theorem profile_member (hi : i < 256) : OwnMember (0x4C00 + i) 15 .blob :=
  ownMember_of_mem (ob := obj4C00) (by simp [schema]) hi rfl rfl rfl (by decide)

end

theorem dataVal_bool_one : dataVal .bool (bytes1 [1]) = .num 1 := rfl
theorem dataVal_u8 (data : List Byte) : dataVal .u8 data = .num (leNat data) := rfl
theorem dataVal_cal (data : List Byte) : dataVal .cal data = .num (leNat data) := rfl
theorem dataVal_s32 (data : List Byte) : dataVal .s32 data = .num (signed 32 (leNat data)) := rfl
theorem dataVal_blob (data : List Byte) : dataVal .blob data = .bytes data := rfl

/-! ### Each command, by what it acts on -/

section
variable {s : State} {e : Env} {data : List Byte}

theorem exec_calNow_of_goes (h : WriteGoes s e 0x2010 1 data) : exec (.calNow e data) s =
    .next (answer (calStep (writing s e 0x2010 1 data) (leNat data)) e 2 (statusBytes 0)) := by
  rw [exec_calNow, execCalNow, requestWrite_time calNow_member (by decide) (by decide) h, applyTime_calNow, dataVal_cal]
  rfl

theorem exec_calSlew_of_goes (h : WriteGoes s e 0x2010 2 data) : exec (.calSlew e data) s =
    .next (answer (calSlewAdd (writing s e 0x2010 2 data) (signed 32 (leNat data))) e 2 (statusBytes 0)) := by
  rw [exec_calSlew, execCalSlew, requestWrite_time calSlew_member (by decide) (by decide) h, applyTime_calSlew, dataVal_s32]
  rfl

variable {i : Nat}

theorem exec_override_of_goes (hi : i < 32) (h : WriteGoes s e (0x3200 + i) 12 data) : exec (.override e i data) s =
    .next (answer (circRefresh (writeRw (writing s e (0x3200 + i) 12 data) (memKey (0x3200 + i) 12) (.num (leNat data))) i)
      e 2 (statusBytes 0)) := by
  rw [exec_override, execOverride, requestWrite_time (override_member hi) (by omega) (by omega) h, applyTime_override _ _ hi,
    dataVal_u8]

theorem exec_learnReset_of_goes (hi : i < 32) (h : WriteGoes s e (0x3240 + i) 10 (bytes1 [1])) :
    exec (.learnReset e i (bytes1 [1])) s =
      .next (answer (learnReset (writing s e (0x3240 + i) 10 (bytes1 [1])) i) e 2 (statusBytes 0)) := by
  rw [exec_learnReset, execLearnReset, requestWrite_time (learnReset_member hi) (by omega) (by omega) h,
    applyTime_learnReset _ _ hi, dataVal_bool_one, onOne_one]

theorem exec_osLearnReset_of_goes (hi : i < 64) (h : WriteGoes s e (0x3400 + i) 25 (bytes1 [1])) :
    exec (.osLearnReset e i (bytes1 [1])) s =
      .next (answer (osLearnReset (writing s e (0x3400 + i) 25 (bytes1 [1])) i) e 2 (statusBytes 0)) := by
  rw [exec_osLearnReset, execOsLearnReset, requestWrite_time (osLearnReset_member hi) (by omega) (by omega) h,
    applyTime_osLearnReset _ _ hi, dataVal_bool_one, onOne_one]

theorem exec_arm_of_goes (hi : i < 64) (h : WriteGoes s e (0x3600 + i) 9 data) : exec (.arm e i data) s =
    .next (answer (armOp (writing s e (0x3600 + i) 9 data) i (leNat data)) e 2 (statusBytes 0)) := by
  rw [exec_arm, execArm, requestWrite_time (arm_member hi) (by omega) (by omega) h, applyTime_arm _ _ hi, dataVal_u8]
  rfl

theorem exec_statsReset_of_goes (hi : i < 256) (h : WriteGoes s e (0x4800 + i) 14 (bytes1 [1])) :
    exec (.statsReset e i (bytes1 [1])) s =
      .next (answer (statsReset (writing s e (0x4800 + i) 14 (bytes1 [1])) i) e 2 (statusBytes 0)) := by
  rw [exec_statsReset, execStatsReset, requestWrite_time (statsReset_member hi) (by omega) (by omega) h,
    applyTime_loop _ _ hi, if_pos rfl, dataVal_bool_one, onOne_one]

theorem exec_mode_of_goes (hi : i < 256) (h : WriteGoes s e (0x4800 + i) 16 data) : exec (.mode e i data) s =
    .next (answer (writeRw (writing s e (0x4800 + i) 16 data) (memKey (0x4800 + i) 16) (.num (leNat data)))
      e 2 (statusBytes 0)) := by
  rw [exec_mode, execMode, requestWrite_time (mode_member hi) (by omega) (by omega) h, applyTime_loop _ _ hi,
    if_neg (by decide), dataVal_u8]

theorem exec_manOut_of_goes (hi : i < 256) (h : WriteGoes s e (0x4800 + i) 17 data) : exec (.manOut e i data) s =
    .next (answer (writeRw (writing s e (0x4800 + i) 17 data) (memKey (0x4800 + i) 17) (.num (signed 32 (leNat data))))
      e 2 (statusBytes 0)) := by
  rw [exec_manOut, execManOut, requestWrite_time (manOut_member hi) (by omega) (by omega) h, applyTime_loop _ _ hi,
    if_neg (by decide), dataVal_s32]

theorem exec_rcClear_of_goes (hi : i < 256) (h : WriteGoes s e (0x4C00 + i) 9 (bytes1 [1])) :
    exec (.rcClear e i (bytes1 [1])) s =
      .next (answer (rcClear (writing s e (0x4C00 + i) 9 (bytes1 [1])) i) e 2 (statusBytes 0)) := by
  rw [exec_rcClear, execRcClear, requestWrite_time (rcClear_member hi) (by omega) (by omega) h,
    applyTime_rcClear _ _ hi, dataVal_bool_one, onOne_one]

theorem exec_profile_of_goes (hi : i < 256) (h : WriteGoes s e (0x4C00 + i) 15 data) : exec (.profile e i data) s =
    .next (answer (writeProfile (writing s e (0x4C00 + i) 15 data) i data) e 2 (statusBytes 0)) := by
  rw [exec_profile, execProfile, requestWrite_time (profile_member hi) (by omega) (by omega) h, applyTime_profile _ _ hi,
    dataVal_blob]
  rfl

end


/-! ### What each write does -/

theorem calStep_cal (s : State) (v : Nat) : (calStep s v).cal = { s.cal with
    now := v, acc := 0, st := 2, slewLeft := 0, slewAcc := 0, steps := s.cal.steps + 1, astroAsked := true } := by
  refine (forAll_leaves State.cal (fun s z => modZone_cal s z _) _ _).trans ?_
  exact logEvent_within (bs := [.snap]) _ _ _ (Within.refl _ _) (by decide) .cal (by decide)

@[simp] theorem memberValues_markRw (s : State) : memberValues (markRw s) = memberValues s := by
  unfold markRw
  split
  · rfl
  · split <;> rfl

theorem committedVal_setRw_self (s : State) (k : Nat) (v : Val) : committedVal (setRw s k v) k = v :=
  Table.getD_set_self dfltOf _ k v

theorem committedVal_writeRw_self (s : State) (k : Nat) (v : Val) : committedVal (writeRw s k v) k = v := by
  unfold writeRw
  dsimp only
  split
  · rw [committedVal_of_values (memberValues_markRw _), committedVal_setRw_self]
  · exact committedVal_setRw_self s k v

theorem writeRw_engine (s : State) (k : Nat) (v : Val) : (writeRw s k v).engine = s.engine :=
  writeRw_within (bs := [.dict]) s k v (Within.refl _ s) (by decide) .engine (by decide)

@[simp] theorem memberValues_circRefresh (s : State) (c : Nat) : memberValues (circRefresh s c) = memberValues s :=
  memberValues_of_dict (circRefresh_within (bs := [.loom]) s c (Within.refl _ s) (by decide) .dict (by decide))

/-- The learned values read the circuit's record and two settings. -/
theorem circLearn_of_loom {s t : State} (hloom : t.loom = s.loom) (hvalues : memberValues t = memberValues s) (c : Nat) :
    circLearn t c = circLearn s c := by
  have hlat : Cfg.circLatInit t c = Cfg.circLatInit s c := by simp only [Cfg.circLatInit, cfgN, cfgI, cfgVal_of_values hvalues]
  have hrel : Cfg.circRelInit t c = Cfg.circRelInit s c := by simp only [Cfg.circRelInit, cfgN, cfgI, cfgVal_of_values hvalues]
  rw [circLearn, getCirc_of_loom hloom, hlat, hrel, circLearn]

theorem circLearn_learnReset (s : State) (c : Nat) : circLearn (learnReset s c) c =
    ⟨Cfg.circLatInit s c, 1000, 0, Cfg.circRelInit s c, 0, (circLearn s c).polarity⟩ := by
  have hlrn : (getCirc (learnReset s c) c).lrn =
      some ⟨Cfg.circLatInit s c, 1000, 0, Cfg.circRelInit s c, 0, (circLearn s c).polarity⟩ := by
    rw [learnReset, setLearn, getCirc_modCirc, if_pos rfl]
    rfl
  rw [circLearn, hlrn]
  rfl

theorem takeObj_loom (s : State) (o : Nat) : (takeObj s o).loom = s.loom :=
  takeObj_within (bs := [.dict]) s o (Within.refl _ s) (by decide) .loom (by decide)

theorem takeObj_committed (s : State) (o : Nat) : (takeObj s o).dict.committed = s.dict.committed := by
  unfold takeObj
  split
  · rfl
  · refine forAll_leaves (fun s => s.dict.committed) (fun s m => ?_) _ s
    split
    · split <;> rfl
    · rfl

theorem armOp_arms (s : State) (v : Nat) :
    let t := armOp s v 1
    (getEvent t v).st = 1 ∧ (getEvent t v).sealed = false ∧ committedVal t (memKey (0x3600 + v) 9) = .num 1 ∧
      OthersKept getEvent s t v := by
  let w := syncDone (.event v) (takeObj (setRw s (memKey (0x3600 + v) 9) (.num 1)) (0x3600 + v))
  have hloom : w.loom = s.loom := takeObj_loom _ _
  have hcommitted : committedVal w (memKey (0x3600 + v) 9) = .num 1 :=
    (congrArg (fun t => Table.getD dfltOf t _) (takeObj_committed _ _)).trans (committedVal_setRw_self s _ _)
  rw [armOp]
  dsimp only
  rw [if_pos rfl]
  refine ⟨?_, ?_, hcommitted, fun j hj => ?_⟩
  · rw [getEvent_modEvent, if_pos rfl]
  · rw [getEvent_modEvent, if_pos rfl]
  · rw [getEvent_modEvent, if_neg hj]
    exact getEvent_of_loom hloom j

theorem armOp_cancels {s : State} {v : Nat} (hst : (getEvent s v).st = 1) :
    getEvent (armOp s v 0) v = { getEvent s v with st := 4 } ∧ OthersKept getEvent s (armOp s v 0) v := by
  have hst : (getEvent (setRw s (memKey (0x3600 + v) 9) (.num 0)) v).st = 1 := hst
  rw [armOp]
  dsimp only
  rw [if_neg (by decide)]
  refine ⟨?_, fun j hj => ?_⟩
  · rw [getEvent_modEvent, if_pos rfl, if_pos hst]
    rfl
  · rw [getEvent_modEvent, if_neg hj]
    rfl

theorem firstCode_eq_zero_iff {l : List Nat} : firstCode l = 0 ↔ ∀ c ∈ l, c = 0 := by
  induction l with
  | nil => simp [firstCode]
  | cons c l ih =>
    rw [firstCode, List.forall_mem_cons, ← ih]
    by_cases hc : c = 0
    · simp [hc]
    · simp [hc]

/-- A write that no condition of R256 refuses is in range. -/
theorem rangeBadOwn_of_writeCode {s : State} {x : Sess} {o m : Nat} {data : List Byte} {ty : MType}
    (hmem : OwnMember o m ty) (hm : m ≠ 0) (hcode : writeCode s x o m data = 0) :
    rangeBadOwn s o m (dataVal ty data) = false := by
  obtain ⟨d, hd, rfl, hacc⟩ := hmem
  have hob : (findObj o).isNone = false := by
    cases hob : findObj o with
    | none => simp [findMem, hob] at hd
    | some ob => rfl
  rw [writeCode, hob, if_neg Bool.false_ne_true, if_neg hm, hd] at hcode
  dsimp only at hcode
  have hrange := firstCode_eq_zero_iff.mp hcode
    (codeIf (if d.acc = .rwg then rangeBadRwg o m d (dataVal d.ty data)
      else rangeBad d (dataVal d.ty data) || rangeBadOwn s o m (dataVal d.ty data)) Ab.range) (by simp)
  rw [if_neg hacc] at hrange
  cases hown : rangeBadOwn s o m (dataVal d.ty data) with
  | false => rfl
  | true => simp [hown, codeIf, Ab.range] at hrange

/-- A write to MAN_OUT that goes is within OUT_MIN and OUT_MAX (R115). -/
theorem manOut_in_range {s : State} {e : Env} {n : Nat} {data : List Byte} (hn : n < 256)
    (h : WriteGoes s e (0x4800 + n) 17 data) :
    comI s (0x4000 + n) 11 ≤ signed 32 (leNat data) ∧ signed 32 (leNat data) ≤ comI s (0x4000 + n) 12 := by
  have hcom : ∀ m, comI (writing s e (0x4800 + n) 17 data) (0x4800 + n - 0x800) m = comI s (0x4000 + n) m := by
    intro m
    have ho : 0x4800 + n - 0x800 = 0x4000 + n := by omega
    simp only [comI, ho, committedVal_of_values (memberValues_writing s e _ _ data)]
  have hrange := rangeBadOwn_of_writeCode (manOut_member hn) (by decide) h.writeCode_eq_zero
  rw [rangeBadOwn, if_pos ⟨by omega, by omega, rfl⟩, hcom, hcom, dataVal_s32, Bool.or_eq_false_iff,
    decide_eq_false_iff_not, decide_eq_false_iff_not] at hrange
  exact ⟨Int.not_lt.mp hrange.1, Int.not_lt.mp hrange.2⟩

/-- Settles O53: each write is what its member's lemma says, carried out in the state that has heard the request. -/
theorem calendarLoomAndLoopWrites : Obligations.CalendarLoomAndLoopWrites := by
  unfold Obligations.CalendarLoomAndLoopWrites
  refine ⟨fun s e data h => ⟨_, exec_calNow_of_goes h, ?calNow⟩, fun s e data h => ⟨_, exec_calSlew_of_goes h, ?calSlew⟩,
    fun s e c hc h => ⟨_, exec_learnReset_of_goes hc h, ?learnReset⟩,
    fun s e c data hc h => ⟨_, exec_override_of_goes hc h, ?override⟩,
    fun s e v hv h => ⟨_, exec_arm_of_goes hv h, ?arm⟩, fun s e v hv h hst => ⟨_, exec_arm_of_goes hv h, ?cancel⟩,
    fun s e z hz h => ⟨_, exec_osLearnReset_of_goes hz h, ?osLearnReset⟩,
    fun s e n hn h => ⟨_, exec_statsReset_of_goes hn h, ?statsReset⟩,
    fun s e n data hn h => ⟨_, exec_mode_of_goes hn h, ?mode⟩,
    fun s e n data hn h => ⟨_, exec_manOut_of_goes hn h, ?manOut⟩,
    fun s e n hn h => ⟨_, exec_rcClear_of_goes hn h, ?rcClear⟩,
    fun s e n data hn h => ⟨_, exec_profile_of_goes hn h, ?profile⟩⟩
  case calNow => rw [answer_cal, calStep_cal, writing_cal]
  case calSlew => simp [calSlewAdd]
  case learnReset =>
    rw [circLearn_of_loom (answer_loom ..) (memberValues_answer ..), circLearn_learnReset,
      circLearn_of_loom (writing_loom s e _ _ _) (memberValues_writing s e _ _ _)]
    simp only [Cfg.circLatInit, Cfg.circRelInit, cfgN, cfgI, cfgVal_of_values (memberValues_writing s e _ _ _)]
  case override =>
    rw [committedVal_answer, committedVal_of_values (memberValues_circRefresh ..), committedVal_writeRw_self]
  case arm =>
    obtain ⟨hst, hsealed, hcommitted, hothers⟩ := armOp_arms (writing s e (0x3600 + v) 9 (bytes1 [1])) v
    simp only [getEvent_answer, committedVal_answer, OthersKept]
    exact ⟨hst, hsealed, hcommitted, fun j hj => (hothers j hj).trans (getEvent_writing ..)⟩
  case cancel =>
    obtain ⟨hcancel, hothers⟩ := armOp_cancels (s := writing s e (0x3600 + v) 9 (bytes1 [0])) (v := v)
      (by rw [getEvent_writing]; exact hst)
    simp only [getEvent_answer, OthersKept]
    exact ⟨hcancel.trans (by rw [getEvent_writing]), fun j hj => (hothers j hj).trans (getEvent_writing ..)⟩
  case osLearnReset => simp +contextual [osLearnReset, OthersKept]
  case statsReset => simp +contextual [statsReset, OthersKept]
  case mode =>
    rw [committedVal_answer, committedVal_writeRw_self, answer_engine, writeRw_engine, writing_engine]
    exact ⟨rfl, rfl⟩
  case manOut =>
    obtain ⟨hlo, hhi⟩ := manOut_in_range hn h
    rw [committedVal_answer, committedVal_writeRw_self, answer_engine, writeRw_engine, writing_engine]
    exact ⟨rfl, hlo, hhi, rfl⟩
  case rcClear => simp +contextual [rcClear, OthersKept]
  case profile => simp +contextual [writeProfile, OthersKept]

end Sys2Proof.Machine
end

section
/-! PROOFS. Circuits at the end of a transition or of a minimum time (03_loom_scheduler, R59–R62, R452). -/

namespace Sys2Proof.Machine

/-- The state with another part of Loom's. -/
def withLoom (s : State) (l : Loom) : State := { s with loom := l }

theorem Within.eq_withLoom {s t : State} (h : Within [.loom] s t) : t = withLoom s t.loom := by
  have hparts := h.parts
  simp only [WithinParts, List.mem_singleton, reduceCtorEq, false_or] at hparts
  cases s
  cases t
  simp_all [withLoom]

/-! ### Requests (R59, R71, R452) -/

theorem OthersKept.trans {α : Type} {get : State → Nat → α} {s t u : State} {k : Nat} (h : OthersKept get s t k)
    (h' : OthersKept get t u k) : OthersKept get s u k := fun j hj => (h' j hj).trans (h j hj)

theorem othersKept_modCirc {s : State} {c : Nat} {f : Circuit → Circuit} : OthersKept getCirc s (modCirc s c f) c :=
  fun j hj => by rw [getCirc_modCirc, if_neg hj]

/-- Circuit `c` looks the same through `v` in `t` as in `s`, and no other circuit changes. -/
def CircKept {β : Type} (v : Circuit → β) (c : Nat) (s t : State) : Prop :=
  v (getCirc t c) = v (getCirc s c) ∧ OthersKept getCirc s t c

section
variable {β : Type} {v : Circuit → β} {c : Nat} {s t u : State}

theorem CircKept.refl : CircKept v c s s := ⟨rfl, fun _ _ => rfl⟩

theorem CircKept.trans (h : CircKept v c s t) (h' : CircKept v c t u) : CircKept v c s u :=
  ⟨h'.1.trans h.1, h.2.trans h'.2⟩

theorem circKept_modCirc {f : Circuit → Circuit} (h : v (f (getCirc s c)) = v (getCirc s c)) :
    CircKept v c s (modCirc s c f) :=
  ⟨by rw [getCirc_modCirc, if_pos rfl, h], othersKept_modCirc⟩

end

/-- What a circuit is but for the command that is due or placed. -/
def Circuit.unasked (r : Circuit) : Circuit := { r with due := none, placed := false }

/-- What no request changes of a circuit: all but its state, its command and its minimum time. -/
def Circuit.lasting (r : Circuit) : Circuit := { r with st := 0, due := none, placed := false, minUntil := 0 }

section
variable {s : State} {c : Nat}

theorem circDirect_of_idle (h : Cfg.circOutput s c ≠ 0xFFFF ∨ (getCirc s c).due = none) : circDirect s c = s := by
  unfold circDirect
  dsimp only
  split
  · next b hdue => exact if_neg fun hgo => h.elim (· hgo.1) (by simp [hdue])
  · rfl

theorem circDirect_of_due {b : Bool} (hout : Cfg.circOutput s c = 0xFFFF) (hdue : (getCirc s c).due = some b)
    (hmin : (getCirc s c).minUntil ≤ s.clk) : circDirect s c = modCirc s c fun r =>
      { r with st := if b then 2 else 0, due := none
               minUntil := after s.clk (secs (if b then Cfg.circMinOn s c else Cfg.circMinOff s c)) } := by
  unfold circDirect
  simp only [hdue]
  exact if_pos ⟨hout, hmin⟩

/-- A circuit that moves straight changes its state, its command and its minimum time. -/
theorem circDirect_kept : CircKept Circuit.lasting c s (circDirect s c) := by
  unfold circDirect
  dsimp only
  split
  · split
    · exact circKept_modCirc rfl
    · exact .refl
  · exact .refl

variable {v : Circuit → Circuit} (hv : ∀ r : Circuit, v r.unasked = v r)
include hv

theorem circWithdraw_kept : CircKept v c s (circWithdraw s c) := by
  unfold circWithdraw
  dsimp only
  split
  · exact circKept_modCirc (hv { getCirc s c with placed := false } ▸ hv (getCirc s c))
  · exact .refl

/-- A request changes what is due and placed, and what moving straight changes. -/
theorem circRefresh_kept (hdirect : ∀ t, Within [.loom] s t → CircKept v c t (circDirect t c)) :
    CircKept v c s (circRefresh s c) := by
  have hdue : ∀ (t : State) (b : Option Bool), CircKept v c t (modCirc t c fun r => { r with due := b }) := fun t b =>
    circKept_modCirc (hv { getCirc t c with due := b } ▸ hv (getCirc t c))
  unfold circRefresh circAsk
  dsimp only
  split_ifs
  · exact .refl
  · split
    · split_ifs
      · exact hdue ..
      · exact (circWithdraw_kept hv).trans (hdue ..)
      · exact (hdue ..).trans (hdirect _ (modCirc_within _ _ _ (.refl _ _) (by decide)))
    · exact .refl

end

theorem circRefresh_lasting (s : State) (c : Nat) : CircKept Circuit.lasting c s (circRefresh s c) :=
  circRefresh_kept (fun _ => rfl) fun _ _ => circDirect_kept

/-- A circuit that drives a channel moves by transitions only: a request leaves all but its command. -/
theorem circRefresh_unasked {s : State} {c : Nat} (hout : Cfg.circOutput s c ≠ 0xFFFF) :
    CircKept Circuit.unasked c s (circRefresh s c) :=
  circRefresh_kept (fun _ => rfl) fun t ht => by
    have hidle : circDirect t c = t := circDirect_of_idle (.inl (by rw [ht.eq_withLoom]; exact hout))
    rw [hidle]
    exact .refl

/-! ### The end of a transition (R59, R60, R62) -/

/-- A circuit whose transition `tr` has ended: the state it led to, and the minimum time from here. -/
def Circuit.ended (s : State) (c : Nat) (tr : Trans) (r : Circuit) : Circuit :=
  { r with st := if tr.close then 2 else 0, trans := none
           minUntil := after s.clk (secs (if tr.close then Cfg.circMinOn s c else Cfg.circMinOff s c)) }

/-- The end of a transition leaves the flags and what has been learned. -/
theorem transEnd_ends {s : State} {c : Nat} {tr : Trans} (htr : (getCirc s c).trans = some tr)
    (hout : Cfg.circOutput s c ≠ 0xFFFF) :
    let t := transEnd s c
    (getCirc t c).trans = none ∧ (getCirc t c).st = (if tr.close then 2 else 0) ∧
      (getCirc t c).minUntil = after s.clk (secs (if tr.close then Cfg.circMinOn s c else Cfg.circMinOff s c)) ∧
      (getCirc t c).flags = (getCirc s c).flags ∧ (getCirc t c).lrn = (getCirc s c).lrn ∧ OthersKept getCirc s t c := by
  have hend : transEnd s c = circRefresh (modCirc s c (Circuit.ended s c tr)) c := by
    unfold transEnd
    simp only [htr]
    rfl
  obtain ⟨hself, hothers⟩ := circRefresh_unasked (s := modCirc s c (Circuit.ended s c tr)) (c := c) hout
  rw [getCirc_modCirc, if_pos rfl] at hself
  simp only [Circuit.unasked, Circuit.ended, Circuit.mk.injEq] at hself
  obtain ⟨hst, -, -, htrans, hmin, hlrn, -, -, -, hflags, -⟩ := hself
  dsimp only
  rw [hend]
  exact ⟨htrans, hst, hmin, hflags, hlrn, othersKept_modCirc.trans hothers⟩

/-- A closure found ends the transition, with nothing missed; what it teaches lies with circuit `c` (R60–R62). -/
theorem closureFound_eq {s : State} {c : Nat} {tr : Trans} (htr : (getCirc s c).trans = some tr) (hclose : tr.close = true)
    (stamp : Nat) :
    ∃ u, closureFound s c stamp = transEnd u c ∧ Within [.loom] s u ∧ CircKept Circuit.trans c s u ∧
      Flag.get (getCirc u c).flags cfNoClosure = false := by
  have hends : ∀ {u}, Within [.loom] s u → CircKept Circuit.trans c s u →
      let w := modCirc u c fun r => circFlag cfNoClosure false r
      Within [.loom] s w ∧ CircKept Circuit.trans c s w ∧ Flag.get (getCirc w c).flags cfNoClosure = false :=
    fun hwithin hkept => ⟨modCirc_within _ _ _ hwithin (by decide), hkept.trans (circKept_modCirc rfl), by
      rw [getCirc_modCirc, if_pos rfl]
      exact Flag.get_set_self _ _ (by decide)⟩
  unfold closureFound setLearn
  simp only [htr, hclose, Bool.not_true, Bool.false_eq_true, if_false]
  refine ⟨_, rfl, ?_⟩
  split
  · exact hends (modCirc_within _ _ _ (.refl _ _) (by decide)) (circKept_modCirc rfl)
  · exact hends (modCirc_within _ _ _ (modCirc_within _ _ _ (.refl _ _) (by decide)) (by decide))
      ((circKept_modCirc rfl).trans (circKept_modCirc rfl))

/-- A circuit whose transition was not found to end. -/
def Circuit.unfound (r : Circuit) : Circuit := circFlag cfExcluded true (circFlag cfNoClosure true r)

theorem Circuit.unfound_flags (r : Circuit) :
    Flag.get r.unfound.flags cfNoClosure = true ∧ Flag.get r.unfound.flags cfExcluded = true :=
  ⟨(Flag.get_set_other _ _ (by decide)).trans (Flag.get_set_self _ _ (by decide)), Flag.get_set_self _ _ (by decide)⟩

section
variable {s : State} {c : Nat} {tr : Trans} (htr : (getCirc s c).trans = some tr) (hdue : tr.deadline ≤ s.clk)
include htr hdue

/-- A closure whose load-current start has been seen ends at it (R60). -/
theorem exec_transitionTimeout_of_load {w : Nat} (hload : tr.load = some w) : exec (.transitionTimeout c) s =
    .next (closureFound s c (w - usToWt s (Cfg.circLoadDelay s c))) := by
  rw [exec_transitionTimeout, execTransitionTimeout]
  simp only [htr, if_pos hdue, hload]

/-- Any other transition ends flagged. -/
theorem exec_transitionTimeout_of_silence (hload : tr.load = none) : exec (.transitionTimeout c) s =
    .next (transEnd (modCirc s c Circuit.unfound) c) := by
  rw [exec_transitionTimeout, execTransitionTimeout]
  simp only [htr, if_pos hdue, hload]
  rfl

end

/-- A circuit's minimum time has passed. -/
def timePassed (s : State) (c : Nat) : State := modCirc s c fun r => { r with minUntil := 0 }

theorem exec_minOnOffExpiry_passed {s : State} {c : Nat} (hset : (getCirc s c).minUntil ≠ 0)
    (hpast : (getCirc s c).minUntil ≤ s.clk) : exec (.minOnOffExpiry c) s = .next (circDirect (timePassed s c) c) := by
  rw [exec_minOnOffExpiry, execMinOnOffExpiry]
  exact congrArg _ (if_pos ⟨hset, hpast⟩)

theorem getCirc_timePassed (s : State) (c : Nat) : getCirc (timePassed s c) c = { getCirc s c with minUntil := 0 } := by
  rw [timePassed, getCirc_modCirc, if_pos rfl]

/-- Settles O11: a transition by `transEnd_ends`, a minimum time by what `circDirect` then does. -/
theorem circuitsEndTheirTransitions : Obligations.CircuitsEndTheirTransitions := by
  unfold Obligations.CircuitsEndTheirTransitions
  refine ⟨fun s c w tr htr hdue hout hclose hload => ?_, fun s c tr htr hdue hout hload => ?_,
    fun s c hset hpast hidle => ?_, fun s c b hset hpast hout hdue => ?_⟩
  · obtain ⟨u, hu, hwithin, ⟨htru, hothers⟩, hflag⟩ :=
      closureFound_eq htr hclose (w - usToWt s (Cfg.circLoadDelay s c))
    rw [hwithin.eq_withLoom] at hu htru hothers hflag
    obtain ⟨htrans, hst, hmin, hflags, -, hkept⟩ := transEnd_ends (htru.trans htr) hout
    simp only [hclose, if_true] at hst hmin
    refine ⟨_, exec_transitionTimeout_of_load htr hdue hload, ?_⟩
    rw [hu]
    exact ⟨htrans, hst, hmin, hflags ▸ hflag, hothers.trans hkept⟩
  · have hfound : getCirc (modCirc s c Circuit.unfound) c = (getCirc s c).unfound := by rw [getCirc_modCirc, if_pos rfl]
    obtain ⟨htrans, hst, hmin, hflags, hlrn, hkept⟩ :=
      transEnd_ends (s := modCirc s c Circuit.unfound) (by rw [hfound]; exact htr) hout
    rw [hfound] at hflags hlrn
    obtain ⟨hmissed, hexcluded⟩ := (getCirc s c).unfound_flags
    exact ⟨_, exec_transitionTimeout_of_silence htr hdue hload, htrans, hst, hmin, hflags ▸ hmissed, hflags ▸ hexcluded,
      hlrn, othersKept_modCirc.trans hkept⟩
  · refine ⟨_, exec_minOnOffExpiry_passed hset hpast, ?_⟩
    rw [circDirect_of_idle (s := timePassed s c) (hidle.imp_right (by rw [getCirc_timePassed]; exact id)),
      getCirc_timePassed]
    exact ⟨rfl, rfl, othersKept_modCirc⟩
  · refine ⟨_, exec_minOnOffExpiry_passed hset hpast, ?_⟩
    rw [circDirect_of_due (s := timePassed s c) hout (by rw [getCirc_timePassed]; exact hdue)
      (by rw [getCirc_timePassed]; exact Nat.zero_le _), getCirc_modCirc, if_pos rfl]
    exact ⟨rfl, rfl, rfl, OthersKept.trans (t := timePassed s c) othersKept_modCirc othersKept_modCirc⟩

end Sys2Proof.Machine
end

section
/-! PROOFS. What Loom stores, switches by the calendar and starts ahead of time (03_loom_scheduler, R64, R69, R71;
05_loop_modes, R130, R131; 07_valve_drive, R176). -/

namespace Sys2Proof.Machine

/-! ### Rounds over the units of a part -/

/-- Where each step of a round leaves what is seen of every other unit, a round makes of one unit what its own step makes
of it. -/
theorem forAll_at {α β : Type} {g : State → β} {f : State → α → State} {i : α}
    (hother : ∀ s x, x ≠ i → g (f s x) = g s) {l : List α} (hnodup : l.Nodup) (hmem : i ∈ l) (s : State) :
    ∃ r, g r = g s ∧ g (forAll l f s) = g (f r i) := by
  obtain ⟨before, later, rfl⟩ := List.append_of_mem hmem
  rw [List.nodup_append, List.nodup_cons] at hnodup
  obtain ⟨-, ⟨hlater, -⟩, hbefore⟩ := hnodup
  have hleaves : ∀ (l : List α), i ∉ l → ∀ s, g (forAll l f s) = g s := by
    intro l hl s
    unfold forAll
    induction l generalizing s with
    | nil => rfl
    | cons x l ih =>
      rw [List.mem_cons, not_or] at hl
      exact (ih hl.2 _).trans (hother s x (Ne.symm hl.1))
  refine ⟨forAll before f s, hleaves before (fun hi => hbefore i hi i List.mem_cons_self rfl) s, ?_⟩
  refine Eq.trans ?_ (hleaves later hlater _)
  simp [forAll]

theorem nodup_upTo (n : Nat) : (upTo n).Nodup := List.nodup_range

theorem mem_upTo {i n : Nat} (h : i < n) : i ∈ upTo n := List.mem_range.mpr h

/-! ### Learned values are stored (R64, R131, R176) -/

/-- The state with the learned values of circuit `c` stored as `l`. -/
def circStored (s : State) (c : Nat) (l : CircLearn) : State :=
  modCirc (learnedWritten { s with mram := { s.mram with circ := Table.put s.mram.circ c l } } c) c
    fun r => { r with dirtyAt := none }

/-- The learned values of circuit `c` are stored where they changed. -/
def storeCirc (s : State) (c : Nat) : State :=
  match (getCirc s c).dirtyAt, (getCirc s c).lrn with
  | some _, some l => circStored s c l
  | _, _ => s

theorem storeCircs_eq (s : State) : storeCircs s = forAll (upTo 32) storeCirc s := rfl

/-- The state with the learned holds of valve `v` stored. -/
def valveStored (s : State) (v : Nat) : State :=
  modVlv (learnedWritten { s with mram := { s.mram with
    vlv := Table.put s.mram.vlv v ((getVlv s v).learned, (getVlv s v).learnedAt) } } (32 + v)) v
    fun r => { r with learnDirty := none }

/-- The learned holds of valve `v` are stored where they changed. -/
def storeValve (s : State) (v : Nat) : State := if (getVlv s v).learnDirty.isSome then valveStored s v else s

theorem storeValves_eq (s : State) : storeValves s = forAll (upTo 16) storeValve s := rfl

/-- The stored rates with those of zone `z`. -/
def ratesWith (s : State) (z : Nat) : Table (Int × Int) :=
  match (getZone s z).rates with
  | some p => Table.put s.mram.zones z p
  | none => Table.del s.mram.zones z

/-- The state with the learned rates of zone `z` stored. -/
def zoneStored (s : State) (z : Nat) : State :=
  modZone (learnedWritten { s with mram := { s.mram with zones := ratesWith s z } } (48 + z)) z
    fun r => { r with dirtyAt := none }

/-- The learned rates of zone `z` are stored where they changed. -/
def storeZone (s : State) (z : Nat) : State := if (getZone s z).dirtyAt.isSome then zoneStored s z else s

theorem storeZones_eq (s : State) : storeZones s = forAll (upTo 64) storeZone s := rfl

theorem getD_ratesWith_self (s : State) (z : Nat) (d : Nat → Int × Int) :
    Table.getD d (ratesWith s z) z = ((getZone s z).rates).getD (d z) := by
  unfold ratesWith
  split
  · next p h => rw [Table.getD_put_self, h, Option.getD_some]
  · next h => rw [Table.getD_del_self, h, Option.getD_none]

theorem getD_ratesWith_other (s : State) {z j : Nat} (h : j ≠ z) (d : Nat → Int × Int) :
    Table.getD d (ratesWith s z) j = Table.getD d s.mram.zones j := by
  unfold ratesWith
  split
  · exact Table.getD_put_other _ _ _ h
  · exact Table.getD_del_other _ _ h

/-- What is held and stored of circuit `c`. -/
def circStore (c : Nat) (s : State) : Circuit × ((Nat → CircLearn) → CircLearn) :=
  (getCirc s c, fun d => Table.getD d s.mram.circ c)

/-- What is held and stored of valve `v`. -/
def valveStore (v : Nat) (s : State) : VlvRt × ((Nat → List Nat × Nat) → List Nat × Nat) :=
  (getVlv s v, fun d => Table.getD d s.mram.vlv v)

/-- What is held and stored of zone `z`. -/
def zoneStore (z : Nat) (s : State) : Zone × ((Nat → Int × Int) → Int × Int) :=
  (getZone s z, fun d => Table.getD d s.mram.zones z)

section
variable (s : State)

theorem circStore_circStored (c : Nat) (l : CircLearn) :
    circStore c (circStored s c l) = ({ getCirc s c with dirtyAt := none }, fun _ => l) := by
  refine Prod.ext ?_ (funext fun d => Table.getD_put_self ..)
  exact (getCirc_modCirc ..).trans (if_pos rfl)

theorem circStore_storeCirc_of_ne {c x : Nat} (h : x ≠ c) : circStore c (storeCirc s x) = circStore c s := by
  unfold storeCirc
  split
  · refine Prod.ext ?_ (funext fun d => Table.getD_put_other _ _ _ h.symm)
    exact (getCirc_modCirc ..).trans (if_neg h.symm)
  · rfl

theorem valveStore_valveStored (v : Nat) : valveStore v (valveStored s v) =
    ({ getVlv s v with learnDirty := none }, fun _ => ((getVlv s v).learned, (getVlv s v).learnedAt)) := by
  refine Prod.ext ?_ (funext fun d => Table.getD_put_self ..)
  exact (getVlv_modVlv ..).trans (if_pos rfl)

theorem valveStore_storeValve_of_ne {v x : Nat} (h : x ≠ v) : valveStore v (storeValve s x) = valveStore v s := by
  unfold storeValve
  split
  · refine Prod.ext ?_ (funext fun d => Table.getD_put_other _ _ _ h.symm)
    exact (getVlv_modVlv ..).trans (if_neg h.symm)
  · rfl

theorem zoneStore_zoneStored (z : Nat) : zoneStore z (zoneStored s z) =
    ({ getZone s z with dirtyAt := none }, fun d => ((getZone s z).rates).getD (d z)) := by
  refine Prod.ext ?_ (funext fun d => getD_ratesWith_self s z d)
  exact (getZone_modZone ..).trans (if_pos rfl)

theorem zoneStore_storeZone_of_ne {z x : Nat} (h : x ≠ z) : zoneStore z (storeZone s x) = zoneStore z s := by
  unfold storeZone
  split
  · refine Prod.ext ?_ (funext fun d => getD_ratesWith_other s h.symm d)
    exact (getZone_modZone ..).trans (if_neg h.symm)
  · rfl

/-- A round over the circuits stores what a circuit has learned. -/
theorem circStore_storeCircs {c : Nat} (hc : c < 32) {l : CircLearn} (hdirty : (getCirc s c).dirtyAt ≠ none)
    (hlrn : (getCirc s c).lrn = some l) :
    circStore c (storeCircs s) = ({ getCirc s c with dirtyAt := none }, fun _ => l) := by
  obtain ⟨r, hr, hround⟩ := forAll_at (g := circStore c) (fun s x h => circStore_storeCirc_of_ne s h) (nodup_upTo 32)
    (mem_upTo hc) s
  have hself : getCirc r c = getCirc s c := congrArg Prod.fst hr
  obtain ⟨at_, hat⟩ := Option.ne_none_iff_exists'.mp hdirty
  have hstep : storeCirc r c = circStored r c l := by
    unfold storeCirc
    rw [hself, hat, hlrn]
  rw [storeCircs_eq, hround, hstep, circStore_circStored, hself]

/-- A round over the valves stores what a valve has learned. -/
theorem valveStore_storeValves {v : Nat} (hv : v < 16) (hdirty : (getVlv s v).learnDirty ≠ none) :
    valveStore v (storeValves s) =
      ({ getVlv s v with learnDirty := none }, fun _ => ((getVlv s v).learned, (getVlv s v).learnedAt)) := by
  obtain ⟨r, hr, hround⟩ := forAll_at (g := valveStore v) (fun s x h => valveStore_storeValve_of_ne s h) (nodup_upTo 16)
    (mem_upTo hv) s
  have hself : getVlv r v = getVlv s v := congrArg Prod.fst hr
  have hstep : storeValve r v = valveStored r v := if_pos (by rwa [hself, Option.isSome_iff_ne_none])
  rw [storeValves_eq, hround, hstep, valveStore_valveStored, hself]

/-- A round over the zones stores what a zone has learned. -/
theorem zoneStore_storeZones {z : Nat} (hz : z < 64) (hdirty : (getZone s z).dirtyAt ≠ none) :
    zoneStore z (storeZones s) =
      ({ getZone s z with dirtyAt := none }, fun d => ((getZone s z).rates).getD (d z)) := by
  obtain ⟨r, hr, hround⟩ := forAll_at (g := zoneStore z) (fun s x h => zoneStore_storeZone_of_ne s h) (nodup_upTo 64)
    (mem_upTo hz) s
  have hself : getZone r z = getZone s z := congrArg Prod.fst hr
  have hstep : storeZone r z = zoneStored r z := if_pos (by rwa [hself, Option.isSome_iff_ne_none])
  rw [storeZones_eq, hround, hstep, zoneStore_zoneStored, hself]

@[simp] theorem circStore_storeValves (c : Nat) : circStore c (storeValves s) = circStore c s := by
  rw [storeValves_eq]
  refine forAll_leaves (circStore c) (fun s v => ?_) _ s
  unfold storeValve
  split <;> rfl

@[simp] theorem circStore_storeZones (c : Nat) : circStore c (storeZones s) = circStore c s := by
  rw [storeZones_eq]
  refine forAll_leaves (circStore c) (fun s z => ?_) _ s
  unfold storeZone
  split <;> rfl

@[simp] theorem valveStore_storeZones (v : Nat) : valveStore v (storeZones s) = valveStore v s := by
  rw [storeZones_eq]
  refine forAll_leaves (valveStore v) (fun s z => ?_) _ s
  unfold storeZone
  split <;> rfl

/-- Storing what the circuits learned touches no valve and no zone. -/
theorem storeCircs_leaves : (storeCircs s).valve = s.valve ∧ (storeCircs s).loom.zones = s.loom.zones := by
  rw [storeCircs_eq]
  refine Prod.mk.inj (forAll_leaves (fun s => (s.valve, s.loom.zones)) (fun s c => ?_) _ s)
  unfold storeCirc
  split <;> rfl

theorem storeValves_zones : (storeValves s).loom.zones = s.loom.zones := by
  rw [storeValves_eq]
  refine forAll_leaves (fun s => s.loom.zones) (fun s v => ?_) _ s
  unfold storeValve
  split <;> rfl

@[simp] theorem getVlv_storeCircs (v : Nat) : getVlv (storeCircs s) v = getVlv s v := by
  rw [getVlv, (storeCircs_leaves s).1, getVlv]

@[simp] theorem getZone_storeCircs (z : Nat) : getZone (storeCircs s) z = getZone s z := by
  rw [getZone, (storeCircs_leaves s).2, getZone]

@[simp] theorem getZone_storeValves (z : Nat) : getZone (storeValves s) z = getZone s z := by
  rw [getZone, storeValves_zones, getZone]

@[simp] theorem storeCircs_lrn (c : Nat) : (getCirc (storeCircs s) c).lrn = (getCirc s c).lrn := by
  rw [storeCircs_eq]
  refine forAll_leaves (fun s => (getCirc s c).lrn) (fun s x => ?_) _ s
  unfold storeCirc
  split
  · simp only [circStored, getCirc_modCirc]
    split
    · next h => subst h; rfl
    · rfl
  · rfl

@[simp] theorem storeZones_rates (z : Nat) : (getZone (storeZones s) z).rates = (getZone s z).rates := by
  rw [storeZones_eq]
  refine forAll_leaves (fun s => (getZone s z).rates) (fun s x => ?_) _ s
  unfold storeZone
  split
  · simp only [zoneStored, getZone_modZone]
    split
    · next h => subst h; rfl
    · rfl
  · rfl

end

/-! ### The schedule switches (R69, R71) -/

/-- The circuit takes the action of a switch instant as its scheduled state. -/
def Circuit.scheduled (x : SwitchAt) (r : Circuit) : Circuit :=
  circFlag cfSkipped x.skipped (circFlag cfRepeated x.repeated { r with sched := some x.on, schedAt := some x.at_ })

theorem circSchedule_takes {s : State} {c : Nat} {x : SwitchAt} (hset : s.cal.st ≠ 0)
    (hx : latestSwitch s (circEntries s c) (utcSec s) = some x) (event : Bool) :
    let t := circSchedule s c event
    (getCirc t c).schedAt = some x.at_ ∧ (getCirc t c).sched = some x.on ∧ OthersKept getCirc s t c := by
  let u := modCirc s c (Circuit.scheduled x)
  have hu : getCirc u c = (getCirc s c).scheduled x := by rw [getCirc_modCirc, if_pos rfl]
  obtain ⟨w, hw, hloom⟩ : ∃ w, circSchedule s c event = circRefresh w c ∧ w.loom = u.loom := by
    unfold circSchedule
    rw [if_neg hset]
    simp only [hx]
    refine ⟨_, rfl, ?_⟩
    exact ite_within (bs := [.dict]) (writeRw_within _ _ _ (.refl _ _) (by decide)) (.refl _ _) .loom (by decide)
  obtain ⟨hself, hothers⟩ := circRefresh_lasting w c
  simp only [getCirc_of_loom hloom, hu, Circuit.lasting, Circuit.mk.injEq] at hself
  obtain ⟨-, -, -, -, -, -, -, -, -, -, -, -, -, hsched, hat, -⟩ := hself
  dsimp only
  rw [hw]
  exact ⟨hat, hsched, fun j hj => (hothers j hj).trans ((getCirc_of_loom hloom j).trans (othersKept_modCirc j hj))⟩

theorem exec_calendarEventDue_circuit {s : State} {c : Nat} {x : SwitchAt} (hc : c < 32) (hen : Cfg.circEnable s c = true)
    (hset : s.cal.st ≠ 0) (hx : latestSwitch s (circEntries s c) (utcSec s) = some x)
    (hnew : (getCirc s c).schedAt ≠ some x.at_) :
    exec (.calendarEventDue (.circuit c)) s = .next (circSchedule s c true) := by
  rw [exec_calendarEventDue, execCalendarEventDue]
  exact congrArg _ (if_pos ⟨hc, hen, hset, by rw [hx]; exact hnew.symm⟩)

/-! ### What the schedule reads (R45–R50, R69, R130): nothing of Loom's -/

section
variable (s : State) (l : Loom)

theorem dstRule_withLoom (year : Int) : dstRule (withLoom s l) year = dstRule s year := rfl

theorem dstSpan_withLoom (year : Int) : dstSpan (withLoom s l) year = dstSpan s year := by
  rw [dstSpan, dstRule_withLoom]
  rfl

theorem tzTzOffset_withLoom : Cfg.tzTzOffset (withLoom s l) = Cfg.tzTzOffset s := rfl

theorem offsetAt_withLoom (t : Int) : offsetAt (withLoom s l) t = offsetAt s t := by
  rw [offsetAt, dstShiftAt, tzTzOffset_withLoom, dstSpan_withLoom]
  rfl

theorem localOf_withLoom (t : Int) : localOf (withLoom s l) t = localOf s t := by
  rw [localOf, offsetAt_withLoom, localOf]

theorem transitionsNear_withLoom (t : Int) : transitionsNear (withLoom s l) t = transitionsNear s t := by
  simp only [transitionsNear, tzTzOffset_withLoom, dstSpan_withLoom]

theorem localToUtc_withLoom (t : Int) : localToUtc (withLoom s l) t = localToUtc s t := by
  simp only [localToUtc, tzTzOffset_withLoom, transitionsNear_withLoom, offsetAt_withLoom, localOf_withLoom]

theorem siteLatitude_withLoom : Cfg.siteLatitude (withLoom s l) = Cfg.siteLatitude s := rfl

theorem siteLongitude_withLoom : Cfg.siteLongitude (withLoom s l) = Cfg.siteLongitude s := rfl

theorem astroEvent_withLoom (k date : Nat) : astroEvent (withLoom s l) k date = astroEvent s k date := by
  simp only [astroEvent, siteLatitude_withLoom, siteLongitude_withLoom, localToUtc_withLoom]
  rfl

theorem entryInstant_withLoom (w : Nat) (d : Int) : entryInstant (withLoom s l) w d = entryInstant s w d := by
  simp only [entryInstant, localToUtc_withLoom, astroEvent_withLoom]

theorem latestSwitch_withLoom (entries : List Nat) (t : Int) :
    latestSwitch (withLoom s l) entries t = latestSwitch s entries t := by
  simp only [latestSwitch, localOf_withLoom, entryInstant_withLoom]

theorem progEntries_withLoom (p : Nat) : progEntries (withLoom s l) p = progEntries s p := rfl

theorem utcSec_withLoom : utcSec (withLoom s l) = utcSec s := rfl

theorem nextOccupied_withLoom (p : Nat) : nextOccupied (withLoom s l) p = nextOccupied s p := by
  simp only [nextOccupied, utcSec_withLoom, progEntries_withLoom, localOf_withLoom, entryInstant_withLoom,
    latestSwitch_withLoom]
  rfl

end

/-! ### The optimum start (R130, R131) -/

theorem othersKept_modZone {s : State} {z : Nat} {f : Zone → Zone} : OthersKept getZone s (modZone s z f) z :=
  fun j hj => by rw [getZone_modZone, if_neg hj]

/-- PRESTART_AT of zone `z` has been reached and its occupied period has not begun: it stays. -/
abbrev prestartFrozen (s : State) (z : Nat) : Prop :=
  (getZone s z).prestartAt ≠ 0 ∧ (getZone s z).prestartAt ≤ s.cal.now ∧ s.cal.now < (getZone s z).tOcc

/-- Zone `z` with its prestart computed anew. -/
def prestartRenewed (s : State) (z : Nat) : Zone :=
  { getZone s z with prestartAt := (prestartAt s z).1, tOcc := (prestartAt s z).2, preHeat := prestartHeats s z }

/-- Zone `z` at second 0 of a local minute. -/
def prestartMinute (s : State) (z : Nat) : State :=
  if prestartFrozen s z then s
  else modZone s z fun r => { r with
    prestartAt := (prestartAt s z).1, tOcc := (prestartAt s z).2, preHeat := prestartHeats s z }

theorem exec_optimumStart_at_minute {s : State} (hminute : localSec s % 60 = 0) : exec .optimumStart s =
    .next (forAll ((upTo 64).filter fun z => Cfg.zoneEnable s z) prestartMinute s) := by
  rw [exec_optimumStart, execOptimumStart, if_neg (not_not.mpr hminute)]
  rfl

theorem getZone_prestartMinute (s : State) (z : Nat) : getZone (prestartMinute s z) z =
    if prestartFrozen s z then getZone s z else prestartRenewed s z := by
  unfold prestartMinute
  split
  · rfl
  · rw [getZone_modZone, if_pos rfl]
    rfl

/-- What the prestart of zone `z` depends on: the zone, and every part but Loom's. -/
def prestartView (l : Loom) (z : Nat) (s : State) : State × Zone := (withLoom s l, getZone s z)

theorem prestartView_prestartMinute_of_ne (l : Loom) {z x : Nat} (h : x ≠ z) (s : State) :
    prestartView l z (prestartMinute s x) = prestartView l z s := by
  unfold prestartMinute
  split
  · rfl
  · simp only [prestartView, getZone_modZone, if_neg h.symm]
    rfl

theorem zoneRates_of_zone {s t : State} {z : Nat} (hvalues : memberValues t = memberValues s)
    (h : getZone t z = getZone s z) : zoneRates t z = zoneRates s z := by
  simp only [zoneRates, h, Cfg.zoneHeatRateInit, Cfg.zoneCoolRateInit, cfgI, cfgVal_of_values hvalues]

theorem prestartAt_withLoom {s : State} {l : Loom} {z : Nat} (h : getZone (withLoom s l) z = getZone s z) :
    prestartAt (withLoom s l) z = prestartAt s z := by
  have hrates : zoneRates (withLoom s l) z = zoneRates s z := zoneRates_of_zone rfl h
  unfold prestartAt
  rw [hrates, nextOccupied_withLoom]
  rfl

/-- Zone `z` after the minute. -/
theorem getZone_optimumStart {s : State} {z : Nat} (hz : z < 64) (hen : Cfg.zoneEnable s z = true) :
    getZone (forAll ((upTo 64).filter fun z => Cfg.zoneEnable s z) prestartMinute s) z =
      if prestartFrozen s z then getZone s z else prestartRenewed s z := by
  obtain ⟨r, hr, hround⟩ := forAll_at (g := prestartView s.loom z)
    (fun s' x h => prestartView_prestartMinute_of_ne s.loom h s') ((nodup_upTo 64).filter fun z => Cfg.zoneEnable s z)
    (List.mem_filter.mpr ⟨mem_upTo hz, hen⟩) s
  obtain ⟨hparts, hzone⟩ := Prod.mk.inj hr
  have hr : r = withLoom s r.loom := (congrArg (fun t => withLoom t r.loom) hparts :)
  refine (congrArg Prod.snd hround).trans ?_
  change getZone (prestartMinute r z) z = _
  rw [getZone_prestartMinute]
  rw [hr] at hzone ⊢
  simp only [prestartFrozen, prestartRenewed, hzone, prestartAt_withLoom hzone]
  rfl

/-! ### The end of a prestart (R131) -/

theorem exec_prestartTimeout_of_late {s : State} {z : Nat} {p : Prestart} (hpre : (getZone s z).pre = some p)
    (hlate : p.tOcc + 3600 * 65536 ≤ s.cal.now) : exec (.prestartTimeout z) s =
      .next (prestartEnd s z s.cal.now (loopPvQ16 s (Cfg.zoneLoop s z))) := by
  rw [exec_prestartTimeout, execPrestartTimeout]
  simp only [hpre]
  exact if_pos hlate

/-- The state in which zone `z` has no prestart that runs. -/
def prestartGone (s : State) (z : Nat) : State := modZone s z fun r => { r with pre := none }

/-- A prestart that ends is gone; unless it was spoilt the zone may learn, and no more than learn. -/
theorem prestartEnd_cases {s : State} {z : Nat} {p : Prestart} (hpre : (getZone s z).pre = some p) (end_ : Nat)
    (pv : Int) :
    prestartEnd s z end_ pv = prestartGone s z ∨ p.bad = false ∧ ∃ learn : Zone → Zone,
      prestartEnd s z end_ pv = modZone (prestartGone s z) z learn ∧ ∀ r, (learn r).pre = r.pre := by
  unfold prestartEnd
  simp only [hpre]
  split
  · exact .inl rfl
  · split
    · exact .inl rfl
    · next hlearns => exact .inr ⟨Bool.eq_false_iff.mpr fun hbad => hlearns (.inl hbad), _, rfl, fun _ => rfl⟩

theorem prestartEnd_ends {s : State} {z : Nat} {p : Prestart} (hpre : (getZone s z).pre = some p) (end_ : Nat)
    (pv : Int) :
    let t := prestartEnd s z end_ pv
    (getZone t z).pre = none ∧ OthersKept getZone s t z ∧ (p.bad = true → (getZone t z).rates = (getZone s z).rates) := by
  have hgone : getZone (prestartGone s z) z = { getZone s z with pre := none } := by
    rw [prestartGone, getZone_modZone, if_pos rfl]
  have hothers : OthersKept getZone s (prestartGone s z) z := othersKept_modZone
  dsimp only
  obtain h | ⟨hgood, learn, h, hlearn⟩ := prestartEnd_cases hpre end_ pv
  · rw [h, hgone]
    exact ⟨rfl, hothers, fun _ => rfl⟩
  · rw [h, getZone_modZone, if_pos rfl, hlearn, hgone, hgood]
    exact ⟨rfl, hothers.trans othersKept_modZone, fun hbad => absurd hbad Bool.false_ne_true⟩

theorem prestartAt_of_off {s : State} {z : Nat} (hoff : Cfg.zoneOsEnable s z = false ∨ s.cal.st = 0) :
    prestartAt s z = (0, 0) := by
  have hnone : (!Cfg.zoneOsEnable s z || s.cal.st == 0) = true := by simpa using hoff
  exact if_pos hnone

/-- Settles O12: a store by what its three rounds leave, the rest by the equation of each case. -/
theorem learningScheduleAndOptimumStart : Obligations.LearningScheduleAndOptimumStart := by
  unfold Obligations.LearningScheduleAndOptimumStart
  refine ⟨fun s => ⟨_, rfl, fun c hc l hdirty hlrn => ?_, fun v hv hdirty => ?_, fun z hz hdirty => ?_, fun c => ?_,
    fun z => ?_⟩, fun s c x hc hen hset hx hnew => ?_, fun s hminute => ?_, fun s z p hpre hlate => ?_⟩
  · have hstore := circStore_storeCircs s hc hdirty hlrn
    rw [← circStore_storeValves, ← circStore_storeZones] at hstore
    obtain ⟨hself, hmram⟩ := Prod.mk.inj hstore
    exact ⟨congrFun hmram, congrArg Circuit.dirtyAt hself⟩
  · have hstore := valveStore_storeValves (storeCircs s) hv (by rwa [getVlv_storeCircs])
    rw [← valveStore_storeZones, getVlv_storeCircs] at hstore
    obtain ⟨hself, hmram⟩ := Prod.mk.inj hstore
    exact ⟨congrFun hmram, congrArg VlvRt.learnDirty hself⟩
  · have hstore := zoneStore_storeZones (storeValves (storeCircs s)) hz (by
      rwa [getZone_storeValves, getZone_storeCircs])
    rw [getZone_storeValves, getZone_storeCircs] at hstore
    obtain ⟨hself, hmram⟩ := Prod.mk.inj hstore
    exact ⟨congrFun hmram, congrArg Zone.dirtyAt hself⟩
  · have hkept : circStore c (storeZones (storeValves (storeCircs s))) = circStore c (storeCircs s) := by simp
    exact (congrArg (fun x => x.1.lrn) hkept).trans (storeCircs_lrn s c)
  · rw [storeZones_rates, getZone_storeValves, getZone_storeCircs]
  · exact ⟨_, exec_calendarEventDue_circuit hc hen hset hx hnew, circSchedule_takes hset hx true⟩
  · refine ⟨_, exec_optimumStart_at_minute hminute, fun z hz hen => ?_⟩
    rw [getZone_optimumStart hz hen]
    refine ⟨fun h => if_pos h, fun h => if_neg h, fun h hoff => ?_⟩
    rw [if_neg h, prestartRenewed, prestartAt_of_off hoff]
  · exact ⟨_, exec_prestartTimeout_of_late hpre hlate, prestartEnd_ends hpre _ _⟩

end Sys2Proof.Machine
end

section
/-! PROOFS. Card instructions that wait, the ends of their waits, and what a seat records (07_valve_drive, R60, R169,
R173–R175). -/

namespace Sys2Proof.Machine

/-! ### The card goes on, jumps or waits -/

theorem othersKept_modVlv {s : State} {v : Nat} {f : VlvRt → VlvRt} : OthersKept getVlv s (modVlv s v f) v :=
  fun j hj => by rw [getVlv_modVlv, if_neg hj]

section
variable (s : State) (v : Nat)

@[simp] theorem getVlv_vlvNext : getVlv (vlvNext s v) v =
    { getVlv s v with pc := (getVlv s v).pc.map (· + 1), wait := .none, issued := some s.clk } := by
  rw [vlvNext, getVlv_modVlv, if_pos rfl]

@[simp] theorem getVlv_vlvJump (a : Nat) : getVlv (vlvJump s v a) v =
    { getVlv s v with pc := some a, wait := .none, issued := some s.clk } := by
  rw [vlvJump, getVlv_modVlv, if_pos rfl]

@[simp] theorem getVlv_vlvWaitOn (w : VlvWait) : getVlv (vlvWaitOn s v w) v =
    { getVlv s v with wait := w, issued := some s.clk } := by
  rw [vlvWaitOn, getVlv_modVlv, if_pos rfl]

end

section
variable {s : State} {v : Nat}

theorem othersKept_vlvNext : OthersKept getVlv s (vlvNext s v) v := othersKept_modVlv

theorem othersKept_vlvJump {a : Nat} : OthersKept getVlv s (vlvJump s v a) v := othersKept_modVlv

theorem othersKept_vlvWaitOn {w : VlvWait} : OthersKept getVlv s (vlvWaitOn s v w) v := othersKept_modVlv

end

/-! ### Instructions that wait (R169) -/

section
variable {s : State} {v w : Nat}

theorem exec_cardWait_issued (h : vlvAt s v 0x08 = some w) :
    exec (.cardWait v) s = .next (vlvWaitOn s v (.time (s.clk + vlvTime (getVlv s v) w))) := by
  rw [exec_cardWait, execCardWait]
  simp only [h]

theorem exec_cardWseat_issued (h : vlvAt s v 0x09 = some w) (hmode : (getVlv s v).det.drop = false) :
    exec (.cardWseat v) s = .next (vlvWaitOn s v (.seat (s.clk + vlvTime (getVlv s v) w) (wTgt w))) := by
  rw [exec_cardWseat, execCardWseat]
  simp only [h, hmode, Bool.false_eq_true, if_false]

theorem exec_cardWcmd_issued (h : vlvAt s v 0x0A = some w) : exec (.cardWcmd v) s = .next (
    if vlvCmdOn s v then modVlv (vlvWaitOn s v .cmdOff) v fun c => { c with wcmdSince := s.clk }
    else modVlv (vlvNext s v) v fun c => { c with leaving := true }) := by
  rw [exec_cardWcmd, execCardWcmd]
  simp only [h]
  split <;> rfl

theorem exec_cardWdrop_issued (h : vlvAt s v 0x0B = some w) :
    exec (.cardWdrop v) s = .next (vlvWaitOn s v (.drop (s.clk + vlvTime (getVlv s v) w) (wTgt w))) := by
  rw [exec_cardWdrop, execCardWdrop]
  simp only [h]

end

/-! ### Waits that end (R169, R174) -/

section
variable {s : State} {v u a : Nat} (hv : v < 16)
include hv

theorem exec_waitExpiry_passed (h : (getVlv s v).wait = .time u) (hu : u ≤ s.clk) :
    exec (.waitExpiry v) s = .next (vlvNext s v) := by
  rw [exec_waitExpiry, execWaitExpiry]
  simp only [h]
  exact if_pos ⟨hv, hu⟩

theorem exec_wseatTimeout_passed (h : (getVlv s v).wait = .seat u a) (hu : u ≤ s.clk) :
    exec (.wseatTimeout v) s = .next (vlvJump s v a) := by
  rw [exec_wseatTimeout, execWseatTimeout]
  simp only [h]
  exact if_pos ⟨hv, hu⟩

theorem exec_wdropTimeout_passed (h : (getVlv s v).wait = .drop u a) (hu : u ≤ s.clk) :
    exec (.wdropTimeout v) s = .next (vlvJump s v a) := by
  rw [exec_wdropTimeout, execWdropTimeout]
  simp only [h]
  exact if_pos ⟨hv, hu⟩

/-- A dropout is found: DROP_REF is taken, and the card goes on with its detector back in seat mode. -/
def dropoutFound (s : State) (v : Nat) : State := detSeat (vlvNext (modVlv s v fun c => { c with dropRef := c.ref }) v) v

theorem exec_dropoutDetected_found (h : (getVlv s v).wait = .drop u a) (hmode : (getVlv s v).det.drop = true)
    (hblank : (getVlv s v).det.blankUntil ≤ s.clk) : exec (.dropoutDetected v) s = .next (dropoutFound s v) := by
  rw [exec_dropoutDetected, execDropoutDetected]
  simp only [h]
  exact if_pos ⟨hv, hmode, hblank⟩

end

/-- Below 32768 a SEATCFG operand asks for seat mode. -/
theorem detOf_drop {s : State} {arg : Nat} (h : arg < 32768) : (detOf s arg).drop = false :=
  decide_eq_false (Nat.not_le.mpr h)

theorem dropoutFound_records (s : State) (v : Nat) :
    let t := dropoutFound s v
    (getVlv t v).dropRef = (getVlv s v).ref ∧ (getVlv t v).det.drop = false ∧
      (getVlv t v).pc = (getVlv s v).pc.map (· + 1) ∧ (getVlv t v).wait = .none ∧ OthersKept getVlv s t v := by
  dsimp only
  refine ⟨?_, ?_, ?_, ?_, (othersKept_modVlv.trans othersKept_vlvNext).trans othersKept_modVlv⟩ <;>
    rw [dropoutFound, detSeat, getVlv_modVlv, if_pos rfl]
  · rw [getVlv_vlvNext, getVlv_modVlv, if_pos rfl]
  · exact detOf_drop (Nat.mod_lt _ (by decide))
  · rw [getVlv_vlvNext, getVlv_modVlv, if_pos rfl]
  · rw [getVlv_vlvNext]

/-! ### Seats (R60, R173, R175) -/

/-- The stamp of a seat and the time from the card start, on the way on. -/
def seatStamped (s : State) (v stamp : Nat) : State :=
  modVlv (vlvNext s v) v fun c => { c with
    seatStamp := stamp
    pullinTime := if c.learning then c.pullinTime else (wtToUs s ((stamp : Int) - c.startWarp)).toNat }

theorem exec_seatDetected_found {s : State} {v u a stamp : Nat} (hv : v < 16) (h : (getVlv s v).wait = .seat u a)
    (harmed : (getVlv s v).det.armed = true) (hmode : (getVlv s v).det.drop = false)
    (hblank : afterBlank s (getVlv s v).det stamp = true) (eCoil eMag : Nat) :
    exec (.seatDetected v stamp eCoil eMag) s = .next (loomSeat (vlvEnergy (seatStamped s v stamp) v eCoil eMag) v stamp
      (Flag.get (getVlv s v).flags fPullinDelayed)) := by
  rw [exec_seatDetected, execSeatDetected]
  simp only [h]
  exact if_pos ⟨hv, harmed, by simp [hmode], hblank⟩

theorem getVlv_of_valve {s t : State} (h : t.valve = s.valve) (v : Nat) : getVlv t v = getVlv s v := by
  rw [getVlv, h, getVlv]

@[simp] theorem getVlv_loomSeat (s : State) (v stamp : Nat) (delayed : Bool) (j : Nat) :
    getVlv (loomSeat s v stamp delayed) j = getVlv s j :=
  getVlv_of_valve (loomSeat_within (bs := [.loom]) s v stamp delayed (.refl _ _) (by decide) .valve (by decide)) j

/-- A channel but for the energies of its pull-in and its flags. -/
def VlvRt.withoutEnergy (c : VlvRt) : VlvRt := { c with eCoil := 0, eMag := 0, energyFactor := 0, flags := 0 }

section
variable (c : VlvRt)

@[simp] theorem withoutEnergy_pc : c.withoutEnergy.pc = c.pc := rfl
@[simp] theorem withoutEnergy_wait : c.withoutEnergy.wait = c.wait := rfl
@[simp] theorem withoutEnergy_seatStamp : c.withoutEnergy.seatStamp = c.seatStamp := rfl
@[simp] theorem withoutEnergy_pullinTime : c.withoutEnergy.pullinTime = c.pullinTime := rfl

end

section
variable {s : State} {v : Nat}

/-- The energies of a pull-in, and the flag that they raise, are all that R175 records. -/
theorem vlvEnergy_records (s : State) (v eCoil eMag : Nat) :
    (getVlv (vlvEnergy s v eCoil eMag) v).withoutEnergy = (getVlv s v).withoutEnergy ∧
      OthersKept getVlv s (vlvEnergy s v eCoil eMag) v := by
  have hfree : ∀ j, getVlv (if eMag = 0 then takeFree s else (0, s)).2 j = getVlv s j := fun j => by split <;> rfl
  unfold vlvEnergy
  dsimp only
  split
  · exact ⟨rfl, fun _ _ => rfl⟩
  · split
    · exact ⟨by rw [getVlv_modVlv, if_pos rfl]; rfl, othersKept_modVlv⟩
    · refine ⟨?_, fun j hj => (othersKept_modVlv j hj).trans (hfree j)⟩
      rw [getVlv_modVlv, if_pos rfl, hfree]
      exact (apply_ite VlvRt.withoutEnergy _ _ _).trans (ite_self _)

theorem vlvEnergy_of_measured {eCoil eMag : Nat} (hcard : (getVlv s v).card = 0x110) (hpull : (getVlv s v).learning = false)
    (hres : (getVlv s v).coilRes ≠ 0) (hmag : eMag ≠ 0) :
    let c := getVlv (vlvEnergy s v eCoil eMag) v
    c.eCoil = eCoil ∧ c.eMag = eMag ∧ c.energyFactor = roundDiv (eCoil * 65536) eMag := by
  have hgo : ¬ ((getVlv s v).card ≠ 0x110 ∨ (getVlv s v).learning = true) := by simp [hcard, hpull]
  simp only [vlvEnergy, if_neg hgo, if_neg hres, if_neg hmag, getVlv_modVlv, if_true]
  split <;> exact ⟨rfl, rfl, rfl⟩

theorem vlvEnergy_of_unmeasured (hcard : (getVlv s v).card = 0x110) (hpull : (getVlv s v).learning = false)
    (hres : (getVlv s v).coilRes = 0) (eCoil eMag : Nat) : (getVlv (vlvEnergy s v eCoil eMag) v).energyFactor = 0 := by
  have hgo : ¬ ((getVlv s v).card ≠ 0x110 ∨ (getVlv s v).learning = true) := by simp [hcard, hpull]
  rw [vlvEnergy]
  dsimp only
  rw [if_neg hgo, if_pos hres, getVlv_modVlv, if_pos rfl]

theorem getVlv_seatStamped (hpull : (getVlv s v).learning = false) (stamp : Nat) : getVlv (seatStamped s v stamp) v =
    { getVlv s v with
      pc := (getVlv s v).pc.map (· + 1), wait := .none, issued := some s.clk, seatStamp := stamp
      pullinTime := (wtToUs s ((stamp : Int) - (getVlv s v).startWarp)).toNat } := by
  rw [seatStamped, getVlv_modVlv, if_pos rfl, getVlv_vlvNext]
  simp only [hpull, Bool.false_eq_true, if_false]

theorem othersKept_seatStamped {stamp : Nat} : OthersKept getVlv s (seatStamped s v stamp) v :=
  othersKept_vlvNext.trans othersKept_modVlv

end

/-- Settles O22: each instruction and each end of a wait by its equation, a seat by what its stamp and energies leave. -/
theorem cardWaitsAndSeats : Obligations.CardWaitsAndSeats := by
  unfold Obligations.CardWaitsAndSeats
  refine ⟨fun s v w => ⟨fun h => ?_, fun h hmode => ?_, fun h => ?_, fun h => ?_⟩,
    fun s v u a hv hu => ⟨fun h => ?_, fun h => ?_, fun h => ?_⟩, fun s v u a hv h hmode hblank => ?_,
    fun s v u a stamp eCoil eMag hv h harmed hmode hblank hpull => ?_⟩
  · exact ⟨_, exec_cardWait_issued h, by simp, by simp, othersKept_vlvWaitOn⟩
  · exact ⟨_, exec_cardWseat_issued h hmode, by simp, by simp, othersKept_vlvWaitOn⟩
  · refine ⟨_, exec_cardWcmd_issued h, ?_⟩
    cases vlvCmdOn s v with
    | true => simpa using othersKept_vlvWaitOn.trans (othersKept_modVlv (s := vlvWaitOn s v .cmdOff))
    | false => simpa using othersKept_vlvNext.trans (othersKept_modVlv (s := vlvNext s v))
  · exact ⟨_, exec_cardWdrop_issued h, by simp, by simp, othersKept_vlvWaitOn⟩
  · exact ⟨_, exec_waitExpiry_passed hv h hu, by simp, by simp, othersKept_vlvNext⟩
  · exact ⟨_, exec_wseatTimeout_passed hv h hu, by simp, by simp, othersKept_vlvJump⟩
  · exact ⟨_, exec_wdropTimeout_passed hv h hu, by simp, by simp, othersKept_vlvJump⟩
  · exact ⟨_, exec_dropoutDetected_found hv h hmode hblank, dropoutFound_records s v⟩
  · have hself := getVlv_seatStamped hpull stamp
    obtain ⟨hkept, hothers⟩ := vlvEnergy_records (seatStamped s v stamp) v eCoil eMag
    rw [hself] at hkept
    refine ⟨_, exec_seatDetected_found hv h harmed hmode hblank eCoil eMag, ?_⟩
    simp only [getVlv_loomSeat, OthersKept]
    refine ⟨by simpa using congrArg VlvRt.seatStamp hkept, by simpa using congrArg VlvRt.pc hkept,
      by simpa using congrArg VlvRt.wait hkept, by simpa using congrArg VlvRt.pullinTime hkept,
      fun hcard hres hmag => ?_, fun hcard hres => ?_, othersKept_seatStamped.trans hothers⟩
    · exact vlvEnergy_of_measured (by rwa [hself]) (by rwa [hself]) (by rwa [hself]) hmag
    · exact vlvEnergy_of_unmeasured (by rwa [hself]) (by rwa [hself]) (by rwa [hself]) eCoil eMag

end Sys2Proof.Machine
end

section
/-! PROOFS. User events, rule rounds and the zones they decide (03_loom_scheduler, R74–R80, R391). -/

namespace Sys2Proof.Machine

/-! ### User events act (R80, R391) -/

theorem othersKept_modEvent {s : State} {e : Nat} {f : UEvent → UEvent} : OthersKept getEvent s (modEvent s e f) e :=
  fun j hj => by rw [getEvent_modEvent, if_neg hj]

@[simp] theorem snapFire_loom (s : State) (slot source detail : Nat) (late : Bool) :
    (snapFire s slot source detail late).loom = s.loom :=
  snapFire_within (bs := [.can, .snap]) s slot source detail late (.refl _ _) (by decide) (by decide) .loom (by decide)

/-- Only an event that writes enters an armed set. -/
theorem actsInSet_of_trigger (s : State) (domain target : Nat) : actsInSet s domain 2 target = false := by
  simp [actsInSet]

/-- An event whose target is no command of a channel enters no armed set. -/
theorem actsInSet_of_no_channel {s : State} {target : Nat} (h : cmdChannel (target / 256) (target % 256) = none)
    (domain action : Nat) : actsInSet s domain action target = false := by
  simp [actsInSet, h]

section
variable {s : State} {e : Nat}

/-- An event that triggers a snapshot is over, done or LATE. -/
theorem eventAct_ends (haction : (getEvent s e).action = 2) (late : Bool) :
    (getEvent (eventAct s e late) e).st = (if late then 3 else 2) ∧ OthersKept getEvent s (eventAct s e late) e := by
  have hact : (eventAct s e late).loom = (eventEnd s e late).loom := by
    unfold eventAct
    dsimp only
    rw [if_pos haction]
    exact snapFire_loom ..
  refine ⟨?_, fun j hj => (getEvent_of_loom hact j).trans (othersKept_modEvent j hj)⟩
  rw [getEvent_of_loom hact, eventEnd, getEvent_modEvent, if_pos rfl]

variable (he : e < 64) (hst : (getEvent s e).st = 1)
include he hst

theorem userEvent_armed : ¬ ((getEvent s e).st ≠ 1 ∨ 64 ≤ e) := by simp [hst, he]

/-- An event of the mains-phase domain that enters no armed set, once its Warp time has come. -/
theorem exec_userEventAct_warp (hdomain : (getEvent s e).domain = 0)
    (hset : actsInSet s (getEvent s e).domain (getEvent s e).action (getEvent s e).target = false)
    (hpast : (getEvent s e).whenWarp ≤ warpNow s) :
    exec (.userEventAct e) s = .next (eventAct s e (getEvent s e).late) :=
  congrArg _ ((if_neg (userEvent_armed he hst)).trans ((if_pos hdomain).trans (if_pos ⟨by simp [hset], hpast⟩)))

/-- A calendar event whose time has come. -/
theorem exec_userEventAct_calendar (hdomain : (getEvent s e).domain = 1) (hset : s.cal.st ≠ 0)
    (hpast : (getEvent s e).whenCal ≤ s.cal.now) : exec (.userEventAct e) s = .next (eventCalendar s e) :=
  congrArg _ ((if_neg (userEvent_armed he hst)).trans ((if_neg (by simp [hdomain])).trans
    ((if_pos hdomain).trans (if_pos ⟨hset, hpast⟩))))

/-- An event of the sample domain whose sample has passed. -/
theorem exec_userEventAct_sample (hdomain : (getEvent s e).domain = 2)
    (hpast : (getEvent s e).sample ≤ (getLoop s (getEvent s e).loop).samples) :
    exec (.userEventAct e) s = .next (eventAct s e true) :=
  congrArg _ ((if_neg (userEvent_armed he hst)).trans ((if_neg (by simp [hdomain])).trans
    ((if_neg (by simp [hdomain])).trans (if_pos hpast))))

/-- A trigger of a snapshot acts at its time in its domain; of the sample domain, when its sample has passed. -/
theorem exec_userEventAct_trigger (haction : (getEvent s e).action = 2)
    (hdue : (getEvent s e).domain = 0 ∧ (getEvent s e).whenWarp ≤ warpNow s ∨
      (getEvent s e).domain = 1 ∧ s.cal.st ≠ 0 ∧ (getEvent s e).whenCal ≤ s.cal.now ∨
      (getEvent s e).domain = 2 ∧ (getEvent s e).sample ≤ (getLoop s (getEvent s e).loop).samples) :
    exec (.userEventAct e) s = .next (eventAct s e ((getEvent s e).late || decide ((getEvent s e).domain = 2))) := by
  obtain ⟨hdomain, hpast⟩ | ⟨hdomain, hset, hpast⟩ | ⟨hdomain, hpast⟩ := hdue
  · rw [exec_userEventAct_warp he hst hdomain (by rw [haction, actsInSet_of_trigger]) hpast]
    simp [hdomain]
  · have hact : eventCalendar s e = eventAct s e (getEvent s e).late := by
      unfold eventCalendar
      simp [haction, actsInSet_of_trigger]
    rw [exec_userEventAct_calendar he hst hdomain hset hpast, hact]
    simp [hdomain]
  · rw [exec_userEventAct_sample he hst hdomain hpast]
    simp [hdomain]

end

/-- A calendar event on the set-point of loop `n` becomes one of the loop's next sample (R53). -/
theorem eventCalendar_setPoint {s : State} {e n : Nat} (hn : n < 256) (haction : (getEvent s e).action = 0)
    (htarget : (getEvent s e).target = (0x4000 + n) * 256 + 15) : eventCalendar s e =
      modEvent s e fun r => { r with domain := 2, loop := n, sample := (getLoop s n).samples + 1 } := by
  have hobj : (getEvent s e).target / 256 = 0x4000 + n := by omega
  have hmem : (getEvent s e).target % 256 = 15 := by omega
  have hchan : cmdChannel ((getEvent s e).target / 256) ((getEvent s e).target % 256) = none := by
    simp [cmdChannel, hmem]
  have hloop : (getEvent s e).target / 256 - 0x4000 = n := by omega
  unfold eventCalendar
  dsimp only
  rw [actsInSet_of_no_channel hchan, if_neg Bool.false_ne_true, if_pos ⟨haction, by omega, by omega, hmem⟩, hloop]

/-! ### A rule fires (R77) -/

theorem othersKept_modRule {s : State} {r : Nat} {f : RuleRt → RuleRt} : OthersKept getRule s (modRule s r f) r :=
  fun j hj => by rw [getRule_modRule, if_neg hj]

theorem getRule_of_loom {s t : State} (h : t.loom = s.loom) (r : Nat) : getRule t r = getRule s r := by
  rw [getRule, h, getRule]

/-- The condition of a rule now (R77). -/
def ruleHolds (s : State) (r : Nat) : Bool :=
  ruleCond (getRule s r).cond (Cfg.ruleOperator s r) (ruleOperands s r).1 (ruleOperands s r).2 (Cfg.ruleHyst s r)

/-- The instant since which the condition has held. -/
def ruleSince (s : State) (r : Nat) : Nat := if ruleHolds s r && !(getRule s r).cond then s.clk else (getRule s r).since

/-- The condition has held for DELAY. -/
def ruleCounts (s : State) (r : Nat) : Bool :=
  ruleHolds s r && decide (after (ruleSince s r) (msecs (Cfg.ruleDelay s r)) ≤ s.clk)

/-- The edge that TRIGGER names, from what counted in the last round to what counts now. -/
def ruleEdge (trigger : Nat) (before now : Bool) : Bool :=
  match trigger with
  | 0 => now && !before
  | 1 => !now && before
  | _ => now != before

theorem ruleEdge_count (trigger : Nat) (before now : Bool) : (if ruleEdge trigger before now then 1 else 0) =
    match trigger with
    | 0 => if now && !before then 1 else 0
    | 1 => if !now && before then 1 else 0
    | _ => if now != before then 1 else 0 := by
  unfold ruleEdge
  split <;> rfl

/-- The state in which the round has noted the rule's condition. -/
def ruleNoted (s : State) (r : Nat) : State :=
  modRule s r fun x => { x with cond := ruleHolds s r, since := ruleSince s r, counted := ruleCounts s r }

theorem ruleEval_eq (s : State) (r : Nat) : ruleEval s r =
    if ruleEdge (Cfg.ruleTrigger s r) (getRule s r).counted (ruleCounts s r) && ruleHere (ruleNoted s r) r then
      ruleAct (ruleNoted s r) r else ruleNoted s r := rfl

/-- A rule that triggers a snapshot fires on every module. -/
theorem ruleHere_of_trigger {s : State} {r : Nat} (h : Cfg.ruleAction s r = 2) : ruleHere s r = true := by
  simp [ruleHere, h]

theorem ruleAct_loom {s : State} {r : Nat} (h : Cfg.ruleAction s r = 2) :
    (ruleAct s r).loom = (modRule s r fun x => { x with fires := x.fires + 1 }).loom := by
  have haction : Cfg.ruleAction (modRule s r fun x => { x with fires := x.fires + 1 }) r = 2 := h
  unfold ruleAct
  simp only [haction]
  exact snapFire_loom ..

/-- A rule of ACTION 2 notes its condition, counts the edge where there is one, and touches no other rule. -/
theorem ruleEval_trigger {s : State} {r : Nat} (h : Cfg.ruleAction s r = 2) :
    getRule (ruleEval s r) r = { getRule s r with
      cond := ruleHolds s r, since := ruleSince s r, counted := ruleCounts s r
      fires := (getRule s r).fires +
        if ruleEdge (Cfg.ruleTrigger s r) (getRule s r).counted (ruleCounts s r) then 1 else 0 } ∧
      OthersKept getRule s (ruleEval s r) r := by
  have hnoted : getRule (ruleNoted s r) r = { getRule s r with
      cond := ruleHolds s r, since := ruleSince s r, counted := ruleCounts s r } := by
    rw [ruleNoted, getRule_modRule, if_pos rfl]
  have hothers : OthersKept getRule s (ruleNoted s r) r := othersKept_modRule
  have haction : Cfg.ruleAction (ruleNoted s r) r = 2 := h
  rw [ruleEval_eq, ruleHere_of_trigger haction, Bool.and_true]
  split
  · have hloom := ruleAct_loom haction
    refine ⟨?_, fun j hj => ?_⟩
    · rw [getRule_of_loom hloom, getRule_modRule, if_pos rfl, hnoted]
    · rw [getRule_of_loom hloom, getRule_modRule, if_neg hj, hothers j hj]
  · exact ⟨hnoted, hothers⟩

/-! ### Zones (R74–R76) -/

/-- The parts of the state that a decision for a zone writes: the zone, the set-point of its loop, the mirror of the zone,
and its alarm. -/
def zoneParts : List Block := [.loom, .engine, .pair, .alarms]

/-- `s` with those parts of `t`. -/
def withZoneParts (s t : State) : State :=
  { s with loom := t.loom, engine := t.engine, pair := t.pair, alarms := t.alarms }

theorem Within.eq_withZoneParts {s t : State} (h : Within zoneParts s t) : t = withZoneParts s t := by
  have hparts := h.parts
  simp only [WithinParts, zoneParts, List.mem_cons, List.not_mem_nil, reduceCtorEq, or_false, false_or] at hparts
  cases s
  cases t
  simp_all [withZoneParts]

/-- In `t` zone `z` has the mode and the set-point that `s` gives it (R74). -/
def ZoneDecided (s t : State) (z : Nat) : Prop :=
  (Cfg.zoneModeRequest s z ≠ 0 → (getZone t z).mode = Cfg.zoneModeRequest s z) ∧
    (Cfg.zoneModeRequest s z = 0 → zoneIn s (Cfg.zoneOpenInput s z) = some 0 → (getZone t z).mode = 4) ∧
    (getZone t z).sp = zoneSp s z (getZone t z).mode

theorem ZoneDecided.congr {s t u : State} {z : Nat} (h : ZoneDecided s t z) (hzone : getZone u z = getZone t z) :
    ZoneDecided s u z := by
  rwa [ZoneDecided, hzone]

/-- What a zone is given rests on no part that the zones' turns write. -/
theorem ZoneDecided.of_parts {s t u : State} {z : Nat} (h : ZoneDecided (withZoneParts s t) u z) : ZoneDecided s u z := h

theorem zoneMode_of_request {s : State} {z : Nat} (h : Cfg.zoneModeRequest s z ≠ 0) :
    zoneMode s z = Cfg.zoneModeRequest s z := if_pos h

theorem zoneMode_of_open {s : State} {z : Nat} (h : Cfg.zoneModeRequest s z = 0)
    (hopen : zoneIn s (Cfg.zoneOpenInput s z) = some 0) : zoneMode s z = 4 :=
  (if_neg (not_not.mpr h)).trans (if_pos hopen)

theorem zoneDecided_of_mode {s t : State} {z : Nat} (hmode : (getZone t z).mode = zoneMode s z)
    (hsp : (getZone t z).sp = zoneSp s z (zoneMode s z)) : ZoneDecided s t z :=
  ⟨fun h => hmode.trans (zoneMode_of_request h), fun h hopen => hmode.trans (zoneMode_of_open h hopen), hmode ▸ hsp⟩

section
variable (s : State) (z : Nat)

@[simp] theorem getZone_sendMirror (i : MirrorItem) : getZone (sendMirror s i) z = getZone s z :=
  getZone_of_loom (sendMirror_within (bs := [.pair]) s i (.refl _ _) (by decide) .loom (by decide)) z

/-- Handing a set-point to a loop, where there is one, writes nothing of Loom's. -/
theorem handOver_loom (n : Nat) (f : LoopRt → LoopRt) : (if n < 256 then modLoop s n f else s).loom = s.loom := by
  split <;> rfl

@[simp] theorem getZone_zoneAlarm (x : Nat) : getZone (zoneAlarm s x) z = getZone s z :=
  getZone_of_loom (zoneAlarm_within (bs := [.alarms]) s x (.refl _ _) (by decide) .loom (by decide)) z

theorem othersKept_zonePre (old new_ : Nat) : OthersKept getZone s (zonePre s z old new_) z := by
  unfold zonePre
  dsimp only
  split_ifs
  · exact othersKept_modZone
  · exact othersKept_modZone
  · exact fun _ _ => rfl

/-- What a decision makes of its zone, and that it touches no other. -/
theorem zoneDecide_decides : let u := zoneAlarm s z
    (getZone (zoneDecide s z) z).mode = zoneMode u z ∧ (getZone (zoneDecide s z) z).sp = zoneSp u z (zoneMode u z) ∧
      OthersKept getZone s (zoneDecide s z) z := by
  unfold zoneDecide
  dsimp only
  split
  · next hsame => exact ⟨hsame.1, hsame.2, fun j _ => getZone_zoneAlarm s j z⟩
  · simp only [getZone_sendMirror, OthersKept]
    refine ⟨?_, ?_, fun j hj => ?_⟩
    · rw [getZone_of_loom (handOver_loom ..), getZone_modZone, if_pos rfl]
    · rw [getZone_of_loom (handOver_loom ..), getZone_modZone, if_pos rfl]
    · rw [getZone_of_loom (handOver_loom ..), getZone_modZone, if_neg hj, othersKept_zonePre _ _ _ _ j hj, getZone_zoneAlarm]

end

/-- The decision for zone `z` gives it the mode and the set-point of its state. -/
theorem zoneDecide_zoneDecided (s : State) (z : Nat) : ZoneDecided s (zoneDecide s z) z := by
  obtain ⟨hmode, hsp, -⟩ := zoneDecide_decides s z
  rw [(zoneAlarm_within s z (.refl zoneParts s) (by decide)).eq_withZoneParts] at hmode hsp
  exact (zoneDecided_of_mode hmode hsp).of_parts

/-! ### A round (R79) -/

theorem forAll_of_idle {α : Type} {f : State → α → State} {l : List α} {s : State} (h : ∀ x ∈ l, f s x = s) :
    forAll l f s = s := by
  unfold forAll
  induction l with
  | nil => rfl
  | cons x l ih =>
    rw [List.foldl_cons, h x List.mem_cons_self]
    exact ih fun y hy => h y (List.mem_cons_of_mem _ hy)

/-- Zone `z` in a round. -/
def zoneTurn (s : State) (z : Nat) : State := if released s && Cfg.zoneEnable s z then zoneDecide s z else s

theorem zoneTurn_within {s₀ s : State} (h : Within zoneParts s₀ s) (z : Nat) : Within zoneParts s₀ (zoneTurn s z) :=
  ite_within (zoneDecide_within _ _ h (by decide) (by decide) (by decide) (by decide)) h

theorem zoneRound_within (s : State) : Within zoneParts s (forAll (upTo 64) zoneTurn s) :=
  forAll_within _ _ _ (fun _ z ht => zoneTurn_within ht z) (.refl _ _)

/-- With no rule enabled and no new table a round is the zones' turns. -/
theorem ruleRound_of_no_rules {s : State} (hwait : SyncUnit.rules ∉ s.dict.waiting) (hfresh : s.loom.freshRules = false)
    (hrules : ∀ r < 512, Cfg.ruleEnable s r = false) : ruleRound s = forAll (upTo 64) zoneTurn s := by
  have hstart : (s.dict.waiting.contains .rules || s.loom.freshRules) = false := by simp [hwait, hfresh]
  have hidle : forAll (upTo 512) (fun s r => if released s && Cfg.ruleEnable s r then ruleEval s r else s) s = s :=
    forAll_of_idle fun r hr => by simp [hrules r (List.mem_range.mp hr)]
  unfold ruleRound
  rw [hstart]
  exact congrArg (forAll (upTo 64) zoneTurn) hidle

/-- What the turn of zone `z` depends on: the zone, and every part but those that the zones' turns write. -/
def zoneView (s₀ : State) (z : Nat) (s : State) : State × Zone := (withZoneParts s s₀, getZone s z)

theorem zoneView_zoneTurn_of_ne (s₀ : State) {z x : Nat} (h : x ≠ z) (s : State) :
    zoneView s₀ z (zoneTurn s x) = zoneView s₀ z s := by
  refine Prod.ext ?_ ?_
  · change withZoneParts (zoneTurn s x) s₀ = withZoneParts s s₀
    rw [(zoneTurn_within (.refl _ s) x).eq_withZoneParts]
    rfl
  · change getZone (zoneTurn s x) z = getZone s z
    unfold zoneTurn
    split
    · obtain ⟨-, -, hothers⟩ := zoneDecide_decides s x
      exact hothers z h.symm
    · rfl

/-- Every zone in use has its mode and set-point after the round. -/
theorem zoneDecided_round {s : State} {z : Nat} (hout : released s = true) (hz : z < 64) (hen : Cfg.zoneEnable s z = true) :
    ZoneDecided s (forAll (upTo 64) zoneTurn s) z := by
  obtain ⟨r, hr, hround⟩ := forAll_at (g := zoneView s z) (fun s' x h => zoneView_zoneTurn_of_ne s h s') (nodup_upTo 64)
    (mem_upTo hz) s
  obtain ⟨t, rfl⟩ : ∃ t, r = withZoneParts s t := ⟨r, (congrArg (fun t => withZoneParts t r) (Prod.mk.inj hr).1 :)⟩
  have hruns : released (withZoneParts s t) = true := hout
  have huses : Cfg.zoneEnable (withZoneParts s t) z = true := hen
  have hturn : zoneTurn (withZoneParts s t) z = zoneDecide (withZoneParts s t) z := by
    rw [zoneTurn, hruns, huses, Bool.and_self, if_pos rfl]
  rw [hturn] at hround
  obtain ⟨-, hzone⟩ := Prod.mk.inj hround
  exact (zoneDecide_zoneDecided (withZoneParts s t) z).of_parts.congr hzone

/-- The instant of the next round and the count of the rounds that lasted longer. -/
def roundNotes (s : State) : Nat × Nat := (s.loom.nextRound, s.loom.ruleOverruns)

theorem roundNotes_of_loom {s t : State} (h : t.loom = s.loom) : roundNotes t = roundNotes s := by
  rw [roundNotes, h, roundNotes]

theorem roundNotes_zonePre (s : State) (z old new_ : Nat) : roundNotes (zonePre s z old new_) = roundNotes s := by
  unfold zonePre
  dsimp only
  split_ifs <;> rfl

theorem roundNotes_zoneDecide (s : State) (z : Nat) : roundNotes (zoneDecide s z) = roundNotes s := by
  have halarm : roundNotes (zoneAlarm s z) = roundNotes s :=
    roundNotes_of_loom (zoneAlarm_within (bs := [.alarms]) s z (.refl _ _) (by decide) .loom (by decide))
  have hmirror : ∀ t i, roundNotes (sendMirror t i) = roundNotes t := fun t i =>
    roundNotes_of_loom (sendMirror_within (bs := [.pair]) t i (.refl _ _) (by decide) .loom (by decide))
  have hzone : ∀ (t : State) (f : Zone → Zone), roundNotes (modZone t z f) = roundNotes t := fun _ _ => rfl
  unfold zoneDecide
  dsimp only
  split
  · exact halarm
  · rw [hmirror, roundNotes_of_loom (handOver_loom ..), hzone, roundNotes_zonePre, halarm]

theorem roundNotes_round (s : State) : roundNotes (forAll (upTo 64) zoneTurn s) = roundNotes s := by
  refine forAll_leaves roundNotes (fun s z => ?_) _ s
  unfold zoneTurn
  split
  · exact roundNotes_zoneDecide s z
  · rfl

/-- The round is over, and the next one is due. -/
def roundOver (s : State) (overran : Bool) : State :=
  if overran then { s with loom := { s.loom with ruleOverruns := s.loom.ruleOverruns + 1, nextRound := s.clk } }
  else { s with loom := { s.loom with nextRound := after s.loom.nextRound (msecs 10) } }

@[simp] theorem getZone_roundOver (s : State) (overran : Bool) (z : Nat) : getZone (roundOver s overran) z = getZone s z := by
  cases overran <;> rfl

/-- A round that has left the notes of `s`: the next one is due 10 ms on, or at once after one that lasted longer. -/
theorem roundNotes_roundOver {s t : State} (hclk : t.clk = s.clk) (hnotes : roundNotes t = roundNotes s) (overran : Bool) :
    roundNotes (roundOver t overran) =
      (if overran then s.clk else after s.loom.nextRound (msecs 10), s.loom.ruleOverruns + if overran then 1 else 0) := by
  obtain ⟨hnext, hcount⟩ := Prod.mk.inj hnotes
  cases overran
  · simp [roundOver, roundNotes, hnext, hcount]
  · simp [roundOver, roundNotes, hclk, hcount]

/-- A round in which no rule is enabled decides the zones, and no decision ends it. -/
theorem exec_ruleRound_of_no_rules {s : State} (overran : Bool) (hout : released s = true) (hdue : s.loom.nextRound ≤ s.clk)
    (hwait : SyncUnit.rules ∉ s.dict.waiting) (hfresh : s.loom.freshRules = false)
    (hrules : ∀ r < 512, Cfg.ruleEnable s r = false) :
    exec (.ruleRound overran) s = .next (roundOver (forAll (upTo 64) zoneTurn s) overran) := by
  have hpower : (forAll (upTo 64) zoneTurn s).power = s.power := zoneRound_within s .power (by decide)
  have hreleased : released (forAll (upTo 64) zoneTurn s) = true := by rw [released, hpower]; exact hout
  rw [exec_ruleRound, execRuleRound, if_pos ⟨hout, hdue⟩, ruleRound_of_no_rules hwait hfresh hrules]
  generalize forAll (upTo 64) zoneTurn s = t at hreleased ⊢
  dsimp only
  rw [hreleased]
  cases overran <;> rfl

/-- Settles O13: an event by its domain, a round by what the turn of one zone decides, a rule by its edge. -/
theorem userEventsAndRules : Obligations.UserEventsAndRules := by
  unfold Obligations.UserEventsAndRules
  refine ⟨fun s e he hst haction hdue => ?_, fun s e n he hn hst haction hdomain hset hpast htarget => ?_,
    fun s overran hout hdue hwait hfresh hrules => ?_, fun s r => ?_⟩
  · obtain ⟨hend, hothers⟩ := eventAct_ends haction ((getEvent s e).late || decide ((getEvent s e).domain = 2))
    exact ⟨_, exec_userEventAct_trigger he hst haction hdue, by simpa using hend, hothers⟩
  · refine ⟨_, exec_userEventAct_calendar he hst hdomain hset hpast, ?_⟩
    rw [eventCalendar_setPoint hn haction htarget, getEvent_modEvent, if_pos rfl]
    exact ⟨hst, rfl, rfl, rfl, othersKept_modEvent⟩
  · refine ⟨_, exec_ruleRound_of_no_rules overran hout hdue hwait hfresh hrules, ?_⟩
    have hround := roundNotes_round s
    have hclk := zoneRound_within s .clk (by decide)
    have hzones := fun z hz hen => (zoneDecided_round (s := s) (z := z) hout hz hen).congr (getZone_roundOver _ overran z)
    generalize forAll (upTo 64) zoneTurn s = t at hround hclk hzones ⊢
    obtain ⟨hnext, hcount⟩ := Prod.mk.inj (roundNotes_roundOver hclk hround overran)
    exact ⟨hnext, hcount, hzones⟩
  · intro c since counts haction
    obtain ⟨hself, hothers⟩ := ruleEval_trigger haction
    rw [hself]
    exact ⟨rfl, rfl, congrArg _ (ruleEdge_count ..), hothers⟩

end Sys2Proof.Machine
end

section
/-! PROOFS. Samples that fall due (04_control_engine, R91, R93). -/

namespace Sys2Proof.Machine

theorem othersKept_modLoop {s : State} {n : Nat} {f : LoopRt → LoopRt} : OthersKept getLoop s (modLoop s n f) n :=
  fun j hj => by rw [getLoop_modLoop, if_neg hj]

/-- A loop with one more sample due: one that has not started is discarded and counted. -/
def LoopRt.withDue (l : LoopRt) (d : DueSample) : LoopRt :=
  { l with due := some d, overruns := l.overruns + if l.due.isSome then 1 else 0, overPending := l.overPending || l.due.isSome }

section
variable {s : State} {n : Nat}

theorem loopDue_of_active (h : loopIdle s n = false) (endClk : Nat) (result : Bool) :
    loopDue s n endClk result = modLoop s n fun l => l.withDue ⟨endClk, result⟩ := by
  rw [loopDue, h, if_neg Bool.false_ne_true]
  rfl

/-- A sample falls due in a loop that takes samples, after a change of the loop that leaves it taking them. -/
theorem loopDue_modLoop {f : LoopRt → LoopRt}
    (hf : ∀ l, (f l).enabled = l.enabled ∧ (f l).fault = l.fault ∧ (f l).stopped = l.stopped)
    (h : loopIdle s n = false) (endClk : Nat) (result : Bool) :
    getLoop (loopDue (modLoop s n f) n endClk result) n = (f (getLoop s n)).withDue ⟨endClk, result⟩ ∧
      OthersKept getLoop s (loopDue (modLoop s n f) n endClk result) n := by
  have hactive : loopIdle (modLoop s n f) n = false := by
    obtain ⟨henabled, hfault, hstopped⟩ := hf (getLoop s n)
    rw [← h]
    simp only [loopIdle, getLoop_modLoop, if_true, henabled, hfault, hstopped, modLoop_engine_stopped]
  rw [loopDue_of_active hactive]
  exact ⟨by simp only [getLoop_modLoop, if_true], othersKept_modLoop.trans othersKept_modLoop⟩

theorem exec_sampleTimer_of_due (hout : released s = true) (htrigger : Cfg.loopTrigger s n = 1)
    (hactive : loopIdle s n = false) (hdue : (getLoop s n).nextTimer ≤ s.clk) : exec (.sampleTimer n) s = .next (loopDue
      (modLoop s n fun l => { l with nextTimer := after l.nextTimer (usecs (Cfg.loopSamplePeriod s n)) }) n s.clk false) :=
  if_pos ⟨hout, htrigger, by simp [hactive], decide_eq_true hdue⟩

theorem exec_warpSample_of_phase (hout : released s = true) (htrigger : Cfg.loopTrigger s n = 2)
    (hactive : loopIdle s n = false) (hcycle : s.warp.cycle % Cfg.loopWarpDiv s n = 0)
    (hphase : Cfg.loopWarpPhase s n ≤ warpNow s % 65536) (honce : (getLoop s n).warpDone ≠ some s.warp.cycle) :
    exec (.warpSample n) s = .next (loopDue (modLoop s n fun l => { l with warpDone := some s.warp.cycle }) n s.clk false) :=
  if_pos ⟨hout, htrigger, by simp [hactive], hcycle, hphase, honce⟩

end

/-- Settles O14: both commands note their instant in the loop and make a sample fall due. -/
theorem samplesFallDue : Obligations.SamplesFallDue := by
  unfold Obligations.SamplesFallDue
  refine ⟨fun s n hout htrigger hactive hdue => ?_, fun s n hout htrigger hactive hcycle hphase honce => ?_⟩
  · obtain ⟨hself, hothers⟩ := loopDue_modLoop
      (f := fun l => { l with nextTimer := after l.nextTimer (usecs (Cfg.loopSamplePeriod s n)) })
      (fun _ => ⟨rfl, rfl, rfl⟩) hactive s.clk false
    refine ⟨_, exec_sampleTimer_of_due hout htrigger hactive hdue, ?_⟩
    rw [hself]
    exact ⟨rfl, rfl, rfl, rfl, hothers⟩
  · obtain ⟨hself, hothers⟩ := loopDue_modLoop (f := fun l => { l with warpDone := some s.warp.cycle })
      (fun _ => ⟨rfl, rfl, rfl⟩) hactive s.clk false
    refine ⟨_, exec_warpSample_of_phase hout htrigger hactive hcycle hphase honce, ?_⟩
    rw [hself]
    exact ⟨rfl, rfl, rfl, hothers⟩

end Sys2Proof.Machine
end

section
/-! PROOFS. One sample of a loop (04_control_engine, R86, R92, R97; 05_loop_modes, R113, R115, R121). -/

namespace Sys2Proof.Machine

/-! ### What the end of a sample leaves of the loops (R95, R97, R210) -/

/-- A loop as its last sample made it: without its due sample, the record of its applied outputs, and its flags. -/
def LoopRt.evaluated (l : LoopRt) : LoopRt :=
  { l with due := none, overruns := 0, overPending := false, outAtWarp := 0, outAtClk := none, lastDelay := 0, minDelay := 0
           maxDelay := 0, delayExcess := 0, flags := 0 }

/-- Loop `n` as its last sample made it, and PV_INVALID. -/
def loopEvaluated (n : Nat) (s : State) : LoopRt × Bool :=
  ((getLoop s n).evaluated, Flag.get (getLoop s n).flags lfPvInvalid)

/-- What neither branch changes, the choice leaves. -/
theorem ite_leaves {β : Type} {g : State → β} {b : β} {p : Prop} [Decidable p] {s t : State} (hs : g s = b)
    (ht : g t = b) : g (if p then s else t) = b := by
  split <;> assumption

section
variable {s t : State} {n : Nat}

theorem loopEvaluated_of_engine (h : t.engine = s.engine) : loopEvaluated n t = loopEvaluated n s := by
  rw [loopEvaluated, getLoop_of_engine h, loopEvaluated]

theorem loopEvaluated_modLoop {k : Nat} {f : LoopRt → LoopRt}
    (hf : ∀ l, (f l).evaluated = l.evaluated ∧ Flag.get (f l).flags lfPvInvalid = Flag.get l.flags lfPvInvalid) :
    loopEvaluated n (modLoop s k f) = loopEvaluated n s := by
  obtain ⟨hloop, hflag⟩ := hf (getLoop s k)
  rw [loopEvaluated, getLoop_modLoop]
  split
  · next h => rw [hloop, hflag, h, loopEvaluated]
  · rfl

end

section
variable (n : Nat) (s : State)

theorem loopEvaluated_loopDue (k endClk : Nat) (result : Bool) :
    loopEvaluated n (loopDue s k endClk result) = loopEvaluated n s :=
  ite_leaves rfl (loopEvaluated_modLoop fun _ => ⟨rfl, rfl⟩)

theorem loopEvaluated_resultDue (code endClk : Nat) : loopEvaluated n (resultDue s code endClk) = loopEvaluated n s :=
  forAll_leaves (loopEvaluated n) (fun s k => loopEvaluated_loopDue n s k endClk true) _ s

/-- An applied output changes its record and DELAY_EXCEEDED. -/
theorem loopEvaluated_outputApplied (a : AxisOut) : loopEvaluated n (outputApplied s a) = loopEvaluated n s :=
  (loopEvaluated_resultDue ..).trans
    (loopEvaluated_modLoop fun l => ⟨rfl, Flag.get_set_other l.flags (a.counted && delayOver s a) (by decide)⟩)

theorem shadowSet_engine (k : Nat) (d q : Int) : (shadowSet s k d q).engine = s.engine :=
  shadowSet_within (bs := [.free, .fans]) s k d q (.refl _ s) (by decide) (by decide) .engine (by decide)

theorem loopEvaluated_axisApply (k : Nat) : loopEvaluated n (axisApply s k) = loopEvaluated n s :=
  (forAll_leaves (loopEvaluated n) (fun s a => ite_leaves (loopEvaluated_outputApplied n s a) rfl) _ _).trans
    (ite_leaves (loopEvaluated_of_engine (shadowSet_engine ..)) rfl)

theorem loopEvaluated_axisTake (k : Nat) (a : AxisOut) : loopEvaluated n (axisTake s k a) = loopEvaluated n s :=
  ite_leaves (loopEvaluated_axisApply n _ k) rfl

theorem loopEvaluated_outputGo (a : AxisOut) : loopEvaluated n (outputGo s a) = loopEvaluated n s :=
  ite_leaves (loopEvaluated_outputApplied n s a)
    (forAll_leaves (loopEvaluated n) (fun s k => loopEvaluated_axisTake n s k a) _ s)

@[simp] theorem loopDrive_engine (u : Int) : (loopDrive s n u).engine = s.engine :=
  loopDrive_within (bs := [.free, .meas, .valve, .io, .fans, .dict, .mem]) s n u (.refl _ s) (by decide) (by decide)
    (by decide) (by decide) (by decide) (by decide) (by decide) .engine (by decide)

@[simp] theorem zoneSample_engine (valid : Bool) : (zoneSample s n valid).engine = s.engine :=
  zoneSample_within (bs := [.loom]) s n valid (.refl _ s) (by decide) .engine (by decide)

end

/-- The flags of a sample that was evaluated leave PV_INVALID clear. -/
theorem pvInvalid_of_evaluated (satHigh satLow retried discarded stale : Bool) :
    Flag.get (Flag.set (Flag.set (Flag.set (Flag.set (Flag.set (0 : Flags) lfSatHigh satHigh) lfSatLow satLow)
      lfRetried retried) lfOverrun discarded) lfStale stale) lfPvInvalid = false := by
  iterate 5 rw [Flag.get_set_other _ _ (by decide)]
  rfl

/-- The result of an evaluation as the loop keeps it (R86). -/
theorem sampleApply_records (s : State) (n : Nat) (m : ModeStep) (x : EvalOut) (v : SrcVal) (d : DueSample)
    (pv sp e u : Int) (r : RampSt) (retried stale held : Bool) :
    let l := getLoop (sampleApply s n m x v d pv sp e u r retried stale held) n
    l.pv = pv ∧ l.samples = (getLoop s n).samples + 1 ∧ l.modeActive = m.mode ∧ l.lastSampleClk = s.clk ∧
      l.handover = none ∧ Flag.get l.flags lfPvInvalid = false ∧ l.out = u := by
  have hkept : ∀ (t : State) (a : AxisOut),
      loopEvaluated n (outputGo (zoneSample (loopDrive t n u) n true) a) = loopEvaluated n t := fun t a =>
    (loopEvaluated_outputGo n _ a).trans
      (loopEvaluated_of_engine ((zoneSample_engine n _ true).trans (loopDrive_engine n t u)))
  intro l
  obtain ⟨hloop, hflag⟩ := Prod.mk.inj
    (hkept _ _ : loopEvaluated n (sampleApply s n m x v d pv sp e u r retried stale held) = _)
  rw [getLoop_modLoop, if_pos rfl] at hloop hflag
  refine ⟨congrArg LoopRt.pv hloop, congrArg LoopRt.samples hloop, congrArg LoopRt.modeActive hloop,
    congrArg LoopRt.lastSampleClk hloop, congrArg LoopRt.handover hloop, hflag.trans ?_, congrArg LoopRt.out hloop⟩
  exact pvInvalid_of_evaluated ..

/-! ### What a sample writes (R75, R115, R116) -/

theorem cfgVal_writeRw (s : State) (k : Nat) (v : Val) (o m : Nat) :
    cfgVal (writeRw s k v) o m = if memKey o m = k then v else cfgVal s o m := by
  have hset : cfgVal (setRw s k v) o m = if memKey o m = k then v else cfgVal s o m := by
    split
    · next h => exact h ▸ Table.getD_set_self dfltOf ..
    · next h => exact Table.getD_set_other dfltOf _ _ h
  rw [← hset]
  exact ite_leaves (g := fun t => cfgVal t o m) (cfgVal_of_values (memberValues_markRw _) o m) rfl

theorem writeRw_clk (s : State) (k : Nat) (v : Val) : (writeRw s k v).clk = s.clk :=
  writeRw_within (bs := [.dict]) s k v (.refl _ s) (by decide) .clk (by decide)

/-- A member takes a number, where there is one. -/
def writeSome (s : State) (k : Nat) : Option Int → State
  | some v => writeRw s k (.num v)
  | none => s

section
variable (s : State) (k : Nat) (v : Option Int)

theorem writeSome_engine : (writeSome s k v).engine = s.engine := by
  cases v
  · rfl
  · exact writeRw_engine ..

theorem writeSome_clk : (writeSome s k v).clk = s.clk := by
  cases v
  · rfl
  · exact writeRw_clk ..

theorem cfgI_writeSome_other {o m : Nat} (h : memKey o m ≠ k) : cfgI (writeSome s k v) o m = cfgI s o m := by
  cases v
  · rfl
  · rw [writeSome, cfgI, cfgVal_writeRw, if_neg h, cfgI]

theorem cfgI_writeSome_self (o m : Nat) : cfgI (writeSome s (memKey o m) v) o m = v.getD (cfgI s o m) := by
  cases v
  · rfl
  · rw [writeSome, cfgI, cfgVal_writeRw, if_pos rfl, Option.getD_some]

end

/-- The set-point that Loom has handed over is taken (R75). -/
def takeLoomSp (s : State) (n : Nat) : Option Int → State
  | some sp => writeRw (modLoop s n fun l => { l with loomSp := none }) (memKey (0x4000 + n) 15) (.num sp)
  | none => s

/-- The state in which a sample has written MAN_OUT and SETPOINT where its change of mode or Loom asks for it. -/
def sampleWrites (s : State) (n : Nat) : State :=
  takeLoomSp (writeSome (writeSome s (memKey (0x4800 + n) 17) (modeStep s n).manOut) (memKey (0x4000 + n) 15)
    (modeStep s n).spWrite) n (getLoop s n).loomSp

section
variable (s : State) (n : Nat)

theorem takeLoomSp_clk (v : Option Int) : (takeLoomSp s n v).clk = s.clk := by
  cases v
  · rfl
  · exact writeRw_clk ..

theorem takeLoomSp_samples (v : Option Int) : (getLoop (takeLoomSp s n v) n).samples = (getLoop s n).samples := by
  cases v
  · rfl
  · rw [takeLoomSp, getLoop_of_engine (writeRw_engine ..), getLoop_modLoop, if_pos rfl]

theorem cfgI_takeLoomSp_other (v : Option Int) {o m : Nat} (h : memKey o m ≠ memKey (0x4000 + n) 15) :
    cfgI (takeLoomSp s n v) o m = cfgI s o m := by
  cases v
  · rfl
  · rw [takeLoomSp, cfgI, cfgVal_writeRw, if_neg h]
    rfl

theorem sampleWrites_clk : (sampleWrites s n).clk = s.clk := by
  rw [sampleWrites, takeLoomSp_clk, writeSome_clk, writeSome_clk]

theorem sampleWrites_samples : (getLoop (sampleWrites s n) n).samples = (getLoop s n).samples := by
  rw [sampleWrites, takeLoomSp_samples, getLoop_of_engine (writeSome_engine ..), getLoop_of_engine (writeSome_engine ..)]

theorem cfgI_sampleWrites_other {o m : Nat} (hman : memKey o m ≠ memKey (0x4800 + n) 17)
    (hsp : memKey o m ≠ memKey (0x4000 + n) 15) : cfgI (sampleWrites s n) o m = cfgI s o m := by
  rw [sampleWrites, cfgI_takeLoomSp_other _ _ _ hsp, cfgI_writeSome_other _ _ _ hsp, cfgI_writeSome_other _ _ _ hman]

theorem loopOutMin_sampleWrites : Cfg.loopOutMin (sampleWrites s n) n = Cfg.loopOutMin s n :=
  cfgI_sampleWrites_other s n (by unfold memKey; omega) (by unfold memKey; omega)

theorem loopOutMax_sampleWrites : Cfg.loopOutMax (sampleWrites s n) n = Cfg.loopOutMax s n :=
  cfgI_sampleWrites_other s n (by unfold memKey; omega) (by unfold memKey; omega)

/-- MAN_OUT as the sample reads it: the last output on the way into MANUAL (R115). -/
theorem lmManOut_sampleWrites : Cfg.lmManOut (sampleWrites s n) n = (modeStep s n).manOut.getD (Cfg.lmManOut s n) := by
  have hsp : memKey (0x4800 + n) 17 ≠ memKey (0x4000 + n) 15 := by unfold memKey; omega
  rw [Cfg.lmManOut, sampleWrites, cfgI_takeLoomSp_other _ _ _ hsp, cfgI_writeSome_other _ _ _ hsp, cfgI_writeSome_self,
    Cfg.lmManOut]

end

section
variable {s : State} {n : Nat}

/-- In MANUAL the output is MAN_OUT as it stands. -/
theorem modeStep_manOut_of_manual (h : (getLoop s n).modeActive = 0) : (modeStep s n).manOut = none :=
  if_neg fun hgo => hgo.2 h

/-- On the way into MANUAL the last output becomes MAN_OUT (R115). -/
theorem modeStep_manOut_of_entered (hnext : nextMode s n = 0) (h : (getLoop s n).modeActive ≠ 0) :
    (modeStep s n).manOut = some (getLoop s n).out := if_pos ⟨hnext, h⟩

end

/-! ### The evaluation (R86, R89, R98, R115) -/

theorem le_clampInt {lo hi : Int} (h : lo ≤ hi) (v : Int) : lo ≤ clampInt lo hi v := le_min (le_max_right v lo) h

theorem clampInt_le (lo hi v : Int) : clampInt lo hi v ≤ hi := min_le_right ..

/-- Of two evaluations the one that is taken has been limited. -/
theorem evalOnce_limited (s : State) (n : Nat) (p : Prop) [Decidable p] (hist hist' : List Hist) (e r : Int) :
    ∃ v, (if p then evalOnce s n hist e r else evalOnce s n hist' e r).2.2 =
      clampInt (Cfg.loopOutMin s n) (Cfg.loopOutMax s n) v := by
  split <;> exact ⟨_, rfl⟩

/-- Where OUT_MIN does not exceed OUT_MAX, u lies within them, whatever the preset (R89). -/
theorem evalSample_within_limits (s : State) (n : Nat) (handover : Option Int) (e : Int) (stamp : Nat) (rc : RcRt)
    (held : Bool) (h : Cfg.loopOutMin s n ≤ Cfg.loopOutMax s n) :
    Cfg.loopOutMin s n ≤ (evalSample s n handover e stamp rc held).u ∧
      (evalSample s n handover e stamp rc held).u ≤ Cfg.loopOutMax s n := by
  obtain ⟨v, hu⟩ : ∃ v, (evalSample s n handover e stamp rc held).u =
      clampInt (Cfg.loopOutMin s n) (Cfg.loopOutMax s n) v := evalOnce_limited ..
  rw [hu]
  exact ⟨le_clampInt h v, clampInt_le ..⟩

theorem laneVote_of_agree (s : State) {err : LaneErr} (hp : err.p = {}) (hq : err.q = {}) :
    laneVote s err = some ({}, false, []) := by
  rw [laneVote, hp, hq]
  exact if_pos (by decide)

/-- The output that a sample in the mode `mode` may give, in the state in which it is evaluated. -/
def OutputOf (s : State) (n mode : Nat) (u : Int) : Prop :=
  (mode = 1 ∨ mode = 2 → Cfg.loopOutMin s n ≤ u ∧ u ≤ Cfg.loopOutMax s n) ∧ (mode = 0 → u = Cfg.lmManOut s n)

theorem outputOf_choice {s : State} {n mode : Nat} {x y : EvalOut}
    (hx : Cfg.loopOutMin s n ≤ x.u ∧ x.u ≤ Cfg.loopOutMax s n) (hy : mode = 0 → y.u = Cfg.lmManOut s n) :
    OutputOf s n mode (if mode = 1 ∨ mode = 2 then x else y).u := by
  unfold OutputOf
  split
  · next h => exact ⟨fun _ => hx, by omega⟩
  · next h => exact ⟨fun h' => absurd h' h, hy⟩

/-- On lanes that agree the evaluation is applied as it is. -/
theorem sampleEval_of_agree (s : State) (n : Nat) {err : LaneErr} (v : SrcVal) (d : DueSample) (pv : Int) (hp : err.p = {})
    (hq : err.q = {}) (hlimits : Cfg.loopOutMin s n ≤ Cfg.loopOutMax s n) : ∃ x sp e u r stale held,
      sampleEval s n err v d pv = sampleApply (sampleWrites s n) n (modeStep s n) x v d pv sp e u r false stale held ∧
      OutputOf (sampleWrites s n) n (modeStep s n).mode u := by
  have hlimits' : Cfg.loopOutMin (sampleWrites s n) n ≤ Cfg.loopOutMax (sampleWrites s n) n := by
    rwa [loopOutMin_sampleWrites, loopOutMax_sampleWrites]
  unfold sampleEval
  dsimp only
  rw [laneVote_of_agree _ hp hq]
  exact ⟨_, _, _, _, _, _, _, rfl,
    outputOf_choice (evalSample_within_limits _ _ _ _ _ _ _ hlimits') fun hmode => if_pos hmode⟩

/-- What a sample on a valid PV and on lanes that agree leaves in its loop. -/
theorem sampleEval_records (s : State) (n : Nat) {err : LaneErr} (v : SrcVal) (d : DueSample) (pv : Int) (hp : err.p = {})
    (hq : err.q = {}) (hlimits : Cfg.loopOutMin s n ≤ Cfg.loopOutMax s n) :
    let l := getLoop (sampleEval s n err v d pv) n
    l.pv = pv ∧ l.samples = (getLoop s n).samples + 1 ∧ l.modeActive = nextMode s n ∧ l.lastSampleClk = s.clk ∧
      l.handover = none ∧ Flag.get l.flags lfPvInvalid = false ∧
      (nextMode s n = 1 ∨ nextMode s n = 2 → Cfg.loopOutMin s n ≤ l.out ∧ l.out ≤ Cfg.loopOutMax s n) ∧
      (nextMode s n = 0 → l.out = (modeStep s n).manOut.getD (Cfg.lmManOut s n)) := by
  obtain ⟨x, sp, e, u, r, stale, held, heval, hlimited, hman⟩ := sampleEval_of_agree s n v d pv hp hq hlimits
  obtain ⟨hpv, hsamples, hmode, hclk, hhandover, hflag, hout⟩ :=
    sampleApply_records (sampleWrites s n) n (modeStep s n) x v d pv sp e u r false stale held
  rw [loopOutMin_sampleWrites, loopOutMax_sampleWrites] at hlimited
  rw [lmManOut_sampleWrites] at hman
  rw [← heval] at hpv hsamples hmode hclk hhandover hflag hout
  intro l
  exact ⟨hpv, hsamples.trans (congrArg (· + 1) (sampleWrites_samples s n)), hmode, hclk.trans (sampleWrites_clk s n),
    hhandover, hflag, fun h => hout ▸ hlimited h, fun h => hout.trans (hman h)⟩

/-! ### A due sample (R86, R92) -/

/-- The state after the engine has fetched an entry. -/
def withMem (s : State) (m : Mem) : State := { s with mem := m }

theorem heddleFetch_withMem (s : State) (eng e : Nat) : ∃ m, (heddleFetch s eng e).2 = withMem s m := by
  unfold heddleFetch
  dsimp only
  split <;> exact ⟨_, rfl⟩

/-- PV has a result that the due sample may take (R92). -/
def sampleFresh (s : State) (n : Nat) (d : DueSample) : Bool :=
  let v := readSrc s (Cfg.loopPvSource s n)
  v.given_ && (d.result || (decide ((getLoop s n).enableClk ≤ v.atClk) && !srcSilent s (Cfg.loopPvSource s n)))

/-- What the due sample of a loop on its set in force comes to. -/
def sampleRun (s : State) (n : Nat) (err : LaneErr) (d : DueSample) : State :=
  let v := readSrc s (Cfg.loopPvSource s n)
  let pv := convPoint v.point (Cfg.loopPoint s n) v.value
  if !sampleFresh s n d || !v.valid then sampleInvalid s n
  else if isStandby s && !isLocalLoop s n then sampleStandby s n pv
  else sampleEval s n err v d pv

section
variable {s : State} {n : Nat}

theorem exec_loopSample_of_runs (h : sampleRuns s n) (err : LaneErr) :
    ∃ m d, exec (.loopSample n err) s = .next (sampleRun (withMem s m) n err d) := by
  obtain ⟨hn, hdue, hout, hactive, hserved, hset⟩ := h
  obtain ⟨d, hd⟩ := Option.ne_none_iff_exists'.mp hdue
  obtain ⟨m, hm⟩ := heddleFetch_withMem s engControl n
  have hgoes : ¬ (decide (n ≥ 256) || !released s || loopIdle s n || !servedNext s n) = true := by
    simp [hn, hout, hactive, hserved]
  have hforce : ¬ (withMem s m).dict.waiting.contains (.loop n) = true := by simpa [withMem] using hset
  refine ⟨m, d, ?_⟩
  rw [exec_loopSample, execLoopSample, hd]
  dsimp only
  rw [if_neg hgoes, hm, if_neg hforce, sampleRun, apply_ite Host.Outcome.next, apply_ite Host.Outcome.next]
  rfl

theorem sampleRun_of_invalid (h : (readSrc s (Cfg.loopPvSource s n)).valid = false) (err : LaneErr) (d : DueSample) :
    sampleRun s n err d = sampleInvalid s n := if_pos (by simp [h])

theorem sampleRun_of_good (h : pvGood s n) (hactive : isStandby s = false) (err : LaneErr) (d : DueSample) :
    sampleRun s n err d = sampleEval s n err (readSrc s (Cfg.loopPvSource s n)) d (convPoint
      (readSrc s (Cfg.loopPvSource s n)).point (Cfg.loopPoint s n) (readSrc s (Cfg.loopPvSource s n)).value) := by
  obtain ⟨hgiven, hvalid, hsince, hspeaks⟩ := h
  have hfresh : sampleFresh s n d = true := by simp [sampleFresh, hgiven, hsince, hspeaks]
  exact (if_neg (by simp [hfresh, hvalid])).trans (if_neg (by simp [hactive]))

/-- Without a valid PV the sample is counted, and its flags say so (R92). -/
theorem getLoop_sampleInvalid (s : State) (n : Nat) : ∃ fl mf, Flag.get fl lfPvInvalid = true ∧
    getLoop (sampleInvalid s n) n = { getLoop s n with
      due := none, samples := (getLoop s n).samples + 1, lastSampleClk := s.clk, overPending := false, flags := fl
      modeFlags := mf } :=
  ⟨_, _, Flag.get_set_self _ _ (by decide), (getLoop_of_engine (zoneSample_engine ..) n).trans
    ((getLoop_modLoop ..).trans (if_pos rfl))⟩

theorem othersKept_sampleInvalid : OthersKept getLoop s (sampleInvalid s n) n := fun j hj =>
  (getLoop_of_engine (zoneSample_engine ..) j).trans (othersKept_modLoop j hj)

end

/-- Settles O15: a valid sample by what its evaluation leaves in the loop, an invalid one by what `sampleInvalid` does. -/
theorem samplesOfALoop : Obligations.SamplesOfALoop := by
  unfold Obligations.SamplesOfALoop
  refine ⟨?_, fun s n err hruns hinvalid => ?_⟩
  · intro s n err hruns hgood hactive hp hq hlimits v
    obtain ⟨m, d, hexec⟩ := exec_loopSample_of_runs hruns err
    obtain ⟨hpv, hsamples, hmode, hclk, hhandover, hflag, hlimited, hman⟩ :=
      sampleEval_records (withMem s m) n v d (convPoint v.point (Cfg.loopPoint s n) v.value) hp hq hlimits
    refine ⟨_, hexec.trans (congrArg _ (sampleRun_of_good (s := withMem s m) hgood hactive err d)), hpv, hsamples, hmode,
      hclk, hhandover, hflag, hlimited, fun h hwas => (hman h).trans ?_, fun h hwas => (hman h).trans ?_⟩
    · rw [modeStep_manOut_of_manual (s := withMem s m) hwas]
      rfl
    · rw [modeStep_manOut_of_entered (s := withMem s m) h hwas]
      rfl
  · obtain ⟨m, d, hexec⟩ := exec_loopSample_of_runs hruns err
    obtain ⟨fl, mf, hflag, hself⟩ := getLoop_sampleInvalid (withMem s m) n
    refine ⟨_, hexec.trans (congrArg _ (sampleRun_of_invalid (s := withMem s m) hinvalid err d)), ?_⟩
    rw [hself]
    exact ⟨rfl, rfl, hflag, rfl, rfl, rfl, rfl, othersKept_sampleInvalid⟩

end Sys2Proof.Machine
end

section
/-! PROOFS. Faults of a lane (04_control_engine, R100, R101) and the copies of the profiles (05_loop_modes, R129). -/

namespace Sys2Proof.Machine

/-! ### Lanes (R100, R101) -/

@[simp] theorem getLane_modLane_self (s : State) (i : Nat) (f : Lane → Lane) :
    getLane (modLane s i f) i = f (getLane s i) := by
  simp only [getLane, modLane]
  split_ifs <;> rfl

@[simp] theorem modLane_loops (s : State) (i : Nat) (f : Lane → Lane) : (modLane s i f).engine.loops = s.engine.loops := by
  simp only [modLane]
  split_ifs <;> rfl

@[simp] theorem modLane_degraded (s : State) (i : Nat) (f : Lane → Lane) :
    (modLane s i f).engine.degraded = s.engine.degraded := by
  simp only [modLane]
  split_ifs <;> rfl

/-- The state in which lane `i` has done its test. -/
def laneTested (s : State) (i : Nat) : State := modLane s i fun l => { l with lastTest := s.clk }

/-- The state in which a fault of lane `i` is counted. -/
def laneCounted (s : State) (i : Nat) : State := modLane s i fun l => { l with faults := l.faults + 1 }

@[simp] theorem getLane_laneTested (s : State) (i : Nat) :
    getLane (laneTested s i) i = { getLane s i with lastTest := s.clk } := getLane_modLane_self ..

@[simp] theorem getLane_laneCounted (s : State) (i : Nat) :
    getLane (laneCounted s i) i = { getLane s i with faults := (getLane s i).faults + 1 } := getLane_modLane_self ..

theorem getLane_of_engine {s t : State} (h : t.engine = s.engine) (i : Nat) : getLane t i = getLane s i := by
  rw [getLane, h, getLane]

/-- Of the lane itself a retirement changes only that it is retired. -/
theorem getLane_retireLane (s : State) (i : Nat) : getLane (retireLane s i) i = { getLane s i with retired := true } := by
  rw [← getLane_modLane_self s i fun l => { l with retired := true }, retireLane]
  dsimp only
  rw [getLane_of_engine (writeMap_within (bs := [.mem, .mram]) _ (.refl _ _) (by decide) (by decide) .engine (by decide)),
    getLane_of_engine (addLedger_within (bs := [.mem, .mram]) _ _ _ _ _ _ _ (.refl _ _) (by decide) (by decide) .engine
      (by decide))]
  exact getLane_of_engine (logEvent_within (bs := [.snap]) _ _ _ (.refl _ _) (by decide) .engine (by decide)) i

section
variable {s : State} {i : Nat} (hkept : (getLane s i).retired = false)
include hkept

/-- The first fault opens the window. -/
theorem laneFault_of_first (hfirst : (getLane s i).firstFault = none) :
    laneFault s i = modLane (laneCounted s i) i fun l => { l with firstFault := some s.clk } := by
  rw [laneFault]
  simp only [hkept, hfirst]
  rfl

/-- The second fault within LANE_WINDOW of the first retires the lane. -/
theorem laneFault_of_second {c : Nat} (hspare : s.engine.degraded = false) (hfirst : (getLane s i).firstFault = some c)
    (hwindow : s.clk ≤ after c (secs (Cfg.engineLaneWindow s))) : laneFault s i = retireLane (laneCounted s i) i := by
  have hcounted : (laneCounted s i).engine.degraded = false := (modLane_degraded ..).trans hspare
  rw [laneFault]
  simp only [hkept, hfirst]
  exact (if_pos hwindow).trans (if_neg (ne_true_of_eq_false hcounted))

end

section
variable {s : State} {i : Nat} (hi : i < 3)
include hi

theorem exec_laneTest_right : exec (.laneTest i true) s = .next (laneTested s i) := if_neg (Nat.not_le.mpr hi)

theorem exec_laneTest_wrong : exec (.laneTest i false) s = .next (laneFault (laneTested s i) i) :=
  if_neg (Nat.not_le.mpr hi)

end

/-! ### Profiles (R128, R129) -/

/-- The copy of the profile of loop `n` that is made now. -/
def profileNow (s : State) (n : Nat) : StoredProfile :=
  let r := (getLoop s n).rc
  ⟨n, r.kind, r.cycles, r.bins, r.profile, s.cal.now⟩

@[simp] theorem profileNow_loop (s : State) (n : Nat) : (profileNow s n).loop = n := rfl

/-- The state in which the copy is stored. -/
def profileStored (s : State) (n : Nat) : State :=
  let s' := { s with mram := { s.mram with profiles := (s.mram.profiles.filter fun q => q.loop ≠ n) ++ [profileNow s n] } }
  let k : Nat := s'.mram.profiles.length - 1
  mramWritten s' (0x600000 + 0x4000 * k) (0x604000 + 0x4000 * k)

/-- The profile of loop `n` is copied, and the partner hears of it. -/
def saveProfile (s : State) (n : Nat) : State :=
  let r := (getLoop s n).rc
  sendMirror (modLoop (profileStored s n) n fun l => { l with rc := { l.rc with saved := s.cal.now } })
    (.profile n r.kind r.cycles r.bins r.profile)

theorem exec_profileSave_at_hour {s : State} (hset : s.cal.st ≠ 0) (hhour : utcSec s % 3600 = 0) :
    exec .profileSave s = .next (forAll (storedLoops s) saveProfile s) := by
  rw [exec_profileSave, execProfileSave, if_neg (by simp [hset, hhour])]
  rfl

/-- The stored copies of the profile of loop `n`. -/
def copiesOf (s : State) (n : Nat) : List StoredProfile := s.mram.profiles.filter fun q => q.loop = n

/-- The new copy takes the place of the loop's earlier ones. -/
theorem copiesOf_profileStored (s : State) (x n : Nat) :
    copiesOf (profileStored s x) n = if x = n then [profileNow s x] else copiesOf s n := by
  change ((s.mram.profiles.filter fun q => q.loop ≠ x) ++ [profileNow s x]).filter (fun q => q.loop = n) = _
  rw [List.filter_append, List.filter_filter]
  by_cases h : x = n
  · subst h
    simp
  · rw [if_neg h, List.filter_cons_of_neg (by simp [h]), List.filter_nil, List.append_nil]
    refine List.filter_congr fun q _ => ?_
    simp +contextual [Ne.symm h]

/-- Loop `n`, the calendar's instant, and the stored copies of the loop's profile. -/
def profileView (n : Nat) (s : State) : LoopRt × Nat × List StoredProfile := (getLoop s n, s.cal.now, copiesOf s n)

theorem profileView_sendMirror (n : Nat) (s : State) (i : MirrorItem) : profileView n (sendMirror s i) = profileView n s := by
  have hmirror : Within [.pair] s (sendMirror s i) := sendMirror_within s i (.refl _ _) (by decide)
  have hengine : (sendMirror s i).engine = s.engine := hmirror .engine (by decide)
  have hcal : (sendMirror s i).cal = s.cal := hmirror .cal (by decide)
  have hmram : (sendMirror s i).mram = s.mram := hmirror .mram (by decide)
  simp only [profileView, copiesOf, getLoop, hengine, hcal, hmram]

theorem profileView_saveProfile_of_ne {n x : Nat} (h : x ≠ n) (s : State) :
    profileView n (saveProfile s x) = profileView n s := by
  rw [saveProfile, profileView_sendMirror]
  refine Prod.ext ?_ (Prod.ext rfl ?_)
  · exact (getLoop_modLoop ..).trans (if_neg h.symm)
  · exact (copiesOf_profileStored ..).trans (if_neg h)

theorem profileView_saveProfile_self (s : State) (n : Nat) : profileView n (saveProfile s n) =
    ({ getLoop s n with rc := { (getLoop s n).rc with saved := s.cal.now } }, s.cal.now, [profileNow s n]) := by
  rw [saveProfile, profileView_sendMirror]
  refine Prod.ext ?_ (Prod.ext rfl ?_)
  · exact (getLoop_modLoop ..).trans (if_pos rfl)
  · exact (copiesOf_profileStored ..).trans (if_pos rfl)

theorem nodup_storedLoops (s : State) : (storedLoops s).Nodup := (nodup_upTo 256).filter _

/-- Settles O17: a fault of a lane by whether it is the first, a profile by what its own turn in the round stores. -/
theorem lanesAndProfiles : Obligations.LanesAndProfiles := by
  unfold Obligations.LanesAndProfiles
  refine ⟨fun s i hi => ?_, fun s i hi hkept hfirst => ?_, fun s i c hi hkept hspare hfirst hwindow => ?_,
    fun s n hset hhour hn => ?_⟩
  · refine ⟨_, exec_laneTest_right hi, ?_, ?_, modLane_loops ..⟩
    · rw [getLane_laneTested]
    · rw [getLane_laneTested]
  · refine ⟨_, exec_laneTest_wrong hi, ?_⟩
    rw [laneFault_of_first (by simpa using hkept) (by simpa using hfirst), getLane_modLane_self, getLane_laneCounted,
      getLane_laneTested]
    exact ⟨rfl, rfl, hkept⟩
  · have hdegraded : (laneTested s i).engine.degraded = false := (modLane_degraded ..).trans hspare
    refine ⟨_, exec_laneTest_wrong hi, ?_⟩
    rw [laneFault_of_second (by simpa using hkept) hdegraded (by simpa using hfirst) hwindow, getLane_retireLane,
      getLane_laneCounted, getLane_laneTested]
    exact ⟨rfl, rfl⟩
  · obtain ⟨r, hr, hround⟩ := forAll_at (g := profileView n) (fun s x h => profileView_saveProfile_of_ne h s)
      (nodup_storedLoops s) hn s
    simp only [profileView, Prod.mk.injEq] at hr
    obtain ⟨hloop, hnow, -⟩ := hr
    rw [profileView_saveProfile_self, profileNow, hloop, hnow] at hround
    simp only [profileView, Prod.mk.injEq] at hround
    obtain ⟨hself, -, hcopies⟩ := hround
    refine ⟨_, exec_profileSave_at_hour hset hhour, by rw [hself], by rw [hself], ?_⟩
    exact List.mem_of_mem_filter (hcopies ▸ List.mem_singleton_self _)

end Sys2Proof.Machine
end

section
/-! PROOFS. The hand-over from CASCADE to AUTO (05_loop_modes, R112, R116, R123). -/

namespace Sys2Proof.Machine

/-! ### What driving an output leaves of the committed values (R18, R163, R164, R184) -/

theorem committed_of_dict {s t : State} (h : t.dict = s.dict) : t.dict.committed = s.dict.committed := by rw [h]

section
variable (s : State) (v : Nat)

@[simp] theorem heddleFetch_dict (eng e : Nat) : (heddleFetch s eng e).2.dict = s.dict :=
  heddleFetch_within (bs := [.mem]) s eng e (.refl _ s) (by decide) .dict (by decide)

@[simp] theorem bankRefresh_dict (b : Nat) : (bankRefresh s b).dict = s.dict :=
  bankRefresh_within (bs := [.valve]) s b (.refl _ s) (by decide) .dict (by decide)

@[simp] theorem vlvDecay_dict : (vlvDecay s v).dict = s.dict :=
  vlvDecay_within (bs := [.valve]) s v (.refl _ s) (by decide) .dict (by decide)

@[simp] theorem dropRequest_dict : (dropRequest s v).dict = s.dict := rfl

@[simp] theorem askBudget_dict (level : Nat) : (askBudget s v level).2.dict = s.dict :=
  askBudget_within (bs := [.valve]) s v level (.refl _ s) (by decide) .dict (by decide)

@[simp] theorem vlvActFree_dict (cmd : Nat) : (vlvActFree s v cmd).dict = s.dict :=
  vlvActFree_within (bs := [.free, .valve]) s v cmd (.refl _ s) (by decide) (by decide) .dict (by decide)

@[simp] theorem ioApply_dict (i : Nat) : (ioApply s i).dict = s.dict :=
  ioApply_within (bs := [.io, .mem]) s i (.refl _ s) (by decide) (by decide) .dict (by decide)

@[simp] theorem fanUpdate_dict (f : Nat) : (fanUpdate s f).dict = s.dict :=
  fanUpdate_within (bs := [.free, .io, .fans, .mem]) s f (.refl _ s) (by decide) (by decide) (by decide) (by decide) .dict
    (by decide)

@[simp] theorem aoApply_dict (a : Nat) : (aoApply s a).dict = s.dict :=
  aoApply_within (bs := [.meas, .mem]) s a (.refl _ s) (by decide) (by decide) .dict (by decide)

/-- A channel that takes the committed set changes what is in force. -/
@[simp] theorem vlvTakeSet_committed : (vlvTakeSet s v).dict.committed = s.dict.committed := takeObj_committed s (0x7100 + v)

@[simp] theorem propApply_committed (ref : Nat) : (propApply s v ref).dict.committed = s.dict.committed := by
  simp only [propApply, bankRefresh_dict, apply_ite State.dict, vlvDecay_dict, modVlv_dict, modBank_dict, ite_self,
    vlvTakeSet_committed]

@[simp] theorem propSet_committed (ref : Nat) : (propSet s v ref).dict.committed = s.dict.committed := by
  simp only [propSet, apply_ite State.dict, apply_ite Dict.committed, modVlv_dict, modBank_dict, propApply_committed,
    dropRequest_dict, askBudget_dict, ite_self]

@[simp] theorem propCommand_committed (q : Int) : (propCommand s v q).dict.committed = s.dict.committed := by
  simp only [propCommand, apply_ite State.dict, apply_ite Dict.committed, propSet_committed, heddleFetch_dict, ite_self]

@[simp] theorem vlvSyncMode_committed : (vlvSyncMode s v).dict.committed = s.dict.committed := by
  simp only [vlvSyncMode, apply_ite State.dict, apply_ite Dict.committed, vlvActFree_dict, propCommand_committed,
    modVlv_dict, ite_self]

@[simp] theorem propDrive_committed (q : Int) : (propDrive s v q).dict.committed = s.dict.committed :=
  (vlvSyncMode_committed ..).trans (propCommand_committed ..)

@[simp] theorem vlvSettle_committed : (vlvSettle s v).dict.committed = s.dict.committed := by
  simp only [vlvSettle, apply_ite State.dict, apply_ite Dict.committed, vlvSyncMode_committed, vlvTakeSet_committed,
    ite_self]

@[simp] theorem vlvCommandFree_committed (cmd : Nat) : (vlvCommandFree s v cmd).dict.committed = s.dict.committed := by
  rw [vlvCommandFree, vlvSettle_committed, vlvActFree_dict]

end

section
variable (s : State) (n : Nat)

/-- Whatever channel a loop drives, no committed value changes. -/
@[simp] theorem loopDrive_committed (u : Int) : (loopDrive s n u).dict.committed = s.dict.committed := by
  simp only [loopDrive, apply_ite State.dict, apply_ite Dict.committed, ioApply_dict, propDrive_committed,
    vlvCommandFree_committed, fanUpdate_dict, aoApply_dict, ite_self]

@[simp] theorem zoneSample_dict (valid : Bool) : (zoneSample s n valid).dict = s.dict :=
  zoneSample_within (bs := [.loom]) s n valid (.refl _ s) (by decide) .dict (by decide)

@[simp] theorem outputGo_dict (a : AxisOut) : (outputGo s a).dict = s.dict :=
  outputGo_within (bs := [.free, .engine, .fans]) s a (.refl _ s) (by decide) (by decide) (by decide) .dict (by decide)

end

/-! ### What the applied sample keeps of its set-point (R86, R123) -/

theorem loopEvaluated_sampleOutput (s : State) (n : Nat) (u : Int) (a : AxisOut) :
    loopEvaluated n (outputGo (zoneSample (loopDrive s n u) n true) a) = loopEvaluated n s := by
  rw [loopEvaluated_outputGo, loopEvaluated_of_engine (zoneSample_engine ..), loopEvaluated_of_engine (loopDrive_engine ..)]

section
variable (s : State) (n : Nat) (m : ModeStep) (x : EvalOut) (v : SrcVal) (d : DueSample) (pv sp e u : Int) (r : RampSt)
  (retried stale held : Bool)

/-- The loop keeps sp and the ramp of the sample. -/
theorem sampleApply_setPoint : let l := getLoop (sampleApply s n m x v d pv sp e u r retried stale held) n
    l.sp = sp ∧ l.spRamp = r.ramp := by
  obtain ⟨hloop, -⟩ := Prod.mk.inj (loopEvaluated_sampleOutput _ n u _ :
    loopEvaluated n (sampleApply s n m x v d pv sp e u r retried stale held) = _)
  rw [getLoop_modLoop, if_pos rfl] at hloop
  exact ⟨congrArg LoopRt.sp hloop, congrArg LoopRt.spRamp hloop⟩

theorem sampleApply_committed :
    (sampleApply s n m x v d pv sp e u r retried stale held).dict.committed = s.dict.committed := by
  rw [sampleApply, outputGo_dict, zoneSample_dict, loopDrive_committed]
  rfl

end

/-- On lanes that agree the sample applies the set-point of its mode, in the state that its writes have given. -/
theorem sampleEval_setPoint (s : State) (n : Nat) {err : LaneErr} (v : SrcVal) (d : DueSample) (pv : Int)
    (hp : err.p = {}) (hq : err.q = {}) :
    let q := sampleSp (sampleWrites s n) n (modeStep s n) pv
    let t := sampleEval s n err v d pv
    t.dict.committed = (sampleWrites s n).dict.committed ∧ (getLoop t n).sp = q.1 ∧ (getLoop t n).spRamp = q.2.ramp := by
  intro q
  obtain ⟨x, e, u, stale, held, heval⟩ : ∃ x e u stale held, sampleEval s n err v d pv =
      sampleApply (sampleWrites s n) n (modeStep s n) x v d pv q.1 e u q.2 false stale held := by
    unfold sampleEval
    dsimp only
    rw [laneVote_of_agree _ hp hq]
    exact ⟨_, _, _, _, _, rfl⟩
  rw [heval]
  exact ⟨sampleApply_committed .., sampleApply_setPoint ..⟩

/-! ### The hand-over (R112, R116, R123) -/

/-- A ramp at rest at its target stays there. -/
theorem rampStep_at_rest (v pv : Int) (up down scale dclk : Nat) :
    rampStep ⟨v, v, 0⟩ false pv v up down scale dclk = ⟨v, v, 0⟩ := by
  simp [rampStep]

section
variable {s : State} {n : Nat} (hcascade : (getLoop s n).modeActive = 2) (hauto : nextMode s n = 1)
  (hramp : (getLoop s n).rampFromPv = false)
include hcascade hauto

/-- At the hand-over the sample writes its loop's sp (R116). -/
theorem modeStep_spWrite_of_cascadeLeft : (modeStep s n).spWrite = some (getLoop s n).sp := if_pos ⟨hauto, hcascade⟩

/-- The hand-over writes sp to SETPOINT, and no MAN_OUT. -/
theorem sampleWrites_of_cascadeLeft (hloom : (getLoop s n).loomSp = none) :
    sampleWrites s n = writeRw s (memKey (0x4000 + n) 15) (.num (getLoop s n).sp) := by
  have hman : (modeStep s n).manOut = none := if_neg fun h => absurd (hauto.symm.trans h.1) (by decide)
  rw [sampleWrites, hloom, hman, modeStep_spWrite_of_cascadeLeft hcascade hauto]
  rfl

include hramp

/-- The hand-over sample runs on the sp that it has written: SP_RAMP starts there, at its target. -/
theorem sampleSp_of_cascadeLeft {t : State} (hset : Cfg.loopSetpoint t n = (getLoop s n).sp) (pv : Int) :
    sampleSp t n (modeStep s n) pv = ((getLoop s n).sp, ⟨(getLoop s n).sp, (getLoop s n).sp, 0⟩) := by
  have hmode : (modeStep s n).mode = 1 := hauto
  have hfrom : (modeStep s n).fromPv = false := by simp [modeStep, hcascade, hramp]
  rw [sampleSp, if_pos hmode, modeStep_spWrite_of_cascadeLeft hcascade hauto]
  dsimp only
  rw [hfrom, hset, rampStep_at_rest]

/-- The hand-over sample leaves the loop's sp in SETPOINT, in SP_RAMP and as the set-point. -/
theorem sampleEval_of_cascadeLeft (hloom : (getLoop s n).loomSp = none) {err : LaneErr} (v : SrcVal) (d : DueSample)
    (pv : Int) (hp : err.p = {}) (hq : err.q = {}) : let t := sampleEval s n err v d pv
    committedVal t (memKey (0x4000 + n) 15) = .num (getLoop s n).sp ∧ (getLoop t n).spRamp = (getLoop s n).sp ∧
      (getLoop t n).sp = (getLoop s n).sp := by
  have hwrites := sampleWrites_of_cascadeLeft hcascade hauto hloom
  have hset : Cfg.loopSetpoint (sampleWrites s n) n = (getLoop s n).sp := by
    rw [Cfg.loopSetpoint, cfgI, hwrites, cfgVal_writeRw, if_pos rfl]
  obtain ⟨hcommitted, hsp, hspRamp⟩ := sampleEval_setPoint s n v d pv hp hq
  rw [sampleSp_of_cascadeLeft hcascade hauto hramp hset] at hsp hspRamp
  refine ⟨?_, hspRamp, hsp⟩
  rw [committedVal, hcommitted, hwrites]
  exact committedVal_writeRw_self ..

end

/-- Settles O16: the sample writes sp to SETPOINT, so the ramp that starts at sp is at its target. -/
theorem handOverFromCascadeKeepsTheSetPoint : Obligations.HandOverFromCascadeKeepsTheSetPoint := by
  unfold Obligations.HandOverFromCascadeKeepsTheSetPoint
  intro s n err hruns hgood hactive hp hq hcascade hauto hramp hloom
  obtain ⟨m, d, hexec⟩ := exec_loopSample_of_runs hruns err
  exact ⟨_, hexec.trans (congrArg _ (sampleRun_of_good (s := withMem s m) hgood hactive err d)),
    sampleEval_of_cascadeLeft (s := withMem s m) hcascade hauto hramp hloom _ d _ hp hq⟩

end Sys2Proof.Machine
end

section
/-! PROOFS. Triggers and the starts of conversions (06_measurement, R141–R146, R151). -/

namespace Sys2Proof.Machine

/-! ### Events of a trigger source (R141, R142) -/

/-- Entry `e` notes an event of its source: it counts it, and its conversions become due after DELAY. -/
def entryTriggered (s : State) (e : Nat) : State :=
  let s := modTrig s e fun r => { r with count := r.count + 1 }
  { s with meas := { s.meas with coming := s.meas.coming ++ [(e, s.clk + Cfg.trigDelay s e)] } }

/-- The entries that name a trigger source. -/
def entriesOf (s : State) (src : Nat) : List Nat := (upTo 32).filter fun e => Cfg.trigSource s e == src

theorem triggerEvent_eq (s : State) (src : Nat) : triggerEvent s src = forAll (entriesOf s src) entryTriggered s := rfl

theorem getTrig_entryTriggered_count (s : State) (x e : Nat) :
    (getTrig (entryTriggered s x) e).count = (getTrig s e).count + [x].count e := by
  have hself : getTrig (entryTriggered s x) e = getTrig (modTrig s x fun r => { r with count := r.count + 1 }) e := rfl
  rw [hself, getTrig_modTrig, List.count_singleton]
  by_cases h : e = x
  · simp [h]
  · simp [h, Ne.symm h]

theorem count_forAll_entryTriggered (l : List Nat) (s : State) (e : Nat) :
    (getTrig (forAll l entryTriggered s) e).count = (getTrig s e).count + l.count e := by
  unfold forAll
  induction l generalizing s with
  | nil => rfl
  | cons x l ih =>
    rw [List.foldl_cons, ih, getTrig_entryTriggered_count, Nat.add_assoc, ← List.count_append, List.singleton_append]

theorem coming_forAll_entryTriggered (l : List Nat) (s : State) : (forAll l entryTriggered s).meas.coming =
    s.meas.coming ++ l.map fun e => (e, s.clk + Cfg.trigDelay s e) := by
  unfold forAll
  induction l generalizing s with
  | nil => exact (List.append_nil _).symm
  | cons x l ih =>
    rw [List.foldl_cons, ih, List.map_cons, List.append_cons]
    rfl

section
variable (s : State) (src : Nat)

theorem triggerEvent_counts {e : Nat} (he : e < 32) : (getTrig (triggerEvent s src) e).count =
    (getTrig s e).count + if Cfg.trigSource s e = src then 1 else 0 := by
  have hnodup : (entriesOf s src).Nodup := (nodup_upTo 32).filter _
  have hmem : e ∈ entriesOf s src ↔ Cfg.trigSource s e = src := by simp [entriesOf, mem_upTo he]
  rw [triggerEvent_eq, count_forAll_entryTriggered, hnodup.count]
  simp only [hmem]

theorem triggerEvent_coming : (triggerEvent s src).meas.coming =
    s.meas.coming ++ (entriesOf s src).map fun e => (e, s.clk + Cfg.trigDelay s e) := coming_forAll_entryTriggered ..

@[simp] theorem triggerEvent_timers : (triggerEvent s src).meas.timers = s.meas.timers :=
  forAll_leaves (f := entryTriggered) (fun s => s.meas.timers) (fun _ _ => rfl) _ s

@[simp] theorem triggerEvent_fans : (triggerEvent s src).fans = s.fans :=
  triggerEvent_within (bs := [.meas]) s src (.refl _ s) (by decide) .fans (by decide)

end

/-- Timer `m` starts its next period. -/
def timerRestarted (s : State) (m : Nat) : State :=
  { s with meas := { s.meas with
    timers := Table.set (blank 0) s.meas.timers m (Table.getD (blank 0) s.meas.timers m + Cfg.mtPeriod s m) } }

theorem exec_mtExpiry_due {s : State} {m : Nat} (hm : m < 8) (hon : measOn s = true)
    (hdue : Table.getD (blank 0) s.meas.timers m ≤ s.clk) :
    exec (.mtExpiry m) s = .next (triggerEvent (timerRestarted s m) m) := by
  rw [exec_mtExpiry, execMtExpiry, if_pos ⟨hm, hon, decide_eq_true hdue⟩]
  rfl

/-! ### Conversions become due (R142, R143) -/

/-- Four conversions wait on a converter. -/
def adcFull (s : State) (adc : Adc) : Bool := decide (4 ≤ (s.meas.queue.filter (qUses adc)).length)

section
variable (s : State) (m : Meas) (e : Nat)

@[simp] theorem trigChanA_withMeas : Cfg.trigChanA { s with meas := m } e = Cfg.trigChanA s e := rfl
@[simp] theorem trigChanB_withMeas : Cfg.trigChanB { s with meas := m } e = Cfg.trigChanB s e := rfl
@[simp] theorem slotChan_withMeas (pos : Nat) : slotChan { s with meas := m } pos = slotChan s pos := rfl

end

/-- The conversions of entry `e` on both converters, due at `at_`. -/
def bothDue (s : State) (e at_ : Nat) : QConv := ⟨e, at_, Cfg.trigChanA s e, Cfg.trigChanB s e, false⟩

/-- Where an entry names a channel on both converters, its conversions are dropped when one of them is full (R143). -/
theorem exec_conversionDue_both {s : State} {e at_ : Nat} {rest : List (Nat × Nat)}
    (hcoming : s.meas.coming = (e, at_) :: rest) (hdue : at_ ≤ s.clk) (ha : Cfg.trigChanA s e ≠ 0xFFFF)
    (hb : Cfg.trigChanB s e ≠ 0xFFFF) : exec (.conversionDue e) s = .next (
      if adcFull s .a || adcFull s .b then
        { s with meas := { s.meas with coming := rest, trigLost := s.meas.trigLost + 1 } }
      else { s with meas := { s.meas with coming := rest, queue := s.meas.queue ++ [bothDue s e at_] } }) := by
  have hnow : due s at_ = true := decide_eq_true hdue
  have hnamed : ¬ (Cfg.trigChanA s e = 0xFFFF ∧ Cfg.trigChanB s e = 0xFFFF) := fun h => ha h.1
  rw [exec_conversionDue, execConversionDue, hcoming]
  simp only [List.any_cons, List.find?_cons, eraseFirst, BEq.rfl, hnow, Bool.and_self, Bool.true_or, if_true,
    Option.map_some, Option.getD_some, trigChanA_withMeas, trigChanB_withMeas, if_neg hnamed, beq_false_of_ne hb,
    Bool.and_false, qUses, bne_iff_ne.mpr ha, bne_iff_ne.mpr hb, Bool.true_and, Bool.or_false]
  exact (apply_ite Host.Outcome.next _ _ _).symm

theorem adcFull_or_iff (s : State) : (adcFull s .a || adcFull s .b) = true ↔
    4 ≤ (s.meas.queue.filter (qUses .a)).length ∨ 4 ≤ (s.meas.queue.filter (qUses .b)).length := by
  simp [adcFull]

/-! ### Starts of triggered conversions (R142, R143, R151) -/

/-- The engine clock at which a triggered conversion starts: 40 later where a precharge precedes it. -/
def triggeredStart (s : State) (q : QConv) : Nat :=
  s.clk + if (qUses .a q && s.meas.preA) || (qUses .b q && s.meas.preB) then 40 else 0

/-- The run of a triggered conversion of channel `c`. -/
def triggeredRun (s : State) (q : QConv) (c : Nat) (check : Bool) : ConvRun :=
  ⟨q.entry, c, triggeredStart s q, decide (q.due < triggeredStart s q), false, check, qUses .a q && qUses .b q,
    convSet s c⟩

/-- The queue, the two converters and their precharges after the start of a triggered conversion. -/
theorem startTriggered_starts (s : State) (q : QConv) : let t := startTriggered s q
    t.meas.queue = eraseFirst (fun p => p == q) s.meas.queue ∧
      t.meas.runA = (if qUses .a q then some (triggeredRun s q q.chanA false) else s.meas.runA) ∧
      t.meas.runB = (if qUses .b q then
        some (if q.check then triggeredRun s q q.chanA true else triggeredRun s q q.chanB false) else s.meas.runB) ∧
      t.meas.preA = (s.meas.preA && !qUses .a q) :=
  ⟨ite_leaves (g := fun t => t.meas.queue) rfl rfl, ite_leaves (g := fun t => t.meas.runA) rfl rfl,
    ite_leaves (g := fun t => t.meas.runB) rfl rfl, ite_leaves (g := fun t => t.meas.preA) rfl rfl⟩

theorem qNext_of_only {s : State} {q : QConv} {adc : Adc} (hqueue : s.meas.queue = [q]) (huses : qUses adc q = true) :
    qNext s adc = some q := by
  simp [qNext, hqueue, huses, qBefore]

/-- The only conversion that waits may start when the converters that it names are free. -/
theorem mayStart_of_only {s : State} {q : QConv} (hrunA : s.meas.runA = none) (hrunB : s.meas.runB = none)
    (hqueue : s.meas.queue = [q]) (hb : qUses .b q = false ∨ contNext s = none) : mayStart s q = true := by
  have hnext : ∀ adc, qUses adc q = true → qNext s adc = some q := fun _ => qNext_of_only hqueue
  have hA : (!qUses .a q || (adcFree s .a && qNext s .a == some q)) = true := by
    cases huses : qUses .a q <;> simp [adcFree, hrunA, hnext, huses]
  have hB : (!qUses .b q || (adcFree s .b && qNext s .b == some q && (contNext s).isNone)) = true := by
    rcases hb with hb | hb
    · simp [hb]
    · cases huses : qUses .b q <;> simp [adcFree, hrunB, hnext, huses, hb]
  rw [mayStart, hA, hB, Bool.and_self]

theorem exec_conversionStart_only {s : State} {q : QConv} (hon : measOn s = true) (hrunA : s.meas.runA = none)
    (hrunB : s.meas.runB = none) (hqueue : s.meas.queue = [q]) (ha : qUses .a q = true)
    (hb : qUses .b q = false ∨ contNext s = none) : exec (.conversionStart .a) s = .next (startTriggered s q) := by
  rw [exec_conversionStart, execConversionStart, if_neg (by simp [hon, adcFree, hrunA])]
  simp only [reduceCtorEq, if_false, qNext_of_only hqueue ha, mayStart_of_only hrunA hrunB hqueue hb, if_true]
  exact nofun

/-! ### Starts of continuous conversions and of ADC C (R145, R146, R151) -/

/-- The run of a continuous conversion. -/
def contRun (s : State) (c : Nat) : ConvRun :=
  ⟨0xFFFF, c, s.clk + if s.meas.preB then 40 else 0, false, true, false, false, convSet s c⟩

@[simp] theorem startCont_runB (s : State) (c : Nat) : (startCont s c).meas.runB = some (contRun s c) := rfl

/-- The oldest displaced continuous conversion no longer waits. -/
def waitingLeft (s : State) : State := { s with meas := { s.meas with contWait := s.meas.contWait.drop 1 } }

/-- ADC B first makes up a displaced continuous conversion. -/
theorem exec_conversionStart_displaced {s : State} {w : ContWait} {c : Nat} (hon : measOn s = true)
    (hrunB : s.meas.runB = none) (hnext : contNext s = some w) (hslot : slotChan s w.pos = some c) :
    exec (.conversionStart .b) s = .next (startCont (waitingLeft s) c) := by
  have hstart : startWaiting s w = startCont (waitingLeft s) c := by
    simp only [startWaiting, slotChan_withMeas, hslot, waitingLeft]
  rw [exec_conversionStart, execConversionStart, if_neg (by simp [hon, adcFree, hrunB])]
  simp only [if_true, hnext, hstart]
  exact nofun

theorem exec_conversionStart_round {s : State} {c : Nat} {rest : List Nat} (hon : measOn s = true)
    (hrunC : s.meas.runC = none) (hqueue : s.meas.cQueue = c :: rest) : exec (.conversionStart .c) s = .next
      { s with meas := { s.meas with
        cQueue := rest, runC := some ⟨0xFFFF, c, s.clk, false, false, false, false, convSet s c⟩ } } := by
  rw [exec_conversionStart, execConversionStart, if_neg (by simp [hon, adcFree, hrunC])]
  simp only [hqueue]

/-- Settles O18: an expiry by what its entries note, the rest by the equation of each start. -/
theorem triggersAndConverters : Obligations.TriggersAndConverters := by
  unfold Obligations.TriggersAndConverters
  refine ⟨fun s m hm hon hdue => ?_, fun s e at_ rest hcoming hdue ha hb => ?_,
    fun s q hon hrunA hrunB hqueue ha hcheck hb => ?_, fun s w c hon hrunB hnext hslot => ?_,
    fun s c rest hon hrunC hqueue => ?_⟩
  · refine ⟨_, exec_mtExpiry_due hm hon hdue, ?_, fun e he => triggerEvent_counts _ m he, triggerEvent_coming _ m⟩
    rw [triggerEvent_timers]
    exact Table.getD_set_self ..
  · refine ⟨_, exec_conversionDue_both hcoming hdue ha hb, ?_⟩
    by_cases hfull : (adcFull s .a || adcFull s .b) = true
    · rw [if_pos hfull]
      exact ⟨rfl, fun _ => ⟨rfl, rfl⟩, fun hroomA hroomB => absurd ((adcFull_or_iff s).mp hfull) (by omega)⟩
    · rw [if_neg hfull]
      exact ⟨rfl, fun hwait => absurd ((adcFull_or_iff s).mpr hwait) hfull, fun _ _ => ⟨rfl, rfl⟩⟩
  · obtain ⟨hleft, hstartA, hstartB, hpreA⟩ := startTriggered_starts s q
    have husesA : qUses .a q = true := bne_iff_ne.mpr ha
    have husesB : qUses .b q = true ↔ q.chanB ≠ 0xFFFF := by simp [qUses, hcheck]
    have hfirst : qUses .b q = false ∨ contNext s = none := hb.imp_left fun h => by simp [qUses, h, hcheck]
    rw [if_pos husesA] at hstartA
    refine ⟨_, exec_conversionStart_only hon hrunA hrunB hqueue husesA hfirst, ?_, ?_, fun hnone => ?_, fun hnamed => ?_⟩
    · simp [hleft, hqueue, eraseFirst]
    · simp [hpreA, husesA]
    · have hunused : ¬ qUses .b q = true := fun h => husesB.mp h hnone
      rw [if_neg hunused] at hstartB
      refine ⟨hstartB.trans hrunB, _, hstartA, rfl, rfl, ?_⟩
      simp [triggeredRun, triggeredStart, husesA, hunused]
    · have hused : qUses .b q = true := husesB.mpr hnamed
      rw [if_pos hused, hcheck] at hstartB
      refine ⟨_, _, hstartA, hstartB, rfl, rfl, rfl, ?_⟩
      simp [triggeredRun, triggeredStart, husesA, hused]
  · exact ⟨_, exec_conversionStart_displaced hon hrunB hnext hslot, rfl, rfl, _, rfl, rfl, rfl, rfl⟩
  · exact ⟨_, exec_conversionStart_round hon hrunC hqueue, rfl, _, rfl, rfl, rfl⟩

end Sys2Proof.Machine
end

section
/-! PROOFS. Conversions that complete (06_measurement, R134, R147–R151, R453). -/

namespace Sys2Proof.Machine

/-! ### What a delivery leaves of the records and the converters (R150) -/

/-- The records, the runs of ADC A and ADC C, and the precharge of ADC A. -/
def convView (s : State) : Table ResRec × Option ConvRun × Option ConvRun × Bool :=
  (s.meas.recs, s.meas.runA, s.meas.runC, s.meas.preA)

theorem convView_of_meas {s t : State} (h : t.meas = s.meas) : convView t = convView s := by rw [convView, h, convView]

section
variable (s : State)

@[simp] theorem resultDue_meas (code endClk : Nat) : (resultDue s code endClk).meas = s.meas :=
  resultDue_within (bs := [.engine]) s code endClk (.refl _ s) (by decide) .meas (by decide)

@[simp] theorem loomLoad_meas (k : Nat) (v : Int) (stamp : Nat) : (loomLoad s k v stamp).meas = s.meas :=
  loomLoad_within (bs := [.loom]) s k v stamp (.refl _ s) (by decide) .meas (by decide)

@[simp] theorem noteVin_meas (cont : Bool) (v : Int) : (noteVin s cont v).meas = s.meas :=
  noteVin_within (bs := [.power]) s cont v (.refl _ s) (by decide) .meas (by decide)

@[simp] theorem noteVdrv_meas (v : Int) : (noteVdrv s v).meas = s.meas :=
  noteVdrv_within (bs := [.power, .valve, .fans]) s v (.refl _ s) (by decide) (by decide) (by decide) .meas (by decide)

@[simp] theorem bankRefresh_meas (b : Nat) : (bankRefresh s b).meas = s.meas :=
  bankRefresh_within (bs := [.valve]) s b (.refl _ s) (by decide) .meas (by decide)

@[simp] theorem noteFanCurrent_meas (c : Nat) (v : Int) : (noteFanCurrent s c v).meas = s.meas :=
  noteFanCurrent_within (bs := [.fans]) s c v (.refl _ s) (by decide) .meas (by decide)

/-- VREF_CHK changes the state of the reference, its count and its alarm. -/
theorem convView_noteVref (v : Int) : convView (noteVref s v) = convView s := by
  unfold noteVref
  dsimp only
  repeat' apply ite_leaves (g := convView)
  all_goals rfl

/-- What the blocks that watch internal channels do touches no record and no converter. -/
theorem convView_noteInternal (adc : Adc) (cont : Bool) (c : Nat) (v : Int) :
    convView (noteInternal s adc cont c v) = convView s := by
  refine ite_leaves (convView_of_meas (noteVin_meas ..)) (ite_leaves (convView_of_meas (noteVdrv_meas ..))
    (ite_leaves ?vboost (ite_leaves (convView_noteVref ..) (ite_leaves (convView_of_meas (noteFanCurrent_meas ..))
      (ite_leaves ?sensor rfl)))))
  case vboost => exact forAll_leaves convView (fun s b => convView_of_meas (bankRefresh_meas s b)) _ _
  case sensor =>
    have hsensor : convView (if fieldTemp c = true ∧ ¬ s.io.linkUp = true then s
      else modSensor s (c - 0x20) fun t => { t with raw := v }) = convView s := ite_leaves rfl rfl
    exact ite_leaves hsensor hsensor

end

/-- A record that is put in its place is read there, and nothing else of the measurement changes (R150). -/
theorem convView_putRec (s : State) (key : Nat) (r : ResRec) :
    convView (putRec s key r) = (Table.set (blank {}) s.meas.recs key r, s.meas.runA, s.meas.runC, s.meas.preA) := rfl

/-- A delivery puts the record in its place, unless the barrier link keeps it on the F-die (R15). -/
theorem deliver_records (s : State) (adc : Adc) (cont : Bool) {code : Nat} (r : ResRec)
    (hlink : 0x400 ≤ code → fieldTemp (code - 0x400) = true → s.io.linkUp = true) :
    let t := deliver s adc cont code r
    getRec t (chanRec code) = r ∧ t.meas.runA = s.meas.runA ∧ t.meas.runC = s.meas.runC ∧
      t.meas.preA = s.meas.preA := by
  have hput : ¬ (0x400 ≤ code ∧ fieldTemp (code - 0x400) = true ∧ ¬ s.io.linkUp = true) :=
    fun ⟨hcode, htemp, hdown⟩ => hdown (hlink hcode htemp)
  have hview : convView (deliver s adc cont code r) = convView (putRec s (chanRec code) r) := by
    rw [deliver, if_neg hput]
    refine (convView_of_meas (resultDue_meas ..)).trans ?_
    exact ite_leaves (convView_of_meas (loomLoad_meas ..)) (convView_noteInternal ..)
  rw [convView_putRec] at hview
  simp only [convView, Prod.mk.injEq] at hview
  obtain ⟨hrecs, hrest⟩ := hview
  refine ⟨?_, hrest⟩
  rw [getRec, hrecs]
  exact Table.getD_set_self ..

/-! ### The record of a conversion (R147, R148, R453) -/

section
variable {s : State} {l raw : Int}

/-- VALUE, RAW and the flags of an internal channel. -/
theorem convResult_internal {code : Nat} (h : 0x400 ≤ code) (c : ConvSet) : convResult s code c l raw =
    (sat32 l, (raw % 65536).toNat, if s.meas.refState = 2 then 0 else rfRef) := by
  rw [convResult, if_neg (by omega)]

/-- An internal channel that a settled converter reads in time and in a locked cycle has a record without flags. -/
theorem mkRec_flags_internal {key code stampClk : Nat} {r : ConvRun} (h : 0x400 ≤ code) (href : s.meas.refState = 2)
    (hdelayed : r.delayed = false) (hphase : phaseTrueAt s stampClk = true) :
    (mkRec s key code r l raw stampClk).flags = 0 := by
  simp [mkRec, convResult_internal h, href, hdelayed, hphase]

theorem chanRec_ai {k : Nat} (hk : k < 24) : chanRec (308 + k) = k := by
  rw [chanRec, if_pos (by omega), Nat.add_sub_cancel_left]

/-- VALUE and RAW of an AI input. -/
theorem mkRec_ai {key k stampClk : Nat} {r : ConvRun} (hk : k < 24) : let x := mkRec s key (308 + k) r l raw stampClk
    x.value = (aiValue s k r.set l raw).1 ∧ x.raw = (aiValue s k r.set l raw).2.1 := by
  have hcode : 308 + k < 332 := by omega
  simp only [mkRec, convResult, hcode, if_true, Nat.add_sub_cancel_left, and_self]

/-- The flags of a range come from the value alone: the others are multiples of four. -/
theorem overFlag_mkRec_ai {key k stampClk : Nat} {r : ConvRun} (hk : k < 24) :
    overFlag (mkRec s key (308 + k) r l raw stampClk) = ((aiValue s k r.set l raw).2.2 % 4 != 0) := by
  have hcode : 308 + k < 332 := by omega
  have hmod : (mkRec s key (308 + k) r l raw stampClk).flags % 4 = (aiValue s k r.set l raw).2.2 % 4 := by
    simp only [mkRec, convResult, hcode, if_true, Nat.add_sub_cancel_left, rfRef, rfRecovering, rfDelayed, rfSynth]
    split_ifs <;> omega
  rw [overFlag, hmod]

end

/-! ### An AI input in mode 1 (R136, R453) -/

section
variable {s : State} {k : Nat} {c : ConvSet} {l raw : Int} (hmode : c.mode = 1)
include hmode

theorem aiOver_mode1 : aiOver s k c l = (decide (l < -32768), decide (688128 < l)) := by simp [aiOver, hmode]

theorem aiExc_mode1 : aiExc s k c l = false := by simp [aiExc, hmode]

/-- Below the range: the low end of the format and OVR_LOW. -/
theorem aiValue_below (h : l < -32768) : aiValue s k c l raw = (s32Min, 0, rfLow) := by
  simp [aiValue, aiOver_mode1 hmode, aiExc_mode1 hmode, h]

/-- Above the range: the high end of the format and OVR_HIGH. -/
theorem aiValue_above (h : 688128 < l) : aiValue s k c l raw = (s32Max, 0xFFFF, rfHigh) := by
  have hlow : ¬ l < -32768 := by omega
  simp [aiValue, aiOver_mode1 hmode, aiExc_mode1 hmode, h, hlow]

/-- In range, without linearisation: the scaled value and a code of the mapping. -/
theorem aiValue_inRange (hsensor : c.sensor = 0) (hlow : -32768 ≤ l) (hhigh : l ≤ 688128) : aiValue s k c l raw =
    (sat32 (roundDiv (c.gain * l) 65536 + c.offset), aiRaw 1 l raw, 0) := by
  simp [aiValue, aiOver_mode1 hmode, hsensor, hmode, Int.not_lt.mpr hlow, Int.not_lt.mpr hhigh]

end

theorem aiRaw_bounds (mode : Nat) (l raw : Int) : 1 ≤ aiRaw mode l raw ∧ aiRaw mode l raw ≤ 0xFFFE := by
  rw [aiRaw]
  generalize 1 + roundDiv _ _ + clampInt _ _ _ = v
  have hlow := le_clampInt (show (1 : Int) ≤ 0xFFFE by decide) v
  have hhigh := clampInt_le 1 0xFFFE v
  omega

/-- A quotient within 0 and a whole number stays there when it is rounded. -/
theorem roundDiv_bounds {a b : Int} {n : Nat} (hb : 0 < b) (ha : 0 ≤ a) (h : a ≤ n * b) :
    0 ≤ roundDiv a b ∧ roundDiv a b ≤ n := by
  lift a to Nat using ha
  lift b to Nat using hb.le
  have hquot : (2 * a + b) / (2 * b) ≤ n := by
    refine Nat.lt_succ_iff.mp (Nat.div_lt_of_lt_mul ?_)
    norm_cast at hb h
    nlinarith
  have hsign : ((a : Int) < 0) = ((b : Int) < 0) := propext (iff_of_false (by omega) (by omega))
  rw [roundDiv, if_neg hb.ne']
  simp only [Int.natAbs_natCast, hsign, if_true]
  exact ⟨Int.natCast_nonneg _, Int.ofNat_le.mpr hquot⟩

/-- A converter that misses no code gives the code of the linear mapping (R453). -/
theorem aiRaw_linear {l : Int} (hlow : -32768 ≤ l) (hhigh : l ≤ 688128) :
    (aiRaw 1 l 0 : Int) = 1 + roundDiv ((l + 32768) * 65533) 720896 := by
  obtain ⟨hpos, hmax⟩ := roundDiv_bounds (a := (l + 32768) * 65533) (b := 720896) (n := 65533) (by decide) (by omega)
    (by omega)
  have hmiss : clampInt (-rawError 1 l) (rawError 1 l) 0 = 0 := rfl
  have hspan : rawSpan 1 = (-32768, 688128) := rfl
  simp only [aiRaw, hmiss, hspan, sub_neg_eq_add, add_zero]
  norm_num only
  rw [clampInt, max_eq_left (by omega), min_eq_left (by omega)]
  omega

/-! ### Completion (R134, R147) -/

/-- ADC C is free again. -/
def freeC (s : State) : State := { s with meas := { s.meas with runC := none } }

/-- ADC A is free again; a precharge precedes its next conversion when `pre` is set. -/
def freeA (s : State) (pre : Bool) : State := { s with meas := { s.meas with runA := none, preA := pre } }

theorem exec_conversionComplete_c {s : State} {r : ConvRun} (hrun : s.meas.runC = some r) (hend : r.start + 1600 ≤ s.clk)
    (l lB raw rawB : Int) : exec (.conversionComplete .c l lB raw rawB) s =
      .next (deliver (freeC s) .c false r.chan (mkRec (freeC s) (chanRec r.chan) r.chan r l raw (r.start + 400))) := by
  have hdue : due s (after r.start (usecs 4)) = true := by
    rw [due, after, Nat.add_comm]
    exact decide_eq_true hend
  rw [exec_conversionComplete, execConversionComplete]
  simp only [hrun, hdue, if_true]
  rfl

theorem exec_conversionComplete_a {s : State} {r : ConvRun} (hrun : s.meas.runA = some r) (hend : r.start + 200 ≤ s.clk)
    (halone : r.paired = false) (l lB raw rawB : Int) : exec (.conversionComplete .a l lB raw rawB) s =
      .next (
        let x := mkRec s (chanRec r.chan) r.chan r l raw (r.start + 80)
        deliver (freeA s (overFlag x)) .a false r.chan x) := by
  have hdue : due s (r.start + 200) = true := decide_eq_true hend
  rw [exec_conversionComplete, execConversionComplete]
  simp only [hrun, hdue, if_true, completeA, halone, Bool.false_eq_true, if_false]
  rfl

/-- A conversion of AI input `k` alone leaves its record in place, and a precharge ahead when it is over range (R151). -/
theorem exec_conversionComplete_ai {s : State} {r : ConvRun} {k : Nat} (hrun : s.meas.runA = some r)
    (hend : r.start + 200 ≤ s.clk) (halone : r.paired = false) (hk : k < 24) (hchan : r.chan = 308 + k)
    (l lB raw rawB : Int) : let x := mkRec s k (308 + k) r l raw (r.start + 80)
    ∃ t, exec (.conversionComplete .a l lB raw rawB) s = .next t ∧ t.meas.runA = none ∧ getRec t k = x ∧
      t.meas.preA = overFlag x := by
  intro x
  have hcode : ¬ 0x400 ≤ 308 + k := by omega
  obtain ⟨hrec, hfree, -, hpre⟩ := deliver_records (code := 308 + k) (freeA s (overFlag x)) .a false x
    fun h => absurd h hcode
  have hexec := exec_conversionComplete_a hrun hend halone l lB raw rawB
  rw [hchan, chanRec_ai hk] at hexec
  rw [chanRec_ai hk] at hrec
  exact ⟨_, hexec, hfree, hrec, hpre⟩

/-- Settles O19: the delivered record is the one that `mkRec` makes of the run. -/
theorem conversionsDeliverTheirRecord : Obligations.ConversionsDeliverTheirRecord := by
  unfold Obligations.ConversionsDeliverTheirRecord
  constructor
  · intro s r l lB raw rawB hrun hend hchan hlink
    obtain ⟨hrec, -, hfree, -⟩ := deliver_records (freeC s) .c false
      (mkRec (freeC s) (chanRec r.chan) r.chan r l raw (r.start + 400)) (fun _ => hlink)
    refine ⟨_, exec_conversionComplete_c hrun hend l lB raw rawB, hfree, ?_⟩
    rw [hrec]
    have hresult := convResult_internal (s := freeC s) (l := l) (raw := raw) hchan r.set
    refine ⟨rfl, congrArg Prod.fst hresult, ?_, rfl, rfl, rfl, fun href hdelayed hphase =>
      mkRec_flags_internal hchan href hdelayed hphase⟩
    simp only [mkRec, hresult]
    omega
  · intro s r k l lB raw rawB hrun hend halone hk hchan hmode hsensor
    obtain ⟨t, hexec, hfree, hrec, hpre⟩ := exec_conversionComplete_ai hrun hend halone hk hchan l lB raw rawB
    obtain ⟨hvalue, hraw⟩ := mkRec_ai (s := s) (l := l) (raw := raw) (key := k) (stampClk := r.start + 80) (r := r) hk
    rw [overFlag_mkRec_ai hk] at hpre
    refine ⟨t, hexec, hfree, ?_⟩
    rw [hrec]
    dsimp only
    rw [hvalue, hraw, hpre]
    refine ⟨rfl, rfl, fun hlow => ?_, fun hhigh => ?_, fun hlow hhigh => ?_⟩
    · rw [aiValue_below hmode hlow]
      exact ⟨rfl, rfl, rfl⟩
    · rw [aiValue_above hmode hhigh]
      exact ⟨rfl, rfl, rfl⟩
    · rw [aiValue_inRange hmode hsensor hlow hhigh]
      obtain ⟨hmin, hmax⟩ := aiRaw_bounds 1 l raw
      exact ⟨rfl, hmin, hmax, fun hexact => by rw [hexact]; exact aiRaw_linear hlow hhigh⟩

end Sys2Proof.Machine
end

section
/-! PROOFS. Continuous slots, rounds and scans, AI inputs, noise and analogue outputs (06_measurement, R136, R144–R146, R151,
R154, R156). -/

namespace Sys2Proof.Machine

/-! ### Continuous slots (R144, R145) -/

section
variable {s : State} {pos c : Nat} (hslot : slotChan s pos = some c) (hon : measOn s = true)
  (hpos : (s.clk - s.power.releaseClk) % 3200 = pos)
include hslot hon hpos

/-- At its position a continuous conversion starts, unless a triggered one is known, one runs, or an older one waits. -/
theorem exec_continuousSlot_at : exec (.continuousSlot pos) s = .next (
    if trigKnown s (s.clk + 200) || !adcFree s .b || !s.meas.contWait.isEmpty then
      { s with meas := { s.meas with contWait := s.meas.contWait ++ [⟨pos, s.clk, trigKnown s (s.clk + 200)⟩] } }
    else startCont s c) := by
  have hgo : ¬ ((!measOn s) = true ∨ (s.clk - s.power.releaseClk) % 3200 ≠ pos) := by simp [hon, hpos]
  rw [exec_continuousSlot, execContinuousSlot]
  simp only [hslot, hgo, Bool.or_eq_true, decide_eq_true_eq, if_false]
  exact (apply_ite Host.Outcome.next _ _ _).symm

end

/-! ### Rounds and scans (R146) -/

section
variable {s : State}

theorem scanFollow_of_due (hdue : s.meas.scanDue ≤ s.clk) : scanFollow s = { s with meas := { s.meas with
    scanDue := after s.meas.scanDue (msecs (Cfg.measCScanPeriod s)), scanAsked := true } } :=
  if_pos (decide_eq_true hdue)

theorem scanFollow_of_early (hearly : s.clk < s.meas.scanDue) : scanFollow s = s :=
  if_neg (by simpa [due] using hearly)

/-- What a scan that is due changes. -/
theorem scanFollow_eq (s : State) : ∃ m, scanFollow s = { s with meas := m } ∧ m.nextRound = s.meas.nextRound ∧
    m.cQueue = s.meas.cQueue ∧ (m.scanAsked = true ↔ s.meas.scanAsked = true ∨ s.meas.scanDue ≤ s.clk) := by
  by_cases hdue : s.meas.scanDue ≤ s.clk
  · exact ⟨_, scanFollow_of_due hdue, rfl, rfl, by simp [hdue]⟩
  · exact ⟨s.meas, scanFollow_of_early (Nat.not_le.mp hdue), rfl, rfl, by simp [hdue]⟩

theorem mem_scanChans {k : Nat} (hk : k < 24) (s : State) :
    308 + k ∈ scanChans s ↔ Cfg.aiCScan s k = true ∧ Cfg.aiAiMode s k ≠ 0 := by
  simp [scanChans, upTo, hk]

/-- The channels that a round queues after its own: those of a scan that is asked for or due. -/
def scanned (s : State) : List Nat := if (scanFollow s).meas.scanAsked then scanChans s else []

theorem scanned_of_scan (h : s.meas.scanAsked = true ∨ s.meas.scanDue ≤ s.clk) : scanned s = scanChans s := by
  obtain ⟨m, hscan, -, -, hasked⟩ := scanFollow_eq s
  rw [scanned, hscan]
  exact if_pos (hasked.mpr h)

theorem scanned_of_none (hidle : s.meas.scanAsked = false) (hearly : s.clk < s.meas.scanDue) : scanned s = [] := by
  rw [scanned, scanFollow_of_early hearly, hidle, if_neg Bool.false_ne_true]

/-- A round queues its channels, and those of the scan. -/
def roundQueued (s : State) : State :=
  let s' := scanFollow s
  { s' with meas := { s'.meas with
    nextRound := after s.meas.nextRound (msecs 10), cQueue := s.meas.cQueue ++ roundChans ++ scanned s, scanAsked := false } }

theorem exec_housekeepingRound_due (hon : measOn s = true) (hdue : s.meas.nextRound ≤ s.clk) :
    exec .housekeepingRound s = .next (roundQueued s) := by
  obtain ⟨m, hscan, hround, hqueue, -⟩ := scanFollow_eq s
  rw [exec_housekeepingRound, execHousekeepingRound, if_pos ⟨hon, decide_eq_true hdue⟩, roundQueued, scanned, hscan]
  simp only [hround, hqueue]
  rfl

end

/-! ### AI inputs (R136, R151) -/

theorem othersKept_modAi {s : State} {k : Nat} {f : AiRt → AiRt} : OthersKept getAi s (modAi s k f) k :=
  fun j hj => by rw [getAi_modAi, if_neg hj]

section
variable {s : State} {k : Nat}

theorem exec_shuntTrip_closed (hk : k < 24) (hmode : Cfg.aiAiMode s k = 3) (hclosed : (getAi s k).shuntOpen = false) :
    exec (.shuntTrip k) s = .next (modAi s k fun a => { a with shuntOpen := true, shuntAt := s.clk }) :=
  if_pos ⟨hk, hmode, by simp [hclosed]⟩

theorem exec_shuntReclose_passed (hk : k < 24) (hopen : (getAi s k).shuntOpen = true)
    (hpassed : after (getAi s k).shuntAt (msecs 100) ≤ s.clk) : exec (.shuntReclose k) s =
      .next (recoverUntil (modAi s k fun a => { a with shuntOpen := false }) k (after s.clk (msecs 1))) :=
  if_pos ⟨hk, hopen, decide_eq_true hpassed⟩

theorem exec_aiClampEvent_driven (hk : k < 24) :
    exec (.aiClampEvent k true) s = .next (modAi s k fun a => { a with clamped := true }) :=
  if_neg (Nat.not_le.mpr hk)

/-- An input that is no longer driven beyond its clamp lets its two neighbours settle for 50 µs. -/
theorem exec_aiClampEvent_released (hlow : 0 < k) (hhigh : k < 23) (hclamped : (getAi s k).clamped = true) :
    exec (.aiClampEvent k false) s = .next (recoverUntil (recoverUntil (modAi s k fun a => { a with clamped := false })
      (k - 1) (after s.clk (usecs 50))) (k + 1) (after s.clk (usecs 50))) := by
  rw [exec_aiClampEvent, execAiClampEvent, if_neg (by omega), if_neg Bool.false_ne_true, if_pos hclamped]
  simp only [if_neg hlow.ne', if_neg hhigh.ne, modAi_clk]

theorem exec_recoveringEnd_due {u : Nat} (hrecovering : (getAi s k).recovering = some u) (hdue : u ≤ s.clk) :
    exec (.recoveringEnd k) s = .next (modAi s k fun a => { a with recovering := none }) := by
  rw [exec_recoveringEnd, execRecoveringEnd]
  simp only [hrecovering]
  exact if_pos (decide_eq_true hdue)

end

section
variable (s : State) (k u : Nat)

theorem getAi_recoverUntil_self : getAi (recoverUntil s k u) k =
    { getAi s k with recovering := some (max u ((getAi s k).recovering.getD 0)) } := by
  rw [recoverUntil, getAi_modAi, if_pos rfl]

theorem othersKept_recoverUntil : OthersKept getAi s (recoverUntil s k u) k := othersKept_modAi

/-- The input recovers until `u` at least. -/
theorem recoverUntil_recovering : ∃ v, (getAi (recoverUntil s k u) k).recovering = some v ∧ u ≤ v := by
  rw [getAi_recoverUntil_self]
  exact ⟨_, rfl, le_max_left ..⟩

end

/-! ### Noise (R154) -/

/-- The state with the noise ratios of the two converters and their flag, measured in the present hour. -/
def noiseMeasured (s : State) (a b : Int) : State :=
  { s with meas := { s.meas with
    noiseA := a, noiseB := b, noiseExcess := decide (14 * 65536 < a * 10) || decide (14 * 65536 < b * 10)
    noiseHour := some (utcSec s / 3600).toNat } }

theorem exec_noiseMeasurement_due {s : State} (hdue : noiseDue s = true) (x y : NoiseSum) :
    exec (.noiseMeasurement x y) s = .next
      (noiseMeasured s (noiseFactor 0 (converterKelvin s) x) (noiseFactor 1 (converterKelvin s) y)) := if_pos hdue

/-! ### Analogue outputs (R156) -/

section
variable {s : State} {a : Nat}

theorem othersKept_modAo {f : AoRt → AoRt} : OthersKept getAo s (modAo s a f) a :=
  fun j hj => by rw [getAo_modAo, if_neg hj]

/-- STATUS of an output with a fault. -/
def aoFaultStatus (k : AoFault) : Nat := if k = .open_ then 1 else 2

/-- An open loop is found in mode 2, an overload in mode 1. -/
theorem exec_aoFault_found {k : AoFault} (ha : a < 8) (hmode : Cfg.aoAoMode s a = if k = .open_ then 2 else 1) :
    exec (.aoFault a k) s = .next (modAo s a fun c => { c with status := aoFaultStatus k }) := by
  cases k with
  | open_ => exact (if_neg (Nat.not_le.mpr ha)).trans (if_pos hmode)
  | short => exact (if_neg (Nat.not_le.mpr ha)).trans (if_pos hmode)

theorem exec_aoStatusClear_of_output (ha : a < 8) :
    exec (.aoStatusClear a) s = .next (modAo s a fun c => { c with status := 0 }) := if_pos ha

end

/-- Settles O20: each event by the equation of its case, and what its update leaves of the other inputs or outputs. -/
theorem framesInputsAndOutputs : Obligations.FramesInputsAndOutputs := by
  unfold Obligations.FramesInputsAndOutputs
  refine ⟨fun s pos c hslot hon hpos => ?slot, fun s hon hdue => ?round, fun s hon hdue => ?scan,
    fun s k hk hmode hclosed => ?trip, fun s k hk hopen hpassed => ?reclose, fun s k hk => ?driven,
    fun s k hlow hhigh hclamped => ?released, fun s k u hrecovering hdue => ?recovered, fun s x y hdue => ?noise,
    fun s a k ha hmode => ?fault, fun s a ha => ?clear⟩
  case slot =>
    refine ⟨_, exec_continuousSlot_at hslot hon hpos, fun hwait => ?_, fun hknown hrun hnone => ?_⟩
    · have hyield : (trigKnown s (s.clk + 200) || !adcFree s .b || !s.meas.contWait.isEmpty) = true := by
        simpa [adcFree, or_assoc, Option.ne_none_iff_isSome] using hwait
      rw [if_pos hyield]
      exact ⟨rfl, rfl⟩
    · rw [if_neg (by simp [adcFree, hknown, hrun, hnone])]
      exact ⟨_, startCont_runB s c, rfl, rfl, rfl⟩
  case round =>
    exact ⟨_, exec_housekeepingRound_due hon hdue, rfl, rfl, scanned s, rfl, scanned_of_none, fun hscan k hk => by
      rw [scanned_of_scan hscan, mem_scanChans hk]⟩
  case scan =>
    refine ⟨scanFollow s, ?_, ?_⟩
    · rw [exec_aiScan, execAiScan, if_pos hon]
    · rw [scanFollow_of_due hdue]
      exact ⟨rfl, rfl⟩
  case trip =>
    refine ⟨_, exec_shuntTrip_closed hk hmode hclosed, ?_, ?_, othersKept_modAi⟩ <;> rw [getAi_modAi, if_pos rfl]
  case reclose =>
    refine ⟨_, exec_shuntReclose_passed hk hopen hpassed, ?_, fun j hj => ?_, recoverUntil_recovering ..⟩
    · rw [getAi_recoverUntil_self, getAi_modAi, if_pos rfl]
    · rw [othersKept_recoverUntil _ k _ j hj, othersKept_modAi j hj]
  case driven =>
    refine ⟨_, exec_aiClampEvent_driven hk, ?_, othersKept_modAi⟩
    rw [getAi_modAi, if_pos rfl]
  case released =>
    refine ⟨_, exec_aiClampEvent_released hlow hhigh hclamped, ?_, fun j hj => ?_, fun j hself hbelow habove => ?_⟩
    · rw [othersKept_recoverUntil _ _ _ k (by omega), othersKept_recoverUntil _ _ _ k (by omega), getAi_modAi, if_pos rfl]
    · rcases hj with rfl | rfl
      · rw [othersKept_recoverUntil _ _ _ (k - 1) (by omega)]
        exact recoverUntil_recovering ..
      · exact recoverUntil_recovering ..
    · rw [othersKept_recoverUntil _ _ _ j habove, othersKept_recoverUntil _ _ _ j hbelow, othersKept_modAi j hself]
  case recovered =>
    refine ⟨_, exec_recoveringEnd_due hrecovering hdue, ?_, othersKept_modAi⟩
    rw [getAi_modAi, if_pos rfl]
  case noise =>
    refine ⟨_, exec_noiseMeasurement_due hdue x y, rfl, rfl, ?_, rfl⟩
    simp [noiseMeasured]
  case fault =>
    refine ⟨_, exec_aoFault_found ha hmode, ?_, ?_, othersKept_modAo⟩ <;> rw [getAo_modAo, if_pos rfl]
    rfl
  case clear =>
    refine ⟨_, exec_aoStatusClear_of_output ha, ?_, ?_, othersKept_modAo⟩ <;> rw [getAo_modAo, if_pos rfl]

end Sys2Proof.Machine
end

section
/-! PROOFS. Fan speeds, table mode, lost tachs and the PWM events (09_fan_drive, R210, R215–R217, R220;
06_measurement, R141). -/

namespace Sys2Proof.Machine

/-! ### What the operations of the fan drive leave of a fan -/

theorem othersKept_modFan {s : State} {k : Nat} {f : FanRt → FanRt} : OthersKept getFan s (modFan s k f) k :=
  fun j hj => by rw [getFan_modFan, if_neg hj]

theorem getFan_of_fans {s t : State} (h : t.fans = s.fans) (f : Nat) : getFan t f = getFan s f := by rw [getFan, h, getFan]

/-- What an update of a fan does not change of each of them, it does not change of fan `j`. -/
theorem fanView_modFan {β : Type} (view : FanRt → β) {g : FanRt → FanRt} (hg : ∀ c, view (g c) = view c) (j : Nat)
    (s : State) (k : Nat) : view (getFan (modFan s k g) j) = view (getFan s j) := by
  rw [getFan_modFan]
  split
  · next h => rw [hg, h]
  · rfl

/-- BOOSTED follows the siblings and changes nothing else. -/
theorem fanView_refreshBoost {β : Type} (view : FanRt → β) (hview : ∀ b c, view (fanFlag fanBoostedBit b c) = view c)
    (j : Nat) (s : State) : view (getFan (refreshBoost s) j) = view (getFan s j) :=
  forAll_leaves (fun s => view (getFan s j)) (fun _ _ => fanView_modFan view (hview _) j _ _) _ s

/-- What table mode keeps of a fan, the clock of its last evaluation, and TEMP_SRC_FAULT. -/
def FanRt.notes (c : FanRt) : Int × Nat × Nat × Bool :=
  (c.tableSpeed, c.tableAt, c.lastEval, Flag.get c.flags fanTempSrcFault)

/-- The notes of a fan and its measured speed. -/
def FanRt.record (c : FanRt) : Int × Int × Nat × Nat × Bool := (c.speed, c.notes)

/-- The record of fan `j`. -/
def fanRecord (j : Nat) (s : State) : Int × Int × Nat × Nat × Bool := (getFan s j).record

theorem fanRecord_modFan {g : FanRt → FanRt} (hg : ∀ c, (g c).record = c.record) (j : Nat) (s : State) (k : Nat) :
    fanRecord j (modFan s k g) = fanRecord j s := fanView_modFan FanRt.record hg j s k

theorem notes_of_record {c d : FanRt} (h : c.record = d.record) : c.notes = d.notes := congrArg Prod.snd h

theorem record_fanFlag {i : Nat} (hi : fanTempSrcFault ≠ i) (b : Bool) (c : FanRt) :
    (fanFlag i b c).record = c.record := by
  simp only [FanRt.record, FanRt.notes, fanFlag, Flag.get_set_other _ _ hi]

section
variable (j : Nat) (s : State) (k : Nat)

theorem fanRecord_limitFollow : fanRecord j (limitFollow s k) = fanRecord j s := by
  rw [limitFollow, fanRecord_modFan fun c => record_fanFlag (by decide) _ c]

theorem fanRecord_shadowRegulate : fanRecord j (shadowRegulate s k) = fanRecord j s := by
  rw [shadowRegulate, shadowSet]
  refine fanRecord_modFan (fun c => ?_) j _ k
  rfl

theorem fanRecord_fanListen : fanRecord j (fanListen s k) = fanRecord j s := by
  rw [fanListen]
  refine fanRecord_modFan (fun c => ?_) j s k
  exact record_fanFlag (by decide) _ _

theorem fanRecord_fanStop : fanRecord j (fanStop s k) = fanRecord j s := by
  rw [fanStop]
  refine fanRecord_modFan (fun c => ?_) j s k
  exact (record_fanFlag (by decide) _ _).trans (record_fanFlag (by decide) _ _)

theorem fanRecord_fanRun (fine : Int) : fanRecord j (fanRun s k fine) = fanRecord j s := by
  rw [fanRun, fanRecord_limitFollow]
  refine fanRecord_modFan (fun c => ?_) j s k
  exact (record_fanFlag (by decide) _ _).trans (record_fanFlag (by decide) _ _)

/-- A fan that slews follows its new speed with its voltages (R217, R219). -/
theorem fanRecord_slewed (crossing : Bool) (fine : Int) : fanRecord j (shadowRegulate (modFan s k fun c =>
    fanFlag fanCrossing crossing { c with fine := fine }) k) = fanRecord j s := by
  rw [fanRecord_shadowRegulate]
  refine fanRecord_modFan (fun c => ?_) j s k
  exact record_fanFlag (by decide) _ _

theorem fanRecord_ramped : fanRecord j (shadowRegulate (modFan s k fun c => { c with openLoop := rampField s k }) k) =
    fanRecord j s := by
  rw [fanRecord_shadowRegulate]
  refine fanRecord_modFan (fun c => ?_) j s k
  rfl

/-- A fan that its loops drive is taken to turn at its measured speed. -/
theorem fanRecord_followed : fanRecord j (modFan s k fun c => { c with fine := c.speed * fineUnit }) =
    fanRecord j s := by
  refine fanRecord_modFan (fun c => ?_) j s k
  rfl

/-- An evaluation of a direct fan drives it and measures nothing (R217). -/
theorem fanRecord_directStep (dt : Nat) (entry : List Byte) :
    fanRecord j (directStep s k dt entry) = fanRecord j s := by
  rw [directStep]
  refine ite_leaves rfl (ite_leaves ?stopping (ite_leaves ?starting ?running))
  case stopping =>
    exact ite_leaves (ite_leaves (fanRecord_fanStop ..) (fanRecord_slewed ..)) (ite_leaves rfl (fanRecord_fanStop ..))
  case starting => exact ite_leaves rfl (fanRecord_fanListen ..)
  case running =>
    exact ite_leaves (fanRecord_fanRun ..) (ite_leaves (fanRecord_ramped ..) (ite_leaves
      (ite_leaves (fanRecord_slewed ..) (fanRecord_followed ..)) (ite_leaves (fanRecord_shadowRegulate ..) rfl)))

end

/-! ### One evaluation of a fan (R215, R217) -/

theorem fanFetch_withMem (s : State) (f : Nat) : ∃ m, (fanFetch s f).2 = withMem s m := by
  rw [fanFetch]
  split
  · exact ⟨s.mem, rfl⟩
  · exact heddleFetch_withMem ..

/-- A fan's evaluation starts: its heddle entry has been fetched, and it notes the clock. -/
def evalStarted (s : State) (f : Nat) : State := modFan (fanFetch s f).2 f fun c => { c with lastEval := s.clk }

theorem getFan_evalStarted (s : State) (f : Nat) :
    getFan (evalStarted s f) f = { getFan s f with lastEval := s.clk } := by
  obtain ⟨m, hm⟩ := fanFetch_withMem s f
  rw [evalStarted, getFan_modFan, if_pos rfl, hm]
  rfl

theorem fanUpdate_direct {s : State} {f : Nat} (hf : f < 4) : fanUpdate s f = refreshBoost (limitFollow
    (directStep (evalStarted s f) f (s.clk - (getFan s f).lastEval) (fanFetch s f).1) f) := by
  rw [fanUpdate]
  simp only [if_pos hf]
  rfl

theorem fanUpdate_ec (s : State) (e : Nat) : fanUpdate s (4 + e) = refreshBoost
    (ecStep (evalStarted s (4 + e)) e (s.clk - (getFan s (4 + e)).lastEval) (fanFetch s (4 + e)).1) := by
  rw [fanUpdate]
  simp only [if_neg (show ¬ 4 + e < 4 by omega), Nat.add_sub_cancel_left]
  rfl

/-- An evaluation of a direct fan leaves its measured speed and what table mode keeps. -/
theorem record_fanUpdate {s : State} {f : Nat} (hf : f < 4) :
    (getFan (fanUpdate s f) f).record = { getFan s f with lastEval := s.clk }.record := by
  rw [fanUpdate_direct hf, fanView_refreshBoost FanRt.record (record_fanFlag (by decide)), ← getFan_evalStarted s f]
  exact (fanRecord_limitFollow ..).trans (fanRecord_directStep ..)

/-- State, measured speed, speed and duty of an EC fan, and what table mode keeps. -/
def FanRt.ecRecord (c : FanRt) : Nat × Int × Int × Int × Int × Nat × Nat × Bool :=
  (c.st, c.speed, c.fine, c.duty, c.notes)

theorem ecRecord_fanFlag {i : Nat} (hi : fanTempSrcFault ≠ i) (b : Bool) (c : FanRt) :
    (fanFlag i b c).ecRecord = c.ecRecord := by
  simp only [FanRt.ecRecord, FanRt.notes, fanFlag, Flag.get_set_other _ _ hi]

/-- An EC fan that has slewed to a speed, its measured speed, and the clock from which it turns. -/
def FanRt.ecSlewed (c : FanRt) (p : Int × Bool) (measured : Int) (clk : Nat) : FanRt :=
  fanFlag fanCrossing p.2
    { c with fine := p.1, st := if 0 < p.1 then 4 else 0, speed := measured
             roseAt := if 0 < p.1 ∧ c.fine ≤ 0 then clk else c.roseAt }

theorem notes_ecSlewed (c : FanRt) (p : Int × Bool) (measured : Int) (clk : Nat) :
    (c.ecSlewed p measured clk).notes = c.notes := by
  rw [FanRt.ecSlewed, notes_of_record (record_fanFlag (by decide) _ _)]
  rfl

/-- The duty of an EC fan at a speed: none at rest (R215). -/
def ecDutyAt (s : State) (e : Nat) (fine trim : Int) : Int :=
  if 0 < fine then
    Cfg.ecDutyMin s e + roundDiv (roundDiv fine fineUnit * (Cfg.ecDutyMax s e - Cfg.ecDutyMin s e)) pct100 +
      roundDiv trim fineUnit
  else 0

theorem ecDutyAt_rest (s : State) (e : Nat) {fine : Int} (h : fine ≤ 0) (trim : Int) : ecDutyAt s e fine trim = 0 :=
  if_neg (Int.not_lt.mpr h)

@[simp] theorem ioApply_fans (s : State) (i : Nat) : (ioApply s i).fans = s.fans :=
  ioApply_within (bs := [.io, .mem]) s i (.refl _ s) (by decide) (by decide) .fans (by decide)

/-- An evaluation of an EC fan gives its speed, its state and its duty from one slewed speed. -/
theorem ecRecord_ecStep (s : State) (e dt : Nat) (entry : List Byte) :
    let fine := (fanSlew s (4 + e) (fanWanted s (4 + e) entry) dt).1
    ∃ trim, (getFan (ecStep s e dt entry) (4 + e)).ecRecord =
      (if 0 < fine then 4 else 0, ecSpeed s e, fine, ecDutyAt s e fine trim, (getFan s (4 + e)).notes) := by
  intro fine
  let p := fanSlew s (4 + e) (fanWanted s (4 + e) entry) dt
  let slewed := modFan s (4 + e) fun c => c.ecSlewed p (ecSpeed s e) s.clk
  let trim := ecTrim slewed e dt
  refine ⟨trim, ?_⟩
  have hpin : getFan (ecStep s e dt entry) (4 + e) =
      getFan (modFan slewed (4 + e) fun c => { c with trim := trim, duty := ecDutyAt s e fine trim }) (4 + e) :=
    ite_leaves (g := fun s => getFan s (4 + e)) (getFan_of_fans (ioApply_fans ..) _) rfl
  have hslewed : getFan slewed (4 + e) = (getFan s (4 + e)).ecSlewed p (ecSpeed s e) s.clk := by
    rw [getFan_modFan, if_pos rfl]
  rw [hpin, getFan_modFan, if_pos rfl, hslewed, ← notes_ecSlewed (getFan s (4 + e)) p (ecSpeed s e) s.clk]
  rfl

/-- What table mode keeps of a fan stays through its evaluation, which notes the clock. -/
theorem notes_fanUpdate (s : State) (f : Nat) :
    (getFan (fanUpdate s f) f).notes = { getFan s f with lastEval := s.clk }.notes := by
  by_cases hf : f < 4
  · exact notes_of_record (record_fanUpdate hf)
  · obtain ⟨e, rfl⟩ := Nat.exists_eq_add_of_le (Nat.not_lt.mp hf)
    obtain ⟨trim, hrecord⟩ := ecRecord_ecStep (evalStarted s (4 + e)) e (s.clk - (getFan s (4 + e)).lastEval)
      (fanFetch s (4 + e)).1
    simp only [FanRt.ecRecord, Prod.mk.injEq] at hrecord
    obtain ⟨-, -, -, -, hnotes⟩ := hrecord
    rw [fanUpdate_ec, fanView_refreshBoost FanRt.notes fun b c => notes_of_record (record_fanFlag (by decide) b c),
      hnotes, getFan_evalStarted]

theorem ecSpeed_evalStarted (s : State) (f e : Nat) : ecSpeed (evalStarted s f) e = ecSpeed s e := by
  obtain ⟨m, hm⟩ := fanFetch_withMem s f
  rw [evalStarted, hm]
  rfl

/-- An EC fan that has been evaluated: its measured speed, and its state and duty by the speed that it has. -/
def EcEvaluated (s : State) (e : Nat) (c : FanRt) : Prop :=
  c.lastEval = s.clk ∧ c.speed = ecSpeed s e ∧ (c.fine ≤ 0 → c.st = 0 ∧ c.duty = 0) ∧ (0 < c.fine → c.st = 4)

theorem ecEvaluated_fanUpdate (s : State) (e : Nat) : EcEvaluated s e (getFan (fanUpdate s (4 + e)) (4 + e)) := by
  obtain ⟨trim, hrecord⟩ := ecRecord_ecStep (evalStarted s (4 + e)) e (s.clk - (getFan s (4 + e)).lastEval)
    (fanFetch s (4 + e)).1
  rw [← fanView_refreshBoost FanRt.ecRecord (ecRecord_fanFlag (by decide)), ← fanUpdate_ec] at hrecord
  simp only [FanRt.ecRecord, FanRt.notes, Prod.mk.injEq, getFan_evalStarted, ecSpeed_evalStarted] at hrecord
  obtain ⟨hst, hspeed, hfine, hduty, -, -, hclk, -⟩ := hrecord
  rw [← hfine] at hst hduty
  exact ⟨hclk, hspeed, fun hrest => ⟨hst.trans (if_neg (Int.not_lt.mpr hrest)), hduty.trans (ecDutyAt_rest _ _ hrest _)⟩,
    fun hruns => hst.trans (if_pos hruns)⟩

/-! ### Speed evaluations (R209, R215–R217) -/

@[simp] theorem fanUpdate_meas (s : State) (f : Nat) : (fanUpdate s f).meas = s.meas :=
  fanUpdate_within (bs := [.free, .io, .fans, .mem]) s f (.refl _ s) (by decide) (by decide) (by decide) (by decide)
    .meas (by decide)

@[simp] theorem resultDue_fans (s : State) (code endClk : Nat) : (resultDue s code endClk).fans = s.fans :=
  resultDue_within (bs := [.engine]) s code endClk (.refl _ s) (by decide) .fans (by decide)

theorem getRec_of_meas {s t : State} (h : t.meas = s.meas) (k : Nat) : getRec t k = getRec s k := by rw [getRec, h, getRec]

/-- A direct fan has been evaluated with the observer's speed. -/
def speedMeasured (s : State) (f : Nat) (m : Int) : State := fanUpdate (modFan s f fun c => { c with speed := m }) f

/-- The record of a direct fan's measured speed. -/
def speedRec (s : State) (f : Nat) (m : Int) : ResRec :=
  ⟨true, m, 0, 0, ((getRec s (0x808 + f)).seq + 1) % 256, warpNow s, s.clk, s.clk⟩

section
variable {s : State} (hout : released s = true)
include hout

theorem exec_speedEvaluation_direct {f : Nat} (hf : f < 4) (hset : SyncUnit.fan f ∉ s.dict.waiting) (m : Int) :
    let t := speedMeasured s f m
    exec (.speedEvaluation f m) s = .next (resultDue (setRec t (0x808 + f) (speedRec t f m)) (0x808 + f) t.clk) := by
  have hcontains : ¬ s.dict.waiting.contains (SyncUnit.fan f) = true := by simpa using hset
  rw [exec_speedEvaluation, execSpeedEvaluation, if_pos ⟨Nat.lt_trans hf (by decide), hout⟩]
  simp only [if_neg hcontains, if_pos hf]
  rfl

theorem exec_speedEvaluation_ec {e : Nat} (he : e < 8) (hset : SyncUnit.fan (4 + e) ∉ s.dict.waiting) (m : Int) :
    exec (.speedEvaluation (4 + e) m) s = .next (noteSupply (fanUpdate s (4 + e)) e) := by
  have hcontains : ¬ s.dict.waiting.contains (SyncUnit.fan (4 + e)) = true := by simpa using hset
  rw [exec_speedEvaluation, execSpeedEvaluation, if_pos ⟨by omega, hout⟩]
  simp only [if_neg hcontains, if_neg (show ¬ 4 + e < 4 by omega), Nat.add_sub_cancel_left]

end

theorem speedMeasured_records {s : State} {f : Nat} (hf : f < 4) (m : Int) :
    (getFan (speedMeasured s f m) f).speed = m ∧ (getFan (speedMeasured s f m) f).lastEval = s.clk := by
  have hrecord := record_fanUpdate (s := modFan s f fun c => { c with speed := m }) hf
  rw [getFan_modFan, if_pos rfl] at hrecord
  simp only [FanRt.record, FanRt.notes, Prod.mk.injEq] at hrecord
  obtain ⟨hspeed, -, -, hclk, -⟩ := hrecord
  exact ⟨hspeed, hclk⟩

/-- A reading of SUPPLY_SRC changes nothing else of a fan. -/
theorem fanView_noteSupply {β : Type} (view : FanRt → β) (hview : ∀ c l, view { c with supply := l } = view c) (j : Nat)
    (s : State) (e : Nat) : view (getFan (noteSupply s e) j) = view (getFan s j) := by
  refine ite_leaves (g := fun s => view (getFan s j)) rfl (fanView_modFan view (fun c => ?_) j s (4 + e))
  exact hview c _

/-! ### Table mode (R220) -/

/-- TEMP_SRC names an AI input with a valid result. -/
abbrev TempOk (s : State) (f : Nat) : Prop :=
  308 ≤ Cfg.fanTempSrc s f ∧ Cfg.fanTempSrc s f ≤ 331 ∧ recValid (getRec s (Cfg.fanTempSrc s f - 308))

/-- The speed that the table gives: that of its last point without a valid temperature. -/
def tableSpeedNow (s : State) (f : Nat) : Int :=
  if TempOk s f then tableGo (getRec s (Cfg.fanTempSrc s f - 308)).value ((upTo 8).map (tablePt s f))
  else roundDiv ((tablePt s f 7).2 * 65536) 10

theorem exec_tableRead_due {s : State} {f : Nat} (hf : f < 12) (htable : (getFan s f).table = true)
    (hdue : after (getFan s f).tableAt (secs 1) ≤ s.clk) : exec (.tableRead f) s = .next (fanUpdate (fanReadTable s f) f) :=
  if_pos ⟨hf, htable, decide_eq_true hdue⟩

theorem getFan_fanReadTable (s : State) (f : Nat) : getFan (fanReadTable s f) f =
    fanFlag fanTempSrcFault (!decide (TempOk s f)) { getFan s f with tableSpeed := tableSpeedNow s f, tableAt := s.clk } := by
  rw [fanReadTable, getFan_modFan, if_pos rfl]
  rfl

/-- The table speed, its clock and TEMP_SRC_FAULT stand as they were read when the fan has been evaluated. -/
theorem tableRead_records (s : State) (f : Nat) : let c := getFan (fanUpdate (fanReadTable s f) f) f
    c.tableSpeed = tableSpeedNow s f ∧ c.tableAt = s.clk ∧ Flag.get c.flags fanTempSrcFault = !decide (TempOk s f) := by
  have hnotes := notes_fanUpdate (fanReadTable s f) f
  simp only [FanRt.notes, getFan_fanReadTable, fanFlag, Prod.mk.injEq] at hnotes
  obtain ⟨hspeed, hclk, -, hfault⟩ := hnotes
  exact ⟨hspeed, hclk, hfault.trans (Flag.get_set_self _ _ (by decide))⟩

/-! ### Lost tachs (R216) -/

/-- The tach of a running EC fan is silent for two expected periods, and its loss is not yet noted. -/
def TachLost (s : State) (e : Nat) : Prop :=
  let c := getFan s (4 + e)
  e < 8 ∧ released s ∧ 256 ≤ Cfg.ecTachIo s e ∧ Cfg.ecTachIo s e < 288 ∧ 0 < c.fine ∧
    passed s c.roseAt (secs (Cfg.ecSpinupTime s e)) ∧
    passed s (getIo s (Cfg.ecTachIo s e - 256)).lastEdge (ecPeriods s e 2) ∧
    ¬ Flag.get c.flags fanTachWire ∧ ¬ Flag.get c.flags fanFailed

/-- By the mean of its supply current the fan still runs. -/
abbrev SupplyRuns (s : State) (e : Nat) (mean : Int) : Prop :=
  Cfg.ecSupplySrc s e ≠ 0xFFFF ∧ Cfg.ecSupMin s e ≤ supplyMean s e mean ∧ supplyMean s e mean ≤ Cfg.ecSupMax s e

/-- The edges of the fan's tach no longer count as having come back. -/
def edgesLost (s : State) (e : Nat) : State := modFan s (4 + e) fun c => { c with okFrom := none }

theorem supplyRuns_edgesLost (s : State) (e : Nat) (mean : Int) :
    SupplyRuns (edgesLost s e) e mean ↔ SupplyRuns s e mean := by
  have hsupply : (getFan (edgesLost s e) (4 + e)).supply = (getFan s (4 + e)).supply := by
    rw [edgesLost, getFan_modFan, if_pos rfl]
  rw [SupplyRuns, supplyMean, hsupply]
  rfl

/-- A fan that runs has lost a wire; one that does not has failed. -/
theorem exec_ecTachLoss_lost {s : State} {e : Nat} (h : TachLost s e) (mean : Int) : exec (.ecTachLoss e mean) s = .next (
    if SupplyRuns s e mean then raiseAlarm (.tachWire (4 + e)) (modFan (edgesLost s e) (4 + e) (fanFlag fanTachWire true))
    else refreshBoost (modFan (edgesLost s e) (4 + e) (fanFlag fanFailed true))) := by
  rw [exec_ecTachLoss, execEcTachLoss]
  refine (if_pos h).trans ?_
  by_cases hruns : SupplyRuns s e mean
  · rw [if_pos hruns]
    exact if_pos ((supplyRuns_edgesLost s e mean).mpr hruns)
  · rw [if_neg hruns]
    exact if_neg fun hlost => hruns ((supplyRuns_edgesLost s e mean).mp hlost)

theorem mem_raiseAlarm (a : Alarm) (s : State) : a ∈ (raiseAlarm a s).alarms := by
  rw [raiseAlarm]
  split
  · next h => simpa using h
  · simp

@[simp] theorem raiseAlarm_fans (a : Alarm) (s : State) : (raiseAlarm a s).fans = s.fans :=
  raiseAlarm_within (bs := [.alarms]) a s (.refl _ s) (by decide) .fans (by decide)

@[simp] theorem refreshBoost_alarms (s : State) : (refreshBoost s).alarms = s.alarms :=
  refreshBoost_within (bs := [.fans]) s (.refl _ s) (by decide) .alarms (by decide)

/-- A flag of a fan that has been set reads so. -/
theorem getFlag_modFan (s : State) (k : Nat) {i : Nat} (hi : i < 16) (b : Bool) :
    Flag.get (getFan (modFan s k (fanFlag i b)) k).flags i = b := by
  rw [getFan_modFan, if_pos rfl]
  exact Flag.get_set_self _ _ hi

/-! ### PWM events (R141, R210) -/

/-- At the start of a period the bridge takes what reached the shadow before this clock. -/
def bridgeTaken (s : State) (k : Nat) : State :=
  modFan s k fun c => { c with bridge := if c.shadowAt = s.clk then c.shadowOld else c.shadow }

section
variable {s : State} {k : Nat} (hk : k < 4) (hup : isUp s = true)
include hk hup

theorem exec_pwmPeriodStart_up : exec (.pwmPeriodStart k) s = .next (triggerEvent (bridgeTaken s k) (0x14 + k)) :=
  if_pos ⟨hk, hup⟩

theorem exec_pwmCentre_up : exec (.pwmCentre k) s = .next (triggerEvent s (0x10 + k)) := if_pos ⟨hk, hup⟩

end

/-- Settles O32: an evaluation by the record that it leaves of its fan, a lost tach by its supply current, a PWM event by
what its entries note. -/
theorem fanSpeedsAndPwm : Obligations.FanSpeedsAndPwm := by
  unfold Obligations.FanSpeedsAndPwm
  refine ⟨fun s f m hf hout hset => ?direct, fun s e m he hout hset => ?ec, fun s f hf htable hdue => ?table,
    fun s e mean he hout hlow hhigh hruns hspun hsilent hwire hfailed => ?tach, fun s k hk hup => ⟨?period, ?centre⟩⟩
  case direct =>
    obtain ⟨hspeed, hclk⟩ := speedMeasured_records (s := s) hf m
    refine ⟨_, exec_speedEvaluation_direct hout hf hset m, ?_⟩
    rw [getFan_of_fans ((resultDue_fans ..).trans (setRec_fans ..)), getRec_of_meas (resultDue_meas ..), getRec_setRec,
      if_pos rfl]
    refine ⟨hspeed, hclk, rfl, rfl, ?_⟩
    rw [speedRec, speedMeasured, getRec_of_meas (fanUpdate_meas ..)]
    rfl
  case ec =>
    obtain ⟨hclk, hrest⟩ := (fanView_noteSupply (EcEvaluated s e) (fun _ _ => rfl) (4 + e) _ e).mpr
      (ecEvaluated_fanUpdate s e)
    exact ⟨_, exec_speedEvaluation_ec hout he hset m, hclk, hrest⟩
  case table =>
    obtain ⟨hspeed, hclk, hfault⟩ := tableRead_records s f
    refine ⟨_, exec_tableRead_due hf htable hdue, hclk, fun hok => ?_, fun hbad => ?_⟩
    · exact ⟨hspeed.trans (if_pos hok), by rw [hfault, decide_eq_true hok]; rfl⟩
    · exact ⟨hspeed.trans (if_neg hbad), by rw [hfault, decide_eq_false hbad]; rfl⟩
  case tach =>
    have hlost : TachLost s e := ⟨he, hout, hlow, hhigh, hruns, decide_eq_true hspun, decide_eq_true hsilent,
      by simp [hwire], by simp [hfailed]⟩
    refine ⟨_, exec_ecTachLoss_lost hlost mean, fun hsupply => ?_, fun hsupply => ?_⟩
    · rw [if_pos hsupply, getFan_of_fans (raiseAlarm_fans ..)]
      exact ⟨getFlag_modFan _ _ (by decide) _, mem_raiseAlarm ..⟩
    · rw [if_neg hsupply, fanView_refreshBoost (fun c => Flag.get c.flags fanFailed)
        (fun _ _ => Flag.get_set_other _ _ (by decide)), refreshBoost_alarms]
      exact ⟨getFlag_modFan _ _ (by decide) _, rfl⟩
  case period =>
    refine ⟨_, exec_pwmPeriodStart_up hk hup, ?_, fun j hj => ?_, fun e he => triggerEvent_counts (bridgeTaken s k) _ he⟩
    · rw [getFan_of_fans (triggerEvent_fans ..), bridgeTaken, getFan_modFan, if_pos rfl]
    · rw [getFan_of_fans (triggerEvent_fans ..)]
      exact othersKept_modFan j hj
  case centre => exact ⟨_, exec_pwmCentre_up hk hup, triggerEvent_fans .., fun e he => triggerEvent_counts s _ he⟩

end Sys2Proof.Machine
end

section
/-! PROOFS. Card instructions that set the engine and those that jump (07_valve_drive, R166, R168, R169, R173, R174). -/

namespace Sys2Proof.Machine

section
variable {s : State} {v w : Nat}

theorem othersKept_setting {f : VlvRt → VlvRt} : OthersKept getVlv s (modVlv (vlvNext s v) v f) v :=
  othersKept_vlvNext.trans othersKept_modVlv

/-- An update of a channel is what it makes of the channel as it is. -/
theorem modVlv_congr {f g : VlvRt → VlvRt} (h : f (getVlv s v) = g (getVlv s v)) : modVlv s v f = modVlv s v g := by
  unfold getVlv at h
  rw [modVlv, Table.modify, h, modVlv, Table.modify]

/-- Going on leaves the operands that the card reads. -/
theorem vlvOperand_vlvNext : vlvOperand (getVlv (vlvNext s v) v) w = vlvOperand (getVlv s v) w := by
  rw [getVlv_vlvNext]
  rfl

/-! ### Settings -/

theorem exec_cardNop_issued (h : vlvAt s v 0x00 = some w) : exec (.cardNop v) s = .next (vlvNext s v) := by
  rw [exec_cardNop, execCardNop]
  simp only [h]

theorem exec_cardRail_issued (h : vlvAt s v 0x01 = some w) : exec (.cardRail v) s = .next (modVlv (vlvNext s v) v fun c =>
    { c with railNext := vlvOperand (getVlv s v) w % 2 }) := by
  rw [exec_cardRail, execCardRail]
  simp only [h]
  exact congrArg _ (modVlv_congr (by simp only [vlvOperand_vlvNext]))

theorem exec_cardDecay_issued (h : vlvAt s v 0x02 = some w) : exec (.cardDecay v) s = .next (modVlv (vlvNext s v) v fun c =>
    { c with decayMode := vlvOperand (getVlv s v) w % 4, clamp := vlvOperand (getVlv s v) w / 4 % 4, demoted := false }) := by
  rw [exec_cardDecay, execCardDecay]
  simp only [h]
  exact congrArg _ (modVlv_congr (by simp only [vlvOperand_vlvNext]))

theorem exec_cardChop_issued (h : vlvAt s v 0x03 = some w) : exec (.cardChop v) s = .next (modVlv (vlvNext s v) v fun c =>
    if c.conducting then { c with chopPending := some (vlvOperand (getVlv s v) w % 512) }
    else { c with chop := vlvOperand (getVlv s v) w % 512, chopPending := none }) := by
  rw [exec_cardChop, execCardChop]
  simp only [h]
  exact congrArg _ (modVlv_congr (by simp only [vlvOperand_vlvNext]))

theorem exec_cardSeatcfg_issued (h : vlvAt s v 0x0C = some w) : exec (.cardSeatcfg v) s = .next (
    modVlv (vlvNext s v) v fun c => { c with det := detOf s (vlvOperand (getVlv s v) w % 65536) }) := by
  rw [exec_cardSeatcfg, execCardSeatcfg]
  simp only [h]
  exact congrArg _ (modVlv_congr (by simp only [vlvOperand_vlvNext]))

theorem exec_cardMarkh_issued (h : vlvAt s v 0x0D = some w) : exec (.cardMarkh v) s = .next (
    modVlv (vlvNext s v) v fun c => { c with holdEntry := wTgt w }) := by
  rw [exec_cardMarkh, execCardMarkh]
  simp only [h]

/-- The flag that FLAG names by its operand (R169). -/
def flagged (k : Nat) (c : VlvRt) : VlvRt :=
  match k with
  | 0 => vlvFlag fNoSeat c
  | 1 => vlvFlag fLearnFloor c
  | _ => c

theorem flagged_pc (k : Nat) (c : VlvRt) : (flagged k c).pc = c.pc := by
  unfold flagged
  split <;> rfl

theorem getFlag_vlvFlag {i : Nat} (hi : i < 16) (c : VlvRt) : Flag.get (vlvFlag i c).flags i = true :=
  Flag.get_set_self _ _ hi

theorem exec_cardFlag_issued (h : vlvAt s v 0x16 = some w) : exec (.cardFlag v) s = .next (
    modVlv (vlvNext s v) v fun c => flagged (vlvOperand (getVlv s v) w % 16) c) := by
  rw [exec_cardFlag, execCardFlag]
  simp only [h]
  exact congrArg _ (modVlv_congr (by rw [vlvOperand_vlvNext]; rfl))

/-! ### Jumps -/

/-- A card jumps to TGT when a condition holds, else it goes on. -/
def jumpIf (s : State) (v w : Nat) (p : Prop) [Decidable p] : State :=
  if p then vlvJump s v (wTgt w) else vlvNext s v

theorem jumpIf_records (p : Prop) [Decidable p] : let t := jumpIf s v w p
    (getVlv t v).pc = (if p then some (wTgt w) else (getVlv s v).pc.map (· + 1)) ∧
      (getVlv t v).ref = (getVlv s v).ref ∧ OthersKept getVlv s t v := by
  dsimp only
  unfold jumpIf
  split
  · exact ⟨by simp, by simp, othersKept_vlvJump⟩
  · exact ⟨by simp, by simp, othersKept_vlvNext⟩

theorem exec_cardJmp_issued (h : vlvAt s v 0x10 = some w) : exec (.cardJmp v) s = .next (vlvJump s v (wTgt w)) := by
  rw [exec_cardJmp, execCardJmp]
  simp only [h]

theorem exec_cardJcmd_issued (h : vlvAt s v 0x11 = some w) : exec (.cardJcmd v) s = .next (
    jumpIf s v w (vlvCmdOn s v = decide (vlvOperand (getVlv s v) w % 2 = 1))) := by
  rw [exec_cardJcmd, execCardJcmd]
  simp only [h]
  exact (apply_ite Host.Outcome.next _ _ _).symm

theorem exec_cardJlt_issued (h : vlvAt s v 0x12 = some w) (current : Nat) : exec (.cardJlt v current) s = .next (
    jumpIf s v w (current < vlvOperand (getVlv s v) w)) := by
  rw [exec_cardJlt, execCardJlt]
  simp only [h]
  exact (apply_ite Host.Outcome.next _ _ _).symm

theorem exec_cardJrlt_issued (h : vlvAt s v 0x13 = some w) : exec (.cardJrlt v) s = .next (
    jumpIf s v w ((getVlv s v).ref < vlvOperand (getVlv s v) w)) := by
  rw [exec_cardJrlt, execCardJrlt]
  simp only [h]
  exact (apply_ite Host.Outcome.next _ _ _).symm

end

/-! ### What a SEATCFG operand asks for -/

theorem detOf_drop_iff (s : State) (arg : Nat) : (detOf s arg).drop = true ↔ 32768 ≤ arg := decide_eq_true_iff

theorem detOf_threshold (s : State) (n : Nat) : (detOf s (n % 65536)).threshold = n % 256 :=
  Nat.mod_mod_of_dvd n (by decide)

theorem detOf_blankUntil (s : State) (arg : Nat) :
    (detOf s arg).blankUntil = s.clk + arg / 256 % 128 * usecs 10 := by
  simp only [detOf, usecs]
  ring

/-- Settles O21: each instruction by its equation; the setting is read where it is written, and a jump by its condition. -/
theorem cardSettingsAndJumps : Obligations.CardSettingsAndJumps := by
  unfold Obligations.CardSettingsAndJumps
  refine ⟨fun s v w => ⟨fun h => ?nop, fun h => ?rail, fun h => ?decay, fun h => ?chop, fun h => ?seatcfg, fun h => ?markh,
    fun h => ?flag⟩, fun s v w current => ⟨fun h => ?jmp, fun h => ?jcmd, fun h => ?jlt, fun h => ?jrlt⟩⟩
  case nop => exact ⟨_, exec_cardNop_issued h, by simp, by simp, by simp, othersKept_vlvNext⟩
  case rail => exact ⟨_, exec_cardRail_issued h, by simp, by simp, by simp, by simp, othersKept_setting⟩
  case decay => exact ⟨_, exec_cardDecay_issued h, by simp, by simp, by simp, by simp, othersKept_setting⟩
  case chop =>
    refine ⟨_, exec_cardChop_issued h, ?_⟩
    rw [getVlv_modVlv, if_pos rfl, getVlv_vlvNext]
    cases (getVlv s v).conducting <;> simpa using othersKept_setting
  case seatcfg =>
    refine ⟨_, exec_cardSeatcfg_issued h, ?_⟩
    rw [getVlv_modVlv, if_pos rfl]
    exact ⟨by simp, rfl, detOf_drop_iff .., detOf_threshold .., detOf_blankUntil .., othersKept_setting⟩
  case markh => exact ⟨_, exec_cardMarkh_issued h, by simp, by simp, othersKept_setting⟩
  case flag =>
    refine ⟨_, exec_cardFlag_issued h, ?_⟩
    rw [getVlv_modVlv, if_pos rfl, flagged_pc, getVlv_vlvNext]
    refine ⟨rfl, fun hk => ?_, fun hk => ?_, othersKept_setting⟩
    · rw [hk]
      exact getFlag_vlvFlag (by decide) _
    · rw [hk]
      exact getFlag_vlvFlag (by decide) _
  case jmp => exact ⟨_, exec_cardJmp_issued h, by simp, by simp, othersKept_vlvJump⟩
  case jcmd => exact ⟨_, exec_cardJcmd_issued h, jumpIf_records _⟩
  case jlt => exact ⟨_, exec_cardJlt_issued h current, jumpIf_records _⟩
  case jrlt => exact ⟨_, exec_cardJrlt_issued h, jumpIf_records _⟩

end Sys2Proof.Machine
end

section
/-! PROOFS. Bringing a bank up to date (07_valve_drive, R160–R162, R183): what it leaves of the channels and of the banks, and
which coils conduct. -/

namespace Sys2Proof.Machine

/-! ### Rounds -/

/-- What every step of a round keeps, the round keeps. -/
theorem forAll_preserves {α : Type} {P : State → Prop} {f : State → α → State} {l : List α}
    (hf : ∀ s, ∀ x ∈ l, P s → P (f s x)) {s : State} (hs : P s) : P (forAll l f s) := by
  unfold forAll
  induction l generalizing s with
  | nil => exact hs
  | cons x l ih => exact ih (fun s y hy => hf s y (List.mem_cons_of_mem x hy)) (hf s x List.mem_cons_self hs)

theorem nodup_bankChans (b : Nat) : (bankChans b).Nodup := by simp [bankChans]

theorem mem_bankChans_vlvBank (v : Nat) : v ∈ bankChans (vlvBank v) := by
  simp only [bankChans, vlvBank, List.mem_cons, List.not_mem_nil, or_false]
  omega

theorem vlvBank_of_mem {v b : Nat} (h : v ∈ bankChans b) : vlvBank v = b := by
  simp only [bankChans, List.mem_cons, List.not_mem_nil, or_false] at h
  simp only [vlvBank]
  omega

/-! ### A channel but for its coil, a bank but for its rail -/

/-- A channel but for the decay of its coil, and its flags. -/
def VlvRt.withoutDecay (c : VlvRt) : VlvRt := { c with
  returning := false, demoted := false, path := 0, pathClamp := 0, flags := 0 }

/-- A channel but for the conduction and the decay of its coil, and its flags. -/
def VlvRt.withoutCoil (c : VlvRt) : VlvRt := { c.withoutDecay with
  conducting := false, lowSide := false, chopBase := 0, chopN := 0, chopNext := 0 }

/-- A bank but for the rail that it has now. -/
def Bank.withoutRail (k : Bank) : Bank := { k with rail := 0 }

@[simp] theorem getVlv_modBank (s : State) (b : Nat) (f : Bank → Bank) (j : Nat) :
    getVlv (modBank s b f) j = getVlv s j := rfl

@[simp] theorem getBank_modVlv (s : State) (v : Nat) (f : VlvRt → VlvRt) (b : Nat) :
    getBank (modVlv s v f) b = getBank s b := rfl

@[simp] theorem getVlv_dropRequest (s : State) (v j : Nat) : getVlv (dropRequest s v) j = getVlv s j := rfl

theorem vlvView_modVlv {β : Type} (view : VlvRt → β) {f : VlvRt → VlvRt} (hf : ∀ c, view (f c) = view c) (s : State)
    (v j : Nat) : view (getVlv (modVlv s v f) j) = view (getVlv s j) := by
  rw [getVlv_modVlv]
  split
  · next h => rw [h, hf]
  · rfl

/-- What is seen of a channel apart from the decay of its coil. -/
theorem seen_of_withoutDecay {β : Type} (view : VlvRt → β) {c d : VlvRt} (h : c.withoutDecay = d.withoutDecay)
    (hview : ∀ c, view c.withoutDecay = view c := by intro; rfl) : view c = view d := by
  rw [← hview c, h, hview d]

/-- What is seen of a channel apart from its coil. -/
theorem seen_of_withoutCoil {β : Type} (view : VlvRt → β) {c d : VlvRt} (h : c.withoutCoil = d.withoutCoil)
    (hview : ∀ c, view c.withoutCoil = view c := by intro; rfl) : view c = view d := by
  rw [← hview c, h, hview d]

/-- What is seen of a bank apart from its rail. -/
theorem seen_of_withoutRail {β : Type} (view : Bank → β) {k l : Bank} (h : k.withoutRail = l.withoutRail)
    (hview : ∀ k, view k.withoutRail = view k := by intro; rfl) : view k = view l := by
  rw [← hview k, h, hview l]

section
variable (s : State) (v j b : Nat)

theorem withoutDecay_demoted : (getVlv (modVlv s v demote) j).withoutDecay = (getVlv s j).withoutDecay :=
  vlvView_modVlv VlvRt.withoutDecay (fun _ => by rfl) s v j

theorem withoutDecay_vlvDemote : (getVlv (vlvDemote s v) j).withoutDecay = (getVlv s j).withoutDecay :=
  ite_leaves (g := fun s => (getVlv s j).withoutDecay) (withoutDecay_demoted s v j) rfl

theorem withoutDecay_vlvDecay : (getVlv (vlvDecay s v) j).withoutDecay = (getVlv s j).withoutDecay := by
  refine ite_leaves (g := fun s => (getVlv s j).withoutDecay) (withoutDecay_demoted s v j) ?_
  refine vlvView_modVlv VlvRt.withoutDecay (fun c => ?_) s v j
  rfl

theorem withoutCoil_vlvConduct : (getVlv (vlvConduct s v) j).withoutCoil = (getVlv s j).withoutCoil := by
  refine (vlvView_modVlv VlvRt.withoutCoil (fun c => ?_) _ v j).trans (vlvView_modVlv VlvRt.withoutCoil (fun c => ?_) s v j)
  · dsimp only
    split <;> rfl
  · split <;> rfl

/-- The coils of a bank as it is brought up to date, before its rail follows them. -/
@[irreducible] def coilsSettled (s : State) (b : Nat) : State :=
  forAll (bankChans b) vlvDemote (forAll (bankChans b) vlvConduct s)

theorem coilsSettled_eq : coilsSettled s b = forAll (bankChans b) vlvDemote (forAll (bankChans b) vlvConduct s) := by
  delta coilsSettled
  with_reducible rfl

theorem bankRefresh_eq : bankRefresh s b = modBank (coilsSettled s b) b fun k =>
    { k with rail := bankRail (coilsSettled s b) b } := by
  rw [coilsSettled_eq]
  delta bankRefresh
  with_reducible rfl

theorem getVlv_bankRefresh : getVlv (bankRefresh s b) j = getVlv (coilsSettled s b) j := by
  rw [bankRefresh_eq]
  rfl

/-- The channels of a bank as far as their coils go. -/
@[simp] theorem withoutCoil_bankRefresh : (getVlv (bankRefresh s b) j).withoutCoil = (getVlv s j).withoutCoil := by
  rw [getVlv_bankRefresh, coilsSettled_eq]
  refine (forAll_leaves (fun s => (getVlv s j).withoutCoil) (fun s v => ?_) _ _).trans ?_
  · exact seen_of_withoutDecay VlvRt.withoutCoil (withoutDecay_vlvDemote s v j)
  · exact forAll_leaves (fun s => (getVlv s j).withoutCoil) (fun s v => withoutCoil_vlvConduct s v j) _ s

@[simp] theorem withoutCoil_vlvDecay : (getVlv (vlvDecay s v) j).withoutCoil = (getVlv s j).withoutCoil :=
  seen_of_withoutDecay VlvRt.withoutCoil (withoutDecay_vlvDecay s v j)

theorem vlvDecay_banks : (vlvDecay s v).valve.banks = s.valve.banks :=
  ite_leaves (g := fun s => s.valve.banks) rfl rfl

theorem vlvDemote_banks : (vlvDemote s v).valve.banks = s.valve.banks := ite_leaves (g := fun s => s.valve.banks) rfl rfl

theorem vlvConduct_banks : (vlvConduct s v).valve.banks = s.valve.banks :=
  (modVlv_valve_banks ..).trans (modVlv_valve_banks ..)

theorem coilsSettled_banks : (coilsSettled s b).valve.banks = s.valve.banks := by
  rw [coilsSettled_eq]
  exact (forAll_leaves (fun s => s.valve.banks) (fun s v => vlvDemote_banks s v) _ _).trans
    (forAll_leaves (fun s => s.valve.banks) (fun s v => vlvConduct_banks s v) _ s)

theorem getBank_of_banks {s t : State} (h : t.valve.banks = s.valve.banks) (b : Nat) : getBank t b = getBank s b := by
  rw [getBank, h, getBank]

@[simp] theorem withoutRail_bankRefresh : (getBank (bankRefresh s b) j).withoutRail = (getBank s j).withoutRail := by
  rw [bankRefresh_eq, getBank_modBank, ← getBank_of_banks (coilsSettled_banks s b)]
  split
  · next h => rw [h]; rfl
  · rfl

/-- While something keeps the switch open, the rail is the open switch (R160). -/
theorem rail_bankRefresh_of_cut (h : bankCut (getBank s b) = true) : (getBank (bankRefresh s b) b).rail = 2 := by
  rw [bankRefresh_eq, getBank_modBank, if_pos rfl]
  dsimp only
  rw [bankRail, getBank_of_banks (coilsSettled_banks s b), h]
  rfl

end

/-! ### Which coils conduct (R160, R454) -/

/-- Whether channel `v` would conduct, whether it does, and its low side. -/
def coilView (v : Nat) (s : State) : Bool × Bool × Bool := (vlvWants s v, (getVlv s v).conducting, (getVlv s v).lowSide)

section
variable {s : State} {v : Nat}

/-- A channel's own wish to conduct turns on its reference and its state. -/
theorem vlvWants_modVlv {f : VlvRt → VlvRt} {x : Nat} (href : ∀ c, (f c).ref = c.ref) (hst : ∀ c, (f c).st = c.st) :
    vlvWants (modVlv s x f) v = vlvWants s v := by
  have hbank : getBank (modVlv s x f) (vlvBank v) = getBank s (vlvBank v) := rfl
  have hlow : vdrvLow (modVlv s x f) = vdrvLow s := rfl
  have hblocked : vlvBlocked (modVlv s x f) v = vlvBlocked s v := rfl
  unfold vlvWants
  rw [hbank, hlow, hblocked, getVlv_modVlv]
  split
  · next h => simp only [h, href, hst]
  · rfl

theorem vlvWants_vlvConduct (s : State) (x v : Nat) : vlvWants (vlvConduct s x) v = vlvWants s v := by
  unfold vlvConduct
  dsimp only
  rw [vlvWants_modVlv, vlvWants_modVlv]
  all_goals intro c; split <;> rfl

theorem coilView_vlvConduct_of_ne {x : Nat} (h : x ≠ v) (s : State) : coilView v (vlvConduct s x) = coilView v s := by
  have hself : getVlv (vlvConduct s x) v = getVlv s v :=
    (getVlv_modVlv ..).trans ((if_neg (Ne.symm h)).trans ((getVlv_modVlv ..).trans (if_neg (Ne.symm h))))
  rw [coilView, vlvWants_vlvConduct, hself, coilView]

theorem coilView_vlvConduct_self (s : State) (v : Nat) : coilView v (vlvConduct s v) =
    (vlvWants s v, vlvWants s v, vlvWants s v && ((getVlv s v).lowSide || !(getVlv s v).conducting)) := by
  refine Prod.ext (vlvWants_vlvConduct s v v)
    ((vlvView_modVlv (fun c => (c.conducting, c.lowSide)) (fun c => ?flags) _ v v).trans ?coil)
  case flags =>
    dsimp only
    split <;> rfl
  case coil =>
    rw [getVlv_modVlv, if_pos rfl]
    split
    · next h => simp_all
    · next h =>
      have hkeeps : vlvWants s v = true → (getVlv s v).conducting = true := by simpa using h
      cases hwants : vlvWants s v with
      | true => simp [hkeeps hwants]
      | false => simp

/-- The coil of a channel whose bank is brought up to date conducts as the channel would; a coil that begins to conduct turns
its low side on, and one that ends turns it off. -/
theorem coil_bankRefresh (s : State) (v : Nat) : let c := getVlv (bankRefresh s (vlvBank v)) v
    c.conducting = vlvWants s v ∧ c.lowSide = (vlvWants s v && ((getVlv s v).lowSide || !(getVlv s v).conducting)) := by
  dsimp only
  obtain ⟨r, hr, hround⟩ := forAll_at (g := coilView v) (fun s x h => coilView_vlvConduct_of_ne h s)
    (nodup_bankChans (vlvBank v)) (mem_bankChans_vlvBank v) s
  have hdemote := forAll_leaves (fun s => (getVlv s v).withoutDecay) (fun s x => withoutDecay_vlvDemote s x v)
    (bankChans (vlvBank v)) (forAll (bankChans (vlvBank v)) vlvConduct s)
  rw [coilView_vlvConduct_self] at hround
  simp only [coilView, Prod.mk.injEq] at hr hround
  obtain ⟨hwants, hconducting, hlow⟩ := hr
  obtain ⟨-, hc, hl⟩ := hround
  rw [getVlv_bankRefresh, coilsSettled_eq]
  refine ⟨(seen_of_withoutDecay VlvRt.conducting hdemote).trans (hc.trans hwants),
    (seen_of_withoutDecay VlvRt.lowSide hdemote).trans ?_⟩
  rw [← hwants, ← hconducting, ← hlow]
  exact hl

/-- Without a reference no coil conducts. -/
theorem vlvWants_of_ref (h : (getVlv s v).ref = 0) : vlvWants s v = false := by
  simp [vlvWants, h]

theorem vlvWants_of_cut (h : bankCut (getBank s (vlvBank v)) = true) : vlvWants s v = false := by
  simp [vlvWants, h]

theorem idle_bankRefresh (h : vlvWants s v = false) :
    (getVlv (bankRefresh s (vlvBank v)) v).conducting = false ∧ (getVlv (bankRefresh s (vlvBank v)) v).lowSide = false := by
  have hcoil := coil_bankRefresh s v
  rwa [h, Bool.false_and] at hcoil

theorem returning_modVlv {f : VlvRt → VlvRt} (hf : ∀ c, c.returning = false → (f c).returning = false) (s : State) (x : Nat)
    (h : (getVlv s v).returning = false) : (getVlv (modVlv s x f) v).returning = false := by
  rw [getVlv_modVlv]
  split
  · next hx => exact hf _ (hx ▸ h)
  · exact h

theorem returning_vlvConduct (s : State) (x : Nat) (h : (getVlv s v).returning = false) :
    (getVlv (vlvConduct s x) v).returning = false := by
  refine returning_modVlv (fun c hc => ?_) _ x (returning_modVlv (fun c hc => ?_) s x h)
  · exact (apply_ite VlvRt.returning _ _ _).trans ((ite_self _).trans hc)
  · refine (apply_ite VlvRt.returning _ _ _).trans ?_
    split
    · rfl
    · exact hc

theorem returning_vlvDemote (s : State) (x : Nat) (h : (getVlv s v).returning = false) :
    (getVlv (vlvDemote s x) v).returning = false :=
  ite_leaves (g := fun s => (getVlv s v).returning) (returning_modVlv (fun _ _ => rfl) s x h) h

/-- No RETURN interval begins as a bank is brought up to date. -/
theorem returning_bankRefresh (b : Nat) (h : (getVlv s v).returning = false) :
    (getVlv (bankRefresh s b) v).returning = false := by
  rw [getVlv_bankRefresh, coilsSettled_eq]
  exact forAll_preserves (P := fun s => (getVlv s v).returning = false) (fun s x _ h => returning_vlvDemote s x h)
    (forAll_preserves (P := fun s => (getVlv s v).returning = false) (fun s x _ h => returning_vlvConduct s x h) h)

end

end Sys2Proof.Machine
end

section
/-! PROOFS. A valve channel that takes the committed set of its object (07_valve_drive, R184; 11_object_dictionary, R250, R252). -/

namespace Sys2Proof.Machine

/-! ### The members of an object come into force (R252) -/

/-- A member of object `o` takes its committed value, where it belongs to a group. -/
def takeMember (o : Nat) (s : State) (m : Nat) : State :=
  match findMem o m with
  | some x => if x.acc = .rwg then setForce s (memKey o m) (committedVal s (memKey o m)) else s
  | none => s

theorem takeObj_eq {o : Nat} {d : ObjDef} (hd : findObj o = some d) (s : State) :
    takeObj s o = forAll (upTo (d.top + 1)) (takeMember o) s := by
  rw [takeObj]
  simp only [hd]
  rfl

theorem takeMember_of_group {o m : Nat} {x : MemDef} (hx : findMem o m = some x) (hacc : x.acc = .rwg) (s : State) :
    takeMember o s m = setForce s (memKey o m) (committedVal s (memKey o m)) := by
  rw [takeMember]
  simp only [hx]
  exact if_pos hacc

theorem takeMember_other {o x k : Nat} (h : k ≠ memKey o x) (s : State) :
    Table.getD dfltOf (takeMember o s x).dict.force k = Table.getD dfltOf s.dict.force k := by
  rw [takeMember]
  split
  · exact ite_leaves (g := fun s => Table.getD dfltOf s.dict.force k) (Table.getD_set_other _ _ _ h) rfl
  · rfl

theorem takeMember_committed (o : Nat) (s : State) (x : Nat) : (takeMember o s x).dict.committed = s.dict.committed := by
  rw [takeMember]
  split
  · exact ite_leaves (g := fun s => s.dict.committed) rfl rfl
  · rfl

section
variable {o m : Nat} {d : ObjDef} (hd : findObj o = some d)
include hd

/-- A member that belongs to a group has its committed value in force once its object is taken over. -/
theorem cfgVal_takeObj_own {x : MemDef} (hm : m ≤ d.top) (hx : findMem o m = some x) (hacc : x.acc = .rwg) (s : State) :
    cfgVal (takeObj s o) o m = committedVal s (memKey o m) := by
  obtain ⟨r, hr, hround⟩ := forAll_at (i := m) (f := takeMember o)
    (g := fun s => (Table.getD dfltOf s.dict.force (memKey o m), s.dict.committed))
    (fun s x h => Prod.ext (takeMember_other (by simp only [memKey]; omega) s) (takeMember_committed o s x))
    (nodup_upTo (d.top + 1)) (mem_upTo (Nat.lt_succ_of_le hm)) s
  rw [takeMember_of_group hx hacc] at hround
  simp only [Prod.mk.injEq] at hr hround
  rw [cfgVal, takeObj_eq hd, hround.1, setForce, Table.getD_set_self, committedVal, hr.2, committedVal]

/-- The members of every other object stay as they are. -/
theorem cfgVal_takeObj_other {o' : Nat} (hne : o' ≠ o) (htop : d.top < 256) (hm : m < 256) (s : State) :
    cfgVal (takeObj s o) o' m = cfgVal s o' m := by
  rw [takeObj_eq hd]
  refine forAll_preserves (P := fun t => cfgVal t o' m = cfgVal s o' m) (fun t x hx ht => ?_) rfl
  have hx : x < d.top + 1 := List.mem_range.mp hx
  exact (takeMember_other (by simp only [memKey]; omega) t).trans ht

end

/-! ### The set of a valve channel (R184) -/

/-- What is seen of a channel apart from the parameters that it latches. -/
theorem seen_vlvTakeSet {β : Type} (view : VlvRt → β) (s : State) (v j : Nat)
    (hview : ∀ c p, view { c with params := p } = view c := by intro _ _; rfl) :
    view (getVlv (vlvTakeSet s v) j) = view (getVlv s j) := by
  have hvalve : (syncDone (.valve v) (takeObj s (0x7100 + v))).valve = s.valve :=
    takeObj_within (bs := [.dict]) s _ (.refl _ s) (by decide) .valve (by decide)
  exact (vlvView_modVlv view (fun c => hview c _) _ v j).trans (congrArg view (getVlv_of_valve hvalve j))

@[simp] theorem vlvTakeSet_banks (s : State) (v : Nat) : (vlvTakeSet s v).valve.banks = s.valve.banks := by
  have hvalve : (takeObj s (0x7100 + v)).valve = s.valve :=
    takeObj_within (bs := [.dict]) s _ (.refl _ s) (by decide) .valve (by decide)
  show (takeObj s (0x7100 + v)).valve.banks = s.valve.banks
  rw [hvalve]

section
variable {v : Nat} (hv : v < 16)
include hv

theorem findObj_valve : findObj (0x7100 + v) = some obj7100 := findObj_of_mem (ob := obj7100) (by decide) hv

theorem findMem_valve (m : Nat) : findMem (0x7100 + v) m = obj7100.mems.find? fun d => d.covers m :=
  findMem_of_mem (ob := obj7100) (by decide) hv m

theorem cfgN_vlvTakeSet {m : Nat} {x : MemDef} (hm : m ≤ 22) (hx : (obj7100.mems.find? fun d => d.covers m) = some x)
    (hacc : x.acc = .rwg) (s : State) : cfgN (vlvTakeSet s v) (0x7100 + v) m = comN s (0x7100 + v) m := by
  have hforce : cfgVal (vlvTakeSet s v) (0x7100 + v) m = committedVal s (memKey (0x7100 + v) m) :=
    cfgVal_takeObj_own (findObj_valve hv) hm ((findMem_valve hv m).trans hx) hacc s
  rw [cfgN, cfgI, hforce]
  rfl

theorem vlvChanMode_vlvTakeSet (s : State) : Cfg.vlvChanMode (vlvTakeSet s v) v = comN s (0x7100 + v) 1 :=
  cfgN_vlvTakeSet hv (by decide) rfl rfl s

theorem vlvCard_vlvTakeSet (s : State) : Cfg.vlvCard (vlvTakeSet s v) v = comN s (0x7100 + v) 2 :=
  cfgN_vlvTakeSet hv (by decide) rfl rfl s

theorem isRelevant_vlvTakeSet (s : State) (h : Nat) : isRelevant (vlvTakeSet s v) h = isRelevant s h := by
  have hforce : cfgVal (vlvTakeSet s v) (0xB100 + safeChan h) 1 = cfgVal s (0xB100 + safeChan h) 1 :=
    cfgVal_takeObj_other (findObj_valve hv) (by omega) (by decide) (by decide) s
  rw [isRelevant, Cfg.safeSafetyRelevant, cfgB, cfgI, hforce, isRelevant, Cfg.safeSafetyRelevant, cfgB, cfgI]

end

end Sys2Proof.Machine
end

section
/-! PROOFS. The bank budget and the card instructions that ask for a share or let it go (07_valve_drive, R161, R169, R178,
R181). -/

namespace Sys2Proof.Machine

/-! ### Requests (R181) -/

/-- A channel's request stands in its bank's queue. -/
def requested (s : State) (v level : Nat) : State :=
  modBank s (vlvBank v) fun k => { k with queue := queueRequest k.queue ⟨v, level, s.clk⟩ }

section
variable {s : State} {v level : Nat}

theorem askBudget_of_fits (hqueue : (getBank s (vlvBank v)).queue = []) (hfits : fitsBudget s v level = true) :
    askBudget s v level = (true, s) :=
  if_pos (by simp [hqueue, hfits])

theorem askBudget_of_waits (h : (getBank s (vlvBank v)).queue ≠ [] ∨ fitsBudget s v level = false) :
    askBudget s v level = (false, requested s v level) :=
  if_neg (by simpa [imp_iff_not_or] using h)

theorem queue_requested : (getBank (requested s v level) (vlvBank v)).queue =
    queueRequest (getBank s (vlvBank v)).queue ⟨v, level, s.clk⟩ := by
  rw [requested, getBank_modBank, if_pos rfl]

end

/-- A request stands behind the older ones and those of its clock with a lower channel, and before the others. -/
theorem queueRequest_append {q l : List GrantReq} {r : GrantReq} (hq : ∀ y ∈ q, y.at_ < r.at_ ∨ y.v < r.v)
    (hl : ∀ y ∈ l, r.at_ ≤ y.at_ ∧ r.v ≤ y.v) : queueRequest (q ++ l) r = q ++ r :: l := by
  have hfront : ∀ y ∈ q, (decide (y.at_ < r.at_) || decide (y.v < r.v)) = true := by simpa using hq
  have hback : ∀ y ∈ l, (decide (y.at_ < r.at_) || decide (y.v < r.v)) = false := by simpa using hl
  have hq' : (q.filter fun y => !(decide (y.at_ < r.at_) || decide (y.v < r.v))) = [] :=
    List.filter_eq_nil_iff.mpr fun y hy => by simp [hfront y hy]
  have hl' : (l.filter fun y => decide (y.at_ < r.at_) || decide (y.v < r.v)) = [] :=
    List.filter_eq_nil_iff.mpr fun y hy => by simp [hback y hy]
  have hl'' : (l.filter fun y => !(decide (y.at_ < r.at_) || decide (y.v < r.v))) = l :=
    List.filter_eq_self.mpr fun y hy => by simp [hback y hy]
  rw [queueRequest, List.filter_append, List.filter_append, List.filter_eq_self.mpr hfront, hq', hl', hl'']
  simp

/-! ### The reference of a card (R161, R169) -/

section
variable (s : State) (v level : Nat)

theorem withoutCoil_vlvRefTo : (getVlv (vlvRefTo s v level) v).withoutCoil =
    { getVlv s v with ref := level, det := detBlank s (getVlv s v).det : VlvRt }.withoutCoil := by
  have hset : (getVlv (modVlv s v fun c => { c with
      ref := level, det := detBlank s c.det, lowSide := c.lowSide && decide (0 < level) }) v).withoutCoil =
      { getVlv s v with ref := level, det := detBlank s (getVlv s v).det : VlvRt }.withoutCoil := by
    rw [getVlv_modVlv, if_pos rfl]
    rfl
  exact ite_leaves (g := fun s => (getVlv s v).withoutCoil) ((withoutCoil_vlvDecay ..).trans hset) hset

theorem vlvRefTo_banks : (vlvRefTo s v level).valve.banks = s.valve.banks :=
  ite_leaves (g := fun s => s.valve.banks) (vlvDecay_banks ..) rfl

end

section
variable {s : State} {v w : Nat}

/-! ### DRIVE -/

theorem vlvDrive_records (s : State) (v level : Nat) : let t := vlvDrive s v level
    (getVlv t v).ref = level ∧ (getVlv t v).pc = (getVlv s v).pc.map (· + 1) ∧
      ∀ b, (getBank t b).queue = (getBank s b).queue := by
  let phase := modVlv s v fun c => { c with
    rail := c.railNext, demoted := false
    share := if c.learning then c.share else if c.st = .hold then level else max c.share level }
  have href := withoutCoil_vlvRefTo phase v level
  have hrefresh := withoutCoil_bankRefresh (vlvNext (vlvRefTo phase v level) v) v (vlvBank v)
  rw [getVlv_vlvNext] at hrefresh
  refine ⟨(seen_of_withoutCoil VlvRt.ref hrefresh).trans (seen_of_withoutCoil VlvRt.ref href),
    (seen_of_withoutCoil VlvRt.pc hrefresh).trans ?_, fun b => ?_⟩
  · have hpc := seen_of_withoutCoil VlvRt.pc href
    rw [getVlv_modVlv, if_pos rfl] at hpc
    rw [hpc]
  · have hbanks : (vlvNext (vlvRefTo phase v level) v).valve.banks = s.valve.banks :=
      (modVlv_valve_banks ..).trans (vlvRefTo_banks phase v level)
    rw [← getBank_of_banks hbanks]
    exact seen_of_withoutRail Bank.queue (withoutRail_bankRefresh _ b (vlvBank v))

theorem exec_cardDrive_within (h : vlvAt s v 0x04 = some w) (hlevel : vlvOperand (getVlv s v) w ≤ (getVlv s v).share) :
    exec (.cardDrive v) s = .next (vlvDrive s v (vlvOperand (getVlv s v) w)) := by
  rw [exec_cardDrive, execCardDrive]
  simp only [h, if_pos hlevel]

theorem exec_cardDrive_fits (h : vlvAt s v 0x04 = some w) (hlevel : (getVlv s v).share < vlvOperand (getVlv s v) w)
    (hqueue : (getBank s (vlvBank v)).queue = []) (hfits : fitsBudget s v (vlvOperand (getVlv s v) w) = true) :
    exec (.cardDrive v) s = .next (vlvDrive (modVlv s v fun c => { c with share := vlvOperand (getVlv s v) w }) v
      (vlvOperand (getVlv s v) w)) := by
  rw [exec_cardDrive, execCardDrive]
  simp only [h, if_neg (Nat.not_le.mpr hlevel), askBudget_of_fits hqueue hfits, if_true]

theorem exec_cardDrive_waits (h : vlvAt s v 0x04 = some w) (hlevel : (getVlv s v).share < vlvOperand (getVlv s v) w)
    (hwaits : (getBank s (vlvBank v)).queue ≠ [] ∨ fitsBudget s v (vlvOperand (getVlv s v) w) = false) :
    exec (.cardDrive v) s = .next (vlvWaitOn (requested s v (vlvOperand (getVlv s v) w)) v
      (.drive (vlvOperand (getVlv s v) w))) := by
  rw [exec_cardDrive, execCardDrive]
  simp only [h, if_neg (Nat.not_le.mpr hlevel), askBudget_of_waits hwaits, Bool.false_eq_true, if_false]

/-! ### GRANT, RELEASE, LSTEP and OFF -/

theorem exec_cardGrant_taken (h : vlvAt s v 0x06 = some w) (hqueue : (getBank s (vlvBank v)).queue = [])
    (hfits : fitsBudget s v (vlvOperand (getVlv s v) w) = true) : exec (.cardGrant v) s = .next (
    modVlv (vlvNext s v) v fun c =>
      { c with share := vlvOperand (getVlv s v) w, st := if c.st = .waitGrant then .pullin else c.st }) := by
  rw [exec_cardGrant, execCardGrant]
  simp only [h, askBudget_of_fits hqueue hfits, if_true]

theorem exec_cardGrant_waits (h : vlvAt s v 0x06 = some w)
    (hwaits : (getBank s (vlvBank v)).queue ≠ [] ∨ fitsBudget s v (vlvOperand (getVlv s v) w) = false) :
    exec (.cardGrant v) s = .next (vlvWaitOn (requested s v (vlvOperand (getVlv s v) w)) v
      (.grant (vlvOperand (getVlv s v) w))) := by
  rw [exec_cardGrant, execCardGrant]
  simp only [h, askBudget_of_waits hwaits, Bool.false_eq_true, if_false]

theorem exec_cardRelease_issued (h : vlvAt s v 0x07 = some w) : exec (.cardRelease v) s = .next (
    modVlv (vlvNext s v) v fun c =>
      { c with share := if c.learning then c.share else c.ref
               st := if c.st = .pullin ∨ c.st = .waitGrant then .hold else c.st, holdSince := s.clk }) := by
  rw [exec_cardRelease, execCardRelease]
  simp only [h]

/-- The reference falls by a level, with the share of a hold. -/
def levelStepped (s : State) (v level : Nat) : State :=
  let r := (getVlv s v).ref - level
  vlvRefresh (vlvRefTo (modVlv (vlvNext s v) v fun c =>
    { c with share := if c.learning ∨ c.st ≠ .hold then c.share else r }) v r) v

theorem exec_cardLstep_issued (h : vlvAt s v 0x14 = some w) :
    exec (.cardLstep v) s = .next (levelStepped s v (vlvOperand (getVlv s v) w)) := by
  rw [exec_cardLstep, execCardLstep]
  simp only [h]
  rfl

theorem levelStepped_records (s : State) (v level : Nat) : let t := levelStepped s v level
    (getVlv t v).pc = (getVlv s v).pc.map (· + 1) ∧ (getVlv t v).ref = (getVlv s v).ref - level ∧
      ((getVlv s v).learning = false → (getVlv s v).st = .hold → (getVlv t v).share = (getVlv s v).ref - level) := by
  have hkept := (withoutCoil_bankRefresh _ v (vlvBank v)).trans (withoutCoil_vlvRefTo (modVlv (vlvNext s v) v fun c =>
    { c with share := if c.learning ∨ c.st ≠ .hold then c.share else (getVlv s v).ref - level }) v ((getVlv s v).ref - level))
  rw [getVlv_modVlv, if_pos rfl, getVlv_vlvNext] at hkept
  refine ⟨seen_of_withoutCoil VlvRt.pc hkept, seen_of_withoutCoil VlvRt.ref hkept, fun hcard hst => ?_⟩
  refine (seen_of_withoutCoil VlvRt.share hkept).trans (if_neg ?_)
  simp [hcard, hst]

/-- OFF: the coil decays and the share is let go. -/
def turnedOff (s : State) (v : Nat) : State :=
  modVlv (vlvWaitOn s v .decayed) v fun c => { c with
    st := .decay, ref := 0, share := 0, lowSide := false, conducting := false, leaving := false, offAt := some s.clk }

theorem exec_cardOff_issued (h : vlvAt s v 0x05 = some w) :
    exec (.cardOff v) s = .next (bankRefresh (vlvDecay (turnedOff s v) v) (vlvBank v)) := by
  rw [exec_cardOff, execCardOff]
  simp only [h]
  rfl

theorem turnedOff_records (s : State) (v : Nat) : let t := bankRefresh (vlvDecay (turnedOff s v) v) (vlvBank v)
    (getVlv t v).st = .decay ∧ (getVlv t v).ref = 0 ∧ (getVlv t v).share = 0 ∧ (getVlv t v).conducting = false ∧
      (getVlv t v).lowSide = false ∧ (getVlv t v).wait = .decayed ∧ (getVlv t v).offAt = some s.clk := by
  have hdecay := withoutCoil_vlvDecay (turnedOff s v) v v
  have hkept := (withoutCoil_bankRefresh (vlvDecay (turnedOff s v) v) v (vlvBank v)).trans hdecay
  rw [turnedOff, getVlv_modVlv, if_pos rfl, getVlv_vlvWaitOn, ← turnedOff] at hdecay hkept
  obtain ⟨hconducting, hlow⟩ := idle_bankRefresh (vlvWants_of_ref (seen_of_withoutCoil VlvRt.ref hdecay))
  exact ⟨seen_of_withoutCoil VlvRt.st hkept, seen_of_withoutCoil VlvRt.ref hkept, seen_of_withoutCoil VlvRt.share hkept,
    hconducting, hlow, seen_of_withoutCoil VlvRt.wait hkept, seen_of_withoutCoil VlvRt.offAt hkept⟩

end

/-! ### Grants (R181) -/

/-- The head of a queue leaves it: the wait is counted, and the channel notes its delay. -/
def headTaken (s : State) (r : GrantReq) : State :=
  let t := modBank (dropRequest s r.v) (vlvBank r.v) fun k => { k with waits := k.waits + 1 }
  modVlv t r.v fun c => vlvFlag fPullinDelayed { c with
    pullinDelay := (roundDiv (t.clk - r.at_ : Nat) clkPerUs).toNat + if Flag.get c.flags fWaited5200 then c.pullinDelay else 0 }

/-- A card that waits in GRANT takes its share and goes on. -/
def headGranted (s : State) (r : GrantReq) (l : Nat) : State :=
  modVlv (vlvNext (headTaken s r) r.v) r.v fun c =>
    { c with share := l, st := if c.st = .waitGrant then .pullin else c.st }

section
variable {s : State} {r : GrantReq} {l : Nat}

theorem grantHead_of_grant (hwait : (getVlv s r.v).wait = .grant l) : grantHead s r = headGranted s r l := by
  have htaken : (getVlv (headTaken s r) r.v).wait = .grant l := by
    rw [headTaken, getVlv_modVlv, if_pos rfl, getVlv_modBank, getVlv_dropRequest]
    exact hwait
  rw [headTaken] at htaken
  rw [grantHead]
  simp only [htaken]
  rfl

theorem headGranted_records (s : State) (r : GrantReq) (l : Nat) : let t := headGranted s r l
    (getVlv t r.v).share = l ∧ (getVlv t r.v).pc = (getVlv s r.v).pc.map (· + 1) ∧
      Flag.get (getVlv t r.v).flags fPullinDelayed = true ∧
      ((getVlv s r.v).st = .waitGrant → (getVlv t r.v).st = .pullin) ∧ OthersKept getVlv s t r.v := by
  have hothers : OthersKept getVlv s (headTaken s r) r.v := fun j hj => (getVlv_modVlv ..).trans (if_neg hj)
  have hself : getVlv (headGranted s r l) r.v = { getVlv (headTaken s r) r.v with
      pc := (getVlv (headTaken s r) r.v).pc.map (· + 1), wait := .none, issued := some (headTaken s r).clk, share := l
      st := if (getVlv (headTaken s r) r.v).st = .waitGrant then .pullin else (getVlv (headTaken s r) r.v).st } := by
    rw [headGranted, getVlv_modVlv, if_pos rfl, getVlv_vlvNext]
  have hnoted : getVlv (headTaken s r) r.v = vlvFlag fPullinDelayed { getVlv s r.v with
      pullinDelay := (getVlv (headTaken s r) r.v).pullinDelay } := by
    rw [headTaken, getVlv_modVlv, if_pos rfl, getVlv_modBank, getVlv_dropRequest]
    rfl
  dsimp only
  rw [hself, hnoted]
  exact ⟨rfl, rfl, getFlag_vlvFlag (by decide) _, fun hst => if_pos hst, hothers.trans othersKept_setting⟩

theorem getBank_headGranted : getBank (headGranted s r l) (vlvBank r.v) =
    { getBank s (vlvBank r.v) with
      queue := (getBank s (vlvBank r.v)).queue.filter fun q => q.v ≠ r.v, waits := (getBank s (vlvBank r.v)).waits + 1 } := by
  have hbanks : (headGranted s r l).valve.banks = (modBank (dropRequest s r.v) (vlvBank r.v) fun k =>
      { k with waits := k.waits + 1 }).valve.banks := rfl
  rw [getBank_of_banks hbanks, getBank_modBank, if_pos rfl, dropRequest, getBank_modBank, if_pos rfl]

theorem exec_budgetGranted_fits (hb : vlvBank r.v < 4) (hqueue : (getBank s (vlvBank r.v)).queue = [r])
    (hfits : fitsBudget s r.v r.level = true) : exec (.budgetGranted (vlvBank r.v)) s = .next (grantHead s r) := by
  rw [exec_budgetGranted, execBudgetGranted, if_pos hb, hqueue]
  simp only [List.length_singleton, grantLoop, hqueue, hfits, if_true]

theorem exec_budgetGranted_waits {b : Nat} {rest : List GrantReq} (hb : b < 4) (hqueue : (getBank s b).queue = r :: rest)
    (hfits : fitsBudget s r.v r.level = false) : exec (.budgetGranted b) s = .next s := by
  rw [exec_budgetGranted, execBudgetGranted, if_pos hb, hqueue]
  simp only [List.length_cons, grantLoop, hqueue, hfits, Bool.false_eq_true, if_false]

end

/-- Settles O23: each instruction and each grant by its equation, with what the references and the coils leave of the channel and
of the queue. -/
theorem cardsDriveWithinTheBudget : Obligations.CardsDriveWithinTheBudget := by
  unfold Obligations.CardsDriveWithinTheBudget
  refine ⟨fun s v w => ⟨fun h => ⟨fun hlevel => ?taken, fun hlevel hwaits => ?waits⟩,
      fun h => ⟨fun hqueue hfits => ?grant, fun hwaits => ?asked⟩, fun h => ?release, fun h => ?lstep, fun h => ?off⟩,
    fun s r l hb hqueue hfits hwait => ?granted, fun s b r rest hb hqueue hfits => exec_budgetGranted_waits hb hqueue hfits,
    fun q r x hq => ⟨?back, fun hclk hchannel => ?before⟩⟩
  case taken =>
    by_cases hshare : vlvOperand (getVlv s v) w ≤ (getVlv s v).share
    · obtain ⟨href, hpc, hqueue⟩ := vlvDrive_records s v (vlvOperand (getVlv s v) w)
      exact ⟨_, exec_cardDrive_within h hshare, href, hpc, hqueue _⟩
    · obtain ⟨hqueue, hfits⟩ := hlevel.resolve_left hshare
      refine ⟨_, exec_cardDrive_fits h (Nat.not_le.mp hshare) hqueue hfits, ?_⟩
      obtain ⟨href, hpc, hqueue⟩ := vlvDrive_records (modVlv s v fun c => { c with share := vlvOperand (getVlv s v) w }) v
        (vlvOperand (getVlv s v) w)
      rw [getVlv_modVlv, if_pos rfl] at hpc
      exact ⟨href, hpc, hqueue _⟩
  case waits =>
    refine ⟨_, exec_cardDrive_waits h hlevel hwaits, ?_⟩
    rw [getVlv_vlvWaitOn]
    exact ⟨rfl, rfl, rfl, queue_requested⟩
  case grant =>
    refine ⟨_, exec_cardGrant_taken h hqueue hfits, ?_⟩
    rw [getVlv_modVlv, if_pos rfl, getVlv_vlvNext]
    exact ⟨rfl, rfl, fun hst => if_pos hst, othersKept_setting⟩
  case asked =>
    refine ⟨_, exec_cardGrant_waits h hwaits, ?_⟩
    rw [getVlv_vlvWaitOn]
    exact ⟨rfl, rfl, queue_requested⟩
  case release =>
    refine ⟨_, exec_cardRelease_issued h, ?_⟩
    rw [getVlv_modVlv, if_pos rfl, getVlv_vlvNext]
    exact ⟨rfl, fun hcard => if_neg (by simp [hcard]), fun hst => if_pos hst, othersKept_setting⟩
  case lstep => exact ⟨_, exec_cardLstep_issued h, levelStepped_records s v _⟩
  case off => exact ⟨_, exec_cardOff_issued h, turnedOff_records s v⟩
  case granted =>
    obtain ⟨hshare, hpc, hflag, hst, hothers⟩ := headGranted_records s r l
    refine ⟨_, exec_budgetGranted_fits hb hqueue hfits, ?_⟩
    rw [grantHead_of_grant hwait, getBank_headGranted, hqueue]
    exact ⟨by simp, hshare, hpc, hflag, hst, rfl, hothers⟩
  case back => simpa using queueRequest_append (l := []) hq (by simp)
  case before => exact queueRequest_append hq (by simp; omega)

end Sys2Proof.Machine
end

section
/-! PROOFS. The end of a card, learning windows and what they store (07_valve_drive, R161, R169, R175–R177, R184). -/

namespace Sys2Proof.Machine

theorem comN_of_dict {s t : State} (h : t.dict = s.dict) (o m : Nat) : comN t o m = comN s o m := by
  rw [comN, comI, committedVal, h, comN, comI, committedVal]

/-- A channel whose mode is the one in force stays as it is (R184). -/
theorem vlvSyncMode_of_same {s : State} {v : Nat} (h : (getVlv s v).mode = Cfg.vlvChanMode s v) : vlvSyncMode s v = s :=
  if_pos (Or.inl h)

section
variable {s : State} {v w : Nat}

/-- An instruction is issued on a channel of the block only. -/
theorem lt_of_vlvAt {op : Nat} (h : vlvAt s v op = some w) : v < 16 := by
  by_contra hv
  rw [vlvAt, if_neg fun hslot => hv hslot.1] at h
  cases h

/-! ### END (R169, R177) -/

/-- HOLD_LEARN ends: the channel's own card stands at its WCMD again. -/
def learningEnded (s : State) (v : Nat) : State :=
  modVlv s v fun c => { c with
    st := .hold, learning := false, share := c.ref, pc := some (afterWcmd s v - 1), wait := .none }

theorem exec_cardEnd_learning (h : vlvAt s v 0x3F = some w) (hlearn : (getVlv s v).learning = true) :
    exec (.cardEnd v) s = .next (bankRefresh (learningEnded s v) (vlvBank v)) := by
  rw [exec_cardEnd, execCardEnd]
  simp only [h, if_pos hlearn]
  rfl

theorem exec_cardEnd_channel (h : vlvAt s v 0x3F = some w) (hlearn : (getVlv s v).learning = false) :
    exec (.cardEnd v) s = .next (vlvRest s v) := by
  rw [exec_cardEnd, execCardEnd]
  simp only [h, hlearn, Bool.false_eq_true, if_false]

/-- The channel runs no profile and is off. -/
def quieted (s : State) (v : Nat) : State :=
  modVlv s v fun c => { vlvQuiet c with st := .off, returning := false, offSince := s.clk }

/-- A SWITCHED channel whose committed mode is SWITCHED rests in the set it takes. -/
theorem vlvRest_eq (hv : v < 16) (hmode : (getVlv s v).mode = 1) (hset : comN s (0x7100 + v) 1 = 1) :
    vlvRest s v = vlvTakeSet (bankRefresh (quieted s v) (vlvBank v)) v := by
  have hrest : (getVlv (quieted s v) v).mode = 1 := by
    rw [quieted, getVlv_modVlv, if_pos rfl]
    exact hmode
  refine vlvSyncMode_of_same (Eq.trans ?_ (vlvChanMode_vlvTakeSet hv _).symm)
  rw [seen_vlvTakeSet VlvRt.mode]
  refine (seen_of_withoutCoil VlvRt.mode (withoutCoil_bankRefresh ..)).trans (hrest.trans ?_)
  rw [vlvRefresh, comN_of_dict (bankRefresh_dict ..)]
  exact hset.symm

theorem quieted_records (s : State) (v : Nat) : let t := vlvTakeSet (bankRefresh (quieted s v) (vlvBank v)) v
    (getVlv t v).st = .off ∧ (getVlv t v).pc = none ∧ (getVlv t v).ref = 0 ∧ (getVlv t v).share = 0 ∧
      (getVlv t v).conducting = false := by
  have hkept := withoutCoil_bankRefresh (quieted s v) v (vlvBank v)
  have hself : getVlv (quieted s v) v = { vlvQuiet (getVlv s v) with st := .off, returning := false, offSince := s.clk } := by
    rw [quieted, getVlv_modVlv, if_pos rfl]
  obtain ⟨hconducting, -⟩ := idle_bankRefresh (s := quieted s v) (v := v) (vlvWants_of_ref (by rw [hself]; rfl))
  rw [hself] at hkept
  exact ⟨(seen_vlvTakeSet VlvRt.st ..).trans (seen_of_withoutCoil VlvRt.st hkept),
    (seen_vlvTakeSet VlvRt.pc ..).trans (seen_of_withoutCoil VlvRt.pc hkept),
    (seen_vlvTakeSet VlvRt.ref ..).trans (seen_of_withoutCoil VlvRt.ref hkept),
    (seen_vlvTakeSet VlvRt.share ..).trans (seen_of_withoutCoil VlvRt.share hkept),
    (seen_vlvTakeSet VlvRt.conducting ..).trans hconducting⟩

/-! ### What a window stores, and the waits that it ends -/

theorem exec_cardLsave_issued (h : vlvAt s v 0x15 = some w) : exec (.cardLsave v) s = .next (modVlv (vlvNext s v) v fun c =>
    vlvFlag fLearnDone { c with
      learned := setNth c.learned c.band (min 1500 (roundDiv (5 * c.dropRef) 4).toNat)
      learnedAt := s.cal.now, learnDirty := some (c.learnDirty.getD s.clk) }) := by
  rw [exec_cardLsave, execCardLsave]
  simp only [h]

/-- The coil has decayed: a RETURN interval ends, and the card goes on. -/
def decayEnded (s : State) (v : Nat) : State := vlvNext (modVlv s v fun c => { c with returning := false }) v

theorem exec_decayComplete_decayed (hv : v < 16) (hwait : (getVlv s v).wait = .decayed) :
    exec (.decayComplete v) s = .next (bankRefresh (decayEnded s v) (vlvBank v)) := by
  rw [exec_decayComplete, execDecayComplete]
  refine (if_pos ⟨hv, Or.inl hwait⟩).trans ?_
  simp only [if_pos hwait]
  rfl

theorem exec_learnWindowGrant_granted (hv : v < 16) (h : mayLearn s v = true) : exec (.learnWindowGrant v) s = .next (
    modVlv s v fun c => { c with
      st := .learn, learning := true, share := nth 0 c.params 0, pc := some 0x130, wait := .none, demoted := false }) :=
  if_pos ⟨hv, h⟩

theorem exec_coilResMeasured_held (hv : v < 16) (hst : (getVlv s v).st = .hold)
    (hpast : after (getVlv s v).holdSince (msecs 100) ≤ s.clk) (milliohm : Nat) :
    exec (.coilResMeasured v milliohm) s = .next (modVlv s v fun c => { c with coilRes := milliohm }) :=
  if_pos ⟨hv, hst, decide_eq_true hpast⟩

end

/-- Settles O24: each command by its equation; END by whether the card is that of a learning window. -/
theorem cardsEndAndLearn : Obligations.CardsEndAndLearn := by
  unfold Obligations.CardsEndAndLearn
  refine fun s v w => ⟨fun h hlearn => ?learned, fun h hlearn hmode hset => ?ended, fun h => ?lsave, fun hv hwait => ?decayed,
    fun hv hmay => ?window, fun hv hst hpast => ?coil⟩
  case learned =>
    have hkept := withoutCoil_bankRefresh (learningEnded s v) v (vlvBank v)
    rw [learningEnded, getVlv_modVlv, if_pos rfl, ← learningEnded] at hkept
    exact ⟨_, exec_cardEnd_learning h hlearn, seen_of_withoutCoil VlvRt.st hkept, seen_of_withoutCoil VlvRt.learning hkept,
      seen_of_withoutCoil VlvRt.share hkept, seen_of_withoutCoil VlvRt.pc hkept⟩
  case ended =>
    refine ⟨_, exec_cardEnd_channel h hlearn, ?_⟩
    rw [vlvRest_eq (lt_of_vlvAt h) hmode hset]
    exact quieted_records s v
  case lsave =>
    refine ⟨_, exec_cardLsave_issued h, ?_⟩
    rw [getVlv_modVlv, if_pos rfl, getVlv_vlvNext]
    exact ⟨rfl, rfl, rfl, getFlag_vlvFlag (by decide) _, othersKept_setting⟩
  case decayed =>
    have hself : getVlv (decayEnded s v) v = { getVlv s v with
        returning := false, pc := (getVlv s v).pc.map (· + 1), wait := .none, issued := some s.clk } := by
      rw [decayEnded, getVlv_vlvNext, getVlv_modVlv, if_pos rfl]
      rfl
    have hkept := withoutCoil_bankRefresh (decayEnded s v) v (vlvBank v)
    have hreturn := returning_bankRefresh (s := decayEnded s v) (v := v) (vlvBank v) (by rw [hself])
    rw [hself] at hkept
    exact ⟨_, exec_decayComplete_decayed hv hwait, seen_of_withoutCoil VlvRt.wait hkept, hreturn,
      seen_of_withoutCoil VlvRt.pc hkept⟩
  case window =>
    refine ⟨_, exec_learnWindowGrant_granted hv hmay, ?_⟩
    rw [getVlv_modVlv, if_pos rfl]
    exact ⟨rfl, rfl, rfl, rfl, othersKept_modVlv⟩
  case coil =>
    refine ⟨_, exec_coilResMeasured_held hv hst hpast w, ?_⟩
    rw [getVlv_modVlv, if_pos rfl]
    exact ⟨rfl, othersKept_modVlv⟩

end Sys2Proof.Machine
end

section
/-! PROOFS. Starts of cards, ends of pulses and the chopper (07_valve_drive, R164, R166, R178, R184, R454). -/

namespace Sys2Proof.Machine

theorem cfgN_of_dict {s t : State} (h : t.dict = s.dict) (o m : Nat) : cfgN t o m = cfgN s o m := by
  rw [cfgN, cfgI, cfgVal, h, cfgN, cfgI, cfgVal]

/-! ### Card starts (R166, R178, R184) -/

/-- The channel's bank is no longer tripped, and its profile has begun. -/
def profileBegun (s : State) (v : Nat) : State :=
  let t := modBank s (vlvBank v) fun k => { k with tripped := false }
  vlvBegin t v (getBank t (vlvBank v)).band

/-- A profile begins at this clock on the committed set: the start is no longer due, and the channel draws nothing yet. -/
theorem profileBegun_records {v : Nat} (hv : v < 16) (s : State) : let c := getVlv (profileBegun s v) v
    c.startDue = none ∧ c.share = 0 ∧ c.ref = 0 ∧ c.startClk = s.clk ∧ c.startWarp = warpNow s ∧
      c.card = comN s (0x7100 + v) 2 ∧ c.actuations = (getVlv s v).actuations + 1 ∧ c.pulseMs = (getVlv s v).pulseMs := by
  let untripped := modBank s (vlvBank v) fun k => { k with tripped := false }
  let fetched := (heddleFetch untripped (engJacquard v) (288 + v)).2
  let taken := vlvTakeSet fetched v
  have hvalve : fetched.valve = untripped.valve :=
    heddleFetch_within (bs := [.mem]) _ _ _ (.refl _ _) (by decide) .valve (by decide)
  have hchannel : getVlv fetched v = getVlv s v := (getVlv_of_valve hvalve v).trans (getVlv_modBank ..)
  have hdict : fetched.dict = s.dict := (heddleFetch_dict ..).trans (modBank_dict ..)
  have htaken : Within [.valve, .dict, .mem] s taken :=
    vlvTakeSet_within _ v (heddleFetch_within _ _ _ (modBank_within s _ _ (.refl _ s) (by decide)) (by decide)) (by decide)
      (by decide)
  have hclk : taken.clk = s.clk := htaken .clk (by decide)
  have hwarp : taken.warp = s.warp := htaken .warp (by decide)
  have hnow : warpNow taken = warpNow s := by rw [warpNow, hwarp, warpNow]
  have hcard : Cfg.vlvCard taken v = comN s (0x7100 + v) 2 := (vlvCard_vlvTakeSet hv fetched).trans (comN_of_dict hdict _ _)
  have hactuations : (getVlv taken v).actuations = (getVlv s v).actuations := by
    rw [seen_vlvTakeSet VlvRt.actuations, hchannel]
  have hpulse : (getVlv taken v).pulseMs = (getVlv s v).pulseMs := by
    rw [seen_vlvTakeSet VlvRt.pulseMs, hchannel]
  dsimp only
  rw [profileBegun, vlvBegin, getVlv_modVlv, if_pos rfl]
  exact ⟨rfl, rfl, rfl, hclk, hnow, hcard, congrArg (· + 1) hactuations, hpulse⟩

theorem profileBegun_clk (s : State) (v : Nat) : (profileBegun s v).clk = s.clk :=
  vlvBegin_within (bs := [.valve, .dict, .mem]) _ v _ (modBank_within s _ _ (.refl _ s) (by decide)) (by decide) (by decide)
    (by decide) .clk (by decide)

/-- A channel whose card starts at its start address; `late` is the clock since which the start has waited. -/
def VlvRt.started (c : VlvRt) (clk : Nat) (late : Option Nat) : VlvRt := { c with
  st := .waitGrant, pc := some c.card
  pullinDelay := match late with
    | some w => clkToUs (clk - w)
    | none => 0
  pulseEnd := match c.pulseMs with
    | some ms => some (after clk (msecs ms))
    | none => c.pulseEnd
  pulseMs := none
  flags := Flag.set (Flag.set c.flags fWaited5200 late.isSome) fPullinDelayed late.isSome }

theorem started_pulseEnd {c : VlvRt} {ms : Nat} (h : c.pulseMs = some ms) (clk : Nat) (late : Option Nat) :
    (c.started clk late).pulseEnd = some (after clk (msecs ms)) := by
  unfold VlvRt.started
  simp only [h]

/-- The card of a profile that has begun starts at this clock. -/
def cardStarted (s : State) (v : Nat) (late : Option Nat) : State := modVlv s v fun c => c.started s.clk late

section
variable {s : State} {v : Nat} (hv : v < 16)
include hv

theorem exec_cardStart_due {u : Nat} (hdue : (getVlv s v).startDue = some u) (hu : u ≤ s.clk) (hslot : s.clk % 4 = v % 4)
    (hst : (getVlv s v).st = .off) (hmode : (getVlv s v).mode = 1) (hfree : vlvBlocked s v = false) :
    exec (.cardStart v) s = .next (bankRefresh (cardStarted (profileBegun s v) v (getVlv s v).waited5200) (vlvBank v)) := by
  rw [exec_cardStart, execCardStart]
  simp only [hdue]
  exact if_pos ⟨hv, hslot, hu, hst, hmode, by simp [hfree]⟩

theorem cardStarted_records (s : State) (late : Option Nat) :
    let t := bankRefresh (cardStarted (profileBegun s v) v late) (vlvBank v)
    (getVlv t v).st = .waitGrant ∧ (getVlv t v).pc = some (comN s (0x7100 + v) 2) ∧ (getVlv t v).startDue = none ∧
      (getVlv t v).share = 0 ∧ (getVlv t v).ref = 0 ∧ (getVlv t v).startClk = s.clk ∧ (getVlv t v).startWarp = warpNow s ∧
      (getVlv t v).actuations = (getVlv s v).actuations + 1 ∧
      (∀ ms, (getVlv s v).pulseMs = some ms → (getVlv t v).pulseEnd = some (after s.clk (msecs ms))) := by
  have hbegun := profileBegun_records hv s
  have hkept := withoutCoil_bankRefresh (cardStarted (profileBegun s v) v late) v (vlvBank v)
  have hself : getVlv (cardStarted (profileBegun s v) v late) v = (getVlv (profileBegun s v) v).started s.clk late := by
    rw [cardStarted, getVlv_modVlv, if_pos rfl, profileBegun_clk]
  rw [hself] at hkept
  generalize getVlv (profileBegun s v) v = c at hbegun hkept
  obtain ⟨hdue, hshare, href, hstart, hwarp, hcard, hactuations, hpulse⟩ := hbegun
  exact ⟨seen_of_withoutCoil VlvRt.st hkept, (seen_of_withoutCoil VlvRt.pc hkept).trans (congrArg some hcard),
    (seen_of_withoutCoil VlvRt.startDue hkept).trans hdue, (seen_of_withoutCoil VlvRt.share hkept).trans hshare,
    (seen_of_withoutCoil VlvRt.ref hkept).trans href, (seen_of_withoutCoil VlvRt.startClk hkept).trans hstart,
    (seen_of_withoutCoil VlvRt.startWarp hkept).trans hwarp, (seen_of_withoutCoil VlvRt.actuations hkept).trans hactuations,
    fun ms hms => (seen_of_withoutCoil VlvRt.pulseEnd hkept).trans (started_pulseEnd (hpulse.trans hms) _ _)⟩

theorem exec_wait5200Expiry_due {u : Nat} (hst : (getVlv s v).st = .wait5200) (hdue : (getVlv s v).startDue = some u)
    (hu : u ≤ s.clk) : exec (.wait5200Expiry v) s = .next (
      modVlv s v fun c => { c with st := .off, startDue := some s.clk }) := by
  rw [exec_wait5200Expiry, execWait5200Expiry]
  simp only [hdue]
  exact if_pos ⟨hv, hst, hu⟩

/-! ### The end of a timed pulse (R164, R178) -/

theorem exec_pulseExpiry_due {u : Nat} (hend : (getVlv s v).pulseEnd = some u) (hu : u ≤ s.clk)
    (hsafe : isSafe s (288 + v) = false) : exec (.pulseExpiry v) s = .next (vlvCommand s v 0 0) := by
  rw [exec_pulseExpiry, execPulseExpiry]
  simp only [hend]
  exact if_pos ⟨hv, hu, by simp [hsafe]⟩

end

/-- The channel's command is off. -/
def commandOff (s : State) (v : Nat) : State :=
  modVlv s v fun c => { c with cmdOn := false, pulseEnd := none, pulseMs := none }

/-- The card goes on after its WCMD, on the way off. -/
def wcmdLeft (s : State) (v : Nat) : State :=
  modVlv (vlvResume (dropRequest s v) v (afterWcmd s v)) v fun c => { c with leaving := true }

section
variable {s : State} {v : Nat}

theorem getVlv_wcmdLeft : getVlv (wcmdLeft s v) v =
    { getVlv s v with pc := some (afterWcmd s v), wait := .none, learning := false, leaving := true } := by
  rw [wcmdLeft, getVlv_modVlv, if_pos rfl, vlvResume, getVlv_modVlv, if_pos rfl, getVlv_dropRequest]

theorem afterWcmd_commandOff : afterWcmd (commandOff s v) v = afterWcmd s v := by
  rw [afterWcmd, commandOff, getVlv_modVlv, if_pos rfl, afterWcmd]
  rfl

/-- An off command to a card that waits in its WCMD in HOLD lets the card go on. -/
theorem vlvOff_of_hold (hst : (getVlv s v).st = .hold) (hwait : (getVlv s v).wait = .cmdOff)
    (hstays : (getVlv s v).leaving = false) : vlvOff s v = wcmdLeft (commandOff s v) v := by
  have hleaving : ¬ (getVlv (commandOff s v) v).leaving = true := by
    rw [commandOff, getVlv_modVlv, if_pos rfl]
    simp [hstays]
  rw [vlvOff]
  simp only [hst, hwait]
  exact if_neg hleaving

/-- An off command of the owner that no level above it holds back. -/
theorem vlvAct_off (hmode : (getVlv s v).mode = 1) (hfree : vlvBlocked s v = false) (hsafe : isSafe s (288 + v) = false)
    (sense : Nat) : vlvAct s v 0 sense = bankRefresh (vlvOff s v) (vlvBank v) := by
  simp [vlvAct, hmode, hfree, hsafe]

theorem vlvSettle_of_running (h : (getVlv s v).st ≠ .off) : vlvSettle s v = s := if_neg fun hrest => h hrest.1

theorem vlvCommand_off_records (hmode : (getVlv s v).mode = 1) (hfree : vlvBlocked s v = false)
    (hsafe : isSafe s (288 + v) = false) (hst : (getVlv s v).st = .hold) (hwait : (getVlv s v).wait = .cmdOff)
    (hstays : (getVlv s v).leaving = false) (sense : Nat) : let t := vlvCommand s v 0 sense
    (getVlv t v).cmdOn = false ∧ (getVlv t v).pulseEnd = none ∧ (getVlv t v).pc = some (afterWcmd s v) ∧
      (getVlv t v).wait = .none := by
  have hkept := withoutCoil_bankRefresh (wcmdLeft (commandOff s v) v) v (vlvBank v)
  rw [getVlv_wcmdLeft, afterWcmd_commandOff, commandOff, getVlv_modVlv, if_pos rfl, ← commandOff] at hkept
  have hhold : (getVlv (bankRefresh (wcmdLeft (commandOff s v) v) (vlvBank v)) v).st ≠ .off := by
    rw [seen_of_withoutCoil VlvRt.st hkept, hst]
    decide
  rw [vlvCommand, vlvAct_off hmode hfree hsafe, vlvOff_of_hold hst hwait hstays, vlvSettle_of_running hhold]
  exact ⟨seen_of_withoutCoil VlvRt.cmdOn hkept, seen_of_withoutCoil VlvRt.pulseEnd hkept,
    seen_of_withoutCoil VlvRt.pc hkept, seen_of_withoutCoil VlvRt.wait hkept⟩

/-! ### The chopper (R454) -/

/-- A CHOP that waits takes effect at the start of a period. -/
def VlvRt.chopTaken (c : VlvRt) : VlvRt :=
  match c.chopPending with
  | some f => { c with chop := f, chopPending := none, chopBase := c.chopNext, chopN := 0 }
  | none => c

theorem chopTaken_ref (c : VlvRt) : c.chopTaken.ref = c.ref := by
  rw [VlvRt.chopTaken]
  split <;> rfl

theorem chopTaken_st (c : VlvRt) : c.chopTaken.st = c.st := by
  rw [VlvRt.chopTaken]
  split <;> rfl

/-- A channel as a chopper period begins: its low side turns on. -/
def VlvRt.periodBegun (c : VlvRt) (clk : Nat) : VlvRt := { c.chopTaken with
  lowSide := true, returning := false, chopN := c.chopTaken.chopN + 1, chopAt := clk
  chopNext := chopTime c.chopTaken.chopBase (c.chopTaken.chopN + 1) c.chopTaken.chop }

theorem periodBegun_ref (c : VlvRt) (clk : Nat) : (c.periodBegun clk).ref = c.ref := chopTaken_ref c

theorem periodBegun_st (c : VlvRt) (clk : Nat) : (c.periodBegun clk).st = c.st := chopTaken_st c

/-- A chopper period of the channel begins at this clock. -/
def periodStarted (s : State) (v : Nat) : State := modVlv s v fun c => c.periodBegun s.clk

theorem getVlv_periodStarted : getVlv (periodStarted s v) v = (getVlv s v).periodBegun s.clk := by
  rw [periodStarted, getVlv_modVlv, if_pos rfl]

theorem exec_chopperPeriodStart_due (hv : v < 16) (hon : (getVlv s v).conducting = true) (hdue : (getVlv s v).chopNext ≤ s.clk) :
    exec (.chopperPeriodStart v) s = .next (triggerEvent (bankRefresh (periodStarted s v) (vlvBank v)) (0x20 + v)) :=
  if_pos ⟨hv, hon, hdue⟩

/-- The low side of a conducting channel turns off, and its coil decays. -/
def lowSideOff (s : State) (v : Nat) : State := vlvDecay (modVlv s v fun c => { c with lowSide := false }) v

theorem exec_chopperOffEdge_due (hv : v < 16) (hon : (getVlv s v).conducting = true) (hlow : (getVlv s v).lowSide = true)
    (hdue : (getVlv s v).chopAt + 200 ≤ s.clk) : exec (.chopperOffEdge v) s =
      .next (triggerEvent (bankRefresh (lowSideOff s v) (vlvBank v)) (0x30 + v)) :=
  if_pos ⟨hv, hon, hlow, hdue⟩

@[simp] theorem getVlv_triggerEvent (s : State) (src j : Nat) : getVlv (triggerEvent s src) j = getVlv s j :=
  getVlv_of_valve (triggerEvent_within (bs := [.meas]) s src (.refl _ s) (by decide) .valve (by decide)) j

/-- An edge of a channel whose valves alone have changed triggers the entries that name it. -/
theorem edge_counts {t : State} (h : Within [.valve] s t) (b src : Nat) {e : Nat} (he : e < 32) :
    (getTrig (triggerEvent (bankRefresh t b) src) e).count =
      (getTrig s e).count + if Cfg.trigSource s e = src then 1 else 0 := by
  have hrefresh : Within [.valve] s (bankRefresh t b) := bankRefresh_within t b h (by decide)
  have htrig : getTrig (bankRefresh t b) e = getTrig s e := by
    rw [getTrig, show (bankRefresh t b).meas = s.meas from hrefresh .meas (by decide), getTrig]
  have hsource : Cfg.trigSource (bankRefresh t b) e = Cfg.trigSource s e := cfgN_of_dict (hrefresh .dict (by decide)) _ _
  rw [triggerEvent_counts _ _ he, htrig, hsource]

theorem periodStarted_within (s : State) (v : Nat) : Within [.valve] s (periodStarted s v) :=
  modVlv_within s v _ (.refl _ s) (by decide)

theorem lowSideOff_within (s : State) (v : Nat) : Within [.valve] s (lowSideOff s v) :=
  vlvDecay_within _ v (modVlv_within s v _ (.refl _ s) (by decide)) (by decide)

theorem lowSide_periodStarted (h : vlvWants s v = true) :
    (getVlv (bankRefresh (periodStarted s v) (vlvBank v)) v).lowSide = true := by
  have hwants : vlvWants (periodStarted s v) v = true := 
    (vlvWants_modVlv (fun c => periodBegun_ref c s.clk) fun c => periodBegun_st c s.clk).trans h
  obtain ⟨-, hlow⟩ := coil_bankRefresh (periodStarted s v) v
  rw [hlow, hwants, getVlv_periodStarted]
  rfl

theorem lowSide_lowSideOff (hon : (getVlv s v).conducting = true) :
    (getVlv (bankRefresh (lowSideOff s v) (vlvBank v)) v).lowSide = false := by
  have hdecay := withoutDecay_vlvDecay (modVlv s v fun c => { c with lowSide := false }) v v
  rw [getVlv_modVlv, if_pos rfl] at hdecay
  have hconducting : (getVlv (lowSideOff s v) v).conducting = true :=
    (seen_of_withoutDecay VlvRt.conducting hdecay).trans hon
  have hoff : (getVlv (lowSideOff s v) v).lowSide = false := seen_of_withoutDecay VlvRt.lowSide hdecay
  obtain ⟨-, hlow⟩ := coil_bankRefresh (lowSideOff s v) v
  rw [hlow, hconducting, hoff]
  simp

end

/-- Settles O25: a start by what the beginning of its profile records, an off command by the card that leaves its WCMD, an edge by
what it makes of the coil and by the entries that name it. -/
theorem cardsStartAndChop : Obligations.CardsStartAndChop := by
  unfold Obligations.CardsStartAndChop
  refine ⟨fun s v u hv hdue hu hslot hst hmode hfree => ?start, fun s v u hv hst hdue hu => ?wait,
    fun s v u hv hend hu hmode hfree hsafe hst hwait hstays => ?pulse, fun s v hv hon hdue => ?period,
    fun s v hv hon hlow hdue => ?edge⟩
  case start => exact ⟨_, exec_cardStart_due hv hdue hu hslot hst hmode hfree, cardStarted_records hv s _⟩
  case wait =>
    refine ⟨_, exec_wait5200Expiry_due hv hst hdue hu, ?_⟩
    rw [getVlv_modVlv, if_pos rfl]
    exact ⟨rfl, rfl, othersKept_modVlv⟩
  case pulse =>
    exact ⟨_, exec_pulseExpiry_due hv hend hu hsafe, vlvCommand_off_records hmode hfree hsafe hst hwait hstays 0⟩
  case period =>
    have hkept := withoutCoil_bankRefresh (periodStarted s v) v (vlvBank v)
    have hreturn := returning_bankRefresh (s := periodStarted s v) (v := v) (vlvBank v) (by rw [getVlv_periodStarted]; rfl)
    rw [getVlv_periodStarted] at hkept
    refine ⟨_, exec_chopperPeriodStart_due hv hon hdue, ?_⟩
    rw [getVlv_triggerEvent]
    refine ⟨seen_of_withoutCoil VlvRt.chopAt hkept, hreturn, lowSide_periodStarted, fun f hf => ?_,
      fun e he => edge_counts (periodStarted_within s v) _ _ he⟩
    have htaken : (getVlv s v).chopTaken = { getVlv s v with
        chop := f, chopPending := none, chopBase := (getVlv s v).chopNext, chopN := 0 } := by
      rw [VlvRt.chopTaken]
      simp only [hf]
    rw [VlvRt.periodBegun, htaken] at hkept
    exact ⟨seen_of_withoutCoil VlvRt.chop hkept, seen_of_withoutCoil VlvRt.chopPending hkept⟩
  case edge =>
    refine ⟨_, exec_chopperOffEdge_due hv hon hlow hdue, ?_⟩
    rw [getVlv_triggerEvent]
    exact ⟨lowSide_lowSideOff hon, fun e he => edge_counts (lowSideOff_within s v) _ _ he⟩

end Sys2Proof.Machine
end

section
/-! PROOFS. Trips of a channel and of a bank, and the findings of the tests (07_valve_drive, R180, R184–R186, R374). -/

namespace Sys2Proof.Machine

/-! ### A channel that trips (R180, R186) -/

/-- A channel that a higher level turns off: no profile and no current, with CLAMP at 48 V. -/
def VlvRt.forcedOff (c : VlvRt) (clk : Nat) : VlvRt :=
  let on := decide (0 < c.ref)
  let q := { vlvQuiet c with
    st := if c.st = .fault then .fault else .off
    returning := false, path := if on ∨ c.returning then 1 else c.path
    pathClamp := if on ∨ c.returning then 2 else c.pathClamp
    offAt := if on then some clk else c.offAt, offSince := clk }
  if c.returning || (on && c.decayMode == 2) then vlvFlag fDecayDemoted q else q

/-- A channel in FAULT after a trip, with the trips of the last 10 s. -/
def VlvRt.faulted (c : VlvRt) (clk : Nat) (trips : List Nat) (diag : Nat) : VlvRt :=
  let c := vlvDiag diag { c with st := .fault, tripAt := clk, trips := trips, offSeen := false }
  if trips.length ≥ 3 then vlvDiag dLatched c else c

/-- The channel is turned off, before its bank follows it. -/
def turnedOffHard (s : State) (v : Nat) : State := modVlv (dropRequest s v) v fun c => c.forcedOff s.clk

section
variable (s : State) (v : Nat)

theorem vlvForceOff_eq : vlvForceOff s v = bankRefresh (turnedOffHard s v) (vlvBank v) := by
  rw [vlvForceOff, turnedOffHard]
  rfl

theorem vlvTrip_eq (diag : Nat) : vlvTrip s v diag = modVlv (vlvForceOff s v) v fun c =>
    c.faulted (vlvForceOff s v).clk (recent (vlvForceOff s v) (secs 10) c.trips ++ [(vlvForceOff s v).clk]) diag := by
  rw [vlvTrip]
  rfl

theorem vlvForceOff_clk : (vlvForceOff s v).clk = s.clk :=
  vlvForceOff_within (bs := [.valve]) s v (.refl _ s) (by decide) .clk (by decide)

/-- What a channel that is turned off gives up, and its trips. -/
def VlvRt.drawView (c : VlvRt) : Option Nat × Nat × Nat × List Nat := (c.pc, c.ref, c.share, c.trips)

theorem drawView_forcedOff (c : VlvRt) (clk : Nat) : (c.forcedOff clk).drawView = (none, 0, 0, c.trips) := by
  unfold VlvRt.forcedOff
  dsimp only
  split <;> rfl

theorem vlvForceOff_records : let c := getVlv (vlvForceOff s v) v
    c.pc = none ∧ c.ref = 0 ∧ c.share = 0 ∧ c.conducting = false ∧ c.trips = (getVlv s v).trips := by
  have hself : (getVlv (turnedOffHard s v) v).drawView = (none, 0, 0, (getVlv s v).trips) := by
    rw [turnedOffHard, getVlv_modVlv, if_pos rfl, drawView_forcedOff, getVlv_dropRequest]
  have hkept := (seen_of_withoutCoil VlvRt.drawView (withoutCoil_bankRefresh (turnedOffHard s v) v (vlvBank v))).trans hself
  simp only [VlvRt.drawView, Prod.mk.injEq] at hself hkept
  obtain ⟨-, href, -, -⟩ := hself
  obtain ⟨hpc, hnone, hshare, htrips⟩ := hkept
  obtain ⟨hconducting, -⟩ := idle_bankRefresh (vlvWants_of_ref href)
  dsimp only
  rw [vlvForceOff_eq]
  exact ⟨hpc, hnone, hshare, hconducting, htrips⟩

end

theorem getFlag_vlvDiag {i : Nat} (hi : i < 16) (c : VlvRt) : Flag.get (vlvDiag i c).diag i = true :=
  Flag.get_set_self _ _ hi

theorem getFlag_vlvDiag_other {i j : Nat} (h : j ≠ i) (c : VlvRt) : Flag.get (vlvDiag i c).diag j = Flag.get c.diag j :=
  Flag.get_set_other _ _ h

/-- A channel in FAULT shows its trip, and the third within 10 s as latched; what it draws is as it was. -/
theorem faulted_records (c : VlvRt) (clk : Nat) (trips : List Nat) {diag : Nat} (hdiag : diag < 16) (hne : diag ≠ dLatched) :
    let d := c.faulted clk trips diag
    d.st = .fault ∧ d.tripAt = clk ∧ (d.pc, d.ref, d.share, d.conducting) = (c.pc, c.ref, c.share, c.conducting) ∧
      Flag.get d.diag diag = true ∧ (3 ≤ trips.length → Flag.get d.diag dLatched = true) := by
  dsimp only
  unfold VlvRt.faulted
  dsimp only
  split
  · exact ⟨rfl, rfl, rfl, (getFlag_vlvDiag_other hne _).trans (getFlag_vlvDiag hdiag _),
      fun _ => getFlag_vlvDiag (by decide) _⟩
  · next h => exact ⟨rfl, rfl, rfl, getFlag_vlvDiag hdiag _, fun hthird => absurd hthird h⟩

theorem recent_of_clk {s t : State} (h : t.clk = s.clk) (n : Nat) (l : List Nat) : recent t n l = recent s n l := by
  rw [recent, h, recent]

/-- A channel trips, and takes the committed set (R184, R186). -/
def tripTaken (s : State) (v diag : Nat) : State := vlvTakeSet (vlvTrip s v diag) v

theorem tripTaken_records (s : State) (v : Nat) {diag : Nat} (hdiag : diag < 16) (hne : diag ≠ dLatched) :
    let c := getVlv (tripTaken s v diag) v
    c.st = .fault ∧ c.pc = none ∧ c.ref = 0 ∧ c.share = 0 ∧ c.conducting = false ∧ c.tripAt = s.clk ∧
      Flag.get c.diag diag = true ∧
      (2 ≤ (recent s (secs 10) (getVlv s v).trips).length → Flag.get c.diag dLatched = true) := by
  obtain ⟨hpc, href, hshare, hconducting, htrips⟩ := vlvForceOff_records s v
  have hself : getVlv (vlvTrip s v diag) v = (getVlv (vlvForceOff s v) v).faulted s.clk
      (recent s (secs 10) (getVlv s v).trips ++ [s.clk]) diag := by
    rw [vlvTrip_eq, getVlv_modVlv, if_pos rfl, htrips, recent_of_clk (vlvForceOff_clk s v), vlvForceOff_clk]
  obtain ⟨hst, htrip, hdraws, hshown, hlatched⟩ := faulted_records (getVlv (vlvForceOff s v) v) s.clk
    (recent s (secs 10) (getVlv s v).trips ++ [s.clk]) hdiag hne
  rw [← hself, hpc, href, hshare, hconducting] at hdraws
  rw [← hself] at hst htrip hshown hlatched
  simp only [Prod.mk.injEq] at hdraws
  obtain ⟨hpc, href, hshare, hconducting⟩ := hdraws
  exact ⟨(seen_vlvTakeSet VlvRt.st ..).trans hst, (seen_vlvTakeSet VlvRt.pc ..).trans hpc,
    (seen_vlvTakeSet VlvRt.ref ..).trans href, (seen_vlvTakeSet VlvRt.share ..).trans hshare,
    (seen_vlvTakeSet VlvRt.conducting ..).trans hconducting, (seen_vlvTakeSet VlvRt.tripAt ..).trans htrip,
    (congrArg (Flag.get · diag) (seen_vlvTakeSet VlvRt.diag ..)).trans hshown,
    fun htwo => (congrArg (Flag.get · dLatched) (seen_vlvTakeSet VlvRt.diag ..)).trans (hlatched (by simpa using htwo))⟩

/-- What shows that a channel is in FAULT. -/
def VlvRt.faultView (c : VlvRt) : VlvState × Nat × Flags := (c.st, c.ref, c.diag)

theorem faultView_tripTaken_of_ne (s : State) {x v : Nat} (h : x ≠ v) (diag : Nat) :
    (getVlv (tripTaken s x diag) v).faultView = (getVlv s v).faultView := by
  rw [tripTaken, seen_vlvTakeSet VlvRt.faultView, vlvTrip_eq, getVlv_modVlv, if_neg (Ne.symm h), vlvForceOff_eq,
    seen_of_withoutCoil VlvRt.faultView (withoutCoil_bankRefresh (turnedOffHard s x) v (vlvBank x)), turnedOffHard,
    getVlv_modVlv, if_neg (Ne.symm h), getVlv_dropRequest]

/-! ### Safety-relevant channels (R372, R374) -/

theorem isRelevant_of_dict {s t : State} (h : t.dict = s.dict) (x : Nat) : isRelevant t x = isRelevant s x := by
  rw [isRelevant, Cfg.safeSafetyRelevant, cfgB, cfgI, cfgVal, h, isRelevant, Cfg.safeSafetyRelevant, cfgB, cfgI, cfgVal]

theorem isRelevant_tripTaken {v : Nat} (hv : v < 16) (s : State) (diag x : Nat) :
    isRelevant (tripTaken s v diag) x = isRelevant s x :=
  (isRelevant_vlvTakeSet hv _ x).trans
    (isRelevant_of_dict (vlvTrip_within (bs := [.valve]) s v diag (.refl _ s) (by decide) .dict (by decide)) x)

theorem reportTrip_of_irrelevant {s : State} {x : Nat} (h : isRelevant s x = false) : reportTrip s x = s := by
  simp [reportTrip, h]

theorem exec_channelTrip_conducting {s : State} {v : Nat} (hv : v < 16) (hon : (getVlv s v).conducting = true) :
    exec (.channelTrip v) s = .next (reportTrip (tripTaken s v dShortSupplyOn) (288 + v)) :=
  if_pos ⟨hv, hon⟩

/-! ### Trips of a bank -/

/-- The switch of a bank opens on its trip. -/
def bankTripped (s : State) (b : Nat) : State := modBank s b fun k => { k with trips := k.trips + 1, tripped := true }

/-- The channels of a bank trip with BANK_OC. -/
def channelsTripped (s : State) (b : Nat) : State := forAll (bankChans b) (fun s v => tripTaken s v dBankOc) s

theorem exec_bankTrip_of_lt {b : Nat} (hb : b < 4) (s : State) : exec (.bankTrip b) s = .next (
    forAll (bankChans b) (fun s v => reportTrip s (288 + v)) (channelsTripped (bankTripped s b) b)) :=
  if_pos hb

theorem lt_of_mem_bankChans {v b : Nat} (hb : b < 4) (h : v ∈ bankChans b) : v < 16 := by
  simp only [bankChans, List.mem_cons, List.not_mem_nil, or_false] at h
  omega

/-- A channel that trips leaves the trips of its bank, whose rail follows its switch. -/
theorem getBank_tripTaken {s : State} {v b : Nat} (hv : v ∈ bankChans b) (diag : Nat) : let k := getBank (tripTaken s v diag) b
    (k.trips, k.tripped) = ((getBank s b).trips, (getBank s b).tripped) ∧ ((getBank s b).tripped = true → k.rail = 2) := by
  have hbank : getBank (tripTaken s v diag) b = getBank (bankRefresh (turnedOffHard s v) b) b := by
    rw [tripTaken, getBank_of_banks (vlvTakeSet_banks ..), vlvTrip_eq, getBank_modVlv, vlvForceOff_eq, vlvBank_of_mem hv]
  have hoff : getBank (turnedOffHard s v) b = { getBank s b with queue := (getBank s b).queue.filter fun r => r.v ≠ v } := by
    rw [turnedOffHard, getBank_modVlv, dropRequest, vlvBank_of_mem hv, getBank_modBank, if_pos rfl]
  have hrail := withoutRail_bankRefresh (turnedOffHard s v) b b
  rw [hoff] at hrail
  dsimp only
  rw [hbank]
  refine ⟨(seen_of_withoutRail (fun k => (k.trips, k.tripped)) hrail).trans rfl, fun htripped => rail_bankRefresh_of_cut _ _ ?_⟩
  rw [hoff]
  simp [bankCut, htripped]

theorem getBank_channelsTripped {s : State} {b : Nat} (h : (getBank s b).tripped = true) :
    let k := getBank (channelsTripped s b) b
    k.trips = (getBank s b).trips ∧ k.tripped = true ∧ k.rail = 2 := by
  let before := forAll [4 * b, 4 * b + 1, 4 * b + 2] (fun s v => tripTaken s v dBankOc) s
  have hlast : channelsTripped s b = tripTaken before (4 * b + 3) dBankOc := rfl
  have hbefore : ((getBank before b).trips, (getBank before b).tripped) = ((getBank s b).trips, (getBank s b).tripped) := by
    refine forAll_preserves (P := fun t => ((getBank t b).trips, (getBank t b).tripped) =
      ((getBank s b).trips, (getBank s b).tripped)) (fun t x hx ht => ?_) rfl
    exact (getBank_tripTaken (List.mem_append_left [4 * b + 3] hx) dBankOc).1.trans ht
  obtain ⟨hkept, hrail⟩ := getBank_tripTaken (s := before) (v := 4 * b + 3) (b := b) (by simp [bankChans]) dBankOc
  rw [hbefore] at hkept
  simp only [Prod.mk.injEq] at hbefore hkept
  dsimp only
  rw [hlast]
  exact ⟨hkept.1, hkept.2.trans h, hrail (hbefore.2.trans h)⟩

theorem channelsTripped_records (s : State) {v b : Nat} (hv : v ∈ bankChans b) : let c := getVlv (channelsTripped s b) v
    c.st = .fault ∧ c.ref = 0 ∧ Flag.get c.diag dBankOc = true := by
  obtain ⟨r, -, hround⟩ := forAll_at (g := fun s => (getVlv s v).faultView)
    (fun s x h => faultView_tripTaken_of_ne s h dBankOc) (nodup_bankChans b) hv s
  obtain ⟨hst, -, href, -, -, -, hdiag, -⟩ := tripTaken_records r v (diag := dBankOc) (by decide) (by decide)
  simp only [VlvRt.faultView, Prod.mk.injEq] at hround
  obtain ⟨hst', href', hdiag'⟩ := hround
  exact ⟨hst'.trans hst, href'.trans href, (congrArg (Flag.get · dBankOc) hdiag').trans hdiag⟩

theorem isRelevant_channelsTripped {b : Nat} (hb : b < 4) (s : State) (x : Nat) :
    isRelevant (channelsTripped s b) x = isRelevant s x :=
  forAll_preserves (P := fun t => isRelevant t x = isRelevant s x)
    (fun t _ hv ht => (isRelevant_tripTaken (lt_of_mem_bankChans hb hv) t dBankOc x).trans ht) rfl

/-- A bank without safety-relevant channels reports no failure. -/
theorem reportTrips_of_irrelevant {s : State} {b : Nat} (h : ∀ v ∈ bankChans b, isRelevant s (288 + v) = false) :
    forAll (bankChans b) (fun s v => reportTrip s (288 + v)) s = s :=
  forAll_of_idle fun v hv => reportTrip_of_irrelevant (h v hv)

/-! ### The findings of the tests (R185, R186) -/

section
variable {s : State} {v : Nat}

/-- A channel whose SHORT_GND opens the switch. -/
def switchCut (s : State) (v : Nat) : State :=
  modBank s (vlvBank v) fun k => if k.cutBy.contains v then k else { k with cutBy := k.cutBy ++ [v] }

theorem vlvCutoff_eq (s : State) (v : Nat) :
    vlvCutoff s v = if vlvCutOn s v then bankRefresh (switchCut s v) (vlvBank v) else s := rfl

theorem withoutCoil_vlvCutoff (s : State) (v j : Nat) : (getVlv (vlvCutoff s v) j).withoutCoil = (getVlv s j).withoutCoil :=
  ite_leaves (g := fun s => (getVlv s j).withoutCoil) (withoutCoil_bankRefresh (switchCut s v) j (vlvBank v)) rfl

theorem testing_vlvCutoff (s : State) (v : Nat) :
    (getBank (vlvCutoff s v) (vlvBank v)).testing = (getBank s (vlvBank v)).testing := by
  refine ite_leaves (g := fun s => (getBank s (vlvBank v)).testing) ?_ rfl
  refine (seen_of_withoutRail Bank.testing (withoutRail_bankRefresh (switchCut s v) (vlvBank v) (vlvBank v))).trans ?_
  rw [switchCut, getBank_modBank, if_pos rfl]
  split <;> rfl

theorem mem_cutBy_switchCut (s : State) (v : Nat) : v ∈ (getBank (switchCut s v) (vlvBank v)).cutBy := by
  rw [switchCut, getBank_modBank, if_pos rfl]
  split
  · next h => simpa using h
  · simp

/-- A SHORT_GND with BANK_CUTOFF holds the switch open, and the channel conducts no more. -/
theorem vlvCutoff_records (h : vlvCutOn s v = true) :
    v ∈ (getBank (vlvCutoff s v) (vlvBank v)).cutBy ∧ (getVlv (vlvCutoff s v) v).conducting = false := by
  have hmem := mem_cutBy_switchCut s v
  have hcut : bankCut (getBank (switchCut s v) (vlvBank v)) = true := by
    simp [bankCut, List.ne_nil_of_mem hmem]
  rw [vlvCutoff_eq, if_pos h,
    seen_of_withoutRail Bank.cutBy (withoutRail_bankRefresh (switchCut s v) (vlvBank v) (vlvBank v))]
  exact ⟨hmem, (idle_bankRefresh (vlvWants_of_cut hcut)).1⟩

/-- The channel's own test is over; the tests of its bank go on. -/
def testDone (s : State) (v : Nat) : State :=
  modBank s (vlvBank v) fun k => { k with testing := k.testing.filter fun u => u ≠ v }

theorem testEnd_eq (s : State) (v : Nat) : testEnd s v = bankRefresh (testDone s v) (vlvBank v) := rfl

theorem testing_testEnd (s : State) (v : Nat) : (getBank (testEnd s v) (vlvBank v)).testing =
    (getBank s (vlvBank v)).testing.filter fun u => u ≠ v := by
  rw [testEnd_eq, seen_of_withoutRail Bank.testing (withoutRail_bankRefresh (testDone s v) (vlvBank v) (vlvBank v)), testDone,
    getBank_modBank, if_pos rfl]

theorem withoutCoil_testEnd (s : State) (v j : Nat) : (getVlv (testEnd s v) j).withoutCoil = (getVlv s j).withoutCoil :=
  withoutCoil_bankRefresh (testDone s v) j (vlvBank v)

/-- A finding sets its bit in DIAG. -/
def diagIf (found : Bool) (i : Nat) (c : VlvRt) : VlvRt := if found then vlvDiag i c else c

theorem diagIf_testedAt (found : Bool) (i : Nat) (c : VlvRt) : (diagIf found i c).testedAt = c.testedAt := by
  cases found <;> rfl

theorem getFlag_diagIf {found : Bool} (h : found = true) {i : Nat} (hi : i < 16) (c : VlvRt) :
    Flag.get (diagIf found i c).diag i = true := by
  rw [h]
  exact getFlag_vlvDiag hi c

theorem getFlag_diagIf_other (found : Bool) {i j : Nat} (h : j ≠ i) (c : VlvRt) :
    Flag.get (diagIf found i c).diag j = Flag.get c.diag j := by
  cases found
  · rfl
  · exact getFlag_vlvDiag_other h c

/-- A channel with the findings of an off-state test. -/
def VlvRt.offTested (c : VlvRt) (clk : Nat) (openOff shortGnd shortSupply : Bool) : VlvRt :=
  diagIf shortSupply dShortSupplyOff (diagIf shortGnd dShortGndOff (diagIf openOff dOpenOff { c with testedAt := clk }))

theorem offTested_records (c : VlvRt) (clk : Nat) (openOff shortGnd shortSupply : Bool) :
    let d := c.offTested clk openOff shortGnd shortSupply
    d.testedAt = clk ∧ (openOff = true → Flag.get d.diag dOpenOff = true) ∧
      (shortGnd = true → Flag.get d.diag dShortGndOff = true) := by
  refine ⟨by simp only [VlvRt.offTested, diagIf_testedAt], fun h => ?_, fun h => ?_⟩
  · exact (getFlag_diagIf_other _ (by decide) _).trans
      ((getFlag_diagIf_other _ (by decide) _).trans (getFlag_diagIf h (by decide) _))
  · exact (getFlag_diagIf_other _ (by decide) _).trans (getFlag_diagIf h (by decide) _)

/-- No channel of the bank conducts, so the step with the switch open counts. -/
def bankIdle (s : State) (v : Nat) : Bool := !((bankChans (vlvBank v)).any fun u => (getVlv s u).conducting)

/-- The findings of an off-state test on the channel. -/
def offFound (s : State) (v : Nat) (openOff shortGnd shortSupply : Bool) : State :=
  modVlv s v fun c => c.offTested s.clk openOff shortGnd (shortSupply && bankIdle s v)

/-- An off-state test that has its findings: a SHORT_GND may open the switch, and the channel's test is over. -/
def offConcluded (s : State) (v : Nat) (shortGnd : Bool) : State := testEnd (if shortGnd then vlvCutoff s v else s) v

theorem offConcluded_records (s : State) (v : Nat) (shortGnd : Bool) : let t := offConcluded s v shortGnd
    (getVlv t v).withoutCoil = (getVlv s v).withoutCoil ∧
      (getBank t (vlvBank v)).testing = (getBank s (vlvBank v)).testing.filter fun u => u ≠ v := by
  refine ⟨(withoutCoil_testEnd _ v v).trans ?_, (testing_testEnd _ v).trans (congrArg (List.filter _) ?_)⟩
  · exact ite_leaves (g := fun s => (getVlv s v).withoutCoil) (withoutCoil_vlvCutoff s v v) rfl
  · exact ite_leaves (g := fun s => (getBank s (vlvBank v)).testing) (testing_vlvCutoff s v) rfl

theorem exec_offStateTest_asked (hv : v < 16) (hasked : (getBank s (vlvBank v)).testing.contains v = true)
    (openOff shortGnd shortSupply : Bool) : exec (.offStateTest v openOff shortGnd shortSupply) s = .next
      (offConcluded (offFound s v openOff shortGnd shortSupply) v shortGnd) :=
  if_pos ⟨hv, Or.inl hasked⟩

theorem exec_onStateDiag_openOn (hv : v < 16) (hon : (getVlv s v).conducting = true) :
    exec (.onStateDiag v .openOn true) s = .next (modVlv s v (vlvDiag dOpenOn)) :=
  if_pos ⟨hv, hon, rfl⟩

theorem exec_onStateDiag_shortGnd (hv : v < 16) (hon : (getVlv s v).conducting = true) :
    exec (.onStateDiag v .shortGnd true) s = .next (vlvCutoff (modVlv s v (vlvDiag dShortGndOn)) v) :=
  if_pos ⟨hv, hon, rfl⟩

theorem vlvCutOn_modDiag (i : Nat) : vlvCutOn (modVlv s v (vlvDiag i)) v = vlvCutOn s v := by
  rw [vlvCutOn, getVlv_modVlv, if_pos rfl, vlvCutOn]
  rfl

end

/-- Settles O26: a trip by what it leaves of the channel and of its bank, a finding by the bit that it sets. -/
theorem valveTripsAndDiagnostics : Obligations.ValveTripsAndDiagnostics := by
  unfold Obligations.ValveTripsAndDiagnostics
  refine ⟨fun s v hv hon hrel => ?channel, fun s b hb hrel => ?bank, fun s v openOff shortGnd shortSupply hv hasked => ?off,
    fun s v k hv hon => ?on⟩
  case channel =>
    refine ⟨_, exec_channelTrip_conducting hv hon, ?_⟩
    rw [reportTrip_of_irrelevant ((isRelevant_tripTaken hv s _ _).trans hrel)]
    exact tripTaken_records s v (by decide) (by decide)
  case bank =>
    have hself : getBank (bankTripped s b) b = { getBank s b with trips := (getBank s b).trips + 1, tripped := true } := by
      rw [bankTripped, getBank_modBank, if_pos rfl]
    obtain ⟨htrips, htripped, hrail⟩ := getBank_channelsTripped (s := bankTripped s b) (b := b) (by rw [hself])
    rw [hself] at htrips
    refine ⟨_, exec_bankTrip_of_lt hb s, ?_⟩
    rw [reportTrips_of_irrelevant fun v hv => (isRelevant_channelsTripped hb (bankTripped s b) _).trans (hrel v hv)]
    exact ⟨htrips, htripped, hrail, fun v hv => channelsTripped_records _ hv⟩
  case off =>
    obtain ⟨hkept, htesting⟩ := offConcluded_records (offFound s v openOff shortGnd shortSupply) v shortGnd
    rw [offFound, getVlv_modVlv, if_pos rfl, ← offFound] at hkept
    obtain ⟨htested, hopen, hshort⟩ := offTested_records (getVlv s v) s.clk openOff shortGnd (shortSupply && bankIdle s v)
    refine ⟨_, exec_offStateTest_asked hv hasked openOff shortGnd shortSupply, ?_⟩
    rw [seen_of_withoutCoil VlvRt.testedAt hkept, seen_of_withoutCoil VlvRt.diag hkept]
    exact ⟨htested, hopen, hshort, htesting⟩
  case on =>
    cases k with
    | openOn =>
      refine ⟨_, exec_onStateDiag_openOn hv hon, ?_, fun h => nomatch h⟩
      rw [getVlv_modVlv, if_pos rfl]
      exact getFlag_vlvDiag (by decide) _
    | shortGnd =>
      refine ⟨_, exec_onStateDiag_shortGnd hv hon, ?_, fun _ hcut => vlvCutoff_records ((vlvCutOn_modDiag _).trans hcut)⟩
      rw [seen_of_withoutCoil VlvRt.diag (withoutCoil_vlvCutoff ..), getVlv_modVlv, if_pos rfl]
      exact getFlag_vlvDiag (by decide) _

end Sys2Proof.Machine
end

section
/-! PROOFS. How an IO channel takes its command (08_field_io, R191, R196–R200, R202): what that changes of the channel, and
what it leaves of its group, of the barrier link and of the field watchdog. -/

namespace Sys2Proof.Machine

/-! ### Channels, groups and the link -/

theorem getIo_of_io {s t : State} (h : t.io = s.io) (i : Nat) : getIo t i = getIo s i := by rw [getIo, h, getIo]

theorem getGroup_of_io {s t : State} (h : t.io = s.io) (g : Nat) : getGroup t g = getGroup s g := by
  rw [getGroup, h, getGroup]

theorem othersKept_modIo {s : State} {i : Nat} {f : IoRt → IoRt} : OthersKept getIo s (modIo s i f) i :=
  fun j hj => by rw [getIo_modIo, if_neg hj]

theorem isSafe_of_parts {s t : State} (hsafety : t.safety = s.safety) (hdict : t.dict = s.dict) (h : Nat) :
    isSafe t h = isSafe s h := by
  rw [isSafe, getSafe, hsafety, hdict, isSafe, getSafe]

/-- Field I/O but for the channels and the groups: the barrier link and the field watchdog. -/
def linkView (s : State) : FieldIo := { s.io with ch := [], groups := [] }

theorem linkView_of_io {s t : State} (h : t.io = s.io) : linkView t = linkView s := by rw [linkView, h, linkView]

@[simp] theorem linkView_modIo (s : State) (i : Nat) (f : IoRt → IoRt) : linkView (modIo s i f) = linkView s := rfl

/-- What is seen of the barrier link and the field watchdog. -/
theorem seen_of_linkView {β : Type} (view : FieldIo → β) {s t : State} (h : linkView t = linkView s)
    (hview : ∀ l : FieldIo, view { l with ch := [], groups := [] } = view l := by intro; rfl) : view t.io = view s.io := by
  rw [← hview t.io, ← hview s.io]
  exact congrArg view h

/-- A group but for the clock since which its total has been low (R198). -/
def groupView (g : Nat) (s : State) : IoGroup := { getGroup s g with lowSince := none }

/-- What is seen of a group apart from that clock. -/
theorem seen_of_groupView {β : Type} (view : IoGroup → β) {g : Nat} {s t : State} (h : groupView g t = groupView g s)
    (hview : ∀ r : IoGroup, view { r with lowSince := none } = view r := by intro; rfl) :
    view (getGroup t g) = view (getGroup s g) := by
  rw [← hview (getGroup t g), ← hview (getGroup s g)]
  exact congrArg view h

theorem groupView_groupFollow (g : Nat) (s : State) (k : Nat) : groupView g (groupFollow s k) = groupView g s := by
  rw [groupView, groupFollow, getGroup_modGroup]
  split
  · next h => rw [h]; rfl
  · rfl

@[simp] theorem getIo_groupFollow (s : State) (g i : Nat) : getIo (groupFollow s g) i = getIo s i := rfl

/-- Setting two bits leaves every other bit. -/
theorem getFlag_set_set (f : Flags) {i j b : Nat} (u v : Bool) (hb : b ∉ [i, j]) :
    Flag.get (Flag.set (Flag.set f i u) j v) b = Flag.get f b := by
  simp only [List.mem_cons, List.not_mem_nil, or_false, not_or] at hb
  exact (Flag.get_set_other _ _ hb.2).trans (Flag.get_set_other _ _ hb.1)

/-! ### The pin (R196) -/

/-- The applied limit of a channel as Q16 A. -/
def appliedLimit (s : State) (i : Nat) : Int := roundDiv (ioLimit s i * 65536) 10

/-- A thermal step lowers the limit of an output. -/
def stepLowers (s : State) (i : Nat) : Bool :=
  isOutMode (getIo s i).mode && decide (ioLimit s i < Cfg.ioCurrentLimit s i)

/-- The current of a channel whose pin takes the value `v` under a limit. -/
def IoRt.limited (c : IoRt) (v limit : Int) : Int := if 0 < v then min c.outCurrent limit else 0

/-- A channel whose pin has taken the value `v`. -/
def IoRt.pinned (c : IoRt) (v : Int) (hiZ : Bool) (limit : Int) (stepped : Bool) : IoRt := { c with
  applied := v, on := decide (0 < v), hiZ := hiZ, outCurrent := c.limited v limit
  status := Flag.set (Flag.set c.status ioInLimit (decide (0 < v) && decide (limit ≤ c.limited v limit))) ioStepped stepped }

theorem ioPin_eq (s : State) (i : Nat) (v : Int) (hiZ : Bool) : ioPin s i v hiZ =
    groupFollow (modIo s i fun c => c.pinned v hiZ (appliedLimit s i) (stepLowers s i)) (ioGroupOf i) := rfl

theorem getIo_ioPin (s : State) (i : Nat) (v : Int) (hiZ : Bool) :
    getIo (ioPin s i v hiZ) i = (getIo s i).pinned v hiZ (appliedLimit s i) (stepLowers s i) := by
  rw [ioPin_eq, getIo_groupFollow, getIo_modIo, if_pos rfl]

theorem othersKept_ioPin {s : State} {i : Nat} {v : Int} {hiZ : Bool} : OthersKept getIo s (ioPin s i v hiZ) i :=
  fun j hj => (getIo_groupFollow ..).trans (othersKept_modIo j hj)

theorem linkView_ioPin (s : State) (i : Nat) (v : Int) (hiZ : Bool) : linkView (ioPin s i v hiZ) = linkView s := rfl

theorem groupView_ioPin (g : Nat) (s : State) (i : Nat) (v : Int) (hiZ : Bool) :
    groupView g (ioPin s i v hiZ) = groupView g s := (groupView_groupFollow ..).trans rfl

theorem getFlag_pinned (c : IoRt) (v : Int) (hiZ : Bool) (limit : Int) (stepped : Bool) {b : Nat}
    (hb : b ∉ [ioInLimit, ioStepped]) :
    Flag.get (c.pinned v hiZ limit stepped).status b = Flag.get c.status b := getFlag_set_set _ _ _ hb

/-! ### The command (R15, R197, R198, R200) -/

/-- OVERLOAD_LATCHED and SHED_LATCHED have ended. -/
def unlatched (f : Flags) : Flags := Flag.set (Flag.set f ioOverloadLatched false) ioShedLatched false

theorem getFlag_unlatched (f : Flags) {b : Nat} (hb : b ∉ [ioOverloadLatched, ioShedLatched]) :
    Flag.get (unlatched f) b = Flag.get f b := getFlag_set_set f false false hb

/-- A command changes of a channel what has crossed, whether it was off, and the latches if it was. -/
structure Commanded (c d : IoRt) : Prop where
  same : { d with sent := c.sent, lastCmdOff := c.lastCmdOff, status := c.status } = c
  latches : d.status = c.status ∨ c.lastCmdOff = true ∧ d.status = unlatched c.status

theorem Commanded.refl (c : IoRt) : Commanded c c := ⟨rfl, .inl rfl⟩

/-- A command that crosses changes nothing else. -/
theorem Commanded.cross {c d : IoRt} (h : Commanded c d) (v : Int) : Commanded c { d with sent := v } := ⟨h.same, h.latches⟩

/-- A channel whose command has been noted as on or off. -/
def IoRt.noted (c : IoRt) (on : Bool) : IoRt :=
  if on ∧ c.lastCmdOff then { c with lastCmdOff := false, status := unlatched c.status }
  else if on then c else { c with lastCmdOff := true }

theorem commanded_noted (c : IoRt) (on : Bool) : Commanded c (c.noted on) := by
  unfold IoRt.noted
  split
  · next h => exact ⟨rfl, .inr ⟨h.2, rfl⟩⟩
  · split
    · exact .refl c
    · exact ⟨rfl, .inl rfl⟩

theorem ioNoteCommand_eq (s : State) (i : Nat) (entry : List Byte) :
    ioNoteCommand s i entry = modIo s i fun c => c.noted (decide (0 < ioOwnerCmd s i entry)) := rfl

/-- `t` is `s` once channel `i` has its command, before its pin takes it. -/
structure IoCommanded (s t : State) (i : Nat) : Prop where
  within : Within [.io, .mem] s t
  link : linkView t = linkView s
  groups : t.io.groups = s.io.groups
  others : OthersKept getIo s t i
  self : Commanded (getIo s i) (getIo t i)

section
variable {s t : State} {i : Nat}

theorem ioCommanded_fetched (s : State) (eng e i : Nat) : IoCommanded s (heddleFetch s eng e).2 i := by
  obtain ⟨m, hm⟩ := heddleFetch_withMem s eng e
  have hio : (heddleFetch s eng e).2.io = s.io := by rw [hm]; rfl
  exact ⟨heddleFetch_within s eng e (.refl _ s) (by decide), linkView_of_io hio, by rw [hio], fun j _ => getIo_of_io hio j,
    by rw [getIo_of_io hio]; exact .refl _⟩

theorem IoCommanded.refl (s : State) (i : Nat) : IoCommanded s s i := ⟨.refl _ s, rfl, rfl, fun _ _ => rfl, .refl _⟩

theorem IoCommanded.modIo (h : IoCommanded s t i) {f : IoRt → IoRt} (hf : Commanded (getIo s i) (f (getIo t i))) :
    IoCommanded s (modIo t i f) i where
  within := modIo_within _ _ _ h.within (by decide)
  link := h.link
  groups := h.groups
  others := h.others.trans othersKept_modIo
  self := by rwa [getIo_modIo, if_pos rfl]

/-- The channel's heddle entry has been fetched, and its command noted as on or off. -/
theorem ioCommanded_noted (s : State) (i : Nat) :
    let p := heddleFetch s engBarrier (256 + i)
    IoCommanded s (ioNoteCommand p.2 i p.1) i := by
  obtain ⟨m, hm⟩ := heddleFetch_withMem s engBarrier (256 + i)
  dsimp only
  rw [ioNoteCommand_eq]
  refine (ioCommanded_fetched s engBarrier (256 + i) i).modIo ?_
  rw [hm]
  exact commanded_noted (getIo s i) _

/-- Whatever holds a channel, applying it gives its pin a value: off, or the command in force on the channel that has its
command. -/
theorem ioApply_pins (s : State) (i : Nat) : ∃ t v hiZ, ioApply s i = ioPin t i v hiZ ∧ IoCommanded s t i ∧
    (v = 0 ∨ v = ioInForce t i) := by
  unfold ioApply
  dsimp only
  split
  · exact ⟨s, 0, true, rfl, .refl s i, .inl rfl⟩
  · split
    · exact ⟨_, 0, false, rfl, (IoCommanded.refl s i).modIo ((Commanded.refl _).cross 0), .inl rfl⟩
    · refine ⟨_, _, false, rfl, ?_, .inr rfl⟩
      have hnoted := ioCommanded_noted s i
      split
      · exact hnoted.modIo (hnoted.self.cross _)
      · exact hnoted

end

/-! ### Applying a channel (R19, R196, R202) -/

/-- A channel but for its command and its pin. -/
def IoRt.withoutDrive (c : IoRt) : IoRt := { c with
  sent := 0, lastCmdOff := false, status := 0, applied := 0, on := false, hiZ := false, outCurrent := 0 }

theorem Commanded.withoutDrive {c d : IoRt} (h : Commanded c d) : d.withoutDrive = c.withoutDrive :=
  (congrArg IoRt.withoutDrive h.same :)

theorem othersKept_ioApply {s : State} {i : Nat} : OthersKept getIo s (ioApply s i) i := by
  obtain ⟨t, v, hiZ, heq, hgiven, -⟩ := ioApply_pins s i
  rw [heq]
  exact hgiven.others.trans othersKept_ioPin

@[simp] theorem linkView_ioApply (s : State) (i : Nat) : linkView (ioApply s i) = linkView s := by
  obtain ⟨t, v, hiZ, heq, hgiven, -⟩ := ioApply_pins s i
  rw [heq, linkView_ioPin, hgiven.link]

@[simp] theorem groupView_ioApply (g : Nat) (s : State) (i : Nat) : groupView g (ioApply s i) = groupView g s := by
  obtain ⟨t, v, hiZ, heq, hgiven, -⟩ := ioApply_pins s i
  rw [heq, groupView_ioPin, groupView, getGroup, hgiven.groups, groupView, getGroup]

theorem withoutDrive_ioApply (s : State) (i : Nat) :
    (getIo (ioApply s i) i).withoutDrive = (getIo s i).withoutDrive := by
  obtain ⟨t, v, hiZ, heq, hgiven, -⟩ := ioApply_pins s i
  rw [heq, getIo_ioPin, ← hgiven.self.withoutDrive]
  rfl

/-- The bits of IO_STATUS that a command and a pin change (R196–R198). -/
def drivenBits : List Nat := [ioInLimit, ioStepped, ioOverloadLatched, ioShedLatched]

/-- The other bits stay as they are. -/
theorem getFlag_ioApply (s : State) (i : Nat) {b : Nat} (hb : b ∉ drivenBits) :
    Flag.get (getIo (ioApply s i) i).status b = Flag.get (getIo s i).status b := by
  obtain ⟨t, v, hiZ, heq, hgiven, -⟩ := ioApply_pins s i
  rw [heq, getIo_ioPin, getFlag_pinned _ _ _ _ _ fun h => hb (List.mem_append_left [ioOverloadLatched, ioShedLatched] h)]
  obtain hsame | ⟨-, hended⟩ := hgiven.self.latches
  · rw [hsame]
  · rw [hended]
    exact getFlag_unlatched _ fun h => hb (List.mem_append_right [ioInLimit, ioStepped] h)

/-- The latches too stay where the command was not off. -/
theorem getFlag_ioApply_of_commanded {s : State} {i : Nat} (h : (getIo s i).lastCmdOff = false) {b : Nat}
    (hb : b ∉ [ioInLimit, ioStepped]) :
    Flag.get (getIo (ioApply s i) i).status b = Flag.get (getIo s i).status b := by
  obtain ⟨t, v, hiZ, heq, hgiven, -⟩ := ioApply_pins s i
  rw [heq, getIo_ioPin, getFlag_pinned _ _ _ _ _ hb]
  obtain hsame | ⟨hoff, -⟩ := hgiven.self.latches
  · rw [hsame]
  · exact absurd (h.symm.trans hoff) Bool.false_ne_true

/-- An output is off while the field watchdog is not ARMED (R202). -/
theorem ioInForce_of_unarmed {s : State} (h : s.io.fwd ≠ 1) (i : Nat) : ioInForce s i = 0 := if_pos h

/-- An output is off below a safe state while its stage is in thermal shutdown (R19, R197). -/
theorem ioInForce_of_shutdown {s : State} {i : Nat} (hoff : Flag.get (getIo s i).status ioThermalOff = true)
    (hsafe : isSafe s (256 + i) = false) : ioInForce s i = 0 := by
  have hstage : ioStageOff (getIo s i) = true := by simp [ioStageOff, hoff]
  simp [ioInForce, hstage, hsafe]

/-- A channel whose command in force is off, whatever command it has been given, is off once it is applied. -/
theorem ioApply_off {s : State} {i : Nat} (h : ∀ t, IoCommanded s t i → ioInForce t i = 0) :
    (getIo (ioApply s i) i).on = false ∧ (getIo (ioApply s i) i).applied = 0 := by
  obtain ⟨t, v, hiZ, heq, hgiven, hv⟩ := ioApply_pins s i
  have hzero : v = 0 := hv.elim id fun h' => h'.trans (h t hgiven)
  rw [heq, getIo_ioPin, hzero]
  exact ⟨rfl, rfl⟩

theorem ioApply_off_of_unarmed {s : State} (h : s.io.fwd ≠ 1) (i : Nat) :
    (getIo (ioApply s i) i).on = false ∧ (getIo (ioApply s i) i).applied = 0 :=
  ioApply_off fun t ht => ioInForce_of_unarmed (by rwa [seen_of_linkView FieldIo.fwd ht.link]) i

theorem ioApply_off_of_shutdown {s : State} {i : Nat} (hoff : Flag.get (getIo s i).status ioThermalOff = true)
    (hsafe : isSafe s (256 + i) = false) :
    (getIo (ioApply s i) i).on = false ∧ (getIo (ioApply s i) i).applied = 0 := by
  refine ioApply_off fun t ht => ioInForce_of_shutdown ?_ ?_
  · obtain hsame | ⟨-, hended⟩ := ht.self.latches
    · rwa [hsame]
    · rwa [hended, getFlag_unlatched _ (by decide)]
  · rwa [isSafe_of_parts (ht.within .safety (by decide)) (ht.within .dict (by decide))]

/-- A pin that is not in an output mode is high impedance (R191). -/
theorem ioApply_of_input {s : State} {i : Nat} (h : isOutMode (getIo s i).mode = false) : ioApply s i = ioPin s i 0 true :=
  if_pos (by simp [h])

end Sys2Proof.Machine
end

section
/-! PROOFS. Inputs: their classes, their filter and their edges, and what of them crosses the barrier link (08_field_io,
R192–R194, R201). -/

namespace Sys2Proof.Machine

/-! ### What the L-die learns of an input (R15, R74, R193) -/

/-- A channel that the L-die has read as `n` since `clk`, where it read `c`. -/
def IoRt.readOn (c n : IoRt) (clk : Nat) : IoRt :=
  if ioInState c ≠ 0 ∧ ioInState n = 0 then { n with presentAt := some clk } else n

theorem ioReads_eq (s : State) (i : Nat) (f : IoRt → IoRt) :
    ioReads s i f = modIo s i fun c => c.readOn (f c) s.clk := rfl

/-- What is seen of a reading apart from the instant at which it ceased to be CLOSED or BREAK. -/
theorem seen_readOn {β : Type} (view : IoRt → β) (c n : IoRt) (clk : Nat)
    (hview : ∀ n t, view { n with presentAt := t } = view n := by intros; rfl) : view (c.readOn n clk) = view n := by
  unfold IoRt.readOn
  split
  · exact hview n _
  · rfl

/-- What the L-die has of an input: state, stamp, edges, frequency and current. -/
def IoRt.logicSide (c : IoRt) : Nat × Nat × Nat × Int × Nat := (c.inState, c.edgeStamp, c.edges, c.tachFreq, c.inCurrent)

/-- What the F-die has of an input, as it crosses. -/
def FarInput.crossing (f : FarInput) : Nat × Nat × Nat × Int × Nat := (f.state, f.stamp, f.edges, f.freq, f.current)

/-- A channel but for what the L-die has of it as an input. -/
def IoRt.fieldSide (c : IoRt) : IoRt := { c with
  inState := 0, edgeStamp := 0, edgeClk := 0, edges := 0, tachFreq := 0, inCurrent := 0, lastEdge := 0, presentAt := none
  edgeAt := 0, changed := false, breakSince := none, okSince := 0 }

/-- What is seen of a channel apart from what the L-die has of it as an input. -/
theorem seen_of_fieldSide {β : Type} (view : IoRt → β) {c d : IoRt} (h : c.fieldSide = d.fieldSide)
    (hview : ∀ c, view c.fieldSide = view c := by intro; rfl) : view c = view d := by
  rw [← hview c, h, hview d]

/-- What the L-die has of an input once it has crossed. -/
def IoRt.crossed (c : IoRt) : IoRt := { c with
  inState := c.far.state, edgeStamp := c.far.stamp, edgeClk := c.far.clk, edges := c.far.edges, tachFreq := c.far.freq
  inCurrent := c.far.current, lastEdge := c.tachTimes.getLast?.getD c.lastEdge }

/-- A new state of an input is noted with its clock. -/
def IoRt.changedTo (r : IoRt) (old new clk : Nat) : IoRt := { r with
  edgeAt := clk, changed := true
  breakSince := if new = 2 then some clk else none
  okSince := if old = 2 then clk else r.okSince }

/-- A channel but for the clocks that the L-die keeps of the changes of its state. -/
def IoRt.undated (c : IoRt) : IoRt := { c with
  presentAt := none, edgeAt := 0, changed := false, breakSince := none, okSince := 0 }

@[simp] theorem resultDue_io (s : State) (code endClk : Nat) : (resultDue s code endClk).io = s.io :=
  resultDue_within (bs := [.engine]) s code endClk (.refl _ s) (by decide) .io (by decide)

theorem undated_changedTo (r : IoRt) (old new clk : Nat) : (r.changedTo old new clk).undated = r.undated := rfl

/-- The L-die reads what the F-die has of input `i`. -/
def inputRead (s : State) (i : Nat) : State :=
  let f := (getIo s i).far
  ioReads s i fun c => { c with
    inState := f.state, edgeStamp := f.stamp, edgeClk := f.clk, edges := f.edges, tachFreq := f.freq
    inCurrent := f.current, lastEdge := c.tachTimes.getLast?.getD c.lastEdge }

theorem getIo_inputRead (s : State) (i : Nat) :
    getIo (inputRead s i) i = (getIo s i).readOn (getIo s i).crossed s.clk := by
  rw [inputRead, ioReads_eq, getIo_modIo, if_pos rfl]
  rfl

theorem othersKept_inputRead {s : State} {i : Nat} : OthersKept getIo s (inputRead s i) i := othersKept_modIo

/-- The new state of input `i` is noted. -/
def inputChanged (s : State) (i : Nat) : State :=
  modIo (inputRead s i) i fun r => r.changedTo (getIo s i).inState (getIo s i).far.state s.clk

theorem linkView_inputRead (s : State) (i : Nat) : linkView (inputRead s i) = linkView s := by
  rw [inputRead, ioReads_eq, linkView_modIo]

theorem ioCross_down {s : State} (h : s.io.linkUp = false) (i : Nat) : ioCross s i = s := by simp [ioCross, h]

/-- What crosses: a state that has changed is a result for the loops on the input. -/
theorem ioCross_up {s : State} (h : s.io.linkUp = true) (i : Nat) : ioCross s i =
    if (getIo s i).far.state = (getIo s i).inState then inputRead s i
    else resultDue (inputChanged s i) (256 + i) (getIo s i).far.clk := by
  simp only [ioCross, h]
  rfl

theorem ioCross_io {s : State} (h : s.io.linkUp = true) (i : Nat) :
    (ioCross s i).io = (inputRead s i).io ∨ (ioCross s i).io = (inputChanged s i).io := by
  rw [ioCross_up h]
  split
  · exact .inl rfl
  · exact .inr (resultDue_io ..)

theorem undated_ioCross {s : State} (h : s.io.linkUp = true) (i : Nat) :
    (getIo (ioCross s i) i).undated = (getIo s i).crossed.undated := by
  have hread : (getIo (inputRead s i) i).undated = (getIo s i).crossed.undated := by
    rw [getIo_inputRead, seen_readOn IoRt.undated]
  obtain hio | hio := ioCross_io h i
  · rwa [getIo_of_io hio]
  · rw [getIo_of_io hio, inputChanged, getIo_modIo, if_pos rfl, undated_changedTo, hread]

section
variable (s : State) (i : Nat)

theorem othersKept_ioCross : OthersKept getIo s (ioCross s i) i := by
  by_cases h : s.io.linkUp = true
  · obtain hio | hio := ioCross_io h i
    · exact fun j hj => (getIo_of_io hio j).trans (othersKept_inputRead j hj)
    · exact fun j hj => (getIo_of_io hio j).trans ((othersKept_inputRead.trans othersKept_modIo) j hj)
  · rw [ioCross_down (by simpa using h)]
    exact fun _ _ => rfl

@[simp] theorem linkView_ioCross : linkView (ioCross s i) = linkView s := by
  by_cases h : s.io.linkUp = true
  · obtain hio | hio := ioCross_io h i
    · rw [linkView_of_io hio, linkView_inputRead]
    · rw [linkView_of_io hio, inputChanged, linkView_modIo, linkView_inputRead]
  · rw [ioCross_down (by simpa using h)]

/-- Crossing leaves what the F-die has of the input. -/
theorem fieldSide_ioCross : (getIo (ioCross s i) i).fieldSide = (getIo s i).fieldSide := by
  by_cases h : s.io.linkUp = true
  · exact (congrArg IoRt.fieldSide (undated_ioCross h i) :)
  · rw [ioCross_down (by simpa using h)]

/-- An input crosses as the F-die has it, while the link is up. -/
theorem logicSide_ioCross : (getIo (ioCross s i) i).logicSide =
    if s.io.linkUp = true then (getIo s i).far.crossing else (getIo s i).logicSide := by
  split
  · next h => exact (congrArg IoRt.logicSide (undated_ioCross h i) :)
  · next h => rw [ioCross_down (by simpa using h)]

end

/-- What is changed of an input on the F-die crosses while the link is up. -/
theorem ioCross_modIo (s : State) (i : Nat) (f : IoRt → IoRt) : let t := ioCross (modIo s i f) i
    (getIo t i).fieldSide = (f (getIo s i)).fieldSide ∧
      (s.io.linkUp = true → (getIo t i).logicSide = (f (getIo s i)).far.crossing) ∧
      (s.io.linkUp = false → (getIo t i).logicSide = (f (getIo s i)).logicSide) ∧ OthersKept getIo s t i := by
  have hself : getIo (modIo s i f) i = f (getIo s i) := by rw [getIo_modIo, if_pos rfl]
  have hlogic := logicSide_ioCross (modIo s i f) i
  have hfield := fieldSide_ioCross (modIo s i f) i
  rw [hself] at hlogic hfield
  refine ⟨hfield, fun hup => hlogic.trans (if_pos hup), fun hdown => hlogic.trans (if_neg ?_),
    othersKept_modIo.trans (othersKept_ioCross _ i)⟩
  simp [hdown]

/-! ### Classes (R192, R194) -/

section
variable {s : State} {i : Nat}

theorem inRise_bounds (s : State) (i : Nat) : 7000 ≤ inRise s i ∧ inRise s i ≤ 11000 := by
  simp only [inRise]
  split <;> omega

theorem inHyst_le (s : State) (i : Nat) : inHyst s i ≤ 1500 := Nat.min_le_right ..

/-- Whatever the comparator read before, above 11 V it reads on. -/
theorem inLevel_of_high (level : Bool) {mv : Int} (h : 11000 < mv) : inLevel s i level mv = true := by
  have hrise := inRise_bounds s i
  cases level <;> simp only [inLevel, if_true, Bool.false_eq_true, if_false, decide_eq_true_eq] <;> omega

/-- Whatever the comparator read before, below 5.5 V it reads off. -/
theorem inLevel_of_low (level : Bool) {mv : Int} (h : mv < 5500) : inLevel s i level mv = false := by
  have hrise := inRise_bounds s i
  have hhyst := inHyst_le s i
  cases level <;> simp only [inLevel, if_true, Bool.false_eq_true, if_false, decide_eq_false_iff_not] <;> omega

theorem inClass_closed (s : State) (i ua : Nat) : inClass s i true ua = 1 := rfl

theorem inClass_of_unwatched (h : Cfg.ioWbEn s i = false) (ua : Nat) : inClass s i false ua = 0 := by simp [inClass, h]

theorem inClass_of_break (h : Cfg.ioWbEn s i = true) {ua : Nat} (hua : ua < 100) : inClass s i false ua = 2 := by
  have hlow : ¬ 200 ≤ ua := by omega
  simp [inClass, h, hua, hlow]

theorem inClass_of_open (h : Cfg.ioWbEn s i = true) {ua : Nat} (hmin : 200 ≤ ua) (hmax : ua ≤ 1000) :
    inClass s i false ua = 0 := by
  simp [inClass, h, hmin, hmax]

/-! ### Samples (R193) -/

/-- An input sampled with its comparator at `level`, its class `cl` and its current. -/
def IoRt.sampled (c : IoRt) (level : Bool) (cl ua clk warp : Nat) : IoRt :=
  let d := { c with level := level, raw := cl, far := { c.far with current := ua } }
  if cl = c.far.state then { d with differSince := none }
  else if c.differSince.isNone ∨ decide (c.raw ≠ cl) then { d with differSince := some clk, differWarp := warp }
  else d

theorem sampled_records (c : IoRt) (level : Bool) (cl ua clk warp : Nat) :
    let d := c.sampled level cl ua clk warp
    d.raw = cl ∧ d.far.state = c.far.state ∧ d.far.current = ua ∧ d.inState = c.inState ∧ d.inCurrent = c.inCurrent := by
  unfold IoRt.sampled
  dsimp only
  split
  · exact ⟨rfl, rfl, rfl, rfl, rfl⟩
  · split <;> exact ⟨rfl, rfl, rfl, rfl, rfl⟩

theorem sampled_of_same {c : IoRt} {cl : Nat} (h : cl = c.far.state) (level : Bool) (ua clk warp : Nat) :
    (c.sampled level cl ua clk warp).differSince = none := by
  simp [IoRt.sampled, h]

theorem sampled_of_first {c : IoRt} {cl : Nat} (h : cl ≠ c.far.state) (hnew : c.differSince = none) (level : Bool)
    (ua clk warp : Nat) : (c.sampled level cl ua clk warp).differSince = some clk ∧
      (c.sampled level cl ua clk warp).differWarp = warp := by
  simp [IoRt.sampled, h, hnew]

/-- The class of a sample of input `i`. -/
def sampleClass (s : State) (i : Nat) (mv : Int) (ua : Nat) : Nat := inClass s i (inLevel s i (getIo s i).level mv) ua

/-- Input `i` has been sampled on the F-die. -/
def inputSampled (s : State) (i : Nat) (mv : Int) (ua : Nat) : State :=
  modIo s i fun c => c.sampled (inLevel s i (getIo s i).level mv) (sampleClass s i mv ua) ua s.clk (warpField s)

theorem inputCheck_of_irrelevant (h : isRelevant s (256 + i) = false) : inputCheck s i = s := by
  rw [inputCheck]
  split
  · exact if_neg fun hfails => by simp [h] at hfails
  · rfl

theorem isRelevant_ioCross (s : State) (i x : Nat) : isRelevant (ioCross s i) x = isRelevant s x :=
  isRelevant_of_dict (ioCross_within (bs := [.engine, .io]) s i (.refl _ s) (by decide) (by decide) .dict (by decide)) x

theorem exec_ioInputSample_live (hi : i < 32) (hlive : pinsLive s = true) (hmode : (getIo s i).mode = 1)
    (hhiz : (getIo s i).hizUntil = none) (hrel : isRelevant s (256 + i) = false) (mv : Int) (ua : Nat) :
    exec (.ioInputSample i mv ua) s = .next (ioCross (inputSampled s i mv ua) i) := by
  rw [← inputCheck_of_irrelevant ((isRelevant_ioCross (inputSampled s i mv ua) i _).trans hrel)]
  exact if_pos ⟨hi, hlive, hmode, hhiz⟩

/-! ### Filters and edges (R193) -/

/-- An input whose class has differed since `since` for FILTER. -/
def IoRt.filtered (c : IoRt) (since : Nat) : IoRt := { c with
  differSince := none
  far := { c.far with state := c.raw, stamp := c.differWarp, clk := since, edges := c.far.edges + 1 } }

theorem exec_ioFilterExpiry_due (hi : i < 32) (hmode : (getIo s i).mode = 1) {u : Nat}
    (hdiffers : (getIo s i).differSince = some u) (hdue : u + Cfg.ioFilter s i * 40000 ≤ s.clk) :
    exec (.ioFilterExpiry i) s = .next (ioCross (modIo s i fun c => c.filtered u) i) := by
  have hafter : after u (40000 * Cfg.ioFilter s i) ≤ s.clk := by unfold after; omega
  simp only [exec_ioFilterExpiry, execIoFilterExpiry, hdiffers]
  exact if_pos ⟨hi, hmode, hafter⟩

@[simp] theorem ecTachBack_io (s : State) (e gap : Nat) : (ecTachBack s e gap).io = s.io :=
  ecTachBack_within (bs := [.fans, .alarms]) s e gap (.refl _ s) (by decide) (by decide) .io (by decide)

/-- A tach input with one more edge: the frequency is that of its last four periods. -/
def IoRt.edged (c : IoRt) (times : List Nat) (clk : Nat) : IoRt :=
  let ts := lastN 5 (times ++ [clk])
  { c with
    tachTimes := ts
    far := { c.far with
      edges := c.far.edges + 1
      freq := if ts.length = 5 then roundDiv (secs 4 * 65536) (clk - ts.headD clk : Nat) else c.far.freq } }

theorem edged_fifth (c : IoRt) (first b d e clk : Nat) : let r := c.edged [first, b, d, e] clk
    r.far.edges = c.far.edges + 1 ∧ r.far.freq = roundDiv (secs 4 * 65536) (clk - first : Nat) ∧
      r.tachTimes = [first, b, d, e, clk] ∧ r.edges = c.edges ∧ r.tachFreq = c.tachFreq := ⟨rfl, rfl, rfl, rfl, rfl⟩

/-- Tach input `i` has counted an edge. -/
def edgeCounted (s : State) (i : Nat) : State := modIo s i fun c => c.edged (getIo s i).tachTimes s.clk

/-- The edge crosses; what the fan drive makes of it is no part of field I/O. -/
theorem exec_tachEdge_live (hi : i < 32) (hlive : pinsLive s = true) (hmode : (getIo s i).mode = 4)
    (hhiz : (getIo s i).hizUntil = none) :
    ∃ t, exec (.tachEdge i) s = .next t ∧ t.io = (ioCross (edgeCounted s i) i).io := by
  have hgo : i < 32 ∧ pinsLive s ∧ (getIo s i).mode = 4 ∧ (getIo s i).hizUntil = none := ⟨hi, hlive, hmode, hhiz⟩
  rw [exec_tachEdge, execTachEdge]
  dsimp only
  rw [if_pos hgo]
  dsimp only [edgeCounted, IoRt.edged]
  split
  · exact ⟨_, rfl, ite_leaves (g := State.io) (ecTachBack_io ..) rfl⟩
  · exact ⟨_, rfl, rfl⟩

end

end Sys2Proof.Machine
end

section
/-! PROOFS. Currents and thermal shutdowns of outputs, and what the commands of a channel come to (08_field_io, R192–R197). -/

namespace Sys2Proof.Machine

/-! ### Currents and thermal shutdowns (R196, R197) -/

section
variable {s : State} {i : Nat}

/-- Output `i` draws a current, or regulates at its applied limit. -/
def currentTaken (s : State) (i : Nat) (current : Int) : State :=
  modIo s i fun c => { c with
    outCurrent := min current (appliedLimit s i)
    status := Flag.set c.status ioInLimit (decide (appliedLimit s i ≤ current)) }

theorem exec_ioCurrentLimit_on (hi : i < 32) (hon : (getIo s i).on = true) (hlost : (getGroup s (ioGroupOf i)).lost = false)
    (current : Int) : exec (.ioCurrentLimit i current) s = .next (groupFollow (currentTaken s i current) (ioGroupOf i)) :=
  if_pos ⟨hi, hon, by simp [hlost]⟩

/-- The thermal shutdowns of channel `i` that count, with the one of now: none while its supply is lost (R205). -/
def shutdownTimes (s : State) (i : Nat) : List Nat :=
  if (getGroup s (ioGroupOf i)).lost then (getIo s i).thermTimes else recent s (secs 60) (getIo s i).thermTimes ++ [s.clk]

/-- A channel in thermal shutdown: the eighth latches. -/
def IoRt.shutDown (c : IoRt) (times : List Nat) : IoRt := { c with
  thermTimes := times
  status := Flag.set (Flag.set c.status ioThermalOff true) ioOverloadLatched
    (Flag.get c.status ioOverloadLatched || decide (8 ≤ times.length)) }

theorem shutDown_records (c : IoRt) (times : List Nat) :
    Flag.get (c.shutDown times).status ioThermalOff = true ∧
      (8 ≤ times.length → Flag.get (c.shutDown times).status ioOverloadLatched = true) := by
  refine ⟨(Flag.get_set_other _ _ (by decide)).trans (Flag.get_set_self _ _ (by decide)), fun h => ?_⟩
  exact (Flag.get_set_self _ _ (by decide)).trans (by simp [h])

/-- Channel `i` is in thermal shutdown. -/
def stageShut (s : State) (i : Nat) : State := modIo s i fun c => c.shutDown (shutdownTimes s i)

theorem exec_ioThermalShutdown_on (hi : i < 32) (hon : (getIo s i).on = true) :
    exec (.ioThermalShutdown i) s = .next (reportTrip (ioApply (stageShut s i) i) (256 + i)) :=
  if_pos ⟨hi, hon⟩

theorem shutdownTimes_of_supplied (hlost : (getGroup s (ioGroupOf i)).lost = false)
    (h : 7 ≤ (recent s (secs 60) (getIo s i).thermTimes).length) : 8 ≤ (shutdownTimes s i).length := by
  simpa [shutdownTimes, hlost] using h

theorem exec_ioThermalRestart_off (hi : i < 32) (hoff : Flag.get (getIo s i).status ioThermalOff = true) :
    exec (.ioThermalRestart i) s =
      .next (ioApply (modIo s i fun c => { c with status := Flag.set c.status ioThermalOff false }) i) :=
  if_pos ⟨hi, hoff⟩

end

/-- Settles O27: an input by what a sample, its filter and an edge make of it on the F-die and what of that crosses, an output
by what it is given before it is applied. -/
theorem inputsAndOutputs : Obligations.InputsAndOutputs := by
  unfold Obligations.InputsAndOutputs
  refine ⟨fun s i mv ua hi hlive hmode hhiz hrel => ?sample, fun s i u hi hmode hdiffers hdue => ?filter,
    fun s i a b c d hi hlive hmode hhiz htimes => ?edge, fun s i current hi hon hlost => ?current,
    fun s i hi hon hrel hsafe hcmd => ?shutdown, fun s i hi hoff => ?restart⟩
  case sample =>
    obtain ⟨hfield, hup, hdown, hothers⟩ := ioCross_modIo s i fun c =>
      c.sampled (inLevel s i (getIo s i).level mv) (sampleClass s i mv ua) ua s.clk (warpField s)
    obtain ⟨hraw, hstate, hcurrent, hin, hinCurrent⟩ := sampled_records (getIo s i) (inLevel s i (getIo s i).level mv)
      (sampleClass s i mv ua) ua s.clk (warpField s)
    simp only [IoRt.logicSide, FarInput.crossing, Prod.mk.injEq, hstate, hcurrent, hin, hinCurrent] at hup hdown
    refine ⟨_, exec_ioInputSample_live hi hlive hmode hhiz hrel mv ua, ?_⟩
    rw [inputSampled, seen_of_fieldSide IoRt.far hfield, seen_of_fieldSide IoRt.raw hfield,
      seen_of_fieldSide IoRt.differSince hfield, seen_of_fieldSide IoRt.differWarp hfield, hraw]
    refine ⟨hstate, hcurrent, fun h => ?up, fun h => ?down, fun hhigh => ?closed, fun hlow hwb => ?unwatched,
      fun hlow hwb => ?watched, fun hsame => sampled_of_same hsame .., fun hdiffer hnew => sampled_of_first hdiffer hnew ..,
      hothers⟩
    case up =>
      obtain ⟨hin', -, -, -, hinCurrent'⟩ := hup h
      exact ⟨hin', hinCurrent'⟩
    case down =>
      obtain ⟨hin', -, -, -, hinCurrent'⟩ := hdown h
      exact ⟨hin', hinCurrent'⟩
    case closed => rw [sampleClass, inLevel_of_high _ hhigh, inClass_closed]
    case unwatched => rw [sampleClass, inLevel_of_low _ hlow, inClass_of_unwatched hwb]
    case watched =>
      rw [sampleClass, inLevel_of_low _ hlow]
      exact ⟨inClass_of_break hwb, inClass_of_open hwb⟩
  case filter =>
    obtain ⟨hfield, hup, hdown, hothers⟩ := ioCross_modIo s i fun c => c.filtered u
    simp only [IoRt.logicSide, FarInput.crossing, Prod.mk.injEq] at hup hdown
    refine ⟨_, exec_ioFilterExpiry_due hi hmode hdiffers hdue, ?_⟩
    rw [seen_of_fieldSide IoRt.far hfield, seen_of_fieldSide IoRt.differSince hfield]
    refine ⟨rfl, rfl, rfl, fun h => ?up, fun h => ?down, rfl, hothers⟩
    case up =>
      obtain ⟨hin, hstamp, hedges, -⟩ := hup h
      exact ⟨hin, hstamp, hedges⟩
    case down =>
      obtain ⟨hin, -, hedges, -⟩ := hdown h
      exact ⟨hin, hedges⟩
  case edge =>
    obtain ⟨hfield, hup, hdown, hothers⟩ := ioCross_modIo s i fun r => r.edged [a, b, c, d] s.clk
    obtain ⟨t, hexec, hio⟩ := exec_tachEdge_live hi hlive hmode hhiz
    rw [edgeCounted, htimes] at hio
    obtain ⟨hcount, hfifth, hlast, hedges, hfreq⟩ := edged_fifth (getIo s i) a b c d s.clk
    simp only [IoRt.logicSide, FarInput.crossing, Prod.mk.injEq, hcount, hfifth, hedges, hfreq] at hup hdown
    refine ⟨t, hexec, ?_⟩
    rw [getIo_of_io hio, seen_of_fieldSide IoRt.far hfield, seen_of_fieldSide IoRt.tachTimes hfield]
    refine ⟨hcount, hfifth, hlast, fun h => ?up, fun h => ?down, fun j hj => (getIo_of_io hio j).trans (hothers j hj)⟩
    case up =>
      obtain ⟨-, -, hedges', hfreq', -⟩ := hup h
      exact ⟨hedges', hfreq'⟩
    case down =>
      obtain ⟨-, -, hedges', hfreq', -⟩ := hdown h
      exact ⟨hedges', hfreq'⟩
  case current =>
    refine ⟨_, exec_ioCurrentLimit_on hi hon hlost current, ?_⟩
    rw [getIo_groupFollow, currentTaken, getIo_modIo, if_pos rfl]
    refine ⟨rfl, ?_, fun j hj => (getIo_groupFollow ..).trans (othersKept_modIo j hj)⟩
    rw [Flag.get_set_self _ _ (by decide)]
    exact decide_eq_true_iff
  case shutdown =>
    have hself : getIo (stageShut s i) i = (getIo s i).shutDown (shutdownTimes s i) := by
      rw [stageShut, getIo_modIo, if_pos rfl]
    obtain ⟨hoff, hlatched⟩ := shutDown_records (getIo s i) (shutdownTimes s i)
    have hrel' : isRelevant (ioApply (stageShut s i) i) (256 + i) = false :=
      (isRelevant_of_dict (ioApply_dict ..) _).trans hrel
    obtain ⟨hon', happlied⟩ := ioApply_off_of_shutdown (s := stageShut s i) (by rwa [hself]) hsafe
    refine ⟨_, exec_ioThermalShutdown_on hi hon, ?_⟩
    rw [reportTrip_of_irrelevant hrel', getFlag_ioApply_of_commanded (by rwa [hself]) (by decide),
      getFlag_ioApply_of_commanded (by rwa [hself]) (by decide), hself]
    exact ⟨hon', happlied, hoff, fun hlost hmany => hlatched (shutdownTimes_of_supplied hlost hmany),
      othersKept_modIo.trans othersKept_ioApply⟩
  case restart =>
    refine ⟨_, exec_ioThermalRestart_off hi hoff, ?_, othersKept_modIo.trans othersKept_ioApply⟩
    rw [getFlag_ioApply _ _ (by decide), getIo_modIo, if_pos rfl, Flag.get_set_self _ _ (by decide)]

end Sys2Proof.Machine
end

section
/-! PROOFS. Rounds over channels, and the groups that shed a channel and take it back (08_field_io, R198). -/

namespace Sys2Proof.Machine

/-! ### Rounds over channels -/

@[simp] theorem getGroup_modIo (s : State) (i : Nat) (f : IoRt → IoRt) (g : Nat) : getGroup (modIo s i f) g = getGroup s g := rfl

@[simp] theorem getIo_modGroup (s : State) (g : Nat) (f : IoGroup → IoGroup) (i : Nat) :
    getIo (modGroup s g f) i = getIo s i := rfl

/-- A round in which each step changes one channel of its own makes of that channel what its step makes of it. -/
theorem ioRound_at {step : State → Nat → State} {idx : Nat → Nat} (hidx : Function.Injective idx)
    (hothers : ∀ s x, OthersKept getIo s (step s x) (idx x)) (hlink : ∀ s x, linkView (step s x) = linkView s) {n j : Nat}
    (hj : j < n) (s : State) : ∃ r, getIo r (idx j) = getIo s (idx j) ∧ linkView r = linkView s ∧
      getIo (forAll (upTo n) step s) (idx j) = getIo (step r j) (idx j) := by
  obtain ⟨r, hbefore, hround⟩ := forAll_at (g := fun s => (getIo s (idx j), linkView s))
    (fun s x hx => Prod.ext (hothers s x _ fun h => hx (hidx h).symm) (hlink s x)) (nodup_upTo n) (mem_upTo hj) s
  simp only [Prod.mk.injEq] at hbefore hround
  exact ⟨r, hbefore.1, hbefore.2, hround.1⟩

/-- Channel `j` of group `g` is channel 8 · g + j (08_field_io). -/
theorem groupIdx_injective (g : Nat) : Function.Injective fun j => 8 * g + j := fun _ _ h => by simpa using h

theorem ite_othersKept {s t : State} {i : Nat} {p : Prop} [Decidable p] (h : OthersKept getIo s t i) :
    OthersKept getIo s (if p then t else s) i := by
  split
  · exact h
  · exact fun _ _ => rfl

/-! ### Records of the event log (R400) -/

@[simp] theorem logEvent_io (s : State) (type : Nat) (payload : List Byte) : (logEvent s type payload).io = s.io :=
  logEvent_within (bs := [.snap]) s type payload (.refl _ s) (by decide) .io (by decide)

theorem queue_logEvent {s : State} (h : s.snap.queue.length < 64) (type : Nat) (payload : List Byte) :
    ∃ r, (logEvent s type payload).snap.queue = s.snap.queue ++ [r] ∧ r.type = type ∧ r.payload = payload := by
  rw [logEvent, queueRec, if_neg (Nat.not_le.mpr h)]
  exact ⟨_, rfl, rfl, rfl⟩

/-! ### The channel to shed (R198) -/

/-- Of a channel found so far and channel `i`, that of the higher current. -/
def heavier (s : State) (m : Option Nat) (i : Nat) : Option Nat :=
  match m with
  | some j => if (getIo s j).outCurrent ≤ (getIo s i).outCurrent then some i else some j
  | none => some i

/-- The conducting channels of a group. -/
def conducting (s : State) (g : Nat) : List Nat := ((upTo 8).map fun j => 8 * g + j).filter fun i => (getIo s i).on

/-- Those of them that are not safety-relevant. -/
def sheddable (s : State) (g : Nat) : List Nat := (conducting s g).filter fun i => !isRelevant s (256 + i)

theorem shedPick_eq (s : State) (g : Nat) :
    shedPick s g = (if (sheddable s g).isEmpty then conducting s g else sheddable s g).foldl (heavier s) none := rfl

/-- A search for the highest current ends on a channel of the list, or on the one that it began with. -/
theorem foldl_heavier (s : State) (l : List Nat) (m : Nat) : ∃ k ∈ m :: l, l.foldl (heavier s) (some m) = some k ∧
    ∀ i ∈ m :: l, (getIo s i).outCurrent ≤ (getIo s k).outCurrent := by
  induction l generalizing m with
  | nil => exact ⟨m, List.mem_cons_self, rfl, by simp⟩
  | cons x l ih =>
    rw [List.foldl_cons, heavier]
    split
    · next hle =>
      obtain ⟨k, hk, hfold, hmax⟩ := ih x
      refine ⟨k, List.mem_cons_of_mem m hk, hfold, fun i hi => ?_⟩
      obtain rfl | hi := List.mem_cons.mp hi
      · exact hle.trans (hmax x List.mem_cons_self)
      · exact hmax i hi
    · next hlt =>
      obtain ⟨k, hk, hfold, hmax⟩ := ih m
      have hm := hmax m List.mem_cons_self
      refine ⟨k, ?_, hfold, fun i hi => ?_⟩
      · obtain rfl | hk := List.mem_cons.mp hk
        · exact List.mem_cons_self
        · exact List.mem_cons_of_mem m (List.mem_cons_of_mem x hk)
      · rw [List.mem_cons, List.mem_cons] at hi
        obtain rfl | rfl | hi := hi
        · exact hm
        · exact (Int.le_of_lt (Int.not_le.mp hlt)).trans hm
        · exact hmax i (List.mem_cons_of_mem m hi)

/-- While a channel that is not safety-relevant conducts, the one of them with the highest current is picked. -/
theorem shedPick_of_sheddable {s : State} {g : Nat} (h : sheddable s g ≠ []) : ∃ k ∈ sheddable s g, shedPick s g = some k ∧
    ∀ i ∈ sheddable s g, (getIo s i).outCurrent ≤ (getIo s k).outCurrent := by
  rw [shedPick_eq, if_neg (by simpa using h)]
  obtain ⟨x, l, hl⟩ := List.exists_cons_of_ne_nil h
  rw [hl]
  exact foldl_heavier s l x

theorem mem_sheddable {s : State} {g i : Nat} : i ∈ sheddable s g ↔
    ∃ j < 8, i = 8 * g + j ∧ (getIo s i).on = true ∧ isRelevant s (256 + i) = false := by
  simp only [sheddable, conducting, upTo, List.mem_filter, List.mem_map, List.mem_range, Bool.not_eq_true']
  constructor
  · rintro ⟨⟨⟨j, hj, rfl⟩, hon⟩, hrel⟩
    exact ⟨j, hj, rfl, hon, hrel⟩
  · rintro ⟨j, hj, rfl, hon, hrel⟩
    exact ⟨⟨⟨j, hj, rfl⟩, hon⟩, hrel⟩

/-! ### Shedding and reinstatement (R198) -/

/-- The channels of group `g` carry the currents that the F-die has measured. -/
def currentsRead (s : State) (g : Nat) (l : List Int) : State :=
  forAll (upTo 8) (fun s j => modIo s (8 * g + j) fun c => { c with outCurrent := if c.on then nth 0 l j else 0 }) s

section
variable {s : State} {g : Nat}

theorem getIo_currentsRead (l : List Int) {j : Nat} (hj : j < 8) : getIo (currentsRead s g l) (8 * g + j) =
    { getIo s (8 * g + j) with outCurrent := if (getIo s (8 * g + j)).on then nth 0 l j else 0 } := by
  obtain ⟨r, hbefore, -, hround⟩ :=
    ioRound_at (groupIdx_injective g) (fun _ _ => othersKept_modIo) (fun _ _ => linkView_modIo ..) hj s
  rw [currentsRead, hround, getIo_modIo, if_pos rfl, hbefore]

theorem currentsRead_dict (l : List Int) : (currentsRead s g l).dict = s.dict := by
  refine forAll_leaves State.dict (fun s j => ?_) _ s
  exact modIo_dict ..

theorem getGroup_currentsRead (l : List Int) : getGroup (currentsRead s g l) g = getGroup s g := by
  refine forAll_leaves (fun s => getGroup s g) (fun s j => ?_) _ s
  exact getGroup_modIo ..

theorem currentsRead_clk (l : List Int) : (currentsRead s g l).clk = s.clk := by
  refine forAll_leaves State.clk (fun s j => ?_) _ s
  exact modIo_clk ..

theorem mem_sheddable_currentsRead (l : List Int) {j : Nat} (hj : j < 8) : 8 * g + j ∈ sheddable (currentsRead s g l) g ↔
    (getIo s (8 * g + j)).on = true ∧ isRelevant s (256 + (8 * g + j)) = false := by
  rw [mem_sheddable, isRelevant_of_dict (currentsRead_dict l), getIo_currentsRead l hj]
  exact ⟨fun ⟨_, _, _, h⟩ => h, fun h => ⟨j, hj, rfl, h⟩⟩

/-- The clocks within 60 s at which channel `i` was shed, with now. -/
def shedsOf (s : State) (i : Nat) : List Nat := recent s (secs 60) (getIo s i).shedTimes ++ [s.clk]

/-- A shed channel: the third time within 60 s latches. -/
def IoRt.shed (c : IoRt) (times : List Nat) : IoRt := { c with
  shedTimes := times
  status := Flag.set (Flag.set c.status ioShed true) ioShedLatched
    (Flag.get c.status ioShedLatched || decide (3 ≤ times.length)) }

theorem getFlag_shed (c : IoRt) (times : List Nat) : Flag.get (c.shed times).status ioShed = true :=
  (Flag.get_set_other _ _ (by decide)).trans (Flag.get_set_self _ _ (by decide))

/-- Channel `i` is shed. -/
def shedMarked (s : State) (i : Nat) : State := modIo s i fun c => c.shed (shedsOf s i)

/-- Group `g` has shed channel `i`. -/
def channelShed (s : State) (g i : Nat) : State :=
  modGroup (shedMarked s i) g fun r =>
    { r with sheds := r.sheds + 1, shedAt := some (shedMarked s i).clk, lowSince := none }

theorem channelShed_records (s : State) (g i : Nat) : Flag.get (getIo (channelShed s g i) i).status ioShed = true ∧
    (getGroup (channelShed s g i) g).sheds = (getGroup s g).sheds + 1 ∧
    (getGroup (channelShed s g i) g).shedAt = some s.clk := by
  rw [channelShed, getGroup_modGroup, if_pos rfl, getIo_modGroup, shedMarked, getIo_modIo, if_pos rfl,
    getGroup_modIo, modIo_clk]
  exact ⟨getFlag_shed .., rfl, rfl⟩

theorem exec_groupShed_due (hg : g < 4) (hrel : released s = true) (hlost : (getGroup s g).lost = false)
    (hfree : (getGroup s g).shedAt = none) {l : List Int} (hhigh : 3 * 65536 < l.foldl (· + ·) 0) {i : Nat}
    (hpick : shedPick (currentsRead s g l) g = some i) : exec (.groupShed g l) s = .next (logEvent
      (ioApply (channelShed (currentsRead s g l) g i) i) 0x0602 (bytes1 [i, (shedsOf (currentsRead s g l) i).length])) := by
  rw [exec_groupShed, execGroupShed]
  dsimp only
  rw [if_pos ⟨hg, hrel, by simp [hlost], by rw [hfree], hhigh⟩, ← currentsRead]
  generalize currentsRead s g l = c at *
  split
  · next h => exact absurd (hpick.symm.trans h) (Option.some_ne_none i)
  · next j h =>
    obtain rfl : i = j := Option.some.inj (hpick.symm.trans h)
    rfl

/-- The first index that satisfies a test. -/
theorem findIdx_of_first {p : Nat → Bool} {i n k : Nat} (hlo : i ≤ k) (hhi : k < i + n) (hk : p k = true)
    (hbefore : ∀ j, i ≤ j → j < k → p j = false) : findIdx p i n = some k := by
  induction n generalizing i with
  | zero => omega
  | succ n ih =>
    rw [findIdx]
    obtain rfl | hlt := Nat.eq_or_lt_of_le hlo
    · exact if_pos hk
    · rw [if_neg (by simp [hbefore i (Nat.le_refl i) hlt])]
      exact ih hlt (by omega) fun j hj => hbefore j (by omega)

/-- A shed channel may come back: it is not latched, and its command is on. -/
def mayReturn (s : State) (i : Nat) : Bool :=
  Flag.get (getIo s i).status ioShed && !Flag.get (getIo s i).status ioShedLatched && !(getIo s i).lastCmdOff

/-- Channel `i` of group `g` is reinstated; the next one waits for 100 ms. -/
def channelReturned (s : State) (g i : Nat) : State :=
  modGroup (modIo s i fun c => { c with status := Flag.set c.status ioShed false }) g
    fun r => { r with nextReinstate := after s.clk (msecs 100) }

theorem channelReturned_records (s : State) (g i : Nat) :
    Flag.get (getIo (channelReturned s g i) i).status ioShed = false ∧
      (getGroup (channelReturned s g i) g).nextReinstate = after s.clk (msecs 100) ∧
      OthersKept getIo s (channelReturned s g i) i := by
  rw [channelReturned, getGroup_modGroup, if_pos rfl, getIo_modGroup, getIo_modIo, if_pos rfl]
  exact ⟨Flag.get_set_self _ _ (by decide), rfl, fun j hj => (getIo_modGroup ..).trans (othersKept_modIo j hj)⟩

theorem exec_groupReinstate_due (hg : g < 4) {u : Nat} (hlow : (getGroup s g).lowSince = some u)
    (hsecond : after u (secs 1) ≤ s.clk) (hnext : (getGroup s g).nextReinstate ≤ s.clk) {i : Nat}
    (hfirst : findIdx (mayReturn s) (8 * g) 8 = some i) :
    exec (.groupReinstate g) s = .next (ioApply (channelReturned s g i) i) := by
  rw [exec_groupReinstate, execGroupReinstate]
  dsimp only
  rw [if_pos ⟨hg, by rw [hlow]; exact decide_eq_true hsecond, hnext⟩]
  split
  · next j h =>
    obtain rfl : i = j := Option.some.inj (hfirst.symm.trans h)
    rfl
  · next h => exact absurd (hfirst.symm.trans h) (Option.some_ne_none i)

end

end Sys2Proof.Machine
end

section
/-! PROOFS. The loss and the return of a field supply, the diagnostics of an output and the end of a mode change
(08_field_io, R199, R205, R206), and what the commands of a group come to. -/

namespace Sys2Proof.Machine

/-! ### Diagnostics (R199) -/

section
variable {s : State} {i : Nat}

theorem exec_ioOutputDiag_openLoad (hi : i < 32) (hmode : isOutMode (getIo s i).mode = true) (hlive : pinsLive s = true)
    (hon : (getIo s i).on = true) : exec (.ioOutputDiag i .openLoad true) s =
      .next (modIo s i fun c => { c with status := Flag.set c.status ioOpenLoad true }) := by
  simp [execIoOutputDiag, hi, hmode, hlive, hon]

theorem exec_ioOutputDiag_shortLplus (hi : i < 32) (hmode : isOutMode (getIo s i).mode = true) (hlive : pinsLive s = true)
    (hoff : (getIo s i).on = false) (hstandby : isStandby s = false) : exec (.ioOutputDiag i .shortLplus true) s =
      .next (modIo s i fun c => { c with status := Flag.set c.status ioShortLplus true }) := by
  simp [execIoOutputDiag, hi, hmode, hlive, hoff, hstandby]

/-- A bit of IO_STATUS that is set reads so, and leaves the stage as it is. -/
theorem modIo_status (s : State) (i : Nat) {b : Nat} (hb : b < 16) (v : Bool) :
    let t := modIo s i fun c => { c with status := Flag.set c.status b v }
    Flag.get (getIo t i).status b = v ∧ (getIo t i).on = (getIo s i).on ∧ OthersKept getIo s t i := by
  dsimp only
  rw [getIo_modIo, if_pos rfl]
  exact ⟨Flag.get_set_self _ _ hb, rfl, othersKept_modIo⟩

end

/-! ### Mode changes (R206) -/

section
variable {s : State} {i : Nat}

theorem mode_ioApply (s : State) (i : Nat) : (getIo (ioApply s i) i).mode = (getIo s i).mode :=
  (congrArg IoRt.mode (withoutDrive_ioApply s i) :)

theorem hizUntil_ioApply (s : State) (i : Nat) : (getIo (ioApply s i) i).hizUntil = (getIo s i).hizUntil :=
  (congrArg IoRt.hizUntil (withoutDrive_ioApply s i) :)

/-- A channel that takes a mode has it before its command is applied. -/
theorem ioTakeMode_applies (s : State) (i : Nat) : ∃ t, ioTakeMode s i = ioApply t i ∧ OthersKept getIo s t i ∧
    (getIo t i).mode = Cfg.ioIoMode s i ∧ (getIo t i).hizUntil = none := by
  refine ⟨_, rfl, ?_⟩
  rw [ioReads_eq, getIo_modIo, if_pos rfl, seen_readOn IoRt.mode, seen_readOn IoRt.hizUntil]
  exact ⟨othersKept_modIo, rfl, rfl⟩

theorem exec_ioModeChangeEnd_due (hi : i < 32) {u : Nat} (hhiz : (getIo s i).hizUntil = some u) (hdue : u ≤ s.clk) :
    exec (.ioModeChangeEnd i) s = .next (ioTakeMode s i) := by
  simp [execIoModeChangeEnd, hhiz, hi, hdue]

end

/-! ### Supplies (R205) -/

section
variable {s : State} {g : Nat}

/-- A channel of the group in a mark of SUPPLY_LOST. -/
def markTurn (g : Nat) (b : Bool) (s : State) (j : Nat) : State :=
  if !b || isOutMode (getIo s (8 * g + j)).mode then
    modIo s (8 * g + j) fun c => { c with status := Flag.set c.status ioSupplyLost b }
  else s

theorem groupMark_eq (s : State) (g : Nat) (b : Bool) : groupMark s g b = forAll (upTo 8) (markTurn g b) s := rfl

theorem othersKept_markTurn (b : Bool) (s : State) (j : Nat) : OthersKept getIo s (markTurn g b s j) (8 * g + j) :=
  ite_othersKept othersKept_modIo

theorem linkView_markTurn (b : Bool) (s : State) (j : Nat) : linkView (markTurn g b s j) = linkView s :=
  ite_leaves (g := linkView) (linkView_modIo ..) rfl

@[simp] theorem groupMark_groups (s : State) (b : Bool) : (groupMark s g b).io.groups = s.io.groups := by
  rw [groupMark_eq]
  refine forAll_leaves (fun s => s.io.groups) (fun s j => ?_) _ s
  exact ite_leaves (g := fun s => s.io.groups) (modIo_io_groups ..) rfl

theorem getGroup_of_groups {s t : State} (h : t.io.groups = s.io.groups) (g : Nat) : getGroup t g = getGroup s g := by
  rw [getGroup, h, getGroup]

@[simp] theorem groupMark_snap (s : State) (b : Bool) : (groupMark s g b).snap = s.snap :=
  groupMark_within (bs := [.io]) s g b (.refl _ s) (by decide) .snap (by decide)

/-- A mark changes SUPPLY_LOST alone: of every channel when it is cleared, of the outputs when it is set. -/
theorem groupMark_records (s : State) (b : Bool) {j : Nat} (hj : j < 8) : let c := getIo s (8 * g + j)
    let d := getIo (groupMark s g b) (8 * g + j)
    d.outCurrent = c.outCurrent ∧ ((b = false ∨ isOutMode c.mode = true) → Flag.get d.status ioSupplyLost = b) := by
  obtain ⟨r, hbefore, -, hround⟩ :=
    ioRound_at (groupIdx_injective g) (othersKept_markTurn b) (linkView_markTurn b) hj s
  dsimp only
  rw [groupMark_eq, hround, markTurn, hbefore, ← hbefore]
  split
  · rw [getIo_modIo, if_pos rfl]
    exact ⟨rfl, fun _ => Flag.get_set_self _ _ (by decide)⟩
  · next h => exact ⟨rfl, fun hmarks => absurd (by simpa using hmarks) h⟩

/-- The outputs of a group without supply carry no current. -/
def currentsZero (s : State) (g : Nat) : State :=
  forAll (upTo 8) (fun s j =>
    modIo s (8 * g + j) fun c => { c with outCurrent := 0, status := Flag.set c.status ioInLimit false }) s

theorem getIo_currentsZero (s : State) {j : Nat} (hj : j < 8) : getIo (currentsZero s g) (8 * g + j) =
    { getIo s (8 * g + j) with outCurrent := 0, status := Flag.set (getIo s (8 * g + j)).status ioInLimit false } := by
  obtain ⟨r, hbefore, -, hround⟩ :=
    ioRound_at (groupIdx_injective g) (fun _ _ => othersKept_modIo) (fun _ _ => linkView_modIo ..) hj s
  rw [currentsZero, hround, getIo_modIo, if_pos rfl, hbefore]

theorem groupView_currentsZero (s : State) : groupView g (currentsZero s g) = groupView g s := by
  refine forAll_leaves (groupView g) (fun s j => ?_) _ s
  rw [groupView, getGroup_modIo, groupView]

theorem currentsZero_snap (s : State) : (currentsZero s g).snap = s.snap := by
  refine forAll_leaves State.snap (fun s j => ?_) _ s
  exact modIo_snap ..

/-- The group with its supply lost or back. -/
def supplied (s : State) (g : Nat) (lost : Bool) : State := modGroup s g fun r => { r with lost := lost }

theorem lost_supplied (s : State) (g : Nat) (lost : Bool) : (getGroup (supplied s g lost) g).lost = lost := by
  rw [supplied, getGroup_modGroup, if_pos rfl]

@[simp] theorem groupFollow_snap (s : State) (g : Nat) : (groupFollow s g).snap = s.snap := rfl

/-- A group that has lost its supply, before SUPPLY_LOST is set on its outputs. -/
def supplyGone (s : State) (g : Nat) : State := groupFollow (currentsZero (supplied s g true) g) g

theorem supplyGone_records (s : State) (g : Nat) : (getGroup (supplyGone s g) g).lost = true ∧
    (supplyGone s g).snap = s.snap ∧ ∀ j < 8, getIo (supplyGone s g) (8 * g + j) =
      { getIo s (8 * g + j) with outCurrent := 0, status := Flag.set (getIo s (8 * g + j)).status ioInLimit false } := by
  refine ⟨?_, ?_, fun j hj => ?_⟩
  · rw [supplyGone, seen_of_groupView IoGroup.lost (groupView_groupFollow ..),
      seen_of_groupView IoGroup.lost (groupView_currentsZero _), lost_supplied]
  · rw [supplyGone, groupFollow_snap, currentsZero_snap, supplied, modGroup_snap]
  · rw [supplyGone, getIo_groupFollow, getIo_currentsZero _ hj, supplied, getIo_modGroup]

theorem exec_supplyLost_first (hg : g < 4) (hwatched : supplyWatched s = true) (hlost : (getGroup s g).lost = false) :
    exec (.supplyLost g) s = .next (logEvent (groupMark (supplyGone s g) g true) 0x0601 (bytes1 [g, 0])) :=
  if_pos ⟨hg, hwatched, by simp [hlost]⟩

/-- A group whose supply is back, before its outputs take their commands. -/
def supplyBack (s : State) (g : Nat) : State := logEvent (groupMark (supplied s g false) g false) 0x0601 (bytes1 [g, 1])

theorem supplyBack_records (s : State) (g : Nat) : (getGroup (supplyBack s g) g).lost = false ∧
    ∀ j < 8, Flag.get (getIo (supplyBack s g) (8 * g + j)).status ioSupplyLost = false := by
  refine ⟨?_, fun j hj => ?_⟩
  · rw [supplyBack, getGroup_of_io (logEvent_io ..), getGroup_of_groups (groupMark_groups ..), lost_supplied]
  · obtain ⟨-, hflag⟩ := groupMark_records (g := g) (supplied s g false) false hj
    rw [supplyBack, getIo_of_io (logEvent_io ..), hflag (.inl rfl)]

/-- The outputs of a group take their commands. -/
def groupApplied (s : State) (g : Nat) : State := forAll (upTo 8) (fun s j => ioApply s (8 * g + j)) s

theorem exec_supplyReturn_lost (hg : g < 4) (hwatched : supplyWatched s = true) (hlost : (getGroup s g).lost = true) :
    exec (.supplyReturn g) s = .next (groupApplied (supplyBack s g) g) :=
  if_pos ⟨hg, hwatched, hlost⟩

@[simp] theorem ioApply_snap (s : State) (i : Nat) : (ioApply s i).snap = s.snap :=
  ioApply_within (bs := [.io, .mem]) s i (.refl _ s) (by decide) (by decide) .snap (by decide)

theorem groupApplied_snap (s : State) (g : Nat) : (groupApplied s g).snap = s.snap := by
  refine forAll_leaves State.snap (fun s j => ?_) _ s
  exact ioApply_snap ..

theorem groupView_groupApplied (s : State) (g : Nat) : groupView g (groupApplied s g) = groupView g s := by
  refine forAll_leaves (groupView g) (fun s j => ?_) _ s
  exact groupView_ioApply ..

theorem getFlag_groupApplied (s : State) (g : Nat) {b : Nat} (hb : b ∉ drivenBits) {j : Nat} (hj : j < 8) :
    Flag.get (getIo (groupApplied s g) (8 * g + j)).status b = Flag.get (getIo s (8 * g + j)).status b := by
  obtain ⟨r, hbefore, -, hround⟩ :=
    ioRound_at (groupIdx_injective g) (fun _ _ => othersKept_ioApply) (fun _ _ => linkView_ioApply ..) hj s
  rw [groupApplied, hround, getFlag_ioApply _ _ hb, hbefore]

end

/-- Settles O28: a group by the channel that it sheds or takes back and by what that leaves of the group, a supply by the rounds
over its channels. -/
theorem groupsAndSupplies : Obligations.GroupsAndSupplies := by
  unfold Obligations.GroupsAndSupplies
  refine ⟨fun s g l hg hrel hlost hfree hhigh hany => ?shed,
    fun s g i u hg hlow hsecond hnext hmin hmax => ?reinstate,
    fun s i hi hmode hlive hon => ?openLoad, fun s i hi hmode hlive hoff hstandby => ?shortLplus,
    fun s g hg hwatched hlost => ?lost, fun s g hg hwatched hlost => ?back, fun s i u hi hhiz hdue => ?mode⟩
  case shed =>
    obtain ⟨j₀, hj₀, hmay₀⟩ := hany
    have hsome : sheddable (currentsRead s g l) g ≠ [] :=
      List.ne_nil_of_mem ((mem_sheddable_currentsRead l hj₀).mpr hmay₀)
    obtain ⟨k, hk, hpick, hheaviest⟩ := shedPick_of_sheddable hsome
    obtain ⟨j, hj, rfl, -⟩ := mem_sheddable.mp hk
    obtain ⟨hon, hfree'⟩ := (mem_sheddable_currentsRead l hj).mp hk
    obtain ⟨hshed, hsheds, hclk⟩ := channelShed_records (currentsRead s g l) g (8 * g + j)
    rw [getGroup_currentsRead] at hsheds
    rw [currentsRead_clk] at hclk
    have hgroup := groupView_ioApply g (channelShed (currentsRead s g l) g (8 * g + j)) (8 * g + j)
    refine ⟨_, j, exec_groupShed_due hg hrel hlost hfree hhigh hpick, hj, hon, hfree', fun x hx hxon hxfree => ?_, ?_⟩
    · have hle := hheaviest _ ((mem_sheddable_currentsRead l hx).mpr ⟨hxon, hxfree⟩)
      rwa [getIo_currentsRead l hx, getIo_currentsRead l hj, if_pos hxon, if_pos hon] at hle
    · rw [getIo_of_io (logEvent_io ..), getFlag_ioApply _ _ (by decide), getGroup_of_io (logEvent_io ..),
        seen_of_groupView IoGroup.sheds hgroup, seen_of_groupView IoGroup.shedAt hgroup]
      exact ⟨hshed, hsheds, hclk⟩
  case reinstate =>
    intro back hback hbefore
    obtain ⟨hshed, hwaits, hothers⟩ := channelReturned_records s g i
    refine ⟨_, exec_groupReinstate_due hg hlow hsecond hnext (findIdx_of_first hmin hmax hback hbefore), ?_⟩
    rw [getFlag_ioApply _ _ (by decide), seen_of_groupView IoGroup.nextReinstate (groupView_ioApply ..)]
    exact ⟨hshed, hwaits, hothers.trans othersKept_ioApply⟩
  case openLoad =>
    obtain ⟨hflag, hkept, hothers⟩ := modIo_status s i (b := ioOpenLoad) (by decide) true
    exact ⟨_, exec_ioOutputDiag_openLoad hi hmode hlive hon, hflag, hkept.trans hon, hothers⟩
  case shortLplus =>
    obtain ⟨hflag, hkept, hothers⟩ := modIo_status s i (b := ioShortLplus) (by decide) true
    exact ⟨_, exec_ioOutputDiag_shortLplus hi hmode hlive hoff hstandby, hflag, hkept.trans hoff, hothers⟩
  case lost =>
    obtain ⟨hlost', hsnap, hchannels⟩ := supplyGone_records s g
    refine ⟨_, exec_supplyLost_first hg hwatched hlost, ?_, fun j hj => ?_, fun j hj hmode => ?_, fun hroom => ?_⟩
    · rw [getGroup_of_io (logEvent_io ..), getGroup_of_groups (groupMark_groups ..), hlost']
    · obtain ⟨hcurrent, -⟩ := groupMark_records (g := g) (supplyGone s g) true hj
      rw [getIo_of_io (logEvent_io ..), hcurrent, hchannels j hj]
    · obtain ⟨-, hflag⟩ := groupMark_records (g := g) (supplyGone s g) true hj
      rw [getIo_of_io (logEvent_io ..), hflag (.inr (by rwa [hchannels j hj]))]
    · have hqueue := queue_logEvent (s := groupMark (supplyGone s g) g true)
        (by rwa [groupMark_snap, hsnap]) 0x0601 (bytes1 [g, 0])
      rwa [groupMark_snap, hsnap] at hqueue
  case back =>
    obtain ⟨hlost', hflags⟩ := supplyBack_records s g
    refine ⟨_, exec_supplyReturn_lost hg hwatched hlost, ?_, fun j hj => ?_, fun hroom => ?_⟩
    · rw [seen_of_groupView IoGroup.lost (groupView_groupApplied ..), hlost']
    · rw [getFlag_groupApplied _ _ (by decide) hj, hflags j hj]
    · have hqueue := queue_logEvent (s := groupMark (supplied s g false) g false)
        (by rwa [groupMark_snap]) 0x0601 (bytes1 [g, 1])
      rwa [groupMark_snap, ← supplyBack, ← groupApplied_snap] at hqueue
  case mode =>
    obtain ⟨t, happlied, hothers, hmode, hhiz'⟩ := ioTakeMode_applies s i
    refine ⟨_, exec_ioModeChangeEnd_due hi hhiz hdue, ?_⟩
    rw [happlied, mode_ioApply, hizUntil_ioApply]
    refine ⟨hmode, hhiz', fun hinput => ?_, hothers.trans othersKept_ioApply⟩
    rw [ioApply_of_input (by rw [hmode, hinput]; rfl), getIo_ioPin]
    rfl

end Sys2Proof.Machine
end

section
/-! PROOFS. What a module failure and the outputs that it applies leave of the barrier link (17_functional_safety, R378;
08_field_io, R201). -/

namespace Sys2Proof.Machine

section
variable (s : State)

theorem evalStarted_io (f : Nat) : (evalStarted s f).io = s.io := by
  obtain ⟨m, hm⟩ := fanFetch_withMem s f
  rw [evalStarted, modFan_io, hm]
  rfl

@[simp] theorem refreshBoost_io : (refreshBoost s).io = s.io :=
  refreshBoost_within (bs := [.fans]) s (.refl _ s) (by decide) .io (by decide)

/-- An EC fan applies its PWM channel, and writes no more of field I/O (R215). -/
theorem linkView_ecStep (e dt : Nat) (entry : List Byte) : linkView (ecStep s e dt entry) = linkView s :=
  ite_leaves (g := linkView) ((linkView_ioApply ..).trans rfl) rfl

theorem linkView_fanUpdate (f : Nat) : linkView (fanUpdate s f) = linkView s := by
  by_cases hf : f < 4
  · rw [fanUpdate_direct hf]
    refine (linkView_of_io ?_).trans (linkView_of_io (evalStarted_io s f))
    exact refreshBoost_within (bs := [.free, .fans]) _ (limitFollow_within _ f (directStep_within _ f _ _ (.refl _ _)
      (by decide) (by decide)) (by decide)) (by decide) .io (by decide)
  · obtain ⟨e, rfl⟩ := Nat.exists_eq_add_of_le (Nat.not_lt.mp hf)
    rw [fanUpdate_ec, linkView_of_io (refreshBoost_io _), linkView_ecStep, linkView_of_io (evalStarted_io s (4 + e))]

theorem linkView_applyOut (h : Nat) : linkView (applyOut s h) = linkView s := by
  unfold applyOut
  split
  · exact linkView_ioApply ..
  split
  · exact linkView_of_io (vlvTakeUp_within (bs := [.free, .valve, .dict, .mem]) s _ (.refl _ s) (by decide) (by decide)
      (by decide) (by decide) .io (by decide))
  split
  · exact linkView_fanUpdate ..
  · exact linkView_of_io (aoApply_within (bs := [.meas, .mem]) s _ (.refl _ s) (by decide) (by decide) .io (by decide))

theorem linkView_applyAll : linkView (applyAll s) = linkView s := forAll_leaves linkView linkView_applyOut outEntries s

theorem linkView_withSafety (safety : Safety) : linkView { s with safety := safety } = linkView s := rfl

theorem linkView_safeSnap (bit : Nat) : linkView (safeSnap s bit) = linkView s :=
  linkView_of_io (safeSnap_within (bs := [.can, .snap]) s bit (.refl _ s) (by decide) (by decide) .io (by decide))

theorem linkView_safeRecord (bit scope chan loop : Nat) : linkView (safeRecord s bit scope chan loop) = linkView s :=
  linkView_of_io (safeRecord_within (bs := [.safety, .snap]) s bit scope chan loop (.refl _ s) (by decide) (by decide) .io
    (by decide))

theorem linkView_pairGiveUp : linkView (pairGiveUp s) = linkView s :=
  linkView_of_io (pairGiveUp_within (bs := [.pair]) s (.refl _ s) (by decide) .io (by decide))

theorem safeMark_io (bit h : Nat) : (safeMark bit s h).io = s.io :=
  safeMark_within (bs := [.safety]) bit s h (.refl _ s) (by decide) .io (by decide)

theorem linkView_safeMarks (bit : Nat) : linkView (forAll outEntries (safeMark bit) s) = linkView s :=
  forAll_leaves linkView (fun s h => linkView_of_io (safeMark_io s bit h)) outEntries s

/-- A failure of the module applies its outputs, and leaves the barrier link and the field watchdog. -/
@[simp] theorem linkView_failModule (bit : Nat) : linkView (failModule s bit) = linkView s := by
  unfold failModule
  split
  · rw [linkView_safeSnap, linkView_safeRecord]
  · rw [linkView_safeSnap, linkView_applyAll, linkView_withSafety, linkView_safeMarks, linkView_safeRecord,
      linkView_pairGiveUp]

/-- After a failure of the module SAFETY_STATE is SAFE_STOP, as it may have been before (R378, R391). -/
theorem failModule_stops {bit : Nat} (hbit : bit < 16) :
    (failModule s bit).safety.st = 3 ∧ Flag.get (failModule s bit).safety.failures bit = true := by
  by_cases hst : s.safety.st = 3
  · rw [failModule, if_pos hst, safeSnap_safety, safeRecord_safety]
    exact ⟨hst, Flag.get_set_self _ _ hbit⟩
  · refine ⟨?_, failModule_failures hst hbit⟩
    rw [failModule_safety hst]

end

end Sys2Proof.Machine
end

section
/-! PROOFS. The barrier link goes up and down, and the field watchdog trips (08_field_io, R201–R203). -/

namespace Sys2Proof.Machine

/-! ### Rounds over all channels -/

/-- A round over all channels in which each step changes its own channel. -/
theorem ioRound_at_self {step : State → Nat → State} (hothers : ∀ s x, OthersKept getIo s (step s x) x)
    (hlink : ∀ s x, linkView (step s x) = linkView s) {i : Nat} (hi : i < 32) (s : State) : ∃ r, getIo r i = getIo s i ∧
      linkView r = linkView s ∧ getIo (forAll (upTo 32) step s) i = getIo (step r i) i :=
  ioRound_at (idx := fun i => i) (fun _ _ h => h) hothers hlink hi s

section
variable {s : State} {i : Nat}

theorem linkView_ioApplyAll (s : State) : linkView (ioApplyAll s) = linkView s := forAll_leaves linkView linkView_ioApply _ s

theorem getFlag_ioApplyAll (hi : i < 32) {b : Nat} (hb : b ∉ drivenBits) (s : State) :
    Flag.get (getIo (ioApplyAll s) i).status b = Flag.get (getIo s i).status b := by
  obtain ⟨r, hbefore, -, hround⟩ := ioRound_at_self (fun _ _ => othersKept_ioApply) linkView_ioApply hi s
  rw [ioApplyAll, hround, getFlag_ioApply _ _ hb, hbefore]

/-- Every output is off while the field watchdog is not ARMED (R202). -/
theorem ioApplyAll_off_of_unarmed (hi : i < 32) (h : s.io.fwd ≠ 1) :
    (getIo (ioApplyAll s) i).on = false ∧ (getIo (ioApplyAll s) i).applied = 0 := by
  obtain ⟨r, -, hlink, hround⟩ := ioRound_at_self (fun _ _ => othersKept_ioApply) linkView_ioApply hi s
  rw [ioApplyAll, hround]
  exact ioApply_off_of_unarmed (by rwa [seen_of_linkView FieldIo.fwd hlink]) i

/-- What the F-die has of every input crosses. -/
def inputsCrossed (s : State) : State := forAll (upTo 32) ioCross s

theorem linkView_inputsCrossed (s : State) : linkView (inputsCrossed s) = linkView s :=
  forAll_leaves linkView linkView_ioCross _ s

theorem status_inputsCrossed (hi : i < 32) (s : State) : (getIo (inputsCrossed s) i).status = (getIo s i).status := by
  obtain ⟨r, hbefore, -, hround⟩ := ioRound_at_self othersKept_ioCross linkView_ioCross hi s
  rw [inputsCrossed, hround, seen_of_fieldSide IoRt.status (fieldSide_ioCross r i), hbefore]

/-! ### STALE (R201) -/

/-- A channel with STALE set, if it is an input, or cleared. -/
def IoRt.staled (c : IoRt) (b : Bool) : IoRt :=
  if b && !(c.mode == 1 || c.mode == 4) then c else { c with status := Flag.set c.status ioStale b }

/-- A channel in the round that sets or clears STALE. -/
def staleTurn (b : Bool) (s : State) (i : Nat) : State := ioReads s i fun c => c.staled b

theorem setStale_eq (s : State) (b : Bool) : setStale s b = forAll (upTo 32) (staleTurn b) s := rfl

theorem linkView_staleTurn (b : Bool) (s : State) (i : Nat) : linkView (staleTurn b s i) = linkView s := by
  rw [staleTurn, ioReads_eq, linkView_modIo]

theorem linkView_setStale (s : State) (b : Bool) : linkView (setStale s b) = linkView s :=
  forAll_leaves linkView (linkView_staleTurn b) _ s

theorem stale_setStale_false (hi : i < 32) (s : State) : Flag.get (getIo (setStale s false) i).status ioStale = false := by
  obtain ⟨r, -, -, hround⟩ :=
    ioRound_at_self (step := staleTurn false) (fun _ _ => othersKept_modIo) (linkView_staleTurn false) hi s
  rw [setStale_eq, hround, staleTurn, ioReads_eq, getIo_modIo, if_pos rfl, seen_readOn IoRt.status]
  exact Flag.get_set_self _ _ (by decide)

/-! ### Frames (R201) -/

/-- LINK_STATE is UP or DOWN. -/
def linkSet (s : State) (up : Bool) : State := { s with io := { s.io with linkUp := up } }

theorem linkView_linkSet (s : State) (up : Bool) : linkView (linkSet s up) = { linkView s with linkUp := up } := rfl

theorem linkBack_eq (s : State) : linkBack s =
    let t := inputsCrossed (setStale (replicaSync (linkSet s true)) false)
    if released t then ioApplyAll t else t := rfl

theorem linkView_replicaSync (s : State) : linkView (replicaSync s) = linkView s := rfl

theorem linkView_linkBack (s : State) : linkView (linkBack s) = { linkView s with linkUp := true } := by
  have hcrossed : linkView (inputsCrossed (setStale (replicaSync (linkSet s true)) false)) =
      { linkView s with linkUp := true } := by
    rw [linkView_inputsCrossed, linkView_setStale, linkView_replicaSync, linkView_linkSet]
  rw [linkBack_eq]
  exact ite_leaves ((linkView_ioApplyAll _).trans hcrossed) hcrossed

/-- No channel is STALE once the link is back. -/
theorem stale_linkBack (hi : i < 32) (s : State) : Flag.get (getIo (linkBack s) i).status ioStale = false := by
  have hcrossed : Flag.get (getIo (inputsCrossed (setStale (replicaSync (linkSet s true)) false)) i).status ioStale = false := by
    rw [status_inputsCrossed hi, stale_setStale_false hi]
  rw [linkBack_eq]
  exact ite_leaves (g := fun s => Flag.get (getIo s i).status ioStale) ((getFlag_ioApplyAll hi (by decide) _).trans hcrossed)
    hcrossed

/-- A valid frame is noted. -/
def frameTaken (s : State) (power : Nat) : State :=
  { s with io := { s.io with validRun := s.io.validRun + 1, lastValid := s.clk, power := power } }

theorem exec_barrierFrame_bad (h : s.power.phase ≠ .reset) (power : Nat) : exec (.barrierFrame false power) s =
    .next { s with io := { s.io with linkErrors := s.io.linkErrors + 1, validRun := 0 } } := by
  simp [execBarrierFrame, h]

theorem exec_barrierFrame_tenth (h : s.power.phase ≠ .reset) (hdown : s.io.linkUp = false) (hrun : 9 ≤ s.io.validRun)
    (power : Nat) : exec (.barrierFrame true power) s = .next (linkBack (frameTaken s power)) := by
  have hten : 10 ≤ s.io.validRun + 1 := by omega
  rw [exec_barrierFrame, execBarrierFrame, if_neg h, if_neg (show ¬ (!true) = true by decide)]
  exact if_pos ⟨by simp [hdown], hten⟩

/-- Any other valid frame leaves the link as it is; the replica of Warp is no part of field I/O. -/
theorem exec_barrierFrame_other (h : s.power.phase ≠ .reset) (hother : ¬ (s.io.linkUp = false ∧ 9 ≤ s.io.validRun))
    (power : Nat) : ∃ t, exec (.barrierFrame true power) s = .next t ∧ t.io = (frameTaken s power).io := by
  have hnot : ¬ ((!s.io.linkUp) = true ∧ 10 ≤ s.io.validRun + 1) := fun ⟨hdown, hten⟩ =>
    hother ⟨by simpa using hdown, by omega⟩
  rw [exec_barrierFrame, execBarrierFrame, if_neg h, if_neg (show ¬ (!true) = true by decide)]
  dsimp only
  rw [if_neg hnot]
  split
  · exact ⟨_, rfl, rfl⟩
  · exact ⟨_, rfl, rfl⟩

/-! ### The link goes down (R201, R378) -/

/-- The link has gone down. -/
def linkLost (s : State) : State := { s with io := { s.io with linkUp := false, validRun := 0 } }

theorem exec_barrierLinkDown_up (hup : s.io.linkUp = true) (hdue : after s.io.lastValid (msecs 3) ≤ s.clk) :
    exec .barrierLinkDown s = .next (failModule (setStale (linkLost s) true) sfBarrier) := by
  have hpassed : passed s s.io.lastValid (msecs 3) = true := decide_eq_true hdue
  rw [exec_barrierLinkDown, execBarrierLinkDown, if_pos hup, if_pos hpassed, linkLost]

theorem exec_barrierLinkDown_never (hdown : s.io.linkUp = false) (hnew : linkUndeclared s = true) :
    exec .barrierLinkDown s = .next (failModule (setStale s true) sfBarrier) := by
  rw [exec_barrierLinkDown, execBarrierLinkDown, if_neg (by simp [hdown]), if_pos hnew]

theorem linkView_failed (s : State) : linkView (failModule (setStale s true) sfBarrier) = linkView s := by
  rw [linkView_failModule, linkView_setStale]

/-! ### The field watchdog trips (R202) -/

/-- An output in the round that sets WD_OFF. -/
def wdOffTurn (s : State) (i : Nat) : State :=
  if isOutMode (getIo s i).mode then modIo s i fun c => { c with status := Flag.set c.status ioWdOff true } else s

/-- The F-die is TRIPPED. -/
def fwdTripped (s : State) : State :=
  { s with io := { s.io with fwd := 2, fwdTrips := s.io.fwdTrips + 1, refreshSince := none } }

/-- The F-die is TRIPPED, with WD_OFF on its outputs. -/
def wdOffSet (s : State) : State := forAll (upTo 32) wdOffTurn (fwdTripped s)

theorem othersKept_wdOffTurn (s : State) (i : Nat) : OthersKept getIo s (wdOffTurn s i) i := ite_othersKept othersKept_modIo

theorem linkView_wdOffTurn (s : State) (i : Nat) : linkView (wdOffTurn s i) = linkView s :=
  ite_leaves (g := linkView) (linkView_modIo ..) rfl

theorem linkView_wdOffSet (s : State) : linkView (wdOffSet s) = linkView (fwdTripped s) :=
  forAll_leaves linkView linkView_wdOffTurn _ _

theorem getFlag_wdOffSet (hi : i < 32) (hmode : isOutMode (getIo s i).mode = true) :
    Flag.get (getIo (wdOffSet s) i).status ioWdOff = true := by
  obtain ⟨r, hbefore, -, hround⟩ := ioRound_at_self othersKept_wdOffTurn linkView_wdOffTurn hi (fwdTripped s)
  have hself : getIo r i = getIo s i := hbefore
  rw [wdOffSet, hround, wdOffTurn, hself, if_pos hmode, getIo_modIo, if_pos rfl]
  exact Flag.get_set_self _ _ (by decide)

/-- Outputs that deviate from their safe state are no part of field I/O (R379). -/
theorem fwdTripOp_io (s : State) : (fwdTripOp s).io = (ioApplyAll (wdOffSet s)).io :=
  ite_leaves (g := State.io) (safeDeviate_within (bs := [.safety]) _ _ (.refl _ _) (by decide) .io (by decide)) rfl

theorem exec_fwdTrip_due (hfwd : s.io.fwd = 1) (hdue : after s.io.lastRefresh (msecs (Cfg.fwdFwdTime s)) ≤ s.clk) :
    exec .fwdTrip s = .next (fwdTripOp s) :=
  if_pos ⟨hfwd, decide_eq_true hdue⟩

theorem exec_barrierSupplyLoss_armed (hfwd : s.io.fwd = 1) : exec .barrierSupplyLoss s = .next (fwdTripOp s) := if_pos hfwd

end

/-- Settles O29: a frame and the loss of the link by what they leave of the link, a trip by the round that sets WD_OFF and the
one that applies the outputs. -/
theorem theBarrierLinkAndTheFieldWatchdog : Obligations.TheBarrierLinkAndTheFieldWatchdog := by
  unfold Obligations.TheBarrierLinkAndTheFieldWatchdog
  refine ⟨fun s power hphase => ⟨⟨_, exec_barrierFrame_bad hphase power, rfl, rfl, rfl⟩, ?valid⟩, fun s hup hdue => ?down,
    fun s hdown hnew => ?never, fun s hup hfresh hwatchdog hreset hhold hdone => ?refresh, fun s c hfwd htrip => ?trip⟩
  case valid =>
    by_cases htenth : s.io.linkUp = false ∧ 9 ≤ s.io.validRun
    · obtain ⟨hdown, hrun⟩ := htenth
      have hlink : linkView (linkBack (frameTaken s power)) = linkView (linkSet (frameTaken s power) true) :=
        (linkView_linkBack _).trans (linkView_linkSet ..).symm
      refine ⟨_, exec_barrierFrame_tenth hphase hdown hrun power, ?_⟩
      rw [seen_of_linkView FieldIo.validRun hlink, seen_of_linkView FieldIo.lastValid hlink,
        seen_of_linkView FieldIo.power hlink, seen_of_linkView FieldIo.linkUp hlink]
      exact ⟨rfl, rfl, rfl, iff_of_true rfl (.inr hrun), fun _ _ i hi => stale_linkBack hi _⟩
    · obtain ⟨t, hexec, hio⟩ := exec_barrierFrame_other hphase htenth power
      refine ⟨t, hexec, ?_⟩
      rw [hio]
      refine ⟨rfl, rfl, rfl, ⟨.inl, fun h => h.elim id fun hrun => ?_⟩, fun hdown hrun => absurd ⟨hdown, hrun⟩ htenth⟩
      exact Bool.of_not_eq_false fun hdown => htenth ⟨hdown, hrun⟩
  case down =>
    obtain ⟨hstop, hflag⟩ := failModule_stops (setStale (linkLost s) true) (bit := sfBarrier) (by decide)
    refine ⟨_, exec_barrierLinkDown_up hup hdue, ?_⟩
    rw [seen_of_linkView FieldIo.linkUp (linkView_failed _), seen_of_linkView FieldIo.validRun (linkView_failed _)]
    exact ⟨rfl, rfl, hstop, hflag⟩
  case never =>
    obtain ⟨hstop, hflag⟩ := failModule_stops (setStale s true) (bit := sfBarrier) (by decide)
    refine ⟨_, exec_barrierLinkDown_never hdown hnew, ?_⟩
    rw [seen_of_linkView FieldIo.linkUp (linkView_failed _)]
    exact ⟨hdown, hstop, hflag⟩
  case refresh =>
    have hfresh' : ¬ passed s s.io.lastValid (usecs 20) = true := fun h => Nat.not_le.mpr hfresh (of_decide_eq_true h)
    refine ⟨_, if_pos ⟨hup, hfresh', by simp [hwatchdog], hreset, hhold, hdone⟩, rfl, rfl, fun hgap => ?_⟩
    exact congrArg some (if_pos (decide_eq_true hgap))
  case trip =>
    have hexec : exec c s = .next (fwdTripOp s) := by
      obtain rfl | ⟨rfl, hdue⟩ := htrip
      · exact exec_barrierSupplyLoss_armed hfwd
      · exact exec_fwdTrip_due hfwd hdue
    have hmarked := linkView_wdOffSet s
    have hlink := (linkView_ioApplyAll (wdOffSet s)).trans hmarked
    refine ⟨_, hexec, ?_⟩
    rw [fwdTripOp_io, seen_of_linkView FieldIo.fwd hlink, seen_of_linkView FieldIo.fwdTrips hlink,
      seen_of_linkView FieldIo.refreshSince hlink]
    refine ⟨rfl, rfl, rfl, fun i hi hmode => ?_⟩
    have hunarmed : (wdOffSet s).io.fwd ≠ 1 := by
      rw [seen_of_linkView FieldIo.fwd hmarked]
      exact (by decide : (2 : Nat) ≠ 1)
    obtain ⟨hoff, happlied⟩ := ioApplyAll_off_of_unarmed hi hunarmed
    rw [getIo_of_io (fwdTripOp_io s), getFlag_ioApplyAll hi (by decide)]
    exact ⟨getFlag_wdOffSet hi hmode, hoff, happlied⟩

end Sys2Proof.Machine
end

section
/-! PROOFS. What the operations of the start sequence make of a direct fan, and the sequence from LISTEN to RUN with its
retries (09_fan_drive, R212, R213). -/

namespace Sys2Proof.Machine

/-! ### The operations on a direct fan -/

/-- A fan in ALIGN, with I_START and whether APPLIED_LIMIT caps it. -/
def FanRt.aligned (c : FanRt) (clk : Nat) (current : Int × Bool) (bridge : Bool) : FanRt :=
  { c with st := 2, stepClk := clk, iStart := current.1, capped := current.2, locked := false, zeroVec := false
           openLoop := 0, bridgeOn := bridge }

/-- A fan handed over to RUN. -/
def FanRt.handedOver (c : FanRt) (fine : Int) (bridge : Bool) : FanRt :=
  fanFlag fanBlocked false (fanFlag fanLockLost false
    { c with st := 4, fine := fine, bridgeOn := bridge, zeroVec := false, retry := 0, capped := false, openLoop := 0 })

section
variable (s : State) (k : Nat)

theorem getFan_modFan_self (g : FanRt → FanRt) : getFan (modFan s k g) k = g (getFan s k) := by
  rw [getFan_modFan, if_pos rfl]

theorem getFan_limitFollow : ∃ limited, getFan (limitFollow s k) k = fanFlag fanLimited limited (getFan s k) :=
  ⟨_, getFan_modFan_self ..⟩

theorem getFan_fanAlign : ∃ limited, getFan (fanAlign s k) k =
    fanFlag fanLimited limited ((getFan s k).aligned s.clk (startCurrent s k (getFan s k).retry) (!vdrvLow s)) := by
  obtain ⟨limited, hfan⟩ := getFan_limitFollow (modFan s k fun c =>
    c.aligned s.clk (startCurrent s k (getFan s k).retry) (!vdrvLow s)) k
  rw [getFan_modFan_self] at hfan
  exact ⟨limited, hfan⟩

theorem getFan_fanRun (fine : Int) : ∃ limited, getFan (fanRun s k fine) k =
    fanFlag fanLimited limited ((getFan s k).handedOver fine (!vdrvLow s)) := by
  obtain ⟨limited, hfan⟩ := getFan_limitFollow (modFan s k fun c => c.handedOver fine (!vdrvLow s)) k
  rw [getFan_modFan_self] at hfan
  exact ⟨limited, hfan⟩

theorem getFan_fanListen : getFan (fanListen s k) k = fanOff { getFan s k with
    st := 1, stepClk := s.clk, attempts := (getFan s k).attempts + 1, retry := 0, locked := false, restartAt := none } :=
  getFan_modFan_self ..

theorem getFan_fanStop : getFan (fanStop s k) k =
    fanFlag fanCrossing false (fanOff { getFan s k with st := 0, fine := 0, locked := false, retry := 0 }) :=
  getFan_modFan_self ..

theorem startCurrent_le_fanLimit (retry : Nat) : (startCurrent s k retry).1 ≤ fanLimit s k := min_le_right ..

end

section
variable {s : State} {k : Nat}

theorem othersKept_fanAlign : OthersKept getFan s (fanAlign s k) k := othersKept_modFan.trans othersKept_modFan

theorem othersKept_fanRun {fine : Int} : OthersKept getFan s (fanRun s k fine) k :=
  othersKept_modFan.trans othersKept_modFan

end

/-- A fan that has been handed over is not blocked (R213). -/
theorem notBlocked_handedOver (c : FanRt) (limited : Bool) (fine : Int) (bridge : Bool) :
    Flag.get (fanFlag fanLimited limited (c.handedOver fine bridge)).flags fanBlocked = false :=
  (Flag.get_set_other _ _ (by decide)).trans (Flag.get_set_self _ _ (by decide))

/-- What no flag bears on, the boost leaves of every fan. -/
theorem seen_refreshBoost {β : Type} (view : FanRt → β) (s : State) (j : Nat)
    (hview : ∀ c flags, view { c with flags := flags } = view c := by intros; rfl) :
    view (getFan (refreshBoost s) j) = view (getFan s j) :=
  fanView_refreshBoost view (fun _ c => hview c _) j s

/-- The boost leaves every flag but BOOSTED. -/
theorem getFlag_refreshBoost {i : Nat} (hi : i ≠ fanBoostedBit) (s : State) (j : Nat) :
    Flag.get (getFan (refreshBoost s) j).flags i = Flag.get (getFan s j).flags i :=
  fanView_refreshBoost (fun c => Flag.get c.flags i) (fun _ _ => Flag.get_set_other _ _ hi) j s

@[simp] theorem logEvent_fans (s : State) (type : Nat) (payload : List Byte) : (logEvent s type payload).fans = s.fans :=
  logEvent_within (bs := [.snap]) s type payload (.refl _ s) (by decide) .fans (by decide)

/-! ### The commands of the sequence -/

/-- The zero vector brakes a rotor that turns backwards. -/
def rotorBraked (s : State) (k : Nat) : State :=
  modFan s k fun c => { c with zeroVec := true, bridgeOn := !vdrvLow s, stepClk := s.clk }

/-- The observer has locked. -/
def lockSeen (s : State) (k : Nat) : State := modFan s k fun c => { c with locked := true }

/-- A fan that pauses after a failed attempt. -/
def attemptPaused (s : State) (k : Nat) : State := modFan s k fun c => fanOff { c with st := 5, stepClk := s.clk }

/-- A fan that is blocked after its third retry. -/
def fanRested (s : State) (k : Nat) : State :=
  modFan s k fun c => fanFlag fanBlocked true (fanOff { c with st := 6, stepClk := s.clk })

/-- A retry is counted. -/
def retryCounted (s : State) (k : Nat) : State :=
  modFan s k fun c => { c with retry := c.retry + 1, attempts := c.attempts + 1 }

/-- APPLIED_LIMIT does not depend on the retries. -/
theorem fanLimit_retryCounted (s : State) (k : Nat) : fanLimit (retryCounted s k) k = fanLimit s k := by
  rw [fanLimit, retryCounted, getFan_modFan_self]
  rfl

/-- What a fan in LISTEN comes to by what the observer sees of its rotor. -/
def listened (s : State) (k : Nat) (locked forward : Bool) (v : Int) : State :=
  if locked ∧ forward ∧ 655360 < v then fanRun s k (v * fineUnit)
  else if ¬ passed s (getFan s k).stepClk (msecs 100) then s
  else if locked ∧ ¬ forward then rotorBraked s k
  else fanAlign s k

section
variable {s : State} {k : Nat}

theorem listened_forward {v : Int} (hv : 655360 < v) : listened s k true true v = fanRun s k (v * fineUnit) :=
  if_pos ⟨rfl, rfl, hv⟩

theorem listened_backward (hdue : after (getFan s k).stepClk (msecs 100) ≤ s.clk) (v : Int) :
    listened s k true false v = rotorBraked s k := by
  simp [listened, passed, hdue]

theorem listened_unlocked (hdue : after (getFan s k).stepClk (msecs 100) ≤ s.clk) (forward : Bool) (v : Int) :
    listened s k false forward v = fanAlign s k := by
  simp [listened, passed, hdue]

theorem othersKept_listened {locked forward : Bool} {v : Int} : OthersKept getFan s (listened s k locked forward v) k := by
  unfold listened
  split
  · exact othersKept_fanRun
  split
  · exact fun _ _ => rfl
  split
  · exact othersKept_modFan
  · exact othersKept_fanAlign

section
variable (hk : k < 4)
include hk

theorem exec_listenEnd_listening (hst : (getFan s k).st = 1) (hzero : (getFan s k).zeroVec = false) (locked forward : Bool)
    (v : Int) : exec (.listenEnd k locked forward v) s = .next (listened s k locked forward v) := by
  rw [exec_listenEnd, execListenEnd]
  refine (if_pos ⟨hk, hst, by simp [hzero]⟩).trans ?_
  simp only [listened, rotorBraked, apply_ite Host.Outcome.next]

theorem exec_zeroVectorEnd_braking (hst : (getFan s k).st = 1) (hzero : (getFan s k).zeroVec = true) :
    exec (.zeroVectorEnd k) s = .next (fanAlign s k) :=
  if_pos ⟨hk, hst, hzero⟩

theorem exec_alignEnd_due (hst : (getFan s k).st = 2) (hdue : after (getFan s k).stepClk (msecs 200) ≤ s.clk) :
    exec (.alignEnd k) s = .next (modFan s k fun c => { c with st := 3, stepClk := s.clk }) :=
  if_pos ⟨hk, hst, decide_eq_true hdue⟩

theorem exec_observerLock_ramped (hst : (getFan s k).st = 3)
    (hdue : after (getFan s k).stepClk (msecs (Cfg.dfanOlRampTime s k)) ≤ s.clk) :
    exec (.observerLock k) s = .next (refreshBoost (fanRun (lockSeen s k) k fine10)) := by
  rw [exec_observerLock, execObserverLock]
  exact (if_pos ⟨hk, hst⟩).trans (if_pos (decide_eq_true hdue))

section
variable (hst : (getFan s k).st = 3) (hlock : (getFan s k).locked = false)
  (hdue : after (getFan s k).stepClk (secs 2) ≤ s.clk)
include hst hlock hdue

theorem exec_startAttemptFail_retries (hretry : (getFan s k).retry < 3) :
    exec (.startAttemptFail k) s = .next (attemptPaused s k) :=
  (if_pos ⟨hk, hst, by simp [hlock], decide_eq_true hdue⟩).trans (if_pos hretry)

theorem exec_startAttemptFail_last (hretry : 3 ≤ (getFan s k).retry) :
    exec (.startAttemptFail k) s = .next (refreshBoost (logEvent (fanRested s k) 0x0701 (bytes1 [k]))) :=
  (if_pos ⟨hk, hst, by simp [hlock], decide_eq_true hdue⟩).trans (if_neg (Nat.not_lt.mpr hretry))

end

theorem exec_pauseEnd_due (hst : (getFan s k).st = 5) (hdue : after (getFan s k).stepClk (msecs 500) ≤ s.clk) :
    exec (.pauseEnd k) s = .next (fanAlign (retryCounted s k) k) :=
  if_pos ⟨hk, hst, decide_eq_true hdue⟩

theorem exec_blockedRestEnd_due (hst : (getFan s k).st = 6) (hdue : after (getFan s k).stepClk (secs 60) ≤ s.clk) :
    exec (.blockedRestEnd k) s = .next (fanListen s k) :=
  if_pos ⟨hk, hst, decide_eq_true hdue⟩

end

end

/-- Settles O30: each command by the operation that it comes to, and that operation by what it makes of its fan. -/
theorem fanStartSequence : Obligations.FanStartSequence := by
  unfold Obligations.FanStartSequence
  refine ⟨fun s k hk => ⟨fun locked forward v hst hzero => ?listen, fun hst hzero => ?zeroVector, fun hst hdue => ?align,
    fun hst hdue => ?lock⟩, fun s k hk => ⟨fun hst hlock hdue hretry => ?fail, fun hst hlock hdue hretry => ?blocked,
    fun hst hdue => ?pause, fun hst hdue => ?rest⟩⟩
  case listen =>
    refine ⟨_, exec_listenEnd_listening hk hst hzero locked forward v, othersKept_listened, fun hl hf hv => ?_,
      fun hl hf hdue => ?_, fun hl hdue => ?_⟩
    · subst hl hf
      obtain ⟨limited, hfan⟩ := getFan_fanRun s k (v * fineUnit)
      rw [listened_forward hv, hfan]
      exact ⟨rfl, rfl⟩
    · subst hl hf
      rw [listened_backward hdue, rotorBraked, getFan_modFan_self]
      exact ⟨hst, rfl⟩
    · subst hl
      obtain ⟨limited, hfan⟩ := getFan_fanAlign s k
      rw [listened_unlocked hdue, hfan]
      exact ⟨rfl, rfl⟩
  case zeroVector =>
    obtain ⟨limited, hfan⟩ := getFan_fanAlign s k
    refine ⟨_, exec_zeroVectorEnd_braking hk hst hzero, ?_⟩
    rw [hfan]
    exact ⟨rfl, rfl, othersKept_fanAlign⟩
  case align =>
    refine ⟨_, exec_alignEnd_due hk hst hdue, ?_⟩
    rw [getFan_modFan_self]
    exact ⟨rfl, rfl, othersKept_modFan⟩
  case lock =>
    obtain ⟨limited, hfan⟩ := getFan_fanRun (lockSeen s k) k fine10
    refine ⟨_, exec_observerLock_ramped hk hst hdue, ?_⟩
    rw [seen_refreshBoost FanRt.st, seen_refreshBoost FanRt.fine, seen_refreshBoost FanRt.retry,
      getFlag_refreshBoost (by decide), hfan]
    exact ⟨rfl, rfl, rfl, notBlocked_handedOver ..⟩
  case fail =>
    refine ⟨_, exec_startAttemptFail_retries hk hst hlock hdue hretry, ?_⟩
    rw [attemptPaused, getFan_modFan_self]
    exact ⟨rfl, rfl, othersKept_modFan⟩
  case blocked =>
    refine ⟨_, exec_startAttemptFail_last hk hst hlock hdue hretry, ?_⟩
    rw [seen_refreshBoost FanRt.st, seen_refreshBoost FanRt.bridgeOn, getFlag_refreshBoost (by decide),
      getFan_of_fans (logEvent_fans ..), fanRested, getFan_modFan_self]
    exact ⟨rfl, rfl, Flag.get_set_self _ _ (by decide)⟩
  case pause =>
    have hcurrent := startCurrent_le_fanLimit (retryCounted s k) k (getFan (retryCounted s k) k).retry
    obtain ⟨limited, hfan⟩ := getFan_fanAlign (retryCounted s k) k
    have hcounted : getFan (retryCounted s k) k =
        { getFan s k with retry := (getFan s k).retry + 1, attempts := (getFan s k).attempts + 1 } := getFan_modFan_self ..
    refine ⟨_, exec_pauseEnd_due hk hst hdue, ?_⟩
    rw [fanLimit_retryCounted] at hcurrent
    rw [hfan]
    refine ⟨rfl, ?_, ?_, hcurrent, othersKept_modFan.trans othersKept_fanAlign⟩
    · exact congrArg FanRt.retry hcounted
    · exact congrArg FanRt.attempts hcounted
  case rest =>
    refine ⟨_, exec_blockedRestEnd_due hk hst hdue, ?_⟩
    rw [getFan_fanListen]
    exact ⟨rfl, rfl, othersKept_modFan⟩

end Sys2Proof.Machine
end

section
/-! PROOFS. Phase trips, a lost lock, and the restart that follows them (09_fan_drive, R211, R214). -/

namespace Sys2Proof.Machine

/-! ### Trips and lost locks -/

/-- A fan that notes its trips of the last 60 s: the third latches it off, before it a restart follows. -/
def FanRt.tripped (c : FanRt) (trips : List Nat) (clk : Nat) : FanRt :=
  if 3 ≤ trips.length then
    fanFlag fanOcLatched true (fanFlag fanFailed true { c with trips := trips, st := 7, restartAt := none })
  else { c with trips := trips, restartAt := some (after clk (secs 1)) }

/-- A bridge that has tripped. -/
def bridgeTripped (s : State) (k : Nat) : State :=
  modFan (fanStop s k) k fun c => c.tripped (recent s (secs 60) (getFan s k).trips ++ [s.clk]) s.clk

/-- A fan that has lost its lock. -/
def lockDropped (s : State) (k : Nat) : State :=
  modFan (fanStop s k) k fun c => fanFlag fanLockLost true { c with restartAt := some (after s.clk (secs 1)) }

theorem tripped_third {trips : List Nat} (h : 2 ≤ trips.length) (c : FanRt) (clk : Nat) : c.tripped (trips ++ [clk]) clk =
    fanFlag fanOcLatched true (fanFlag fanFailed true { c with trips := trips ++ [clk], st := 7, restartAt := none }) :=
  if_pos (by simpa using h)

theorem tripped_early {trips : List Nat} (h : trips.length < 2) (c : FanRt) (clk : Nat) : c.tripped (trips ++ [clk]) clk =
    { c with trips := trips ++ [clk], restartAt := some (after clk (secs 1)) } :=
  if_neg (by simpa using h)

/-- Noting a trip changes neither the bridge nor the speed of a fan, which its stop has turned off. -/
theorem tripped_leaves_bridge_and_speed (c : FanRt) (trips : List Nat) (clk : Nat) :
    (c.tripped trips clk).bridgeOn = c.bridgeOn ∧ (c.tripped trips clk).fine = c.fine := by
  unfold FanRt.tripped
  split
  · exact ⟨rfl, rfl⟩
  · exact ⟨rfl, rfl⟩

theorem getFan_bridgeTripped (s : State) (k : Nat) : getFan (bridgeTripped s k) k =
    (getFan (fanStop s k) k).tripped (recent s (secs 60) (getFan s k).trips ++ [s.clk]) s.clk :=
  getFan_modFan_self ..

theorem isRelevant_bridgeTripped (s : State) (k x : Nat) :
    isRelevant (refreshBoost (bridgeTripped s k)) x = isRelevant s x :=
  isRelevant_of_dict (refreshBoost_within (bs := [.fans]) (bridgeTripped s k) (.refl _ _) (by decide) .dict (by decide)) x

theorem exec_phaseTrip_on {s : State} {k : Nat} (hk : k < 4) (hon : (getFan s k).bridgeOn = true)
    (hrel : isRelevant s (304 + k) = false) : exec (.phaseTrip k) s = .next (refreshBoost (bridgeTripped s k)) := by
  have hexec : exec (.phaseTrip k) s = .next (reportTrip (refreshBoost (bridgeTripped s k)) (304 + k)) :=
    if_pos ⟨hk, hon⟩
  rw [hexec, reportTrip_of_irrelevant ((isRelevant_bridgeTripped ..).trans hrel)]

theorem exec_lockLost_running {s : State} {k : Nat} (hk : k < 4) (hst : (getFan s k).st = 4) :
    exec (.lockLost k) s = .next (lockDropped s k) :=
  if_pos ⟨hk, hst⟩

/-! ### Restarts -/

/-- The restart of a fan is no longer pending. -/
def restartTaken (s : State) (k : Nat) : State := modFan s k fun c => { c with restartAt := none }

section
variable (s : State) (k f : Nat)

/-- What a pending restart does not bear on, taking it leaves of every fan. -/
theorem seen_restartTaken {β : Type} (view : FanRt → β)
    (hview : ∀ c, view { c with restartAt := none } = view c := by intro; rfl) :
    view (getFan (restartTaken s k) f) = view (getFan s f) :=
  fanView_modFan view hview f s k

theorem fanDown_restartTaken : fanDown (restartTaken s k) f = fanDown s f :=
  seen_restartTaken s k f fun c => Flag.get c.flags fanBlocked || Flag.get c.flags fanFailed

theorem isBoosted_restartTaken : isBoosted (restartTaken s k) f = isBoosted s f := by
  simp only [isBoosted, fanDown_restartTaken]
  rfl

theorem fanBuiltin_restartTaken : fanBuiltin (restartTaken s k) f = fanBuiltin s f := by
  rw [fanBuiltin, seen_restartTaken s k f FanRt.table, isBoosted_restartTaken]
  rfl

/-- The speed that a fan is asked for does not depend on its pending restart (R217). -/
theorem fanAsked_restartTaken (entry : List Byte) : fanAsked (restartTaken s k) f entry = fanAsked s f entry := by
  rw [fanAsked, fanBuiltin_restartTaken, isBoosted_restartTaken, seen_restartTaken s k f FanRt.table,
    seen_restartTaken s k f FanRt.tableSpeed]
  rfl

theorem fanWanted_restartTaken (entry : List Byte) : fanWanted (restartTaken s k) f entry = fanWanted s f entry := by
  rw [fanWanted, fanAsked_restartTaken]
  rfl

theorem heddleFetch_restartTaken (eng e : Nat) :
    heddleFetch (restartTaken s k) eng e = ((heddleFetch s eng e).1, restartTaken (heddleFetch s eng e).2 k) := by
  cases hcached : (nth [] s.mem.caches eng).find? fun p => p.1 == e with
  | none =>
    simp only [heddleFetch, restartTaken, modFan_mem, hcached]
    rfl
  | some p =>
    simp only [heddleFetch, restartTaken, modFan_mem, hcached]
    rfl

theorem fanFetch_restartTaken :
    fanFetch (restartTaken s k) f = ((fanFetch s f).1, restartTaken (fanFetch s f).2 k) := by
  have hentry : fanEntry (restartTaken s k) f = fanEntry s f := rfl
  simp only [fanFetch, hentry]
  split
  · rfl
  · exact heddleFetch_restartTaken ..

theorem getFan_fanFetch : getFan (fanFetch s f).2 k = getFan s k := by
  obtain ⟨m, hm⟩ := fanFetch_withMem s f
  rw [hm]
  rfl

end

/-- The restart of a stopped fan comes to LISTEN if the fan is wanted (R214). -/
theorem exec_fanRestart_due {s : State} {k u : Nat} (hk : k < 4) (hrestart : (getFan s k).restartAt = some u)
    (hdue : u ≤ s.clk) (hst : (getFan s k).st = 0) : exec (.fanRestart k) s = .next (
      if 0 < fanWanted (fanFetch s k).2 k (fanFetch s k).1 then fanListen (restartTaken (fanFetch s k).2 k) k
      else restartTaken (fanFetch s k).2 k) := by
  have hst' : (getFan (restartTaken s k) k).st = 0 := (seen_restartTaken s k k FanRt.st).trans hst
  have hexec : exec (.fanRestart k) s =
      let p := fanFetch (restartTaken s k) k
      if 0 < fanWanted p.2 k p.1 ∧ (getFan (restartTaken s k) k).st = 0 then .next (fanListen p.2 k) else .next p.2 := by
    rw [exec_fanRestart, execFanRestart]
    simp only [hrestart]
    exact if_pos ⟨hk, hdue⟩
  simp only [hexec, hst', fanFetch_restartTaken, fanWanted_restartTaken, and_true, apply_ite Host.Outcome.next]

/-- Settles O31: a trip by the trips of the last 60 s, a lost lock by the bridge that it stops, a restart by the speed that
is wanted. -/
theorem fanTripsAndRestarts : Obligations.FanTripsAndRestarts := by
  unfold Obligations.FanTripsAndRestarts
  refine fun s k hk => ⟨fun hon hrel => ?trip, fun hst => ?lost, fun u hrestart hdue hst => ?restart⟩
  case trip =>
    obtain ⟨hoff, hfine⟩ := tripped_leaves_bridge_and_speed (getFan (fanStop s k) k)
      (recent s (secs 60) (getFan s k).trips ++ [s.clk]) s.clk
    refine ⟨_, exec_phaseTrip_on hk hon hrel, ?_⟩
    rw [seen_refreshBoost FanRt.bridgeOn, seen_refreshBoost FanRt.fine, seen_refreshBoost FanRt.st,
      seen_refreshBoost FanRt.restartAt, getFlag_refreshBoost (by decide), getFlag_refreshBoost (by decide),
      getFan_bridgeTripped, hoff, hfine, getFan_fanStop]
    refine ⟨rfl, rfl, fun hthird => ?_, fun hearly => ?_⟩
    · rw [tripped_third hthird]
      exact ⟨rfl, Flag.get_set_self _ _ (by decide),
        (Flag.get_set_other _ _ (by decide)).trans (Flag.get_set_self _ _ (by decide))⟩
    · rw [tripped_early hearly]
      exact ⟨rfl, rfl⟩
  case lost =>
    refine ⟨_, exec_lockLost_running hk hst, ?_⟩
    rw [lockDropped, getFan_modFan_self, getFan_fanStop]
    exact ⟨rfl, rfl, Flag.get_set_self _ _ (by decide), rfl, othersKept_modFan.trans othersKept_modFan⟩
  case restart =>
    have hothers : OthersKept getFan s (restartTaken (fanFetch s k).2 k) k :=
      fun j hj => (othersKept_modFan j hj).trans (getFan_fanFetch s j k)
    have hfan : getFan (restartTaken (fanFetch s k).2 k) k = { getFan s k with restartAt := none } := by
      rw [restartTaken, getFan_modFan_self, getFan_fanFetch]
    refine ⟨_, exec_fanRestart_due hk hrestart hdue hst, ?_⟩
    by_cases hwanted : 0 < fanWanted (fanFetch s k).2 k (fanFetch s k).1
    · rw [if_pos hwanted, getFan_fanListen, hfan]
      exact ⟨rfl, fun _ => ⟨rfl, rfl⟩, fun hno => absurd hwanted (Int.not_lt.mpr hno), hothers.trans othersKept_modFan⟩
    · rw [if_neg hwanted, hfan]
      exact ⟨rfl, fun hyes => absurd hyes hwanted, fun _ => hst, hothers⟩

end Sys2Proof.Machine
end

section
/-! PROOFS. The segment display (10_segment_display, R226–R238): what its operations make of the display, frames of a TN
panel, update rounds of a bistable one, the temperature band and the end of a mode change. -/

namespace Sys2Proof.Machine

/-! ### What the shared operations leave of the display -/

@[simp] theorem sendMirror_disp (s : State) (i : MirrorItem) : (sendMirror s i).disp = s.disp :=
  sendMirror_within (bs := [.pair]) s i (Within.refl _ s) (by decide) .disp (by decide)

@[simp] theorem sendMirror_mram (s : State) (i : MirrorItem) : (sendMirror s i).mram = s.mram :=
  sendMirror_within (bs := [.pair]) s i (Within.refl _ s) (by decide) .mram (by decide)

@[simp] theorem dispStore_disp (s : State) (cut : List (Nat × Nat × Nat)) : (dispStore s cut).disp = s.disp := rfl

theorem takeObj_disp (s : State) (o : Nat) : (takeObj s o).disp = s.disp :=
  takeObj_within (bs := [.dict]) s o (Within.refl _ s) (by decide) .disp (by decide)

theorem syncDone_disp (u : SyncUnit) (s : State) : (syncDone u s).disp = s.disp := rfl

theorem dispSync_of_current {s : State} (h : SyncUnit.display ∉ s.dict.waiting) : dispSync s = s := by
  rw [dispSync, if_neg (by simpa using h)]

/-- Taking the committed set changes flags of the display and nothing else of it (R238). -/
theorem dispSync_disp (s : State) : ∃ flags, (dispSync s).disp = { s.disp with flags := flags } := by
  unfold dispSync
  split
  · rw [dispTakeSet, ledgerFollow, modDisp_disp, syncDone_disp, forAll_leaves State.disp takeObj_disp, dispFlag]
    exact ⟨_, rfl⟩
  · exact ⟨s.disp.flags, rfl⟩

/-! ### Frames (R226–R230) -/

/-- The display at a frame start: the pending image is shown, the band latched, and every overdrive sequence and row latch
is new. -/
theorem frameBegin_disp (s : State) (start frame : Nat) (negativeFirst : Bool) :
    ∃ flags od latched moved vlcd, (frameBegin s start frame negativeFirst).disp = { s.disp with
      flags := flags, od := od, latched := latched, moved := moved, vlcd := vlcd, bandInUse := s.disp.band, frame := frame
      slot := 0, frameClk := start, negativeFirst := negativeFirst, shown := s.disp.pending, dirtySince := none } := by
  obtain ⟨flags, hsync⟩ := dispSync_disp s
  unfold frameBegin
  simp only [apply_ite State.disp, sendMirror_disp, ite_self, modDisp_disp, hsync]
  exact ⟨_, _, _, _, _, rfl⟩

theorem exec_frameStart_due {s : State} (hmode : s.disp.mode = 1) (hst : s.disp.st = 1)
    (hdue : s.disp.frameClk + frameLen s ≤ s.clk) : exec .frameStart s =
      .next (frameBegin s (s.disp.frameClk + frameLen s) ((s.disp.frame + 1) % 3) false) := by
  rw [exec_frameStart, execFrameStart, if_pos ⟨hmode, hst, hdue⟩]

theorem exec_rowSlot_due {s : State} (hmode : s.disp.mode = 1) (hst : s.disp.st = 1)
    (hslot : s.disp.slot + 1 < 2 * Cfg.dispComCount s) (hdue : slotStart s (s.disp.slot + 1) ≤ s.clk) :
    exec .rowSlot s = .next (modDisp s fun d => { d with slot := d.slot + 1 }) := by
  rw [exec_rowSlot, execRowSlot, if_pos ⟨hmode, hst, hslot, hdue⟩]

theorem exec_vlcdFault_outside {s : State} {mv : Nat} (hmode : s.disp.mode = 1) (hst : s.disp.st = 1)
    (hout : vlcdSet s < 20 * ((mv : Int) - vlcdSet s).natAbs) : exec (.vlcdFault mv) s =
      .next (modDisp s fun d => dispFlag dfVlcdFault true { d with vlcd := mv }) := by
  rw [exec_vlcdFault, execVlcdFault, if_pos ⟨hmode, hst, hout⟩]

/-! ### Update rounds (R231–R233) -/

/-- A waveform drives its own segment from the one level to the other. -/
theorem waveOf_eq (s : State) (g a b : Nat) : ∃ pulses, waveOf s g a b = ⟨g, a, b, pulses, false⟩ := by
  unfold waveOf
  dsimp only
  split
  · exact ⟨_, rfl⟩
  · split <;> exact ⟨_, rfl⟩

theorem roundBegin_disp (s : State) (waves : List SegWave) (routed replay : Bool) :
    ∃ flags length, (roundBegin s waves routed replay).disp = { s.disp with
      flags := flags, round := some ⟨s.clk, length, waves, replay⟩, rounds := s.disp.rounds + 1
      st := if replay then 5 else 2, replay := if replay then [] else s.disp.replay } := by
  unfold roundBegin
  cases replay <;> simp only [sendMirror_disp, if_true, Bool.false_eq_true, if_false] <;> exact ⟨_, _, rfl⟩

/-- The segments whose level the pending image changes. -/
def changedSegs (s : State) : List Nat :=
  (upTo (Cfg.dispSegCount s)).filter fun g => levelOf s.disp.shown 0 g != levelOf s.disp.pending 0 g

theorem mem_changedSegs {s : State} {g : Nat} : g ∈ changedSegs s ↔
    g < Cfg.dispSegCount s ∧ levelOf s.disp.shown 0 g ≠ levelOf s.disp.pending 0 g := by
  simp [changedSegs, upTo]

/-- The waveform that drives a segment to its level in the pending image. -/
def segWave (s : State) (g : Nat) : SegWave := waveOf s g (levelOf s.disp.shown 0 g) (levelOf s.disp.pending 0 g)

theorem segWave_eq (s : State) (g : Nat) : ∃ pulses,
    segWave s g = ⟨g, levelOf s.disp.shown 0 g, levelOf s.disp.pending 0 g, pulses, false⟩ := waveOf_eq ..

/-- The state that an update round starts from: the band is latched and the pending image is the one shown (R232). -/
def bandLatched (s : State) : State := modDisp s fun d => { d with bandInUse := d.band }
def imageTaken (s : State) : State := modDisp s fun d => { d with shown := d.pending, dirtySince := none }

theorem exec_updateRoundStart_due {s : State} {u : Nat} (hdirty : s.disp.dirtySince = some u) (hmode : s.disp.mode = 2)
    (hst : s.disp.st = 1) (hdue : after u (msecs 10) ≤ s.clk) (hcurrent : SyncUnit.display ∉ s.dict.waiting) :
    ∃ routed, exec .updateRoundStart s = .next (roundBegin (imageTaken (bandLatched s))
      ((changedSegs s).map (segWave (bandLatched s))) routed false) := by
  rw [exec_updateRoundStart, execUpdateRoundStart]
  simp only [hdirty]
  rw [if_pos ⟨hmode, hst, hdue⟩, dispSync_of_current hcurrent]
  exact ⟨_, rfl⟩

/-! ### Ledgers (R233) -/

theorem ledgerAdd_ledger (s : State) (g : Nat) (v : Int) : (ledgerAdd s g v).disp.ledger =
    Table.set (blank 0) s.disp.ledger g (clampInt (-32767) 32767 (ledgerOf s g + v)) := by
  rw [ledgerAdd, modDisp_disp, apply_ite Disp.ledger]
  exact ite_self _

theorem ledgerOf_ledgerAdd_self (s : State) (g : Nat) (v : Int) :
    ledgerOf (ledgerAdd s g v) g = clampInt (-32767) 32767 (ledgerOf s g + v) := by
  rw [ledgerOf, ledgerAdd_ledger, Table.getD_set_self]

theorem ledgerOf_ledgerAdd_other (s : State) {g j : Nat} (h : j ≠ g) (v : Int) :
    ledgerOf (ledgerAdd s g v) j = ledgerOf s j := by
  rw [ledgerOf, ledgerAdd_ledger, Table.getD_set_other _ _ _ h, ledgerOf]

theorem ledgerAdd_shown (s : State) (g : Nat) (v : Int) : (ledgerAdd s g v).disp.shown = s.disp.shown := by
  rw [ledgerAdd, modDisp_disp, apply_ite Disp.shown]
  exact ite_self _

theorem ledgerFollow_shown (s : State) : (ledgerFollow s).disp.shown = s.disp.shown := rfl

/-- A waveform adds its volt-seconds after `n` units to the ledger of its segment; so do those of a list in turn. -/
def waveAdded (n : Nat) (s : State) (w : SegWave) : State := ledgerAdd s w.seg (waveSum n w.pulses)
def wavesAdded (n : Nat) (l : List SegWave) (s : State) : State := forAll l (waveAdded n) s

theorem waveAdded_shown (n : Nat) (s : State) (w : SegWave) : (waveAdded n s w).disp.shown = s.disp.shown :=
  ledgerAdd_shown ..

theorem ledgerOf_roundLedgers (s : State) (r : Round) (n g : Nat) (p : SegWave → Bool) :
    ledgerOf (roundLedgers s r n p) g = ledgerOf (wavesAdded n (r.waves.filter fun w => p w && !w.settled) s) g := rfl

theorem roundLedgers_shown (s : State) (r : Round) (n : Nat) (p : SegWave → Bool) :
    (roundLedgers s r n p).disp.shown = s.disp.shown := by
  rw [roundLedgers, ledgerFollow_shown, modDisp_disp]
  exact forAll_leaves (fun s => s.disp.shown) (waveAdded_shown n) _ s

theorem ledgerOf_wavesAdded_of_idle (s : State) (n : Nat) {l : List SegWave} {g : Nat} (h : ∀ w ∈ l, w.seg ≠ g) :
    ledgerOf (wavesAdded n l s) g = ledgerOf s g := by
  unfold wavesAdded forAll
  induction l generalizing s with
  | nil => rfl
  | cons w l ih =>
    rw [List.forall_mem_cons] at h
    exact (ih _ h.2).trans (ledgerOf_ledgerAdd_other s h.1.symm _)

/-- The display at the end of a round: the ledgers hold every waveform, and no round runs (R232, R233). -/
def roundSettled (s : State) (r : Round) : State :=
  roundLedgers s r (r.waves.foldl (fun n w => max n (waveLen w)) 0) fun _ => true
def roundEnded (s : State) : State := modDisp s fun d => { d with round := none, st := 1 }

theorem exec_updateRoundEnd_due {s : State} {r : Round} (hround : s.disp.round = some r)
    (hdue : r.start + r.length ≤ s.clk) : exec .updateRoundEnd s =
      .next (sendMirror (dispStore (roundEnded (roundSettled s r)) []) (mirrorOfDisp (roundEnded (roundSettled s r)))) := by
  rw [exec_updateRoundEnd, execUpdateRoundEnd]
  simp only [hround]
  rw [if_pos hdue]
  rfl

theorem ledgerOf_roundSettled_of_idle {s : State} {r : Round} {g : Nat} (h : ∀ w ∈ r.waves, w.seg ≠ g) :
    ledgerOf (roundSettled s r) g = ledgerOf s g :=
  (ledgerOf_roundLedgers ..).trans (ledgerOf_wavesAdded_of_idle s _ fun w hw => h w (List.mem_of_mem_filter hw))

theorem ledgerOf_roundSettled_of_single {s : State} {r : Round} {w : SegWave} (hwaves : r.waves = [w])
    (hopen : w.settled = false) : ledgerOf (roundSettled s r) w.seg =
      clampInt (-32767) 32767 (ledgerOf s w.seg + waveSum (waveLen w) w.pulses) := by
  rw [roundSettled, ledgerOf_roundLedgers, hwaves, List.foldl_cons, List.foldl_nil, Nat.zero_max,
    List.filter_cons_of_pos (by simp [hopen]), List.filter_nil]
  exact ledgerOf_ledgerAdd_self ..

theorem ledgerOf_roundSettled_of_settled {s : State} {r : Round} {w : SegWave} (hwaves : r.waves = [w])
    (hsettled : w.settled = true) : ledgerOf (roundSettled s r) w.seg = ledgerOf s w.seg := by
  rw [roundSettled, ledgerOf_roundLedgers, hwaves, List.filter_cons_of_neg (by simp [hsettled]), List.filter_nil]
  rfl

/-! ### The temperature band (R234) -/

theorem dbandUp_le (s : State) (temp : Int) {fuel band : Nat} (h : band ≤ 3) : dbandUp s temp fuel band ≤ 3 := by
  induction fuel generalizing band with
  | zero => exact h
  | succ fuel ih =>
    rw [dbandUp]
    split
    · next hup => exact ih hup.1
    · exact h

/-- The rise ends at the highest band or below the next edge. -/
theorem lt_edge_dbandUp (s : State) (temp : Int) {fuel band : Nat} (hfuel : 3 ≤ fuel + band)
    (hlt : dbandUp s temp fuel band < 3) : temp < dbandEdge s (dbandUp s temp fuel band + 1) := by
  induction fuel generalizing band with
  | zero => exact absurd hlt (by rw [dbandUp]; omega)
  | succ fuel ih =>
    rw [dbandUp] at hlt ⊢
    split at hlt
    · next hup =>
      rw [if_pos hup]
      exact ih (by omega) hlt
    · next hno =>
      rw [if_neg hno]
      exact Int.not_le.mp fun hedge => hno ⟨hlt, hedge⟩

theorem dbandDown_le (s : State) (temp : Int) (fuel band : Nat) : dbandDown s temp fuel band ≤ band := by
  induction fuel generalizing band with
  | zero => exact Nat.le_refl band
  | succ fuel ih =>
    rw [dbandDown]
    split
    · exact (ih _).trans (Nat.sub_le band 1)
    · exact Nat.le_refl band

/-- The fall stays below the edge above its band: it passes an edge only at a temperature under that edge. -/
theorem lt_edge_dbandDown (s : State) (temp : Int) {fuel band : Nat}
    (h : band < 3 → temp < dbandEdge s (band + 1)) (hlt : dbandDown s temp fuel band < 3) :
    temp < dbandEdge s (dbandDown s temp fuel band + 1) := by
  induction fuel generalizing band with
  | zero => exact h hlt
  | succ fuel ih =>
    rw [dbandDown] at hlt ⊢
    split at hlt
    · next hdown =>
      rw [if_pos hdown]
      refine ih (fun _ => ?_) hlt
      have hband : band - 1 + 1 = band := Nat.sub_add_cancel hdown.1
      have hhyst : (0 : Int) ≤ q16 3 := by decide
      rw [hband]
      omega
    · next hno =>
      rw [if_neg hno]
      exact h hlt

/-- The fall ends at band 0 or within 3 K of its edge. -/
theorem edge_le_dbandDown (s : State) (temp : Int) {fuel band : Nat} (hfuel : band ≤ fuel)
    (hpos : 0 < dbandDown s temp fuel band) : dbandEdge s (dbandDown s temp fuel band) - q16 3 ≤ temp := by
  induction fuel generalizing band with
  | zero => exact absurd hpos (by rw [dbandDown]; omega)
  | succ fuel ih =>
    rw [dbandDown] at hpos ⊢
    split at hpos
    · next hdown =>
      rw [if_pos hdown]
      exact ih (by omega) hpos
    · next hno =>
      rw [if_neg hno]
      exact Int.not_lt.mp fun hedge => hno ⟨hpos, hedge⟩

/-- The band after an evaluation at a temperature. -/
def bandAt (s : State) (temp : Int) : Nat := dbandDown s temp 3 (dbandUp s temp 3 s.disp.band)

theorem bandAt_le (s : State) (temp : Int) (h : s.disp.band ≤ 3) : bandAt s temp ≤ 3 :=
  (dbandDown_le ..).trans (dbandUp_le s temp h)

theorem lt_edge_bandAt (s : State) (temp : Int) (hlt : bandAt s temp < 3) : temp < dbandEdge s (bandAt s temp + 1) :=
  lt_edge_dbandDown s temp (lt_edge_dbandUp s temp (Nat.le_add_right 3 _)) hlt

theorem edge_le_bandAt (s : State) (temp : Int) (h : s.disp.band ≤ 3) (hpos : 0 < bandAt s temp) :
    dbandEdge s (bandAt s temp) - q16 3 ≤ temp :=
  edge_le_dbandDown s temp (dbandUp_le s temp h) hpos

/-- With no source named, the band follows the mean temperature of the L-die. -/
theorem exec_displayBandEval_by_mean {s : State} (hup : isUp s = true) (hdue : s.disp.nextBand ≤ s.clk)
    (hsrc : Cfg.dispTempSrc s < 308 ∨ 331 < Cfg.dispTempSrc s) : exec .displayBandEval s =
      .next (modDisp s fun d => dispFlag dfTempSrcFault false { d with
        nextBand := after s.clk (secs 1), band := bandAt s (lDieMean s) }) := by
  have hnamed : (decide (308 ≤ Cfg.dispTempSrc s) && decide (Cfg.dispTempSrc s ≤ 331)) = false := by
    rw [Bool.and_eq_false_iff, decide_eq_false_iff_not, decide_eq_false_iff_not]
    omega
  have hgo : (isUp s && due s s.disp.nextBand) = true := by simp [hup, due, hdue]
  rw [exec_displayBandEval, execDisplayBandEval, if_pos hgo]
  simp only [hnamed, Bool.false_and, Bool.false_eq_true, if_false]
  rfl

/-! ### The display starts (R235, R237, R238) -/

/-- The display set up for its mode, before its first frame or round. -/
def dispSetUp (s : State) : State :=
  ledgerFollow (modDisp s fun d => { d with
    mode := Cfg.dispDispMode s, hiZ := false, hizAt := none, round := none, switchUntil := none, od := [], latched := []
    moved := [], bandInUse := d.band, vlcd := 0
    st := if Cfg.dispDispMode s = 0 then 0 else if s.therm.dState ≠ 0 then 3 else 1 })

/-- What the first frame and the first round find: the pending image is the one shown; an image that the panel shows already
is not to be driven. -/
def pendingShown (s : State) : State := modDisp s fun d => { d with shown := d.pending }
def imageCompared (s : State) : State :=
  modDisp s fun d => { d with dirtySince := if d.pending = d.shown then none else d.dirtySince }

/-- The replay round of the interrupted segments, where there are any (R235). -/
def replayBegin (s : State) : State :=
  if s.disp.replay = [] then sendMirror s (mirrorOfDisp s)
  else
    roundBegin s (s.disp.replay.map (replayWave s)) (s.disp.replay.any fun p => p.2.2 != extremeOf (ledgerOf s p.1)) true

/-- What a display set up by `s` begins with: nothing while the D-die is shut down, else a frame or the replay round. -/
def panelBegin (s t : State) : State :=
  if s.therm.dState ≠ 0 then (if Cfg.dispDispMode s = 2 then dispStore t t.disp.replay else t)
  else if Cfg.dispDispMode s = 1 then frameBegin (pendingShown t) t.clk 0 (t.mram.disp.half = some false)
  else if Cfg.dispDispMode s = 2 then replayBegin (imageCompared t)
  else t

theorem dispBegin_eq (s : State) : dispBegin s = panelBegin (dispSync s) (dispSetUp (dispSync s)) := by
  rw [dispBegin, panelBegin, dispSetUp]
  simp only [decide_eq_true_eq]
  rfl

theorem replayBegin_disp (s : State) : (replayBegin s).disp = s.disp ∨ ∃ waves routed,
    replayBegin s = roundBegin s waves routed true := by
  unfold replayBegin
  split
  · exact .inl (sendMirror_disp ..)
  · exact .inr ⟨_, _, rfl⟩

/-- The display has started in mode `mode`, with the D-die in state `dState`. -/
structure Started (d : Disp) (mode dState : Nat) : Prop where
  mode_eq : d.mode = mode
  noSwitch : d.switchUntil = none
  driven : d.hiZ = false
  off : mode = 0 → d.st = 0
  suspended : mode ≠ 0 → dState ≠ 0 → d.st = 3
  frames : mode = 1 → dState = 0 → d.st = 1 ∧ d.frame = 0

theorem dispBegin_started {s : State} (hcurrent : SyncUnit.display ∉ s.dict.waiting) :
    Started (dispBegin s).disp (Cfg.dispDispMode s) s.therm.dState := by
  have hst : (dispSetUp s).disp.st = if Cfg.dispDispMode s = 0 then 0 else if s.therm.dState ≠ 0 then 3 else 1 := rfl
  rw [dispBegin_eq, dispSync_of_current hcurrent, panelBegin]
  split
  · next hoff =>
    rw [apply_ite State.disp, dispStore_disp, ite_self]
    exact ⟨rfl, rfl, rfl, fun h0 => hst.trans (if_pos h0), fun hm _ => hst.trans ((if_neg hm).trans (if_pos hoff)),
      fun _ hon => absurd hon hoff⟩
  · next hon =>
    split
    · next hframes =>
      obtain ⟨_, _, _, _, _, hdisp⟩ := frameBegin_disp (pendingShown (dispSetUp s)) (dispSetUp s).clk 0
        ((dispSetUp s).mram.disp.half = some false)
      have hrun : (dispSetUp s).disp.st = 1 := hst.trans ((if_neg (by rw [hframes]; decide)).trans (if_neg hon))
      rw [hdisp]
      exact ⟨rfl, rfl, rfl, fun h0 => absurd (h0.symm.trans hframes) (by decide), fun _ hoff => absurd hoff hon,
        fun _ _ => ⟨hrun, rfl⟩⟩
    · next hframes =>
      split
      · next hrounds =>
        have hnone : Cfg.dispDispMode s ≠ 0 := by rw [hrounds]; decide
        obtain hdisp | ⟨waves, routed, hbegin⟩ := replayBegin_disp (imageCompared (dispSetUp s))
        · rw [hdisp]
          exact ⟨rfl, rfl, rfl, fun h0 => absurd h0 hnone, fun _ hoff => absurd hoff hon, fun h1 => absurd h1 hframes⟩
        · obtain ⟨_, _, hdisp⟩ := roundBegin_disp (imageCompared (dispSetUp s)) waves routed true
          rw [hbegin, hdisp]
          exact ⟨rfl, rfl, rfl, fun h0 => absurd h0 hnone, fun _ hoff => absurd hoff hon, fun h1 => absurd h1 hframes⟩
      · exact ⟨rfl, rfl, rfl, fun h0 => hst.trans (if_pos h0), fun _ hoff => absurd hoff hon,
          fun h1 => absurd h1 hframes⟩

theorem exec_dispModeSwitchEnd_due {s : State} {u : Nat} (hswitch : s.disp.switchUntil = some u) (hdue : u ≤ s.clk)
    (hcurrent : SyncUnit.display ∉ s.dict.waiting) : exec .dispModeSwitchEnd s =
      .next (dispBegin (if Cfg.dispDispMode s = 2 then dispRestore s else s)) := by
  rw [exec_dispModeSwitchEnd, execDispModeSwitchEnd]
  simp only [hswitch]
  rw [if_pos hdue, dispStart, dispSync_of_current hcurrent]

theorem dispRestore_leaves (s : State) : Within [.disp] s (dispRestore s) :=
  dispRestore_within s (Within.refl _ s) (by decide)

/-- A display started with the records of its mode. -/
theorem dispBegin_restored_started {s : State} (hcurrent : SyncUnit.display ∉ s.dict.waiting) :
    Started (dispBegin (if Cfg.dispDispMode s = 2 then dispRestore s else s)).disp (Cfg.dispDispMode s) s.therm.dState := by
  split
  · have hdict : (dispRestore s).dict = s.dict := dispRestore_leaves s .dict (by decide)
    have htherm : (dispRestore s).therm = s.therm := dispRestore_leaves s .therm (by decide)
    have hmode : Cfg.dispDispMode (dispRestore s) = Cfg.dispDispMode s := by
      simp only [Cfg.dispDispMode, cfgN, cfgI, cfgVal, hdict]
    rw [← hmode, ← htherm]
    exact dispBegin_started (by rw [hdict]; exact hcurrent)
  · exact dispBegin_started hcurrent

/-- Settles O33: a frame and a round by what they make of the display, the band by where its rise and its fall end, a mode
change by the display it starts. -/
theorem theDisplay : Obligations.TheDisplay := by
  unfold Obligations.TheDisplay
  refine ⟨fun s hmode hst hdue => ⟨_, exec_frameStart_due hmode hst hdue, ?frame⟩,
    fun s hmode hst hslot hdue => ⟨_, exec_rowSlot_due hmode hst hslot hdue, rfl, rfl, rfl⟩,
    fun s mv hmode hst hout => ⟨_, exec_vlcdFault_outside hmode hst hout, ?fault⟩,
    fun s u hdirty hmode hst hdue hcurrent => ?start,
    fun s r hround hdue => ⟨_, exec_updateRoundEnd_due hround hdue, ?done⟩,
    fun s hup hdue hsrc hband => ⟨_, exec_displayBandEval_by_mean hup hdue hsrc, ?band⟩,
    fun s u hswitch hdue hcurrent => ⟨_, exec_dispModeSwitchEnd_due hswitch hdue hcurrent, ?switched⟩⟩
  case frame =>
    obtain ⟨_, _, _, _, _, hdisp⟩ := frameBegin_disp s (s.disp.frameClk + frameLen s) ((s.disp.frame + 1) % 3) false
    rw [hdisp]
    exact ⟨rfl, rfl, rfl, rfl, rfl, rfl, rfl, rfl⟩
  case fault => exact ⟨Flag.get_set_self _ _ (by decide), rfl, rfl⟩
  case start =>
    obtain ⟨routed, hexec⟩ := exec_updateRoundStart_due hdirty hmode hst hdue hcurrent
    obtain ⟨flags, length, hdisp⟩ := roundBegin_disp (imageTaken (bandLatched s))
      ((changedSegs s).map (segWave (bandLatched s))) routed false
    refine ⟨_, ⟨s.clk, length, (changedSegs s).map (segWave (bandLatched s)), false⟩, hexec, ?_⟩
    rw [hdisp]
    refine ⟨rfl, rfl, rfl, rfl, rfl, rfl, rfl, fun w hw => ?_, fun g hg hne => ?_, rfl⟩
    · obtain ⟨g, hg, rfl⟩ := List.mem_map.mp hw
      obtain ⟨pulses, hwave⟩ := segWave_eq (bandLatched s) g
      rw [hwave]
      exact ⟨(mem_changedSegs.mp hg).1, rfl, rfl⟩
    · obtain ⟨pulses, hwave⟩ := segWave_eq (bandLatched s) g
      exact ⟨_, List.mem_map_of_mem (mem_changedSegs.mpr ⟨hg, hne⟩), congrArg SegWave.seg hwave⟩
  case done =>
    have hledger : ∀ g, ledgerOf (sendMirror (dispStore (roundEnded (roundSettled s r)) [])
        (mirrorOfDisp (roundEnded (roundSettled s r)))) g = ledgerOf (roundSettled s r) g := fun g => by
      rw [ledgerOf, sendMirror_disp]
      rfl
    simp only [hledger, sendMirror_disp, sendMirror_mram]
    have hshown : (roundSettled s r).disp.shown = s.disp.shown := roundLedgers_shown ..
    exact ⟨rfl, rfl, hshown, rfl, hshown, rfl, fun g hg => ledgerOf_roundSettled_of_idle hg,
      fun w => ledgerOf_roundSettled_of_single, fun w => ledgerOf_roundSettled_of_settled⟩
  case band =>
    exact ⟨rfl, bandAt_le s _ hband, lt_edge_bandAt s _, edge_le_bandAt s _ hband, Flag.get_set_self _ _ (by decide), rfl⟩
  case switched =>
    obtain ⟨hmode, hswitch, hhiZ, hoff, hsuspended, hframes⟩ := dispBegin_restored_started hcurrent
    exact ⟨hmode, hswitch, hhiZ, hoff, hsuspended, hframes⟩

end Sys2Proof.Machine
end

section
/-! PROOFS. Writes to the display, the memory, thermal management, the supervisor and the pair (10_segment_display, R225, R226,
R233; 14_selvedge_pair, R330, R333; 15_memory_and_repair, R355; 16_thermal, R366; 17_functional_safety, R380–R388). -/

namespace Sys2Proof.Machine

/-! ### What the request and the answer leave -/

section
variable (s : State) (e : Env) (o m : Nat) (data : List Byte)

@[simp] theorem writing_disp : (writing s e o m data).disp = s.disp := writing_within s e o m data .disp (by decide)
@[simp] theorem writing_therm : (writing s e o m data).therm = s.therm := writing_within s e o m data .therm (by decide)
@[simp] theorem writing_safety : (writing s e o m data).safety = s.safety := writing_within s e o m data .safety (by decide)
@[simp] theorem writing_pair : (writing s e o m data).pair = s.pair := writing_within s e o m data .pair (by decide)
@[simp] theorem writing_mram : (writing s e o m data).mram = s.mram := writing_within s e o m data .mram (by decide)
@[simp] theorem writing_clk : (writing s e o m data).clk = s.clk := writing_within s e o m data .clk (by decide)

end

section
variable (s : State) (e : Env) (svc : Nat) (payload : List Byte)

@[simp] theorem answer_disp : (answer s e svc payload).disp = s.disp := answer_leaves s e svc payload .disp (by decide)
@[simp] theorem answer_mem : (answer s e svc payload).mem = s.mem := answer_leaves s e svc payload .mem (by decide)
@[simp] theorem answer_therm : (answer s e svc payload).therm = s.therm := answer_leaves s e svc payload .therm (by decide)
@[simp] theorem answer_safety : (answer s e svc payload).safety = s.safety := answer_leaves s e svc payload .safety (by decide)
@[simp] theorem answer_pair : (answer s e svc payload).pair = s.pair := answer_leaves s e svc payload .pair (by decide)
@[simp] theorem answer_mram : (answer s e svc payload).mram = s.mram := answer_leaves s e svc payload .mram (by decide)

end

/-! ### Challenges and levels of the session (R247, R384) -/

theorem getSess_of_dict {s t : State} (h : t.dict = s.dict) (x : Sess) : getSess t x = getSess s x := by
  rw [getSess, h, getSess]

/-- The challenge that a session holds. -/
def chalOf (x : Sess) (s : State) : Option (List Byte × Nat) := (getSess s x).chal

theorem chalOf_of_dict {s t : State} (h : t.dict = s.dict) (x : Sess) : chalOf x t = chalOf x s :=
  congrArg SessRec.chal (getSess_of_dict h x)

theorem chalOf_modSess {f : SessRec → SessRec} (hf : ∀ r, (f r).chal = r.chal) (s : State) (x : Sess) :
    chalOf x (modSess s x f) = chalOf x s := by
  rw [chalOf, getSess_modSess_self, hf, chalOf]

theorem chalOf_dropPending (s : State) (x : Sess) : chalOf x (dropPending s x) = chalOf x s := by
  unfold dropPending
  split
  · rfl
  · exact chalOf_modSess (f := fun r => { r with pending := [] }) (fun _ => rfl) s x

theorem chalOf_sessExpire (s : State) (x : Sess) : chalOf x (sessExpire s x) = chalOf x s := by
  simp only [sessExpire, apply_ite (chalOf x), chalOf_modSess, implies_true, chalOf_dropPending, ite_self]

theorem chalOf_touch (s : State) (x : Sess) : chalOf x (touch s x) = chalOf x s := by
  simp only [touch, apply_ite (chalOf x), chalOf_of_dict (managerHeard_dict _), chalOf_modSess, implies_true,
    chalOf_sessExpire, ite_self]

theorem chalOf_writing (s : State) (e : Env) (o m : Nat) (data : List Byte) :
    chalOf e.sess (writing s e o m data) = chalOf e.sess s := by
  simp only [writing, heard, notePrev, chalOf_modSess, implies_true, chalOf_touch, chalOf_of_dict (arrives_dict ..)]

/-- What a session has been granted: its challenge and its level. -/
def grantOf (r : SessRec) : Option (List Byte × Nat) × Nat := (r.chal, r.level)

theorem grantOf_answer (s : State) (e : Env) (svc : Nat) (payload : List Byte) :
    grantOf (getSess (answer s e svc payload) e.sess) = grantOf (getSess s e.sess) := by
  rw [answer, getSess_of_dict (sendResponse_dict ..), getSess_modSess_self]
  rfl

theorem grantOf_noteWrong (s : State) (x : Sess) : grantOf (getSess (noteWrong s x) x) = grantOf (getSess s x) := by
  rw [noteWrong, getSess_modSess_self]
  dsimp only
  split <;> rfl

theorem grantOf_tryResponse (s : State) (x : Sess) (sig : List Byte) : grantOf (getSess (tryResponse s x sig).2 x) =
    (none, if responseOk s x sig = true then 3 else (getSess s x).level) := by
  unfold tryResponse
  dsimp only
  split
  · rw [getSess_modSess_self, getSess_modSess_self]
    rfl
  · rw [grantOf_noteWrong, getSess_modSess_self]
    rfl

theorem responseOk_writing (s : State) (e : Env) (o m : Nat) (data sig : List Byte) :
    responseOk (writing s e o m data) e.sess sig = responseOk s e.sess sig := by
  have hchal : (getSess (writing s e o m data) e.sess).chal = (getSess s e.sess).chal := chalOf_writing ..
  simp only [responseOk, keyBlank, hchal, writing_clk, committedVal_of_values (memberValues_writing ..)]

/-! ### A write that goes, by its member -/

theorem runRequest_of_unanswered {s t : State} {e : Env} {svc : Nat} {run : State → Option (List Byte) × State}
    (h : run s = (none, t)) : runRequest s e svc run = t := by
  rw [runRequest, h]

/-- A WRITE that goes is carried out, and answered unless it restarts the module or its answer follows later. -/
theorem requestWrite_carried {s : State} {e : Env} {o m : Nat} {data : List Byte} (h : WriteGoes s e o m data)
    (sense : Option Nat) : requestWrite s e o m data sense =
      let w := writing s e o m data
      let r := applyWrite w e o m data sense true
      if restarts w o m data = true ∨ answersLater w o m data = true then r.2 else answer r.2 e 2 (statusBytes r.1) := by
  have hok : ¬ tooLong e data (writeCode (writing s e o m data) e.sess o m data) ≠ 0 := fun hne => hne h.accepted
  dsimp only
  split
  · next hstays =>
    exact (request_of_served h.served _).trans
      (runRequest_of_unanswered ((if_neg hok).trans (if_pos hstays)))
  · next hnow =>
    exact (request_of_served h.served _).trans
      (runRequest_of_answered ((if_neg hok).trans (if_neg hnow)))

/-- A WRITE to an RW or WO member that tests no code and no response does what its block does. -/
theorem applyWrite_own {o m : Nat} {ty : MType} (hmem : OwnMember o m ty) (hcode : o ≠ 0x1010)
    (hresponse : ¬ (o = 0xB010 ∧ m = 4)) (s : State) (e : Env) (data : List Byte) (sense : Option Nat) (direct : Bool) :
    applyWrite s e o m data sense direct = (0, applyRw s e o m (dataVal ty data) sense direct) := by
  obtain ⟨d, hd, rfl, hacc⟩ := hmem
  rw [applyWrite, hd]
  dsimp only
  rw [if_neg hacc, if_neg fun hc => hcode hc.1, if_neg hresponse]

theorem requestWrite_field {o m : Nat} {ty : MType} (hmem : OwnMember o m ty) (hlo : 0x5000 ≤ o) (hhi : o < 0xA000)
    {s : State} {e : Env} {data : List Byte} (h : WriteGoes s e o m data) :
    requestWrite s e o m data none =
      answer (applyField (writing s e o m data) o m (dataVal ty data) none) e 2 (statusBytes 0) := by
  rw [requestWrite_of_goes h (by omega) (by omega), applyWrite_own hmem (by omega) (by omega), applyRw, if_neg (by omega),
    if_neg (by omega), if_pos hhi]

theorem applyRw_module {o : Nat} (hlo : 0xA000 ≤ o) (s : State) (e : Env) (m : Nat) (v : Val) (sense : Option Nat)
    (direct : Bool) : applyRw s e o m v sense direct = applyModule s e o m v := by
  rw [applyRw, if_neg (by omega), if_neg (by omega), if_neg (by omega)]

theorem requestWrite_module {o m : Nat} {ty : MType} (hmem : OwnMember o m ty) (hlo : 0xA000 ≤ o)
    (hresponse : ¬ (o = 0xB010 ∧ m = 4)) (hreset : ¬ (o = 0xB000 ∧ m = 5)) {s : State} {e : Env} {data : List Byte}
    (h : WriteGoes s e o m data) : requestWrite s e o m data none =
      answer (applyModule (writing s e o m data) e o m (dataVal ty data)) e 2 (statusBytes 0) := by
  have himage : o ≠ 0x1040 := by omega
  have hnow : ¬ (restarts (writing s e o m data) o m data = true ∨ answersLater (writing s e o m data) o m data = true) := by
    simp [restarts, answersLater, himage, hreset]
  rw [requestWrite_carried h]
  dsimp only
  rw [if_neg hnow, applyWrite_own hmem (by omega) hresponse, applyRw_module hlo]

/-! ### The members -/

theorem image_member : OwnMember 0x9010 1 .blob :=
  ownMember_of_mem (ob := obj9010) (by simp [schema]) (i := 0) (by decide) rfl rfl rfl (by decide)

theorem row_member {r : Nat} (hr : r < 6) : OwnMember 0x9010 (2 + r) .blob :=
  ownMember_of_mem (ob := obj9010) (by simp [schema]) (i := 0) (by decide) rfl
    (d := ⟨2, 6, 1, .blob, .rw, 1, 0, [], 1, false⟩) (by interval_cases r <;> rfl) rfl (by decide)

theorem ledgerReset_member : OwnMember 0x9000 22 .bool :=
  ownMember_of_mem (ob := obj9000) (by simp [schema]) (i := 0) (by decide) rfl rfl rfl (by decide)

theorem invalidate_member : OwnMember 0xE010 1 .u32 :=
  ownMember_of_mem (ob := objE010) (by simp [schema]) (i := 0) (by decide) rfl rfl rfl (by decide)

theorem thermClear_member : OwnMember 0xA040 4 .bool :=
  ownMember_of_mem (ob := objA040) (by simp [schema]) (i := 0) (by decide) rfl rfl rfl (by decide)

theorem safetyClear_member : OwnMember 0xB000 4 .bool :=
  ownMember_of_mem (ob := objB000) (by simp [schema]) (i := 0) (by decide) rfl rfl rfl (by decide)

theorem safetyReset_member : OwnMember 0xB000 5 .bool :=
  ownMember_of_mem (ob := objB000) (by simp [schema]) (i := 0) (by decide) rfl rfl rfl (by decide)

theorem safetyTest_member : OwnMember 0xB000 9 .bool :=
  ownMember_of_mem (ob := objB000) (by simp [schema]) (i := 0) (by decide) rfl rfl rfl (by decide)

theorem safetyLock_member : OwnMember 0xB010 1 .bool :=
  ownMember_of_mem (ob := objB010) (by simp [schema]) (i := 0) (by decide) rfl rfl rfl (by decide)

theorem safetyPubkey_member : OwnMember 0xB010 2 .blob :=
  ownMember_of_mem (ob := objB010) (by simp [schema]) (i := 0) (by decide) rfl rfl rfl (by decide)

theorem safetyResponse_member : OwnMember 0xB010 4 .blob :=
  ownMember_of_mem (ob := objB010) (by simp [schema]) (i := 0) (by decide) rfl rfl rfl (by decide)

theorem switchover_member : OwnMember 0xC002 1 .bool :=
  ownMember_of_mem (ob := objC002) (by simp [schema]) (i := 0) (by decide) rfl rfl rfl (by decide)

theorem forceTakeover_member : OwnMember 0xC002 2 .bool :=
  ownMember_of_mem (ob := objC002) (by simp [schema]) (i := 0) (by decide) rfl rfl rfl (by decide)

theorem dataVal_bool (data : List Byte) : dataVal .bool data = .num (leNat data) := rfl
theorem dataVal_u32 (data : List Byte) : dataVal .u32 data = .num (leNat data) := rfl

/-! ### Each command, by what it acts on -/

theorem cmdChannel_display {o : Nat} (h : 0x9000 ≤ o) (m : Nat) : cmdChannel o m = none := by
  rw [cmdChannel, if_neg (by omega), if_neg (by omega), if_neg (by omega), if_neg (by omega)]

theorem applyField_display (s : State) {o : Nat} (h : 0x9000 ≤ o) (m : Nat) (v : Val) (sense : Option Nat) :
    applyField s o m v sense = if o = 0x9000 then onOne v s (ledgerReset s)
      else if m = 1 then dispWrite s (valBlob v) else dispWriteRow s (m - 2) (valBlob v) := by
  rw [applyField, cmdChannel_display h, if_neg (by decide), if_neg (by omega), if_neg (by omega), if_neg (by omega),
    if_neg (by omega), if_neg (by omega)]

section
variable (s : State) (e : Env) (v : Val)

theorem applyModule_thermClear : applyModule s e 0xA040 4 v = onOne v s (thermClear s) := rfl
theorem applyModule_safetyClear : applyModule s e 0xB000 4 v = onOne v s (safetyClear s) := rfl
theorem applyModule_safetyReset : applyModule s e 0xB000 5 v = onOne v s (restart s 6) := rfl
theorem applyModule_safetyTest : applyModule s e 0xB000 9 v = onOne v s (failModule s sfTest) := rfl
theorem applyModule_safetyLock : applyModule s e 0xB010 1 v = safetyLock s (valInt v) := rfl
theorem applyModule_safetyPubkey : applyModule s e 0xB010 2 v = safetyPubkey s (valBlob v) := rfl
theorem applyModule_switchover : applyModule s e 0xC002 1 v = onOne v s (switchover s) := rfl
theorem applyModule_forceTakeover : applyModule s e 0xC002 2 v = onOne v s (forceTakeover s) := rfl
theorem applyModule_invalidate : applyModule s e 0xE010 1 v = startInvalidate s (valNat v) := rfl

end

section
variable {s : State} {e : Env} {data : List Byte}

theorem exec_image_of_goes (h : WriteGoes s e 0x9010 1 data) : exec (.image e data) s =
    .next (answer (dispWrite (writing s e 0x9010 1 data) data) e 2 (statusBytes 0)) := by
  rw [exec_image, execImage, requestWrite_field image_member (by decide) (by decide) h, applyField_display _ (by decide),
    if_neg (by decide), if_pos rfl, dataVal_blob]
  rfl

theorem exec_row_of_goes {r : Nat} (hr : r < 6) (h : WriteGoes s e 0x9010 (2 + r) data) : exec (.row e r data) s =
    .next (answer (dispWriteRow (writing s e 0x9010 (2 + r) data) r data) e 2 (statusBytes 0)) := by
  rw [exec_row, execRow, requestWrite_field (row_member hr) (by decide) (by decide) h, applyField_display _ (by decide),
    if_neg (by decide), if_neg (by omega), Nat.add_sub_cancel_left, dataVal_blob]
  rfl

theorem exec_ledgerReset_of_goes (h : WriteGoes s e 0x9000 22 (bytes1 [1])) : exec (.ledgerReset e (bytes1 [1])) s =
    .next (answer (ledgerReset (writing s e 0x9000 22 (bytes1 [1]))) e 2 (statusBytes 0)) := by
  rw [exec_ledgerReset, execLedgerReset, requestWrite_field ledgerReset_member (by decide) (by decide) h,
    applyField_display _ (by decide), if_pos rfl, dataVal_bool_one, onOne_one]

theorem exec_invalidate_of_goes (h : WriteGoes s e 0xE010 1 data) : exec (.invalidate e data) s =
    .next (answer (startInvalidate (writing s e 0xE010 1 data) (leNat data)) e 2 (statusBytes 0)) := by
  rw [exec_invalidate, execInvalidate, requestWrite_module invalidate_member (by decide) (by decide) (by decide) h,
    applyModule_invalidate, dataVal_u32]
  rfl

theorem exec_thermClear_of_goes (h : WriteGoes s e 0xA040 4 (bytes1 [1])) : exec (.thermClear e (bytes1 [1])) s =
    .next (answer (thermClear (writing s e 0xA040 4 (bytes1 [1]))) e 2 (statusBytes 0)) := by
  rw [exec_thermClear, execThermClear, requestWrite_module thermClear_member (by decide) (by decide) (by decide) h,
    applyModule_thermClear, dataVal_bool_one, onOne_one]

theorem exec_safetyClear_of_goes (h : WriteGoes s e 0xB000 4 (bytes1 [1])) : exec (.safetyClear e (bytes1 [1])) s =
    .next (answer (safetyClear (writing s e 0xB000 4 (bytes1 [1]))) e 2 (statusBytes 0)) := by
  rw [exec_safetyClear, execSafetyClear, requestWrite_module safetyClear_member (by decide) (by decide) (by decide) h,
    applyModule_safetyClear, dataVal_bool_one, onOne_one]

/-- A write that restarts the module is not answered. -/
theorem exec_safetyReset_of_goes (h : WriteGoes s e 0xB000 5 (bytes1 [1])) : exec (.safetyReset e (bytes1 [1])) s =
    .next (restart (writing s e 0xB000 5 (bytes1 [1])) 6) := by
  rw [exec_safetyReset, execSafetyReset, requestWrite_carried h]
  dsimp only
  rw [if_pos (.inl (by simp [restarts])), applyWrite_own safetyReset_member (by decide) (by decide),
    applyRw_module (by decide), applyModule_safetyReset, dataVal_bool_one, onOne_one]

theorem exec_safetyTest_of_goes (h : WriteGoes s e 0xB000 9 (bytes1 [1])) : exec (.safetyTest e (bytes1 [1])) s =
    .next (answer (failModule (writing s e 0xB000 9 (bytes1 [1])) sfTest) e 2 (statusBytes 0)) := by
  rw [exec_safetyTest, execSafetyTest, requestWrite_module safetyTest_member (by decide) (by decide) (by decide) h,
    applyModule_safetyTest, dataVal_bool_one, onOne_one]

theorem exec_safetyLock_of_goes (h : WriteGoes s e 0xB010 1 data) : exec (.safetyLock e data) s =
    .next (answer (safetyLock (writing s e 0xB010 1 data) (leNat data)) e 2 (statusBytes 0)) := by
  rw [exec_safetyLock, execSafetyLock, requestWrite_module safetyLock_member (by decide) (by decide) (by decide) h,
    applyModule_safetyLock, dataVal_bool]
  rfl

theorem exec_safetyPubkey_of_goes (h : WriteGoes s e 0xB010 2 data) : exec (.safetyPubkey e data) s =
    .next (answer (safetyPubkey (writing s e 0xB010 2 data) data) e 2 (statusBytes 0)) := by
  rw [exec_safetyPubkey, execSafetyPubkey, requestWrite_module safetyPubkey_member (by decide) (by decide) (by decide) h,
    applyModule_safetyPubkey, dataVal_blob]
  rfl

theorem exec_safetyResponse_of_goes (h : WriteGoes s e 0xB010 4 data) : exec (.safetyResponse e data) s =
    let r := tryResponse (writing s e 0xB010 4 data) e.sess data
    .next (answer r.2 e 2 (statusBytes r.1)) := by
  obtain ⟨d, hd, hty, hacc⟩ := safetyResponse_member
  rw [exec_safetyResponse, execSafetyResponse, requestWrite_of_goes h (by decide) (by decide), applyWrite, hd]
  dsimp only
  rw [if_neg hacc, if_neg (by decide), if_pos ⟨rfl, rfl⟩, hty, dataVal_blob]
  rfl

theorem exec_switchover_of_goes (h : WriteGoes s e 0xC002 1 (bytes1 [1])) : exec (.switchover e (bytes1 [1])) s =
    .next (answer (switchover (writing s e 0xC002 1 (bytes1 [1]))) e 2 (statusBytes 0)) := by
  rw [exec_switchover, execSwitchover, requestWrite_module switchover_member (by decide) (by decide) (by decide) h,
    applyModule_switchover, dataVal_bool_one, onOne_one]

theorem exec_forceTakeover_of_goes (h : WriteGoes s e 0xC002 2 (bytes1 [1])) : exec (.forceTakeover e (bytes1 [1])) s =
    .next (answer (forceTakeover (writing s e 0xC002 2 (bytes1 [1]))) e 2 (statusBytes 0)) := by
  rw [exec_forceTakeover, execForceTakeover, requestWrite_module forceTakeover_member (by decide) (by decide) (by decide) h,
    applyModule_forceTakeover, dataVal_bool_one, onOne_one]

end

/-! ### The display (R226, R233) -/

theorem dispWrite_pending (s : State) (img : List Byte) : (dispWrite s img).disp.pending = img := rfl
theorem dispWrite_shown (s : State) (img : List Byte) : (dispWrite s img).disp.shown = s.disp.shown := rfl

/-- The 10 ms of R232 run while the pending image differs from the one shown. -/
theorem dispWrite_dirtySince (s : State) (img : List Byte) :
    (dispWrite s img).disp.dirtySince = none ↔ img = s.disp.shown := by
  rw [dispWrite, modDisp_disp]
  dsimp only
  split <;> simp [*]

theorem ledgerReset_disp_ledger (s : State) : (ledgerReset s).disp.ledger = [] := by
  rw [ledgerReset, sendMirror_disp]
  rfl

theorem ledgerReset_mram_ledger (s : State) : (ledgerReset s).mram.disp.ledger = [] := by
  rw [ledgerReset, sendMirror_mram]

/-- An empty ledger is within LEDGER_LIMIT. -/
theorem ledgerHigh_ledgerReset (s : State) : Flag.get (ledgerReset s).disp.flags dfLedgerHigh = false := by
  rw [ledgerReset, sendMirror_disp]
  exact (Flag.get_set_self _ _ (by decide)).trans (Bool.and_false _)

/-! ### Thermal management and the supervisor (R366, R380, R383, R385) -/

theorem thermClear_therm (s : State) : ∃ flags, (thermClear s).therm = { s.therm with
    flags := flags, dRestarts := [], lRestarts := [], dState := if s.therm.dState = 2 then 1 else s.therm.dState
    lState := if s.therm.lState = 2 then 0 else s.therm.lState } := ⟨_, rfl⟩

theorem faultNFollow_safety (s : State) : (faultNFollow s).safety =
    { s.safety with faultN := s.safety.st == 1 && released s && !configBad s } := rfl

/-- With no channel held and no loop stopped, a clear empties the failures and ends CHANNEL_FAULT. -/
theorem safetyClear_of_none {s : State} (hheld : ∀ h ∈ outEntries, (getSafe s (safeChan h)).active = false)
    (hstopped : ∀ p ∈ s.engine.loops, p.2.stopped = false) : safetyClear s =
      faultNFollow { s with safety := { s.safety with
        failures := 0, inputs := [], st := if s.safety.st = 2 then 1 else s.safety.st } } := by
  have hchannels : (outEntries.filter fun h => (getSafe s (safeChan h)).active) = [] :=
    List.filter_eq_nil_iff.mpr fun h hmem => by simp [hheld h hmem]
  have hloops : (s.engine.loops.filter fun p => p.2.stopped && p.2.enabled) = [] :=
    List.filter_eq_nil_iff.mpr fun p hmem => by simp [hstopped p hmem]
  rw [safetyClear, hchannels, hloops]
  rfl

theorem tearCopy_clk (s : State) : (tearCopy s).clk = s.clk :=
  tearCopy_within (bs := [.mram]) s (Within.refl _ s) (by decide) .clk (by decide)

theorem restart_clk (s : State) (cause : Nat) : (restart s cause).clk = s.clk :=
  (tearCopy_clk _).trans (pairGiveUp_clk s)

theorem restart_phase (s : State) (cause : Nat) : (restart s cause).power.phase = .reset := by
  rw [restart, resetState]

theorem restart_nextCause (s : State) (cause : Nat) : (restart s cause).power.nextCause = cause := by
  rw [restart, resetState]

theorem logEvent_dict (s : State) (type : Nat) (payload : List Byte) : (logEvent s type payload).dict = s.dict :=
  logEvent_within (bs := [.snap]) s type payload (Within.refl _ s) (by decide) .dict (by decide)

theorem committedVal_logEvent (s : State) (type : Nat) (payload : List Byte) (k : Nat) :
    committedVal (logEvent s type payload) k = committedVal s k :=
  committedVal_of_values (memberValues_of_dict (logEvent_dict s type payload)) k

theorem committedVal_safetyLock (s : State) (v : Int) : committedVal (safetyLock s v) 0xB01001 = .num v := by
  unfold safetyLock
  split
  · assumption
  · rw [committedVal_logEvent, committedVal_writeRw_self]

theorem committedVal_safetyPubkey (s : State) (l : List Byte) : committedVal (safetyPubkey s l) 0xB01002 = .bytes l := by
  rw [safetyPubkey, committedVal_logEvent, committedVal_writeRw_self]

/-! ### The role (R330, R333) -/

/-- The role of the module, its role line, and what it records of the last switchover. -/
def roleOf (p : Pair) : Nat × Bool × Nat := (p.role, p.selRole, p.lastCause)
def roleView (s : State) : (Nat × Bool × Nat) × Nat := (roleOf s.pair, s.mram.switchovers)

theorem roleView_of {s t : State} (hpair : t.pair = s.pair) (hmram : t.mram = s.mram) : roleView t = roleView s := by
  rw [roleView, hpair, hmram, roleView]

@[simp] theorem roleOf_frameOut (p : Pair) : roleOf (frameOut p) = roleOf p := by
  simp only [frameOut, apply_ite roleOf]
  exact ite_self _

theorem roleOf_noteLoss (s : State) (n : Nat) : roleOf (noteLoss s n).pair = roleOf s.pair := by
  unfold noteLoss
  split <;> rfl

@[simp] theorem roleView_sendMirror (s : State) (i : MirrorItem) : roleView (sendMirror s i) = roleView s := by
  have hrole : roleOf (sendMirror s i).pair = roleOf s.pair := by
    unfold sendMirror
    split
    · exact (roleOf_frameOut _).trans (roleOf_noteLoss s _)
    · rfl
  rw [roleView, hrole, sendMirror_mram, roleView]

@[simp] theorem roleView_modDisp (s : State) (f : Disp → Disp) : roleView (modDisp s f) = roleView s := rfl
@[simp] theorem roleView_dispStore (s : State) (cut : List (Nat × Nat × Nat)) : roleView (dispStore s cut) = roleView s := rfl

@[simp] theorem roleView_dispSync (s : State) : roleView (dispSync s) = roleView s := by
  have hsync : Within [.disp, .dict] s (dispSync s) := dispSync_within s (Within.refl _ s) (by decide) (by decide)
  exact roleView_of (hsync .pair (by decide)) (hsync .mram (by decide))

@[simp] theorem roleView_dispRestore (s : State) : roleView (dispRestore s) = roleView s :=
  roleView_of (dispRestore_leaves s .pair (by decide)) (dispRestore_leaves s .mram (by decide))

@[simp] theorem roleView_frameBegin (s : State) (start frame : Nat) (negativeFirst : Bool) :
    roleView (frameBegin s start frame negativeFirst) = roleView s := by
  unfold frameBegin
  simp only [apply_ite roleView, roleView_sendMirror, ite_self, roleView_modDisp, roleView_dispSync]

@[simp] theorem roleView_roundBegin (s : State) (waves : List SegWave) (routed replay : Bool) :
    roleView (roundBegin s waves routed replay) = roleView s := by
  unfold roundBegin
  simp only [apply_ite roleView, roleView_sendMirror, ite_self, roleView_modDisp]

@[simp] theorem roleView_replayBegin (s : State) : roleView (replayBegin s) = roleView s := by
  unfold replayBegin
  split
  · exact roleView_sendMirror ..
  · exact roleView_roundBegin ..

theorem roleView_panelBegin (s t : State) : roleView (panelBegin s t) = roleView t := by
  simp only [panelBegin, apply_ite roleView, roleView_dispStore, roleView_frameBegin, roleView_replayBegin, pendingShown,
    imageCompared, roleView_modDisp, ite_self]

@[simp] theorem roleView_dispBegin (s : State) : roleView (dispBegin s) = roleView s := by
  rw [dispBegin_eq, roleView_panelBegin]
  exact roleView_dispSync s

@[simp] theorem roleView_dispStart (s : State) : roleView (dispStart s) = roleView s := by
  simp only [dispStart, roleView_dispBegin, apply_ite roleView, roleView_dispRestore, ite_self, roleView_dispSync]

@[simp] theorem roleView_loopBegin (s : State) (n : Nat) : roleView (loopBegin s n) = roleView s := by
  have hbegin : Within [.engine] s (loopBegin s n) := loopBegin_within s n (Within.refl _ s) (by decide)
  exact roleView_of (hbegin .pair (by decide)) (hbegin .mram (by decide))

@[simp] theorem roleView_applyAll (s : State) : roleView (applyAll s) = roleView s := by
  have happly : Within [.free, .meas, .valve, .io, .fans, .dict, .mem] s (applyAll s) :=
    applyAll_within s (Within.refl _ s) (by decide) (by decide) (by decide) (by decide) (by decide) (by decide) (by decide)
  exact roleView_of (happly .pair (by decide)) (happly .mram (by decide))

@[simp] theorem roleView_logRole (s : State) (old new_ : Nat) (dual : Bool) :
    roleView (logRole s old new_ dual) = roleView s := by
  have hlog : Within [.snap] s (logRole s old new_ dual) :=
    logEvent_within s 0x0C01 _ (Within.refl _ s) (by decide)
  exact roleView_of (hlog .pair (by decide)) (hlog .mram (by decide))

theorem roleView_takeRole (s : State) (cause : Nat) :
    roleView (takeRole s cause) = ((1, true, cause), s.mram.switchovers + 1) := by
  rw [takeRole, roleView_logRole, apply_ite roleView]
  exact ite_self _

theorem roleView_forceTakeover (s : State) : roleView (forceTakeover s) = ((1, true, 4), s.mram.switchovers + 1) := by
  rw [forceTakeover, roleView_dispStart, roleView_applyAll]
  exact (forAll_leaves roleView roleView_loopBegin _ _).trans (roleView_takeRole s 4)

theorem switchover_role (s : State) : (switchover s).pair.role = s.pair.role := by
  have hrole : ∀ t, roleView t = roleView s → t.pair.role = s.pair.role := fun t h => congrArg (fun v => v.1.1) h
  rw [switchover, modPair_pair]
  exact hrole _ ((forAll_leaves roleView (fun s _ => roleView_sendMirror s _) _ _).trans
    (forAll_leaves roleView (fun s _ => roleView_sendMirror s _) _ s))

/-- Settles O55: each write is what its member's lemma says, carried out in the state that has heard the request. -/
theorem displaySafetyAndPairWrites : Obligations.DisplaySafetyAndPairWrites := by
  unfold Obligations.DisplaySafetyAndPairWrites
  refine ⟨fun s e data h => ⟨_, exec_image_of_goes h, ?image⟩, fun s e r data hr h => ⟨_, exec_row_of_goes hr h, ?row⟩,
    fun s e h => ⟨_, exec_ledgerReset_of_goes h, ?ledgerReset⟩,
    fun s e data h => ⟨_, exec_invalidate_of_goes h, ?invalidate⟩,
    fun s e h => ⟨_, exec_thermClear_of_goes h, ?thermClear⟩,
    fun s e h hheld hstopped => ⟨_, exec_safetyClear_of_goes h, ?safetyClear⟩,
    fun s e h => ⟨_, exec_safetyReset_of_goes h, ?safetyReset⟩,
    fun s e h hst => ⟨_, exec_safetyTest_of_goes h, ?safetyTest⟩,
    fun s e data h => ⟨_, exec_safetyLock_of_goes h, ?safetyLock⟩,
    fun s e data h => ⟨_, exec_safetyPubkey_of_goes h, ?safetyPubkey⟩,
    fun s e data h => ⟨_, exec_safetyResponse_of_goes h, ?safetyResponse⟩,
    fun s e h => ⟨_, exec_switchover_of_goes h, ?switchover⟩,
    fun s e h => ⟨_, exec_forceTakeover_of_goes h, ?forceTakeover⟩⟩
  case image =>
    rw [answer_disp, dispWrite_pending, dispWrite_shown, dispWrite_dirtySince, writing_disp]
    exact ⟨rfl, rfl, Iff.rfl⟩
  case row =>
    rw [answer_disp, dispWriteRow, dispWrite_pending, writing_disp]
  case ledgerReset =>
    rw [answer_disp, answer_mram]
    exact ⟨ledgerReset_disp_ledger _, ledgerReset_mram_ledger _, ledgerHigh_ledgerReset _⟩
  case invalidate =>
    rw [answer_mem]
    exact ⟨rfl, rfl, rfl⟩
  case thermClear =>
    obtain ⟨flags, hclear⟩ := thermClear_therm (writing s e 0xA040 4 (bytes1 [1]))
    rw [answer_therm, hclear, writing_therm]
    exact ⟨rfl, rfl, rfl, rfl⟩
  case safetyClear =>
    rw [answer_safety, safetyClear_of_none (by simpa only [getSafe, writing_safety] using hheld)
      (by rw [writing_engine]; exact hstopped), faultNFollow_safety]
    dsimp only
    rw [writing_safety]
    exact ⟨rfl, rfl, rfl⟩
  case safetyReset => exact ⟨restart_phase .., restart_nextCause .., (restart_clk ..).trans (writing_clk ..)⟩
  case safetyTest =>
    rw [answer_safety, failModule_safety (by rw [writing_safety]; exact hst), writing_clk]
    exact ⟨rfl, rfl, rfl, rfl, rfl⟩
  case safetyLock => rw [committedVal_answer, committedVal_safetyLock]
  case safetyPubkey => rw [committedVal_answer, committedVal_safetyPubkey]
  case safetyResponse =>
    obtain ⟨hchal, hlevel⟩ := Prod.mk.inj ((grantOf_answer ..).trans
      (grantOf_tryResponse (writing s e 0xB010 4 data) e.sess data))
    exact ⟨hchal, hlevel.trans (by rw [responseOk_writing])⟩
  case switchover =>
    rw [answer_pair, switchover_role, writing_pair]
    exact ⟨rfl, rfl⟩
  case forceTakeover =>
    have hview := roleView_forceTakeover (writing s e 0xC002 2 (bytes1 [1]))
    rw [writing_mram] at hview
    obtain ⟨hrole, hswitchovers⟩ := Prod.mk.inj hview
    obtain ⟨hactive, hline⟩ := Prod.mk.inj hrole
    obtain ⟨hsel, hcause⟩ := Prod.mk.inj hline
    rw [answer_pair, answer_mram]
    exact ⟨hactive, hsel, hcause, hswitchovers⟩

end Sys2Proof.Machine
end

section
/-! PROOFS. The queue of commands (00_scope, 95_what_each_step_holds): every command runs to a next state, leaves the queue and
the engine clock, keeps the machine sound, and writes only its own parts. -/

namespace Sys2Proof.Machine

/-! ### What every command keeps and writes -/

/-- Every command runs to a next state, with the queue and the engine clock as they were, and sound if the state was. -/
theorem exec_goes (s : State) : (c : Instr) → Goes s (exec c s)
  | .read env obj mem flags => execRead_keeps env obj mem flags s (.refl s)
  | .write env obj mem data => execWrite_keeps env obj mem data s (.refl s)
  | .commit env => execCommit_keeps env s (.refl s)
  | .abort env => execAbort_keeps env s (.refl s)
  | .segmentInitRead env count items => execSegmentInitRead_keeps env count items s (.refl s)
  | .segmentInitWrite env count total items => execSegmentInitWrite_keeps env count total items s (.refl s)
  | .segmentData env offset count data => execSegmentData_keeps env offset count data s (.refl s)
  | .segmentEnd env => execSegmentEnd_keeps env s (.refl s)
  | .segmentCancel env => execSegmentCancel_keeps env s (.refl s)
  | .segmentTimeout sess => execSegmentTimeout_keeps sess s (.refl s)
  | .bulkRead env count offset => execBulkRead_keeps env count offset s (.refl s)
  | .bulkWrite env count offset data => execBulkWrite_keeps env count offset data s (.refl s)
  | .event env max => execEvent_keeps env max s (.refl s)
  | .fetch frame clocked => execFetch_keeps frame clocked s (.refl s)
  | .hostPortReset => execHostPortReset_keeps s (.refl s)
  | .pendingTimeout sess => execPendingTimeout_keeps sess s (.refl s)
  | .accessRequest env data => execAccessRequest_keeps env data s (.refl s)
  | .accessCode env data => execAccessCode_keeps env data s (.refl s)
  | .codeLockoutEnd sess => execCodeLockoutEnd_keeps sess s (.refl s)
  | .accessTimeout sess => execAccessTimeout_keeps sess s (.refl s)
  | .copyWriteComplete ok => execCopyWriteComplete_keeps ok s (.refl s)
  | .persistentRwGeneration => execPersistentRwGeneration_keeps s (.refl s)
  | .imageKind env data => execImageKind_keeps env data s (.refl s)
  | .imageChunk env data => execImageChunk_keeps env data s (.refl s)
  | .imageVerify env data => execImageVerify_keeps env data s (.refl s)
  | .verifyComplete => execVerifyComplete_keeps s (.refl s)
  | .imageActivate env data => execImageActivate_keeps env data s (.refl s)
  | .fwConfirm env data => execFwConfirm_keeps env data s (.refl s)
  | .confirmTimeout => execConfirmTimeout_keeps s (.refl s)
  | .heartbeat => execHeartbeat_keeps s (.refl s)
  | .hostTimeout => execHostTimeout_keeps s (.refl s)
  | .warpCycleStart => execWarpCycleStart_keeps s (.refl s)
  | .mainsZero period ampl err => execMainsZero_keeps period ampl err s (.refl s)
  | .zeroMissing => execZeroMissing_keeps s (.refl s)
  | .holdoverExpiry => execHoldoverExpiry_keeps s (.refl s)
  | .alignResponse warpNow => execAlignResponse_keeps warpNow s (.refl s)
  | .alignRetry => execAlignRetry_keeps s (.refl s)
  | .clockFailure cause => execClockFailure_keeps cause s (.refl s)
  | .calNow env data => execCalNow_keeps env data s (.refl s)
  | .calSlew env data => execCalSlew_keeps env data s (.refl s)
  | .gridEvaluation => execGridEvaluation_keeps s (.refl s)
  | .astroComputation => execAstroComputation_keeps s (.refl s)
  | .crystalCompensation => execCrystalCompensation_keeps s (.refl s)
  | .armedSetSeal => execArmedSetSeal_keeps s (.refl s)
  | .armedCommand => execArmedCommand_keeps s (.refl s)
  | .calendarEventDue ev => execCalendarEventDue_keeps ev s (.refl s)
  | .transitionTimeout c => execTransitionTimeout_keeps c s (.refl s)
  | .minOnOffExpiry c => execMinOnOffExpiry_keeps c s (.refl s)
  | .learnedPersist => execLearnedPersist_keeps s (.refl s)
  | .learnReset env c data => execLearnReset_keeps env c data s (.refl s)
  | .override env c data => execOverride_keeps env c data s (.refl s)
  | .ruleRound overran => execRuleRound_keeps overran s (.refl s)
  | .arm env e data => execArm_keeps env e data s (.refl s)
  | .userEventAct e => execUserEventAct_keeps e s (.refl s)
  | .sampleTimer n => execSampleTimer_keeps n s (.refl s)
  | .warpSample n => execWarpSample_keeps n s (.refl s)
  | .loopSample n err => execLoopSample_keeps n err s (.refl s)
  | .laneTest lane ok => execLaneTest_keeps lane ok s (.refl s)
  | .statsReset env n data => execStatsReset_keeps env n data s (.refl s)
  | .mode env n data => execMode_keeps env n data s (.refl s)
  | .manOut env n data => execManOut_keeps env n data s (.refl s)
  | .rcClear env n data => execRcClear_keeps env n data s (.refl s)
  | .profile env n data => execProfile_keeps env n data s (.refl s)
  | .profileSave => execProfileSave_keeps s (.refl s)
  | .optimumStart => execOptimumStart_keeps s (.refl s)
  | .prestartTimeout z => execPrestartTimeout_keeps z s (.refl s)
  | .osLearnReset env z data => execOsLearnReset_keeps env z data s (.refl s)
  | .mtExpiry m => execMtExpiry_keeps m s (.refl s)
  | .conversionDue t => execConversionDue_keeps t s (.refl s)
  | .conversionStart adc => execConversionStart_keeps adc s (.refl s)
  | .continuousSlot pos => execContinuousSlot_keeps pos s (.refl s)
  | .conversionComplete adc l lB raw rawB => execConversionComplete_keeps adc l lB raw rawB s (.refl s)
  | .housekeepingRound => execHousekeepingRound_keeps s (.refl s)
  | .aiScan => execAiScan_keeps s (.refl s)
  | .shuntTrip k => execShuntTrip_keeps k s (.refl s)
  | .shuntReclose k => execShuntReclose_keeps k s (.refl s)
  | .aiClampEvent k driven => execAiClampEvent_keeps k driven s (.refl s)
  | .recoveringEnd k => execRecoveringEnd_keeps k s (.refl s)
  | .noiseMeasurement noiseA noiseB => execNoiseMeasurement_keeps noiseA noiseB s (.refl s)
  | .aoCmd env a data => execAoCmd_keeps env a data s (.refl s)
  | .aoFault a kind => execAoFault_keeps a kind s (.refl s)
  | .aoStatusClear a => execAoStatusClear_keeps a s (.refl s)
  | .vlvCmd env v data sense => execVlvCmd_keeps env v data sense s (.refl s)
  | .propCmd env v data => execPropCmd_keeps env v data s (.refl s)
  | .pulseExpiry v => execPulseExpiry_keeps v s (.refl s)
  | .cardStart v => execCardStart_keeps v s (.refl s)
  | .cardNop v => execCardNop_keeps v s (.refl s)
  | .cardRail v => execCardRail_keeps v s (.refl s)
  | .cardDecay v => execCardDecay_keeps v s (.refl s)
  | .cardChop v => execCardChop_keeps v s (.refl s)
  | .cardDrive v => execCardDrive_keeps v s (.refl s)
  | .cardOff v => execCardOff_keeps v s (.refl s)
  | .cardGrant v => execCardGrant_keeps v s (.refl s)
  | .cardRelease v => execCardRelease_keeps v s (.refl s)
  | .cardWait v => execCardWait_keeps v s (.refl s)
  | .cardWseat v => execCardWseat_keeps v s (.refl s)
  | .cardWcmd v => execCardWcmd_keeps v s (.refl s)
  | .cardWdrop v => execCardWdrop_keeps v s (.refl s)
  | .cardSeatcfg v => execCardSeatcfg_keeps v s (.refl s)
  | .cardMarkh v => execCardMarkh_keeps v s (.refl s)
  | .cardJmp v => execCardJmp_keeps v s (.refl s)
  | .cardJcmd v => execCardJcmd_keeps v s (.refl s)
  | .cardJlt v current => execCardJlt_keeps v current s (.refl s)
  | .cardJrlt v => execCardJrlt_keeps v s (.refl s)
  | .cardLstep v => execCardLstep_keeps v s (.refl s)
  | .cardLsave v => execCardLsave_keeps v s (.refl s)
  | .cardFlag v => execCardFlag_keeps v s (.refl s)
  | .cardEnd v => execCardEnd_keeps v s (.refl s)
  | .budgetGranted b => execBudgetGranted_keeps b s (.refl s)
  | .waitExpiry v => execWaitExpiry_keeps v s (.refl s)
  | .seatDetected v stamp eCoil eMag => execSeatDetected_keeps v stamp eCoil eMag s (.refl s)
  | .wseatTimeout v => execWseatTimeout_keeps v s (.refl s)
  | .dropoutDetected v => execDropoutDetected_keeps v s (.refl s)
  | .wdropTimeout v => execWdropTimeout_keeps v s (.refl s)
  | .decayComplete v => execDecayComplete_keeps v s (.refl s)
  | .chopperPeriodStart v => execChopperPeriodStart_keeps v s (.refl s)
  | .chopperOffEdge v => execChopperOffEdge_keeps v s (.refl s)
  | .learnWindowGrant v => execLearnWindowGrant_keeps v s (.refl s)
  | .wait5200Expiry v => execWait5200Expiry_keeps v s (.refl s)
  | .coilResMeasured v milliohm => execCoilResMeasured_keeps v milliohm s (.refl s)
  | .channelTrip v => execChannelTrip_keeps v s (.refl s)
  | .bankTrip b => execBankTrip_keeps b s (.refl s)
  | .offStateTest v openOff shortGnd shortSupply => execOffStateTest_keeps v openOff shortGnd shortSupply s (.refl s)
  | .onStateDiag v kind present => execOnStateDiag_keeps v kind present s (.refl s)
  | .vlvDiagClear env v data => execVlvDiagClear_keeps env v data s (.refl s)
  | .cardImage env j data => execCardImage_keeps env j data s (.refl s)
  | .ioInputSample io millivolt microamp => execIoInputSample_keeps io millivolt microamp s (.refl s)
  | .ioFilterExpiry io => execIoFilterExpiry_keeps io s (.refl s)
  | .tachEdge io => execTachEdge_keeps io s (.refl s)
  | .ioCmd env io data => execIoCmd_keeps env io data s (.refl s)
  | .ioCurrentLimit io current => execIoCurrentLimit_keeps io current s (.refl s)
  | .ioThermalShutdown io => execIoThermalShutdown_keeps io s (.refl s)
  | .ioThermalRestart io => execIoThermalRestart_keeps io s (.refl s)
  | .groupShed g currents => execGroupShed_keeps g currents s (.refl s)
  | .groupReinstate g => execGroupReinstate_keeps g s (.refl s)
  | .ioOutputDiag io kind present => execIoOutputDiag_keeps io kind present s (.refl s)
  | .ioDiagClear env io data => execIoDiagClear_keeps env io data s (.refl s)
  | .barrierFrame crcOk power => execBarrierFrame_keeps crcOk power s (.refl s)
  | .barrierLinkDown => execBarrierLinkDown_keeps s (.refl s)
  | .fwdRefresh => execFwdRefresh_keeps s (.refl s)
  | .fwdTrip => execFwdTrip_keeps s (.refl s)
  | .barrierSupplyLoss => execBarrierSupplyLoss_keeps s (.refl s)
  | .fwdRearm env data => execFwdRearm_keeps env data s (.refl s)
  | .supplyLost g => execSupplyLost_keeps g s (.refl s)
  | .supplyReturn g => execSupplyReturn_keeps g s (.refl s)
  | .ioModeChangeEnd io => execIoModeChangeEnd_keeps io s (.refl s)
  | .pwmPeriodStart k => execPwmPeriodStart_keeps k s (.refl s)
  | .pwmCentre k => execPwmCentre_keeps k s (.refl s)
  | .fanCmd env f data => execFanCmd_keeps env f data s (.refl s)
  | .speedEvaluation f measured => execSpeedEvaluation_keeps f measured s (.refl s)
  | .listenEnd k locked forward speed => execListenEnd_keeps k locked forward speed s (.refl s)
  | .zeroVectorEnd k => execZeroVectorEnd_keeps k s (.refl s)
  | .alignEnd k => execAlignEnd_keeps k s (.refl s)
  | .observerLock k => execObserverLock_keeps k s (.refl s)
  | .startAttemptFail k => execStartAttemptFail_keeps k s (.refl s)
  | .pauseEnd k => execPauseEnd_keeps k s (.refl s)
  | .blockedRestEnd k => execBlockedRestEnd_keeps k s (.refl s)
  | .phaseTrip k => execPhaseTrip_keeps k s (.refl s)
  | .lockLost k => execLockLost_keeps k s (.refl s)
  | .fanRestart k => execFanRestart_keeps k s (.refl s)
  | .ecTachLoss e mean => execEcTachLoss_keeps e mean s (.refl s)
  | .tableRead f => execTableRead_keeps f s (.refl s)
  | .fanDiagClear env f data => execFanDiagClear_keeps env f data s (.refl s)
  | .frameStart => execFrameStart_keeps s (.refl s)
  | .rowSlot => execRowSlot_keeps s (.refl s)
  | .displayBandEval => execDisplayBandEval_keeps s (.refl s)
  | .image env data => execImage_keeps env data s (.refl s)
  | .row env r data => execRow_keeps env r data s (.refl s)
  | .updateRoundStart => execUpdateRoundStart_keeps s (.refl s)
  | .updateRoundEnd => execUpdateRoundEnd_keeps s (.refl s)
  | .ledgerReset env data => execLedgerReset_keeps env data s (.refl s)
  | .vlcdFault millivolt => execVlcdFault_keeps millivolt s (.refl s)
  | .dispModeSwitchEnd => execDispModeSwitchEnd_keeps s (.refl s)
  | .scrubRead errs => execScrubRead_keeps errs s (.refl s)
  | .correctedWriteback mem offset => execCorrectedWriteback_keeps mem offset s (.refl s)
  | .heddleRewrite entry => execHeddleRewrite_keeps entry s (.refl s)
  | .spareMoveComplete => execSpareMoveComplete_keeps s (.refl s)
  | .invalidate env data => execInvalidate_keeps env data s (.refl s)
  | .invalidationComplete => execInvalidationComplete_keeps s (.refl s)
  | .thermalEvaluation => execThermalEvaluation_keeps s (.refl s)
  | .dieRestart die => execDieRestart_keeps die s (.refl s)
  | .thermClear env data => execThermClear_keeps env data s (.refl s)
  | .readbackCheck readings => execReadbackCheck_keeps readings s (.refl s)
  | .checkpoint core inOrder last => execCheckpoint_keeps core inOrder last s (.refl s)
  | .watchdogExpiry => execWatchdogExpiry_keeps s (.refl s)
  | .safeToggle => execSafeToggle_keeps s (.refl s)
  | .autoRestart => execAutoRestart_keeps s (.refl s)
  | .safetyClear env data => execSafetyClear_keeps env data s (.refl s)
  | .safetyReset env data => execSafetyReset_keeps env data s (.refl s)
  | .safetyTest env data => execSafetyTest_keeps env data s (.refl s)
  | .safetyLock env data => execSafetyLock_keeps env data s (.refl s)
  | .safetyPubkey env data => execSafetyPubkey_keeps env data s (.refl s)
  | .safetyChallenge env => execSafetyChallenge_keeps env s (.refl s)
  | .challengeExpiry sess => execChallengeExpiry_keeps sess s (.refl s)
  | .safetyResponse env data => execSafetyResponse_keeps env data s (.refl s)
  | .aliveTimer => execAliveTimer_keeps s (.refl s)
  | .alive lane crcOk info => execAlive_keeps lane crcOk info s (.refl s)
  | .mirror lane crcOk items => execMirror_keeps lane crcOk items s (.refl s)
  | .mirrorSend heddles => execMirrorSend_keeps heddles s (.refl s)
  | .config lane crcOk gen changes => execConfig_keeps lane crcOk gen changes s (.refl s)
  | .join lane crcOk part => execJoin_keeps lane crcOk part s (.refl s)
  | .relinquish lane crcOk => execRelinquish_keeps lane crcOk s (.refl s)
  | .taken lane crcOk => execTaken_keeps lane crcOk s (.refl s)
  | .selvedgeLaneDown lane => execSelvedgeLaneDown_keeps lane s (.refl s)
  | .selvedgeLinkDown => execSelvedgeLinkDown_keeps s (.refl s)
  | .selRoleToggle => execSelRoleToggle_keeps s (.refl s)
  | .selPeerEdge => execSelPeerEdge_keeps s (.refl s)
  | .selPeerIdle => execSelPeerIdle_keeps s (.refl s)
  | .roleDecisionTimeout => execRoleDecisionTimeout_keeps s (.refl s)
  | .dualActive => execDualActive_keeps s (.refl s)
  | .peerHeartbeat node role => execPeerHeartbeat_keeps node role s (.refl s)
  | .takeover => execTakeover_keeps s (.refl s)
  | .switchover env data => execSwitchover_keeps env data s (.refl s)
  | .takenTimeout => execTakenTimeout_keeps s (.refl s)
  | .forceTakeover env data => execForceTakeover_keeps env data s (.refl s)
  | .txFrame env x data => execTxFrame_keeps env x data s (.refl s)
  | .txCancel env x data => execTxCancel_keeps env x data s (.refl s)
  | .canTxComplete x => execCanTxComplete_keeps x s (.refl s)
  | .canFrameReceived x frame => execCanFrameReceived_keeps x frame s (.refl s)
  | .rxAck env x o data => execRxAck_keeps env x o data s (.refl s)
  | .record env x o => execRecord_keeps env x o s (.refl s)
  | .canError x kind transmitting amount => execCanError_keeps x kind transmitting amount s (.refl s)
  | .busoffHoldoffEnd x => execBusoffHoldoffEnd_keeps x s (.refl s)
  | .recover env x data => execRecover_keeps env x data s (.refl s)
  | .busOffRecovered x => execBusOffRecovered_keeps x s (.refl s)
  | .loneRetry x => execLoneRetry_keeps x s (.refl s)
  | .rateCandidateTimer x => execRateCandidateTimer_keeps x s (.refl s)
  | .reintegrationDone x => execReintegrationDone_keeps x s (.refl s)
  | .urgentDiscard x => execUrgentDiscard_keeps x s (.refl s)
  | .txDomTimeout x => execTxDomTimeout_keeps x s (.refl s)
  | .sleepReq env x data => execSleepReq_keeps env x data s (.refl s)
  | .sleepEntry x => execSleepEntry_keeps x s (.refl s)
  | .dominantWake x nanoseconds => execDominantWake_keeps x nanoseconds s (.refl s)
  | .wakeFrame x frame => execWakeFrame_keeps x frame s (.refl s)
  | .wakeErrorCount x error => execWakeErrorCount_keeps x error s (.refl s)
  | .trxOvertemp x hot => execTrxOvertemp_keeps x hot s (.refl s)
  | .canTriggerFrame x dest source data => execCanTriggerFrame_keeps x dest source data s (.refl s)
  | .snapTrigger env data => execSnapTrigger_keeps env data s (.refl s)
  | .trigInEdge rising => execTrigInEdge_keeps rising s (.refl s)
  | .armAt env slot data => execArmAt_keeps env slot data s (.refl s)
  | .armAtReached slot => execArmAtReached_keeps slot s (.refl s)
  | .captureCopyComplete => execCaptureCopyComplete_keeps s (.refl s)
  | .trigOutEnd => execTrigOutEnd_keeps s (.refl s)
  | .snapRelease env slot data => execSnapRelease_keeps env slot data s (.refl s)
  | .logWrite => execLogWrite_keeps s (.refl s)
  | .logRecord env => execLogRecord_keeps env s (.refl s)
  | .resetRelease => execResetRelease_keeps s (.refl s)
  | .resetN level => execResetN_keeps level s (.refl s)
  | .powerLoss => execPowerLoss_keeps s (.refl s)
  | .bootRomDone => execBootRomDone_keeps s (.refl s)
  | .signatureCheckDone badBoot badOther => execSignatureCheckDone_keeps badBoot badOther s (.refl s)
  | .repairMapResolve => execRepairMapResolve_keeps s (.refl s)
  | .memorySelfTest sramFails mramFails => execMemorySelfTest_keeps sramFails mramFails s (.refl s)
  | .configResolution vrtc rtcSec rtcFrac => execConfigResolution_keeps vrtc rtcSec rtcFrac s (.refl s)
  | .warpStepEnd => execWarpStepEnd_keeps s (.refl s)
  | .operational => execOperational_keeps s (.refl s)
  | .outputRelease => execOutputRelease_keeps s (.refl s)
  | .holdupMeasurement => execHoldupMeasurement_keeps s (.refl s)
  | .holdupMeasureEnd onset drain => execHoldupMeasureEnd_keeps onset drain s (.refl s)
  | .vinSag => execVinSag_keeps s (.refl s)
  | .saveDone bytes => execSaveDone_keeps bytes s (.refl s)
  | .brownoutClear => execBrownoutClear_keeps s (.refl s)
  | .slewEnd => execSlewEnd_keeps s (.refl s)

/-- A state that keeps the queue and the engine clock differs in parts that a command may write. -/
theorem Keeps.within_writable {s t : State} (h : Keeps s t) : Within writable s t := by
  intro b hb
  cases b with
  | clk => exact h.clk
  | pending => exact h.pending
  | _ => exact absurd (by decide) hb

theorem Goes.leads_writable {s : State} {o : Out} (h : Goes s o) : Leads writable s o := by
  obtain ⟨t, ho, ht⟩ := h
  exact ⟨t, ho, ht.within_writable⟩

/-- Every command writes its own parts only. -/
theorem exec_leads (s : State) (c : Instr) : Leads (blocksOf c) s (exec c s) := by
  have hwritable := (exec_goes s c).leads_writable
  cases c with (dsimp only [blocksOf, exec] at hwritable ⊢)
  | read => apply execRead_within (hk := .refl _ s) <;> decide
  | commit => apply execCommit_within (hk := .refl _ s) <;> decide
  | abort => apply execAbort_within (hk := .refl _ s) <;> decide
  | segmentInitRead => apply execSegmentInitRead_within (hk := .refl _ s) <;> decide
  | segmentInitWrite => apply execSegmentInitWrite_within (hk := .refl _ s) <;> decide
  | segmentData => apply execSegmentData_within (hk := .refl _ s) <;> decide
  | segmentCancel => apply execSegmentCancel_within (hk := .refl _ s) <;> decide
  | segmentTimeout => apply execSegmentTimeout_within (hk := .refl _ s); decide
  | bulkRead => apply execBulkRead_within (hk := .refl _ s) <;> decide
  | bulkWrite => apply execBulkWrite_within (hk := .refl _ s) <;> decide
  | event => apply execEvent_within (hk := .refl _ s) <;> decide
  | fetch => apply execFetch_within (hk := .refl _ s) <;> decide
  | hostPortReset => apply execHostPortReset_within (hk := .refl _ s) <;> decide
  | pendingTimeout => apply execPendingTimeout_within (hk := .refl _ s); decide
  | codeLockoutEnd => apply execCodeLockoutEnd_within (hk := .refl _ s); decide
  | accessTimeout => apply execAccessTimeout_within (hk := .refl _ s); decide
  | copyWriteComplete => apply execCopyWriteComplete_within (hk := .refl _ s) <;> decide
  | persistentRwGeneration => apply execPersistentRwGeneration_within (hk := .refl _ s); decide
  | verifyComplete => apply execVerifyComplete_within (hk := .refl _ s); decide
  | heartbeat => apply execHeartbeat_within (hk := .refl _ s) <;> decide
  | hostTimeout => apply execHostTimeout_within (hk := .refl _ s) <;> decide
  | mainsZero => apply execMainsZero_within (hk := .refl _ s); decide
  | zeroMissing => apply execZeroMissing_within (hk := .refl _ s); decide
  | holdoverExpiry => apply execHoldoverExpiry_within (hk := .refl _ s); decide
  | alignResponse => apply execAlignResponse_within (hk := .refl _ s); decide
  | alignRetry => apply execAlignRetry_within (hk := .refl _ s) <;> decide
  | clockFailure => apply execClockFailure_within (hk := .refl _ s) <;> decide
  | gridEvaluation => apply execGridEvaluation_within (hk := .refl _ s); decide
  | astroComputation => apply execAstroComputation_within (hk := .refl _ s); decide
  | crystalCompensation => apply execCrystalCompensation_within (hk := .refl _ s) <;> decide
  | armedSetSeal => apply execArmedSetSeal_within (hk := .refl _ s); decide
  | armedCommand => apply execArmedCommand_within (hk := .refl _ s) <;> decide
  | transitionTimeout => apply execTransitionTimeout_within (hk := .refl _ s); decide
  | minOnOffExpiry => apply execMinOnOffExpiry_within (hk := .refl _ s); decide
  | learnedPersist => apply execLearnedPersist_within (hk := .refl _ s) <;> decide
  | sampleTimer => apply execSampleTimer_within (hk := .refl _ s); decide
  | warpSample => apply execWarpSample_within (hk := .refl _ s); decide
  | loopSample => apply execLoopSample_within (hk := .refl _ s) <;> decide
  | laneTest => apply execLaneTest_within (hk := .refl _ s) <;> decide
  | profileSave => apply execProfileSave_within (hk := .refl _ s) <;> decide
  | optimumStart => apply execOptimumStart_within (hk := .refl _ s); decide
  | prestartTimeout => apply execPrestartTimeout_within (hk := .refl _ s); decide
  | mtExpiry => apply execMtExpiry_within (hk := .refl _ s); decide
  | conversionDue => apply execConversionDue_within (hk := .refl _ s); decide
  | conversionStart => apply execConversionStart_within (hk := .refl _ s); decide
  | continuousSlot => apply execContinuousSlot_within (hk := .refl _ s); decide
  | conversionComplete => apply execConversionComplete_within (hk := .refl _ s) <;> decide
  | housekeepingRound => apply execHousekeepingRound_within (hk := .refl _ s); decide
  | aiScan => apply execAiScan_within (hk := .refl _ s); decide
  | shuntTrip => apply execShuntTrip_within (hk := .refl _ s); decide
  | shuntReclose => apply execShuntReclose_within (hk := .refl _ s); decide
  | aiClampEvent => apply execAiClampEvent_within (hk := .refl _ s); decide
  | recoveringEnd => apply execRecoveringEnd_within (hk := .refl _ s); decide
  | noiseMeasurement => apply execNoiseMeasurement_within (hk := .refl _ s); decide
  | aoFault => apply execAoFault_within (hk := .refl _ s); decide
  | aoStatusClear => apply execAoStatusClear_within (hk := .refl _ s); decide
  | pulseExpiry => apply execPulseExpiry_within (hk := .refl _ s) <;> decide
  | cardStart => apply execCardStart_within (hk := .refl _ s) <;> decide
  | cardNop => apply execCardNop_within (hk := .refl _ s); decide
  | cardRail => apply execCardRail_within (hk := .refl _ s); decide
  | cardDecay => apply execCardDecay_within (hk := .refl _ s); decide
  | cardChop => apply execCardChop_within (hk := .refl _ s); decide
  | cardDrive => apply execCardDrive_within (hk := .refl _ s); decide
  | cardOff => apply execCardOff_within (hk := .refl _ s); decide
  | cardGrant => apply execCardGrant_within (hk := .refl _ s); decide
  | cardRelease => apply execCardRelease_within (hk := .refl _ s); decide
  | cardWait => apply execCardWait_within (hk := .refl _ s); decide
  | cardWseat => apply execCardWseat_within (hk := .refl _ s); decide
  | cardWcmd => apply execCardWcmd_within (hk := .refl _ s); decide
  | cardWdrop => apply execCardWdrop_within (hk := .refl _ s); decide
  | cardSeatcfg => apply execCardSeatcfg_within (hk := .refl _ s); decide
  | cardMarkh => apply execCardMarkh_within (hk := .refl _ s); decide
  | cardJmp => apply execCardJmp_within (hk := .refl _ s); decide
  | cardJcmd => apply execCardJcmd_within (hk := .refl _ s); decide
  | cardJlt => apply execCardJlt_within (hk := .refl _ s); decide
  | cardJrlt => apply execCardJrlt_within (hk := .refl _ s); decide
  | cardLstep => apply execCardLstep_within (hk := .refl _ s); decide
  | cardLsave => apply execCardLsave_within (hk := .refl _ s); decide
  | cardFlag => apply execCardFlag_within (hk := .refl _ s); decide
  | cardEnd => apply execCardEnd_within (hk := .refl _ s) <;> decide
  | budgetGranted => apply execBudgetGranted_within (hk := .refl _ s) <;> decide
  | waitExpiry => apply execWaitExpiry_within (hk := .refl _ s); decide
  | seatDetected => apply execSeatDetected_within (hk := .refl _ s) <;> decide
  | wseatTimeout => apply execWseatTimeout_within (hk := .refl _ s); decide
  | dropoutDetected => apply execDropoutDetected_within (hk := .refl _ s); decide
  | wdropTimeout => apply execWdropTimeout_within (hk := .refl _ s); decide
  | decayComplete => apply execDecayComplete_within (hk := .refl _ s); decide
  | chopperPeriodStart => apply execChopperPeriodStart_within (hk := .refl _ s) <;> decide
  | chopperOffEdge => apply execChopperOffEdge_within (hk := .refl _ s) <;> decide
  | learnWindowGrant => apply execLearnWindowGrant_within (hk := .refl _ s); decide
  | wait5200Expiry => apply execWait5200Expiry_within (hk := .refl _ s); decide
  | coilResMeasured => apply execCoilResMeasured_within (hk := .refl _ s); decide
  | channelTrip => apply execChannelTrip_within (hk := .refl _ s) <;> decide
  | bankTrip => apply execBankTrip_within (hk := .refl _ s) <;> decide
  | offStateTest => apply execOffStateTest_within (hk := .refl _ s); decide
  | onStateDiag => apply execOnStateDiag_within (hk := .refl _ s); decide
  | ioInputSample => apply execIoInputSample_within (hk := .refl _ s) <;> decide
  | ioFilterExpiry => apply execIoFilterExpiry_within (hk := .refl _ s) <;> decide
  | tachEdge => apply execTachEdge_within (hk := .refl _ s) <;> decide
  | ioCurrentLimit => apply execIoCurrentLimit_within (hk := .refl _ s); decide
  | ioThermalShutdown => apply execIoThermalShutdown_within (hk := .refl _ s) <;> decide
  | ioThermalRestart => apply execIoThermalRestart_within (hk := .refl _ s) <;> decide
  | groupShed => apply execGroupShed_within (hk := .refl _ s) <;> decide
  | groupReinstate => apply execGroupReinstate_within (hk := .refl _ s) <;> decide
  | ioOutputDiag => apply execIoOutputDiag_within (hk := .refl _ s); decide
  | barrierFrame => apply execBarrierFrame_within (hk := .refl _ s) <;> decide
  | barrierLinkDown => apply execBarrierLinkDown_within (hk := .refl _ s) <;> decide
  | fwdRefresh => apply execFwdRefresh_within (hk := .refl _ s); decide
  | fwdTrip => apply execFwdTrip_within (hk := .refl _ s) <;> decide
  | barrierSupplyLoss => apply execBarrierSupplyLoss_within (hk := .refl _ s) <;> decide
  | supplyLost => apply execSupplyLost_within (hk := .refl _ s) <;> decide
  | supplyReturn => apply execSupplyReturn_within (hk := .refl _ s) <;> decide
  | ioModeChangeEnd => apply execIoModeChangeEnd_within (hk := .refl _ s) <;> decide
  | pwmPeriodStart => apply execPwmPeriodStart_within (hk := .refl _ s) <;> decide
  | pwmCentre => apply execPwmCentre_within (hk := .refl _ s); decide
  | speedEvaluation => apply execSpeedEvaluation_within (hk := .refl _ s) <;> decide
  | listenEnd => apply execListenEnd_within (hk := .refl _ s); decide
  | zeroVectorEnd => apply execZeroVectorEnd_within (hk := .refl _ s); decide
  | alignEnd => apply execAlignEnd_within (hk := .refl _ s); decide
  | observerLock => apply execObserverLock_within (hk := .refl _ s); decide
  | startAttemptFail => apply execStartAttemptFail_within (hk := .refl _ s) <;> decide
  | pauseEnd => apply execPauseEnd_within (hk := .refl _ s); decide
  | blockedRestEnd => apply execBlockedRestEnd_within (hk := .refl _ s); decide
  | phaseTrip => apply execPhaseTrip_within (hk := .refl _ s) <;> decide
  | lockLost => apply execLockLost_within (hk := .refl _ s); decide
  | fanRestart => apply execFanRestart_within (hk := .refl _ s) <;> decide
  | ecTachLoss => apply execEcTachLoss_within (hk := .refl _ s) <;> decide
  | tableRead => apply execTableRead_within (hk := .refl _ s) <;> decide
  | frameStart => apply execFrameStart_within (hk := .refl _ s) <;> decide
  | rowSlot => apply execRowSlot_within (hk := .refl _ s); decide
  | displayBandEval => apply execDisplayBandEval_within (hk := .refl _ s); decide
  | updateRoundStart => apply execUpdateRoundStart_within (hk := .refl _ s) <;> decide
  | updateRoundEnd => apply execUpdateRoundEnd_within (hk := .refl _ s) <;> decide
  | vlcdFault => apply execVlcdFault_within (hk := .refl _ s); decide
  | dispModeSwitchEnd => apply execDispModeSwitchEnd_within (hk := .refl _ s) <;> decide
  | scrubRead => apply execScrubRead_within (hk := .refl _ s) <;> decide
  | correctedWriteback => apply execCorrectedWriteback_within (hk := .refl _ s) <;> decide
  | heddleRewrite => apply execHeddleRewrite_within (hk := .refl _ s); decide
  | spareMoveComplete => apply execSpareMoveComplete_within (hk := .refl _ s) <;> decide
  | invalidationComplete => apply execInvalidationComplete_within (hk := .refl _ s); decide
  | thermalEvaluation => apply execThermalEvaluation_within (hk := .refl _ s) <;> decide
  | readbackCheck => apply execReadbackCheck_within (hk := .refl _ s) <;> decide
  | checkpoint => apply execCheckpoint_within (hk := .refl _ s) <;> decide
  | watchdogExpiry => apply execWatchdogExpiry_within (hk := .refl _ s) <;> decide
  | safeToggle => apply execSafeToggle_within (hk := .refl _ s); decide
  | safetyChallenge => apply execSafetyChallenge_within (hk := .refl _ s) <;> decide
  | challengeExpiry => apply execChallengeExpiry_within (hk := .refl _ s); decide
  | aliveTimer => apply execAliveTimer_within (hk := .refl _ s); decide
  | alive => apply execAlive_within (hk := .refl _ s) <;> decide
  | mirror => apply execMirror_within (hk := .refl _ s) <;> decide
  | mirrorSend => apply execMirrorSend_within (hk := .refl _ s); decide
  | config => apply execConfig_within (hk := .refl _ s) <;> decide
  | join => apply execJoin_within (hk := .refl _ s) <;> decide
  | relinquish => apply execRelinquish_within (hk := .refl _ s); decide
  | taken => apply execTaken_within (hk := .refl _ s) <;> decide
  | selvedgeLaneDown => apply execSelvedgeLaneDown_within (hk := .refl _ s); decide
  | selvedgeLinkDown => apply execSelvedgeLinkDown_within (hk := .refl _ s); decide
  | selRoleToggle => apply execSelRoleToggle_within (hk := .refl _ s); decide
  | selPeerEdge => apply execSelPeerEdge_within (hk := .refl _ s) <;> decide
  | selPeerIdle => apply execSelPeerIdle_within (hk := .refl _ s); decide
  | roleDecisionTimeout => apply execRoleDecisionTimeout_within (hk := .refl _ s); decide
  | dualActive => apply execDualActive_within (hk := .refl _ s) <;> decide
  | peerHeartbeat => apply execPeerHeartbeat_within (hk := .refl _ s) <;> decide
  | takeover => apply execTakeover_within (hk := .refl _ s) <;> decide
  | takenTimeout => apply execTakenTimeout_within (hk := .refl _ s) <;> decide
  | canTxComplete => apply execCanTxComplete_within (hk := .refl _ s) <;> decide
  | record => apply execRecord_within (hk := .refl _ s) <;> decide
  | canError => apply execCanError_within (hk := .refl _ s) <;> decide
  | busoffHoldoffEnd => apply execBusoffHoldoffEnd_within (hk := .refl _ s) <;> decide
  | busOffRecovered => apply execBusOffRecovered_within (hk := .refl _ s) <;> decide
  | loneRetry => apply execLoneRetry_within (hk := .refl _ s); decide
  | rateCandidateTimer => apply execRateCandidateTimer_within (hk := .refl _ s); decide
  | reintegrationDone => apply execReintegrationDone_within (hk := .refl _ s) <;> decide
  | urgentDiscard => apply execUrgentDiscard_within (hk := .refl _ s); decide
  | txDomTimeout => apply execTxDomTimeout_within (hk := .refl _ s); decide
  | sleepEntry => apply execSleepEntry_within (hk := .refl _ s) <;> decide
  | dominantWake => apply execDominantWake_within (hk := .refl _ s) <;> decide
  | wakeFrame => apply execWakeFrame_within (hk := .refl _ s) <;> decide
  | wakeErrorCount => apply execWakeErrorCount_within (hk := .refl _ s) <;> decide
  | trxOvertemp => apply execTrxOvertemp_within (hk := .refl _ s) <;> decide
  | canTriggerFrame => apply execCanTriggerFrame_within (hk := .refl _ s) <;> decide
  | trigInEdge => apply execTrigInEdge_within (hk := .refl _ s) <;> decide
  | armAtReached => apply execArmAtReached_within (hk := .refl _ s) <;> decide
  | captureCopyComplete => apply execCaptureCopyComplete_within (hk := .refl _ s) <;> decide
  | trigOutEnd => apply execTrigOutEnd_within (hk := .refl _ s); decide
  | logWrite => apply execLogWrite_within (hk := .refl _ s) <;> decide
  | logRecord => apply execLogRecord_within (hk := .refl _ s) <;> decide
  | bootRomDone => apply execBootRomDone_within (hk := .refl _ s) <;> decide
  | signatureCheckDone => apply execSignatureCheckDone_within (hk := .refl _ s) <;> decide
  | repairMapResolve => apply execRepairMapResolve_within (hk := .refl _ s) <;> decide
  | memorySelfTest => apply execMemorySelfTest_within (hk := .refl _ s) <;> decide
  | configResolution => apply execConfigResolution_within (hk := .refl _ s) <;> decide
  | warpStepEnd => apply execWarpStepEnd_within (hk := .refl _ s); decide
  | operational => apply execOperational_within (hk := .refl _ s) <;> decide
  | outputRelease => apply execOutputRelease_within (hk := .refl _ s) <;> decide
  | holdupMeasurement => apply execHoldupMeasurement_within (hk := .refl _ s); decide
  | holdupMeasureEnd => apply execHoldupMeasureEnd_within (hk := .refl _ s) <;> decide
  | saveDone => apply execSaveDone_within (hk := .refl _ s) <;> decide
  | brownoutClear => apply execBrownoutClear_within (hk := .refl _ s) <;> decide
  | slewEnd => apply execSlewEnd_within (hk := .refl _ s); decide
  | write | segmentEnd | accessRequest | accessCode | imageKind | imageChunk | imageVerify | imageActivate
  | fwConfirm | confirmTimeout | warpCycleStart | calNow | calSlew | calendarEventDue | learnReset | override
  | ruleRound | arm | userEventAct | statsReset | mode | manOut | rcClear | profile | osLearnReset | aoCmd | vlvCmd
  | propCmd | vlvDiagClear | cardImage | ioCmd | ioDiagClear | fwdRearm | fanCmd | fanDiagClear | image | row
  | ledgerReset | invalidate | dieRestart | thermClear | autoRestart | safetyClear | safetyReset | safetyTest
  | safetyLock | safetyPubkey | safetyResponse | switchover | forceTakeover | txFrame | txCancel | canFrameReceived
  | rxAck | recover | sleepReq | snapTrigger | armAt | snapRelease | resetRelease | resetN | powerLoss | vinSag =>
    exact hwritable

/-! ### The steps of the block -/

theorem step_of_pending_cons {s : State} {c : Instr} {rest : List Instr} (h : s.pending = c :: rest) :
    step s = exec c { s with pending := rest } := by
  unfold step
  rw [h]

/-- Settles O1. -/
theorem stepRunsTheFrontCommand : Obligations.StepRunsTheFrontCommand :=
  fun _ _ _ h => step_of_pending_cons h

/-- A step with commands waiting takes one, and no engine clock passes. -/
theorem step_takes_front {s : State} {c : Instr} {rest : List Instr} (h : s.pending = c :: rest) :
    ∃ t, step s = .next t ∧ t.pending = rest ∧ t.clk = s.clk := by
  obtain ⟨t, ht, hkeeps⟩ := exec_goes { s with pending := rest } c
  exact ⟨t, (step_of_pending_cons h).trans ht, hkeeps.pending, hkeeps.clk⟩

theorem run_succ {M : Host.Core} {k : Nat} {s u : M.State} (h : M.step s = .next u) : M.run (k + 1) s = M.run k u := by
  rw [Host.Core.run, h]

/-- As many steps as commands wait empty the queue. -/
theorem run_drains (l : List Instr) : ∀ s : State, s.pending = l →
    ∃ t, Sys2Proof.core.run l.length s = .next t ∧ t.pending = [] ∧ t.clk = s.clk := by
  induction l with
  | nil => exact fun s h => ⟨s, rfl, h, rfl⟩
  | cons c rest ih =>
    intro s h
    obtain ⟨u, hstep, hrest, hclk⟩ := step_takes_front h
    obtain ⟨t, hrun, hempty, hclk'⟩ := ih u hrest
    exact ⟨t, (run_succ (M := Sys2Proof.core) hstep).trans hrun, hempty, hclk'.trans hclk⟩

/-- Settles O2: one step at a time, and by induction on the queue. -/
theorem everyCommandCompletesAndTheQueueDrains : Obligations.EveryCommandCompletesAndTheQueueDrains :=
  ⟨fun _ _ _ h => step_takes_front h, fun s => run_drains s.pending s rfl⟩

/-- Settles O4: a command answers one state, which differs in its own parts only. -/
theorem commandsWriteOnlyTheirBlocks : Obligations.CommandsWriteOnlyTheirBlocks := by
  intro c s t ht
  obtain ⟨u, hu, hwithin⟩ := exec_leads s c
  rw [hu] at ht
  cases ht
  exact hwithin

/-- Settles O5: at reset the memories and the queues are empty. -/
theorem resetIsSound : Obligations.ResetIsSound := by
  refine ⟨rfl, rfl, ?_, ?_, ?_, ?_⟩ <;> exact Nat.zero_le _

/-- Settles O6: a step is an engine clock or a command, and both keep the machine sound. -/
theorem stepsKeepTheMachineSound : Obligations.StepsKeepTheMachineSound := by
  intro s t hs ht
  cases h : s.pending with
  | nil =>
    rw [step_of_pending_nil h] at ht
    cases ht
    exact tick_sound hs
  | cons c rest =>
    obtain ⟨u, hu, hkeeps⟩ := exec_goes { s with pending := rest } c
    rw [step_of_pending_cons h, hu] at ht
    cases ht
    exact hkeeps.sound ⟨hs.sram, hs.cards, hs.ring, hs.queue, hs.hostEvents, hs.nodeEvents⟩

end Sys2Proof.Machine
end

section
/-! PROOFS. A request that is served (12_host_port_and_services, R270–R273): what hearing it and answering it leave of the module,
of the dictionary and of its session; and what its execution makes of the state. -/

namespace Sys2Proof.Machine

/-! ### What hearing a request leaves -/

/-- What hearing a request leaves of the dictionary and of a session's record. -/
def Dict.unheard (d : Dict) : Dict := { d with sessions := [], dropped := 0 }
def SessRec.unheard (r : SessRec) : SessRec :=
  { r with level := 0, lastReq := 0, seen := false, pending := [], cursor := 0, prev := none }

/-- The dictionary and the session `x`, but for what hearing a request changes. -/
def sessView (x : Sess) (s : State) : Dict × SessRec := (s.dict.unheard, (getSess s x).unheard)

theorem sessView_of_dict {s t : State} (h : t.dict = s.dict) (x : Sess) : sessView x t = sessView x s := by
  rw [sessView, getSess_of_dict h, h, sessView]

theorem getSess_modSess (s : State) (x y : Sess) (f : SessRec → SessRec) :
    getSess (modSess s x f) y = if sessKey y = sessKey x then f (getSess s x) else getSess s y :=
  Table.getD_modify ..

/-- A change of what a view of the records leaves out. -/
theorem view_modSess {α : Type} {v : SessRec → α} {f : SessRec → SessRec} (hf : ∀ r, v (f r) = v r) (s : State) (x y : Sess) :
    v (getSess (modSess s x f) y) = v (getSess s y) := by
  rw [getSess_modSess]
  split
  · next hkey => rw [hf, getSess, getSess, hkey]
  · rfl

theorem sessView_modSess {f : SessRec → SessRec} (hf : ∀ r, (f r).unheard = r.unheard) (s : State) (x y : Sess) :
    sessView y (modSess s x f) = sessView y s := Prod.ext rfl (view_modSess hf s x y)

theorem sessView_dropPending (s : State) (x y : Sess) : sessView y (dropPending s x) = sessView y s := by
  unfold dropPending
  split
  · rfl
  · exact sessView_modSess (f := fun r => { r with pending := [] }) (fun _ => rfl) s x y

theorem sessView_sessExpire (s : State) (x y : Sess) : sessView y (sessExpire s x) = sessView y s := by
  have hlevel (t : State) : sessView y (modSess t x fun r => { r with level := 0 }) = sessView y t :=
    sessView_modSess (by intro; rfl) t x y
  simp only [sessExpire, apply_ite (sessView y), hlevel, sessView_dropPending, ite_self]

theorem sessView_touch (s : State) (x y : Sess) : sessView y (touch s x) = sessView y s := by
  unfold touch
  dsimp only
  rw [apply_ite (sessView y), sessView_of_dict (managerHeard_dict _), ite_self, sessView_modSess, sessView_sessExpire]
  exact fun _ => rfl

section
variable (s : State) (e : Env) (svc : Nat) (payload : List Byte)

theorem sessView_heard (x : Sess) : sessView x (heard s e svc payload) = sessView x s := by
  rw [heard, notePrev, sessView_modSess, sessView_touch, sessView_of_dict (arrives_dict ..)]
  exact fun _ => rfl

/-- A request that is heard writes its session, its carrier and, ending the manager's silence, the fans. -/
theorem heard_within : Within [.free, .io, .fans, .dict, .host, .mem, .snap] s (heard s e svc payload) :=
  notePrev_within _ _ _ (touch_within _ _ (arrives_within _ _ _ (Within.refl _ s) (by decide)) (by decide) (by decide)
    (by decide) (by decide) (by decide) (by decide) (by decide)) (by decide)

@[simp] theorem heard_clk : (heard s e svc payload).clk = s.clk := heard_within s e svc payload .clk (by decide)
@[simp] theorem heard_power : (heard s e svc payload).power = s.power := heard_within s e svc payload .power (by decide)
@[simp] theorem heard_can : (heard s e svc payload).can = s.can := heard_within s e svc payload .can (by decide)
@[simp] theorem heard_images : (heard s e svc payload).images = s.images := heard_within s e svc payload .images (by decide)
@[simp] theorem heard_mram : (heard s e svc payload).mram = s.mram := heard_within s e svc payload .mram (by decide)
@[simp] theorem heard_warp : (heard s e svc payload).warp = s.warp := heard_within s e svc payload .warp (by decide)

theorem unheard_dict_heard : (heard s e svc payload).dict.unheard = s.dict.unheard :=
  (Prod.mk.inj (sessView_heard s e svc payload .host)).1

@[simp] theorem heard_committed : (heard s e svc payload).dict.committed = s.dict.committed := by
  simpa only [Dict.unheard] using congrArg Dict.committed (unheard_dict_heard s e svc payload)
@[simp] theorem heard_force : (heard s e svc payload).dict.force = s.dict.force := by
  simpa only [Dict.unheard] using congrArg Dict.force (unheard_dict_heard s e svc payload)
@[simp] theorem memberValues_heard : memberValues (heard s e svc payload) = memberValues s := by
  rw [memberValues, heard_committed, heard_force, memberValues]

@[simp] theorem heard_gen : (heard s e svc payload).dict.gen = s.dict.gen := by
  simpa only [Dict.unheard] using congrArg Dict.gen (unheard_dict_heard s e svc payload)
@[simp] theorem heard_st : (heard s e svc payload).dict.st = s.dict.st := by
  simpa only [Dict.unheard] using congrArg Dict.st (unheard_dict_heard s e svc payload)
@[simp] theorem heard_job : (heard s e svc payload).dict.job = s.dict.job := by
  simpa only [Dict.unheard] using congrArg Dict.job (unheard_dict_heard s e svc payload)

variable (x : Sess)

theorem unheard_sess_heard : (getSess (heard s e svc payload) x).unheard = (getSess s x).unheard :=
  (Prod.mk.inj (sessView_heard s e svc payload x)).2

@[simp] theorem heard_seg : (getSess (heard s e svc payload) x).seg = (getSess s x).seg := by
  simpa only [SessRec.unheard] using congrArg SessRec.seg (unheard_sess_heard s e svc payload x)
@[simp] theorem heard_asked : (getSess (heard s e svc payload) x).asked = (getSess s x).asked := by
  simpa only [SessRec.unheard] using congrArg SessRec.asked (unheard_sess_heard s e svc payload x)
@[simp] theorem heard_wrongAt : (getSess (heard s e svc payload) x).wrongAt = (getSess s x).wrongAt := by
  simpa only [SessRec.unheard] using congrArg SessRec.wrongAt (unheard_sess_heard s e svc payload x)

@[simp] theorem getCan_heard (k : Nat) : getCan (heard s e svc payload) k = getCan s k := by rw [getCan, heard_can, getCan]
@[simp] theorem inRecovery_heard : inRecovery (heard s e svc payload) = inRecovery s := by rw [inRecovery, heard_power, inRecovery]
@[simp] theorem beforeRelease_heard : beforeRelease (heard s e svc payload) = beforeRelease s := by
  rw [beforeRelease, heard_power, beforeRelease]
@[simp] theorem configBad_heard : configBad (heard s e svc payload) = configBad s := by rw [configBad, heard_st, configBad]

end

/-! ### What an answer leaves -/

/-- A session's record but for the request that it remembers. -/
def SessRec.withoutPrev (r : SessRec) : SessRec := { r with prev := none }

section
variable (s : State) (e : Env) (svc : Nat) (payload : List Byte)

theorem withoutPrev_answer (x : Sess) : (getSess (answer s e svc payload) x).withoutPrev = (getSess s x).withoutPrev := by
  rw [answer, getSess_of_dict (sendResponse_dict ..)]
  exact view_modSess (v := SessRec.withoutPrev) (by intro; rfl) s e.sess x

/-- An answer changes its session's record only. -/
theorem answer_dict : (answer s e svc payload).dict = { s.dict with sessions := (answer s e svc payload).dict.sessions } := by
  rw [answer, sendResponse_dict]
  rfl

@[simp] theorem answer_committed : (answer s e svc payload).dict.committed = s.dict.committed := by rw [answer_dict]
@[simp] theorem answer_force : (answer s e svc payload).dict.force = s.dict.force := by rw [answer_dict]
@[simp] theorem answer_gen : (answer s e svc payload).dict.gen = s.dict.gen := by rw [answer_dict]
@[simp] theorem answer_job : (answer s e svc payload).dict.job = s.dict.job := by rw [answer_dict]

@[simp] theorem answer_clk : (answer s e svc payload).clk = s.clk := answer_leaves s e svc payload .clk (by decide)
@[simp] theorem answer_free : (answer s e svc payload).free = s.free := answer_leaves s e svc payload .free (by decide)
@[simp] theorem answer_power : (answer s e svc payload).power = s.power := answer_leaves s e svc payload .power (by decide)
@[simp] theorem answer_images : (answer s e svc payload).images = s.images := answer_leaves s e svc payload .images (by decide)
@[simp] theorem answer_snap : (answer s e svc payload).snap = s.snap := answer_leaves s e svc payload .snap (by decide)

variable (x : Sess)

@[simp] theorem answer_level : (getSess (answer s e svc payload) x).level = (getSess s x).level := by
  simpa only [SessRec.withoutPrev] using congrArg SessRec.level (withoutPrev_answer s e svc payload x)
@[simp] theorem answer_asked : (getSess (answer s e svc payload) x).asked = (getSess s x).asked := by
  simpa only [SessRec.withoutPrev] using congrArg SessRec.asked (withoutPrev_answer s e svc payload x)
@[simp] theorem answer_lockUntil : (getSess (answer s e svc payload) x).lockUntil = (getSess s x).lockUntil := by
  simpa only [SessRec.withoutPrev] using congrArg SessRec.lockUntil (withoutPrev_answer s e svc payload x)
@[simp] theorem answer_pending : (getSess (answer s e svc payload) x).pending = (getSess s x).pending := by
  simpa only [SessRec.withoutPrev] using congrArg SessRec.pending (withoutPrev_answer s e svc payload x)
@[simp] theorem answer_seg : (getSess (answer s e svc payload) x).seg = (getSess s x).seg := by
  simpa only [SessRec.withoutPrev] using congrArg SessRec.seg (withoutPrev_answer s e svc payload x)
@[simp] theorem answer_chal : (getSess (answer s e svc payload) x).chal = (getSess s x).chal := by
  simpa only [SessRec.withoutPrev] using congrArg SessRec.chal (withoutPrev_answer s e svc payload x)
@[simp] theorem answer_cursor : (getSess (answer s e svc payload) x).cursor = (getSess s x).cursor := by
  simpa only [SessRec.withoutPrev] using congrArg SessRec.cursor (withoutPrev_answer s e svc payload x)
@[simp] theorem answer_handles : (getSess (answer s e svc payload) x).handles = (getSess s x).handles := by
  simpa only [SessRec.withoutPrev] using congrArg SessRec.handles (withoutPrev_answer s e svc payload x)
@[simp] theorem answer_cancels : (getSess (answer s e svc payload) x).cancels = (getSess s x).cancels := by
  simpa only [SessRec.withoutPrev] using congrArg SessRec.cancels (withoutPrev_answer s e svc payload x)

end

/-! ### Its execution (R272) -/

section
variable {s : State} {e : Env} {svc : Nat} {payload : List Byte}

/-- A request whose answer is a status and further bytes. -/
theorem requestStatus_of_served (h : Served s e svc payload) (run : State → Nat × List Byte × State) :
    requestStatus s e svc payload run =
      let r := run (heard s e svc payload)
      answer r.2.2 e svc (statusBytes r.1 ++ if r.1 = 0 then r.2.1 else []) :=
  (request_of_served h _).trans (runRequest_of_answered rfl)

theorem requestStatus_refused {run : State → Nat × List Byte × State} {c : Nat} {t : State} {l : List Byte}
    (h : Served s e svc payload) (hrun : run (heard s e svc payload) = (c, l, t)) (hc : c ≠ 0) :
    requestStatus s e svc payload run = answer t e svc (statusBytes c) := by
  rw [requestStatus_of_served h, hrun]
  dsimp only
  rw [if_neg hc, List.append_nil]

theorem requestStatus_accepted {run : State → Nat × List Byte × State} {t : State} {l : List Byte}
    (h : Served s e svc payload) (hrun : run (heard s e svc payload) = (0, l, t)) :
    requestStatus s e svc payload run = answer t e svc (statusBytes 0 ++ l) := by
  rw [requestStatus_of_served h, hrun]
  rfl

end

end Sys2Proof.Machine
end

section
/-! PROOFS. READ and the reads that act (11_object_dictionary, R244, R256; 13_can_fd, R302; 17_functional_safety, R384;
18_snapshot_and_log, R401). -/

namespace Sys2Proof.Machine

/-- The members whose read acts: LOG_RECORD, RECORD of a receive object, SAFETY_CHALLENGE. -/
def ReadActs (o m : Nat) : Prop := (o = 0xD100 ∧ m = 2) ∨ (0x1200 ≤ o ∧ o < 0x1280 ∧ m = 6) ∨ (o = 0xB010 ∧ m = 3)

section
variable {s : State} {x : Sess} {o m : Nat}

/-- A read of a member that does not act changes nothing (R256). -/
theorem readBytes_leaves (h : ¬ ReadActs o m) (pend : Bool) : (readBytes s x o m pend).2 = s := by
  simp only [ReadActs, not_or] at h
  obtain ⟨hlog, hrecord, hchallenge⟩ := h
  unfold readBytes
  split
  · rfl
  · split
    · rfl
    · split
      · rfl
      · split
        · rfl
        · rw [readAct, if_neg hlog, if_neg hrecord, if_neg hchallenge]

/-- A member that a read accepts without the pending selector is read from its block. -/
theorem readBytes_of_accepted {room : Option Nat} (hm : m ≠ 0) (h : readCode s x o m false room = 0) :
    ∃ d, readBytes s x o m false = readAct s x o m d := by
  unfold readCode at h
  unfold readBytes
  split at h
  · exact absurd h (by decide)
  · next ob hob =>
    rw [if_neg hm] at h ⊢
    split at h
    · exact absurd h (by decide)
    · next d hd =>
      have hpend : (getSess s x).pending.find? (fun p => false && p.1 == memKey o m) = none :=
        List.find?_eq_none.mpr (by simp)
      exact ⟨d, by rw [hpend]⟩

theorem readAct_challenge (d : MemDef) : readAct s x 0xB010 3 d = drawChallenge s x := by
  rw [readAct, if_neg (by decide), if_neg (by decide), if_pos ⟨rfl, rfl⟩]

theorem readAct_record {c k : Nat} (hc : c < 2) (hk : k < 64) (d : MemDef) : readAct s x (0x1200 + 64 * c + k) 6 d =
    (rxBytes (getObj (getCan s c) k), rxAckOp s c k) := by
  have hctrl : (0x1200 + 64 * c + k - 0x1200) / 64 = c := by omega
  have hobj : (0x1200 + 64 * c + k - 0x1200) % 64 = k := by omega
  rw [readAct, if_neg (by omega), if_pos (by omega), readBlob, if_neg (by omega), if_neg (by omega), if_neg (by omega),
    if_neg (by omega), if_neg (by omega), if_neg (by omega), if_pos (by omega), hctrl, hobj]

theorem readAct_logRecord {r : LogRec} (h : logAt s (getSess s x).cursor = some r) (d : MemDef) :
    (readAct s x 0xD100 2 d).2 = modSess s x fun q => { q with cursor := r.seq + 1 } := by
  rw [readAct, if_pos ⟨rfl, rfl⟩]
  dsimp only
  rw [h]

end

section
variable {s : State} {e : Env} {o m f : Nat}

theorem exec_read_refused (h : Served s e 1 (readPayload o m f))
    (hc : readCode (heard s e 1 (readPayload o m f)) e.sess o m (decide (f % 2 = 1)) (some (carrierMax e.sess - 2)) ≠ 0) :
    exec (.read e o m f) s = .next (answer (heard s e 1 (readPayload o m f)) e 1 (statusBytes
      (readCode (heard s e 1 (readPayload o m f)) e.sess o m (decide (f % 2 = 1)) (some (carrierMax e.sess - 2))))) :=
  congrArg _ (requestStatus_refused h (if_neg hc) hc)

theorem exec_read_accepted (h : Served s e 1 (readPayload o m f))
    (hc : readCode (heard s e 1 (readPayload o m f)) e.sess o m (decide (f % 2 = 1)) (some (carrierMax e.sess - 2)) = 0) :
    exec (.read e o m f) s =
      let r := readBytes (heard s e 1 (readPayload o m f)) e.sess o m (decide (f % 2 = 1))
      .next (answer r.2 e 1 (statusBytes 0 ++ r.1)) :=
  congrArg _ (requestStatus_accepted h (if_pos hc))

/-- A read without the pending selector answers what the member's block gives, in the state that the block leaves. -/
theorem execRead_of_accepted (hm : m ≠ 0) (h : Served s e 1 (readPayload o m 0))
    (hc : readCode (heard s e 1 (readPayload o m 0)) e.sess o m false (some (carrierMax e.sess - 2)) = 0) :
    ∃ d, execRead e o m 0 s =
      let r := readAct (heard s e 1 (readPayload o m 0)) e.sess o m d
      .next (answer r.2 e 1 (statusBytes 0 ++ r.1)) := by
  obtain ⟨d, hd⟩ := readBytes_of_accepted hm hc
  refine ⟨d, ?_⟩
  rw [← hd]
  exact exec_read_accepted h hc

end

/-- Settles O45: a READ answers its code or its value, and a read that acts does what its block does. -/
theorem readsAnswerTheValue : Obligations.ReadsAnswerTheValue := by
  unfold Obligations.ReadsAnswerTheValue
  refine ⟨fun s e o m f h => ⟨exec_read_refused h, fun hc hlog hrecord hchallenge => ?plain⟩, fun s e h hc => ?challenge,
    fun s e x o hx ho h hc => ?record, fun s e r h hc hr => ?logRecord⟩
  case plain =>
    have hacts : ¬ ReadActs o m := fun hact => hact.elim hlog (Or.elim · hrecord hchallenge)
    rw [exec_read_accepted h hc]
    dsimp only
    rw [readBytes_leaves hacts]
  case challenge =>
    obtain ⟨d, hd⟩ := execRead_of_accepted (by decide) h hc
    refine ⟨_, hd, ?_, ?_⟩
    · rw [answer_chal, readAct_challenge, drawChallenge, getSess_modSess_self]
      dsimp only
      rw [heard_clk]
    · rw [answer_free, readAct_challenge, drawChallenge]
      rfl
  case record =>
    obtain ⟨d, hd⟩ := execRead_of_accepted (by decide) h hc
    rw [exec_record, execRecord, hd, readAct_record hx ho, getCan_heard]
  case logRecord =>
    obtain ⟨d, hd⟩ := execRead_of_accepted (by decide) h hc
    refine ⟨_, hd, ?_, ?_⟩
    · rw [answer_cursor, readAct_logRecord hr, getSess_modSess_self]
    · rw [answer_mram, readAct_logRecord hr, modSess_mram, heard_mram]

end Sys2Proof.Machine
end

section
/-! PROOFS. WRITE (11_object_dictionary, R244, R249, R256): refused writes, pending writes, and the cursor of a session. -/

namespace Sys2Proof.Machine

theorem exec_write_refused {s : State} {e : Env} {o m : Nat} {data : List Byte} (h : Served s e 2 (writePayload o m data))
    (hc : tooLong e data (writeCode (writing s e o m data) e.sess o m data) ≠ 0) : exec (.write e o m data) s =
      .next (answer (writing s e o m data) e 2
        (statusBytes (tooLong e data (writeCode (writing s e o m data) e.sess o m data)))) :=
  congrArg _ ((request_of_served h _).trans (runRequest_of_answered (if_pos hc)))

/-- A WRITE that goes leaves what its member does, but for the request that its session remembers and its carrier. -/
theorem exec_write_carried {s : State} {e : Env} {o m : Nat} {data : List Byte} (h : WriteGoes s e o m data) :
    ∃ t, exec (.write e o m data) s = .next t ∧
      let u := (applyWrite (writing s e o m data) e o m data none true).2
      memberValues t = memberValues u ∧ (getSess t e.sess).withoutPrev = (getSess u e.sess).withoutPrev := by
  refine ⟨_, rfl, ?_⟩
  rw [requestWrite_carried h]
  dsimp only
  split
  · exact ⟨rfl, rfl⟩
  · exact ⟨memberValues_answer .., withoutPrev_answer ..⟩

/-- A write to a member of a consistency group joins the pending set of its session (R249). -/
theorem applyWrite_pending {o m : Nat} {d : MemDef} (hd : findMem o m = some d) (hacc : d.acc = .rwg) (s : State) (e : Env)
    (data : List Byte) (sense : Option Nat) (direct : Bool) :
    applyWrite s e o m data sense direct = (0, pendWrite s e.sess (memKey o m) (dataVal d.ty data)) := by
  rw [applyWrite, hd]
  dsimp only
  rw [if_pos hacc]

theorem pendWrite_pending (s : State) (x : Sess) (k : Nat) (v : Val) :
    (getSess (pendWrite s x k v) x).pending = Table.put (getSess s x).pending k ⟨v, sessLevel s x⟩ := by
  rw [pendWrite, getSess_modSess_self]

theorem memberValues_pendWrite (s : State) (x : Sess) (k : Nat) (v : Val) :
    memberValues (pendWrite s x k v) = memberValues s := memberValues_modSess ..

theorem logCursor_member : OwnMember 0xD100 1 .u32 :=
  ownMember_of_mem (ob := objD100) (by simp [schema]) (i := 0) (by decide) rfl rfl rfl (by decide)

theorem applyModule_logCursor (s : State) (e : Env) (v : Val) :
    applyModule s e 0xD100 1 v = modSess s e.sess fun r => { r with cursor := valNat v } := rfl

theorem applyWrite_logCursor (s : State) (e : Env) (data : List Byte) (sense : Option Nat) (direct : Bool) :
    (applyWrite s e 0xD100 1 data sense direct).2 = modSess s e.sess fun r => { r with cursor := leNat data } := by
  rw [applyWrite_own logCursor_member (by decide) (by decide), applyRw_module (by decide), applyModule_logCursor, dataVal_u32]
  rfl

/-- A group that another session holds refuses a write to any member of it (R249). -/
theorem writeCode_of_held {s : State} {x : Sess} {o m g : Nat} {d : MemDef} (data : List Byte) (hd : findMem o m = some d)
    (hm : m ≠ 0) (hacc : d.acc = .rwg) (hg : groupOf o = some g) (hlock : lockBad s o m d = false)
    (hheld : heldByOther s x g = true) : writeCode s x o m data = Ab.busy := by
  have hob : (findObj o).isNone = false := by
    cases hob : findObj o with
    | none => simp [findMem, hob] at hd
    | some ob => rfl
  have hbusy : busyBad s x o m d data = true := by simp [busyBad, hacc, hg, hheld]
  have hlevel : levelBad s x o m d = false := by simp [levelBad, hacc]
  have hro : (d.acc == Acc.ro) = false := by rw [hacc]; rfl
  rw [writeCode, hob, if_neg Bool.false_ne_true, if_neg hm, hd]
  dsimp only
  rw [hro, hlevel, hlock, hbusy]
  rfl

/-- Settles O46. -/
theorem writesAreRefusedOrPending : Obligations.WritesAreRefusedOrPending := by
  unfold Obligations.WritesAreRefusedOrPending
  refine ⟨fun s e o m data h => exec_write_refused h, fun s e o m data d hd hacc h => ?pending,
    fun s e data h => ?cursor, fun s x o m d g data hd hm hacc hg => writeCode_of_held data hd hm hacc hg⟩
  case pending =>
    obtain ⟨t, ht, hvalues, hsess⟩ := exec_write_carried h
    rw [applyWrite_pending hd hacc] at hvalues hsess
    dsimp only at hvalues hsess
    rw [memberValues_pendWrite, memberValues_writing] at hvalues
    obtain ⟨hcommitted, hforce⟩ := Prod.mk.inj hvalues
    have hpending := congrArg SessRec.pending hsess
    dsimp only [SessRec.withoutPrev] at hpending
    rw [pendWrite_pending] at hpending
    exact ⟨t, ht, hcommitted, hforce, hpending⟩
  case cursor =>
    obtain ⟨t, ht, -, hsess⟩ := exec_write_carried h
    rw [applyWrite_logCursor, getSess_modSess_self] at hsess
    exact ⟨t, ht, (congrArg SessRec.cursor hsess :)⟩

end Sys2Proof.Machine
end

section
/-! PROOFS. COMMIT, ABORT and the copies (11_object_dictionary, R251, R253, R263). -/

namespace Sys2Proof.Machine

/-! ### COMMIT and ABORT -/

section
variable {s : State} {e : Env}

/-- A COMMIT that no phase and no level refuses is decided by the checks of its set (R251). -/
theorem commitOp_checked (hphase : inRecovery s = false) (hrelease : beforeRelease s = false) (hbad : configBad s = false) :
    commitOp s e =
      let pend := openPending s e.sess
      match commitFail s (commitProposal s pend) with
      | some f => commitRefused s f.code (some (f.obj, f.mem))
      | none =>
        if pend.isEmpty then ((commitDone s).1, (commitDone s).2)
        else if genFull s then commitRefused s Ab.storage none
        else (none, startJob s ⟨nextGen s, overlay (baseContent s) (pend.map fun w => (w.1, w.2.val)), pend.map fun w => w.1,
          (getSess s e.sess).level, .session e, 0⟩) := by
  rw [commitOp]
  simp only [hphase, hrelease, hbad, genFor, Bool.or_self, Bool.false_eq_true, if_false, false_and, Bool.not_false,
    Bool.and_true] <;> rfl

theorem exec_commit_of_failing {f : Fail} (h : Served s e 3 []) (hphase : inRecovery s = false)
    (hrelease : beforeRelease s = false) (hbad : configBad s = false)
    (hfail : commitFail (heard s e 3 []) (commitProposal (heard s e 3 []) (openPending (heard s e 3 []) e.sess)) = some f) :
    exec (.commit e) s =
      .next (answer (heard s e 3 []) e 3 (statusBytes f.code ++ (leBytes 2 f.obj ++ bytes1 [f.mem, 0]))) := by
  have hrun : commitOp (heard s e 3 []) e = commitRefused (heard s e 3 []) f.code (some (f.obj, f.mem)) := by
    rw [commitOp_checked ((inRecovery_heard ..).trans hphase)
      ((beforeRelease_heard ..).trans hrelease) ((configBad_heard ..).trans hbad)]
    dsimp only
    rw [hfail]
  exact congrArg _ ((request_of_served h _).trans (runRequest_of_answered hrun))

/-- The generation that an accepted COMMIT begins. -/
def commitJob (s : State) (e : Env) : CopyJob :=
  let pend := openPending s e.sess
  ⟨nextGen s, overlay (baseContent s) (pend.map fun w => (w.1, w.2.val)), pend.map fun w => w.1,
    (getSess s e.sess).level, .session e, 0⟩

theorem commitJob_changed (s : State) (e : Env) : (commitJob s e).changed = (openPending s e.sess).map fun w => w.1 := rfl

theorem exec_commit_of_accepted (h : Served s e 3 []) (hphase : inRecovery s = false)
    (hrelease : beforeRelease s = false) (hbad : configBad s = false)
    (hfail : commitFail (heard s e 3 []) (commitProposal (heard s e 3 []) (openPending (heard s e 3 []) e.sess)) = none)
    (hpend : openPending (heard s e 3 []) e.sess ≠ []) (hfull : genFull (heard s e 3 []) = false) :
    exec (.commit e) s = .next (startJob (heard s e 3 []) (commitJob (heard s e 3 []) e)) := by
  have hrun : commitOp (heard s e 3 []) e = (none, startJob (heard s e 3 []) (commitJob (heard s e 3 []) e)) := by
    rw [commitOp_checked ((inRecovery_heard ..).trans hphase)
      ((beforeRelease_heard ..).trans hrelease) ((configBad_heard ..).trans hbad)]
    dsimp only
    rw [hfail]
    dsimp only
    rw [if_neg (by rwa [List.isEmpty_iff]), if_neg (by rw [hfull]; exact Bool.false_ne_true)]
    rfl
  exact congrArg _ ((request_of_served h _).trans (runRequest_of_unanswered hrun))

theorem startJob_of_idle (h : s.dict.job = none) (j : CopyJob) :
    startJob s j = { s with dict := { s.dict with job := some j } } := by
  rw [startJob, h]

theorem exec_abort_of_served (h : Served s e 4 []) (hphase : inRecovery s = false) :
    exec (.abort e) s = .next (answer (clearPending (heard s e 4 []) e.sess) e 4 (statusBytes 0)) := by
  have hrun : ¬ inRecovery (heard s e 4 []) = true := by rw [inRecovery_heard, hphase]; exact Bool.false_ne_true
  exact congrArg _ (requestStatus_accepted h (if_neg hrun))

end

/-! ### The copies (R263) -/

section
variable {s : State} {j : CopyJob}

/-- The copy that a job has written. -/
def writtenCopy (j : CopyJob) : CfgCopy := ⟨j.gen, schemaVersion, true, false, j.content⟩

/-- The state with the copy of a job in progress written, and the copy `k` in progress. -/
def copyWritten (s : State) (j : CopyJob) (k : Nat) : State :=
  { putCopy s j.copy (writtenCopy j) with dict := { s.dict with job := some { j with copy := k } } }

@[simp] theorem putCopy_dict (s : State) (k : Nat) (c : CfgCopy) : (putCopy s k c).dict = s.dict :=
  putCopy_within (bs := [.mem, .mram]) s k c (Within.refl _ s) (by decide) (by decide) .dict (by decide)

@[simp] theorem putCopy_copies (s : State) (k : Nat) (c : CfgCopy) : (putCopy s k c).mram.copies = setNth s.mram.copies k c := rfl

theorem exec_copyWriteComplete_first (hj : s.dict.job = some j) (hcopy : j.copy = 0) :
    exec (.copyWriteComplete true) s = .next (copyWritten s j 1) := by
  rw [exec_copyWriteComplete, execCopyWriteComplete, hj]
  dsimp only
  rw [if_pos rfl, if_pos hcopy]
  rfl

theorem exec_copyWriteComplete_second (hj : s.dict.job = some j) (hcopy : j.copy = 1) :
    exec (.copyWriteComplete true) s = .next (jobDone (copyWritten s j 2) j) := by
  rw [exec_copyWriteComplete, execCopyWriteComplete, hj]
  dsimp only
  rw [if_pos rfl, if_neg (by omega), if_pos hcopy]
  rfl

theorem exec_copyWriteComplete_third (hj : s.dict.job = some j) (hcopy : j.copy = 2) :
    exec (.copyWriteComplete true) s = .next (nextJob (putCopy s j.copy (writtenCopy j))) := by
  rw [exec_copyWriteComplete, execCopyWriteComplete, hj]
  dsimp only
  rw [if_pos rfl, if_neg (by omega), if_neg (by omega)]
  rfl

theorem exec_copyWriteComplete_failed (hj : s.dict.job = some j) (hcopy : j.copy < 2) :
    exec (.copyWriteComplete false) s = .next (nextJob (jobFailed (putCopy s j.copy
      { nth ⟨0, 0, false, false, []⟩ s.mram.copies j.copy with intact := false, blank := false }) j)) := by
  rw [exec_copyWriteComplete, execCopyWriteComplete, hj]
  dsimp only
  rw [if_neg Bool.false_ne_true, if_pos hcopy]

theorem nextJob_of_last (h : s.dict.jobs = []) : nextJob s = { s with dict := { s.dict with job := none } } := by
  rw [nextJob, h]

/-- A copy that cannot be written leaves the members and the generation; the jobs that wait go on without it. -/
theorem jobFailed_leaves (s : State) (j : CopyJob) : (jobFailed s j).dict.committed = s.dict.committed ∧
    (jobFailed s j).dict.gen = s.dict.gen ∧
    (jobFailed s j).dict.jobs = rebase (configOf s.dict.committed) s.dict.jobs := by
  unfold jobFailed
  cases j.for_ with
  | session e | image e =>
    dsimp only
    rw [answer_dict]
    exact ⟨rfl, rfl, rfl⟩
  | rw | partner => exact ⟨rfl, rfl, rfl⟩

/-- The changed RW members become a generation above the last (R263). -/
theorem exec_persistentRwGeneration_begins {k : Nat} (hk : s.dict.rwDirty = some k) (hbad : configBad s = false)
    (hfull : genFull s = false) (hidle : s.dict.job = none) : ∃ j, exec .persistentRwGeneration s = .next { s with
      dict := { s.dict with rwDirty := none, job := some j } } ∧ j.gen = nextGen s ∧ j.for_ = .rw := by
  rw [exec_persistentRwGeneration, execPersistentRwGeneration, hk]
  dsimp only
  have hbad' : configBad { s with dict := { s.dict with rwDirty := none } } = false := hbad
  have hfull' : genFull { s with dict := { s.dict with rwDirty := none } } = false := hfull
  rw [hbad', hfull', if_neg (by decide), startJob]
  dsimp only
  rw [hidle]
  exact ⟨_, rfl, by rw [nextGen, nextGen, hidle], rfl⟩

end

/-- Settles O47: each command is what its lemma says, in the state that has heard the request. -/
theorem commitsBecomeGenerations : Obligations.CommitsBecomeGenerations := by
  unfold Obligations.CommitsBecomeGenerations
  refine ⟨fun s e f h => exec_commit_of_failing h,
    fun s e h hphase hrelease hbad hfail hpend hfull hidle => ⟨_,
      exec_commit_of_accepted h hphase hrelease hbad hfail hpend hfull, ?accepted⟩,
    fun s e h hphase => ⟨_, exec_abort_of_served h hphase, ?abort⟩,
    fun s j hj hcopy => ⟨_, exec_copyWriteComplete_first hj hcopy, ?first⟩,
    fun s j hj hcopy => ⟨_, exec_copyWriteComplete_second hj hcopy, ?second⟩,
    fun s j hj hcopy hlast => ⟨_, exec_copyWriteComplete_third hj hcopy, ?third⟩,
    fun s j hj hcopy hlast => ⟨_, exec_copyWriteComplete_failed hj hcopy, ?failed⟩,
    fun s k hk hbad hfull hidle => ?rw⟩
  case accepted =>
    rw [startJob_of_idle (by rwa [heard_job])]
    dsimp only
    rw [heard_committed, heard_gen]
    exact ⟨rfl, rfl, commitJob (heard s e 3 []) e, rfl, rfl, rfl, commitJob_changed ..⟩
  case abort =>
    rw [answer_pending, answer_committed, clearPending, getSess_modSess_self, modSess_dict_committed, heard_committed]
    exact ⟨rfl, rfl⟩
  case first =>
    rw [copyWritten, hcopy]
    exact ⟨rfl, rfl, rfl, rfl⟩
  case second =>
    rw [copyWritten, hcopy]
    refine ⟨fun b hb => ?_, rfl, rfl, rfl⟩
    cases b with
    | dict | mem | mram => exact absurd (by decide) hb
    | _ => rfl
  case third =>
    rw [nextJob_of_last (by rwa [putCopy_dict]), hcopy]
    exact ⟨rfl, rfl⟩
  case failed =>
    obtain ⟨hcommitted, hgen, hjobs⟩ := jobFailed_leaves (putCopy s j.copy
      { nth ⟨0, 0, false, false, []⟩ s.mram.copies j.copy with intact := false, blank := false }) j
    rw [putCopy_dict, hlast] at hjobs
    rw [nextJob_of_last hjobs]
    exact ⟨rfl, hgen, hcommitted⟩
  case rw =>
    obtain ⟨j, hexec, hgen, hfor⟩ := exec_persistentRwGeneration_begins hk hbad hfull hidle
    exact ⟨_, hexec, rfl, j, rfl, hgen, hfor⟩

end Sys2Proof.Machine
end

section
/-! PROOFS. The host port and its timers (12_host_port_and_services, R271, R274, R280, R283, R284; 11_object_dictionary, R247,
R253, R286, R288; 17_safety, R384). -/

namespace Sys2Proof.Machine

/-! ### EVENT and FETCH -/

/-- Over HOST, EVENT hands over as many of the oldest records as it asks for and there are. -/
theorem exec_event_host {s : State} {e : Env} {n : Nat} (hhost : e.sess = .host) (hserved : Served s e 7 (bytes1 [n]))
    (hrecovery : inRecovery s = false) (hleast : 1 ≤ n) (hmost : n ≤ 15) :
    let h := heard s e 7 (bytes1 [n])
    exec (.event e n) s =
      .next (answer { h with host := { h.host with events := h.host.events.drop n, lost := 0 } } e 7
        (statusBytes 0 ++ (bytes1 [min h.host.events.length n, min h.host.lost 255, 0, 0] ++
          (h.host.events.take n).flatMap fun r => recBytes r false))) := by
  intro h
  have hrecovery' : inRecovery h = false := (inRecovery_heard ..).trans hrecovery
  have hrange : ¬ (n = 0 ∨ 15 < n) := by omega
  rw [exec_event, execEvent, requestStatus_accepted hserved]
  simp [h, hhost, hrecovery', hrange, eventsOf, eventsTake, Nat.min_comm _ n, ← List.take_eq_take_min,
    ← List.drop_eq_drop_min]

/-- What HOST_MISO carries of a response while `n` bytes are clocked, 6 of them before it. -/
def clockedOut (r : List Byte) (n : Nat) : List Byte := (r ++ List.replicate (n - 6) 255#8).take (n - 6)

theorem clockedOut_whole {r : List Byte} {n : Nat} (h : r.length + 6 ≤ n) : (clockedOut r n).take r.length = r := by
  rw [clockedOut, List.take_take, Nat.min_eq_left (by omega), List.take_left]

theorem clockedOut_part {r : List Byte} {n : Nat} (h : n < r.length + 6) : clockedOut r n = r.take (n - 6) :=
  List.take_append_of_le_length (by omega)

section
variable {s : State} (hup : isUp s = true)
include hup

theorem exec_fetch_waiting {r : List Byte} {rest : List (List Byte)} (hresp : s.host.resp = r :: rest) (n : Nat) :
    exec (.fetch .ok n) s = .next { s with host := { s.host with
      miso := clockedOut r n, resp := if r.length + 6 ≤ n then rest else r :: rest } } := by
  have hup' : isUp { s with host := { s.host with miso := [] } } = true := hup
  rw [exec_fetch, execFetch]
  dsimp only
  rw [hup', fetchFrame]
  simp only [hresp, clockedOut, Bool.true_or, Bool.not_true, Bool.false_eq_true, if_false]
  split <;> rfl

theorem exec_fetch_badCrc (n : Nat) : exec (.fetch .badCrc n) s =
    .next { s with host := { s.host with miso := [], crcErrors := s.host.crcErrors + 1 } } := by
  have hup' : isUp { s with host := { s.host with miso := [] } } = true := hup
  rw [exec_fetch, execFetch]
  dsimp only
  rw [hup']
  rfl

theorem exec_fetch_badForm (n : Nat) : exec (.fetch .badForm n) s =
    .next { s with host := { s.host with miso := [], frameErrors := s.host.frameErrors + 1 } } := by
  have hup' : isUp { s with host := { s.host with miso := [] } } = true := hup
  rw [exec_fetch, execFetch]
  dsimp only
  rw [hup']
  rfl

/-! ### Heartbeats and the manager (R283, R284) -/

theorem exec_heartbeat_due {d : Nat} (hat : s.host.hbAt = some d) (hdue : d ≤ s.clk) : exec .heartbeat s =
    .next (heartbeatSend { s with host := { s.host with hbAt := some (after d (msecs 1000)) } }) := by
  have hdue' : due s d = true := decide_eq_true hdue
  rw [exec_heartbeat, execHeartbeat, hat]
  simp only [hup, hdue', Bool.and_self, if_true]

theorem exec_hostTimeout_passed (hsilent : s.host.silent = false)
    (hpassed : after s.host.managerAt (secs (Cfg.netHostTimeout s)) ≤ s.clk) : exec .hostTimeout s =
      .next (fansEnterTable (logEvent { s with host := { s.host with silent := true } } 0x0A01 (bytes1 [1]))) := by
  have hpassed' : passed s s.host.managerAt (secs (Cfg.netHostTimeout s)) = true := decide_eq_true hpassed
  rw [exec_hostTimeout, execHostTimeout, hsilent, hpassed', if_pos ⟨hup, by decide, rfl⟩]

end

/-- Table mode of fan `j`. -/
def tableMode (j : Nat) (s : State) : Bool := (getFan s j).table

theorem tableMode_modFan {g : FanRt → FanRt} (hg : ∀ c, (g c).table = c.table) (j : Nat) (s : State) (k : Nat) :
    tableMode j (modFan s k g) = tableMode j s := fanView_modFan FanRt.table hg j s k

section
variable (j : Nat) (s : State) (k : Nat)

theorem tableMode_limitFollow : tableMode j (limitFollow s k) = tableMode j s :=
  tableMode_modFan (by intro; rfl) j s k

theorem tableMode_shadowRegulate : tableMode j (shadowRegulate s k) = tableMode j s :=
  tableMode_modFan (by intro; rfl) j _ k

/-- An evaluation of a direct fan leaves table mode as it is. -/
theorem tableMode_directStep (dt : Nat) (entry : List Byte) : tableMode j (directStep s k dt entry) = tableMode j s := by
  have hstop : tableMode j (fanStop s k) = tableMode j s := tableMode_modFan (by intro; rfl) j s k
  have hlisten : tableMode j (fanListen s k) = tableMode j s := tableMode_modFan (by intro; rfl) j s k
  have hrun : tableMode j (fanRun s k fine10) = tableMode j s :=
    (tableMode_limitFollow ..).trans (tableMode_modFan (by intro; rfl) j s k)
  have hslew (p : Int × Bool) : tableMode j (modFan s k fun c => fanFlag fanCrossing p.2 { c with fine := p.1 }) =
      tableMode j s := tableMode_modFan (by intro; rfl) j s k
  have hramp : tableMode j (modFan s k fun c => { c with openLoop := rampField s k }) = tableMode j s :=
    tableMode_modFan (by intro; rfl) j s k
  have hfollow : tableMode j (modFan s k fun c => { c with fine := c.speed * fineUnit }) = tableMode j s :=
    tableMode_modFan (by intro; rfl) j s k
  simp only [directStep, apply_ite (tableMode j), tableMode_shadowRegulate, hstop, hlisten, hrun, hslew, hramp, hfollow,
    ite_self]

theorem tableMode_ecStep (dt : Nat) (entry : List Byte) : tableMode j (ecStep s k dt entry) = tableMode j s := by
  have hpin (t : State) (i : Nat) : tableMode j (ioApply t i) = tableMode j t :=
    congrArg FanRt.table (getFan_of_fans (ioApply_fans t i) j)
  simp only [ecStep, apply_ite (tableMode j), hpin, ite_self]
  rw [tableMode_modFan, tableMode_modFan]
  · exact fun _ => rfl
  · exact fun _ => rfl

theorem tableMode_fanUpdate : tableMode j (fanUpdate s k) = tableMode j s := by
  obtain ⟨m, hfetch⟩ := fanFetch_withMem s k
  have hboost (t : State) : tableMode j (refreshBoost t) = tableMode j t :=
    fanView_refreshBoost FanRt.table (fun _ _ => rfl) j t
  simp only [fanUpdate, hboost, apply_ite (tableMode j), tableMode_limitFollow, tableMode_directStep, tableMode_ecStep,
    ite_self]
  rw [tableMode_modFan, hfetch]
  · rfl
  · exact fun _ => rfl

/-- A reading of TEMP_SRC leaves table mode as it is. -/
theorem tableMode_fanReadTable : tableMode j (fanReadTable s k) = tableMode j s :=
  tableMode_modFan (by intro; rfl) j s k

end

/-- Fan `k` enters table mode. -/
def enterTable (s : State) (k : Nat) : State :=
  if Cfg.fanTableEn s k then
    fanUpdate (fanReadTable (modFan s k fun c => fanFlag fanTableActive true { c with table := true }) k) k
  else s

theorem fansEnterTable_eq (s : State) : fansEnterTable s = forAll (upTo 12) enterTable s := rfl

theorem enterTable_dict (s : State) (k : Nat) : (enterTable s k).dict = s.dict :=
  ite_leaves (g := State.dict) (fanUpdate_dict ..) rfl

theorem fanTableEn_of_dict {s t : State} (h : t.dict = s.dict) (k : Nat) : Cfg.fanTableEn t k = Cfg.fanTableEn s k := by
  have hval : cfgI t (0x8010 + k) 10 = cfgI s (0x8010 + k) 10 := by rw [cfgI, cfgVal, h, cfgI, cfgVal]
  rw [Cfg.fanTableEn, cfgB, hval, Cfg.fanTableEn, cfgB]

/-- Every fan with TABLE_EN is in table mode after the round over the fans. -/
theorem tableMode_fansEnterTable {s : State} {f : Nat} (hf : f < 12) (hen : Cfg.fanTableEn s f = true) :
    tableMode f (fansEnterTable s) = true := by
  have hother (s : State) (k : Nat) (hk : k ≠ f) :
      ((enterTable s k).dict, tableMode f (enterTable s k)) = (s.dict, tableMode f s) := by
    rw [enterTable_dict, enterTable, apply_ite (tableMode f), tableMode_fanUpdate, tableMode_fanReadTable, tableMode,
      getFan_modFan, if_neg (Ne.symm hk), tableMode, ite_self]
  obtain ⟨r, hbefore, hround⟩ := forAll_at (g := fun s => (s.dict, tableMode f s)) hother (nodup_upTo 12) (mem_upTo hf) s
  simp only [Prod.mk.injEq] at hbefore hround
  rw [fansEnterTable_eq, hround.2, enterTable, if_pos ((fanTableEn_of_dict hbefore.1 f).trans hen), tableMode_fanUpdate,
    tableMode_fanReadTable, tableMode, getFan_modFan, if_pos rfl]
  rfl

/-! ### Timers of sessions (R247, R253, R384) -/

/-- The record of a session by its key. -/
def sessAt (s : State) (k : Nat) : SessRec := Table.getD (blank {}) s.dict.sessions k

theorem othersKept_modSess (s : State) (x : Sess) (f : SessRec → SessRec) :
    OthersKept sessAt s (modSess s x f) (sessKey x) :=
  fun _ hj => (Table.getD_modify ..).trans (if_neg hj)

/-- A discarded pending set is counted where it held anything (R253). -/
theorem dropPending_dropped (s : State) (x : Sess) :
    (dropPending s x).dict.dropped = s.dict.dropped + (if (getSess s x).pending = [] then 0 else 1) := by
  rw [dropPending]
  by_cases hempty : (getSess s x).pending = []
  · simp [hempty]
  · simp [hempty, clearPending, modSess]

theorem getSess_dropPending (s : State) (x : Sess) :
    getSess (dropPending s x) x = { getSess s x with pending := [] } := by
  rw [dropPending]
  by_cases hempty : (getSess s x).pending = []
  · simp only [hempty, List.isEmpty_nil, if_true]
    rw [← hempty]
  · rw [if_neg (by simpa using hempty)]
    exact getSess_modSess_self s x fun r => { r with pending := [] }

theorem othersKept_dropPending (s : State) (x : Sess) : OthersKept sessAt s (dropPending s x) (sessKey x) := by
  rw [dropPending]
  split
  · exact fun _ _ => rfl
  · exact othersKept_modSess s x fun r => { r with pending := [] }

section
variable {s : State} {x : Sess}

theorem exec_pendingTimeout_passed (h : after (getSess s x).lastReq (secs (Cfg.accPendingTimeout s)) ≤ s.clk) :
    exec (.pendingTimeout x) s = .next (dropPending s x) := by
  rw [exec_pendingTimeout, execPendingTimeout, if_pos (show passed s _ _ = true from decide_eq_true h)]

theorem exec_accessTimeout_passed (h : after (getSess s x).lastReq (secs (Cfg.accAccessTimeout s)) ≤ s.clk) :
    exec (.accessTimeout x) s = .next (modSess s x fun r => { r with level := 0 }) := by
  rw [exec_accessTimeout, execAccessTimeout, if_pos (show passed s _ _ = true from decide_eq_true h)]

/-- The lockout of a session that is locked out lasts to its instant. -/
theorem exec_codeLockoutEnd_locked {u : Nat} (h : (getSess s x).lockUntil = some u) :
    ∃ t, exec (.codeLockoutEnd x) s = .next t ∧ (getSess t x).lockUntil = if u ≤ s.clk then none else some u := by
  rw [exec_codeLockoutEnd, execCodeLockoutEnd, h]
  refine ⟨_, rfl, ?_⟩
  by_cases hdue : u ≤ s.clk
  · simp only [hdue, if_true, getSess_modSess_self]
  · simp only [hdue, if_false, h]

/-- A challenge lasts to its instant (R384). -/
theorem exec_challengeExpiry_drawn {l : List Byte} {u : Nat} (h : (getSess s x).chal = some (l, u)) :
    ∃ t, exec (.challengeExpiry x) s = .next t ∧ (getSess t x).chal = if u ≤ s.clk then none else some (l, u) := by
  rw [exec_challengeExpiry, execChallengeExpiry, h]
  refine ⟨_, rfl, ?_⟩
  by_cases hdue : u ≤ s.clk
  · simp only [hdue, if_true, getSess_modSess_self]
  · simp only [hdue, if_false, h]

end

/-! ### Images and firmware (R286, R288) -/

/-- A restart keeps MRAM but for the copy that was being written (R264). -/
theorem restart_mram (s : State) (cause : Nat) :
    (restart s cause).mram = { s.mram with copies := (restart s cause).mram.copies } := by
  have hgiven : (pairGiveUp s).mram = s.mram :=
    pairGiveUp_within (bs := [.pair]) s (.refl _ s) (by decide) .mram (by decide)
  rw [show (restart s cause).mram = (tearCopy (pairGiveUp s)).mram from rfl, tearCopy]
  split <;> rw [hgiven]

theorem exec_confirmTimeout_passed {s : State} {u : Nat} (hconfirm : s.images.confirmUntil = some u) (hu : u ≤ s.clk) :
    exec .confirmTimeout s = .next (restart { s with mram := { s.mram with
      bootSlot := otherSlot s, rollbacks := s.mram.rollbacks + 1 } } 5) := by
  rw [exec_confirmTimeout, execConfirmTimeout, hconfirm]
  exact congrArg Host.Outcome.next (if_pos hu)

/-- Settles O51. -/
theorem theHostPortAndItsTimers : Obligations.TheHostPortAndItsTimers := by
  unfold Obligations.TheHostPortAndItsTimers
  refine ⟨fun s e n hhost hserved hrecovery hleast hmost => exec_event_host hhost hserved hrecovery hleast hmost,
    fun s r rest n hup hresp hlong => ?whole, fun s r rest n hup hresp hshort => ?part,
    fun s n hup => ⟨exec_fetch_badCrc hup n, exec_fetch_badForm hup n⟩, fun s d hup hat hdue => ?heartbeat,
    fun s hup hsilent hpassed => ?silent, fun s x hpassed => ?pending, fun s x hpassed => ?access,
    fun s x u hlock => exec_codeLockoutEnd_locked hlock, fun s x l u hchal => exec_challengeExpiry_drawn hchal,
    fun s hst => ?verified, fun s u hconfirm hu => ?confirm⟩
  case whole =>
    refine ⟨_, exec_fetch_waiting hup hresp n, ?_, clockedOut_whole hlong, rfl⟩
    exact if_pos hlong
  case part =>
    refine ⟨_, exec_fetch_waiting hup hresp n, ?_, clockedOut_part hshort⟩
    exact if_neg (by omega)
  case heartbeat =>
    refine ⟨_, exec_heartbeat_due hup hat hdue, ?_⟩
    exact congrArg HostPort.hbAt (heartbeatSend_within (bs := [.can]) _ (.refl _ _) (by decide) .host (by decide))
  case silent =>
    refine ⟨_, exec_hostTimeout_passed hup hsilent hpassed, ?_, fun f hf hen => tableMode_fansEnterTable hf ?_⟩
    · exact congrArg HostPort.silent (fansEnterTable_within (bs := [.free, .io, .fans, .mem, .snap]) _
        (logEvent_within _ _ _ (.refl _ _) (by decide)) (by decide) (by decide) (by decide) (by decide) .host (by decide))
    · exact (fanTableEn_of_dict (logEvent_dict ..) f).trans hen
  case pending =>
    refine ⟨_, exec_pendingTimeout_passed hpassed, ?_, dropPending_dropped s x, othersKept_dropPending s x⟩
    rw [getSess_dropPending]
  case access =>
    refine ⟨_, exec_accessTimeout_passed hpassed, ?_, ?_, othersKept_modSess s x _⟩ <;> rw [getSess_modSess_self]
  case verified =>
    rw [exec_verifyComplete, execVerifyComplete, if_pos hst]
    exact ⟨_, rfl, rfl, rfl, rfl⟩
  case confirm =>
    refine ⟨_, exec_confirmTimeout_passed hconfirm hu, restart_phase .., restart_nextCause .., ?_, ?_⟩ <;>
      rw [restart_mram]

/-! ### HOST_PORT_RESET (R274, R401) -/

/-- The host port with its queues empty. -/
def portEmptied (s : State) : State := { s with host := { s.host with resp := [], events := [] } }

theorem portEmptied_within (s : State) : Within [.dict, .host] s (portEmptied s) :=
  (within_mk ..).mpr (parts_host (.refl _ s) (by decide))

theorem exec_hostPortReset_port (s : State) : exec .hostPortReset s = .next
    (modSess (dropPending (portEmptied s) .host) .host fun r =>
      { r with level := 0, seg := none, cursor := logOldest (dropPending (portEmptied s) .host) }) := rfl

theorem dropPending_host (s : State) (x : Sess) : (dropPending s x).host = s.host :=
  dropPending_within (bs := [.dict]) s x (.refl _ s) (by decide) .host (by decide)

/-- Settles O50. -/
theorem hostPortResetEmptiesThePort : Obligations.HostPortResetEmptiesThePort := by
  unfold Obligations.HostPortResetEmptiesThePort
  intro s
  have hhost : (dropPending (portEmptied s) .host).host = { s.host with resp := [], events := [] } := dropPending_host ..
  refine ⟨_, exec_hostPortReset_port s, congrArg HostPort.resp hhost, congrArg HostPort.events hhost, ?_, ?_, ?_, ?_, ?_⟩
  · rw [getSess_modSess_self, getSess_dropPending]
  · rw [getSess_modSess_self]
  · rw [getSess_modSess_self]
  · exact dropPending_dropped (portEmptied s) .host
  · exact modSess_within _ _ _ (dropPending_within _ _ (portEmptied_within s) (by decide)) (by decide)

end Sys2Proof.Machine
end

section
/-! PROOFS. Writes that ask for a level, load an image or confirm firmware (11_object_dictionary, R247, R286–R288). -/

namespace Sys2Proof.Machine

/-! ### The members -/

theorem accessRequest_member : OwnMember 0x1010 1 .u8 :=
  ownMember_of_mem (ob := obj1010) (by simp [schema]) (i := 0) (by decide) rfl rfl rfl (by decide)

theorem accessCode_member : OwnMember 0x1010 2 .u32 :=
  ownMember_of_mem (ob := obj1010) (by simp [schema]) (i := 0) (by decide) rfl rfl rfl (by decide)

theorem imageKind_member : OwnMember 0x1040 1 .u8 :=
  ownMember_of_mem (ob := obj1040) (by simp [schema]) (i := 0) (by decide) rfl rfl rfl (by decide)

theorem imageChunk_member : OwnMember 0x1040 3 .blob :=
  ownMember_of_mem (ob := obj1040) (by simp [schema]) (i := 0) (by decide) rfl rfl rfl (by decide)

theorem imageVerify_member : OwnMember 0x1040 4 .bool :=
  ownMember_of_mem (ob := obj1040) (by simp [schema]) (i := 0) (by decide) rfl rfl rfl (by decide)

theorem imageActivate_member : OwnMember 0x1040 6 .bool :=
  ownMember_of_mem (ob := obj1040) (by simp [schema]) (i := 0) (by decide) rfl rfl rfl (by decide)

theorem fwConfirm_member : OwnMember 0x1041 6 .bool :=
  ownMember_of_mem (ob := obj1041) (by simp [schema]) (i := 0) (by decide) rfl rfl rfl (by decide)

/-! ### A write that goes, by its member -/

theorem applyRw_comm {o : Nat} (ho : o < 0x2000) (s : State) (e : Env) (m : Nat) (v : Val) (sense : Option Nat) (direct : Bool) :
    applyRw s e o m v sense direct = applyComm s e o m v direct := if_pos ho

/-- A write of chapters 11 to 13 that tests no code is carried out, and answered unless it restarts the module or is answered
later. -/
theorem requestWrite_comm {o m : Nat} {ty : MType} (hmem : OwnMember o m ty) (hcode : o ≠ 0x1010) (ho : o < 0x2000)
    (hnow : ¬ (o = 0x1040 ∧ m = 6)) {s : State} {e : Env} {data : List Byte} (h : WriteGoes s e o m data) :
    requestWrite s e o m data none =
      answer (applyComm (writing s e o m data) e o m (dataVal ty data) true) e 2 (statusBytes 0) := by
  have hanswered : ¬ (restarts (writing s e o m data) o m data = true ∨
      answersLater (writing s e o m data) o m data = true) := by
    have hsafety : o ≠ 0xB000 := by omega
    simp only [restarts, answersLater, Bool.and_eq_true, Bool.or_eq_true, beq_iff_eq]
    omega
  rw [requestWrite_carried h]
  dsimp only
  rw [if_neg hanswered, applyWrite_own hmem hcode (by omega), applyRw_comm ho]

section
variable (s : State) (e : Env) (v : Val)

theorem applyComm_imageKind : applyComm s e 0x1040 1 v true = imageKindOp s (valInt v).toNat := rfl
theorem applyComm_imageChunk : applyComm s e 0x1040 3 v true = imageChunkOp s (valBlob v) := rfl
theorem applyComm_imageVerify : applyComm s e 0x1040 4 v true = imageVerifyOp s (valInt v) := rfl
theorem applyComm_imageActivate : applyComm s e 0x1040 6 (.num 1) true =
    if s.images.kind = 2 then imageJob s e else activateFirmware s := rfl
theorem applyComm_fwConfirm : applyComm s e 0x1041 6 v true = fwConfirmOp s (valInt v) := rfl

end

section
variable {s : State} {e : Env} {data : List Byte}

theorem exec_accessRequest_of_goes (h : WriteGoes s e 0x1010 1 data) : exec (.accessRequest e data) s =
    .next (answer (askLevel (writing s e 0x1010 1 data) e.sess (leNat data)) e 2 (statusBytes 0)) := by
  obtain ⟨d, hd, hty, hacc⟩ := accessRequest_member
  rw [exec_accessRequest, execAccessRequest, requestWrite_of_goes h (by decide) (by decide), applyWrite, hd]
  dsimp only
  rw [if_neg hacc, if_neg (by decide), if_neg (by decide), hty, applyRw_comm (by decide)]
  rfl

theorem exec_accessCode_of_goes (h : WriteGoes s e 0x1010 2 data) : exec (.accessCode e data) s =
    let r := tryCode (writing s e 0x1010 2 data) e.sess (leNat data)
    .next (answer r.2 e 2 (statusBytes r.1)) := by
  obtain ⟨d, hd, hty, hacc⟩ := accessCode_member
  rw [exec_accessCode, execAccessCode, requestWrite_of_goes h (by decide) (by decide), applyWrite, hd]
  dsimp only
  rw [if_neg hacc, if_pos ⟨rfl, rfl⟩, hty]
  rfl

theorem exec_imageKind_of_goes (h : WriteGoes s e 0x1040 1 data) : exec (.imageKind e data) s =
    .next (answer (imageKindOp (writing s e 0x1040 1 data) (leNat data)) e 2 (statusBytes 0)) := by
  rw [exec_imageKind, execImageKind, requestWrite_comm imageKind_member (by decide) (by decide) (by decide) h,
    applyComm_imageKind]
  rfl

theorem exec_imageChunk_of_goes (h : WriteGoes s e 0x1040 3 data) : exec (.imageChunk e data) s =
    .next (answer (imageChunkOp (writing s e 0x1040 3 data) data) e 2 (statusBytes 0)) := by
  rw [exec_imageChunk, execImageChunk, requestWrite_comm imageChunk_member (by decide) (by decide) (by decide) h,
    applyComm_imageChunk, dataVal_blob]
  rfl

theorem exec_imageVerify_of_goes (h : WriteGoes s e 0x1040 4 (bytes1 [1])) : exec (.imageVerify e (bytes1 [1])) s =
    .next (answer (imageVerifyOp (writing s e 0x1040 4 (bytes1 [1])) 1) e 2 (statusBytes 0)) := by
  rw [exec_imageVerify, execImageVerify, requestWrite_comm imageVerify_member (by decide) (by decide) (by decide) h,
    applyComm_imageVerify, dataVal_bool_one]
  rfl

theorem exec_fwConfirm_of_goes (h : WriteGoes s e 0x1041 6 (bytes1 [1])) : exec (.fwConfirm e (bytes1 [1])) s =
    .next (answer (fwConfirmOp (writing s e 0x1041 6 (bytes1 [1])) 1) e 2 (statusBytes 0)) := by
  rw [exec_fwConfirm, execFwConfirm, requestWrite_comm fwConfirm_member (by decide) (by decide) (by decide) h,
    applyComm_fwConfirm, dataVal_bool_one]
  rfl

/-- An activation is not answered at once: it restarts the module, or its answer follows copy 1. -/
theorem exec_imageActivate_of_goes (h : WriteGoes s e 0x1040 6 (bytes1 [1])) : exec (.imageActivate e (bytes1 [1])) s =
    let w := writing s e 0x1040 6 (bytes1 [1])
    .next (if w.images.kind = 2 then imageJob w e else activateFirmware w) := by
  have hlater (w : State) : restarts w 0x1040 6 (bytes1 [1]) = true ∨ answersLater w 0x1040 6 (bytes1 [1]) = true := by
    by_cases hkind : w.images.kind = 2 <;> simp [restarts, answersLater, hkind]
  rw [exec_imageActivate, execImageActivate, requestWrite_carried h]
  dsimp only
  rw [if_pos (hlater _), applyWrite_own imageActivate_member (by decide) (by decide), applyRw_comm (by decide),
    dataVal_bool_one, applyComm_imageActivate]

end

/-! ### Levels and codes (R247) -/

theorem getSess_askLevel (s : State) (x : Sess) (n : Nat) : getSess (askLevel s x n) x =
    if n = 0 then { getSess s x with level := 0, asked := none } else { getSess s x with asked := some (n, s.clk) } :=
  getSess_modSess_self ..

/-- The code that the level asked for needs. -/
def CodeRight (s : State) (lvl code : Nat) : Prop := comN s 0x1011 lvl = 0 ∨ code = comN s 0x1011 lvl

section
variable {s : State} {x : Sess} {lvl asked code : Nat} (hasked : (getSess s x).asked = some (lvl, asked))
include hasked

theorem tryCode_right (h : CodeRight s lvl code) :
    tryCode s x code = (0, modSess s x fun r => { r with level := lvl, asked := none }) := by
  rw [tryCode, hasked]
  exact if_pos h

theorem tryCode_wrong (h : ¬ CodeRight s lvl code) : tryCode s x code = (Ab.accessLevel, noteWrong s x) := by
  rw [tryCode, hasked]
  exact if_neg h

end

/-- The fifth wrong code within 60 s locks the session out. -/
theorem lockUntil_noteWrong {s : State} {x : Sess} (h : 5 ≤ (recent s (secs 60) (getSess s x).wrongAt).length + 1) :
    (getSess (noteWrong s x) x).lockUntil = some (after s.clk (secs 60)) := by
  rw [noteWrong, getSess_modSess_self]
  dsimp only
  rw [if_pos (by simpa using h)]

theorem level_noteWrong (s : State) (x : Sess) : (getSess (noteWrong s x) x).level = (getSess s x).level :=
  (Prod.mk.inj (grantOf_noteWrong s x)).2

theorem comN_writing (s : State) (e : Env) (o m : Nat) (data : List Byte) (o' m' : Nat) :
    comN (writing s e o m data) o' m' = comN s o' m' := by
  rw [comN, comI, committedVal_of_values (memberValues_writing ..), comN, comI]

theorem recent_writing (s : State) (e : Env) (o m : Nat) (data : List Byte) (n : Nat) (l : List Nat) :
    recent (writing s e o m data) n l = recent s n l := by
  rw [recent, writing_clk, recent]

@[simp] theorem writing_images (s : State) (e : Env) (o m : Nat) (data : List Byte) :
    (writing s e o m data).images = s.images := heard_images ..

/-! ### Images (R286–R288) -/

theorem imageChunkOp_images (s : State) (l : List Byte) :
    (imageChunkOp s l).images = { s.images with staged := s.images.staged ++ l } := by
  refine ite_leaves (g := State.images) ?_ ?_
  · exact stageSlot_within (bs := [.mem, .mram]) _ (.refl _ _) (by decide) (by decide) .images (by decide)
  · exact mramWritten_within (bs := [.mem, .mram]) _ _ _ (.refl _ _) (by decide) .images (by decide)

theorem activateFirmware_boots (s : State) : (activateFirmware s).mram.bootSlot = otherSlot s ∧
    (activateFirmware s).mram.slotState = setNth s.mram.slotState (otherSlot s) 3 := by
  rw [activateFirmware, restart_mram]
  exact ⟨rfl, rfl⟩

theorem loadCards_dict (s : State) (l : List Byte) : (loadCards s l).dict = s.dict :=
  loadCards_within (bs := [.valve]) s l (.refl _ s) (by decide) .dict (by decide)

theorem imageJob_begins {s : State} (e : Env) (h : s.dict.job = none) : (imageJob s e).dict.gen = s.dict.gen ∧
    ∃ j, (imageJob s e).dict.job = some j ∧ j.for_ = .image e ∧ j.copy = 0 ∧ j.content = imageContent s.images.staged := by
  rw [imageJob]
  rw [startJob_of_idle (by rw [loadCards_dict, h]), loadCards_dict]
  exact ⟨rfl, _, rfl, rfl, rfl, rfl⟩

theorem fwConfirmOp_trial {s : State} (h : onTrial s = true) : fwConfirmOp s 1 =
    { s with mram := { s.mram with slotState := setNth s.mram.slotState s.mram.bootSlot 1 }
             images := { s.images with confirmUntil := none } } := if_pos ⟨rfl, h⟩

/-- Settles O52: each write is what its member's lemma says, carried out in the state that has heard the request. -/
theorem accessAndImageWrites : Obligations.AccessAndImageWrites := by
  unfold Obligations.AccessAndImageWrites
  refine ⟨fun s e data h => ⟨_, exec_accessRequest_of_goes h, ?request⟩,
    fun s e data lvl asked h hasked => ⟨_, exec_accessCode_of_goes h, ?code⟩,
    fun s e data h => ⟨_, exec_imageKind_of_goes h, ?kind⟩, fun s e data h => ⟨_, exec_imageChunk_of_goes h, ?chunk⟩,
    fun s e h => ⟨_, exec_imageVerify_of_goes h, ?verify⟩, fun s e h hkind => ?firmware, fun s e h hkind hidle => ?config,
    fun s e h htrial => ⟨_, exec_fwConfirm_of_goes h, ?confirm⟩⟩
  case request =>
    rw [answer_level, answer_asked, getSess_askLevel, writing_clk]
    refine ⟨fun hzero => ?_, fun hnonzero => ?_⟩
    · rw [if_pos hzero]
      exact ⟨rfl, rfl⟩
    · rw [if_neg hnonzero]
      exact ⟨rfl, rfl⟩
  case code =>
    have hasked' : (getSess (writing s e 0x1010 2 data) e.sess).asked = some (lvl, asked) := (heard_asked ..).trans hasked
    have hright : CodeRight (writing s e 0x1010 2 data) lvl (leNat data) ↔ CodeRight s lvl (leNat data) := by
      rw [CodeRight, comN_writing, CodeRight]
    rw [answer_level, answer_asked, answer_lockUntil]
    split
    · next hcode =>
      rw [tryCode_right hasked' (hright.mpr hcode), getSess_modSess_self]
      exact ⟨rfl, rfl⟩
    · next hcode =>
      rw [tryCode_wrong hasked' (mt hright.mp hcode)]
      refine ⟨level_noteWrong .., fun hfifth => ?_⟩
      have hwrong : (getSess (writing s e 0x1010 2 data) e.sess).wrongAt = (getSess s e.sess).wrongAt := heard_wrongAt ..
      rw [lockUntil_noteWrong (by rwa [recent_writing, hwrong]), writing_clk]
  case kind => rw [answer_images, imageKindOp, modImages, writing_images]
  case chunk => rw [answer_images, imageChunkOp_images, writing_images]
  case verify =>
    rw [answer_images, imageVerifyOp, if_pos rfl, modImages, writing_images]
  case firmware =>
    have hexec := exec_imageActivate_of_goes h
    dsimp only at hexec
    rw [writing_images, if_neg hkind] at hexec
    obtain ⟨hboot, hslots⟩ := activateFirmware_boots (writing s e 0x1040 6 (bytes1 [1]))
    rw [otherSlot, writing_mram] at hboot hslots
    exact ⟨_, hexec, restart_phase .., restart_nextCause .., hboot, hslots⟩
  case config =>
    have hexec := exec_imageActivate_of_goes h
    dsimp only at hexec
    rw [writing_images, if_pos hkind] at hexec
    have hbegins := imageJob_begins (s := writing s e 0x1040 6 (bytes1 [1])) e ((heard_job ..).trans hidle)
    rw [writing_images, show (writing s e 0x1040 6 (bytes1 [1])).dict.gen = s.dict.gen from heard_gen ..] at hbegins
    exact ⟨_, hexec, hbegins⟩
  case confirm =>
    have htrial' : onTrial (writing s e 0x1041 6 (bytes1 [1])) = true := by rwa [onTrial, writing_mram]
    rw [answer_images, answer_mram, fwConfirmOp_trial htrial', writing_mram]
    exact ⟨rfl, rfl⟩

end Sys2Proof.Machine
end

section
/-! PROOFS. Every request reaches the services once, and a repeat gets the kept response (12_host_port_and_services, R270, R272,
R273). -/

namespace Sys2Proof.Machine

/-! ### Every request command is a request -/

theorem exec_requestWrite (s : State) (e : Env) (o m : Nat) (data : List Byte) (sense : Option Nat) :
    ∃ run, requestWrite s e o m data sense = request s e 2 (writePayload o m data) run := ⟨_, rfl⟩

/-- A command that is a request is carried out as a request, whatever its service makes of the state. -/
theorem exec_of_requestOf {s : State} {c : Instr} {e : Env} {svc : Nat} {payload : List Byte}
    (h : requestOf s c = some (e, svc, payload)) : ∃ run, exec c s = .next (request s e svc payload run) := by
  cases c
  case cardImage e' j data =>
    by_cases himage : e'.sess = .image
    · rw [requestOf, if_pos himage] at h
      exact nomatch h
    · rw [requestOf, if_neg himage] at h
      cases h
      obtain ⟨run, hrun⟩ := exec_requestWrite s e (0x7300 + j) 1 data none
      exact ⟨run, by rw [exec_cardImage, execCardImage, if_neg himage, hrun]⟩
  all_goals cases h
  all_goals exact ⟨_, rfl⟩

/-! ### What becomes of a request -/

section
variable {s : State} {e : Env} {svc : Nat} (payload : List Byte) (run : State → Option (List Byte) × State)

theorem request_of_discarded (h : (arrives s e svc).1 = false) : request s e svc payload run = (arrives s e svc).2 := by
  rw [request, h, if_neg Bool.false_ne_true]

theorem request_of_repeated {resp : List Byte} (hreaches : (arrives s e svc).1 = true)
    (hrepeats : isDuplicate (touch (arrives s e svc).2 e.sess) e (bytes1 [svc] ++ payload) = some resp) :
    request s e svc payload run = repeatAnswer (touch (arrives s e svc).2 e.sess) e svc resp := by
  rw [request, hreaches, if_pos rfl, serve, hrepeats]

end

/-! ### What the arrival of a discarded request leaves -/

/-- The host port with HOST_MISO high: what a frame of HOST finds. -/
def misoHigh (s : State) : State := { s with host := { s.host with miso := [] } }

section
variable {s : State} {e : Env} (svc : Nat) (hhost : e.sess = .host) (hup : isUp s = true)
include hhost hup

theorem arrives_host : arrives s e svc = match e.frame with
    | .badCrc => (false, { s with host := { s.host with miso := [], crcErrors := s.host.crcErrors + 1 } })
    | .badForm => (false, { s with host := { s.host with miso := [], frameErrors := s.host.frameErrors + 1 } })
    | .ok =>
      if 8 ≤ s.host.resp.length then
        (false, { s with host := { s.host with miso := [], overruns := s.host.overruns + 1 } })
      else (true, misoHigh s) := by
  have hup' : isUp (misoHigh s) = true := hup
  rw [arrives, hhost]
  dsimp only
  rw [show isUp { s with host := { s.host with miso := [] } } = true from hup']
  rfl

theorem arrives_badCrc (h : e.frame = .badCrc) : arrives s e svc =
    (false, { s with host := { s.host with miso := [], crcErrors := s.host.crcErrors + 1 } }) := by
  rw [arrives_host svc hhost hup, h]

theorem arrives_badForm (h : e.frame = .badForm) : arrives s e svc =
    (false, { s with host := { s.host with miso := [], frameErrors := s.host.frameErrors + 1 } }) := by
  rw [arrives_host svc hhost hup, h]

theorem arrives_overrun (h : e.frame = .ok) (hfull : 8 ≤ s.host.resp.length) : arrives s e svc =
    (false, { s with host := { s.host with miso := [], overruns := s.host.overruns + 1 } }) := by
  rw [arrives_host svc hhost hup, h]
  exact if_pos hfull

end

theorem arrives_unaddressed {s : State} {e : Env} {svc x n : Nat} (hcan : e.sess = .can x n)
    (h : canAddressed s x e svc = false) : arrives s e svc = (false, s) := by
  rw [arrives, hcan]
  dsimp only
  rw [h, Bool.and_false]

/-- Settles O44: every request command is a request, and a request that does not arrive leaves what its arrival left. -/
theorem requestsReachTheServicesOnce : Obligations.RequestsReachTheServicesOnce := by
  unfold Obligations.RequestsReachTheServicesOnce
  intro s c e svc payload hc
  obtain ⟨run, hexec⟩ := exec_of_requestOf hc
  have hdiscarded {t : State} (h : arrives s e svc = (false, t)) : exec c s = .next t := by
    rw [hexec, request_of_discarded _ _ (congrArg Prod.fst h), h]
  refine ⟨fun h => hdiscarded (Prod.ext h rfl), fun hhost hup hframe => hdiscarded (arrives_badCrc svc hhost hup hframe),
    fun hhost hup hframe => hdiscarded (arrives_badForm svc hhost hup hframe),
    fun hhost hup hframe hfull => hdiscarded (arrives_overrun svc hhost hup hframe hfull),
    fun x n hcan h => hdiscarded (arrives_unaddressed hcan h), fun resp hreaches hrepeats => ?_⟩
  rw [hexec, request_of_repeated _ _ hreaches hrepeats, repeatAnswer]

end Sys2Proof.Machine
end

section
/-! PROOFS. SEGMENT transfers (12_host_port_and_services, R276). -/

namespace Sys2Proof.Machine

/-- A request that is served is answered in the state that its execution leaves. -/
theorem exists_answer_of_served {s t : State} {e : Env} {svc : Nat} {payload : List Byte} {run : State → Nat × List Byte × State}
    (h : Served s e svc payload) (hrun : (run (heard s e svc payload)).2.2 = t) :
    ∃ l, requestStatus s e svc payload run = answer t e svc l :=
  ⟨_, by rw [requestStatus_of_served h, ← hrun]⟩

theorem setSeg_seg (s : State) (x : Sess) (g : Option Segment) : (getSess (setSeg s x g) x).seg = g := by
  rw [setSeg, getSess_modSess_self]

theorem setSeg_clk (s : State) (x : Sess) (g : Option Segment) : (setSeg s x g).clk = s.clk := rfl
theorem setSeg_committed (s : State) (x : Sess) (g : Option Segment) :
    (setSeg s x g).dict.committed = s.dict.committed := rfl

/-- A transfer whose last request is at most 2 s old is open. -/
theorem openSeg_of_recent {s : State} {x : Sess} {g : Segment} (hseg : (getSess s x).seg = some g)
    (hrecent : s.clk ≤ after g.last (secs 2)) : openSeg s x = some g := by
  rw [openSeg, hseg]
  exact if_pos hrecent

theorem openSeg_heard (s : State) (e : Env) (svc : Nat) (payload : List Byte) (x : Sess) :
    openSeg (heard s e svc payload) x = openSeg s x := by
  rw [openSeg, heard_seg, openSeg, heard_clk]

/-! ### INIT -/

section
variable {s : State} {e : Env} {n : Nat} {items : List SegItem} (hrecovery : inRecovery s = false)
  (hcount : countBad e.sess n items = false)
include hrecovery hcount

/-- An INIT_READ of items that no condition refuses opens a transfer that holds their data. -/
theorem exec_segmentInitRead_accepted (h : Served s e 5 (initPayload 0 n 0 items)) :
    let w := setSeg (heard s e 5 (initPayload 0 n 0 items)) e.sess none
    let r := segRead w e.sess items
    r.1 = 0 → ∃ l, exec (.segmentInitRead e n items) s =
      .next (answer (setSeg r.2.2 e.sess (some ⟨false, items, r.2.1.length, r.2.1, w.clk⟩)) e 5 l) := by
  have hrecovery' := (inRecovery_heard s e 5 (initPayload 0 n 0 items)).trans hrecovery
  intro w r hread
  change ∃ l, Host.Outcome.next (requestStatus s e 5 (initPayload 0 n 0 items) _) = _
  refine Exists.imp (fun _ => congrArg Host.Outcome.next) (exists_answer_of_served h ?_)
  subst w r
  generalize heard s e 5 (initPayload 0 n 0 items) = w at *
  have haccepted : firstCode [codeIf (inRecovery (setSeg w e.sess none)) Ab.busy, codeIf (countBad e.sess n items) Ab.range,
      (segRead (setSeg w e.sess none) e.sess items).1] = 0 := by
    rw [show inRecovery (setSeg w e.sess none) = false from hrecovery', hcount, hread]
    rfl
  dsimp only
  rw [if_pos haccepted]

/-- An INIT_WRITE that no condition refuses opens a transfer without data. -/
theorem exec_segmentInitWrite_accepted {total : Nat} (h : Served s e 5 (initPayload 1 n total items))
    (hrelease : beforeRelease s = false) (hleast : 1 ≤ total) (hmost : total ≤ 131072) :
    let w := setSeg (heard s e 5 (initPayload 1 n total items)) e.sess none
    ∃ l, exec (.segmentInitWrite e n total items) s =
      .next (answer (setSeg w e.sess (some ⟨true, items, total, [], w.clk⟩)) e 5 l) := by
  have hrecovery' := (inRecovery_heard s e 5 (initPayload 1 n total items)).trans hrecovery
  have hrelease' := (beforeRelease_heard s e 5 (initPayload 1 n total items)).trans hrelease
  intro w
  change ∃ l, Host.Outcome.next (requestStatus s e 5 (initPayload 1 n total items) _) = _
  refine Exists.imp (fun _ => congrArg Host.Outcome.next) (exists_answer_of_served h ?_)
  subst w
  generalize heard s e 5 (initPayload 1 n total items) = w at *
  have htotal : (total == 0) = false := by simp; omega
  have hfits : decide (131072 < total) = false := by simp; omega
  have haccepted : firstCode [codeIf (inRecovery (setSeg w e.sess none) || beforeRelease (setSeg w e.sess none)) Ab.busy,
      codeIf (total == 0) Ab.lengthZero, codeIf (countBad e.sess n items || decide (131072 < total)) Ab.range] = 0 := by
    rw [show inRecovery (setSeg w e.sess none) = false from hrecovery',
      show beforeRelease (setSeg w e.sess none) = false from hrelease', htotal, hcount, hfits]
    rfl
  dsimp only
  rw [if_pos haccepted]

end

/-! ### DATA and END -/

section
variable {s : State} {e : Env} {g : Segment} (hseg : (getSess s e.sess).seg = some g)
  (hrecent : s.clk ≤ after g.last (secs 2))
include hseg hrecent

theorem openSeg_heard_of_recent (svc : Nat) (payload : List Byte) : openSeg (heard s e svc payload) e.sess = some g :=
  (openSeg_heard ..).trans (openSeg_of_recent hseg hrecent)

variable (hrecovery : inRecovery s = false)
include hrecovery

/-- DATA that is in order is appended to a write transfer; any DATA renews the transfer. -/
theorem exec_segmentData_open (off n : Nat) (data : List Byte) (h : Served s e 5 (segPayload s e.sess off n data)) :
    let w := heard s e 5 (segPayload s e.sess off n data)
    ∃ l, exec (.segmentData e off n data) s = .next (answer (setSeg w e.sess (some { g with
      data := if g.write = true ∧ segDataBad e.sess g off n data = false then g.data ++ data else g.data
      last := w.clk })) e 5 l) := by
  have hopen := openSeg_heard_of_recent hseg hrecent 5 (segPayload s e.sess off n data)
  have hrecovery' := (inRecovery_heard s e 5 (segPayload s e.sess off n data)).trans hrecovery
  intro w
  refine Exists.imp (fun _ => congrArg Host.Outcome.next) (exists_answer_of_served h ?_)
  subst w
  generalize heard s e 5 (segPayload s e.sess off n data) = w at *
  rw [hrecovery', if_neg Bool.false_ne_true, hopen]
  dsimp only
  cases hbad : segDataBad e.sess g off n data <;> cases hwrite : g.write <;> simp

section
variable (h : Served s e 5 (bytes1 [3]))
include h

/-- END closes a transfer that reads. -/
theorem exec_segmentEnd_read (hread : g.write = false) : exec (.segmentEnd e) s =
    .next (answer (setSeg (heard s e 5 (bytes1 [3])) e.sess none) e 5 (statusBytes 0 ++ bytes1 [255])) := by
  have hopen := openSeg_heard_of_recent hseg hrecent 5 (bytes1 [3])
  have hrecovery' := (inRecovery_heard s e 5 (bytes1 [3])).trans hrecovery
  refine congrArg Host.Outcome.next ((request_of_served h _).trans (runRequest_of_answered ?_))
  generalize heard s e 5 (bytes1 [3]) = w at *
  rw [hrecovery', if_neg Bool.false_ne_true, hopen]
  dsimp only
  rw [hread, if_neg Bool.false_ne_true]

/-- END applies a whole write, and closes its transfer. -/
theorem exec_segmentEnd_write {u : State} (hrelease : beforeRelease s = false) (hwrite : g.write = true)
    (happlied : segEndWrite (setSeg (heard s e 5 (bytes1 [3])) e.sess none) e g = (none, u))
    (hruns : u.power.phase ≠ .reset) :
    exec (.segmentEnd e) s = .next (answer u e 5 (statusBytes 0 ++ bytes1 [255])) := by
  have hopen := openSeg_heard_of_recent hseg hrecent 5 (bytes1 [3])
  have hrecovery' := (inRecovery_heard s e 5 (bytes1 [3])).trans hrecovery
  have hrelease' := (beforeRelease_heard s e 5 (bytes1 [3])).trans hrelease
  refine congrArg Host.Outcome.next ((request_of_served h _).trans (runRequest_of_answered ?_))
  generalize heard s e 5 (bytes1 [3]) = w at *
  rw [hrecovery', if_neg Bool.false_ne_true, hopen]
  dsimp only
  rw [hwrite, if_pos rfl, show beforeRelease (setSeg w e.sess none) = false from hrelease', if_neg Bool.false_ne_true,
    happlied]
  dsimp only
  rw [if_neg hruns]

end

end

theorem exec_segmentCancel_served {s : State} {e : Env} (hrecovery : inRecovery s = false)
    (h : Served s e 5 (bytes1 [4])) : ∃ l, exec (.segmentCancel e) s =
      .next (answer (setSeg (heard s e 5 (bytes1 [4])) e.sess none) e 5 l) := by
  refine Exists.imp (fun _ => congrArg Host.Outcome.next) (exists_answer_of_served h ?_)
  rw [inRecovery_heard, hrecovery, if_neg Bool.false_ne_true]

theorem exec_segmentTimeout_passed {s : State} {x : Sess} {g : Segment} (hseg : (getSess s x).seg = some g)
    (hpassed : after g.last (secs 2) ≤ s.clk) : exec (.segmentTimeout x) s = .next (setSeg s x none) := by
  rw [exec_segmentTimeout, execSegmentTimeout, hseg]
  dsimp only
  rw [if_pos (show passed s _ _ = true from decide_eq_true hpassed)]

/-- Settles O48: each request is what its lemma says, in the state that has heard it. -/
theorem segmentsCarryTransfers : Obligations.SegmentsCarryTransfers := by
  unfold Obligations.SegmentsCarryTransfers
  refine ⟨fun s e n items h => ?initRead, fun s e n total items h hrecovery hrelease hcount hleast hmost => ?initWrite,
    fun s e off n data g hseg hrecent hrecovery h => ?data,
    fun s e g hseg hrecent hrecovery h hread => ⟨_, exec_segmentEnd_read hseg hrecent hrecovery h hread, ?endRead⟩,
    fun s e g u hseg hrecent hrecovery hrelease h hwrite happlied hruns =>
      exec_segmentEnd_write hseg hrecent hrecovery h hrelease hwrite happlied hruns,
    fun s e h hrecovery => ?cancel,
    fun s x g hseg hpassed => ⟨_, exec_segmentTimeout_passed hseg hpassed, setSeg_seg .., ?timeout⟩⟩
  case initRead =>
    intro w hrecovery hcount hread
    obtain ⟨l, hexec⟩ := exec_segmentInitRead_accepted hrecovery hcount h hread
    refine ⟨_, hexec, ?_⟩
    rw [answer_seg, setSeg_seg, setSeg_clk, heard_clk]
  case initWrite =>
    obtain ⟨l, hexec⟩ := exec_segmentInitWrite_accepted hrecovery hcount h hrelease hleast hmost
    refine ⟨_, hexec, ?_⟩
    rw [answer_seg, setSeg_seg, setSeg_clk, heard_clk]
  case data =>
    obtain ⟨l, hexec⟩ := exec_segmentData_open hseg hrecent hrecovery off n data h
    refine ⟨_, hexec, ?_⟩
    rw [answer_seg, setSeg_seg, heard_clk]
  case endRead => rw [answer_seg, setSeg_seg, answer_committed, setSeg_committed, heard_committed]; exact ⟨rfl, rfl⟩
  case cancel =>
    obtain ⟨l, hexec⟩ := exec_segmentCancel_served hrecovery h
    refine ⟨_, hexec, ?_⟩
    rw [answer_seg, setSeg_seg]
  case timeout => rw [setSeg, getSess_modSess_self]

end Sys2Proof.Machine
end

section
/-! PROOFS. SRAM byte by byte, and the direct window on it (15_memory_and_repair, R337, R353; 12_host_port_and_services,
R277–R279). -/

namespace Sys2Proof.Machine

/-! ### Bytes of SRAM -/

section
variable (s : State) (l : List Byte) {a : Nat}

theorem sramByte_sramWrite_in {i : Nat} (h : i < l.length) : sramByte (sramWrite s a l) (a + i) = l[i] :=
  Table.getD_setRun_in sramDefault l s.mem.sram a h

theorem sramByte_sramWrite_out {b : Nat} (h : b < a ∨ a + l.length ≤ b) : sramByte (sramWrite s a l) b = sramByte s b :=
  Table.getD_setRun_other sramDefault l s.mem.sram a h

end

theorem sramByte_sramWrite_one (s : State) (a : Nat) (v : Byte) (b : Nat) :
    sramByte (sramWrite s a [v]) b = if b = a then v else sramByte s b := by
  split
  · next h =>
    subst h
    exact sramByte_sramWrite_in s [v] (i := 0) (by simp)
  · next h => exact sramByte_sramWrite_out s [v] (by simp; omega)

theorem sramByte_of_mem {s t : State} (h : t.mem = s.mem) (a : Nat) : sramByte t a = sramByte s a := by
  rw [sramByte, h, sramByte]

/-- Bytes stored one by one at the offsets of a list. -/
theorem sramByte_forAll_write (off a : Nat) (v : Nat → Byte) (l : List Nat) (s : State) :
    sramByte (forAll l (fun s i => sramWrite s (off + i) [v i]) s) a =
      if off ≤ a ∧ a - off ∈ l then v (a - off) else sramByte s a := by
  unfold forAll
  induction l generalizing s with
  | nil => simp
  | cons i l ih =>
    rw [List.foldl_cons, ih, sramByte_sramWrite_one]
    by_cases hlater : off ≤ a ∧ a - off ∈ l
    · rw [if_pos hlater, if_pos ⟨hlater.1, List.mem_cons_of_mem _ hlater.2⟩]
    · rw [if_neg hlater]
      by_cases hhere : a = off + i
      · rw [if_pos hhere, if_pos ⟨by omega, by simp [hhere]⟩, hhere, Nat.add_sub_cancel_left]
      · have hother : ¬ (off ≤ a ∧ a - off ∈ i :: l) := by
          rintro ⟨hle, hmem⟩
          obtain heq | hmem := List.mem_cons.mp hmem
          · omega
          · exact hlater ⟨hle, hmem⟩
        rw [if_neg hhere, if_neg hother]

/-- A window write stores the bytes that it reaches, and no other (R353). -/
theorem sramByte_windowWrite (s : State) (off : Nat) (data : List Byte) (a : Nat) :
    sramByte (windowWrite s off data) a =
      if off ≤ a ∧ a < off + data.length ∧ windowWritable a = true then nth 0#8 data (a - off) else sramByte s a := by
  have hreached : (off ≤ a ∧ a - off ∈ (upTo data.length).filter fun i => windowWritable (off + i)) ↔
      (off ≤ a ∧ a < off + data.length ∧ windowWritable a = true) := by
    refine and_congr_right fun hle => ?_
    have hlt : a - off < data.length ↔ a < off + data.length := by omega
    rw [List.mem_filter, upTo, List.mem_range, Nat.add_sub_cancel' hle, hlt]
  rw [windowWrite, sramByte_forAll_write off a fun i => nth 0#8 data i]
  exact if_congr hreached rfl rfl

/-! ### The shadows of the ports (R279) -/

theorem setShadow_mem (s : State) (p : Nat) (v : Option (Nat × Nat)) : (setShadow s p v).mem = s.mem := rfl

theorem shadowOf_setShadow_self (s : State) (p : Nat) (w : Nat × Nat) : shadowOf (setShadow s p (some w)) p = some w := by
  have hnone : (s.host.shadows.filter fun e => e.1 ≠ p).find? (fun e => e.1 == p) = none := by
    rw [List.find?_eq_none]
    intro e he
    simpa using (List.mem_filter.mp he).2
  rw [shadowOf, setShadow]
  dsimp only
  rw [List.find?_append, hnone]
  simp

theorem shadowOf_of_shadows {s t : State} (h : t.host.shadows = s.host.shadows) (p : Nat) : shadowOf t p = shadowOf s p := by
  rw [shadowOf, h, shadowOf]

/-- The shadows of the ports. -/
def shadows (s : State) : List (Nat × Nat × Nat) := s.host.shadows

theorem shadows_of_host {s t : State} (h : t.host = s.host) : shadows t = shadows s := by rw [shadows, h, shadows]

theorem shadows_arrives (s : State) (e : Env) (svc : Nat) : shadows (arrives s e svc).2 = shadows s := by
  rw [arrives]
  split
  · dsimp only
    split
    · rfl
    · split
      · rfl
      · rfl
      · split <;> rfl
  · rfl
  · rfl

theorem shadows_managerHeard (s : State) : shadows (managerHeard s) = shadows s := by
  have hends (t : State) (type : Nat) (payload : List Byte) :
      shadows (fansEndSilence (logEvent t type payload)) = shadows t :=
    shadows_of_host (fansEndSilence_within (bs := [.free, .io, .fans, .mem, .snap]) _
      (logEvent_within _ _ _ (.refl _ _) (by decide)) (by decide) (by decide) (by decide) (by decide) .host (by decide))
  rw [managerHeard]
  refine ite_leaves (g := shadows) ?_ rfl
  rw [hends]
  rfl

theorem shadows_heard (s : State) (e : Env) (svc : Nat) (payload : List Byte) : shadows (heard s e svc payload) = shadows s := by
  have htouch (t : State) (x : Sess) : shadows (touch t x) = shadows t := by
    have hexpired : (sessExpire t x).host = t.host :=
      sessExpire_within (bs := [.dict]) t x (.refl _ t) (by decide) .host (by decide)
    rw [touch]
    refine ite_leaves (g := shadows) ?_ ?_
    · exact (shadows_managerHeard _).trans (shadows_of_host hexpired)
    · exact shadows_of_host hexpired
  have hnoted (t : State) (l : List Byte) : shadows (notePrev t e l) = shadows t := rfl
  rw [heard, hnoted, htouch, shadows_arrives]

theorem shadows_answer (s : State) (e : Env) (svc : Nat) (payload : List Byte) : shadows (answer s e svc payload) = shadows s := by
  rw [answer, sendResponse]
  split
  · rfl
  · refine ite_leaves (g := shadows) rfl (shadows_of_host ?_)
    exact svcQueue_within (bs := [.can]) _ _ _ _ (.refl _ _) (by decide) .host (by decide)
  · rfl

/-! ### BULK_READ and BULK_WRITE -/

section
variable {s : State} {e : Env} {n off : Nat} (hrecovery : inRecovery s = false)
include hrecovery

theorem exec_bulkRead_long (h : Served s e 6 (bytes1 [0, 0] ++ leBytes 2 n ++ leBytes 4 off))
    (hwindow : windowOk e.sess n off = true) (hlong : 4 < n) :
    let w := heard s e 6 (bytes1 [0, 0] ++ leBytes 2 n ++ leBytes 4 off)
    exec (.bulkRead e n off) s =
      .next (answer (setShadow w (portOf e.sess) none) e 6 (statusBytes 0 ++ windowRead w off n)) := by
  have hrecovery' := (inRecovery_heard s e 6 (bytes1 [0, 0] ++ leBytes 2 n ++ leBytes 4 off)).trans hrecovery
  intro w
  refine congrArg Host.Outcome.next (requestStatus_accepted h ?_)
  subst w
  generalize heard s e 6 (bytes1 [0, 0] ++ leBytes 2 n ++ leBytes 4 off) = w at *
  dsimp only
  rw [hrecovery', if_neg Bool.false_ne_true, hwindow, if_neg (by decide), if_neg (by omega)]
  dsimp only
  rw [if_neg (by omega)]

/-- A 4-byte read of a low word keeps the high word for the port (R279). -/
theorem exec_bulkRead_low (h : Served s e 6 (bytes1 [0, 0] ++ leBytes 2 4 ++ leBytes 4 off))
    (hwindow : windowOk e.sess 4 off = true) (hlow : isLowWord off = true) (hnone : shadowOf s (portOf e.sess) = none) :
    let w := heard s e 6 (bytes1 [0, 0] ++ leBytes 2 4 ++ leBytes 4 off)
    ∃ l, exec (.bulkRead e 4 off) s = .next (answer (setShadow (setShadow w (portOf e.sess) none) (portOf e.sess)
      (some (off + 4, leNat (windowRead w (off + 4) 4)))) e 6 l) := by
  have hrecovery' := (inRecovery_heard s e 6 (bytes1 [0, 0] ++ leBytes 2 4 ++ leBytes 4 off)).trans hrecovery
  have hnone' := (shadowOf_of_shadows (shadows_heard s e 6 (bytes1 [0, 0] ++ leBytes 2 4 ++ leBytes 4 off))
    (portOf e.sess)).trans hnone
  intro w
  refine Exists.imp (fun _ => congrArg Host.Outcome.next) (exists_answer_of_served h ?_)
  subst w
  generalize heard s e 6 (bytes1 [0, 0] ++ leBytes 2 4 ++ leBytes 4 off) = w at *
  dsimp only
  rw [hrecovery', if_neg Bool.false_ne_true, hwindow, if_neg (by decide), if_pos rfl, hnone']
  exact if_pos ⟨rfl, hlow⟩

variable {data : List Byte} (h : Served s e 6 (bytes1 [1, 0] ++ leBytes 2 n ++ leBytes 4 off ++ data))
include h

theorem exec_bulkWrite_accepted :
    let w := setShadow (heard s e 6 (bytes1 [1, 0] ++ leBytes 2 n ++ leBytes 4 off ++ data)) (portOf e.sess) none
    windowCode w e.sess n off data = 0 →
      exec (.bulkWrite e n off data) s = .next (answer (windowWrite w off data) e 6 (statusBytes 0 ++ [])) := by
  have hrecovery' := (inRecovery_heard s e 6 (bytes1 [1, 0] ++ leBytes 2 n ++ leBytes 4 off ++ data)).trans hrecovery
  intro w hcode
  refine congrArg Host.Outcome.next (requestStatus_accepted h ?_)
  subst w
  generalize heard s e 6 (bytes1 [1, 0] ++ leBytes 2 n ++ leBytes 4 off ++ data) = w at *
  dsimp only
  rw [hrecovery', if_neg Bool.false_ne_true, if_pos hcode]

theorem exec_bulkWrite_refused :
    let w := setShadow (heard s e 6 (bytes1 [1, 0] ++ leBytes 2 n ++ leBytes 4 off ++ data)) (portOf e.sess) none
    windowCode w e.sess n off data ≠ 0 →
      exec (.bulkWrite e n off data) s = .next (answer w e 6 (statusBytes (windowCode w e.sess n off data))) := by
  have hrecovery' := (inRecovery_heard s e 6 (bytes1 [1, 0] ++ leBytes 2 n ++ leBytes 4 off ++ data)).trans hrecovery
  intro w hcode
  refine congrArg Host.Outcome.next (requestStatus_refused (l := []) h ?_ hcode)
  subst w
  generalize heard s e 6 (bytes1 [1, 0] ++ leBytes 2 n ++ leBytes 4 off ++ data) = w at *
  dsimp only
  rw [hrecovery', if_neg Bool.false_ne_true, if_neg hcode]

end

/-- A window write that no condition refuses brings as many bytes as it says. -/
theorem length_of_windowCode {s : State} {x : Sess} {n off : Nat} {data : List Byte} (h : windowCode s x n off data = 0) :
    data.length = n := by
  have htype := firstCode_eq_zero_iff.mp h (codeIf (decide (data.length ≠ n)) Ab.type) (by simp)
  by_contra hne
  rw [codeIf, if_pos (decide_eq_true hne)] at htype
  exact absurd htype (by decide)

/-- Settles O49: each request is what its lemma says; the bytes of a write are those of the memory after it. -/
theorem theWindowReadsAndWrites : Obligations.TheWindowReadsAndWrites := by
  unfold Obligations.TheWindowReadsAndWrites
  refine ⟨fun s e n off h hrecovery hwindow hlong => exec_bulkRead_long hrecovery h hwindow hlong,
    fun s e off h hrecovery hwindow hlow hnone => ?low, fun s e n off data h hrecovery hcode => ?write,
    fun s e n off data h hrecovery hcode => exec_bulkWrite_refused hrecovery h hcode⟩
  case low =>
    obtain ⟨l, hexec⟩ := exec_bulkRead_low hrecovery h hwindow hlow hnone
    refine ⟨_, hexec, ?_⟩
    rw [shadowOf_of_shadows (shadows_answer ..), shadowOf_setShadow_self]
  case write =>
    refine ⟨_, exec_bulkWrite_accepted hrecovery h hcode, fun a => ?_⟩
    rw [sramByte_of_mem (answer_mem ..), sramByte_windowWrite, length_of_windowCode hcode]

end Sys2Proof.Machine
end

section
/-! PROOFS. The memory: SRAM, heddle entries, the scrubber, moves and invalidations (15_memory_and_repair, R337–R355). -/

namespace Sys2Proof.Machine

/-! ### SRAM and heddle entries (R337, R342, R352, R354) -/

theorem getRun_setRun {α : Type} [DecidableEq α] (d : Nat → α) (l : List α) (t : Table α) (k : Nat) :
    Table.getRun d (Table.setRun d t k l) k l.length = l := by
  refine List.ext_getElem (by simp [Table.getRun]) fun i _ hi => ?_
  rw [← Table.getD_setRun_in d l t k hi]
  simp [Table.getRun]

theorem sramRead_sramWrite (s : State) (a : Nat) (l : List Byte) : sramRead (sramWrite s a l) a l.length = l :=
  getRun_setRun ..

theorem length_heddleBytes (s : State) (e : Nat) : (heddleBytes s e).length = 64 := by
  simp [heddleBytes, bytes1, leBytes]

/-- An entry that is no longer bad is stored as the committed configuration gives it. -/
theorem exec_heddleRewrite_bad {s : State} {e : Nat} (h : e ∈ s.mem.heddleBad) : exec (.heddleRewrite e) s =
    .next (heddleStore (withMem s { s.mem with heddleBad := s.mem.heddleBad.filter fun x => x ≠ e }) e) :=
  if_pos (by simpa using h)

section
variable (s : State) (a e : Nat)

theorem clearPoison_sram : (clearPoison s a).mem.sram = s.mem.sram := by rw [clearPoison, refreshPoison]
theorem clearPoison_caches : (clearPoison s a).mem.caches = s.mem.caches := by rw [clearPoison, refreshPoison]
theorem clearPoison_heddleBad : (clearPoison s a).mem.heddleBad = s.mem.heddleBad := by rw [clearPoison, refreshPoison]
theorem clearPoison_poisonS : (clearPoison s a).mem.poisonS = s.mem.poisonS.filter fun p => p ≠ a := by
  rw [clearPoison, refreshPoison]

/-- An entry spells the committed configuration, whatever the memory holds. -/
theorem heddleBytes_withMem (m : Mem) : heddleBytes (withMem s m) e = heddleBytes s e := rfl

theorem heddleStore_sram : (heddleStore s e).mem.sram = (sramWrite s (e * 64) (heddleBytes s e)).mem.sram := by
  rw [heddleStore, clearPoison_sram, clearPoison_sram]
theorem heddleStore_caches : (heddleStore s e).mem.caches = s.mem.caches := by
  rw [heddleStore, clearPoison_caches, clearPoison_caches, sramWrite]
theorem heddleStore_heddleBad : (heddleStore s e).mem.heddleBad = s.mem.heddleBad := by
  rw [heddleStore, clearPoison_heddleBad, clearPoison_heddleBad, sramWrite]
theorem heddleStore_poisonS : (heddleStore s e).mem.poisonS =
    (s.mem.poisonS.filter fun p => p ≠ e * 64).filter fun p => p ≠ e * 64 + 32 := by
  rw [heddleStore, clearPoison_poisonS, clearPoison_poisonS, sramWrite]

theorem sramRead_heddleStore : sramRead (heddleStore s e) (e * 64) 64 = heddleBytes s e := by
  have hread := sramRead_sramWrite s (e * 64) (heddleBytes s e)
  rwa [length_heddleBytes, sramRead, ← heddleStore_sram, ← sramRead] at hread

theorem sramByte_heddleStore_out {b : Nat} (h : b < e * 64 ∨ e * 64 + 64 ≤ b) :
    sramByte (heddleStore s e) b = sramByte s b := by
  rw [sramByte, heddleStore_sram, ← sramByte]
  exact sramByte_sramWrite_out s (heddleBytes s e) (by rwa [length_heddleBytes])

end

/-! ### The scrubber (R340, R341, R343) -/

/-- What a correction and a poisoned line bear on, but for the poison of MRAM. -/
def scrubView (s : State) : List Nat × Nat × List Nat × RepairMap × List Hit × Table Byte :=
  (s.mem.poisonS, s.mem.sramUncorrectable, s.mem.heddleBad, s.mem.map, s.mem.writebacks, s.mem.sram)

theorem scrubView_of_mem {s t : State} (h : t.mem = s.mem) : scrubView t = scrubView s := by rw [scrubView, h, scrubView]

theorem scrubView_scrubOn (s : State) : scrubView (scrubOn s) = scrubView s :=
  ite_leaves (g := scrubView) rfl rfl

theorem scrubView_memFlag (s : State) (i : Nat) (b : Bool) : scrubView (memFlag s i b) = scrubView s := rfl
theorem scrubView_writeMap (s : State) : scrubView (writeMap s) = scrubView s := rfl
theorem scrubView_refreshMapFlags (s : State) : scrubView (refreshMapFlags s) = scrubView s := by
  rw [refreshMapFlags, scrubView_memFlag, scrubView_memFlag, scrubView_memFlag]

theorem scrubView_addLedger (s : State) (memory kind origin bank index spare : Nat) :
    scrubView (addLedger s memory kind origin bank index spare) = scrubView s :=
  ite_leaves (g := scrubView) rfl rfl

theorem scrubView_logRepair (s : State) : scrubView (logRepair s) = scrubView s := by
  unfold logRepair
  split
  · exact scrubView_of_mem (logEvent_within (bs := [.snap]) _ _ _ (.refl _ _) (by decide) .mem (by decide))
  · rfl

/-- A defective row that has not been repaired takes a free spare of its bank. -/
theorem map_defectRow {s : State} {m bank row k : Nat} (origin : Nat) (hrow : rowRepaired s m bank row = false)
    (hfree : freeSpare s.mem.map.rows m bank (spareRows m) = some k) : scrubView (defectRow s m bank row origin) =
      scrubView { s with mem := { s.mem with map := { s.mem.map with
        rows := s.mem.map.rows ++ [(m, bank, row, k)], moving := s.mem.map.moving ++ [(m, bank, row, false)] } } } := by
  rw [defectRow, hrow, if_neg Bool.false_ne_true, hfree]
  dsimp only
  rw [scrubView_writeMap, scrubView_refreshMapFlags, scrubView_logRepair, scrubView_addLedger]

/-- A poisoned line of the heddle table makes its entry bad. -/
theorem scrubView_poisonSram {off : Nat} (hoff : off < 0x5500) (s : State) : ∃ bad, off / 64 ∈ bad ∧
    scrubView (poisonSram s off) = scrubView { s with mem := { s.mem with heddleBad := bad } } := by
  rw [poisonSram, if_pos hoff]
  dsimp only
  split
  · next hbad => exact ⟨s.mem.heddleBad, by simpa using hbad, rfl⟩
  · exact ⟨s.mem.heddleBad ++ [off / 64], by simp, rfl⟩

theorem poisonLine_unknown {s : State} {off : Nat} (origin : Nat) (h : off ∉ s.mem.poisonS) : poisonLine s 0 off origin =
    poisonSram (defectRow (addLedger (refreshPoison { s with mem := { s.mem with
      poisonS := s.mem.poisonS ++ [off], sramUncorrectable := s.mem.sramUncorrectable + 1 } })
        0 5 origin (lineBank off) (lineRow off) 0xFFFF) 0 (lineBank off) (lineRow off) origin) off := by
  have hunknown : s.mem.poisonS.contains off = false := by simpa using h
  rw [poisonLine]
  dsimp only
  rw [if_pos rfl, hunknown, if_neg Bool.false_ne_true, if_pos rfl, if_pos rfl]

/-- The parts of a `scrubView`. -/
theorem scrubView_eq_iff {s : State} {v : List Nat × Nat × List Nat × RepairMap × List Hit × Table Byte} :
    scrubView s = v ↔ s.mem.poisonS = v.1 ∧ s.mem.sramUncorrectable = v.2.1 ∧ s.mem.heddleBad = v.2.2.1 ∧
      s.mem.map = v.2.2.2.1 ∧ s.mem.writebacks = v.2.2.2.2.1 ∧ s.mem.sram = v.2.2.2.2.2 := by
  simp only [scrubView, Prod.ext_iff]

/-- A line of the heddle table that is newly poisoned: it counts, its row takes a spare, and its entry waits to be rewritten. -/
theorem poisonLine_heddle {s : State} {off k : Nat} (origin : Nat) (hoff : off < 0x5500) (hnew : off ∉ s.mem.poisonS)
    (hrow : rowRepaired s 0 (lineBank off) (lineRow off) = false)
    (hfree : freeSpare s.mem.map.rows 0 (lineBank off) 16 = some k) : let t := poisonLine s 0 off origin
    off ∈ t.mem.poisonS ∧ t.mem.sramUncorrectable = s.mem.sramUncorrectable + 1 ∧ off / 64 ∈ t.mem.heddleBad ∧
      (0, lineBank off, lineRow off, k) ∈ t.mem.map.rows := by
  intro t
  let poisoned : State := { s with mem := { s.mem with
    poisonS := s.mem.poisonS ++ [off], sramUncorrectable := s.mem.sramUncorrectable + 1 } }
  let listed := addLedger (refreshPoison poisoned) 0 5 origin (lineBank off) (lineRow off) 0xFFFF
  have hlisted : scrubView listed = scrubView poisoned := scrubView_addLedger ..
  obtain ⟨hpoison, hcount, -, hmap, -, -⟩ := scrubView_eq_iff.mp hlisted
  have hmap' : listed.mem.map = s.mem.map := hmap
  have hspared := map_defectRow (s := listed) (m := 0) (bank := lineBank off) (row := lineRow off) (k := k) origin
    (by rwa [rowRepaired, hmap']) (by rwa [hmap'])
  obtain ⟨bad, hbad, hpoisoned⟩ := scrubView_poisonSram hoff (defectRow listed 0 (lineBank off) (lineRow off) origin)
  obtain ⟨hpoison₁, hcount₁, -, hmap₁, -, -⟩ := scrubView_eq_iff.mp hspared
  obtain ⟨hpoison₂, hcount₂, hheddle₂, hmap₂, -, -⟩ := scrubView_eq_iff.mp hpoisoned
  have ht : t = poisonSram (defectRow listed 0 (lineBank off) (lineRow off) origin) off := poisonLine_unknown origin hnew
  rw [ht, hpoison₂, hcount₂, hheddle₂, hmap₂]
  dsimp only [scrubView]
  rw [hpoison₁, hcount₁, hmap₁]
  dsimp only [scrubView]
  rw [hpoison, hcount]
  exact ⟨List.mem_append_right _ List.mem_cons_self, rfl, hbad, List.mem_append_right _ List.mem_cons_self⟩

section
variable {s : State} (hscrub : s.mem.scrubbing = true)
include hscrub

theorem exec_scrubRead_clean : exec (.scrubRead []) s = .next (scrubOn s) := by
  rw [exec_scrubRead, execScrubRead, hscrub]
  rfl

section
variable (hsram : s.mem.scrubPos < 0x800000) (herased : erasedNow s 0 (lineBank s.mem.scrubPos) = [])
include hsram herased

/-- One symbol in error is corrected; its line waits for its write-back. -/
theorem exec_scrubRead_one {c : Nat} (hc : c < 36) : exec (.scrubRead [c]) s =
    .next (scrubOn { s with mem := { s.mem with hits := s.mem.hits ++ [⟨.sram, s.mem.scrubPos, c⟩]
                                                writebacks := s.mem.writebacks ++ [⟨.sram, s.mem.scrubPos, c⟩] } }) := by
  rw [exec_scrubRead, execScrubRead, hscrub, if_neg (by decide)]
  simp [hsram, Nat.mod_eq_of_lt hsram, memNo, herased, hc, List.eraseDups_cons]

/-- Three symbols in error are more than the code corrects. -/
theorem exec_scrubRead_three {a b c : Nat} (ha : a < 36) (hb : b < 36) (hc : c < 36) (hab : a ≠ b) (hac : a ≠ c)
    (hbc : b ≠ c) : exec (.scrubRead [a, b, c]) s = .next (scrubOn (poisonLine s 0 s.mem.scrubPos 2)) := by
  rw [exec_scrubRead, execScrubRead, hscrub, if_neg (by decide)]
  simp [hsram, Nat.mod_eq_of_lt hsram, memNo, herased, ha, hb, hc, List.eraseDups_cons, hab.symm, hac.symm, hbc.symm]

end

end

theorem scrubOn_inside {s : State} (h : s.mem.scrubPos + 32 < 0x1000000) : scrubOn s =
    { s with mem := { s.mem with scrubPos := s.mem.scrubPos + 32 } } :=
  if_neg (by omega)

theorem scrubOn_last {s : State} (h : 0x1000000 ≤ s.mem.scrubPos + 32) : scrubOn s =
    { s with mem := { s.mem with
        scrubPos := 0, passes := s.mem.passes + 1, lastPass := (s.clk - s.mem.passStart) / clkPerMs
        passStart := s.clk, prevHits := s.mem.hits, hits := []
        passMoves := s.mem.map.moving, filled := s.mem.passMoves } } :=
  if_pos h

/-! ### Corrected lines (R341, R345) -/

theorem length_eraseDups_le {α : Type} [BEq α] (l : List α) : l.eraseDups.length ≤ l.length := by
  induction hn : l.length using Nat.strong_induction_on generalizing l with
  | _ n ih =>
    cases l with
    | nil => simp
    | cons x l =>
      have hle := List.length_filter_le (fun y => !y == x) l
      rw [List.length_cons] at hn
      have hrest := ih _ (by omega) (l.filter fun y => !y == x) rfl
      rw [List.eraseDups_cons, List.length_cons]
      omega

theorem length_rowsHit_le (hits : List Hit) (m : MemKind) (bank col : Nat) :
    (rowsHit hits m bank col).length ≤ hits.length :=
  (length_eraseDups_le _).trans ((List.length_map _).trans_le (List.length_filter_le _ _))

theorem length_linesHit_le (s : State) (hits : List Hit) (m : MemKind) (bank row : Nat) :
    (linesHit s hits m bank row).length ≤ hits.length :=
  (length_eraseDups_le _).trans ((List.length_map _).trans_le (List.length_filter_le _ _))

/-- Fewer than three corrections of a pass make no column and no row defective. -/
theorem classify_of_few {hits : List Hit} (h : hits.length < 3) (s : State) (news : List Hit) (origin : Nat) :
    classify s hits news origin = s := by
  have hrows (m : MemKind) (bank col : Nat) : ¬ 4 ≤ (rowsHit hits m bank col).length := by
    have := length_rowsHit_le hits m bank col
    omega
  have hlines (t : State) (m : MemKind) (bank row : Nat) : ¬ 3 ≤ (linesHit t hits m bank row).length := by
    have := length_linesHit_le t hits m bank row
    omega
  rw [classify]
  simp only [hrows, hlines, if_false]
  rw [forAll_of_idle fun _ _ => rfl, forAll_of_idle fun _ _ => rfl]

theorem hardCell_of_first {s : State} (h : s.mem.prevHits = []) (hit : Hit) (origin : Nat) : hardCell s hit origin = s := by
  rw [hardCell, h]
  rfl

/-- A line written back in a first pass with few corrections is counted, and nothing else comes of it. -/
theorem exec_correctedWriteback_first {s : State} (hprev : s.mem.prevHits = []) (hfew : s.mem.hits.length < 3) (off : Nat) :
    exec (.correctedWriteback .sram off) s = .next { s with mem := { s.mem with
      writebacks := s.mem.writebacks.filter fun h => !(h.mem == .sram && h.line == lineOf off)
      sramCorrected := s.mem.sramCorrected + 1 } } := by
  rw [exec_correctedWriteback, execCorrectedWriteback]
  dsimp only
  rw [forAll_of_idle fun h _ => hardCell_of_first (by exact hprev) h 2, classify_of_few]
  · rfl
  · simpa [hprev] using hfew

/-! ### Moves and invalidations (R347, R355) -/

theorem exec_spareMoveComplete_filled {s : State} (h : ∃ m ∈ s.mem.map.moving, m ∈ s.mem.filled) :
    exec .spareMoveComplete s = .next (writeMap (refreshMapFlags { s with mem := { s.mem with
      map := { s.mem.map with moving := s.mem.map.moving.filter fun m => !s.mem.filled.contains m }, filled := [] } })) := by
  obtain ⟨m, hmoving, hfilled⟩ := h
  refine if_neg fun hall => ?_
  have := List.filter_eq_self.mp hall m hmoving
  simp [hfilled] at this

theorem refreshMapFlags_memMove (s : State) :
    Flag.get (refreshMapFlags s).mem.flags memMove = !s.mem.map.moving.isEmpty := by
  rw [refreshMapFlags, memFlag]
  exact Flag.get_set_self _ _ (by decide)

theorem writeMap_memMove (s : State) : Flag.get (writeMap s).mem.flags memMove = Flag.get s.mem.flags memMove := by
  rw [writeMap, mramWritten]
  exact Flag.get_set_other _ _ (by decide)

theorem writeMap_maps (s : State) : (writeMap s).mem.repairGen = s.mem.repairGen + 1 ∧
    (writeMap s).mram.maps = List.replicate 3 ⟨s.mem.repairGen + 1, true, s.mem.map, s.mram.ledger⟩ := by
  rw [writeMap, mramWritten]
  exact ⟨rfl, rfl⟩

theorem refreshMapFlags_leaves (s : State) : (refreshMapFlags s).mem.repairGen = s.mem.repairGen ∧
    (refreshMapFlags s).mem.map = s.mem.map ∧ (refreshMapFlags s).mram = s.mram := by
  simp only [refreshMapFlags, memFlag, and_self]

/-- The map that is written is the one in use, and MEM_FLAGS says whether it still moves. -/
theorem writeMap_refreshMapFlags (s : State) : let t := writeMap (refreshMapFlags s)
    t.mem.map = s.mem.map ∧ t.mem.repairGen = s.mem.repairGen + 1 ∧
      Flag.get t.mem.flags memMove = !s.mem.map.moving.isEmpty ∧
      t.mram.maps = List.replicate 3 ⟨s.mem.repairGen + 1, true, s.mem.map, s.mram.ledger⟩ := by
  obtain ⟨hgen, hmap, hmram⟩ := refreshMapFlags_leaves s
  obtain ⟨hgen', hmaps⟩ := writeMap_maps (refreshMapFlags s)
  obtain ⟨-, -, -, hmap', -, -⟩ := scrubView_eq_iff.mp (scrubView_writeMap (refreshMapFlags s))
  refine ⟨hmap'.trans hmap, hgen'.trans (congrArg (· + 1) hgen), ?_, ?_⟩
  · rw [writeMap_memMove, refreshMapFlags_memMove]
  · rw [hmaps, hgen, hmap, hmram]

theorem exec_invalidationComplete_begun {s : State} (h : s.mem.invState = 1) : exec .invalidationComplete s =
    .next { s with mem := { s.mem with invState := 2, caches := s.mem.caches.map fun c => c.filter fun p =>
      !(decide (s.mem.invFirst ≤ p.1) && decide (p.1 < s.mem.invFirst + s.mem.invCount)) } } :=
  if_pos h

/-- Settles O34: each command by the operation that it comes to, and that operation by what it makes of the memory. -/
theorem theMemory : Obligations.TheMemory := by
  unfold Obligations.TheMemory
  refine ⟨fun s a l => ⟨sramRead_sramWrite s a l, fun b hb => sramByte_sramWrite_out s l hb,
      fun h => Table.wf_setRun _ l _ a h⟩,
    fun s e he => ⟨_, exec_heddleRewrite_bad he, ?rewritten⟩, fun s hscrub => ⟨_, exec_scrubRead_clean hscrub, ?clean⟩,
    fun s c hscrub hc hsram herased => ⟨_, exec_scrubRead_one hscrub hsram herased hc, ?corrected⟩,
    fun s a b c k hscrub ha hb hc hab hac hbc hoff herased hnew hrow hfree => ⟨_,
      exec_scrubRead_three hscrub (by omega) herased ha hb hc hab hac hbc, ?poisoned⟩,
    fun s off hprev hfew => ⟨_, exec_correctedWriteback_first hprev hfew off, rfl, rfl, fun h => ?back⟩,
    fun s h => ⟨_, exec_spareMoveComplete_filled h, ?moved⟩,
    fun s h => ⟨_, exec_invalidationComplete_begun h, rfl, rfl, fun c hc p hp => ?invalid⟩⟩
  case rewritten =>
    rw [heddleStore_heddleBad, heddleStore_poisonS, heddleStore_caches]
    exact ⟨(sramRead_heddleStore ..).trans (heddleBytes_withMem ..), by simp [withMem], by simp, by simp,
      fun a ha => sramByte_heddleStore_out _ e ha, rfl⟩
  case clean =>
    obtain ⟨-, -, -, -, -, hsram⟩ := scrubView_eq_iff.mp (scrubView_scrubOn s)
    refine ⟨hsram, fun hinside => ?_, fun hlast => ?_⟩
    · rw [scrubOn_inside hinside]
      exact ⟨rfl, rfl⟩
    · rw [scrubOn_last hlast]
      exact ⟨rfl, rfl, rfl, rfl⟩
  case corrected =>
    obtain ⟨hpoison, hcount, -, -, hback, -⟩ := scrubView_eq_iff.mp (scrubView_scrubOn _)
    exact ⟨hback, hpoison, hcount⟩
  case poisoned =>
    obtain ⟨hpoison, hcount, hheddle, hmap, -, -⟩ := scrubView_eq_iff.mp (scrubView_scrubOn (poisonLine s 0 s.mem.scrubPos 2))
    rw [hpoison, hcount, hheddle, hmap]
    exact poisonLine_heddle 2 hoff hnew hrow hfree
  case back => simp [List.mem_filter, imp_iff_not_or]
  case moved =>
    obtain ⟨hmap, hgen, hflag, hmaps⟩ := writeMap_refreshMapFlags { s with mem := { s.mem with
      map := { s.mem.map with moving := s.mem.map.moving.filter fun m => !s.mem.filled.contains m }, filled := [] } }
    refine ⟨congrArg RepairMap.moving hmap, hflag, hgen, ?_⟩
    rw [hmaps, hgen, hmap]
  case invalid =>
    obtain ⟨d, -, rfl⟩ := List.mem_map.mp hc
    have := (List.mem_filter.mp hp).2
    simp at this
    omega

end Sys2Proof.Machine
end

section
/-! PROOFS. The CAN controllers (13_can_fd): their states, the end of a frame, errors, bus-off, sleep and the transceivers (R292,
R296, R297, R303, R306–R312). -/

namespace Sys2Proof.Machine

/-! ### What the operations of a controller leave of it -/

theorem getCan_of_can {s t : State} (h : t.can = s.can) (x : Nat) : getCan t x = getCan s x := by rw [getCan, h, getCan]

theorem getCan_modCan_self (s : State) (x : Nat) (f : CanRt → CanRt) : getCan (modCan s x f) x = f (getCan s x) := by
  rw [getCan_modCan, if_pos rfl]

theorem othersKept_modCan {s : State} {x : Nat} {f : CanRt → CanRt} : OthersKept getCan s (modCan s x f) x :=
  fun j hj => by rw [getCan_modCan, if_neg hj]

theorem getCan_logEvent (s : State) (type : Nat) (payload : List Byte) (x : Nat) :
    getCan (logEvent s type payload) x = getCan s x :=
  getCan_of_can (logEvent_within (bs := [.snap]) s type payload (.refl _ s) (by decide) .can (by decide)) x

theorem othersKept_of_can {s t : State} (h : t.can = s.can) (x : Nat) : OthersKept getCan s t x := fun j _ => getCan_of_can h j

theorem othersKept_ite {α : Type} {get : State → Nat → α} {s a b : State} {k : Nat} {p : Prop} [Decidable p]
    (ha : OthersKept get s a k) (hb : OthersKept get s b k) : OthersKept get s (if p then a else b) k := by
  split <;> assumption

section
variable (s : State) (x st : Nat)

theorem getCan_canSetState : getCan (canSetState s x st) x = { getCan s x with st := st } := by
  rw [canSetState]
  dsimp only
  split
  · next h => rw [← h]
  · rw [getCan_logEvent, getCan_modCan_self]

theorem canSetState_dict : (canSetState s x st).dict = s.dict :=
  canSetState_within (bs := [.can, .snap]) s x st (.refl _ s) (by decide) (by decide) .dict (by decide)

theorem getCan_canFollow (h : (getCan s x).st = 2 ∨ (getCan s x).st = 3) :
    getCan (canFollow s x) x = { getCan s x with st := errState (getCan s x) } := by
  rw [canFollow]
  dsimp only
  rw [if_pos h, getCan_canSetState]

theorem canFollow_dict : (canFollow s x).dict = s.dict :=
  canFollow_within (bs := [.can, .snap]) s x (.refl _ s) (by decide) (by decide) .dict (by decide)

/-- A controller that offers its next frame may have one on the bus. -/
theorem getCan_canOffer : ∃ onBus cancelled, getCan (canOffer s x) x =
    { getCan s x with onBus := onBus, cancelled := cancelled } := by
  rw [canOffer]
  dsimp only
  split
  · exact ⟨_, _, rfl⟩
  · exact ⟨_, _, getCan_modCan_self ..⟩

theorem getCan_canExpire : ∃ urgent expired, getCan (canExpire s x) x =
    { getCan s x with urgent := urgent, urgentExpired := expired } := ⟨_, _, getCan_modCan_self ..⟩

end

section
variable {s : State} {x st : Nat}

theorem othersKept_canSetState : OthersKept getCan s (canSetState s x st) x := by
  refine othersKept_ite (fun _ _ => rfl) fun j hj => ?_
  rw [getCan_logEvent, othersKept_modCan j hj]

theorem othersKept_canFollow : OthersKept getCan s (canFollow s x) x :=
  othersKept_ite othersKept_canSetState fun _ _ => rfl

theorem othersKept_canOffer : OthersKept getCan s (canOffer s x) x :=
  othersKept_ite (fun _ _ => rfl) othersKept_modCan

variable (hset : SyncUnit.can x ∉ s.dict.waiting)
include hset

/-- The end of a frame on a controller that is on the committed set. -/
theorem canFrameEnd_of_current : canFrameEnd s x = canOffer (canExpire s x) x := by
  rw [canFrameEnd, if_neg (by simpa using hset)]

/-- The end of a frame touches what is on the bus and the urgent frames. -/
theorem getCan_canFrameEnd : ∃ onBus cancelled urgent expired, getCan (canFrameEnd s x) x =
    { getCan s x with onBus := onBus, cancelled := cancelled, urgent := urgent, urgentExpired := expired } := by
  obtain ⟨onBus, cancelled, hoffer⟩ := getCan_canOffer (canExpire s x) x
  obtain ⟨urgent, expired, hexpire⟩ := getCan_canExpire s x
  exact ⟨onBus, cancelled, urgent, expired, by rw [canFrameEnd_of_current hset, hoffer, hexpire]⟩

theorem othersKept_canFrameEnd : OthersKept getCan s (canFrameEnd s x) x := by
  rw [canFrameEnd_of_current hset]
  exact (show OthersKept getCan s (canExpire s x) x from othersKept_modCan).trans othersKept_canOffer

end

theorem active_st {c : CanRt} (h : canActive c = true) : c.st = 2 ∨ c.st = 3 := by
  rw [canActive, Bool.and_eq_true, decide_eq_true_eq] at h
  exact h.1

theorem canHears_of_active {c : CanRt} (h : canActive c = true) : canHears c = true := by
  rw [canActive, Bool.and_eq_true, decide_eq_true_eq] at h
  rw [canHears, Bool.and_eq_true, decide_eq_true_eq]
  exact ⟨h.1.elim .inl fun h3 => .inr (.inl h3), h.2⟩

/-- The end of a frame on a controller that takes part in the bus: it follows its counters. -/
theorem getCan_frameEnd_followed {s : State} {x : Nat} (hset : SyncUnit.can x ∉ s.dict.waiting)
    (hst : (getCan s x).st = 2 ∨ (getCan s x).st = 3) : ∃ onBus cancelled urgent expired,
      getCan (canFrameEnd (canFollow s x) x) x = { getCan s x with
        st := errState (getCan s x), onBus := onBus, cancelled := cancelled, urgent := urgent, urgentExpired := expired } := by
  obtain ⟨onBus, cancelled, urgent, expired, hend⟩ := getCan_canFrameEnd (s := canFollow s x) (x := x)
    (by rwa [canFollow_dict])
  exact ⟨onBus, cancelled, urgent, expired, by rw [hend, getCan_canFollow _ _ hst]⟩

theorem othersKept_frameEnd_followed {s : State} {x : Nat} (hset : SyncUnit.can x ∉ s.dict.waiting) :
    OthersKept getCan s (canFrameEnd (canFollow s x) x) x :=
  othersKept_canFollow.trans (othersKept_canFrameEnd (by rwa [canFollow_dict]))

/-! ### Frames sent, and errors (R303, R307–R309) -/

/-- The frame on the bus has been acknowledged. -/
def CanRt.acknowledged (c : CanRt) : CanRt :=
  canFlag canNoPeer false
    { canDropSent c with sent := c.sent + 1, tec := c.tec - 1, ackRun := 0, lastSent := (canOnBus c).map fun i => i.frame }

/-- A frame of the controller's own has failed: what the error adds to TEC, and the run of ACK errors. -/
def CanRt.counted (c : CanRt) (kind : CanErrKind) (add : Nat) : CanRt :=
  { canAttemptFailed c with tec := c.tec + add, ackRun := if kind = .ack then c.ackRun + 1 else 0 }

/-- The sixteenth ACK error of a run sets NO_PEER (R309). -/
def CanRt.failed (c : CanRt) (kind : CanErrKind) (add clk : Nat) : CanRt :=
  if 16 ≤ (c.counted kind add).ackRun then
    canFlag canNoPeer true { c.counted kind add with nextRetry := after clk (secs 1) }
  else c.counted kind add

/-- LAST_ERROR is noted. -/
def errorNoted (s : State) (x : Nat) (kind : CanErrKind) : State :=
  modCan s x fun c => { c with lastError := canErrCode kind }

section
variable {s : State} {x : Nat} (hx : x < 2) (hactive : canActive (getCan s x) = true)
include hx hactive

theorem exec_canTxComplete_active (hbus : (getCan s x).onBus ≠ 0) : exec (.canTxComplete x) s =
    .next (canFrameEnd (canFollow (modCan s x CanRt.acknowledged) x) x) := by
  rw [exec_canTxComplete, execCanTxComplete]
  exact if_neg (by simp [hbus, hactive]; omega)

/-- An error on a controller that takes part in the bus. -/
theorem exec_canError_active (kind : CanErrKind) (transmitting : Bool) (n : Nat) :
    exec (.canError x kind transmitting n) s = .next (
      if transmitting then
        let t := modCan (errorNoted s x kind) x fun c =>
          c.failed kind (if kind = .ack then (if (getCan s x).st = 3 then 0 else 8) else n) s.clk
        if 255 < (getCan t x).tec then canBusOff t x else canFrameEnd (canFollow t x) x
      else canFrameEnd (canFollow (modCan (errorNoted s x kind) x fun c => { c with rec_ := min 255 (c.rec_ + n) }) x) x) := by
  have hst := active_st hactive
  have hruns : ¬ (x ≥ 2 ∨ ¬ canHears (getCan s x) = true) := by simp [canHears_of_active hactive]; omega
  rw [exec_canError, execCanError, if_neg hruns, if_neg (by omega), if_neg (by omega)]
  simp only [apply_ite Host.Outcome.next]
  rfl

end

/-! ### What a failed frame leaves -/

theorem failed_leaves (c : CanRt) (kind : CanErrKind) (add clk : Nat) : (c.failed kind add clk).st = c.st ∧
    (c.failed kind add clk).tec = c.tec + add ∧ (c.failed kind add clk).rec_ = c.rec_ ∧
    (c.failed kind add clk).lastError = c.lastError ∧ (c.failed kind add clk).busoffs = c.busoffs ∧
    (c.failed kind add clk).ackRun = (if kind = .ack then c.ackRun + 1 else 0) := by
  have hattempt : (canAttemptFailed c).st = c.st ∧ (canAttemptFailed c).rec_ = c.rec_ ∧
      (canAttemptFailed c).lastError = c.lastError ∧ (canAttemptFailed c).busoffs = c.busoffs := by
    simp only [canAttemptFailed, canDropSent, apply_ite CanRt.st, apply_ite CanRt.rec_, apply_ite CanRt.lastError,
      apply_ite CanRt.busoffs, ite_self, and_self]
  obtain ⟨hst, hrec, herror, hbusoffs⟩ := hattempt
  unfold CanRt.failed
  split
  · exact ⟨hst, rfl, hrec, herror, hbusoffs, rfl⟩
  · exact ⟨hst, rfl, hrec, herror, hbusoffs, rfl⟩

/-- The sixteenth ACK error of a run says that there is no peer (R309). -/
theorem noPeer_failed {c : CanRt} (h : 15 ≤ c.ackRun) (add clk : Nat) :
    Flag.get (c.failed .ack add clk).flags canNoPeer = true := by
  have hrun : 16 ≤ (c.counted .ack add).ackRun := Nat.succ_le_succ h
  rw [CanRt.failed, if_pos hrun]
  exact Flag.get_set_self _ _ (by decide)

/-- An attempt of the controller failed, and LAST_ERROR says how. -/
def attemptFailed (s : State) (x : Nat) (kind : CanErrKind) (add : Nat) : State :=
  modCan (errorNoted s x kind) x fun c => c.failed kind add s.clk

theorem canBusoffHoldoff_of_dict {s t : State} (h : t.dict = s.dict) (x : Nat) :
    canBusoffHoldoff t x = canBusoffHoldoff s x := cfgN_of_dict h ..

theorem canBusoffManual_of_dict {s t : State} (h : t.dict = s.dict) (x : Nat) :
    canBusoffManual t x = canBusoffManual s x := by
  rw [canBusoffManual, cfgB, cfgI, cfgVal, h, canBusoffManual, cfgB, cfgI, cfgVal]

section
variable (s : State) (x : Nat) (kind : CanErrKind) (add : Nat)

theorem getCan_attemptFailed : getCan (attemptFailed s x kind add) x =
    ({ getCan s x with lastError := canErrCode kind } : CanRt).failed kind add s.clk := by
  rw [attemptFailed, getCan_modCan_self, errorNoted, getCan_modCan_self]

theorem attemptFailed_leaves {t : State} (h : attemptFailed s x kind add = t) : (getCan t x).st = (getCan s x).st ∧
    (getCan t x).tec = (getCan s x).tec + add ∧ (getCan t x).rec_ = (getCan s x).rec_ ∧
    (getCan t x).lastError = canErrCode kind ∧ (getCan t x).busoffs = (getCan s x).busoffs ∧
    (getCan t x).ackRun = (if kind = .ack then (getCan s x).ackRun + 1 else 0) ∧ t.dict = s.dict := by
  subst h
  rw [getCan_attemptFailed]
  obtain ⟨hst, htec, hrec, herror, hbusoffs, hrun⟩ :=
    failed_leaves ({ getCan s x with lastError := canErrCode kind } : CanRt) kind add s.clk
  exact ⟨hst, htec, hrec, herror, hbusoffs, hrun, rfl⟩

theorem noPeer_attemptFailed (h : 15 ≤ (getCan s x).ackRun) :
    Flag.get (getCan (attemptFailed s x .ack add) x).flags canNoPeer = true := by
  rw [getCan_attemptFailed]
  exact noPeer_failed (c := { getCan s x with lastError := canErrCode .ack }) h ..

end

/-- A controller whose TEC has exceeded 255 goes to bus-off, or at once to its recovery (R308). -/
theorem getCan_canBusOff (s : State) (x : Nat) : ∃ holdUntil, getCan (canBusOff s x) x =
    { canFlag canBusOffSeen true { getCan s x with
        busoffs := (getCan s x).busoffs + 1, onBus := 0, cancelled := false, holdUntil := holdUntil } with
      st := if canBusoffHoldoff s x = 0 ∧ canBusoffManual s x = false then 5 else 4 } := by
  let seen := modCan s x fun c => canFlag canBusOffSeen true
      { c with busoffs := c.busoffs + 1, onBus := 0, cancelled := false
               holdUntil := after s.clk (msecs (canBusoffHoldoff s x)) }
  have hcan : getCan (dropCanPending seen x) x = getCan seen x :=
    getCan_of_can (dropCanPending_within (bs := [.dict]) seen x (.refl _ seen) (by decide) .can (by decide)) x
  have hforce : (dropCanPending seen x).dict.force = s.dict.force := by
    refine forAll_leaves (fun s => s.dict.force) (fun t n => ?_) _ seen
    exact ite_leaves (g := fun s => s.dict.force) rfl rfl
  have hval (m : Nat) : cfgI (dropCanPending seen x) (0x1100 + x) m = cfgI s (0x1100 + x) m := by
    rw [cfgI, cfgVal, hforce, cfgI, cfgVal]
  have hhold : canBusoffHoldoff (dropCanPending seen x) x = canBusoffHoldoff s x := by
    rw [canBusoffHoldoff, cfgN, hval, canBusoffHoldoff, cfgN]
  have hmanual : canBusoffManual (dropCanPending seen x) x = canBusoffManual s x := by
    rw [canBusoffManual, cfgB, hval, canBusoffManual, cfgB]
  refine ⟨after s.clk (msecs (canBusoffHoldoff s x)), ?_⟩
  have hself : getCan seen x = _ := getCan_modCan_self ..
  have hoff : canBusOff s x = canSetState (dropCanPending seen x) x
      (if canBusoffHoldoff s x = 0 ∧ canBusoffManual s x = false then 5 else 4) := by
    rw [← hhold, ← hmanual]
    unfold canBusOff
    simp only [Bool.not_eq_true]
    split <;> rfl
  rw [hoff, getCan_canSetState, hcan, hself]

/-! ### The way back to the bus (R296, R297, R308) -/

section
variable {s : State} {x : Nat}

/-- The mode of the set in force gives a controller its state, and rate detection begins with the first candidate. -/
theorem getCan_canEnterMode : ∃ st flags abdResult abdIndex abdSince abdGood, getCan (canEnterMode s x) x = { getCan s x with
    st := st, flags := flags, abdResult := abdResult, abdIndex := abdIndex, abdSince := abdSince, abdGood := abdGood } := by
  unfold canEnterMode
  split
  · exact ⟨_, _, _, _, _, _, getCan_canSetState ..⟩
  · exact ⟨_, _, _, _, _, _, getCan_canSetState ..⟩
  · refine ⟨7, (canFlag canAbdFound false (getCan s x)).flags, 0xFF, 0, s.clk, 0, ?_⟩
    rw [getCan_canSetState, getCan_modCan_self]
    rfl
  · exact ⟨_, _, _, _, _, _, getCan_canSetState ..⟩

theorem othersKept_canEnterMode : OthersKept getCan s (canEnterMode s x) x := by
  unfold canEnterMode
  split
  · exact othersKept_canSetState
  · exact othersKept_canSetState
  · exact othersKept_modCan.trans othersKept_canSetState
  · exact othersKept_canSetState

theorem canEnterMode_dict : (canEnterMode s x).dict = s.dict :=
  canEnterMode_within (bs := [.can, .snap]) s x (.refl _ s) (by decide) (by decide) .dict (by decide)

theorem st_canEnterMode_normal (h : canOpMode s x = 1) : (getCan (canEnterMode s x) x).st = errState (getCan s x) := by
  unfold canEnterMode
  simp only [h]
  rw [getCan_canSetState]

theorem st_canEnterMode_listen (h : canOpMode s x = 2) : (getCan (canEnterMode s x) x).st = 6 := by
  unfold canEnterMode
  simp only [h]
  rw [getCan_canSetState]

/-- Rate detection begins with the first candidate. -/
theorem canEnterMode_detect (h : canOpMode s x = 3) : (getCan (canEnterMode s x) x).st = 7 ∧
    (getCan (canEnterMode s x) x).abdResult = 0xFF ∧ (getCan (canEnterMode s x) x).abdIndex = 0 := by
  unfold canEnterMode
  simp only [h]
  rw [getCan_canSetState, getCan_modCan_self]
  exact ⟨rfl, rfl, rfl⟩

end

/-- The counters start anew. -/
def countersReset (s : State) (x : Nat) : State := modCan s x fun c => { c with tec := 0, rec_ := 0, ackRun := 0 }

theorem getCan_countersReset (s : State) (x : Nat) :
    getCan (countersReset s x) x = { getCan s x with tec := 0, rec_ := 0, ackRun := 0 } := getCan_modCan_self ..

theorem canOpMode_countersReset (s : State) (x : Nat) : canOpMode (countersReset s x) x = canOpMode s x := rfl

section
variable {s : State} {x : Nat}

theorem exec_busOffRecovered_recovering (h : (getCan s x).st = 5) : exec (.busOffRecovered x) s =
    .next (canFrameEnd (canEnterMode (countersReset s x) x) x) := if_pos h

theorem exec_reintegrationDone_joining (h : (getCan s x).st = 1) (hpower : (getCan s x).lowPower = false) :
    exec (.reintegrationDone x) s = .next (canFrameEnd (canEnterMode s x) x) :=
  if_pos ⟨h, by simp [hpower]⟩

theorem exec_busoffHoldoffEnd_over (h : (getCan s x).st = 4) (hmanual : canBusoffManual s x = false)
    (hover : (getCan s x).holdUntil ≤ s.clk) : exec (.busoffHoldoffEnd x) s = .next (canSetState s x 5) :=
  if_pos ⟨h, by simp [hmanual], hover⟩

/-- Urgent frames past their discard time are counted as they leave. -/
theorem canExpire_counts (h : (getCan s x).onBus = 0) :
    (getCan (canExpire s x) x).urgent = (getCan s x).urgent.filter (fun u => decide (s.clk < u.discardAt)) ∧
      (getCan (canExpire s x) x).urgentExpired + (getCan (canExpire s x) x).urgent.length =
        (getCan s x).urgentExpired + (getCan s x).urgent.length := by
  have hle := List.length_filter_le (fun u : Urgent => decide (s.clk < u.discardAt)) (getCan s x).urgent
  rw [canExpire, getCan_modCan_self]
  simp only [h, Nat.zero_ne_one, decide_false, Bool.false_eq_true, if_false, List.nil_append, true_and]
  omega

end

/-- Settles O39: each command by the operation that it comes to, and that operation by what it leaves of its controller. -/
theorem canFramesAndControllers : Obligations.CanFramesAndControllers := by
  unfold Obligations.CanFramesAndControllers
  refine ⟨fun s x it hx hactive hbus hhead hset => ?sent, fun s x n hx hactive hset => ?ack,
    fun s x n k hx hactive hset => ?received,
    fun s x hbus => ⟨_, rfl, (canExpire_counts hbus).1, (canExpire_counts hbus).2, othersKept_modCan⟩,
    fun s x hst hmanual hover => ⟨_, exec_busoffHoldoffEnd_over hst hmanual hover, ?holdoff, othersKept_canSetState⟩,
    fun s x hst hset => ⟨_, exec_busOffRecovered_recovering hst, ?recovered⟩,
    fun s x hst hpower hset => ⟨_, exec_reintegrationDone_joining hst hpower, ?joined⟩⟩
  case sent =>
    have hself : getCan (modCan s x CanRt.acknowledged) x = (getCan s x).acknowledged := getCan_modCan_self ..
    have hdropped : canDropSent (getCan s x) = { getCan s x with
        fifo := (getCan s x).fifo.drop 1, onBus := 0, cancelled := false, sleepUpTo := (getCan s x).sleepUpTo - 1 } := by
      rw [canDropSent, if_neg (by omega), if_pos hbus]
    have honbus : canOnBus (getCan s x) = some it := by
      rw [canOnBus, if_neg (by omega), if_pos hbus, hhead]
    obtain ⟨_, _, _, _, hend⟩ := getCan_frameEnd_followed (s := modCan s x CanRt.acknowledged) (x := x) hset (by
      rw [hself, CanRt.acknowledged, hdropped]
      exact active_st hactive)
    refine ⟨_, exec_canTxComplete_active hx hactive (by omega), ?_⟩
    rw [hend, hself, CanRt.acknowledged, hdropped, honbus]
    exact ⟨rfl, rfl, rfl, rfl, Flag.get_set_self _ _ (by decide), othersKept_modCan.trans (othersKept_frameEnd_followed hset)⟩
  case ack =>
    intro add
    have hexec := exec_canError_active hx hactive .ack true n
    rw [if_pos rfl, if_pos rfl, ← attemptFailed] at hexec
    obtain ⟨hst, htec, hrec, herror, hbusoffs, hrun, hdict⟩ := attemptFailed_leaves s x .ack add rfl
    have hlone := noPeer_attemptFailed s x add
    generalize attemptFailed s x .ack add = failed at *
    refine ⟨fun hle => ?_, fun hgt => ?_⟩
    · obtain ⟨_, _, _, _, hend⟩ := getCan_frameEnd_followed (s := failed) (x := x) (hdict ▸ hset)
        (hst ▸ active_st hactive)
      rw [if_neg (by rw [htec]; exact Nat.not_lt.mpr hle)] at hexec
      refine ⟨_, hexec, ?_⟩
      rw [hend]
      refine ⟨htec, herror, hrun, hlone, ?_⟩
      dsimp only
      rw [errState, htec, hrec]
    · obtain ⟨holdUntil, hoff⟩ := getCan_canBusOff failed x
      rw [if_pos (by rw [htec]; exact hgt)] at hexec
      refine ⟨_, hexec, ?_⟩
      rw [hoff, canBusoffHoldoff_of_dict hdict, canBusoffManual_of_dict hdict]
      exact ⟨congrArg (· + 1) hbusoffs, Flag.get_set_self _ _ (by decide), rfl, rfl⟩
  case received =>
    let counted := modCan (errorNoted s x k) x fun c => { c with rec_ := min 255 (c.rec_ + n) }
    have hself : getCan counted x =
        { getCan s x with lastError := canErrCode k, rec_ := min 255 ((getCan s x).rec_ + n) } := by
      rw [getCan_modCan_self, errorNoted, getCan_modCan_self]
    obtain ⟨_, _, _, _, hend⟩ := getCan_frameEnd_followed (s := counted) (x := x) hset (by rw [hself]; exact active_st hactive)
    refine ⟨_, exec_canError_active hx hactive k false n, ?_⟩
    rw [if_neg Bool.false_ne_true, hend, hself]
    exact ⟨rfl, rfl, rfl⟩
  case holdoff => rw [getCan_canSetState]
  case recovered =>
    have hset' : SyncUnit.can x ∉ (canEnterMode (countersReset s x) x).dict.waiting := by rwa [canEnterMode_dict]
    obtain ⟨_, _, _, _, hend⟩ := getCan_canFrameEnd hset'
    obtain ⟨_, _, _, _, _, _, henter⟩ := getCan_canEnterMode (s := countersReset s x) (x := x)
    rw [hend]
    refine ⟨fun hmode => ?_, fun hmode => st_canEnterMode_listen hmode, fun hmode => (canEnterMode_detect (s := countersReset s x) hmode).1, ?_, ?_, ?_,
      (show OthersKept getCan s (countersReset s x) x from othersKept_modCan).trans
        (othersKept_canEnterMode.trans (othersKept_canFrameEnd hset'))⟩
    · refine (st_canEnterMode_normal (s := countersReset s x) hmode).trans ?_
      rw [getCan_countersReset]
      rfl
    · exact (congrArg CanRt.tec henter).trans (congrArg CanRt.tec (getCan_countersReset s x))
    · exact (congrArg CanRt.rec_ henter).trans (congrArg CanRt.rec_ (getCan_countersReset s x))
    · refine (congrArg CanRt.fifo henter).trans ?_
      rw [getCan_countersReset]
  case joined =>
    have hset' : SyncUnit.can x ∉ (canEnterMode s x).dict.waiting := by rwa [canEnterMode_dict]
    obtain ⟨_, _, _, _, hend⟩ := getCan_canFrameEnd hset'
    rw [hend]
    exact ⟨othersKept_canEnterMode.trans (othersKept_canFrameEnd hset'), fun hmode => st_canEnterMode_normal hmode,
      fun hmode => st_canEnterMode_listen hmode, fun hmode => canEnterMode_detect hmode⟩

end Sys2Proof.Machine
end

section
/-! PROOFS. CAN controllers that are alone, detect the rate, sleep or wake, and their transceivers (13_can_fd, R292, R297,
R309–R312). -/

namespace Sys2Proof.Machine

section
variable (s : State) (x cause : Nat)

theorem getCan_canWake : getCan (canWake s x cause) x =
    { getCan s x with wakeCause := cause, lowPower := false, wakeErrors := 0, st := 1 } := by
  rw [canWake]
  dsimp only
  rw [getCan_canSetState, getCan_modCan_self]

theorem othersKept_canWake : OthersKept getCan s (canWake s x cause) x := othersKept_modCan.trans othersKept_canSetState

/-- A controller that is neither in bus-off nor asleep joins the bus anew, unless its mode is OFF. -/
theorem getCan_canEnter_joins (hmode : canOpMode s x ≠ 0)
    (hst : ¬((getCan s x).st = 4 ∨ (getCan s x).st = 5 ∨ (getCan s x).st = 8)) :
    getCan (canEnter s x) x = { getCan s x with onBus := 0, cancelled := false, st := 1 } := by
  rw [canEnter]
  dsimp only
  have hkept : canOpMode (modCan s x fun c => { c with onBus := 0, cancelled := false }) x ≠ 0 := hmode
  rw [if_neg hst, if_neg hkept, getCan_canSetState, getCan_modCan_self]

theorem othersKept_canEnter : OthersKept getCan s (canEnter s x) x :=
  othersKept_ite (fun _ _ => rfl) (othersKept_modCan.trans (othersKept_ite othersKept_canSetState othersKept_canSetState))

end

/-- A controller falls asleep: its transceiver goes to low power, and its queues keep their frames. -/
def canAsleep (s : State) (x : Nat) : State :=
  modCan s x fun c =>
    { c with sleepFrom := none, sleepUpTo := 0, lowPower := true, onBus := 0, cancelled := false, wakeErrors := 0 }

/-- The transceiver has cooled: it leaves low power unless the controller sleeps. -/
def canCooled (s : State) (x : Nat) : State :=
  modCan s x fun c => canFlag canTrxHot false { c with lowPower := !(isUp s && decide (c.st ≠ 8)) }

section
variable {s : State} {x : Nat}

theorem exec_loneRetry_due (hactive : canActive (getCan s x) = true) (hlone : canLoneMode s x = 1)
    (hpeer : Flag.get (getCan s x).flags canNoPeer = true) (hbus : (getCan s x).onBus = 0) (hdue : (getCan s x).nextRetry ≤ s.clk) :
    exec (.loneRetry x) s = .next (modCan s x fun c => { c with
      onBus := if !c.urgent.isEmpty then 1 else if !c.fifo.isEmpty then 2 else 0
      nextRetry := after s.clk (secs 1) }) := if_pos ⟨hactive, hlone, hpeer, hbus, hdue⟩

theorem exec_rateCandidateTimer_due (hst : (getCan s x).st = 7) (hfound : Flag.get (getCan s x).flags canAbdFound = false)
    (hdue : after (getCan s x).abdSince (secs 1) ≤ s.clk) :
    exec (.rateCandidateTimer x) s = .next (modCan s x fun c => { c with
      abdIndex := if c.abdIndex + 1 < canAbdCount s x then c.abdIndex + 1 else 0
      abdSince := s.clk, abdGood := 0 }) := if_pos ⟨hst, by simp [hfound], decide_eq_true hdue⟩

theorem exec_sleepEntry_due {u : Nat} (hfrom : (getCan s x).sleepFrom = some u) (hdue : after u (msecs 100) ≤ s.clk) :
    exec (.sleepEntry x) s = .next (canSetState (canAsleep s x) x 8) := by
  rw [show exec (.sleepEntry x) s = execSleepEntry x s from rfl, execSleepEntry]
  simp only [hfrom]
  exact if_pos (.inr (decide_eq_true hdue))

theorem exec_trxOvertemp_cooled (hx : x < 2) (hhot : Flag.get (getCan s x).flags canTrxHot = true) (hup : isUp s = true) :
    exec (.trxOvertemp x false) s = .next (canEnter (canCooled s x) x) := by
  have hcooled : isUp (canCooled s x) = true := hup
  calc exec (.trxOvertemp x false) s
      = .next (if isUp (canCooled s x) then canEnter (canCooled s x) x else canCooled s x) :=
        (if_neg (by omega)).trans ((if_neg Bool.false_ne_true).trans (if_pos hhot))
    _ = .next (canEnter (canCooled s x) x) := by rw [if_pos hcooled]

end

/-- Settles O40: what each timer, waking and transceiver event comes to, by the operations that it runs. -/
theorem canRetriesSleepAndTransceiver : Obligations.CanRetriesSleepAndTransceiver := by
  unfold Obligations.CanRetriesSleepAndTransceiver
  refine ⟨fun s x hactive hlone hpeer hbus hdue hurgent hfifo => ⟨_, exec_loneRetry_due hactive hlone hpeer hbus hdue, ?retry⟩,
    fun s x hst hfound hdue => ⟨_, exec_rateCandidateTimer_due hst hfound hdue, ?candidate⟩,
    fun s x u hfrom hdue => ⟨_, exec_sleepEntry_due hfrom hdue, ?asleep⟩,
    fun s x n hst hmode => ⟨fun hlong => ?woken, fun hshort => ?noise, fun hmin hmax => ?between⟩,
    fun s x f hst hmode hfd => ⟨fun hwake => ?frame, fun hother => ?other⟩,
    fun s x hst hmode => ⟨fun hfew => ?counted, fun hmany => ?errors⟩,
    fun s x hx hpower => ?dominant, fun s x hx => ?hot, fun s x hx hhot hup hmode h4 h5 h8 => ?cooled⟩
  case retry =>
    rw [getCan_modCan_self]
    refine ⟨?_, rfl, rfl, othersKept_modCan⟩
    simp [hurgent, hfifo]
  case candidate =>
    rw [getCan_modCan_self]
    exact ⟨rfl, rfl, rfl, othersKept_modCan⟩
  case asleep =>
    have hself : getCan (canAsleep s x) x = _ := getCan_modCan_self ..
    rw [getCan_canSetState, hself]
    exact ⟨rfl, rfl, rfl, rfl, (show OthersKept getCan s (canAsleep s x) x from othersKept_modCan).trans othersKept_canSetState⟩
  case woken =>
    refine ⟨canWake s x 1, ?_, ?_⟩
    · exact (if_pos ⟨hst, hmode⟩).trans (if_pos hlong)
    · rw [getCan_canWake]
      exact ⟨rfl, rfl, rfl, othersKept_canWake s x 1⟩
  case noise => exact (if_pos ⟨hst, hmode⟩).trans ((if_neg (by omega)).trans (if_pos hshort))
  case between =>
    have hexec : exec (.dominantWake x n) s =
        if (takeFree s).1 % 2 = 1 then .next (canWake (takeFree s).2 x 1) else .next (takeFree s).2 :=
      (if_pos ⟨hst, hmode⟩).trans ((if_neg (by omega)).trans (if_neg (by omega)))
    split at hexec
    · refine ⟨_, hexec, .inl ?_, othersKept_canWake (takeFree s).2 x 1⟩
      rw [getCan_canWake]
    · exact ⟨_, hexec, .inr hst, fun _ _ => rfl⟩
  case frame =>
    refine ⟨canWake s x 2, (if_pos ⟨hst, hmode, by simp [hfd]⟩).trans (if_pos hwake), ?_⟩
    rw [getCan_canWake]
    exact ⟨rfl, rfl⟩
  case other =>
    refine ⟨_, (if_pos ⟨hst, hmode, by simp [hfd]⟩).trans (if_neg (by simp [hother])), ?_⟩
    rw [getCan_modCan_self]
    exact ⟨hst, rfl⟩
  case counted =>
    refine ⟨_, (if_pos ⟨hst, hmode⟩).trans (if_neg (show ¬ 32 ≤ (getCan s x).wakeErrors + 1 by omega)), ?_⟩
    rw [getCan_modCan_self]
    exact ⟨hst, rfl⟩
  case errors =>
    refine ⟨_, (if_pos ⟨hst, hmode⟩).trans (if_pos (show 32 ≤ (getCan s x).wakeErrors + 1 by omega)), ?_⟩
    rw [getCan_canWake]
    exact ⟨rfl, rfl⟩
  case dominant =>
    refine ⟨modCan s x (canFlag canTxDom true), if_neg (by simp [hpower]; omega), ?_⟩
    rw [getCan_modCan_self]
    exact ⟨Flag.get_set_self _ _ (by decide), rfl, othersKept_modCan⟩
  case hot =>
    refine ⟨_, (if_neg (by omega)).trans (if_pos rfl), ?_⟩
    rw [getCan_modCan_self]
    exact ⟨rfl, rfl, Flag.get_set_self _ _ (by decide), othersKept_modCan⟩
  case cooled =>
    have hself : getCan (canCooled s x) x = _ := getCan_modCan_self ..
    have hst : ¬((getCan (canCooled s x) x).st = 4 ∨ (getCan (canCooled s x) x).st = 5 ∨ (getCan (canCooled s x) x).st = 8) := by
      rw [hself]
      exact fun h => h.elim h4 fun h => h.elim h5 h8
    refine ⟨_, exec_trxOvertemp_cooled hx hhot hup, ?_⟩
    rw [getCan_canEnter_joins (canCooled s x) x hmode hst, hself]
    refine ⟨?_, rfl, Flag.get_set_self _ _ (by decide), (show OthersKept getCan s (canCooled s x) x from
      othersKept_modCan).trans (othersKept_canEnter (canCooled s x) x)⟩
    simp [canFlag, hup, h8]

end Sys2Proof.Machine
end

section
/-! PROOFS. Receive objects (13_can_fd, R298–R302). -/

namespace Sys2Proof.Machine

/-! ### What a received frame leaves of an active controller -/

/-- The controller has heard a frame: an attempt of its own has lost arbitration, and the frame counts. -/
def frameHeard (s : State) (x : Nat) (f : CanFrame) : State :=
  modCan s x fun c =>
    let c := if c.onBus = 0 then c else canAttemptFailed c
    canFlag canNoPeer false { c with rxFrames := c.rxFrames + 1, rtr := c.rtr + (if f.rtr then 1 else 0), ackRun := 0 }

theorem canAttemptFailed_leaves (c : CanRt) : (canAttemptFailed c).st = c.st ∧ (canAttemptFailed c).objs = c.objs ∧
    (canAttemptFailed c).rxFrames = c.rxFrames ∧ (canAttemptFailed c).rxDiscarded = c.rxDiscarded := by
  simp only [canAttemptFailed, canDropSent, apply_ite CanRt.st, apply_ite CanRt.objs, apply_ite CanRt.rxFrames,
    apply_ite CanRt.rxDiscarded, ite_self, and_self]

section
variable {s : State} {x : Nat}

theorem frameHeard_leaves {t : State} {f : CanFrame} (h : frameHeard s x f = t) : (getCan t x).st = (getCan s x).st ∧
    (getCan t x).objs = (getCan s x).objs ∧ (getCan t x).rxFrames = (getCan s x).rxFrames + 1 ∧
    (getCan t x).rxDiscarded = (getCan s x).rxDiscarded := by
  have hlost : ∃ c : CanRt, (if (getCan s x).onBus = 0 then getCan s x else canAttemptFailed (getCan s x)) = c ∧
      c.st = (getCan s x).st ∧ c.objs = (getCan s x).objs ∧ c.rxFrames = (getCan s x).rxFrames ∧
      c.rxDiscarded = (getCan s x).rxDiscarded := by
    split
    · exact ⟨_, rfl, rfl, rfl, rfl, rfl⟩
    · exact ⟨_, rfl, canAttemptFailed_leaves _⟩
  obtain ⟨c, hc, hst, hobjs, hframes, hdiscarded⟩ := hlost
  have hself : getCan t x = canFlag canNoPeer false
      { c with rxFrames := c.rxFrames + 1, rtr := c.rtr + (if f.rtr then 1 else 0), ackRun := 0 } := by
    rw [← h, frameHeard, getCan_modCan_self, hc]
  rw [hself]
  exact ⟨hst, hobjs, congrArg (· + 1) hframes, hdiscarded⟩

theorem getCan_recAfter : ∃ rec, getCan (recAfter s x) x = { getCan s x with rec_ := rec } := by
  rw [recAfter]
  dsimp only
  split
  · exact ⟨_, getCan_modCan_self ..⟩
  · exact ⟨_, getCan_modCan_self ..⟩

theorem canReceived_of_st {f : CanFrame} (hst : (getCan s x).st = 2 ∨ (getCan s x).st = 3) :
    canReceived s x f = canFollow (recAfter (frameHeard s x f) x) x := by
  obtain ⟨hkept, -⟩ := frameHeard_leaves (s := s) (x := x) (f := f) rfl
  unfold canReceived
  rw [← frameHeard]
  dsimp only
  rw [if_neg (by omega), if_neg (by omega)]

/-- A frame received by an active controller counts, and leaves its objects. -/
theorem canReceived_leaves {t : State} {f : CanFrame} (hst : (getCan s x).st = 2 ∨ (getCan s x).st = 3)
    (h : canReceived s x f = t) : (getCan t x).objs = (getCan s x).objs ∧
    (getCan t x).rxFrames = (getCan s x).rxFrames + 1 ∧ (getCan t x).rxDiscarded = (getCan s x).rxDiscarded ∧
    t.dict = s.dict ∧ t.warp = s.warp ∧ t.clk = s.clk ∧ t.power = s.power := by
  obtain ⟨hheard, hobjs, hframes, hdiscarded⟩ := frameHeard_leaves (s := s) (x := x) (f := f) rfl
  obtain ⟨rec, hrec⟩ := getCan_recAfter (s := frameHeard s x f) (x := x)
  have hactive : (getCan (recAfter (frameHeard s x f) x) x).st = 2 ∨ (getCan (recAfter (frameHeard s x f) x) x).st = 3 := by
    rw [hrec]
    exact hheard ▸ hst
  have hself := getCan_canFollow (recAfter (frameHeard s x f) x) x hactive
  have hparts {b : Block} : b ∉ [Block.free, .can, .snap] → b.same s t := by
    rw [← h, canReceived_of_st hst]
    exact fun hb => canFollow_within (bs := [.free, .can, .snap]) _ _ (recAfter_within _ _ (modCan_within _ _ _ (.refl _ s)
      (by decide)) (by decide) (by decide)) (by decide) (by decide) b hb
  rw [← canReceived_of_st hst, h, hrec] at hself
  rw [hself]
  exact ⟨hobjs, hframes, hdiscarded, hparts (b := .dict) (by decide), hparts (b := .warp) (by decide),
    hparts (b := .clk) (by decide), hparts (b := .power) (by decide)⟩

/-- A classical frame is none of the services'. -/
theorem exec_canFrameReceived_classical {fr : RxFrame} (hx : x < 2) (hactive : canActive (getCan s x) = true)
    (hfdf : fr.frame.fdf = false) (hphase : s.power.phase ≠ .reset) : exec (.canFrameReceived x fr) s =
      .next (canFrameEnd (rxOffer (canReceived s x fr.frame) x fr.frame fr.age) x) := by
  obtain ⟨-, -, -, -, -, -, hpower⟩ := canReceived_leaves (t := canReceived s x fr.frame) (active_st hactive) rfl
  have hservices : canServices (canReceived s x fr.frame) x fr.frame = canReceived s x fr.frame := if_neg (by simp [hfdf])
  rw [show exec (.canFrameReceived x fr) s = execCanFrameReceived x fr s from rfl, execCanFrameReceived,
    if_pos ⟨hx, canHears_of_active hactive⟩]
  dsimp only
  rw [hservices, if_neg (by rwa [hpower])]

end

/-! ### Matching and storing -/

section
variable {s t : State}

theorem rxMode_of_dict (h : t.dict = s.dict) (x o : Nat) : rxMode t x o = rxMode s x o := cfgN_of_dict h ..

theorem rxMatches_of_dict (h : t.dict = s.dict) (x o : Nat) (f : CanFrame) : rxMatches t x o f = rxMatches s x o f := by
  rw [rxMatches, rxMatches, rxMode_of_dict h, rxFilterMask, rxFilterId, rxAccept, cfgN_of_dict h, cfgN_of_dict h,
    cfgN_of_dict h, rxFilterMask, rxFilterId, rxAccept]

theorem warpAt_of_warp (h : t.warp = s.warp) (hclk : t.clk = s.clk) (u : Nat) : warpAt t u = warpAt s u := by
  rw [warpAt, h, hclk, warpAt]

end

/-- No index satisfies the test. -/
theorem findIdx_none {p : Nat → Bool} {i n : Nat} (h : ∀ j, i ≤ j → j < i + n → p j = false) : findIdx p i n = none := by
  induction n generalizing i with
  | zero => rfl
  | succ n ih =>
    rw [findIdx, if_neg (by simp [h i (Nat.le_refl i) (by omega)])]
    exact ih fun j hlo hhi => h j (by omega) (by omega)

section
variable (s : State) (x o : Nat)

theorem getCan_rxPut (ob : RxObj) : getCan (rxPut s x o ob) x =
    { getCan s x with objs := Table.set (blank {}) (getCan s x).objs o ob } := by
  rw [rxPut]
  refine (getCan_of_can (t := forAll _ _ _) (s := modCan s x fun c => { c with objs := Table.set (blank {}) c.objs o ob }) ?_ x).trans
    (getCan_modCan_self ..)
  exact forAll_within (bs := [.mem]) _ _ _ (fun _ _ h => clearPoison_within _ _ h (by decide))
    (sramWrite_within _ _ _ (.refl _ _) (by decide)) .can (by decide)

theorem getObj_rxPut (ob : RxObj) : getObj (getCan (rxPut s x o ob) x) o = ob := by
  rw [getCan_rxPut]
  exact Table.getD_set_self ..

/-- A LAST_VALUE object overwrites (R299). -/
theorem rxStore_lastValue (f : CanFrame) (age : Nat) (h : rxMode s x o = 1) : ∃ r : RxRec,
    getObj (getCan (rxStore s x o f age) x) o = ⟨[r], r.seq⟩ ∧ (getCan (rxStore s x o f age) x).rxFrames = (getCan s x).rxFrames ∧
      r.frame = f ∧ r.newdat = true ∧ r.seq = ((getObj (getCan s x) o).seq + 1) % 256 ∧ r.stamp = warpAt s (s.clk - age) ∧
      (r.lost = true ↔ ∃ p l, (getObj (getCan s x) o).recs = p :: l ∧ p.newdat = true) := by
  rw [rxStore]
  dsimp only
  rw [if_pos h]
  refine ⟨_, getObj_rxPut .., by rw [getCan_rxPut], rfl, rfl, rfl, rfl, ?_⟩
  cases (getObj (getCan s x) o).recs with
  | nil => simp
  | cons p l => simp

/-- A PRIORITY_BUFFER with room takes the frame behind the others (R300). -/
theorem rxStore_room (f : CanFrame) (age : Nat) (h : rxMode s x o = 2) (hroom : (getObj (getCan s x) o).recs.length < 4) :
    ∃ r : RxRec, getObj (getCan (rxStore s x o f age) x) o = ⟨(getObj (getCan s x) o).recs ++ [r], r.seq⟩ ∧
      r.frame = f ∧ r.seq = ((getObj (getCan s x) o).seq + 1) % 256 := by
  rw [rxStore]
  dsimp only
  rw [if_neg (by omega), if_pos hroom]
  refine ⟨⟨f, true, false, false, ((getObj (getCan s x) o).seq + 1) % 256, warpAt s (s.clk - age)⟩, ?_, rfl, rfl⟩
  split
  · exact (congrArg (getObj · o) (getCan_of_can (pushHostEvent_within (bs := [.host]) _ _ (.refl _ _) (by decide) .can
      (by decide)) x)).trans (getObj_rxPut ..)
  · exact getObj_rxPut ..

/-- A full PRIORITY_BUFFER discards the frame and marks its oldest record (R300). -/
theorem rxStore_full (f : CanFrame) (age : Nat) (h : rxMode s x o = 2) (hfull : 4 ≤ (getObj (getCan s x) o).recs.length) :
    (getObj (getCan (rxStore s x o f age) x) o).recs.length = (getObj (getCan s x) o).recs.length ∧
      (getCan (rxStore s x o f age) x).rxDiscarded = (getCan s x).rxDiscarded + 1 ∧
      Flag.get (getCan (rxStore s x o f age) x).flags canRxOver = true := by
  rw [rxStore]
  dsimp only
  rw [if_neg (by omega), if_neg (by omega), getCan_modCan_self, getCan_rxPut]
  refine ⟨?_, rfl, Flag.get_set_self _ _ (by decide)⟩
  refine (congrArg (fun ob : RxObj => ob.recs.length) (Table.getD_set_self ..)).trans ?_
  cases hrecs : (getObj (getCan s x) o).recs with
  | nil => rfl
  | cons p l => rfl

end

/-- Settles O41: the frame counts, the first object that matches stores it, and the end of the frame leaves the objects. -/
theorem receiveObjectsStoreFrames : Obligations.ReceiveObjectsStoreFrames := by
  unfold Obligations.ReceiveObjectsStoreFrames
  intro s x fr hx hactive hfdf hset hphase
  have hexec := exec_canFrameReceived_classical hx hactive hfdf hphase
  obtain ⟨hobjs, hframes, hdiscarded, hdict, hwarp, hclk, -⟩ :=
    canReceived_leaves (t := canReceived s x fr.frame) (active_st hactive) rfl
  generalize canReceived s x fr.frame = w at *
  have hset' : SyncUnit.can x ∉ (rxOffer w x fr.frame fr.age).dict.waiting := by
    rw [rxOffer_within (bs := [.host, .can, .mem]) w x fr.frame fr.age (.refl _ w) (by decide) (by decide) (by decide) .dict
      (by decide), hdict]
    exact hset
  obtain ⟨_, _, _, _, hend⟩ := getCan_canFrameEnd hset'
  have hobj (o : Nat) : getObj (getCan w x) o = getObj (getCan s x) o := by rw [getObj, hobjs, getObj]
  refine ⟨fun o ho hmatch hfirst => ?_, fun hnone => ⟨_, hexec, ?_⟩⟩
  · have hoffer : rxOffer w x fr.frame fr.age = rxStore w x o fr.frame fr.age := by
      rw [rxOffer, findIdx_of_first (Nat.zero_le o) (by omega) (by rwa [rxMatches_of_dict hdict])
        fun p _ hp => by rw [rxMatches_of_dict hdict]; exact hfirst p hp]
    rw [hoffer] at hexec hend
    refine ⟨fun hmode => ?last, fun hmode hroom => ?room, fun hmode hfull => ?full⟩
    case last =>
      obtain ⟨r, hself, hcount, hframe, hnew, hseq, hstamp, hlost⟩ :=
        rxStore_lastValue w x o fr.frame fr.age ((rxMode_of_dict hdict x o).trans hmode)
      rw [hobj] at hseq hlost
      rw [hclk, warpAt_of_warp hwarp hclk] at hstamp
      refine ⟨_, r, hexec, ?_, hframe, hnew, hseq, hstamp, hlost, ?_⟩
      · rw [hend]
        exact congrArg RxObj.recs hself
      · rw [hend]
        exact hcount.trans hframes
    case room =>
      obtain ⟨r, hself, hframe, hseq⟩ :=
        rxStore_room w x o fr.frame fr.age ((rxMode_of_dict hdict x o).trans hmode) (by rwa [hobj])
      rw [hobj] at hself hseq
      refine ⟨_, r, hexec, ?_, hframe, hseq⟩
      rw [hend]
      exact congrArg RxObj.recs hself
    case full =>
      obtain ⟨hlength, hcount, hover⟩ :=
        rxStore_full w x o fr.frame fr.age ((rxMode_of_dict hdict x o).trans hmode) (by rwa [hobj])
      rw [hobj] at hlength
      refine ⟨_, hexec, ?_⟩
      rw [hend]
      exact ⟨hlength, hcount.trans (congrArg (· + 1) hdiscarded), hover⟩
  · have hoffer : rxOffer w x fr.frame fr.age = modCan w x fun c => { c with rxDiscarded := c.rxDiscarded + 1 } := by
      rw [rxOffer, findIdx_none fun o _ ho => by rw [rxMatches_of_dict hdict]; exact hnone o (by omega)]
    rw [hend, hoffer, getCan_modCan_self]
    exact ⟨congrArg (· + 1) hdiscarded, hobjs⟩

end Sys2Proof.Machine
end

section
/-! PROOFS. Captures, triggers, TRIG_OUT and the log (18_snapshot_and_log, R391–R395, R400). -/

namespace Sys2Proof.Machine

/-! ### What a log event, a pulse and a trigger frame leave -/

section
variable (s : State)

theorem logEvent_slots (type : Nat) (payload : List Byte) : (logEvent s type payload).snap.slots = s.snap.slots := by
  rw [logEvent, queueRec]
  split <;> rfl

theorem logEvent_trigOut (type : Nat) (payload : List Byte) : (logEvent s type payload).snap.trigOut = s.snap.trigOut ∧
    (logEvent s type payload).snap.trigOutUntil = s.snap.trigOutUntil := by
  rw [logEvent, queueRec]
  split <;> exact ⟨rfl, rfl⟩

theorem logEvent_power (type : Nat) (payload : List Byte) : (logEvent s type payload).power = s.power :=
  logEvent_within (bs := [.snap]) s type payload (.refl _ s) (by decide) .power (by decide)

theorem logEvent_clk (type : Nat) (payload : List Byte) : (logEvent s type payload).clk = s.clk :=
  logEvent_within (bs := [.snap]) s type payload (.refl _ s) (by decide) .clk (by decide)

theorem snapSendFrame_snap (payload : List Byte) : (snapSendFrame s payload).snap = s.snap :=
  snapSendFrame_within (bs := [.can]) s payload (.refl _ s) (by decide) .snap (by decide)

theorem snapPulse_slots : (snapPulse s).snap.slots = s.snap.slots := by
  rw [snapPulse]
  split <;> rfl

theorem snapPulse_runs (hen : Cfg.snapTrigOutEn s = true) (hrel : released s = true) :
    (snapPulse s).snap.trigOut = true ∧ (snapPulse s).snap.trigOutUntil = after s.clk (usecs 10) := by
  rw [snapPulse, if_pos (by simp [hen, hrel])]
  exact ⟨rfl, rfl⟩

theorem snapPulse_off (h : Cfg.snapTrigOutEn s = false ∨ released s = false) : snapPulse s = s := by
  rw [snapPulse, if_neg (by rw [Bool.and_eq_true, not_and]; rcases h with h | h <;> simp [h])]

theorem getSlot_of_slots {s t : State} (h : t.snap.slots = s.snap.slots) (k : Nat) : getSlot t k = getSlot s k := by
  rw [getSlot, h, getSlot]

theorem getSlot_modSlot_self (k : Nat) (f : SnapSlot → SnapSlot) : getSlot (modSlot s k f) k = f (getSlot s k) := by
  rw [getSlot_modSlot, if_pos rfl]

theorem othersKept_modSlot {s : State} {k : Nat} {f : SnapSlot → SnapSlot} : OthersKept getSlot s (modSlot s k f) k :=
  fun j hj => by rw [getSlot_modSlot, if_neg hj]

end

/-! ### Captures -/

/-- The latch of a capture, with its record. -/
def snapLatched (s : State) (slot source trigAt detail : Nat) (delayed late merged : Bool) : State :=
  logEvent
    (modSlot s slot fun r => { r with
      st := 2, armed := false, source := source, atClk := s.clk
      data := snapHeader s slot source trigAt (snapFlags s delayed late merged) (s.mram.nextSeq + s.snap.queue.length) detail ++
        snapBody s })
    0x1101 (bytes1 [slot, source, snapFlags s delayed late merged])

section
variable (s : State) (slot source trigAt detail : Nat) (delayed late merged : Bool)

/-- The trigger frame of a capture touches the controllers alone. -/
theorem snap_snapCapture : (snapCapture s slot source trigAt detail delayed late merged).snap =
    (if source ≠ 2 then snapPulse (snapLatched s slot source trigAt detail delayed late merged)
      else snapLatched s slot source trigAt detail delayed late merged).snap := by
  generalize hv : (if source ≠ 2 then snapPulse (snapLatched s slot source trigAt detail delayed late merged)
      else snapLatched s slot source trigAt detail delayed late merged) = v
  have hcapture : snapCapture s slot source trigAt detail delayed late merged =
      if snapTells source then snapSendFrame v (bytes1 [slot, 0]) else v := by
    rw [← hv]
    rfl
  rw [hcapture]
  split
  · rw [snapSendFrame_snap]
  · rfl

theorem getSlot_snapLatched (k : Nat) : getSlot (snapLatched s slot source trigAt detail delayed late merged) k =
    if k = slot then { getSlot s slot with
      st := 2, armed := false, source := source, atClk := s.clk
      data := snapHeader s slot source trigAt (snapFlags s delayed late merged) (s.mram.nextSeq + s.snap.queue.length) detail ++
        snapBody s } else getSlot s k := by
  rw [snapLatched, getSlot_of_slots (logEvent_slots ..), getSlot_modSlot]

theorem getSlot_snapCapture (k : Nat) : getSlot (snapCapture s slot source trigAt detail delayed late merged) k =
    getSlot (snapLatched s slot source trigAt detail delayed late merged) k := by
  refine getSlot_of_slots ?_ k
  rw [snap_snapCapture]
  split
  · rw [snapPulse_slots]
  · rfl

/-- A capture latches its slot and no other. -/
theorem snapCapture_latches {t : State} (h : snapCapture s slot source trigAt detail delayed late merged = t) :
    (getSlot t slot).st = 2 ∧ (getSlot t slot).source = source ∧ (getSlot t slot).atClk = s.clk ∧
      (getSlot t slot).armed = false ∧ OthersKept getSlot s t slot := by
  have hslot (k : Nat) := (getSlot_snapCapture s slot source trigAt detail delayed late merged k).trans (getSlot_snapLatched ..)
  rw [h] at hslot
  rw [hslot, if_pos rfl]
  exact ⟨rfl, rfl, rfl, rfl, fun j hj => by rw [hslot, if_neg hj]⟩

theorem snapLatched_leaves {u : State} (h : snapLatched s slot source trigAt detail delayed late merged = u) :
    u.dict = s.dict ∧ u.power = s.power ∧ u.clk = s.clk ∧ u.snap.trigOut = s.snap.trigOut ∧
      u.snap.trigOutUntil = s.snap.trigOutUntil := by
  subst h
  rw [snapLatched]
  exact ⟨logEvent_dict .., logEvent_power .., logEvent_clk .., (logEvent_trigOut ..).1, (logEvent_trigOut ..).2⟩

end

theorem trigOutEn_of_dict {s t : State} (h : t.dict = s.dict) : Cfg.snapTrigOutEn t = Cfg.snapTrigOutEn s := by
  rw [Cfg.snapTrigOutEn, cfgB, cfgI, cfgVal, h, Cfg.snapTrigOutEn, cfgB, cfgI, cfgVal]

theorem released_of_power {s t : State} (h : t.power = s.power) : released t = released s := by rw [released, h, released]

theorem exec_trigOutEnd_over {s : State} (hhigh : s.snap.trigOut = true) (hover : s.snap.trigOutUntil ≤ s.clk) :
    exec .trigOutEnd s = .next { s with snap := { s.snap with trigOut := false } } :=
  congrArg Host.Outcome.next (if_pos (by rw [hhigh, due, decide_eq_true hover]; rfl))

/-- Settles O42: a capture pulses once its slot is latched, and the end of the pulse and a restart let TRIG_OUT fall. -/
theorem trigOutFollowsEveryCapture : Obligations.TrigOutFollowsEveryCapture := by
  unfold Obligations.TrigOutFollowsEveryCapture
  refine ⟨fun s slot source trigAt detail delayed late merged => ?capture, fun s hhigh hover => ⟨_, exec_trigOutEnd_over hhigh hover, rfl⟩,
    fun s hearly => ?early, rfl, fun s cause => rfl⟩
  case capture =>
    intro t
    have hsnap : t.snap = _ := snap_snapCapture s slot source trigAt detail delayed late merged
    obtain ⟨hdict, hpower, hclk, hhigh, huntil⟩ := snapLatched_leaves s slot source trigAt detail delayed late merged rfl
    generalize snapLatched s slot source trigAt detail delayed late merged = u at *
    rw [hsnap]
    refine ⟨fun hen hrel hsource => ?_, fun hnone => ?_⟩
    · rw [if_pos hsource, ← hclk]
      exact snapPulse_runs u ((trigOutEn_of_dict hdict).trans hen) ((released_of_power hpower).trans hrel)
    · have hquiet : (if source ≠ 2 then snapPulse u else u) = u := by
        split
        · next hsource =>
          rw [snapPulse_off]
          rw [trigOutEn_of_dict hdict, released_of_power hpower]
          exact hnone.imp_right fun h => h.resolve_right hsource
        · rfl
      rw [hquiet]
      exact ⟨hhigh, huntil⟩
  case early =>
    refine congrArg Host.Outcome.next (if_neg ?_)
    rw [due, Bool.and_eq_true, decide_eq_true_eq]
    omega

end Sys2Proof.Machine
end

section
/-! PROOFS. The triggers of snapshots, the mover's copy and the log queue (18_snapshot_and_log, R391–R394, R400). -/

namespace Sys2Proof.Machine

/-! ### Triggers on an empty slot (R391) -/

section
variable {s : State} {slot : Nat} (hslot : slot < 16) (hempty : (getSlot s slot).st = 0)
include hslot hempty

/-- A trigger for an empty slot captures while no copy runs. -/
theorem snapFire_empty (hcopy : snapCopying s = false) (source detail : Nat) (late : Bool) : snapFire s slot source detail late =
    snapCapture s slot source (warpNow s) detail false late false := by
  have hbusy : snapBusy s slot = false := by simp [snapBusy, hempty]
  rw [snapFire]
  dsimp only
  rw [if_neg (by omega), if_neg (by omega), if_neg (by simp [hbusy]), if_neg (by simp [hcopy])]

end

/-- A later instant arms a slot that holds no capture. -/
theorem snapArm_later {s : State} {slot w : Nat} (hidle : (getSlot s slot).st ≤ 1) (hlater : warpNow s < w) :
    getSlot (snapArm s slot w) slot = { getSlot s slot with armAt := w, armed := true, st := 1 } ∧
      OthersKept getSlot s (snapArm s slot w) slot := by
  let armed := modSlot s slot fun r => { r with armAt := w, armed := false, st := if r.st = 1 then 0 else r.st }
  have harm : snapArm s slot w = modSlot armed slot fun r' => { r' with
      armed := true, st := if (getSlot s slot).st = 2 ∨ ((getSlot s slot).st = 3 ∧ ¬ Cfg.slotOverwrite armed slot) then r'.st else 1 } :=
    (if_neg (by omega)).trans (if_neg (Nat.not_le.mpr hlater))
  rw [harm, getSlot_modSlot_self, getSlot_modSlot_self, if_neg (by omega)]
  exact ⟨rfl, (show OthersKept getSlot s armed slot from othersKept_modSlot).trans othersKept_modSlot⟩

/-! ### Trigger frames and ARM_AT (R391, R393) -/

theorem length_leBytes (n v : Nat) : (leBytes n v).length = n := by
  induction n generalizing v with
  | zero => rfl
  | succ n ih => rw [leBytes, List.length_cons, ih]

/-- A number of at most `n` bytes is read as it was written. -/
theorem leNat_leBytes {n v : Nat} (h : v < 256 ^ n) : leNat (leBytes n v) = v := by
  induction n generalizing v with
  | zero => exact (Nat.lt_one_iff.mp h).symm
  | succ n ih =>
    rw [leBytes, leNat, ih (Nat.div_lt_of_lt_mul (by rwa [← Nat.pow_succ'])), BitVec.toNat_ofNat]
    exact Nat.mod_add_div v 256

section
variable {s : State} {x dest source slot : Nat}

/-- A KIND 1 frame is an ARM_AT write (R393). -/
theorem exec_canTriggerFrame_taken (hx : x < 2) (hen : (Cfg.snapCanTrigEn s).testBit x = true) (hdest : trigDest s dest = true)
    (hup : isUp s = true) (hhears : canHears (getCan s x) = true) (hslot : slot < 16) (kind : Nat) (rest : List Byte) :
    exec (.canTriggerFrame x dest source (bytes1 [slot, kind] ++ rest)) s = .next (
      if (BitVec.ofNat 8 kind).toNat = 0 then snapFire s slot 1 source false
      else if (BitVec.ofNat 8 kind).toNat = 1 ∧ rest.length = 10 then snapArm s slot (leNat (rest.take 8)) else s) := by
  have hto : (nth 0#8 (bytes1 [slot, kind] ++ rest) 0).toNat = slot := by
    rw [show nth 0#8 (bytes1 [slot, kind] ++ rest) 0 = BitVec.ofNat 8 slot from rfl, BitVec.toNat_ofNat]
    omega
  refine congrArg Host.Outcome.next ((if_pos hx).trans ?_)
  unfold trigFrame
  dsimp only
  rw [hto, if_pos (by simp only [hen, hdest, hup, hhears, Bool.and_true, Bool.true_and, decide_eq_true_eq]; omega)]
  simp only [bytes1, List.map_cons, List.map_nil, List.cons_append, List.nil_append, List.length_cons, nth, List.drop_succ_cons,
    List.drop_zero, Nat.reduceEqDiff, Nat.le_add_left, and_true]

theorem exec_armAtReached_due (hslot : slot < 16) (harmed : (getSlot s slot).armed = true) (hdue : (getSlot s slot).armAt ≤ warpNow s) :
    exec (.armAtReached slot) s = .next (armReached s slot false) := congrArg Host.Outcome.next (if_pos ⟨hslot, harmed, hdue⟩)

/-- A slot that gives its armed instant up does not begin a copy. -/
theorem snapCopying_modSlot {f : SnapSlot → SnapSlot} (hcopy : snapCopying s = false) (hst : (f (getSlot s slot)).st ≠ 2) :
    snapCopying (modSlot s slot f) = false := by
  rw [snapCopying, List.any_eq_false] at hcopy ⊢
  intro k hk
  rw [getSlot_modSlot]
  split
  · simp [hst]
  · exact hcopy k hk

end

/-! ### The end of a copy (R392) -/

/-- A slot of the latch whose copy has ended is FULL. -/
def slotCopied (s : State) (k : Nat) : State := if (getSlot s k).st = 2 then modSlot s k fun r => { r with st := 3 } else s

theorem getSlot_slotCopied (s : State) (k : Nat) : getSlot (slotCopied s k) k =
    { getSlot s k with st := if (getSlot s k).st = 2 then 3 else (getSlot s k).st } := by
  rw [slotCopied]
  split
  · rw [getSlot_modSlot_self]
  · rfl

theorem othersKept_slotCopied (s : State) (k : Nat) : OthersKept getSlot s (slotCopied s k) k :=
  othersKept_ite othersKept_modSlot fun _ _ => rfl

theorem delayed_slotCopied (s : State) (k : Nat) : (slotCopied s k).snap.delayed = s.snap.delayed := by
  rw [slotCopied]
  split <;> rfl

theorem getSlot_copiesEnded (s : State) {k : Nat} (hk : k < 16) : getSlot (forAll (upTo 16) slotCopied s) k =
    { getSlot s k with st := if (getSlot s k).st = 2 then 3 else (getSlot s k).st } := by
  obtain ⟨r, hr, hall⟩ := forAll_at (g := fun s => getSlot s k) (i := k)
    (fun s j hj => othersKept_slotCopied s j k (Ne.symm hj)) (nodup_upTo 16) (mem_upTo hk) s
  rw [hall, getSlot_slotCopied, hr]

/-- The triggers that wait for the copy. -/
def withDelayed (s : State) (l : List SnapTrig) : State := { s with snap := { s.snap with delayed := l } }

theorem exec_captureCopyComplete_eq (s : State) : exec .captureCopyComplete s = .next (
    if snapCopying s then
      forAll (forAll (upTo 16) slotCopied s).snap.delayed snapLater (withDelayed (forAll (upTo 16) slotCopied s) [])
    else s) := by
  have hcopied : (fun (s : State) (k : Nat) => if (getSlot s k).st = 2 then modSlot s k fun r => { r with st := 3 } else s) =
      slotCopied := rfl
  rw [show exec .captureCopyComplete s = execCaptureCopyComplete s from rfl, execCaptureCopyComplete, hcopied]
  dsimp only
  generalize forAll (upTo 16) slotCopied s = w
  rfl

theorem exec_captureCopyComplete_ends {s : State} (hcopy : snapCopying s = true) (hnone : s.snap.delayed = []) :
    ∃ t, exec .captureCopyComplete s = .next t ∧ t.snap.slots = (forAll (upTo 16) slotCopied s).snap.slots := by
  have hdelayed : (forAll (upTo 16) slotCopied s).snap.delayed = [] :=
    (forAll_leaves (fun s => s.snap.delayed) (fun s k => delayed_slotCopied s k) _ s).trans hnone
  have hexec := exec_captureCopyComplete_eq s
  rw [if_pos hcopy, hdelayed] at hexec
  generalize forAll (upTo 16) slotCopied s = w at *
  exact ⟨_, hexec, rfl⟩

/-! ### The log (R280, R400) -/

/-- A record in the ring of 4096, under the next number. -/
def ringed (s : State) (r : LogRec) : State :=
  mramWritten { s with mram := { s.mram with
      log := lastN 4096 (s.mram.log ++ [{ r with seq := s.mram.nextSeq }])
      nextSeq := s.mram.nextSeq + 1
      poisonedLog := s.mram.poisonedLog.filter fun p => p % 4096 ≠ s.mram.nextSeq % 4096 } }
    (0x720000 + 32 * (s.mram.nextSeq % 4096)) (0x720000 + 32 * (s.mram.nextSeq % 4096) + 32)

/-- The events of EVENT_EN and of EVENT_NODE (R280). -/
def announced (s : State) (r : LogRec) : State :=
  let s := if Cfg.hostEventEn s then pushHostEvent s r else s
  if Cfg.netEventNode s ≠ 0 then pushNodeEvent s r else s

theorem writeRec_eq (s : State) (r : LogRec) : writeRec s r = announced (ringed s r) { r with seq := s.mram.nextSeq } := rfl

theorem hostEventEn_of_dict {s t : State} (h : t.dict = s.dict) : Cfg.hostEventEn t = Cfg.hostEventEn s := by
  rw [Cfg.hostEventEn, cfgB, cfgI, cfgVal, h, Cfg.hostEventEn, cfgB, cfgI, cfgVal]

section
variable (s : State) (r : LogRec)

theorem ringed_leaves {u : State} (h : ringed s r = u) :
    u.mram.log = lastN 4096 (s.mram.log ++ [{ r with seq := s.mram.nextSeq }]) ∧ u.mram.nextSeq = s.mram.nextSeq + 1 ∧
      u.snap = s.snap ∧ u.dict = s.dict ∧ u.host = s.host := by
  subst h
  simp only [ringed, mramWritten, and_self]

theorem announced_within {bs : List Block} (h : Block.host ∈ bs) : Within bs s (announced s r) :=
  ite_within (pushNodeEvent_within _ _ (ite_within (pushHostEvent_within _ _ (.refl _ s) h) (.refl _ s)) h)
    (ite_within (pushHostEvent_within _ _ (.refl _ s) h) (.refl _ s))

theorem events_announced (hen : Cfg.hostEventEn s = true) (hroom : s.host.events.length < 64) :
    (announced s r).host.events = s.host.events ++ [r] := by
  have hpush : (pushHostEvent s r).host.events = s.host.events ++ [r] := by
    rw [pushHostEvent, pushCapped, if_neg (by omega)]
  unfold announced
  rw [if_pos hen]
  dsimp only
  split
  · exact hpush
  · exact hpush

/-- A queued record takes its number and its place in the ring, and goes to the host port. -/
theorem writeRec_leaves {t : State} (h : writeRec s r = t) : t.snap = s.snap ∧
    t.mram.log = lastN 4096 (s.mram.log ++ [{ r with seq := s.mram.nextSeq }]) ∧ t.mram.nextSeq = s.mram.nextSeq + 1 ∧
    (Cfg.hostEventEn s = true → s.host.events.length < 64 →
      t.host.events = s.host.events ++ [{ r with seq := s.mram.nextSeq }]) := by
  rw [writeRec_eq] at h
  subst h
  have hkept := announced_within (bs := [.host]) (ringed s r) { r with seq := s.mram.nextSeq } (by decide)
  have hmram : (announced (ringed s r) { r with seq := s.mram.nextSeq }).mram = (ringed s r).mram := hkept .mram (by decide)
  have hsnap : (announced (ringed s r) { r with seq := s.mram.nextSeq }).snap = (ringed s r).snap := hkept .snap (by decide)
  obtain ⟨hlog, hseq, hslots, hdict, hhost⟩ := ringed_leaves s r rfl
  rw [hmram, hsnap]
  refine ⟨hslots, hlog, hseq, fun hen hroom => ?_⟩
  rw [← hhost] at hroom ⊢
  exact events_announced (ringed s r) _ ((hostEventEn_of_dict hdict).trans hen) hroom

end

theorem exec_logWrite_oldest {s : State} {r : LogRec} {q : List LogRec} (h : s.snap.queue = r :: q) : exec .logWrite s =
    .next (sendMirror (writeRec { s with snap := { s.snap with queue := q } } r) (.log r)) := by
  rw [show exec .logWrite s = execLogWrite s from rfl, execLogWrite]
  simp only [h]

/-- Settles O43: every trigger comes to a capture of its slot or arms it; a copy and a record by what they leave. -/
theorem triggersCapturesAndTheLog : Obligations.TriggersCapturesAndTheLog := by
  unfold Obligations.TriggersCapturesAndTheLog
  refine ⟨fun s rising hup hmode hslot hempty hcopy => ?edge, fun s x dest source slot hx hen hdest hup hhears hslot => ⟨fun hempty hcopy => ?now,
      fun w hlater hw hempty => ?arm⟩, fun s slot hslot harmed hdue hst hcopy => ⟨_, exec_armAtReached_due hslot harmed hdue, ?reached⟩,
    fun s hcopy hnone => ?copied, fun s hhigh hover => ⟨_, exec_trigOutEnd_over hhigh hover, rfl, rfl⟩, fun s r q hq => ?written⟩
  case edge =>
    obtain ⟨hlatched, hsource, hat, -, hothers⟩ := snapCapture_latches s (Cfg.snapTrigInSlot s) 2 (warpNow s) 0 false false false rfl
    refine ⟨_, (congrArg Host.Outcome.next (if_pos ?_)).trans (congrArg Host.Outcome.next (snapFire_empty hslot hempty hcopy 2 0 false)),
      hlatched, hsource, hat, hothers⟩
    cases rising <;> simpa [hup, or_comm] using hmode
  case now =>
    obtain ⟨hlatched, hsource, hat, -, hothers⟩ := snapCapture_latches s slot 1 (warpNow s) source false false false rfl
    refine ⟨_, ?_, hlatched, hsource, hat, hothers⟩
    exact (exec_canTriggerFrame_taken hx hen hdest hup hhears hslot 0 []).trans
      (congrArg Host.Outcome.next ((if_pos rfl).trans (snapFire_empty hslot hempty hcopy ..)))
  case arm =>
    obtain ⟨hself, hothers⟩ := snapArm_later (show (getSlot s slot).st ≤ 1 by omega) hlater
    have hwhen : leNat ((leBytes 8 w ++ bytes1 [0, 0]).take 8) = w := by
      rw [List.take_left' (length_leBytes 8 w), leNat_leBytes hw]
    refine ⟨_, (exec_canTriggerFrame_taken hx hen hdest hup hhears hslot 1 (leBytes 8 w ++ bytes1 [0, 0])).trans
      (congrArg Host.Outcome.next ((if_neg (by decide)).trans ((if_pos ⟨rfl, rfl⟩).trans (congrArg (snapArm s slot) hwhen)))), ?_⟩
    rw [hself]
    exact ⟨rfl, rfl, rfl, hothers⟩
  case reached =>
    let idle := modSlot s slot fun r => { r with armed := false, st := if r.st = 1 then 0 else r.st }
    have hself : getSlot idle slot = { getSlot s slot with armed := false, st := 0 } := by
      rw [getSlot_modSlot_self, if_pos hst]
    have hempty : (getSlot idle slot).st = 0 := by rw [hself]
    have hcopy' : snapCopying idle = false := snapCopying_modSlot hcopy (by simp [hst])
    obtain ⟨hlatched, hsource, -, harmed', hothers⟩ := snapCapture_latches idle slot 5 (warpNow idle) 0 false false false rfl
    rw [armReached, snapFire_empty hslot hempty hcopy']
    exact ⟨hlatched, hsource, harmed', (show OthersKept getSlot s idle slot from othersKept_modSlot).trans hothers⟩
  case copied =>
    obtain ⟨t, hexec, hslots⟩ := exec_captureCopyComplete_ends hcopy hnone
    refine ⟨t, hexec, fun k hk => ?_⟩
    rw [getSlot_of_slots hslots, getSlot_copiesEnded s hk]
    exact ⟨rfl, rfl⟩
  case written =>
    obtain ⟨hsnap, hlog, hseq, hevents⟩ := writeRec_leaves { s with snap := { s.snap with queue := q } } r rfl
    have hexec := exec_logWrite_oldest hq
    generalize writeRec { s with snap := { s.snap with queue := q } } r = w at *
    have hkept := sendMirror_within (bs := [.pair]) w (.log r) (.refl _ w) (by decide)
    refine ⟨_, { r with seq := s.mram.nextSeq }, hexec, ?_, ?_, rfl, rfl, rfl, ?_, fun hen hroom => ?_⟩
    · rw [hkept .snap (by decide), hsnap]
    · rw [sendMirror_mram, hlog]
    · rw [sendMirror_mram, hseq]
    · rw [hkept .host (by decide)]
      exact hevents hen hroom

end Sys2Proof.Machine
end

section
/-! PROOFS. Writes to the CAN controllers and to the snapshots (13_can_fd, R302, R304, R305, R308, R310; 18_snapshot_and_log, R391,
R395). -/

namespace Sys2Proof.Machine

/-! ### The members -/

section
variable {x o k : Nat}

theorem txFrame_member (hx : x < 2) : OwnMember (0x1120 + x) 1 .blob :=
  ownMember_of_mem (ob := obj1120) (by simp [schema]) hx rfl rfl rfl (by decide)

theorem txCancel_member (hx : x < 2) : OwnMember (0x1120 + x) 3 .u16 :=
  ownMember_of_mem (ob := obj1120) (by simp [schema]) hx rfl rfl rfl (by decide)

theorem rxAck_member (hx : x < 2) (ho : o < 64) : OwnMember (0x1200 + 64 * x + o) 7 .bool :=
  ownMember_of_mem (ob := obj1200) (by simp [schema]) (i := 64 * x + o) (show 64 * x + o < 128 by omega)
    (Nat.add_assoc ..).symm rfl rfl (by decide)

theorem recover_member (hx : x < 2) : OwnMember (0x1110 + x) 6 .bool :=
  ownMember_of_mem (ob := obj1110) (by simp [schema]) hx rfl rfl rfl (by decide)

theorem sleepReq_member (hx : x < 2) : OwnMember (0x1100 + x) 33 .bool :=
  ownMember_of_mem (ob := obj1100) (by simp [schema]) hx rfl rfl rfl (by decide)

theorem snapTrigger_member : OwnMember 0xD000 1 .u8 :=
  ownMember_of_mem (ob := objD000) (by simp [schema]) (i := 0) (by decide) rfl rfl rfl (by decide)

theorem armAt_member (hk : k < 16) : OwnMember (0xD010 + k) 3 .warp :=
  ownMember_of_mem (ob := objD010) (by simp [schema]) hk rfl rfl rfl (by decide)

theorem snapRelease_member (hk : k < 16) : OwnMember (0xD010 + k) 4 .bool :=
  ownMember_of_mem (ob := objD010) (by simp [schema]) hk rfl rfl rfl (by decide)

end

/-! ### What an accepted write has passed (R256) -/

/-- A write that no condition refuses is in range, and its block takes it. -/
theorem writeCode_passed {s : State} {x : Sess} {o m : Nat} {data : List Byte} {d : MemDef} (hd : findMem o m = some d)
    (hacc : d.acc ≠ .rwg) (hm : m ≠ 0) (hcode : writeCode s x o m data = 0) :
    rangeBad d (dataVal d.ty data) = false ∧ blockCode s x o m (dataVal d.ty data) = 0 := by
  have hob : (findObj o).isNone = false := by
    cases hob : findObj o with
    | none => simp [findMem, hob] at hd
    | some ob => rfl
  rw [writeCode, hob, if_neg Bool.false_ne_true, if_neg hm, hd] at hcode
  dsimp only at hcode
  rw [if_neg hacc, if_neg hacc] at hcode
  have hall := firstCode_eq_zero_iff.mp hcode
  have hrange := hall (codeIf (rangeBad d (dataVal d.ty data) || rangeBadOwn s o m (dataVal d.ty data)) Ab.range) (by simp)
  refine ⟨?_, hall _ (by simp)⟩
  cases hbad : rangeBad d (dataVal d.ty data) with
  | false => rfl
  | true => simp [hbad, codeIf, Ab.range] at hrange

theorem WriteGoes.blockCode_eq_zero {o m : Nat} {ty : MType} (hmem : OwnMember o m ty) (hm : m ≠ 0) {s : State} {e : Env}
    {data : List Byte} (h : WriteGoes s e o m data) :
    blockCode (writing s e o m data) e.sess o m (dataVal ty data) = 0 := by
  obtain ⟨d, hd, rfl, hacc⟩ := hmem
  exact (writeCode_passed hd hacc hm h.writeCode_eq_zero).2

/-- SNAP_TRIGGER names one of the sixteen slots. -/
theorem snapTrigger_slot {s : State} {e : Env} {data : List Byte} (h : WriteGoes s e 0xD000 1 data) : leNat data < 16 := by
  have hd : findMem 0xD000 1 = some ⟨1, 1, 1, .u8, .wo, 1, 0, [(0, 15)], 1, false⟩ :=
    findMem_of_mem (ob := objD000) (by simp [schema]) (i := 0) (by decide) 1
  have hrange := (writeCode_passed hd (by decide) (by decide) h.writeCode_eq_zero).1
  rw [dataVal_u8, rangeBad, if_neg (by decide), MemDef.inRange] at hrange
  simp at hrange
  omega

/-! ### What hearing a request leaves of the slots -/

theorem managerHeard_slots (s : State) : (managerHeard s).snap.slots = s.snap.slots := by
  rw [managerHeard]
  dsimp only
  split
  · rw [fansEndSilence_within (bs := [.free, .io, .fans, .mem]) _ (.refl _ _) (by decide) (by decide) (by decide) (by decide) .snap
      (by decide), logEvent_slots]
  · rfl

section
variable (s : State) (e : Env) (svc : Nat) (payload : List Byte)

theorem heard_slots : (heard s e svc payload).snap.slots = s.snap.slots := by
  have harrives : (arrives s e svc).2.snap = s.snap := arrives_within (bs := [.host]) s e svc (.refl _ s) (by decide) .snap (by decide)
  have hexpire (t : State) : (sessExpire t e.sess).snap = t.snap :=
    sessExpire_within (bs := [.dict]) t e.sess (.refl _ t) (by decide) .snap (by decide)
  have htouch (t : State) : (touch t e.sess).snap.slots = t.snap.slots := by
    unfold touch
    dsimp only
    rw [apply_ite (fun s : State => s.snap.slots), managerHeard_slots, ite_self, modSess_snap, hexpire]
  rw [heard, notePrev, modSess_snap, htouch, harrives]

theorem getSlot_heard (k : Nat) : getSlot (heard s e svc payload) k = getSlot s k := getSlot_of_slots (heard_slots ..) k

end

/-! ### What an answer leaves of the controllers -/

/-- A controller without its queue. -/
def CanRt.unqueued (c : CanRt) : CanRt := { c with fifo := [], onBus := 0, cancelled := false }

section
variable (s : State) (x y : Nat) (it : TxItem)

theorem unqueued_canOffer : (getCan (canOffer s x) y).unqueued = (getCan s y).unqueued := by
  rw [canOffer]
  split
  · rfl
  · rw [getCan_modCan]
    split
    · next h =>
      subst h
      rfl
    · rfl

theorem fifo_canOffer : (getCan (canOffer s x) y).fifo = (getCan s y).fifo := by
  rw [canOffer]
  split
  · rfl
  · rw [getCan_modCan]
    split
    · next h =>
      subst h
      rfl
    · rfl

theorem unqueued_canQueue : (getCan (canQueue s x it) y).unqueued = (getCan s y).unqueued := by
  rw [canQueue]
  split
  · rfl
  · rw [unqueued_canOffer, getCan_modCan]
    split
    · next h =>
      subst h
      rfl
    · rfl

theorem fifo_canQueue : (getCan (canQueue s x it) y).fifo =
    if y = x ∧ (getCan s x).fifo.length < 32 then (getCan s y).fifo ++ [it] else (getCan s y).fifo := by
  rw [canQueue]
  split
  · next h => rw [if_neg (by omega)]
  · next h =>
    rw [fifo_canOffer, getCan_modCan]
    split
    · next hxy =>
      subst hxy
      rw [if_pos ⟨rfl, Nat.lt_of_not_le h⟩]
    · next hxy => rw [if_neg fun h => hxy h.1]

end

section
variable (s : State) (e : Env) (svc : Nat) (payload : List Byte) (y : Nat)

/-- An answer may queue a frame on the controller of its session. -/
theorem answer_queues : (answer s e svc payload).can = s.can ∨
    ∃ t x f, answer s e svc payload = canQueue t x ⟨0, .response, f⟩ ∧ t.can = s.can := by
  rw [answer]
  unfold sendResponse
  split
  · exact .inl rfl
  · split
    · exact .inl rfl
    · rw [svcQueue]
      split
      · exact .inr ⟨_, _, _, rfl, rfl⟩
      · exact .inl rfl
  · exact .inl rfl

theorem unqueued_answer : (getCan (answer s e svc payload) y).unqueued = (getCan s y).unqueued := by
  obtain h | ⟨t, x, f, h, ht⟩ := answer_queues s e svc payload
  · rw [getCan_of_can h]
  · rw [h, unqueued_canQueue, getCan_of_can ht]

theorem fifo_answer : ∃ l, (getCan (answer s e svc payload) y).fifo = (getCan s y).fifo ++ l ∧ ∀ i ∈ l, i.kind = .response := by
  obtain h | ⟨t, x, f, h, ht⟩ := answer_queues s e svc payload
  · exact ⟨[], by rw [getCan_of_can h, List.append_nil], by simp⟩
  · rw [h, fifo_canQueue]
    split
    · exact ⟨[⟨0, .response, f⟩], by rw [getCan_of_can ht], by simp⟩
    · exact ⟨[], by rw [getCan_of_can ht, List.append_nil], by simp⟩

end

end Sys2Proof.Machine
end

section
/-! PROOFS. The operations that writes to the CAN controllers run, and those writes with the ones to the snapshots (13_can_fd,
18_snapshot_and_log). -/

namespace Sys2Proof.Machine

/-! ### The operations (R304, R305, R302, R310) -/

section
variable {s : State} {x : Nat}

/-- A local wake touches neither the queue nor its handles. -/
theorem canLocalWakeUp_leaves {t : State} (h : canLocalWakeUp s x = t) : (getCan t x).fifo = (getCan s x).fifo ∧
    (getCan t x).nextHandle = (getCan s x).nextHandle ∧ t.dict = s.dict := by
  subst h
  rw [canLocalWakeUp]
  split
  · rw [getCan_canWake]
    exact ⟨rfl, rfl, canWake_within (bs := [.can, .snap]) s x 4 (.refl _ s) (by decide) (by decide) .dict (by decide)⟩
  · exact ⟨rfl, rfl, rfl⟩

theorem getCan_modSess (s : State) (sess : Sess) (f : SessRec → SessRec) (x : Nat) :
    getCan (modSess s sess f) x = getCan s x := rfl

/-- The handle of the frame goes to the session, and the next one waits. -/
def handleGiven (s : State) (sess : Sess) (x : Nat) : State :=
  modSess (modCan s x fun c => { c with nextHandle := if (getCan s x).nextHandle = 65535 then 1 else (getCan s x).nextHandle + 1 })
    sess fun r => { r with handles := Table.set (blank 0) r.handles x (getCan s x).nextHandle }

theorem getCan_handleGiven (sess : Sess) : getCan (handleGiven s sess x) x = { getCan s x with
    nextHandle := if (getCan s x).nextHandle = 65535 then 1 else (getCan s x).nextHandle + 1 } := by
  rw [handleGiven, getCan_modSess, getCan_modCan_self]

theorem handles_handleGiven (sess : Sess) :
    Table.getD (blank 0) (getSess (handleGiven s sess x) sess).handles x = (getCan s x).nextHandle := by
  rw [handleGiven, getSess_modSess_self]
  exact Table.getD_set_self ..

theorem txFrameOp_leaves (hroom : (getCan s x).fifo.length < 32) (sess : Sess) (l : List Byte) {t : State}
    (h : txFrameOp s sess x l = t) : Table.getD (blank 0) (getSess t sess).handles x = (getCan s x).nextHandle ∧
      (getCan t x).nextHandle = (if (getCan s x).nextHandle = 65535 then 1 else (getCan s x).nextHandle + 1) ∧
      (getCan t x).fifo = (getCan s x).fifo ++ [⟨(getCan s x).nextHandle, .user, txFrameOf l⟩] := by
  let queued := canQueue (handleGiven s sess x) x ⟨(getCan s x).nextHandle, .user, txFrameOf l⟩
  have hop : t = if canLocalWake queued x then canLocalWakeUp queued x else queued := h.symm
  have hdict : queued.dict = (handleGiven s sess x).dict :=
    canQueue_within (bs := [.can]) _ _ _ (.refl _ _) (by decide) .dict (by decide)
  have hhandle : (getCan queued x).nextHandle = (getCan (handleGiven s sess x) x).nextHandle := by
    simpa only [CanRt.unqueued] using congrArg CanRt.nextHandle (unqueued_canQueue ..)
  have hfifo : (getCan queued x).fifo = (getCan (handleGiven s sess x) x).fifo ++ [⟨(getCan s x).nextHandle, .user, txFrameOf l⟩] := by
    rw [fifo_canQueue, getCan_handleGiven, if_pos ⟨rfl, hroom⟩]
  have hwake : (getCan t x).fifo = (getCan queued x).fifo ∧ (getCan t x).nextHandle = (getCan queued x).nextHandle ∧
      t.dict = queued.dict := by
    rw [hop]
    split
    · exact canLocalWakeUp_leaves rfl
    · exact ⟨rfl, rfl, rfl⟩
  obtain ⟨hfifo', hhandle', hdict'⟩ := hwake
  rw [getSess_of_dict (hdict'.trans hdict), handles_handleGiven, hhandle', hhandle, hfifo', hfifo, getCan_handleGiven]
  exact ⟨rfl, rfl, rfl⟩

/-- A frame of the application that waits under this handle. -/
def waitsUnder (handle : Nat) (i : TxItem) : Bool := i.kind == .user && i.handle == handle

theorem waitsUnder_iff {handle : Nat} {i : TxItem} : waitsUnder handle i = true ↔ i.kind = .user ∧ i.handle = handle := by
  rw [waitsUnder, Bool.and_eq_true, beq_iff_eq, beq_iff_eq]

theorem txCancelOp_leaves (hbus : (getCan s x).onBus ≠ 2) (sess : Sess) (handle : Nat) {t : State}
    (h : txCancelOp s sess x handle = t) :
    (getCan t x).fifo = (getCan s x).fifo.filter (fun i => !waitsUnder handle i) ∧
      Table.getD (blank 0) (getSess t sess).cancels x = if (getCan s x).fifo.any (waitsUnder handle) then 0 else 2 := by
  subst h
  unfold txCancelOp
  dsimp only
  rw [show (fun i : TxItem => i.kind == .user && i.handle == handle) = waitsUnder handle from rfl]
  split
  · rw [if_neg fun hb => hbus hb.1, getSess_modSess_self, getCan_modSess, getCan_modCan_self]
    exact ⟨rfl, by rw [Table.getD_set_self]⟩
  · next hnone =>
    rw [getSess_modSess_self, getCan_modSess]
    dsimp only
    refine ⟨?_, Table.getD_set_self ..⟩
    rw [Bool.not_eq_true, List.any_eq_false] at hnone
    rw [List.filter_eq_self.mpr fun i hi => by simp [hnone i hi]]

end

/-- What an acknowledgement makes of a receive object. -/
def RxObj.acknowledged (ob : RxObj) (mode : Nat) : RxObj :=
  if mode = 1 then { ob with recs := ob.recs.map fun r => { r with newdat := false } } else { ob with recs := ob.recs.drop 1 }

theorem getObj_rxAckOp (s : State) (x o : Nat) :
    getObj (getCan (rxAckOp s x o) x) o = (getObj (getCan s x) o).acknowledged (rxMode s x o) := by
  rw [rxAckOp, RxObj.acknowledged]
  split
  · rw [getObj_rxPut]
  · rw [getObj_rxPut]

section
variable (s : State) (x extra : Nat)

theorem getCan_sleepOp_asks : getCan (sleepOp s x 1 extra) x =
    { getCan s x with sleepFrom := some s.clk, sleepUpTo := (getCan s x).fifo.length + extra } := by
  rw [sleepOp]
  rw [if_pos rfl, getCan_modCan_self]
  rfl

theorem sleepOp_wakes (h : (getCan s x).st = 8) : (getCan (sleepOp s x 0 extra) x).st = 1 ∧
    (getCan (sleepOp s x 0 extra) x).wakeCause = 4 := by
  have hself : getCan (modCan (setRw s (memKey (0x1100 + x) 33) (.num 0)) x fun c => { c with sleepFrom := none, sleepUpTo := 0 }) x =
      _ := getCan_modCan_self ..
  rw [sleepOp]
  rw [if_neg (by decide), canLocalWakeUp, if_pos (by rw [hself]; exact h), getCan_canWake]
  exact ⟨rfl, rfl⟩

end

/-! ### The writes -/

section
variable {s : State} {e : Env} {data : List Byte} {x o k : Nat}

/-- A write to the CAN controllers' objects. -/
theorem applyComm_can (ho : 0x1100 ≤ o) (s : State) (m : Nat) (v : Val) (direct : Bool) : applyComm s e o m v direct =
    if o < 0x1110 then sleepOp s (o - 0x1100) (valInt v) (ownResponse s e (o - 0x1100))
    else if o < 0x1120 then onOne v s (recoverOp s (o - 0x1110))
    else if o < 0x1200 then
      (if m = 1 then txFrameOp s e.sess (o - 0x1120) (valBlob v) else txCancelOp s e.sess (o - 0x1120) (valInt v).toNat)
    else onOne v s (rxAckOp s ((o - 0x1200) / 64) ((o - 0x1200) % 64)) := by
  unfold applyComm
  dsimp only
  rw [if_neg (by omega), if_neg (by omega), if_neg (by omega), if_neg (by omega)]

theorem requestWrite_can {m : Nat} {ty : MType} (hmem : OwnMember o m ty) (hlo : 0x1100 ≤ o) (hhi : o < 0x2000)
    (h : WriteGoes s e o m data) : requestWrite s e o m data none =
      answer (applyComm (writing s e o m data) e o m (dataVal ty data) true) e 2 (statusBytes 0) :=
  requestWrite_comm hmem (by omega) hhi (by omega) h

theorem exec_txFrame_of_goes (hx : x < 2) (h : WriteGoes s e (0x1120 + x) 1 data) : exec (.txFrame e x data) s =
    .next (answer (txFrameOp (writing s e (0x1120 + x) 1 data) e.sess x data) e 2 (statusBytes 0)) := by
  rw [exec_txFrame, execTxFrame, requestWrite_can (txFrame_member hx) (by omega) (by omega) h, applyComm_can (by omega),
    if_neg (by omega), if_neg (by omega), if_pos (by omega), if_pos rfl, Nat.add_sub_cancel_left, dataVal_blob]
  rfl

theorem exec_txCancel_of_goes (hx : x < 2) (h : WriteGoes s e (0x1120 + x) 3 data) : exec (.txCancel e x data) s =
    .next (answer (txCancelOp (writing s e (0x1120 + x) 3 data) e.sess x (leNat data)) e 2 (statusBytes 0)) := by
  rw [exec_txCancel, execTxCancel, requestWrite_can (txCancel_member hx) (by omega) (by omega) h, applyComm_can (by omega),
    if_neg (by omega), if_neg (by omega), if_pos (by omega), if_neg (by decide), Nat.add_sub_cancel_left]
  rfl

theorem exec_rxAck_of_goes (hx : x < 2) (ho : o < 64) (h : WriteGoes s e (0x1200 + 64 * x + o) 7 (bytes1 [1])) :
    exec (.rxAck e x o (bytes1 [1])) s =
      .next (answer (rxAckOp (writing s e (0x1200 + 64 * x + o) 7 (bytes1 [1])) x o) e 2 (statusBytes 0)) := by
  have hctrl : (0x1200 + 64 * x + o - 0x1200) / 64 = x := by omega
  have hobj : (0x1200 + 64 * x + o - 0x1200) % 64 = o := by omega
  rw [exec_rxAck, execRxAck, requestWrite_can (rxAck_member hx ho) (by omega) (by omega) h, applyComm_can (by omega),
    if_neg (by omega), if_neg (by omega), if_neg (by omega), hctrl, hobj, dataVal_bool_one, onOne_one]

theorem exec_recover_of_goes (hx : x < 2) (h : WriteGoes s e (0x1110 + x) 6 (bytes1 [1])) : exec (.recover e x (bytes1 [1])) s =
    .next (answer (recoverOp (writing s e (0x1110 + x) 6 (bytes1 [1])) x) e 2 (statusBytes 0)) := by
  rw [exec_recover, execRecover, requestWrite_can (recover_member hx) (by omega) (by omega) h, applyComm_can (by omega),
    if_neg (by omega), if_pos (by omega), Nat.add_sub_cancel_left, dataVal_bool_one, onOne_one]

theorem exec_sleepReq_of_goes (hx : x < 2) (h : WriteGoes s e (0x1100 + x) 33 data) : exec (.sleepReq e x data) s =
    .next (answer (sleepOp (writing s e (0x1100 + x) 33 data) x (leNat data) (ownResponse (writing s e (0x1100 + x) 33 data) e x)) e 2
      (statusBytes 0)) := by
  rw [exec_sleepReq, execSleepReq, requestWrite_can (sleepReq_member hx) (by omega) (by omega) h, applyComm_can (by omega),
    if_pos (by omega), Nat.add_sub_cancel_left]
  rfl

theorem exec_snapTrigger_of_goes (h : WriteGoes s e 0xD000 1 data) : exec (.snapTrigger e data) s =
    .next (answer (snapFire (writing s e 0xD000 1 data) (leNat data) 0 (sessNode e.sess) false) e 2 (statusBytes 0)) := by
  rw [exec_snapTrigger, execSnapTrigger, requestWrite_module snapTrigger_member (by decide) (by decide) (by decide) h]
  rfl

/-- A write to a slot's objects. -/
theorem applyModule_slot (hk : k < 16) (s : State) (m : Nat) (v : Val) : applyModule s e (0xD010 + k) m v =
    if m = 4 then onOne v s (snapRelease s k) else snapArmFrame (snapArm s k (valNat v)) k (valNat v) := by
  unfold applyModule
  rw [if_neg (by omega), if_neg (by omega), if_neg (by omega), if_neg (by omega), if_neg (by omega), if_pos (by omega),
    Nat.add_sub_cancel_left]

theorem exec_armAt_of_goes (hk : k < 16) (h : WriteGoes s e (0xD010 + k) 3 data) : exec (.armAt e k data) s =
    .next (answer (snapArmFrame (snapArm (writing s e (0xD010 + k) 3 data) k (leNat data)) k (leNat data)) e 2 (statusBytes 0)) := by
  rw [exec_armAt, execArmAt, requestWrite_module (armAt_member hk) (by omega) (by omega) (by omega) h, applyModule_slot hk,
    if_neg (by decide)]
  rfl

theorem exec_snapRelease_of_goes (hk : k < 16) (h : WriteGoes s e (0xD010 + k) 4 (bytes1 [1])) :
    exec (.snapRelease e k (bytes1 [1])) s =
      .next (answer (snapRelease (writing s e (0xD010 + k) 4 (bytes1 [1])) k) e 2 (statusBytes 0)) := by
  rw [exec_snapRelease, execSnapRelease, requestWrite_module (snapRelease_member hk) (by omega) (by omega) (by omega) h,
    applyModule_slot hk, if_pos rfl, dataVal_bool_one, onOne_one]

/-- The conditions of the blocks on TX_FRAME and RECOVER. -/
theorem txFrame_room (hx : x < 2) (h : WriteGoes s e (0x1120 + x) 1 data) : (getCan s x).fifo.length < 32 := by
  have hcode := h.blockCode_eq_zero (txFrame_member hx) (by decide)
  unfold blockCode at hcode
  dsimp only at hcode
  rw [if_neg (by omega), if_neg (by omega), if_neg (by omega), if_neg (by omega), if_pos ⟨by omega, by omega, rfl⟩,
    Nat.add_sub_cancel_left, txFrameCode, firstCode_eq_zero_iff] at hcode
  have hfull := hcode (codeIf (decide (32 ≤ (getCan (writing s e (0x1120 + x) 1 data) x).fifo.length)) Ab.storage) (by simp)
  rw [writing, getCan_heard] at hfull
  by_contra hge
  rw [decide_eq_true (by omega)] at hfull
  exact absurd hfull (by decide)

theorem recover_held (hx : x < 2) (h : WriteGoes s e (0x1110 + x) 6 (bytes1 [1])) : (getCan s x).st = 4 := by
  have hcode := h.blockCode_eq_zero (recover_member hx) (by decide)
  unfold blockCode at hcode
  dsimp only at hcode
  rw [if_neg (by omega), if_neg (by omega), if_neg (by omega), if_pos ⟨by omega, by omega⟩, Nat.add_sub_cancel_left,
    dataVal_bool_one, recoverBad, writing, getCan_heard] at hcode
  by_contra hst
  simp [valInt, hst, codeIf, Ab.state] at hcode

end

section
variable (s : State) (e : Env) (svc : Nat) (payload : List Byte) (x : Nat)

theorem answer_canFields : (getCan (answer s e svc payload) x).nextHandle = (getCan s x).nextHandle ∧
    (getCan (answer s e svc payload) x).objs = (getCan s x).objs ∧ (getCan (answer s e svc payload) x).st = (getCan s x).st ∧
    (getCan (answer s e svc payload) x).wakeCause = (getCan s x).wakeCause ∧
    (getCan (answer s e svc payload) x).sleepFrom = (getCan s x).sleepFrom ∧
    (getCan (answer s e svc payload) x).sleepUpTo = (getCan s x).sleepUpTo := by
  have hview := unqueued_answer s e svc payload x
  simp only [CanRt.unqueued, CanRt.mk.injEq] at hview
  simp only [hview, and_self]

theorem getSlot_answer (k : Nat) : getSlot (answer s e svc payload) k = getSlot s k :=
  getSlot_of_slots (congrArg Snap.slots (answer_snap s e svc payload)) k

end

section
variable (s : State) (e : Env) (o m : Nat) (data : List Byte) (x : Nat)

theorem getCan_writing : getCan (writing s e o m data) x = getCan s x := getCan_heard ..
theorem getSlot_writing : getSlot (writing s e o m data) x = getSlot s x := getSlot_heard ..
theorem rxMode_writing (o' : Nat) : rxMode (writing s e o m data) x o' = rxMode s x o' := by
  rw [rxMode, cfgN, cfgI, cfgVal_of_values (memberValues_writing ..), rxMode, cfgN, cfgI]
theorem ownResponse_writing : ownResponse (writing s e o m data) e x = ownResponse s e x := by
  have hfd : canFdEn (writing s e o m data) x = canFdEn s x := by
    rw [canFdEn, cfgB, cfgI, cfgVal_of_values (memberValues_writing ..), canFdEn, cfgB, cfgI]
  rw [ownResponse, hfd, ownResponse]
theorem warpNow_writing : warpNow (writing s e o m data) = warpNow s := by
  rw [warpNow, show (writing s e o m data).warp = s.warp from heard_warp .., warpNow]

end

/-- Settles O56: each write runs its operation on the state in which its request is heard, and the answer that follows may queue one
response frame. -/
theorem canAndSnapshotWrites : Obligations.CanAndSnapshotWrites := by
  unfold Obligations.CanAndSnapshotWrites
  refine ⟨fun s e x data hx h => ⟨_, exec_txFrame_of_goes hx h, ?frame⟩,
    fun s e x data hx h hbus => ⟨_, exec_txCancel_of_goes hx h, ?cancel⟩,
    fun s e x o hx ho h => ⟨_, exec_rxAck_of_goes hx ho h, ?ack⟩,
    fun s e x hx h => ⟨_, exec_recover_of_goes hx h, recover_held hx h, ?recover⟩,
    fun s e x hx h => ⟨_, exec_sleepReq_of_goes hx h, ?sleep⟩,
    fun s e x hx h hst => ⟨_, exec_sleepReq_of_goes hx h, ?wake⟩,
    fun s e data h hempty hidle => ⟨_, exec_snapTrigger_of_goes h, ?trigger⟩,
    fun s e k data hk h hlater hidle => ⟨_, exec_armAt_of_goes hk h, ?arm⟩,
    fun s e k hk h hfull => ⟨_, exec_snapRelease_of_goes hk h, ?release⟩⟩
  case frame =>
    have hcan := getCan_writing s e (0x1120 + x) 1 data x
    have hroom := txFrame_room hx h
    generalize writing s e (0x1120 + x) 1 data = w at *
    rw [← hcan] at hroom ⊢
    obtain ⟨hhandle, hnext, hfifo⟩ := txFrameOp_leaves hroom e.sess data rfl
    obtain ⟨l, hqueue, -⟩ := fifo_answer (txFrameOp w e.sess x data) e 2 (statusBytes 0) x
    rw [answer_handles, (answer_canFields ..).1, hqueue, hfifo]
    exact ⟨hhandle, hnext, by simp⟩
  case cancel =>
    have hcan := getCan_writing s e (0x1120 + x) 3 data x
    generalize writing s e (0x1120 + x) 3 data = w at *
    rw [← hcan] at hbus ⊢
    obtain ⟨hfifo, hresult⟩ := txCancelOp_leaves hbus e.sess (leNat data) rfl
    obtain ⟨l, hqueue, hresponses⟩ := fifo_answer (txCancelOp w e.sess x (leNat data)) e 2 (statusBytes 0) x
    rw [answer_cancels, hqueue, hfifo]
    refine ⟨fun i hi huser hhandle => ?_, hresult⟩
    obtain hkept | hnew := List.mem_append.mp hi
    · have hnot := (List.mem_filter.mp hkept).2
      rw [waitsUnder_iff.mpr ⟨huser, hhandle⟩] at hnot
      exact absurd hnot (by decide)
    · rw [hresponses i hnew] at huser
      exact absurd huser (by decide)
  case ack =>
    rw [getObj, (answer_canFields ..).2.1, ← getObj, getObj_rxAckOp, getCan_writing, rxMode_writing, RxObj.acknowledged]
  case recover =>
    obtain ⟨-, -, hst, -⟩ := answer_canFields (recoverOp (writing s e (0x1110 + x) 6 (bytes1 [1])) x) e 2 (statusBytes 0) x
    rw [hst, recoverOp, getCan_canSetState]
  case sleep =>
    obtain ⟨-, -, -, -, hfrom, hupTo⟩ := answer_canFields
      (sleepOp (writing s e (0x1100 + x) 33 (bytes1 [1])) x 1 (ownResponse (writing s e (0x1100 + x) 33 (bytes1 [1])) e x)) e 2
      (statusBytes 0) x
    refine ⟨hfrom.trans ?_, hupTo.trans ?_⟩
    · rw [getCan_sleepOp_asks, writing_clk]
    · rw [getCan_sleepOp_asks, getCan_writing, ownResponse_writing]
  case wake =>
    obtain ⟨-, -, hst', hcause, -⟩ := answer_canFields
      (sleepOp (writing s e (0x1100 + x) 33 (bytes1 [0])) x 0 (ownResponse (writing s e (0x1100 + x) 33 (bytes1 [0])) e x)) e 2
      (statusBytes 0) x
    have hwakes := sleepOp_wakes (writing s e (0x1100 + x) 33 (bytes1 [0])) x
      (ownResponse (writing s e (0x1100 + x) 33 (bytes1 [0])) e x) ((congrArg CanRt.st (getCan_writing ..)).trans hst)
    exact ⟨hst'.trans hwakes.1, hcause.trans hwakes.2⟩
  case trigger =>
    have hslots := getSlot_writing s e 0xD000 1 data
    have hclk := writing_clk s e 0xD000 1 data
    have hslot := snapTrigger_slot h
    generalize writing s e 0xD000 1 data = w at *
    have hcopy : snapCopying w = false := by
      rw [snapCopying, List.any_eq_false]
      intro k hk
      rw [hslots]
      simp [hidle k (List.mem_range.mp hk)]
    obtain ⟨hlatched, hsource, hat, -⟩ :=
      snapCapture_latches w (leNat data) 0 (warpNow w) (sessNode e.sess) false false false rfl
    rw [getSlot_answer, snapFire_empty hslot ((congrArg SnapSlot.st (hslots _)).trans hempty) hcopy]
    exact ⟨hlatched, hat.trans hclk, hsource⟩
  case arm =>
    have hslots := getSlot_writing s e (0xD010 + k) 3 data k
    have hwarp := warpNow_writing s e (0xD010 + k) 3 data
    generalize writing s e (0xD010 + k) 3 data = w at *
    obtain ⟨hself, -⟩ := snapArm_later (s := w) (slot := k) (w := leNat data) (by rwa [hslots]) (by rwa [hwarp])
    have hframe : (snapArmFrame (snapArm w k (leNat data)) k (leNat data)).snap = (snapArm w k (leNat data)).snap :=
      snapArmFrame_within (bs := [.can]) _ _ _ (.refl _ _) (by decide) .snap (by decide)
    rw [getSlot_answer, getSlot_of_slots (congrArg Snap.slots hframe), hself]
    exact ⟨rfl, rfl, rfl⟩
  case release =>
    have hslots := getSlot_writing s e (0xD010 + k) 4 (bytes1 [1]) k
    rw [getSlot_answer, snapRelease, getSlot_modSlot_self, hslots, if_pos hfull]
    exact ⟨rfl, rfl⟩

end Sys2Proof.Machine
end

section
/-! PROOFS. Selvedge lanes, the link and the role lines (14_selvedge_pair, R317, R318). -/

namespace Sys2Proof.Machine

/-! ### Lanes -/

section
variable (s : State) (lane : Nat) (f : SelLane → SelLane)

theorem getSel_modSel_self : getSel (modSel s lane f) lane = f (getSel s lane) := by
  unfold getSel modSel
  split <;> rfl

/-- The two lanes are independent. -/
theorem getSel_modSel_partner (h : lane < 2) : getSel (modSel s lane f) (1 - lane) = getSel s (1 - lane) := by
  obtain rfl | rfl : lane = 0 ∨ lane = 1 := by omega
  · rfl
  · rfl

/-- The pair's record but for its lanes. -/
def Pair.withoutLanes (p : Pair) : Pair := { p with lane0 := {}, lane1 := {} }

theorem withoutLanes_modSel : (modSel s lane f).pair.withoutLanes = s.pair.withoutLanes := by
  unfold modSel
  split <;> rfl

theorem modSel_role : (modSel s lane f).pair.role = s.pair.role := by
  simpa only [Pair.withoutLanes] using congrArg Pair.role (withoutLanes_modSel s lane f)

theorem modSel_linkUp : (modSel s lane f).pair.linkUp = s.pair.linkUp := by
  simpa only [Pair.withoutLanes] using congrArg Pair.linkUp (withoutLanes_modSel s lane f)

theorem modSel_peer : (modSel s lane f).pair.peer = s.pair.peer := by
  simpa only [Pair.withoutLanes] using congrArg Pair.peer (withoutLanes_modSel s lane f)

theorem modSel_errors : (modSel s lane f).pair.errors = s.pair.errors := by
  simpa only [Pair.withoutLanes] using congrArg Pair.errors (withoutLanes_modSel s lane f)

theorem getSel_laneFollow : getSel (laneFollow s) lane = getSel s lane := rfl

/-- LANE_DEGRADED: one lane is up and the other down. -/
theorem degraded_laneFollow (h : lane < 2) :
    Flag.get (laneFollow s).pair.flags pfLaneDegraded = ((getSel s lane).up != (getSel s (1 - lane)).up) := by
  refine (Flag.get_set_self _ _ (by decide)).trans ?_
  obtain rfl | rfl : lane = 0 ∨ lane = 1 := by omega
  · rfl
  · exact bne_comm

end

/-! ### Frames and timers of the link (R317) -/

/-- A valid ALIVE frame keeps its lane, and the fourth in a row brings it up. -/
def laneHeard (s : State) (lane : Nat) : State :=
  modSel (linkFrame s lane true) lane fun l => { l with run := min 4 (l.run + 1), up := l.up || decide (3 ≤ l.run) }

/-- The link follows its lanes, and the partner's report is kept. -/
def linkHeard (s : State) (lane : Nat) (info : AliveInfo) : State :=
  laneFollow (modPair (laneHeard s lane) fun p => { p with linkUp := p.linkUp || p.lane0.up || p.lane1.up, peer := some info })

section
variable {s : State} {lane : Nat}

theorem getSel_laneHeard : getSel (laneHeard s lane) lane = { getSel s lane with
    lastValid := s.clk, run := min 4 ((getSel s lane).run + 1), up := (getSel s lane).up || decide (3 ≤ (getSel s lane).run) } := by
  rw [laneHeard, getSel_modSel_self, linkFrame, if_pos rfl, getSel_modSel_self]

theorem getSel_laneHeard_partner (h : lane < 2) : getSel (laneHeard s lane) (1 - lane) = getSel s (1 - lane) := by
  rw [laneHeard, getSel_modSel_partner _ _ _ h, linkFrame, if_pos rfl, getSel_modSel_partner _ _ _ h]

theorem exec_alive_valid (hon : pairOn s = true) (h : lane < 2) (info : AliveInfo) : exec (.alive lane true info) s =
    .next (if (linkHeard s lane info).pair.linkUp then
      roleLineCheck (roleDecide (countFollow (stateFollow (mixedFollow (linkHeard s lane info) info) info) info))
    else linkHeard s lane info) :=
  congrArg Host.Outcome.next (if_neg (by simp [hon]; omega))

/-- With both lanes down, one of the first three frames in a row leaves the link down. -/
theorem linkHeard_early (h : lane < 2) (hlink : s.pair.linkUp = false) (h0 : s.pair.lane0.up = false) (h1 : s.pair.lane1.up = false)
    (hrun : (getSel s lane).run < 3) (info : AliveInfo) : (linkHeard s lane info).pair.linkUp = false ∧
      (linkHeard s lane info).pair.peer = some info ∧ (linkHeard s lane info).pair.role = s.pair.role ∧
      (getSel (linkHeard s lane info) lane).lastValid = s.clk ∧ (getSel (linkHeard s lane info) lane).run = (getSel s lane).run + 1 := by
  have hdown (k : Nat) : (getSel s k).up = false := by
    unfold getSel
    split <;> assumption
  have hself : (getSel (laneHeard s lane) lane).up = false := by
    rw [getSel_laneHeard, hdown]
    simp
    omega
  have hpartner : (getSel (laneHeard s lane) (1 - lane)).up = false := by rw [getSel_laneHeard_partner h, hdown]
  have hlanes : (laneHeard s lane).pair.lane0.up = false ∧ (laneHeard s lane).pair.lane1.up = false := by
    obtain rfl | rfl : lane = 0 ∨ lane = 1 := by omega
    · exact ⟨hself, hpartner⟩
    · exact ⟨hpartner, hself⟩
  have hlink' : (laneHeard s lane).pair.linkUp = false := by
    rw [laneHeard, modSel_linkUp, linkFrame, if_pos rfl, modSel_linkUp, hlink]
  have hrole : (laneHeard s lane).pair.role = s.pair.role := by
    rw [laneHeard, modSel_role, linkFrame, if_pos rfl, modSel_role]
  refine ⟨?_, rfl, hrole, ?_, ?_⟩
  · change ((laneHeard s lane).pair.linkUp || (laneHeard s lane).pair.lane0.up || (laneHeard s lane).pair.lane1.up) = false
    rw [hlink', hlanes.1, hlanes.2]
    rfl
  · exact congrArg SelLane.lastValid getSel_laneHeard
  · refine (congrArg SelLane.run getSel_laneHeard).trans ?_
    dsimp only
    omega

theorem exec_alive_bad (hon : pairOn s = true) (h : lane < 2) (info : AliveInfo) : exec (.alive lane false info) s =
    .next (modSel (modPair s fun p => { p with errors := p.errors + 1 }) lane fun l => { l with run := 0 }) :=
  congrArg Host.Outcome.next (if_neg (by simp [hon]; omega))

theorem exec_aliveTimer_due (hon : pairOn s = true) (hdue : s.pair.nextAlive ≤ s.clk) : exec .aliveTimer s =
    .next (modSel (modSel (modPair s fun p => { p with
      nextAlive := after s.clk (usecs 50)
      sent := { p.sent with alive := p.sent.alive + 1, info := some (aliveInfo s) } }) 0 laneSent) 1 laneSent) :=
  congrArg Host.Outcome.next (if_pos (by rw [hon, due, decide_eq_true hdue]; rfl))

/-- A lane goes down. -/
def SelLane.lost (l : SelLane) : SelLane := { l with up := false, run := 0 }

theorem exec_selvedgeLaneDown_due (h : lane < 2) (hup : (getSel s lane).up = true) (hdue : after (getSel s lane).lastValid (usecs 200) ≤ s.clk) :
    exec (.selvedgeLaneDown lane) s = .next (laneFollow (modSel s lane SelLane.lost)) :=
  congrArg Host.Outcome.next (if_pos ⟨h, hup, decide_eq_true hdue⟩)

theorem exec_selvedgeLinkDown_due (hup : s.pair.linkUp = true) (h0 : after s.pair.lane0.lastValid (msecs 1) ≤ s.clk)
    (h1 : after s.pair.lane1.lastValid (msecs 1) ≤ s.clk) : exec .selvedgeLinkDown s =
      .next (modPair (laneFollow (modSel (modSel s 0 SelLane.lost) 1 SelLane.lost)) fun p =>
        { p with linkUp := false, joinStep := 0, st := 5 }) :=
  congrArg Host.Outcome.next (if_pos ⟨hup, decide_eq_true h0, decide_eq_true h1⟩)

/-! ### Role lines (R318) -/

theorem exec_selRoleToggle_due (htoggling : s.pair.toggling = true) (hdue : s.pair.nextToggle ≤ s.clk) : exec .selRoleToggle s =
    .next (modPair s fun p => { p with selRole := !p.selRole, nextToggle := after p.nextToggle (usecs 5) }) :=
  congrArg Host.Outcome.next (if_pos (by rw [htoggling, due, decide_eq_true hdue]; rfl))

/-- An edge of SEL_PEER, with the length of its run. -/
def edgeSeen (s : State) (run : Nat) : State := modPair s fun p => { p with edgeRun := run, lastEdge := s.clk }

/-- SEL_PEER reads PEER_ACTIVE. -/
def peerLive (s : State) : State :=
  modPair (edgeSeen s 4) fun p => { p with peerActive := true, peerActiveSince := s.clk, peerGone := false }

/-- The fourth edge makes SEL_PEER read PEER_ACTIVE. -/
theorem exec_selPeerEdge_fourth (hidle : s.pair.peerActive = false) (hgap : s.clk ≤ after s.pair.lastEdge (usecs 20))
    (hrun : s.pair.edgeRun = 3) (hdeciding : s.pair.deciding = none) : exec .selPeerEdge s =
      .next (peerLive s) := by
  have hlength : (if s.pair.edgeRun = 0 ∨ after s.pair.lastEdge (usecs 20) < s.clk then 1 else min 4 (s.pair.edgeRun + 1)) = 4 := by
    rw [if_neg (by omega), hrun]
    rfl
  have hdecide (t : State) (h : t.pair.deciding = none) : roleDecide t = t := by rw [roleDecide, h, if_pos (.inl rfl)]
  rw [exec_selPeerEdge]
  unfold execSelPeerEdge
  dsimp only
  rw [hlength, if_pos ⟨rfl, by simp [modPair, hidle]⟩]
  exact congrArg Host.Outcome.next (hdecide (peerLive s) hdeciding)

theorem exec_selPeerEdge_late (hlate : after s.pair.lastEdge (usecs 20) < s.clk) : exec .selPeerEdge s = .next (edgeSeen s 1) := by
  rw [exec_selPeerEdge]
  unfold execSelPeerEdge
  dsimp only
  rw [if_pos (Or.inr hlate), if_neg fun h => absurd h.1 (by decide), edgeSeen]

/-- SEL_PEER reads PEER_IDLE. -/
def lineIdle (s : State) : State := modPair s fun p => { p with peerActive := false, edgeRun := 0 }

theorem exec_selPeerIdle_due (hactive : s.pair.peerActive = true) (hdue : after s.pair.lastEdge (usecs 100) ≤ s.clk) :
    exec .selPeerIdle s = .next (roleLineCheck (lineIdle s)) :=
  congrArg Host.Outcome.next (if_pos ⟨hactive, decide_eq_true hdue⟩)

/-- ROLE_LINE_FAULT is the one thing that an idle line may set, and on a READY standby only (R326). -/
theorem roleLineCheck_leaves (s : State) : (∃ flags, roleLineCheck s = { s with pair := { s.pair with flags := flags } }) ∧
    (s.pair.role ≠ 2 → roleLineCheck s = s) := by
  unfold roleLineCheck
  split
  · split
    · next h => exact ⟨⟨_, rfl⟩, fun hrole => absurd h.1 hrole⟩
    · exact ⟨⟨_, rfl⟩, fun _ => rfl⟩
  · exact ⟨⟨_, rfl⟩, fun _ => rfl⟩

end

/-- Settles O37: what each frame, timer and edge of the link makes of the lanes and lines. -/
theorem lanesAndRoleLines : Obligations.LanesAndRoleLines := by
  unfold Obligations.LanesAndRoleLines
  refine ⟨fun s hon hdue => ⟨_, exec_aliveTimer_due hon hdue, rfl, rfl, rfl, rfl, rfl, rfl⟩,
    fun s lane hlane hup hdue => ⟨_, exec_selvedgeLaneDown_due hlane hup hdue, ?laneDown⟩,
    fun s hup h0 h1 => ⟨_, exec_selvedgeLinkDown_due hup h0 h1, rfl, rfl, rfl, rfl, rfl⟩,
    fun s lane info hon hlane => ⟨⟨_, exec_alive_bad hon hlane info, ?bad⟩, fun hlink h0 h1 hrun => ?early⟩,
    fun s htoggling hdue => ⟨_, exec_selRoleToggle_due htoggling hdue, rfl, rfl, rfl⟩,
    fun s hidle => ⟨fun hgap hrun hdeciding => ⟨_, exec_selPeerEdge_fourth hidle hgap hrun hdeciding, rfl, rfl, rfl⟩,
      fun hlate _ => ⟨_, exec_selPeerEdge_late hlate, hidle, rfl, rfl⟩⟩,
    fun s hactive hdue => ⟨_, exec_selPeerIdle_due hactive hdue, ?idle⟩⟩
  case laneDown =>
    rw [getSel_laneFollow, getSel_laneFollow, degraded_laneFollow _ _ hlane, getSel_modSel_self,
      getSel_modSel_partner _ _ _ hlane]
    exact ⟨rfl, rfl, modSel_linkUp .., Bool.false_bne _⟩
  case bad =>
    rw [modSel_errors, getSel_modSel_self, modSel_peer, modSel_role]
    exact ⟨rfl, rfl, rfl, rfl⟩
  case early =>
    obtain ⟨hlink', hpeer, hrole, hvalid, hrun'⟩ := linkHeard_early hlane hlink h0 h1 hrun info
    have hexec := exec_alive_valid hon hlane info
    rw [if_neg (by simp [hlink'])] at hexec
    exact ⟨_, hexec, hpeer, hvalid, hrun', hlink', hrole⟩
  case idle =>
    obtain ⟨⟨flags, hflags⟩, hkept⟩ := roleLineCheck_leaves (lineIdle s)
    refine ⟨?_, ?_, ?_, fun hrole => ?_⟩
    · rw [hflags]
      rfl
    · rw [hflags]
      rfl
    · rw [hflags]
      rfl
    · rw [hkept hrole]
      rfl

end Sys2Proof.Machine
end

section
/-! PROOFS. Roles, takeovers, mirrors and joins (14_selvedge_pair, R319–R334). -/

namespace Sys2Proof.Machine

/-! ### What sending to the partner leaves of the pair -/

/-- The pair's record without what sending a frame changes. -/
def Pair.unsent (p : Pair) : Pair := { p with sent := {}, lane0 := {}, lane1 := {}, flags := 0, transLoss := 0 }

theorem unsent_frameOut (p : Pair) : (frameOut p).unsent = p.unsent := by
  simp only [frameOut, apply_ite Pair.unsent]
  exact ite_self _

theorem sent_frameOut (p : Pair) : (frameOut p).sent = { p.sent with spread := p.sent.spread + 1 } := by
  simp only [frameOut, apply_ite Pair.sent]
  exact ite_self _

theorem noteLoss_leaves (s : State) (n : Nat) :
    (noteLoss s n).pair.unsent = s.pair.unsent ∧ (noteLoss s n).pair.sent = s.pair.sent ∧ warpNow (noteLoss s n) = warpNow s := by
  unfold noteLoss
  split <;> exact ⟨rfl, rfl, rfl⟩

section
variable (s : State) (i : MirrorItem)

theorem unsent_sendMirror : (sendMirror s i).pair.unsent = s.pair.unsent := by
  unfold sendMirror
  split
  · exact (unsent_frameOut _).trans (noteLoss_leaves s _).1
  · rfl

theorem sendMirror_leaves : Within [.pair] s (sendMirror s i) := sendMirror_within s i (.refl _ s) (by decide)

end

/-! ### What the display leaves of the pair as it starts (R237) -/

section
variable (s : State)

theorem unsent_dispSync : (dispSync s).pair.unsent = s.pair.unsent :=
  congrArg Pair.unsent (dispSync_within (bs := [.disp, .dict]) s (.refl _ s) (by decide) (by decide) .pair (by decide))

theorem unsent_frameBegin (start frame : Nat) (negativeFirst : Bool) :
    (frameBegin s start frame negativeFirst).pair.unsent = s.pair.unsent := by
  unfold frameBegin
  simp only [apply_ite State.pair, apply_ite Pair.unsent, unsent_sendMirror, modDisp_pair, unsent_dispSync, ite_self]

theorem unsent_roundBegin (waves : List SegWave) (routed replay : Bool) :
    (roundBegin s waves routed replay).pair.unsent = s.pair.unsent := by
  unfold roundBegin
  simp only [apply_ite State.pair, unsent_sendMirror, modDisp_pair, ite_self]

theorem unsent_replayBegin : (replayBegin s).pair.unsent = s.pair.unsent := by
  unfold replayBegin
  split
  · exact unsent_sendMirror ..
  · exact unsent_roundBegin ..

theorem unsent_panelBegin (t : State) : (panelBegin s t).pair.unsent = t.pair.unsent := by
  simp only [panelBegin, apply_ite State.pair, apply_ite Pair.unsent, unsent_frameBegin, unsent_replayBegin, pendingShown,
    imageCompared, modDisp_pair, dispStore, mramWritten, ite_self]

theorem unsent_dispBegin : (dispBegin s).pair.unsent = s.pair.unsent := by
  rw [dispBegin_eq, unsent_panelBegin]
  exact unsent_dispSync s

end

/-! ### Becoming a standby, becoming active (R319, R323, R327) -/

section
variable (s : State)

/-- The role is given up: the module joins, or waits for the link or a near partner. -/
def standbyRole (s : State) : State := modPair s fun p => { p with
  role := 3, toggling := false, selRole := false, relinquished := false, deciding := none, switchAsked := false
  handing := none, peerGone := false, joinStep := 0
  st := if !p.linkUp then 5 else if peerNear s then 2 else 4 }

theorem becomeStandby_pair : (becomeStandby s).pair = (standbyRole s).pair := by
  have hdrop := dropPairedArms_within (bs := [.loom]) (standbyRole s) (.refl _ _) (by decide) .pair (by decide)
  have happly := applyAll_within (bs := [.free, .meas, .valve, .io, .fans, .dict, .mem]) (dropPairedArms (standbyRole s))
    (.refl _ _) (by decide) (by decide) (by decide) (by decide) (by decide) (by decide) (by decide) .pair (by decide)
  have hdisp := dispTristate_within (bs := [.disp, .mem, .mram]) (applyAll (dropPairedArms (standbyRole s))) (.refl _ _)
    (by decide) (by decide) (by decide) .pair (by decide)
  exact (hdisp.trans happly).trans hdrop

theorem becomeStandby_hiZ : (becomeStandby s).disp.hiZ = true := rfl

theorem logRole_pair (old new_ : Nat) (dual : Bool) : (logRole s old new_ dual).pair = s.pair :=
  logRole_within (bs := [.snap]) s old new_ dual (.refl _ s) (by decide) .pair (by decide)

/-- The module with the higher NODE_ID gives the role up (R320). -/
theorem dualFound_leaves (node : Nat) (hrole : s.pair.role = 1) : Flag.get (dualFound s node).pair.flags pfDualActive = true ∧
    (Cfg.netNodeId s ≤ node → (dualFound s node).pair.role = 1) ∧
    (node < Cfg.netNodeId s → (dualFound s node).pair.role = 3 ∧ (dualFound s node).pair.toggling = false ∧
      (dualFound s node).pair.selRole = false) := by
  have hid : Cfg.netNodeId (pairFlag s pfDualActive true) = Cfg.netNodeId s := rfl
  have hflag : Flag.get (Flag.set s.pair.flags pfDualActive true) pfDualActive = true := Flag.get_set_self _ _ (by decide)
  unfold dualFound
  dsimp only
  rw [hid]
  split
  · next hlow =>
    rw [logRole_pair, becomeStandby_pair]
    exact ⟨hflag, fun hle => absurd hlow (Nat.not_lt.mpr hle), fun _ => ⟨rfl, rfl, rfl⟩⟩
  · next hhigh =>
    rw [logRole_pair]
    exact ⟨hflag, fun _ => hrole, fun hlt => absurd hlt hhigh⟩

theorem takeRole_pair (cause : Nat) : (takeRole s cause).pair.role = 1 ∧ (takeRole s cause).pair.toggling = true ∧
    (takeRole s cause).pair.lastTime = clkToUs (s.clk - s.pair.lastEdge) ∧ (takeRole s cause).pair.lastCause = cause := by
  unfold takeRole
  dsimp only
  rw [logRole_pair]
  split <;> exact ⟨rfl, rfl, rfl, rfl⟩

/-- The loops and the channels of the pair are taken over from the mirror. -/
def loopsTaken (s : State) : State :=
  forAll (s.pair.mirror.loops.filter fun p => !isLocalLoop s p.1 && Cfg.loopEnable s p.1) (fun s p => takeLoop s p.1 p.2) s

def channelsTaken (s : State) : State :=
  forAll (outEntries.filter fun h => !isLocal s h)
    (fun s h => takeChannel s h (Table.getD (blank {}) s.pair.mirror.channels h)) s

/-- The armed sets begin with the cycle that runs. -/
def cycleSealed (s : State) : State := { s with loom := { s.loom with sealedCycle := s.warp.cycle } }

theorem cycleSealed_leaves : (cycleSealed s).pair = s.pair ∧ (cycleSealed s).mram = s.mram := ⟨rfl, rfl⟩

/-- The outputs are taken over before the display starts. -/
def outputsTaken (s : State) : State := cycleSealed (channelsTaken (forAll (upTo 32) takeCircuit (loopsTaken s)))

theorem takeOutputs_eq : takeOutputs s = dispBegin (outputsTaken s) := by
  unfold takeOutputs outputsTaken channelsTaken loopsTaken cycleSealed
  rfl

theorem channelsTaken_within : Within [.free, .loom, .engine, .meas, .valve, .io, .fans, .dict, .mem] s
    (channelsTaken (forAll (upTo 32) takeCircuit (loopsTaken s))) :=
  forAll_within _ _ _ (fun _ _ h => takeChannel_within _ _ _ h (by decide) (by decide) (by decide) (by decide) (by decide)
    (by decide) (by decide)) (forAll_within _ _ _ (fun _ _ h => takeCircuit_within _ _ h (by decide))
      (forAll_within _ _ _ (fun _ _ h => takeLoop_within _ _ _ h (by decide) (by decide)) (.refl _ s)))

/-- A takeover changes what the pair sends, and counts nothing itself. -/
theorem takeOutputs_leaves : (takeOutputs s).pair.unsent = s.pair.unsent ∧ roleView (takeOutputs s) = roleView s := by
  have hpair : (outputsTaken s).pair = s.pair := (cycleSealed_leaves _).1.trans (channelsTaken_within s .pair (by decide))
  have hmram : (outputsTaken s).mram = s.mram := (cycleSealed_leaves _).2.trans (channelsTaken_within s .mram (by decide))
  rw [takeOutputs_eq, unsent_dispBegin, roleView_dispBegin, hpair]
  exact ⟨rfl, roleView_of hpair hmram⟩

end

/-- A takeover ends in a planned switchover with a TAKEN frame (R330). -/
def takenOver (s : State) (planned : Bool) : State :=
  if planned then modPair s fun p => frameOut { p with sent := { p.sent with taken := p.sent.taken + 1 } } else s

theorem takenOver_leaves (s : State) (planned : Bool) :
    (takenOver s planned).pair.unsent = s.pair.unsent ∧ (takenOver s planned).mram = s.mram := by
  unfold takenOver
  split
  · exact ⟨unsent_frameOut _, rfl⟩
  · exact ⟨rfl, rfl⟩

/-- The cause that a takeover records (R327). -/
def takeCause (s : State) : Nat := if plannedBy s then 3 else if s.pair.peerGone then 1 else 2

theorem exec_takeover_due {s : State} (hon : pairOn s = true) (hrole : s.pair.role = 2) (hen : Cfg.pairTakeoverEn s = true)
    (hidle : s.pair.peerActive = false) (hgone : s.pair.peerGone = true ∨ s.pair.linkUp = false) :
    exec .takeover s = .next (takenOver (takeOutputs (takeRole s (takeCause s))) (plannedBy s)) :=
  congrArg Host.Outcome.next (if_pos ⟨hon, hrole, hen, by simp [hidle], by simpa using hgone⟩)

/-! ### Frames from the partner (R321, R324, R326, R334) -/

section
variable (s : State) (lane : Nat)

/-- A valid frame on a lane. -/
def framed (s : State) (lane : Nat) : State := modSel s lane fun l => { l with lastValid := s.clk }

theorem linkFrame_valid : linkFrame s lane true = framed s lane := rfl

theorem framed_leaves : Within [.pair] s (framed s lane) ∧ (framed s lane).pair.withoutLanes = s.pair.withoutLanes :=
  ⟨modSel_within s lane _ (.refl _ s) (by decide), withoutLanes_modSel ..⟩

theorem framed_role : (framed s lane).pair.role = s.pair.role := modSel_role ..
theorem framed_linkUp : (framed s lane).pair.linkUp = s.pair.linkUp := modSel_linkUp ..

theorem framed_st : (framed s lane).pair.st = s.pair.st := by
  simpa only [Pair.withoutLanes] using congrArg Pair.st (framed_leaves s lane).2

theorem framed_joinStep : (framed s lane).pair.joinStep = s.pair.joinStep := by
  simpa only [Pair.withoutLanes] using congrArg Pair.joinStep (framed_leaves s lane).2

theorem framed_handing : (framed s lane).pair.handing = s.pair.handing := by
  simpa only [Pair.withoutLanes] using congrArg Pair.handing (framed_leaves s lane).2

theorem framed_mirror : (framed s lane).pair.mirror = s.pair.mirror := by
  simpa only [Pair.withoutLanes] using congrArg Pair.mirror (framed_leaves s lane).2

theorem framed_sent : (framed s lane).pair.sent = s.pair.sent := by
  simpa only [Pair.withoutLanes] using congrArg Pair.sent (framed_leaves s lane).2

theorem isStandby_framed : isStandby (framed s lane) = isStandby s := by rw [isStandby, framed_role, isStandby]

end

section
variable {s : State} {lane : Nat} (hon : pairOn s = true) (hlane : lane < 2)
include hon hlane

omit hon hlane in
theorem not_refused (hon : pairOn s = true) (hlane : lane < 2) : ¬ (¬ pairOn s = true ∨ 2 ≤ lane) := by
  rw [not_or, not_not]
  exact ⟨hon, Nat.not_le.mpr hlane⟩

theorem exec_relinquish_heard (hstandby : isStandby s = true) : exec (.relinquish lane true) s = .next
    (modPair (framed s lane) fun p => { p with peerGone := true, peer := p.peer.map fun q => { q with role := 3 } }) := by
  refine congrArg Host.Outcome.next ((if_neg (not_refused hon hlane)).trans (if_pos ?_))
  rw [linkFrame_valid, isStandby_framed, hstandby]
  rfl

theorem exec_taken_heard (hhanding : s.pair.handing ≠ none) : exec (.taken lane true) s = .next (becomeStandby (framed s lane)) := by
  refine congrArg Host.Outcome.next ((if_neg (not_refused hon hlane)).trans (if_pos ⟨rfl, ?_⟩))
  rw [linkFrame_valid, framed_handing]
  exact Option.isSome_iff_ne_none.mpr hhanding

variable (hstandby : isStandby s = true) (hlink : s.pair.linkUp = true)
include hstandby hlink

theorem exec_mirror_heard (hst : s.pair.st ≠ 4) (items : List MirrorItem) : exec (.mirror lane true items) s = .next
    (forAll items (mirrorTake false) (modPair (framed s lane) fun p => { p with mirrorAt := some (framed s lane).clk })) := by
  refine congrArg Host.Outcome.next ((if_neg (not_refused hon hlane)).trans (if_pos ?_))
  rw [linkFrame_valid, isStandby_framed, framed_linkUp, framed_st, hstandby, hlink]
  simpa using hst

omit hon hlane hstandby hlink in
/-- The mirrored state of a loop is kept. -/
theorem mirrored_loop (s : State) (n mode act : Nat) (u ramp man term : Int) :
    (forAll [.loop n u ramp mode man act term] (mirrorTake false) s).pair.mirror =
      { s.pair.mirror with loops := Table.set (blank {}) s.pair.mirror.loops n ⟨u, ramp, mode, man, act, term⟩ } := rfl

theorem exec_join_heard (hst : s.pair.st = 2) (part : JoinPart) (hstep : partIndex part = s.pair.joinStep) :
    exec (.join lane true part) s =
      .next (partTake (modPair (framed s lane) fun p => { p with joinStep := p.joinStep + 1 }) part) := by
  refine congrArg Host.Outcome.next ((if_neg (not_refused hon hlane)).trans (if_pos ?_))
  rw [linkFrame_valid, isStandby_framed, framed_linkUp, framed_st, framed_joinStep]
  exact ⟨rfl, hstandby, hlink, hst, hstep⟩

theorem exec_config_heard (hst : s.pair.st = 3) (gen : Nat) (l : List (Nat × Val)) : exec (.config lane true gen l) s = .next
    (modPair (partnerJob (framed s lane) gen (overlay (baseContent (framed s lane)) (foreign l))) fun p =>
      frameOut { p with sent := { p.sent with acks := p.sent.acks + 1 } }) := by
  refine congrArg Host.Outcome.next ((if_neg (not_refused hon hlane)).trans (if_pos ?_))
  rw [linkFrame_valid, isStandby_framed, framed_linkUp, framed_st, hstandby, hlink, hst]
  rfl

end

theorem baseContent_of_dict {s t : State} (h : t.dict = s.dict) : baseContent t = baseContent s := by
  unfold baseContent
  rw [h]

/-! ### What the active module sends (R321) -/

/-- The item stands in the last MIRROR frame of its kind, with its Warp time. -/
def Sent (t : State) (i : MirrorItem) (w : Nat) : Prop := ∃ x ∈ t.pair.sent.mirrors, x.item = i ∧ x.stamp = w

section
variable {s : State} {i j : MirrorItem} {w : Nat}

theorem mirrors_sendMirror_sent (h : mirrors s = true) : ∃ lost, (sendMirror s i).pair.sent.mirrors =
    (s.pair.sent.mirrors.filter fun j => mirrorKey j.item ≠ mirrorKey i) ++ [⟨warpNow s, lost, i⟩] := by
  rw [sendMirror, if_pos h]
  dsimp only
  obtain ⟨-, hsent, hwarp⟩ := noteLoss_leaves s (unknownTo s (mirrorMembers i)).length
  rw [sent_frameOut, hsent, hwarp]
  exact ⟨_, rfl⟩

theorem sent_sendMirror (h : mirrors s = true) : Sent (sendMirror s i) i (warpNow s) := by
  obtain ⟨lost, hsent⟩ := mirrors_sendMirror_sent (i := i) h
  exact ⟨⟨warpNow s, lost, i⟩, by rw [hsent]; simp, rfl, rfl⟩

/-- An item stays until one of its own kind follows. -/
theorem Sent.sendMirror (h : Sent s i w) (hkey : mirrorKey i ≠ mirrorKey j) : Sent (sendMirror s j) i w := by
  by_cases hm : mirrors s = true
  · obtain ⟨lost, hsent⟩ := mirrors_sendMirror_sent (i := j) hm
    obtain ⟨x, hx, rfl, hstamp⟩ := h
    refine ⟨x, ?_, rfl, hstamp⟩
    rw [hsent]
    simp [hx, hkey]
  · rwa [Machine.sendMirror, if_neg hm]

theorem mirrors_sendMirror : mirrors (Machine.sendMirror s i) = mirrors s := by
  have hview := unsent_sendMirror s i
  simp only [Pair.unsent, Pair.mk.injEq] at hview
  simp only [mirrors, isActive, hview]

end

theorem warpNow_of_warp {s t : State} (h : t.warp = s.warp) : warpNow t = warpNow s := by rw [warpNow, h, warpNow]

/-- The calendar's item goes out every 1 s. -/
def calendarSent (s : State) : State :=
  if due s s.pair.nextCal then
    modPair (sendMirror s (.calendar s.cal.now s.cal.st)) fun p => { p with nextCal := after s.clk (secs 1) }
  else s

theorem not_loop_of_isOutEntry {h : Nat} (hout : isOutEntry h = true) : ¬ h < 256 ∧ h < 340 := by
  simp only [isOutEntry, Bool.or_eq_true, Bool.and_eq_true, decide_eq_true_eq] at hout
  omega

theorem exec_mirrorSend_channel {s : State} {h : Nat} (hm : mirrors s = true) (hout : isOutEntry h = true)
    (hlocal : isLocal s h = false) : exec (.mirrorSend [h]) s =
      .next (calendarSent (sendChanges (sendMirror s (mirrorOfChan s h)))) := by
  have hnone : [h].filter (fun h => decide (h < 256)) = [] := by simp [(not_loop_of_isOutEntry hout).1]
  have hone : [h].filter (fun h => isOutEntry h && !isLocal s h) = [h] := by simp [hout, hlocal]
  have hloops : forAll ([h].filter fun h => decide (h < 256)) sendLoop s = s := by rw [hnone]; rfl
  rw [exec_mirrorSend]
  unfold execMirrorSend
  rw [if_pos hm]
  dsimp only
  rw [hloops, hone, show forAll [h] (fun s h => sendMirror s (mirrorOfChan s h)) s = sendMirror s (mirrorOfChan s h) from rfl,
    calendarSent]

/-- The item of a channel, by its key. -/
theorem mirrorKey_channel (s : State) (h : Nat) : mirrorKey (mirrorOfChan s h) = 0x200 + h := by
  unfold mirrorOfChan
  split <;> rfl

/-- The items that follow a change are none of a loop's or a channel's. -/
theorem mirrorKey_changes {s : State} {i : MirrorItem} (h : i ∈ (upTo 32).map (mirrorOfCirc s) ++ (upTo 64).map (mirrorOfZone s) ++
    (upTo 16).map (mirrorOfVlv s) ++ [mirrorOfDisp s]) : 0x400 ≤ mirrorKey i := by
  simp only [List.mem_append, List.mem_map, List.mem_singleton] at h
  obtain ((⟨c, -, rfl⟩ | ⟨z, -, rfl⟩) | ⟨v, -, rfl⟩) | rfl := h
  · exact Nat.le_add_right ..
  · exact (show 0x400 ≤ 0x500 by decide).trans (Nat.le_add_right ..)
  · exact (show 0x400 ≤ 0x600 by decide).trans (Nat.le_add_right ..)
  · exact (show 0x400 ≤ 0x900 by decide)

section
variable {s : State} {i : MirrorItem} {w : Nat}

theorem Sent.sendChanged {j : MirrorItem} (h : Sent s i w) (hkey : mirrorKey i ≠ mirrorKey j) : Sent (sendChanged s j) i w := by
  unfold Machine.sendChanged
  split
  · exact h
  · exact h.sendMirror hkey

theorem Sent.sendChanges (h : Sent s i w) (hkey : mirrorKey i < 0x400) : Sent (sendChanges s) i w :=
  forAll_preserves (P := fun t => Sent t i w)
    (fun _ _ hj ht => ht.sendChanged (Nat.ne_of_lt (Nat.lt_of_lt_of_le hkey (mirrorKey_changes hj)))) h

/-- The changes are sent, and the rest of the module stays as it is. -/
theorem sendChanges_leaves (s : State) : Within [.pair] s (sendChanges s) ∧ (sendChanges s).pair.unsent = s.pair.unsent := by
  have hone (t : State) (j : MirrorItem) : (Machine.sendChanged t j).pair.unsent = t.pair.unsent := by
    unfold Machine.sendChanged
    split
    · rfl
    · exact unsent_sendMirror ..
  exact ⟨sendChanges_within s (.refl _ s) (by decide), forAll_leaves (fun t => t.pair.unsent) hone _ s⟩

theorem Sent.calendarSent (h : Sent s i w) (hkey : mirrorKey i < 0x400) : Sent (calendarSent s) i w := by
  unfold Machine.calendarSent
  split
  · exact h.sendMirror (j := .calendar s.cal.now s.cal.st) (Nat.ne_of_lt (hkey.trans (show 0x400 < 0x901 by decide)))
  · exact h

theorem calendarSent_due (hm : mirrors s = true) (hdue : s.pair.nextCal ≤ s.clk) :
    (calendarSent s).pair.nextCal = after s.clk (secs 1) ∧
      Sent (calendarSent s) (.calendar s.cal.now s.cal.st) (warpNow s) := by
  rw [calendarSent, if_pos (show due s s.pair.nextCal = true from decide_eq_true hdue)]
  exact ⟨rfl, sent_sendMirror (i := .calendar s.cal.now s.cal.st) hm⟩

theorem mirrors_of_unsent {t : State} (h : t.pair.unsent = s.pair.unsent) : mirrors t = mirrors s := by
  simp only [Pair.unsent, Pair.mk.injEq] at h
  simp only [mirrors, isActive, h]

end

theorem exec_takenTimeout_over {s : State} {u : Nat} (hhanding : s.pair.handing = some u) (hover : after u (msecs 5) ≤ s.clk) :
    exec .takenTimeout s = .next (if s.pair.peerActive then becomeStandby s
      else logRole (modPair s fun p => { p with
        handing := none, toggling := true, selRole := true, nextToggle := after s.clk (usecs 5) }) 1 1 false) := by
  rw [exec_takenTimeout]
  unfold execTakenTimeout
  rw [hhanding]
  exact congrArg Host.Outcome.next (if_pos (decide_eq_true hover))

theorem exec_roleDecisionTimeout_over {s : State} {u : Nat} (hdeciding : s.pair.deciding = some u) (hon : pairOn s = true)
    (hover : after u (msecs 100) ≤ s.clk) : exec .roleDecisionTimeout s = .next (becomeActive s true) := by
  rw [exec_roleDecisionTimeout]
  unfold execRoleDecisionTimeout
  rw [hdeciding]
  exact congrArg Host.Outcome.next (if_pos ⟨hon, decide_eq_true hover⟩)

theorem exec_dual {s : State} {node role : Nat} {c : Instr} (halone : activeAlone s = true) (hnode : node = s.pair.peerNode)
    (hrole : role = 1) (hc : c = .peerHeartbeat node role ∨
      (c = .dualActive ∧ s.pair.peerActive = true ∧ after s.pair.peerActiveSince (usecs 20) ≤ s.clk)) :
    exec c s = .next (dualFound s node) := by
  obtain rfl | ⟨rfl, hline, hsince⟩ := hc
  · exact congrArg Host.Outcome.next (if_pos ⟨halone, hnode, hrole⟩)
  · rw [hnode]
    exact congrArg Host.Outcome.next (if_pos ⟨halone, hline, decide_eq_true hsince⟩)

/-- Settles O38: each event of the roles comes to a change of role, and each frame to what the module keeps or sends. -/
theorem rolesAndMirrors : Obligations.RolesAndMirrors := by
  unfold Obligations.RolesAndMirrors
  refine ⟨fun s u hdeciding hon hover => ⟨_, exec_roleDecisionTimeout_over hdeciding hon hover, rfl, rfl, rfl,
      Flag.get_set_self _ _ (by decide)⟩,
    fun s node role c halone hnode hrole hc => ⟨_, exec_dual halone hnode hrole hc, dualFound_leaves s node ?dual⟩,
    fun s lane hon hlane hstandby => ⟨_, exec_relinquish_heard hon hlane hstandby, rfl, framed_role .., fun p hp => ?relinquish⟩,
    fun s hon hrole hen hidle hgone => ⟨_, exec_takeover_due hon hrole hen hidle hgone, ?takeover⟩,
    fun s lane hon hlane hhanding => ⟨_, exec_taken_heard hon hlane hhanding, ?taken⟩,
    fun s u hhanding hover => ⟨_, exec_takenTimeout_over hhanding hover, ?timeout⟩,
    fun s lane n mode act u ramp man term hon hlane hstandby hlink hst =>
      ⟨_, exec_mirror_heard hon hlane hstandby hlink hst _,
        congrArg some ((framed_leaves s lane).1 .clk (by decide)), ?mirror⟩,
    fun s h hm hout hlocal => ⟨_, exec_mirrorSend_channel hm hout hlocal, ?sent, fun hdue => ?calendar⟩,
    fun s lane hon hlane hstandby hlink hst hstep =>
      ⟨_, exec_join_heard hon hlane hstandby hlink hst (.mirror []) hstep.symm, rfl, rfl, rfl⟩,
    fun s lane gen l hon hlane hstandby hlink hst hidle => ?config⟩
  case dual =>
    simp only [activeAlone, isActive, Bool.and_eq_true, beq_iff_eq] at halone
    exact halone.1.1.1
  case relinquish =>
    obtain ⟨q, -, rfl⟩ := Option.map_eq_some_iff.mp hp
    rfl
  case takeover =>
    obtain ⟨hkept, hmram⟩ := takenOver_leaves (takeOutputs (takeRole s (takeCause s))) (plannedBy s)
    obtain ⟨hpair, hview⟩ := takeOutputs_leaves (takeRole s (takeCause s))
    obtain ⟨hrole', htoggling, htime, hcause⟩ := takeRole_pair s (takeCause s)
    have hsame := hkept.trans hpair
    rw [roleView_takeRole, roleView, Prod.mk.injEq] at hview
    obtain ⟨-, hcount⟩ := hview
    simp only [Pair.unsent, Pair.mk.injEq] at hsame
    refine ⟨?_, ?_, ?_, ?_, ?_⟩
    · simp only [hsame, hrole']
    · simp only [hsame, htoggling]
    · exact (congrArg Mram.switchovers hmram).trans hcount
    · simp only [hsame, htime]
    · simp only [hsame, hcause]
      rw [takeCause]
  case taken =>
    rw [becomeStandby_pair, becomeStandby_hiZ]
    exact ⟨rfl, rfl, rfl, rfl⟩
  case timeout =>
    by_cases hline : s.pair.peerActive = true
    · rw [if_pos hline, becomeStandby_pair]
      exact ⟨rfl, fun _ => rfl, fun hidle => absurd hline (by simp [hidle])⟩
    · rw [if_neg hline, logRole_pair]
      exact ⟨rfl, fun h => absurd h hline, fun _ => ⟨rfl, rfl, rfl⟩⟩
  case mirror =>
    rw [mirrored_loop, modPair_pair]
    dsimp only
    rw [framed_mirror]
    exact ⟨Table.getD_set_self .., fun k hk => Table.getD_set_other _ _ _ hk, rfl, (framed_leaves s lane).1 .engine (by decide)⟩
  case sent =>
    have hkey : mirrorKey (mirrorOfChan s h) < 0x400 := by
      have := not_loop_of_isOutEntry hout
      rw [mirrorKey_channel]
      omega
    exact ((sent_sendMirror hm).sendChanges hkey).calendarSent hkey
  case calendar =>
    have hfirst := sendMirror_leaves s (mirrorOfChan s h)
    obtain ⟨hrest, hunsent⟩ := sendChanges_leaves (sendMirror s (mirrorOfChan s h))
    have hpair := hunsent.trans (unsent_sendMirror s (mirrorOfChan s h))
    have hclk := (hrest .clk (by decide)).trans (hfirst .clk (by decide))
    have hcal := (hrest .cal (by decide)).trans (hfirst .cal (by decide))
    have hwarp := (hrest .warp (by decide)).trans (hfirst .warp (by decide))
    have hmirrors := (mirrors_of_unsent hpair).trans hm
    have hnext : (sendChanges (sendMirror s (mirrorOfChan s h))).pair.nextCal = s.pair.nextCal := by
      simpa only [Pair.unsent] using congrArg Pair.nextCal hpair
    generalize sendChanges (sendMirror s (mirrorOfChan s h)) = v at *
    obtain ⟨hcal', hsent⟩ := calendarSent_due hmirrors (by rw [hnext, hclk]; exact hdue)
    rw [hcal, warpNow_of_warp hwarp] at hsent
    exact ⟨hcal'.trans (by rw [hclk]), hsent⟩
  case config =>
    have hdict := (framed_leaves s lane).1 .dict (by decide)
    have hexec := exec_config_heard hon hlane hstandby hlink hst gen l
    rw [partnerJob, startJob_of_idle (hdict ▸ hidle), baseContent_of_dict hdict] at hexec
    refine ⟨_, _, hexec, ?_, rfl, rfl, rfl, rfl⟩
    rw [modPair_pair, sent_frameOut]
    exact congrArg (fun x => SelSent.acks x + 1) (framed_sent s lane)

end Sys2Proof.Machine
end

section
/-! PROOFS. Resets, the power supply, and a sag of VIN during start-up (19_power_and_holdup, R406–R420). -/

namespace Sys2Proof.Machine

/-! ### What a reset and a torn copy leave (R264, R406) -/

theorem tearCopy_leaves (s : State) : (tearCopy s).power = s.power ∧ (tearCopy s).cal = s.cal ∧
    (tearCopy s).mram = { s.mram with copies := (tearCopy s).mram.copies } := by
  have hkept := tearCopy_within (bs := [.mram]) s (.refl _ s) (by decide)
  refine ⟨hkept .power (by decide), hkept .cal (by decide), ?_⟩
  rw [tearCopy]
  split <;> rfl

theorem pairGiveUp_leaves (s : State) : Within [.pair] s (pairGiveUp s) := pairGiveUp_within s (.refl _ s) (by decide)

theorem restart_power (s : State) (cause : Nat) :
    (restart s cause).power = { resetN := s.power.resetN, resetLowAt := s.power.resetLowAt, nextCause := cause } := by
  have hgiven : (pairGiveUp s).power = s.power := pairGiveUp_leaves s .power (by decide)
  rw [restart, resetState, (tearCopy_leaves (pairGiveUp s)).1, hgiven]

theorem leaveReset_leaves (s : State) : (leaveReset s).power =
    { s.power with phase := .boot, resetCause := s.power.nextCause, releaseClk := s.clk } ∧ (leaveReset s).warp = {} ∧
    (leaveReset s).mram = s.mram ∧ (leaveReset s).cal = s.cal := ⟨rfl, rfl, rfl, rfl⟩

theorem exec_resetRelease_reset {s : State} (hhigh : s.power.resetN = true) (hphase : s.power.phase = .reset) :
    exec .resetRelease s = .next (leaveReset s) := by
  rw [exec_resetRelease, execResetRelease, hhigh, hphase]
  rfl

theorem exec_resetRelease_done {s : State} (hhigh : s.power.resetN = true) (hphase : s.power.phase = .done) :
    exec .resetRelease s = .next (leaveReset (resetState s 3)) := by
  rw [exec_resetRelease, execResetRelease, hhigh, hphase]
  rfl

/-- RESET_N is at `level`. -/
def pinSeen (s : State) (level : Bool) : State :=
  modPower s fun p => { p with
    resetN := level, resetLowAt := if level then none else some (p.resetLowAt.getD s.clk) }

theorem exec_resetN_held {s : State} {c : Nat} (hlow : s.power.resetLowAt = some c) (hheld : after c (usecs 10) ≤ s.clk)
    (hsaving : s.power.phase ≠ .saving) (hreset : s.power.phase ≠ .reset) :
    exec (.resetN false) s = .next (restart (pinSeen s false) 2) := by
  rw [exec_resetN, execResetN, hlow]
  exact congrArg Host.Outcome.next (if_pos ⟨decide_eq_true hheld, hsaving, hreset⟩)

theorem exec_resetN_seen {s : State} (hhigh : s.power.resetLowAt = none) (level : Bool) :
    exec (.resetN level) s = .next (pinSeen s level) := by
  rw [exec_resetN, execResetN, hhigh]
  exact congrArg Host.Outcome.next (if_neg fun h => Bool.false_ne_true h.1)

/-- The module without power: what a reset loses, and the states of the dies and of the supervisor as well. -/
def powerLess (s : State) : State := { resetState s (powerOnCause s) with therm := {}, safety := {} }

theorem powerLess_leaves (s : State) : (powerLess s).mram = s.mram ∧ (powerLess s).cal.now = s.cal.now := ⟨rfl, rfl⟩

theorem exec_powerLoss_idle {s : State} (hsaving : s.power.phase ≠ .saving) :
    exec .powerLoss s = .next (powerLess (tearCopy s)) := by
  rw [exec_powerLoss, execPowerLoss, cutSave, if_pos hsaving]
  rfl

/-! ### The hold-up capacitor (R411, R412, R419) -/

theorem exec_holdupMeasurement_selfTest {s : State} (hidle : s.power.measuring = none) (hphase : s.power.phase = .memTest) :
    exec .holdupMeasurement s = .next (modPower s fun p => { p with measuring := some s.clk }) := by
  rw [exec_holdupMeasurement, execHoldupMeasurement]
  exact congrArg Host.Outcome.next (if_pos ⟨by rw [hidle]; rfl, .inl hphase⟩)

/-- The result of a measurement of the hold-up capacitor. -/
def measured (s : State) (c r : Nat) : State :=
  modPower s fun p => { p with
    measuring := none, holdupC := c, holdupEsr := r, holdupEnergy := (roundDiv ((c : Int) * 875) 1000).toNat
    holdupState := holdupClass c r, flags := Flag.set p.flags 0 (holdupClass c r != 0) }

theorem exec_holdupMeasureEnd_over {s : State} {d : Nat} (hrun : s.power.measuring = some d)
    (hover : after d (msecs 2) ≤ s.clk) (onset : HoldupOnset) (drain : HoldupDrain) :
    let c := holdupCapOf drain.charge drain.fall
    let r := holdupEsrOf onset.step onset.current
    exec (.holdupMeasureEnd onset drain) s = .next (
      if holdupClass c r = 2 then raiseAlarm .holdupInsufficient (measured s c r)
      else dropAlarm .holdupInsufficient (measured s c r)) := by
  rw [exec_holdupMeasureEnd, execHoldupMeasureEnd, hrun]
  exact congrArg Host.Outcome.next (if_pos (decide_eq_true hover))

/-- BROWNOUT and the count of saves are cleared. -/
def brownoutOver (s : State) : State :=
  modPower { s with mram := { s.mram with save := { s.mram.save with saveTimes := [] } } } fun p => { p with
    flags := Flag.set p.flags 3 false
    phase := if p.phase = .held ∧ p.holdReason = 2 ∧ ¬ p.stepFailed then .operational else p.phase
    holdReason := if p.holdReason = 2 then 0 else p.holdReason }

theorem exec_brownoutClear_good {s : State} {d : Nat} (hset : Flag.get s.power.flags 3 = true) (hup : isUp s = true)
    (hgood : s.power.vin18Since = some d) (hlong : after d (secs 10) ≤ s.clk) :
    exec .brownoutClear s = .next (brownoutOver s) := by
  rw [exec_brownoutClear, execBrownoutClear, hgood]
  exact congrArg Host.Outcome.next (if_pos ⟨hset, decide_eq_true hlong, hup⟩)

/-- Settles O57. -/
theorem resetsAndThePowerSupply : Obligations.ResetsAndThePowerSupply := by
  unfold Obligations.ResetsAndThePowerSupply
  refine ⟨fun s hhigh hphase => ⟨_, exec_resetRelease_reset hhigh hphase, rfl, rfl, rfl, rfl, rfl, rfl⟩,
    fun s hhigh hphase => ⟨_, exec_resetRelease_done hhigh hphase, rfl, rfl, rfl⟩, fun s hlow => ?low,
    fun s c hlow hheld hsaving hreset => ⟨_, exec_resetN_held hlow hheld hsaving hreset, ?reset⟩,
    fun s b hhigh => ⟨_, exec_resetN_seen hhigh b, modPower_within _ _ (.refl _ s) (by decide), rfl, rfl, ?seen⟩,
    fun s hsaving => ⟨_, exec_powerLoss_idle hsaving, ?loss⟩,
    fun s hidle hphase => ⟨_, exec_holdupMeasurement_selfTest hidle hphase, rfl⟩, fun s d onset drain hrun hover => ?measured,
    fun s d hset hup hgood hlong => ⟨_, exec_brownoutClear_good hset hup hgood hlong, ?brownout⟩⟩
  case low =>
    rw [exec_resetRelease, execResetRelease, hlow]
    rfl
  case reset =>
    rw [restart_power, restart_clk]
    exact ⟨rfl, rfl, rfl, rfl⟩
  case seen => rw [pinSeen, modPower, hhigh, Option.getD_none]
  case loss =>
    obtain ⟨hpower, hcal, hmram⟩ := tearCopy_leaves s
    obtain ⟨hkept, hnow⟩ := powerLess_leaves (tearCopy s)
    refine ⟨rfl, rfl, ?_, ?_, ?_, rfl, rfl⟩
    · rw [hkept, hmram]
    · rw [hkept, hmram]
    · rw [hnow, hcal]
  case measured =>
    have halarm : ∀ t, (raiseAlarm .holdupInsufficient t).power = t.power := fun t =>
      raiseAlarm_within (bs := [.alarms]) _ t (.refl _ t) (by decide) .power (by decide)
    refine ⟨_, exec_holdupMeasureEnd_over hrun hover onset drain, ?_⟩
    generalize holdupCapOf drain.charge drain.fall = c, holdupEsrOf onset.step onset.current = r
    have hpower : (if holdupClass c r = 2 then raiseAlarm .holdupInsufficient (measured s c r)
        else dropAlarm .holdupInsufficient (measured s c r)).power = (measured s c r).power := by
      split
      · exact halarm _
      · rfl
    have hkept : Within [.power, .alarms] s (measured s c r) := modPower_within _ _ (.refl _ s) (by decide)
    refine ⟨?_, ?_, ?_, ?_, ?_, ite_within (raiseAlarm_within _ _ hkept (by decide)) (dropAlarm_within _ _ hkept (by decide))⟩
    all_goals rw [hpower]
    iterate 4 rfl
    rw [show (measured s c r).power.flags = Flag.set s.power.flags 0 (holdupClass c r != 0) from rfl,
      Flag.get_set_self _ _ (by decide), bne_iff_ne]
    rfl
  case brownout =>
    refine ⟨Flag.get_set_self _ _ (by decide), rfl, fun hheld hreason hfailed => ?_⟩
    have hfree : ¬ s.power.stepFailed = true := by rw [hfailed]; exact Bool.false_ne_true
    exact ⟨if_pos ⟨hheld, hreason, hfree⟩, if_pos hreason⟩

end Sys2Proof.Machine
end

section
/-! PROOFS. The Bobbin save and a sag of VIN (19_power_and_holdup, R412–R420). -/

namespace Sys2Proof.Machine

/-! ### What applying the outputs leaves of the copies and the scrubber -/

/-- The work in the background that a save stops: the copy that is written, those that wait, and the scrubber (R414). -/
def background (s : State) : Option CopyJob × List CopyJob × Bool := (s.dict.job, s.dict.jobs, s.mem.scrubbing)

theorem background_of_within {bs : List Block} {s t : State} (h : Within bs s t) (hdict : Block.dict ∉ bs)
    (hmem : Block.mem ∉ bs) : background t = background s := by
  rw [background, show t.dict = s.dict from h .dict hdict, show t.mem = s.mem from h .mem hmem, background]

section
variable (s : State) (v : Nat)

@[simp] theorem background_heddleFetch (eng e : Nat) : background (heddleFetch s eng e).2 = background s := by
  unfold heddleFetch
  dsimp only
  split <;> rfl

@[simp] theorem background_modVlv (f : VlvRt → VlvRt) : background (modVlv s v f) = background s := rfl

@[simp] theorem background_modBank (b : Nat) (f : Bank → Bank) : background (modBank s b f) = background s := rfl

@[simp] theorem background_dropRequest : background (dropRequest s v) = background s := rfl

@[simp] theorem background_bankRefresh (b : Nat) : background (bankRefresh s b) = background s :=
  background_of_within (bankRefresh_within (bs := [.valve]) s b (.refl _ s) (by decide)) (by decide) (by decide)

@[simp] theorem background_vlvDecay : background (vlvDecay s v) = background s :=
  background_of_within (vlvDecay_within (bs := [.valve]) s v (.refl _ s) (by decide)) (by decide) (by decide)

@[simp] theorem background_askBudget (level : Nat) : background (askBudget s v level).2 = background s :=
  background_of_within (askBudget_within (bs := [.valve]) s v level (.refl _ s) (by decide)) (by decide) (by decide)

@[simp] theorem background_vlvForceOff : background (vlvForceOff s v) = background s :=
  background_of_within (vlvForceOff_within (bs := [.valve]) s v (.refl _ s) (by decide)) (by decide) (by decide)

@[simp] theorem background_vlvSafeHold : background (vlvSafeHold s v) = background s :=
  background_of_within (vlvSafeHold_within (bs := [.valve]) s v (.refl _ s) (by decide)) (by decide) (by decide)

@[simp] theorem background_vlvStartRows : background (vlvStartRows s v) = background s :=
  background_of_within (vlvStartRows_within (bs := [.valve]) s v (.refl _ s) (by decide)) (by decide) (by decide)

@[simp] theorem background_vlvOff : background (vlvOff s v) = background s :=
  background_of_within (vlvOff_within (bs := [.valve]) s v (.refl _ s) (by decide)) (by decide) (by decide)

@[simp] theorem background_vlvActFree (cmd : Nat) : background (vlvActFree s v cmd) = background s :=
  background_of_within (vlvActFree_within (bs := [.free, .valve]) s v cmd (.refl _ s) (by decide) (by decide)) (by decide)
    (by decide)

@[simp] theorem background_vlvSafeOn : background (vlvSafeOn s v) = background s :=
  background_of_within (vlvSafeOn_within (bs := [.free, .valve]) s v (.refl _ s) (by decide) (by decide)) (by decide)
    (by decide)

@[simp] theorem background_takeObj (o : Nat) : background (takeObj s o) = background s := by
  unfold takeObj
  split
  · rfl
  · refine forAll_leaves background (fun s m => ?_) _ s
    split
    · exact ite_leaves (g := background) rfl rfl
    · rfl

@[simp] theorem background_vlvTakeSet : background (vlvTakeSet s v) = background s := background_takeObj s (0x7100 + v)

@[simp] theorem background_propApply (ref : Nat) : background (propApply s v ref) = background s := by
  simp only [propApply, background_bankRefresh, apply_ite background, background_vlvDecay, background_modVlv,
    background_modBank, background_vlvTakeSet, ite_self]

@[simp] theorem background_propSet (ref : Nat) : background (propSet s v ref) = background s := by
  simp only [propSet, apply_ite background, background_modVlv, background_modBank, background_propApply,
    background_dropRequest, background_askBudget, ite_self]

@[simp] theorem background_propCommand (q : Int) : background (propCommand s v q) = background s := by
  simp only [propCommand, apply_ite background, background_propSet, background_heddleFetch, ite_self]

@[simp] theorem background_vlvSyncMode : background (vlvSyncMode s v) = background s := by
  simp only [vlvSyncMode, apply_ite background, background_vlvActFree, background_propCommand, background_modVlv, ite_self]

@[simp] theorem background_vlvForceRest : background (vlvForceRest s v) = background s := by
  rw [vlvForceRest, background_vlvSyncMode, background_vlvTakeSet, background_vlvForceOff]

@[simp] theorem background_propDrive (q : Int) : background (propDrive s v q) = background s :=
  (background_vlvSyncMode ..).trans (background_propCommand ..)

@[simp] theorem background_vlvSettle : background (vlvSettle s v) = background s :=
  ite_leaves ((background_vlvSyncMode ..).trans (background_vlvTakeSet ..)) rfl

@[simp] theorem background_vlvTakeSafe : background (vlvTakeSafe s v) = background s := by
  simp only [vlvTakeSafe, apply_ite background, background_vlvSafeHold, background_propSet, background_vlvSafeOn,
    background_vlvForceRest, ite_self]

@[simp] theorem background_vlvTakeOwner : background (vlvTakeOwner s v) = background s := by
  simp only [vlvTakeOwner, apply_ite background, background_propDrive, background_bankRefresh, background_vlvStartRows,
    background_vlvSettle, background_vlvOff, ite_self]

@[simp] theorem background_vlvTakeUp : background (vlvTakeUp s v) = background s := by
  simp only [vlvTakeUp, apply_ite background, background_vlvForceRest, background_vlvTakeSafe, background_vlvTakeOwner,
    background_heddleFetch, background_vlvSyncMode, ite_self]

@[simp] theorem background_ioPin (i : Nat) (x : Int) (hiZ : Bool) : background (ioPin s i x hiZ) = background s := rfl

@[simp] theorem background_modIo (i : Nat) (f : IoRt → IoRt) : background (modIo s i f) = background s := rfl

@[simp] theorem background_ioNoteCommand (i : Nat) (entry : List Byte) : background (ioNoteCommand s i entry) = background s := by
  rw [ioNoteCommand_eq]
  rfl

@[simp] theorem background_ioApply (i : Nat) : background (ioApply s i) = background s := by
  simp only [ioApply, apply_ite background, background_ioPin, background_modIo, background_ioNoteCommand,
    background_heddleFetch, ite_self]

@[simp] theorem background_aoApply (a : Nat) : background (aoApply s a) = background s := by
  have hset : ∀ t f, background (modAo t a f) = background t := fun _ _ => rfl
  simp only [aoApply, apply_ite background, hset, background_heddleFetch, ite_self]

theorem background_fanFetch (f : Nat) : background (fanFetch s f).2 = background s := by
  unfold fanFetch
  dsimp only
  split
  · rfl
  · exact background_heddleFetch ..

theorem background_ecStep (e dt : Nat) (entry : List Byte) : background (ecStep s e dt entry) = background s :=
  ite_leaves (g := background) ((background_ioApply ..).trans rfl) rfl

@[simp] theorem background_fanUpdate (f : Nat) : background (fanUpdate s f) = background s := by
  have hstarted : background (evalStarted s f) = background s := background_fanFetch s f
  by_cases hf : f < 4
  · rw [fanUpdate_direct hf]
    exact (background_of_within (bs := [.free, .fans]) (refreshBoost_within _ (limitFollow_within _ f (directStep_within _ f
      _ _ (.refl _ _) (by decide) (by decide)) (by decide)) (by decide)) (by decide) (by decide)).trans hstarted
  · obtain ⟨e, rfl⟩ := Nat.exists_eq_add_of_le (Nat.not_lt.mp hf)
    rw [fanUpdate_ec, background_of_within (refreshBoost_within (bs := [.fans]) _ (.refl _ _) (by decide)) (by decide)
      (by decide), background_ecStep, hstarted]

theorem background_applyOut (h : Nat) : background (applyOut s h) = background s := by
  simp only [applyOut, apply_ite background, background_ioApply, background_vlvTakeUp, background_fanUpdate,
    background_aoApply, ite_self]

theorem background_applyAll : background (applyAll s) = background s := forAll_leaves background background_applyOut _ s

end

/-! ### What the log and the display leave of the save (R236, R400) -/

/-- The save area, the count of saves, and the scrubber. -/
def saved (s : State) : SaveArea × Nat × Bool := (s.mram.save, s.mram.saves, s.mem.scrubbing)

theorem saved_of_within {bs : List Block} {s t : State} (h : Within bs s t) (hmram : Block.mram ∉ bs)
    (hmem : Block.mem ∉ bs) : saved t = saved s := by
  rw [saved, show t.mram = s.mram from h .mram hmram, show t.mem = s.mem from h .mem hmem, saved]

/-- A record that is written touches the ring and the lines it lies in. -/
theorem ringed_ring (s : State) (r : LogRec) : ∃ log next poisoned lo hi, ringed s r =
    mramWritten { s with mram := { s.mram with log := log, nextSeq := next, poisonedLog := poisoned } } lo hi :=
  ⟨_, _, _, _, _, rfl⟩

theorem saved_writeRec (s : State) (r : LogRec) : saved (writeRec s r) = saved s := by
  obtain ⟨log, next, poisoned, lo, hi, hring⟩ := ringed_ring s r
  rw [writeRec_eq, saved_of_within (announced_within (bs := [.host]) _ _ (by decide)) (by decide) (by decide), hring]
  rfl

theorem saved_flushLog (s : State) : saved (flushLog s) = saved s := (forAll_leaves saved saved_writeRec _ _).trans rfl

/-- MRAM without the record of the display. -/
def Mram.undisplayed (m : Mram) : Mram := { m with disp := {} }

section
variable (s : State)

theorem undisplayed_of_within {bs : List Block} {t : State} (h : Within bs s t) (hmram : Block.mram ∉ bs) :
    t.mram.undisplayed = s.mram.undisplayed := congrArg Mram.undisplayed (h .mram hmram)

theorem undisplayed_roundLedgers (r : Round) (n : Nat) (p : SegWave → Bool) :
    (roundLedgers s r n p).mram.undisplayed = s.mram.undisplayed :=
  undisplayed_of_within s (roundLedgers_within (bs := [.disp]) s r n p (.refl _ s) (by decide)) (by decide)

theorem undisplayed_dispStore (cut : List (Nat × Nat × Nat)) : (dispStore s cut).mram.undisplayed = s.mram.undisplayed := rfl

theorem undisplayed_dispOutcome (n : Nat) : (dispOutcome s n).mram.undisplayed = s.mram.undisplayed := rfl

theorem undisplayed_roundCut (r : Round) : (roundCut s r).mram.undisplayed = s.mram.undisplayed :=
  (undisplayed_dispStore ..).trans (undisplayed_roundLedgers ..)

/-- What a display that stops records: the half frame, or what became of the round. -/
def stopRecorded (loss : Bool) : State :=
  if s.disp.mode = 1 ∧ s.disp.st = 1 then
    if loss then
      let t := dispOutcome s 0
      { t with mram := { t.mram with disp := { t.mram.disp with half := some (slotNegative t) } } }
    else s
  else if s.disp.mode ≠ 2 ∨ s.disp.st = 0 ∨ s.disp.st = 3 ∨ s.disp.st = 4 then s
  else
    match s.disp.round with
    | none => if loss then dispOutcome s 0 else s
    | some r => if loss then dispOutcome (roundCut s r) 2 else roundCut s r

theorem dispStop_mram (loss : Bool) : (dispStop s loss).mram = (stopRecorded s loss).mram := rfl

theorem undisplayed_stopRecorded (loss : Bool) : (stopRecorded s loss).mram.undisplayed = s.mram.undisplayed := by
  unfold stopRecorded
  split
  · cases loss <;> rfl
  split
  · rfl
  split
  · cases loss <;> rfl
  · cases loss
    · exact undisplayed_roundCut ..
    · exact (undisplayed_dispOutcome ..).trans (undisplayed_roundCut ..)

theorem undisplayed_dispStop (loss : Bool) : (dispStop s loss).mram.undisplayed = s.mram.undisplayed := by
  rw [dispStop_mram, undisplayed_stopRecorded]

theorem undisplayed_dispSave (weak : Bool) : (dispSave s weak).mram.undisplayed = s.mram.undisplayed := by
  unfold dispSave
  split
  · refine ite_leaves (g := fun t => t.mram.undisplayed) ?_ (undisplayed_dispStop ..)
    rw [modDisp_mram, undisplayed_dispOutcome, undisplayed_dispStore, undisplayed_roundLedgers]
  · exact undisplayed_dispStop ..

/-- What the display records goes into the save, and MRAM keeps its own record. -/
theorem saveDisplay_mram : (saveDisplay s).2.mram = s.mram := by
  have hkept : { (dispSave s (decide (s.power.holdupState ≠ 0))).mram with disp := s.mram.disp } = s.mram :=
    congrArg (fun m : Mram => { m with disp := s.mram.disp }) (undisplayed_dispSave s (decide (s.power.holdupState ≠ 0)))
  unfold saveDisplay
  dsimp only
  exact ite_leaves (g := State.mram) hkept hkept

end

/-! ### The save from its trigger on (R413–R415) -/

/-- The state whose contents the save takes: the role given up, the copy torn, the display recorded. -/
def saveReady (s : State) : State := (saveDisplay (tearCopy (pairGiveUp s))).2

theorem saveReady_within (s : State) : Within [.disp, .pair, .mem, .mram] s (saveReady s) :=
  saveDisplay_within _ (tearCopy_within _ (pairGiveUp_within s (.refl _ s) (by decide)) (by decide)) (by decide) (by decide)
    (by decide)

theorem saveReady_mram (s : State) : (saveReady s).mram.save = s.mram.save ∧ (saveReady s).mram.saves = s.mram.saves := by
  have hgiven : (pairGiveUp s).mram = s.mram := pairGiveUp_leaves s .mram (by decide)
  obtain ⟨-, -, htorn⟩ := tearCopy_leaves (pairGiveUp s)
  rw [saveReady, saveDisplay_mram, htorn, hgiven]
  exact ⟨rfl, rfl⟩

/-- The save area has received its contents. -/
def saveFilled (s : State) (disp : DispRec) : State :=
  mramWritten { s with mram := { s.mram with save := saveContents s disp, saves := s.mram.saves + 1 } } 0x740000 0x780000

theorem saveBegin_eq (s : State) : saveBegin s =
    flushLog (saveStop (brownoutSet (saveFilled (saveReady s) (saveDisplay (tearCopy (pairGiveUp s))).1))) := rfl

theorem brownoutSet_leaves (s : State) : Within [.power] s (brownoutSet s) := brownoutSet_within s (.refl _ s) (by decide)

theorem planTiers_of_power {s t : State} (h : t.power = s.power) : planTiers t = planTiers s := by
  rw [planTiers, h, planTiers]

/-- The transceivers are in low power. -/
def transceiversQuiet (s : State) : State :=
  forAll (upTo 2) (fun s x => modCan s x fun c => { c with onBus := 0, lowPower := true }) s

theorem transceiversQuiet_within (s : State) : Within [.can] s (transceiversQuiet s) :=
  forAll_within _ _ _ (fun _ _ h => modCan_within _ _ _ h (by decide)) (.refl _ s)

/-- What the trigger stops before the outputs are applied (R414). -/
def stopped (s : State) : State :=
  let s := modPower s fun p => { p with phase := .saving, measuring := none, sagClk := s.clk, sagCal := s.cal.now }
  let s := transceiversQuiet s
  { s with
    mem := { s.mem with scrubbing := false }
    dict := { s.dict with job := none, jobs := [] }
    images := { s.images with st := if s.images.st = 1 ∨ s.images.st = 2 then 0 else s.images.st }
    safety := { s.safety with safeA := false, safeB := false, faultN := false } }

theorem saveStop_eq (s : State) : saveStop s =
    forAll (upTo 4) bankRefresh (applyAll (forAll (upTo 4) fanStop (stopped s))) := rfl

theorem stopped_leaves (s : State) : (stopped s).power =
      { s.power with phase := .saving, measuring := none, sagClk := s.clk, sagCal := s.cal.now } ∧
    (stopped s).mram = s.mram ∧ background (stopped s) = (none, [], false) ∧ (stopped s).safety.safeA = false ∧
    (stopped s).safety.safeB = false :=
  ⟨transceiversQuiet_within _ .power (by decide), transceiversQuiet_within _ .mram (by decide), rfl, rfl, rfl⟩

/-- Stopping the outputs leaves the power supply, the supervisor and MRAM, and starts nothing in the background. -/
theorem saveStop_leaves (s : State) : (saveStop s).power = (stopped s).power ∧ (saveStop s).safety = (stopped s).safety ∧
    (saveStop s).mram = s.mram ∧ background (saveStop s) = (none, [], false) := by
  obtain ⟨-, hmram, hidle, -⟩ := stopped_leaves s
  rw [saveStop_eq]
  generalize stopped s = u at hmram hidle ⊢
  have hkept : Within [.free, .meas, .valve, .io, .fans, .dict, .mem] u
      (forAll (upTo 4) bankRefresh (applyAll (forAll (upTo 4) fanStop u))) :=
    forAll_within _ _ _ (fun _ _ h => bankRefresh_within _ _ h (by decide)) (applyAll_within _
      (forAll_within _ _ _ (fun _ _ h => fanStop_within _ _ h (by decide)) (.refl _ u)) (by decide) (by decide) (by decide)
      (by decide) (by decide) (by decide) (by decide))
  refine ⟨hkept .power (by decide), hkept .safety (by decide), (show _ = u.mram from hkept .mram (by decide)).trans hmram, ?_⟩
  rw [forAll_leaves background background_bankRefresh, background_applyAll, ← hidle]
  exact forAll_leaves background (fun t k => background_of_within (fanStop_within (bs := [.fans]) t k (.refl _ t) (by decide))
    (by decide) (by decide)) _ u

/-- What a save finds when it begins. -/
theorem saveBegin_leaves (s : State) : (saveBegin s).power.phase = .saving ∧ (saveBegin s).power.sagClk = s.clk ∧
    (∃ disp, (saveBegin s).mram.save = saveContents (saveReady s) disp) ∧ (saveBegin s).mram.saves = s.mram.saves + 1 ∧
    background (saveBegin s) = (none, [], false) ∧ (saveBegin s).safety.safeA = false ∧
    (saveBegin s).safety.safeB = false := by
  obtain ⟨-, hsaves⟩ := saveReady_mram s
  have hready : (saveReady s).clk = s.clk := saveReady_within s .clk (by decide)
  rw [saveBegin_eq]
  generalize (saveDisplay (tearCopy (pairGiveUp s))).1 = disp
  have hfilled : saved (brownoutSet (saveFilled (saveReady s) disp)) =
      (saveContents (saveReady s) disp, s.mram.saves + 1, saved (saveFilled (saveReady s) disp) |>.2.2) := by
    rw [saved_of_within (brownoutSet_leaves _) (by decide) (by decide), ← hsaves]
    rfl
  have hclk : (brownoutSet (saveFilled (saveReady s) disp)).clk = s.clk :=
    (show _ = (saveFilled (saveReady s) disp).clk from brownoutSet_leaves _ .clk (by decide)).trans hready
  generalize brownoutSet (saveFilled (saveReady s) disp) = u at hfilled hclk ⊢
  obtain ⟨hpower, hsafety, hmram, hidle⟩ := saveStop_leaves u
  obtain ⟨hstop, -, -, hsafeA, hsafeB⟩ := stopped_leaves u
  have hflush : Within [.host, .mem, .snap, .mram] (saveStop u) (flushLog (saveStop u)) :=
    flushLog_within _ (.refl _ _) (by decide) (by decide) (by decide) (by decide)
  have hlog := saved_flushLog (saveStop u)
  simp only [saved, Prod.mk.injEq, hmram] at hlog hfilled
  obtain ⟨hsave, hcount, hscrub⟩ := hlog
  obtain ⟨hcontents, hnumber, -⟩ := hfilled
  rw [show (flushLog (saveStop u)).power = (stopped u).power from (hflush .power (by decide)).trans hpower,
    show (flushLog (saveStop u)).safety = (stopped u).safety from (hflush .safety (by decide)).trans hsafety, hstop]
  refine ⟨rfl, hclk, ⟨disp, hsave.trans hcontents⟩, hcount.trans hnumber, ?_, hsafeA, hsafeB⟩
  rw [background, hscrub, show (flushLog (saveStop u)).dict = (saveStop u).dict from hflush .dict (by decide)]
  exact hidle

/-- What the save area holds of the state at the trigger. -/
theorem saveContents_ready (s : State) (disp : DispRec) : let v := saveContents (saveReady s) disp
    v.present = true ∧ v.complete = false ∧ v.consumed = false ∧ v.seq = s.mram.save.seq + 1 ∧ v.calNow = s.cal.now ∧
      v.warpCycle = s.warp.cycle ∧ v.tiers = planTiers s := by
  obtain ⟨hsave, -⟩ := saveReady_mram s
  have hkept := saveReady_within s
  have hcal : (saveReady s).cal = s.cal := hkept .cal (by decide)
  have hwarp : (saveReady s).warp = s.warp := hkept .warp (by decide)
  exact ⟨rfl, rfl, rfl, congrArg (fun v : SaveArea => v.seq + 1) hsave, congrArg Cal.now hcal, congrArg Warp.cycle hwarp,
    planTiers_of_power (hkept .power (by decide))⟩

/-! ### The sag of VIN, by the phase of start-up (R413, R420) -/

/-- The phases before the end of step 5. -/
def startingUp : List Phase := [.boot, .signature, .repairMap, .memTest, .config, .recovery]

theorem exec_vinSag_early {s : State} (hrun : 2 ≤ s.power.vinRun) (hphase : s.power.phase ∈ startingUp) :
    exec .vinSag s = .next (restart s (powerOnCause s)) := by
  rw [exec_vinSag, execVinSag, if_neg (Nat.not_lt.mpr hrun)]
  simp only [startingUp, List.mem_cons, List.not_mem_nil, or_false] at hphase
  rcases hphase with h | h | h | h | h | h <;> rw [h]

theorem exec_vinSag_saves {s : State} (hrun : 2 ≤ s.power.vinRun)
    (hphase : s.power.phase ∈ [.warp, .operational, .released, .held]) : exec .vinSag s = .next (saveBegin s) := by
  rw [exec_vinSag, execVinSag, if_neg (Nat.not_lt.mpr hrun)]
  simp only [List.mem_cons, List.not_mem_nil, or_false] at hphase
  rcases hphase with h | h | h | h <;> rw [h]

theorem restart_save (s : State) (cause : Nat) : (restart s cause).mram.save = s.mram.save := by rw [restart_mram]

/-- The state in which the last tier is written. -/
def saveOver (s : State) (n : Nat) : State :=
  { s with
    power := { s.power with phase := .done }
    meas := { s.meas with refState := 0 }
    mram := { s.mram with
      save := { s.mram.save with complete := true }
      lastSaveAt := s.power.sagCal, lastSaveTime := min ((s.clk - s.power.sagClk) / clkPerUs) 65535
      lastSaveBytes := n
      lastSaveResult := if decide (s.mram.save.tiers = [0, 1, 2, 3, 4]) then 1 else 2 } }

theorem exec_saveDone_saving {s : State} (hphase : s.power.phase = .saving) (n : Nat) :
    exec (.saveDone n) s = .next (saveOver s n) := by
  rw [exec_saveDone, execSaveDone, if_pos hphase]
  rfl

/-- Settles O59. -/
theorem theSaveIsWritten : Obligations.TheSaveIsWritten := by
  unfold Obligations.TheSaveIsWritten
  refine ⟨fun s hfew => ?few, fun s hrun hphase => ⟨_, exec_vinSag_saves hrun ?_, ?saves⟩,
    fun s hrun hphase => ⟨_, exec_vinSag_early hrun ?_, restart_phase .., restart_save ..⟩,
    fun s n hphase => ⟨_, exec_saveDone_saving hphase n, rfl, rfl, rfl, rfl, rfl, ?result⟩, fun s n hphase => ?idle⟩
  case few =>
    rw [exec_vinSag, execVinSag, if_pos hfew]
  case idle =>
    rw [exec_saveDone, execSaveDone, if_neg hphase]
  case result => simp only [saveOver, decide_eq_true_eq]
  case saves =>
    obtain ⟨hsaving, hclk, ⟨disp, hsave⟩, hsaves, hidle, hsafeA, hsafeB⟩ := saveBegin_leaves s
    obtain ⟨hpresent, hcomplete, hconsumed, hseq, hcal, hcycle, htiers⟩ := saveContents_ready s disp
    simp only [background, Prod.mk.injEq] at hidle
    obtain ⟨hjob, hjobs, hscrub⟩ := hidle
    rw [hsave]
    exact ⟨hsaving, hclk, hpresent, hcomplete, hconsumed, hseq, hcal, hcycle, hsaves, htiers, hjob, hjobs, hscrub, hsafeA,
      hsafeB⟩
  · rcases hphase with h | h | h <;> rw [h] <;> decide
  · rcases hphase with h | h | h | h | h | h <;> rw [h] <;> decide

theorem planTiers_unreleased {s : State} (h : s.power.phase ≠ .released) :
    planTiers s = if s.power.holdupState < 2 then [0, 1, 2, 3] else [0, 1] := by
  rw [planTiers, if_pos (Or.inr h)]
  by_cases hweak : 2 ≤ s.power.holdupState
  · rw [if_pos hweak, if_neg (Nat.not_lt.mpr hweak)]
  · rw [if_neg hweak, if_pos (Nat.not_le.mp hweak)]

/-- Settles O60. -/
theorem aSagDuringStartUp : Obligations.ASagDuringStartUp := by
  unfold Obligations.ASagDuringStartUp
  refine ⟨fun s hrun hphase => ⟨_, exec_vinSag_early hrun ?_, restart_phase .., restart_save .., ?pin⟩,
    fun s hphase hhigh => ⟨_, exec_resetRelease_reset hhigh hphase, rfl, rfl⟩,
    fun s hphase => ⟨_, exec_powerLoss_idle (by rw [hphase]; decide), rfl, ?loss⟩,
    fun s hrun hphase => ⟨_, exec_vinSag_saves hrun ?_, ?saves⟩⟩
  case pin => rw [restart_power]
  case loss =>
    obtain ⟨-, -, hmram⟩ := tearCopy_leaves s
    rw [(powerLess_leaves (tearCopy s)).1, hmram]
  case saves =>
    obtain ⟨hsaving, -, ⟨disp, hsave⟩, -⟩ := saveBegin_leaves s
    obtain ⟨-, -, -, -, -, -, htiers⟩ := saveContents_ready s disp
    have hheld : s.power.phase ≠ .released := by rcases hphase with h | h | h <;> rw [h] <;> decide
    rw [hsave, htiers, planTiers_unreleased hheld]
    exact ⟨hsaving, rfl⟩
  · rcases hphase with h | h | h | h | h <;> rw [h] <;> decide
  · rcases hphase with h | h | h <;> rw [h] <;> decide

end Sys2Proof.Machine
end

section
/-! PROOFS. The steps of start-up and output release (19_power_and_holdup, R407–R410, R418, R421; R288, R348, R349). -/

namespace Sys2Proof.Machine

/-! ### Steps 1 and 2 (R288, R407) -/

section
variable {s : State}

theorem trialStep_bootSlot : (trialStep s).mram.bootSlot =
    (if onTrial s = true ∧ s.mram.trialTried = true then otherSlot s else s.mram.bootSlot) ∧
    (trialStep s).mram.trialTried = (onTrial s && !s.mram.trialTried) := by
  unfold trialStep
  cases onTrial s with
  | false => exact ⟨rfl, rfl⟩
  | true => cases htried : s.mram.trialTried <;> exact ⟨rfl, rfl⟩

/-- The boot ROM has read the boot control word, and VREF is enabled. -/
def romDone (s : State) : State :=
  let s := modPower (trialStep s) fun p => { p with phase := .signature }
  { s with meas := { s.meas with
    refState := 1, refClk := s.clk, refGood := 0, nextRound := s.clk
    scanDue := after s.clk (msecs (Cfg.measCScanPeriod s)) } }

theorem exec_bootRomDone_boot (hphase : s.power.phase = .boot) : exec .bootRomDone s = .next (romDone s) :=
  congrArg Host.Outcome.next (if_pos hphase)

theorem romDone_leaves : (romDone s).power.phase = .signature ∧ (romDone s).meas.refState = 1 ∧
    (romDone s).meas.refClk = (trialStep s).clk ∧ (romDone s).mram = (trialStep s).mram := ⟨rfl, rfl, rfl, rfl⟩

theorem trialStep_clk : (trialStep s).clk = s.clk := by
  unfold trialStep
  split
  · exact ite_leaves (g := State.clk) rfl rfl
  · rfl

/-- A trial slot that had been tried gives way to the other one; a trial that begins counts as tried. -/
theorem romDone_trial : (romDone s).power.phase = .signature ∧ (romDone s).meas.refState = 1 ∧
    (romDone s).meas.refClk = s.clk ∧
    (onTrial s = true → s.mram.trialTried = true → (romDone s).mram.bootSlot = otherSlot s) ∧
    (onTrial s = true → s.mram.trialTried = false →
      (romDone s).mram.bootSlot = s.mram.bootSlot ∧ (romDone s).mram.trialTried = true) ∧
    (onTrial s = false → (romDone s).mram.bootSlot = s.mram.bootSlot ∧ (romDone s).mram.trialTried = false) := by
  obtain ⟨hphase, hstate, hclk, hmram⟩ := romDone_leaves (s := s)
  obtain ⟨hslot, htried⟩ := trialStep_bootSlot (s := s)
  rw [hmram, hslot, htried, hclk, trialStep_clk]
  refine ⟨hphase, hstate, rfl, fun hon htry => if_pos ⟨hon, htry⟩, fun hon htry => ⟨if_neg ?_, ?_⟩,
    fun hoff => ⟨if_neg ?_, ?_⟩⟩
  · rw [htry]
    exact fun h => Bool.false_ne_true h.2
  · rw [hon, htry]
    rfl
  · rw [hoff]
    exact fun h => Bool.false_ne_true h.1
  · rw [hoff]
    rfl

/-- The line that is lost belongs to no boot slot's choice. -/
theorem bootSlot_poisonMram (s : State) (off : Nat) : (poisonMram s off).mram.bootSlot = s.mram.bootSlot := by
  have hlearned : ∀ line, (dropLearned s line).mram.bootSlot = s.mram.bootSlot := fun line => by
    simp only [dropLearned, apply_ite State.mram, apply_ite Mram.bootSlot, modCirc_mram, modVlv_mram, modZone_mram, ite_self]
  have hprofile : ∀ slot, (dropProfile s slot).mram.bootSlot = s.mram.bootSlot := fun slot => by
    unfold dropProfile
    split <;> rfl
  have hcopy : ∀ k, (rewriteCopy s k).mram.bootSlot = s.mram.bootSlot := fun _ => rfl
  simp only [poisonMram, apply_ite State.mram, apply_ite Mram.bootSlot, hlearned, hprofile, hcopy, ite_self]

theorem bootSlot_slotUnread (s : State) (k : Nat) (bad : List Nat) : (slotUnread s k bad).mram.bootSlot = s.mram.bootSlot :=
  forAll_leaves (fun t => t.mram.bootSlot) (fun t _ => bootSlot_poisonMram t _) bad s

/-- What the signature check finds in the state in which the unreadable lines are recorded. -/
def signatureChecked (u : State) : State :=
  if slotVerifies u u.mram.bootSlot then modPower u fun p => { p with phase := .repairMap }
  else if slotVerifies u (otherSlot u) then
    modPower { rollback u with mram := { (rollback u).mram with trialTried := false } } fun p => { p with
      phase := .repairMap, fallback := true }
  else modPower u fun p => { p with phase := .recovery }

theorem exec_signatureCheckDone_checks (hphase : s.power.phase = .signature) (bad badOther : List Nat) :
    exec (.signatureCheckDone bad badOther) s =
      .next (signatureChecked (slotUnread (slotUnread s (otherSlot s) badOther) s.mram.bootSlot bad)) :=
  congrArg Host.Outcome.next (if_neg (not_not.mpr hphase))

/-! ### Step 3 (R348, R350) -/

theorem exec_repairMapResolve_map (hphase : s.power.phase = .repairMap) : exec .repairMapResolve s =
    .next (modPower (lanesFromMap (resolveMaps s)) fun p => { p with phase := .memTest }) :=
  congrArg Host.Outcome.next (if_pos hphase)

theorem lanesFromMap_leaves (s : State) : (lanesFromMap s).mem = s.mem ∧ (lanesFromMap s).mram = s.mram := by
  have hkept := lanesFromMap_within (bs := [.engine]) s (.refl _ s) (by decide)
  exact ⟨hkept .mem (by decide), hkept .mram (by decide)⟩

/-- A map taken from a copy comes into force with its ledger, and every copy holds it. -/
theorem resolveMaps_of_copy {c : MapCopy} (hpick : pickMap s.mram.maps = some c) : (resolveMaps s).mem.map = c.map ∧
    (resolveMaps s).mem.repairGen = c.gen ∧ (resolveMaps s).mem.repairState = 0 ∧ (resolveMaps s).mram.ledger = c.ledger ∧
    (resolveMaps s).mram.maps = s.mram.maps.map fun _ => c := by
  unfold resolveMaps
  dsimp only
  rw [hpick]
  exact ⟨rfl, rfl, rfl, rfl, rfl⟩

/-- Without an intact copy the map starts empty. -/
theorem resolveMaps_of_none (htop : topMaps s.mram.maps = []) : (resolveMaps s).mem.map = {} ∧
    (resolveMaps s).mem.repairState = 2 ∧ (resolveMaps s).mram.ledger = [] := by
  have hpick : pickMap s.mram.maps = none := by rw [pickMap, htop]
  unfold resolveMaps
  dsimp only
  rw [hpick, htop]
  exact ⟨rfl, rfl, rfl⟩

/-! ### Step 4 (R349) -/

/-- Step 4 ends and the scrubber starts; `had` tells whether the spares were exhausted before the test. -/
def selfTested (s : State) (had : Bool) : State :=
  let s := { s with mem := { s.mem with
    scrubbing := true, scrubPos := 0, passStart := s.clk, passMoves := s.mem.map.moving, filled := [] } }
  modPower s fun p => { p with
    phase := .config
    stepFailed := p.stepFailed || (!had && Flag.get s.mem.flags memExhausted && Flag.get s.safety.failures sfMemory) }

theorem exec_memorySelfTest_tests (hphase : s.power.phase = .memTest) (a b : List (Nat × Nat)) : ∃ u,
    exec (.memorySelfTest a b) s = .next (selfTested u (Flag.get s.mem.flags memExhausted)) :=
  ⟨_, congrArg Host.Outcome.next (if_pos hphase)⟩

theorem testMemory_clean (s : State) : testMemory s [] = s := rfl

theorem exec_memorySelfTest_clean (hphase : s.power.phase = .memTest) (hmap : s.mem.repairState ≠ 2)
    (hholdup : s.power.holdupState ≠ 2) : exec (.memorySelfTest [] []) s =
      .next (selfTested s (Flag.get s.mem.flags memExhausted)) := by
  rw [exec_memorySelfTest, execMemorySelfTest, if_pos hphase]
  simp only [failHits, List.filter_nil, List.map_nil, testMemory_clean, if_neg hmap, if_neg hholdup]
  rfl

/-! ### Step 5 (R265, R418, R421) -/

/-- The configuration and the calendar are taken. -/
def configTaken (s : State) (v rtc : Nat) : State := takeOutage (takeCalendar (takeConfig s) v rtc) (saveWaits s) v

/-- The save that waits is restored, and the pair settings are taken. -/
def saveTaken (s : State) (waits : Bool) : State := brownoutFollow (restoreResume (takePair (restoreSave s)) waits)

/-- The blocks load what they keep. -/
def blocksLoaded (s : State) : State := heddleAll (latchSafe (poolAssign (startTimers (loadProfiles (loadLearned s)))))

/-- Step 6 begins. -/
def warpStepBegun (s : State) : State := modPower s fun p => { p with phase := .warp }

theorem warpStepBegun_leaves (s : State) : (warpStepBegun s).power.phase = .warp ∧
    (warpStepBegun s).power.releaseClk = s.power.releaseClk ∧ (warpStepBegun s).mram = s.mram ∧
    (warpStepBegun s).cal = s.cal := ⟨rfl, rfl, rfl, rfl⟩

/-- The state in which step 6 begins. -/
def resolutionOver (s : State) (v rtc : Nat) : State :=
  aoApplyAll (astroCompute (warpStepBegun (blocksLoaded (saveTaken (configTaken s v rtc) (saveWaits s)))))

theorem exec_configResolution_config (hphase : s.power.phase = .config) (v n o : Nat) : exec (.configResolution v n o) s =
    .next (resolutionOver s v (n * 65536 + o % 65536)) := by
  rw [exec_configResolution, execConfigResolution, if_pos hphase, resolutionOver, blocksLoaded, saveTaken,
    configTaken, warpStepBegun, modPower]

theorem repairCopies_save (s : State) (r : Resolved) : (repairCopies s r).mram.save = s.mram.save := by
  have hlog : ∀ t type payload, (logEvent t type payload).mram = t.mram := fun t type payload =>
    logEvent_within (bs := [.snap]) t type payload (.refl _ t) (by decide) .mram (by decide)
  have hwritten : ∀ (l : List Nat) (f g : Nat → Nat) t, (forAll l (fun t k => mramWritten t (f k) (g k)) t).mram = t.mram :=
    fun l f g t => forAll_leaves State.mram (by intros; rfl) l t
  unfold repairCopies
  rw [hlog, hwritten]

theorem takeConfig_leaves (s : State) : (takeConfig s).power = s.power ∧ (takeConfig s).mram.save = s.mram.save := by
  have hkept := takeConfig_within (bs := [.dict, .mem, .snap, .mram, .alarms]) s (.refl _ s) (by decide) (by decide)
    (by decide) (by decide) (by decide)
  refine ⟨hkept .power (by decide), ?_⟩
  have halarm : ∀ a t, (raiseAlarm a t).mram = t.mram := fun a t =>
    raiseAlarm_within (bs := [.alarms]) a t (.refl _ t) (by decide) .mram (by decide)
  unfold takeConfig
  simp only [apply_ite State.mram, halarm, repairCopies_save, ite_self]

theorem takeCalendar_vrtc (s : State) (v rtc : Nat) : (takeCalendar s v rtc).cal.vrtc = v := by
  simp only [takeCalendar, apply_ite State.cal, apply_ite Cal.vrtc, ite_self]

theorem configTaken_leaves (s : State) (v rtc : Nat) : (configTaken s v rtc).cal.vrtc = v ∧
    (configTaken s v rtc).mram.save = s.mram.save ∧ (configTaken s v rtc).power.releaseClk = s.power.releaseClk := by
  obtain ⟨hpower, hsave⟩ := takeConfig_leaves s
  have hkept := takeCalendar_within (bs := [.cal]) (takeConfig s) v rtc (.refl _ _) (by decide)
  refine ⟨takeCalendar_vrtc .., ?_, ?_⟩
  · exact (congrArg Mram.save (hkept .mram (by decide))).trans hsave
  · exact (congrArg Power.releaseClk (hkept .power (by decide))).trans (congrArg Power.releaseClk hpower)

theorem restoreSave_releaseClk (s : State) : (restoreSave s).power.releaseClk = s.power.releaseClk := by
  have hcounts : (restoreCounts s).power = s.power :=
    restoreCounts_within (bs := [.therm, .safety]) s (.refl _ s) (by decide) (by decide) .power (by decide)
  have hlearned : ∀ t, (restoreLearned t).power = t.power := fun t =>
    restoreLearned_within (bs := [.dict, .mram]) t (.refl _ t) (by decide) (by decide) .power (by decide)
  simp only [restoreSave, apply_ite State.power, apply_ite Power.releaseClk, hlearned, hcounts, ite_self]

theorem restoreSave_consumed (h : saveWaits s = true) : (restoreSave s).mram.save.consumed = true := by
  unfold restoreSave
  rw [h]
  rfl

theorem restoreResume_releaseClk (s : State) (waits : Bool) : (restoreResume s waits).power.releaseClk = s.power.releaseClk := by
  have hresume : ∀ p, (resumeApply s p).power = s.power := fun p =>
    resumeApply_within (bs := [.loom, .dict]) s p (.refl _ s) (by decide) (by decide) .power (by decide)
  simp only [restoreResume, apply_ite State.power, apply_ite Power.releaseClk, hresume, ite_self]

theorem saveTaken_leaves (s : State) (waits : Bool) : (saveTaken s waits).cal = s.cal ∧
    (saveTaken s waits).mram = (restoreSave s).mram ∧ (saveTaken s waits).power.releaseClk = s.power.releaseClk := by
  have htaken : Within [.power, .loom, .dict, .pair] (restoreSave s) (saveTaken s waits) :=
    brownoutFollow_within _ (restoreResume_within _ _ (takePair_within _ (.refl _ _) (by decide)) (by decide) (by decide)
      (by decide)) (by decide)
  have hrestored := restoreSave_within (bs := [.power, .dict, .images, .therm, .safety, .mram]) s (.refl _ s) (by decide)
    (by decide) (by decide) (by decide) (by decide) (by decide)
  refine ⟨(htaken .cal (by decide)).trans (hrestored .cal (by decide)), htaken .mram (by decide), ?_⟩
  exact (restoreResume_releaseClk (takePair (restoreSave s)) waits).trans (restoreSave_releaseClk s)

theorem blocksLoaded_within (s : State) : Within [.loom, .valve, .engine, .meas, .safety, .mem] s (blocksLoaded s) :=
  heddleAll_within _ (latchSafe_within _ (poolAssign_within _ (startTimers_within _ (loadProfiles_within _
    (loadLearned_within _ (.refl _ s) (by decide) (by decide)) (by decide)) (by decide)) (by decide)) (by decide)) (by decide)

theorem astroCompute_vrtc (s : State) : (astroCompute s).cal.vrtc = s.cal.vrtc := ite_leaves (g := fun t => t.cal.vrtc) rfl rfl

/-- AO and the astronomical events take the resolution; they write neither the power supply nor MRAM. -/
theorem resolutionApplied_leaves (s : State) : (aoApplyAll (astroCompute s)).power = s.power ∧
    (aoApplyAll (astroCompute s)).mram = s.mram ∧ (aoApplyAll (astroCompute s)).cal.vrtc = s.cal.vrtc := by
  have hkept : Within [.cal, .meas, .mem] s (aoApplyAll (astroCompute s)) :=
    aoApplyAll_within _ (astroCompute_within _ (.refl _ s) (by decide)) (by decide) (by decide)
  have hcal : (aoApplyAll (astroCompute s)).cal = (astroCompute s).cal :=
    aoApplyAll_within (bs := [.meas, .mem]) _ (.refl _ _) (by decide) (by decide) .cal (by decide)
  exact ⟨hkept .power (by decide), hkept .mram (by decide), (congrArg Cal.vrtc hcal).trans (astroCompute_vrtc s)⟩

/-- Step 5 ends in step 6 with VRTC_STATE, the save that waits consumed, and the instant of the release as it was. -/
theorem resolutionOver_leaves (s : State) (v rtc : Nat) : (resolutionOver s v rtc).power.phase = .warp ∧
    (resolutionOver s v rtc).cal.vrtc = v ∧ (saveWaits s = true → (resolutionOver s v rtc).mram.save.consumed = true) ∧
    (resolutionOver s v rtc).power.releaseClk = s.power.releaseClk := by
  obtain ⟨hvrtc, hsave, hrelease⟩ := configTaken_leaves s v rtc
  unfold resolutionOver
  generalize configTaken s v rtc = t at hvrtc hsave hrelease
  obtain ⟨hcal, hmram, hclk⟩ := saveTaken_leaves t (saveWaits s)
  generalize saveTaken t (saveWaits s) = w at hcal hmram hclk
  have hblocks := blocksLoaded_within w
  have hbcal : (blocksLoaded w).cal = w.cal := hblocks .cal (by decide)
  have hbmram : (blocksLoaded w).mram = w.mram := hblocks .mram (by decide)
  have hbpower : (blocksLoaded w).power = w.power := hblocks .power (by decide)
  obtain ⟨hwarp, hwclk, hwmram, hwcal⟩ := warpStepBegun_leaves (blocksLoaded w)
  obtain ⟨hpower, hkept, hread⟩ := resolutionApplied_leaves (warpStepBegun (blocksLoaded w))
  rw [hpower, hkept, hread, hwclk, hwmram, hwcal, hbcal, hbmram, hbpower, hcal, hmram, hclk]
  exact ⟨hwarp, hvrtc, fun hwaits => restoreSave_consumed (by rwa [saveWaits, hsave]), hrelease⟩

/-! ### Step 6 (R407–R409) -/

theorem exec_warpStepEnd_ends (hphase : s.power.phase = .warp)
    (hend : s.warp.ws = .locked ∨ after s.power.releaseClk (msecs (if s.power.fallback then 262 else 230)) ≤ s.clk) :
    exec .warpStepEnd s = .next (modPower s fun p => { p with stepDone := true }) := by
  refine congrArg Host.Outcome.next (if_pos ⟨hphase, hend.imp id fun h => ?_⟩)
  exact decide_eq_true h

/-- Output release is withheld. -/
def isHeld (s : State) : Bool := decide (holdReasonOf s ≠ 0) || s.power.stepFailed

/-- The phase after step 6, and the controllers in OP_MODE. -/
def stepSixOver (s : State) : State :=
  forAll (upTo 2) (fun s x => canEnter (modCan s x fun c => { c with lowPower := false }) x)
    (modPower s fun p => { p with phase := if isHeld s then .held else .operational, holdReason := holdReasonOf s })

/-- The host port and the manager watch begin. -/
def watchBegun (s : State) : State :=
  { s with host := { s.host with hbAt := some (after s.clk (msecs 1000)), managerAt := s.clk } }

/-- ALIVE frames are due from here on. -/
def aliveBegun (s : State) : State := modPair s fun p => { p with nextAlive := s.clk }

theorem aliveBegun_leaves (s : State) : (aliveBegun s).power = s.power ∧ (aliveBegun s).host = s.host ∧
    (aliveBegun s).mram = s.mram ∧ (aliveBegun s).pair.en = s.pair.en := ⟨rfl, rfl, rfl, rfl⟩

/-- The module is operational, or held; a paired one has not begun to decide its role. -/
def cameUp (s : State) : State := aliveBegun (trialUp (logStart (heartbeatSend (watchBegun (stepSixOver s)))))

theorem exec_operational_due (hphase : s.power.phase = .warp) (hdone : s.power.stepDone = true) : exec .operational s =
    .next (if (cameUp s).pair.en && !isHeld s then decideStart (cameUp s) else cameUp s) := by
  rw [exec_operational, execOperational, if_pos ⟨hphase, hdone⟩, cameUp, aliveBegun, watchBegun, stepSixOver, isHeld]

theorem trialUp_trialTried (s : State) : (trialUp s).mram.trialTried = false := by
  have hconfirm : ∀ t v, (fwConfirmOp t v).mram.trialTried = t.mram.trialTried := fun _ _ =>
    ite_leaves (g := fun t => t.mram.trialTried) rfl rfl
  simp only [trialUp, apply_ite State.mram, apply_ite Mram.trialTried, hconfirm, ite_self]

/-- The phase and HOLD_REASON are taken. -/
def phaseTaken (s : State) : State :=
  modPower s fun p => { p with phase := if isHeld s then .held else .operational, holdReason := holdReasonOf s }

theorem stepSixOver_within (s : State) : Within [.can, .snap] (phaseTaken s) (stepSixOver s) :=
  forAll_within _ _ _ (fun _ _ h => canEnter_within _ _ (modCan_within _ _ _ h (by decide)) (by decide) (by decide)) (.refl _ _)

theorem watchBegun_leaves (s : State) : (watchBegun s).power = s.power ∧ (watchBegun s).pair = s.pair ∧
    (watchBegun s).host.hbAt = some (after s.clk (msecs 1000)) ∧ (watchBegun s).host.managerAt = s.clk :=
  ⟨rfl, rfl, rfl, rfl⟩

/-- The heartbeat, the START record and the trial leave the rest as it is. -/
theorem started_within (s : State) : Within [.can, .snap, .images, .mram] s (trialUp (logStart (heartbeatSend s))) :=
  trialUp_within _ (logStart_within _ (heartbeatSend_within _ (.refl _ s) (by decide)) (by decide)) (by decide) (by decide)

/-- The phase and HOLD_REASON, the watches of the host port, and a trial that no longer counts as tried. -/
theorem cameUp_leaves (s : State) : (cameUp s).power = (phaseTaken s).power ∧
    (cameUp s).host.hbAt = some (after s.clk (msecs 1000)) ∧ (cameUp s).host.managerAt = s.clk ∧
    (cameUp s).mram.trialTried = false ∧ (cameUp s).pair.en = s.pair.en := by
  have hover := stepSixOver_within s
  have hclk : (stepSixOver s).clk = s.clk := hover .clk (by decide)
  have hpower : (stepSixOver s).power = (phaseTaken s).power := hover .power (by decide)
  have hpair : (stepSixOver s).pair = s.pair := hover .pair (by decide)
  unfold cameUp
  generalize stepSixOver s = u at hclk hpower hpair
  obtain ⟨hwpower, hwpair, hbeat, hmanager⟩ := watchBegun_leaves u
  generalize watchBegun u = w at hwpower hwpair hbeat hmanager
  have hkept := started_within w
  have htried := trialUp_trialTried (logStart (heartbeatSend w))
  generalize trialUp (logStart (heartbeatSend w)) = x at hkept htried
  obtain ⟨hapower, hahost, hamram, haen⟩ := aliveBegun_leaves x
  rw [hapower, hahost, hamram, haen, show x.power = w.power from hkept .power (by decide), hwpower, hpower,
    show x.host = w.host from hkept .host (by decide), hbeat, hmanager, hclk,
    show x.pair = w.pair from hkept .pair (by decide), hwpair, hpair]
  exact ⟨rfl, rfl, rfl, htried, rfl⟩

/-! ### Step 7 (R409) -/

theorem fwd_linkView (s : State) : (linkView s).fwd = s.io.fwd := rfl

theorem lastRefresh_linkView (s : State) : (linkView s).lastRefresh = s.io.lastRefresh := rfl

theorem linkView_ioTakeMode (s : State) (i : Nat) : linkView (ioTakeMode s i) = linkView s := by
  unfold ioTakeMode
  rw [linkView_ioApply, ioReads_eq, linkView_modIo]

theorem safePinsStart_st (s : State) : (safePinsStart s).safety.st = s.safety.st := ite_leaves (g := fun t => t.safety.st) rfl rfl

/-- Release is recorded with the time that start-up took. -/
def releaseBegun (s : State) : State :=
  modPower s fun p => { p with phase := .released, startTime := (s.clk - p.releaseClk) / clkPerMs }

/-- The blocks have started; the outputs are not yet applied. -/
def blocksReleased (s : State) : State := releaseLoom (releaseLoops (releaseField (releaseBegun s)))

/-- The supervisor checks, and every output is applied. -/
def outputsReleased (s : State) : State := forAll (upTo 4) bankRefresh (applyAll (releaseSafety s))

theorem release_alone (h : s.pair.en = false) : release s =
    if isStandby (outputsReleased (blocksReleased s)) then dispTristate (outputsReleased (blocksReleased s))
    else dispStart (outputsReleased (blocksReleased s)) := by
  unfold release
  simp only [show (modPower s fun p => { p with phase := .released, startTime := (s.clk - p.releaseClk) / clkPerMs }).pair.en =
    false from h, Bool.false_and, Bool.false_eq_true, if_false]
  rfl

theorem blocksReleased_leaves (s : State) :
    (blocksReleased s).power = { s.power with phase := .released, startTime := (s.clk - s.power.releaseClk) / clkPerMs } ∧
    (blocksReleased s).safety = s.safety ∧ linkView (blocksReleased s) = { linkView s with fwd := 1, lastRefresh := s.clk } ∧
    (blocksReleased s).loom.nextRound = s.clk := by
  have hfield : Within [.io, .mem, .engine] (releaseBegun s) (releaseLoops (releaseField (releaseBegun s))) :=
    releaseLoops_within _ (releaseField_within _ (.refl _ _) (by decide) (by decide)) (by decide)
  have hlink : linkView (releaseLoops (releaseField (releaseBegun s))) = { linkView s with fwd := 1, lastRefresh := s.clk } := by
    rw [linkView_of_io (releaseLoops_within (bs := [.engine]) _ (.refl _ _) (by decide) .io (by decide))]
    exact (forAll_leaves linkView linkView_ioTakeMode _ _).trans rfl
  have hpower := hfield .power (by decide)
  have hsafety := hfield .safety (by decide)
  have hclk := hfield .clk (by decide)
  unfold blocksReleased
  generalize releaseLoops _ = u at hpower hsafety hclk hlink ⊢
  have hloom := releaseLoom_within (bs := [.loom, .dict]) u (.refl _ u) (by decide) (by decide)
  refine ⟨(hloom .power (by decide)).trans hpower, (hloom .safety (by decide)).trans hsafety,
    (linkView_of_io (hloom .io (by decide))).trans hlink, ?_⟩
  exact (show (releaseLoom u).loom.nextRound = (releaseLoom u).clk from rfl).trans ((hloom .clk (by decide)).trans hclk)

theorem outputsReleased_leaves (s : State) : (outputsReleased s).power = s.power ∧ (outputsReleased s).loom = s.loom ∧
    (outputsReleased s).safety.st = (if s.safety.st = 0 then 1 else s.safety.st) ∧
    linkView (outputsReleased s) = linkView s := by
  have hsafe := releaseSafety_within (bs := [.safety]) s (.refl _ s) (by decide)
  have happlied : Within [.free, .meas, .valve, .io, .fans, .dict, .mem] (releaseSafety s) (outputsReleased s) :=
    forAll_within _ _ _ (fun _ _ h => bankRefresh_within _ _ h (by decide)) (applyAll_within _ (.refl _ _) (by decide)
      (by decide) (by decide) (by decide) (by decide) (by decide) (by decide))
  refine ⟨(happlied .power (by decide)).trans (hsafe .power (by decide)), (happlied .loom (by decide)).trans
    (hsafe .loom (by decide)), ?_, ?_⟩
  · exact (congrArg Safety.st (happlied .safety (by decide))).trans (safePinsStart_st _)
  · have hbank : ∀ t b, linkView (bankRefresh t b) = linkView t := fun t b =>
      linkView_of_io (bankRefresh_within (bs := [.valve]) t b (.refl _ t) (by decide) .io (by decide))
    rw [outputsReleased, forAll_leaves linkView hbank, linkView_applyAll, linkView_of_io (hsafe .io (by decide))]

theorem exec_outputRelease_alone (hphase : s.power.phase = .operational) (hen : s.pair.en = false) :
    exec .outputRelease s = .next (release s) := by
  refine congrArg Host.Outcome.next ((if_neg (not_not.mpr hphase)).trans (if_neg fun h => ?_))
  exact Bool.false_ne_true (hen.symm.trans h.1)

theorem isHeld_eq_true (h : holdReasonOf s ≠ 0 ∨ s.power.stepFailed = true) : isHeld s = true := by
  rw [isHeld, Bool.or_eq_true, decide_eq_true_eq]
  exact h

theorem isHeld_eq_false (hreason : holdReasonOf s = 0) (hfailed : s.power.stepFailed = false) : isHeld s = false := by
  rw [isHeld, hreason, hfailed]
  rfl

/-- The check takes the slot that verifies; the other one with the later bounds, or recovery. -/
theorem signatureChecked_cases (u : State) :
    (slotVerifies u u.mram.bootSlot = true → (signatureChecked u).power.phase = .repairMap ∧
      (signatureChecked u).mram = u.mram) ∧
    (slotVerifies u u.mram.bootSlot = false → slotVerifies u (otherSlot u) = true →
      (signatureChecked u).power.phase = .repairMap ∧ (signatureChecked u).power.fallback = true ∧
        (signatureChecked u).mram.bootSlot = otherSlot u) ∧
    (slotVerifies u u.mram.bootSlot = false → slotVerifies u (otherSlot u) = false →
      (signatureChecked u).power.phase = .recovery ∧ (signatureChecked u).mram = u.mram) := by
  unfold signatureChecked
  refine ⟨fun hboot => ?_, fun hboot hother => ?_, fun hboot hother => ?_⟩
  · rw [if_pos hboot]
    exact ⟨rfl, rfl⟩
  · rw [hboot, if_neg Bool.false_ne_true, if_pos hother]
    exact ⟨rfl, rfl, rfl⟩
  · rw [hboot, hother, if_neg Bool.false_ne_true, if_neg Bool.false_ne_true]
    exact ⟨rfl, rfl⟩

/-- A released module: its display follows its role, and writes none of what release has set. -/
theorem release_leaves (h : s.pair.en = false) : (release s).power =
      { s.power with phase := .released, startTime := (s.clk - s.power.releaseClk) / clkPerMs } ∧
    (release s).safety.st = (if s.safety.st = 0 then 1 else s.safety.st) ∧
    linkView (release s) = { linkView s with fwd := 1, lastRefresh := s.clk } ∧ (release s).loom.nextRound = s.clk := by
  obtain ⟨hpower, hsafety, hlink, hround⟩ := blocksReleased_leaves s
  obtain ⟨hout, hloom, hst, hview⟩ := outputsReleased_leaves (blocksReleased s)
  have hshown : Within [.disp, .dict, .pair, .mem, .mram] (outputsReleased (blocksReleased s)) (release s) := by
    rw [release_alone h]
    exact ite_within (dispTristate_within _ (.refl _ _) (by decide) (by decide) (by decide))
      (dispStart_within _ (.refl _ _) (by decide) (by decide) (by decide) (by decide) (by decide))
  refine ⟨(show _ = (outputsReleased _).power from hshown .power (by decide)).trans (hout.trans hpower), ?_,
    (linkView_of_io (hshown .io (by decide))).trans (hview.trans hlink), ?_⟩
  · rw [show (release s).safety = (outputsReleased (blocksReleased s)).safety from hshown .safety (by decide), hst, hsafety]
  · rw [show (release s).loom = (outputsReleased (blocksReleased s)).loom from hshown .loom (by decide), hloom, hround]

end

/-- Settles O58. -/
theorem startUpStepByStep : Obligations.StartUpStepByStep := by
  unfold Obligations.StartUpStepByStep
  refine ⟨fun s hphase => ⟨_, exec_bootRomDone_boot hphase, romDone_trial⟩,
    fun s bad badOther hphase => ⟨_, exec_signatureCheckDone_checks hphase bad badOther, ?checked⟩,
    fun s c hphase hpick => ⟨_, exec_repairMapResolve_map hphase, rfl, ?copy⟩,
    fun s hphase htop => ⟨_, exec_repairMapResolve_map hphase, rfl, ?noCopy⟩,
    fun s hphase hmap hholdup hfailed => ⟨_, exec_memorySelfTest_clean hphase hmap hholdup, rfl, rfl, rfl, rfl, ?clean, rfl⟩,
    fun s a b hphase => ?tested,
    fun s v n o hphase => ⟨_, exec_configResolution_config hphase v n o, resolutionOver_leaves s v _⟩,
    fun s v n o hphase => congrArg Host.Outcome.next (if_neg hphase),
    fun s hphase hend => ⟨_, exec_warpStepEnd_ends hphase hend, rfl⟩,
    fun s hphase hdone hreason hfailed hen => ⟨_, exec_operational_due hphase hdone, ?operational⟩,
    fun s hphase hdone hheld => ⟨_, exec_operational_due hphase hdone, ?held⟩,
    fun s hphase hen => ⟨_, exec_outputRelease_alone hphase hen, ?released⟩,
    fun s hphase hen hrole hdeciding => ?deciding, fun s hphase => congrArg Host.Outcome.next (if_pos hphase)⟩
  case checked =>
    have hslot : (slotUnread (slotUnread s (otherSlot s) badOther) s.mram.bootSlot bad).mram.bootSlot = s.mram.bootSlot :=
      (bootSlot_slotUnread ..).trans (bootSlot_slotUnread ..)
    generalize slotUnread (slotUnread s (otherSlot s) badOther) s.mram.bootSlot bad = u at hslot
    have hcases := signatureChecked_cases u
    rwa [show otherSlot u = otherSlot s by rw [otherSlot, hslot, otherSlot], hslot] at hcases
  case copy =>
    obtain ⟨hmem, hmram⟩ := lanesFromMap_leaves (resolveMaps s)
    have hcopy := resolveMaps_of_copy hpick
    rwa [← hmem, ← hmram] at hcopy
  case noCopy =>
    obtain ⟨hmem, hmram⟩ := lanesFromMap_leaves (resolveMaps s)
    have hnone := resolveMaps_of_none htop
    rwa [← hmem, ← hmram] at hnone
  case clean =>
    unfold selfTested modPower
    dsimp only
    rw [hfailed, Bool.not_and_self, Bool.false_and, Bool.false_or]
  case tested =>
    obtain ⟨u, hexec⟩ := exec_memorySelfTest_tests hphase a b
    exact ⟨_, hexec, rfl, rfl⟩
  case operational =>
    obtain ⟨hpower, hbeat, hmanager, htried, hpair⟩ := cameUp_leaves s
    rw [hpair, hen, Bool.false_and, if_neg Bool.false_ne_true, hpower]
    exact ⟨if_neg (by rw [isHeld_eq_false hreason hfailed]; exact Bool.false_ne_true), hreason, hbeat, hmanager, htried⟩
  case held =>
    obtain ⟨hpower, -⟩ := cameUp_leaves s
    rw [isHeld_eq_true hheld, Bool.not_true, Bool.and_false, if_neg Bool.false_ne_true, hpower]
    exact ⟨if_pos (isHeld_eq_true hheld), rfl⟩
  case released =>
    obtain ⟨hpower, hst, hlink, hround⟩ := release_leaves hen
    rw [hpower]
    refine ⟨rfl, rfl, hst, ?_, ?_, hround⟩
    · rw [← fwd_linkView, hlink]
    · rw [← lastRefresh_linkView, hlink]
  case deciding =>
    rw [exec_outputRelease, execOutputRelease, if_neg (not_not.mpr hphase), if_pos ⟨hen, hrole⟩, if_neg]
    rw [Option.isNone_iff_eq_none]
    exact hdeciding

end Sys2Proof.Machine
end
